-- ==== Sys2Proof/Word.lean ====
section
/-! DEFINITION. The two widths of the RH7640's host side: bytes on the wire (R369) and 16-bit parameter words (R20). -/

namespace Sys2Proof

/-- One byte of a packet, a record, an image or a page (R369, R302, R386). -/
abbrev Byte := BitVec 8

/-- One parameter word (R7, R20). -/
abbrev Word := BitVec 16

end Sys2Proof
end

