-- ==== Sys2Proof/Syntax.lean ====
section
/-! DEFINITION. The commands of the RH7640 model: one constructor per row of spec/opcode_table.json, in its order. Indexes
count from 0 (input 1 is index 0); a measured value is an operand in the unit that the command's meaning names. -/

namespace Sys2Proof

/-- The two packet ports: the two-wire port and the bulk port (R346). -/
inductive PortId where
  | tw | qb
  deriving DecidableEq, Repr

/-- One value for each of the four inputs, or for ports A and B in the first two places. -/
structure Quad where
  a : Nat
  b : Nat
  c : Nat
  d : Nat
  deriving DecidableEq, Repr

/-- The value at index `i`. -/
def Quad.at (q : Quad) (i : Nat) : Nat :=
  match i with
  | 0 => q.a
  | 1 => q.b
  | 2 => q.c
  | _ => q.d

/-- What one step of the stiffness probe measures (R84, R85): the input current 1 ms after the step began, and the means of INSn
and of the current over its last 1 ms; 25 mA and 10 mV. -/
structure ProbeStep where
  mid : Int
  v : Nat
  a : Int
  deriving DecidableEq, Repr

/-- A firing demand of Rail A (R226): the time since the previous firing in ns, the phases in their on-time, and those in their
minimum off-time. -/
structure Firing where
  gap : Nat
  onTime : List Nat
  offTime : List Nat
  deriving DecidableEq, Repr

/-- Whether INSn of an input has gone below −1.0 V, or is above it again (R94). -/
structure PolarityEdge where
  input : Fin 4
  below : Bool
  deriving DecidableEq, Repr

/-- A bootstrap refresh (R135): whether it is forced, the inductor current, 25 mA, and the cycles since the last forced one. -/
structure RefreshPulse where
  forced : Bool
  cur : Int
  since : Nat
  deriving DecidableEq, Repr

/-- The sensed current of a phase reaches its limit, ns after the turn-on (R136). -/
structure TurnOff where
  phase : Fin 6
  ns : Nat
  deriving DecidableEq, Repr

/-- A negative inductor current of a phase, 25 mA (R140, R146). -/
structure NegativeCurrent where
  phase : Fin 6
  cur : Int
  deriving DecidableEq, Repr

/-- What sets a rail's on-time beside its reference (R224): V_PV in mV and the trim of the frequency loop in percent. -/
structure RailOnTime where
  vpv : Nat
  trim : Int
  deriving DecidableEq, Repr

/-- A rail's reference has reached its target; whether the output has held within its window for 1 µs as well (R239). -/
structure RailArrival where
  rail : Fin 2
  held : Bool
  deriving DecidableEq, Repr

/-- What a rail's phases did in 1 ms (R226, R235): for each phase the operands of its input power, and the firing demands. -/
structure RailCycles where
  phases : List (Nat × Nat × Nat)
  firings : List Firing
  deriving DecidableEq, Repr

/-- What a start finds (R327, R330, R446): the partitions that fail the start run, and the ring blocks whose erase fails in the
boot scan. -/
structure StartRun where
  fail : Fin 256
  worn : List Nat
  deriving DecidableEq, Repr

/-- What a Ship exit finds (R62, R354): its start run and boot scan, and how many transactions addressed the two-wire port between
step 2 and the end of step 5. -/
structure ExitRun where
  run : StartRun
  nacks : Nat
  deriving DecidableEq, Repr

/-- The 1 ms means of positions 0 and 1 (R247): SYSS in 10 mV, BATS in mV. -/
structure BusMeans where
  sys : Nat
  bats : Nat
  deriving DecidableEq, Repr

/-- What a loss of supply does (R329, R343, R486): whether it cuts the program running and a rewriting of the retained record, and
whether VAO goes on below 1.5 V. -/
structure SupplyLoss where
  torn : Bool
  rewrite : Bool
  passive : Bool
  deriving DecidableEq, Repr

/-- The commands, one per row of the opcode table. -/
inductive Instr where
  /-- POWER_ON_RESET, R38. -/
  | powerOnReset (run : StartRun) (k sys bats : Nat)
  /-- DEVICE_RESTART_RESET, R25. -/
  | deviceRestartReset (fail : Fin 256) (sys bats : Nat)
  /-- HRSTN_EXTERNAL_LOW, R366. -/
  | hrstnExternalLow
  /-- MODE_EVALUATE, R49. -/
  | modeEvaluate (sys bats : Nat)
  /-- UNCOUPLE, R52. -/
  | uncouple
  /-- GRACE_EXPIRE, R55. -/
  | graceExpire
  /-- HARVEST_DORMANT, R51. -/
  | harvestDormant (i : Fin 4)
  /-- HARVEST_RETRY_END, R51. -/
  | harvestRetryEnd (i : Fin 4) (reached : Bool)
  /-- SERVICE_TIMEOUT, R68. -/
  | serviceTimeout
  /-- SHIP_DELAY_EXPIRE, R60. -/
  | shipDelayExpire
  /-- SHIP_ENTRY_COMPLETE, R60. -/
  | shipEntryComplete
  /-- SHIP_EXIT, R62. -/
  | shipExit (byInput : Bool) (exit : ExitRun) (k sys bats : Nat)
  /-- WAKE_COUNT_DUE, R400. -/
  | wakeCountDue
  /-- WAKEN_LOW, R64. -/
  | wakenLow
  /-- FAST_CLOCK_START, R40. -/
  | fastClockStart
  /-- FAST_CLOCK_STOP, R40. -/
  | fastClockStop
  /-- TIME_RATE_CORRECTION, R41. -/
  | timeRateCorrection (cycles : Nat)
  /-- HOUR_BOUNDARY, R260. -/
  | hourBoundary
  /-- AWAKE_HOLD_END, R355. -/
  | awakeHoldEnd
  /-- INPUT_COMPARATOR_TRIP, R64. -/
  | inputComparatorTrip (i : Fin 4)
  /-- INPUT_PRESENT, R77. -/
  | inputPresent (i : Fin 4) (vbus : Nat)
  /-- INPUT_PRESENCE_LOST, R78. -/
  | inputPresenceLost (i : Fin 4)
  /-- ID_DECODE, R82. -/
  | idDecode (i : Fin 4) (k : Nat)
  /-- INPUT_CONNECT, R80. -/
  | inputConnect (i : Fin 4) (vbus : Nat)
  /-- VBUS_REACHED, R80. -/
  | vbusReached (i : Fin 4) (v : Nat)
  /-- PROBE_START, R84. -/
  | probeStart (i : Fin 4)
  /-- PROBE_COMPLETE, R85. -/
  | probeComplete (i : Fin 4) (v0 : Nat) (i0 : Int) (steps : List ProbeStep) (lows : List Nat)
  /-- SIGNATURE_WATCH_COMPLETE, R88. -/
  | signatureWatchComplete (i : Fin 4) (early mid late : List Nat)
  /-- ID_REDECODE, R83. -/
  | idRedecode (i : Fin 4) (k : Nat)
  /-- CLASS_HOLD_EXPIRE, R92. -/
  | classHoldExpire (i : Fin 4)
  /-- INPUT_OVERVOLTAGE, R94. -/
  | inputOvervoltage (i : Fin 4)
  /-- INPUT_OV_CLEAR, R94. -/
  | inputOvClear (i : Fin 4) (vbus : Nat)
  /-- REVERSE_POLARITY, R94. -/
  | reversePolarity (e : PolarityEdge)
  /-- FET_OPEN, R94. -/
  | fetOpen (i : Fin 4)
  /-- TS_RELEASE, R98. -/
  | tsRelease (i : Fin 4)
  /-- TS_RESUME, R98. -/
  | tsResume (i : Fin 4) (vref : Nat)
  /-- TS_VREF_RETAKE, R97. -/
  | tsVrefRetake (i : Fin 4) (vref : Nat)
  /-- RECLASSIFY, R100. -/
  | reclassify (i : Fin 4)
  /-- INPUT_ENABLE_WRITE, R101. -/
  | inputEnableWrite (i : Fin 4) (b : Bool)
  /-- ALLOCATOR_UPDATE, R114. -/
  | allocatorUpdate (pin ins : Quad) (vbat ibat : Int) (sys : Nat)
  /-- PO_PERIOD_END, R108. -/
  | poPeriodEnd (i : Fin 4) (p : Nat) (counted : Bool)
  /-- SWEEP_START, R111. -/
  | sweepStart (i : Fin 4)
  /-- SWEEP_COMPLETE, R111. -/
  | sweepComplete (i : Fin 4) (voc : Nat) (powers : List Nat)
  /-- SWEEP_ABORT, R112. -/
  | sweepAbort (i : Fin 4)
  /-- SWEEP_NOW, R111. -/
  | sweepNow (i : Fin 4)
  /-- TRK_WEAK, R122. -/
  | trkWeak (i : Fin 4)
  /-- GROUP_ON_DELAY_END, R149. -/
  | groupOnDelayEnd (g : Fin 4)
  /-- GROUP_SWITCH_START, R149. -/
  | groupSwitchStart (g : Fin 4)
  /-- GROUP_OFF_DELAY_END, R151. -/
  | groupOffDelayEnd (g : Fin 4)
  /-- LOOP_EVALUATION, R137. -/
  | loopEvaluation (g : Fin 4) (vin iin ibat vbat vsys reduced amps sys vbus bats : Nat)
  /-- TUNING_COMPLETE, R141. -/
  | tuningComplete (g : Fin 4) (kp ki : Nat)
  /-- TUNE_FAIL, R142. -/
  | tuneFail (g : Fin 4)
  /-- RETUNE, R142. -/
  | retune (g : Fin 4)
  /-- EQUALISATION_UPDATE, R143. -/
  | equalisationUpdate (g : Fin 4) (cur : List Int)
  /-- DEAD_TIME_UPDATE, R145. -/
  | deadTimeUpdate (p : Fin 6) (edge : Fin 4) (diode gate : Bool) (fall : Nat)
  /-- ZERO_CROSS_UPDATE, R146. -/
  | zeroCrossUpdate (p : Fin 6) (diode ring : Bool)
  /-- SHED_EVALUATION, R147. -/
  | shedEvaluation (g : Fin 4) (cur : List Int) (de full : Bool)
  /-- BURST, R148. -/
  | burst (g ev : Fin 4)
  /-- BOOTSTRAP_REFRESH, R135. -/
  | bootstrapRefresh (p : Fin 6) (r : RefreshPulse)
  /-- PEAK_LIMIT, R152. -/
  | peakLimit (e : TurnOff)
  /-- NEGATIVE_LIMIT, R152. -/
  | negativeLimit (e : NegativeCurrent)
  /-- PHASE_SHORT, R152. -/
  | phaseShort (p : Fin 6)
  /-- PHASE_OPEN, R152. -/
  | phaseOpen (p : Fin 6)
  /-- BOOTSTRAP_FAULT, R152. -/
  | bootstrapFault (p : Fin 6)
  /-- SYS_OVERVOLTAGE, R152. -/
  | sysOvervoltage
  /-- SYS_OV_CLEAR, R152. -/
  | sysOvClear
  /-- INPUT_UNDERVOLTAGE, R152. -/
  | inputUndervoltage (g : Fin 4)
  /-- DRIVE_SUPPLY_UV, R152. -/
  | driveSupplyUv
  /-- PH_RETRY, R152. -/
  | phRetry (p : Fin 6)
  /-- CNV_CFG_APPLY, R129. -/
  | cnvCfgApply
  /-- QUALIFY_COMPLETE, R165. -/
  | qualifyComplete (vq : Nat)
  /-- PRECHARGE_COMPLETE, R166. -/
  | prechargeComplete (v : Nat)
  /-- ON_PULSE_END, R167. -/
  | onPulseEnd (ion : Int) (von : Nat)
  /-- REST_SAMPLE, R167. -/
  | restSample (k : Fin 3) (v : Nat) (i1 : Int)
  /-- REST_END, R167. -/
  | restEnd (inBand : Bool) (raw amps : Int) (sat : Bool)
  /-- MAINTAIN_CHECK, R177. -/
  | maintainCheck (v : Nat) (amps raw : Int) (sat : Bool)
  /-- P3_WINDOW_END, R453. -/
  | p3WindowEnd
  /-- ABSORB_END, R178. -/
  | absorbEnd
  /-- FLOAT_RECHARGE, R178. -/
  | floatRecharge
  /-- EQUALISE_END, R180. -/
  | equaliseEnd (why : Fin 3)
  /-- SAFETY_TIMER_TICK, R184. -/
  | safetyTimerTick (amps : Int)
  /-- SAFETY_TIMEOUT, R185. -/
  | safetyTimeout
  /-- BMSOK_REFUSE, R183. -/
  | bmsokRefuse
  /-- BMSOK_PERMIT, R183. -/
  | bmsokPermit
  /-- CHG_PROFILE_WRITE, R188. -/
  | chgProfileWrite (word : Nat)
  /-- SUSPEND, R189. -/
  | suspend (port : PortId) (tag : Byte) (arg : Fin 65536)
  /-- RESUME, R189. -/
  | resume (port : PortId) (tag : Byte) (arg : Fin 65536)
  /-- RESTART, R189. -/
  | restart (port : PortId) (tag : Byte) (arg : Fin 65536)
  /-- EQUALISE, R189. -/
  | equalise (port : PortId) (tag : Byte) (key : Fin 65536)
  /-- END_EQUALISE, R189. -/
  | endEqualise (port : PortId) (tag : Byte) (arg : Fin 65536)
  /-- SERVICE_GROUPS, R189. -/
  | serviceGroups (port : PortId) (tag : Byte) (arg : Fin 65536)
  /-- ROLE_EVALUATE, R196. -/
  | roleEvaluate (sys bats : Nat) (ibat : Int) (high : Bool)
  /-- CONNECT_TIMEOUT, R200. -/
  | connectTimeout
  /-- SUPPLEMENT, R199. -/
  | supplement (sysMv batsMv : Nat)
  /-- COLD_START_ABANDON, R202. -/
  | coldStartAbandon
  /-- COLD_START_RETRY, R202. -/
  | coldStartRetry
  /-- VSU_DISABLE, R201. -/
  | vsuDisable
  /-- DISCHARGE_OVERCURRENT, R203. -/
  | dischargeOvercurrent
  /-- SHORT_CIRCUIT, R203. -/
  | shortCircuit
  /-- RETRY_WAIT_END, R203. -/
  | retryWaitEnd
  /-- TRIP_COUNT_RESET, R203. -/
  | tripCountReset
  /-- RETRY_NOW, R203. -/
  | retryNow
  /-- UV_INHIBIT, R204. -/
  | uvInhibit (batsMv : Nat)
  /-- UV_INHIBIT_END, R204. -/
  | uvInhibitEnd (batsMv : Nat)
  /-- UV_CUTOFF, R205. -/
  | uvCutoff (batsMv : Nat)
  /-- CUTOFF_COMPLETE, R205. -/
  | cutoffComplete
  /-- PRESENCE_PROBE, R207. -/
  | presenceProbe (v0 v1 : Nat)
  /-- PROBE_NOW, R207. -/
  | probeNow
  /-- EMPTY_CONNECTOR, R207. -/
  | emptyConnector
  /-- BATTERY_SHORT, R208. -/
  | batteryShort (batsMv : Nat)
  /-- BATTERY_REMOVAL, R209. -/
  | batteryRemoval
  /-- UNSUPPORTED_SYS_FALL, R209. -/
  | unsupportedSysFall
  /-- VAUX_IN_REGULATION, R217. -/
  | vauxInRegulation (v a : Nat)
  /-- VAUX_OUT_OF_REGULATION, R217. -/
  | vauxOutOfRegulation
  /-- VAUX_STOP, R218. -/
  | vauxStop
  /-- VAUX_FAIL, R233. -/
  | vauxFail
  /-- VAUX_OVERLOAD, R233. -/
  | vauxOverload
  /-- VPRE_IN_REGULATION, R221. -/
  | vpreInRegulation (v : Nat)
  /-- VPRE_STOP, R229. -/
  | vpreStop
  /-- VPRE_RETRY, R232. -/
  | vpreRetry
  /-- RAIL_ON_DELAY_END, R228. -/
  | railOnDelayEnd (x : Fin 2)
  /-- RAIL_RAMP_END, R228. -/
  | railRampEnd (x : Fin 2)
  /-- RAIL_TUNE_COMPLETE, R225. -/
  | railTuneComplete (x : Fin 2) (dv : Nat) (on : RailOnTime) (jitter again : Bool)
  /-- RAIL_OFF_DELAY_END, R229. -/
  | railOffDelayEnd (x : Fin 2)
  /-- RAIL_RAMP_DOWN_END, R229. -/
  | railRampDownEnd (x : Fin 2)
  /-- RAIL_START_FAIL, R230. -/
  | railStartFail (x : Fin 2)
  /-- RAIL_HICCUP_END, R230. -/
  | railHiccupEnd (x : Fin 2)
  /-- RAIL_FAILS_RESET, R230. -/
  | railFailsReset (x : Fin 2)
  /-- RAIL_OVERVOLTAGE, R234. -/
  | railOvervoltage (x : Fin 2)
  /-- RAIL_SETTLE, R239. -/
  | railSettle (e : RailArrival)
  /-- RAIL_POWER_ESTIMATE, R235. -/
  | railPowerEstimate (x : Fin 2) (v a vpv : Nat) (cycles : RailCycles) (de burst : Bool)
    (preV preI hold : Nat)
  /-- RCL_SET_VID, R238. -/
  | rclSetVid (rail : Fin 4) (data : Fin 256) (parity : Bool)
  /-- RCL_SET_SLEW, R238. -/
  | rclSetSlew (rail : Fin 4) (data : Fin 256) (parity : Bool)
  /-- RCL_SET_STATE, R238. -/
  | rclSetState (rail : Fin 4) (data : Fin 256) (parity : Bool)
  /-- RCL_GET_VID_TARGET, R238. -/
  | rclGetVidTarget (rail : Fin 4) (data : Fin 256) (parity : Bool)
  /-- RCL_GET_VID_ACTUAL, R238. -/
  | rclGetVidActual (rail : Fin 4) (data : Fin 256) (parity : Bool)
  /-- RCL_GET_STATUS, R238. -/
  | rclGetStatus (rail : Fin 4) (data : Fin 256) (parity : Bool)
  /-- RCL_GET_POWER, R238. -/
  | rclGetPower (rail : Fin 4) (data : Fin 256) (parity : Bool)
  /-- RCL_CLEAR_ALERT, R238. -/
  | rclClearAlert (rail : Fin 4) (data : Fin 256) (parity : Bool)
  /-- RCL_SET_VID_FAST, R238. -/
  | rclSetVidFast (rail : Fin 4) (data : Fin 256) (parity : Bool)
  /-- RCL_FRAME_ABANDON, R236. -/
  | rclFrameAbandon
  /-- RAIL_CONTROL_SET_VID, R241. -/
  | railControlSetVid (port : PortId) (tag : Byte) (rail : Fin 256) (arg : Fin 65536)
  /-- RAIL_CONTROL_SET_SLEW, R241. -/
  | railControlSetSlew (port : PortId) (tag : Byte) (rail : Fin 256) (arg : Fin 65536)
  /-- RAIL_CONTROL_SET_STATE, R241. -/
  | railControlSetState (port : PortId) (tag : Byte) (rail : Fin 256) (arg : Fin 65536)
  /-- RAIL_CONTROL_CLEAR_ALERT, R241. -/
  | railControlClearAlert (port : PortId) (tag : Byte) (rail : Fin 256) (arg : Fin 65536)
  /-- RAIL_CONTROL_SET_VID_FAST, R241. -/
  | railControlSetVidFast (port : PortId) (tag : Byte) (rail : Fin 256) (arg : Fin 65536)
  /-- ADC_REFERENCE_FAIL, R248. -/
  | adcReferenceFail (bad : Bool)
  /-- CC_RESULT, R249. -/
  | ccResult (raw : Int)
  /-- LEDGER_UPDATE, R253. -/
  | ledgerUpdate (bus : BusMeans) (ibat : Int) (vin iin lineV lineI : Quad) (auxV auxI : Nat)
  /-- CLEAR_COUNTERS, R264. -/
  | clearCounters
  /-- SNAPSHOT_NOW, R260. -/
  | snapshotNow
  /-- E_REM_WRITE, R256. -/
  | eRemWrite (v : Nat)
  /-- EPOCH_WRITE, R44. -/
  | epochWrite (v : Nat)
  /-- PORT_RISE_COMPLETE, R267. -/
  | portRiseComplete (p : Fin 2)
  /-- PORT_BOOT_WAIT_END, R267. -/
  | portBootWaitEnd (p : Fin 2)
  /-- PORT_TO_KEEP_ALIVE, R267. -/
  | portToKeepAlive (p : Fin 2) (power : Nat)
  /-- LINE_CYCLE_START, R284. -/
  | lineCycleStart (p : Fin 2)
  /-- POLL_REPLY, R274. -/
  | pollReply (p : Fin 2) (status : Fin 256) (payload : List Byte) (sync amp : Nat)
  /-- REPLY_TIMEOUT, R274. -/
  | replyTimeout (p : Fin 2)
  /-- FRAME_RETRY, R274. -/
  | frameRetry (p : Fin 2)
  /-- ENUMERATION_RUN_START, R278. -/
  | enumerationRunStart (p : Fin 2)
  /-- IDWALK_COMPLETE, R277. -/
  | idwalkComplete (p : Fin 2) (seen : Bool) (id : Nat)
  /-- ASSIGN_REPLY, R278. -/
  | assignReply (p : Fin 2) (status fmt mask : Fin 256)
  /-- CONFIG_REPLY, R276. -/
  | configReply (p : Fin 2) (status : Fin 256) (amp : Nat)
  /-- DISCOVERY_DUE, R281. -/
  | discoveryDue (p : Fin 2)
  /-- PORT_SHORT, R288. -/
  | portShort (p : Fin 2)
  /-- PORT_RETRY_END, R288. -/
  | portRetryEnd (p : Fin 2)
  /-- KEEP_ALIVE_OVERLOAD, R288. -/
  | keepAliveOverload (p : Fin 2)
  /-- SLOT_ENABLE_WRITE, R287. -/
  | slotEnableWrite (n : Fin 64) (b : Bool)
  /-- PORT_ON, R290. -/
  | portOn (port : PortId) (tag : Byte) (mask : Fin 256) (others : Fin 16777216)
  /-- PORT_OFF, R290. -/
  | portOff (port : PortId) (tag : Byte) (mask : Fin 256) (others : Fin 16777216)
  /-- ENUMERATE, R290. -/
  | enumerate (port : PortId) (tag : Byte) (mask : Fin 256) (others : Fin 16777216)
  /-- RELEASE_SLOT, R290. -/
  | releaseSlot (port : PortId) (tag : Byte) (slot : Fin 256) (others : Fin 16777216)
  /-- CONFIG_NODE, R290. -/
  | configNode (port : PortId) (tag : Byte) (slot id : Fin 256) (value : Fin 65536)
  /-- NODE_INFO, R291. -/
  | nodeInfo (port : PortId) (tag : Byte) (slot : Fin 256)
  /-- RECORD_OFFER, R309; `time` is the sample time of a node record (R297, R302), unused for an internal source. -/
  | recordOffer (type source time : Nat) (unsynced derived : Bool) (payload : List Byte)
  /-- REFUSAL_SUMMARY_DUE, R313. -/
  | refusalSummaryDue (q : Fin 16)
  /-- SECTOR_PROGRAM_START, R308. -/
  | sectorProgramStart
  /-- SECTOR_PROGRAM_COMPLETE, R320. -/
  | sectorProgramComplete (fail : Bool)
  /-- GREEN_FILL_TIMEOUT, R308. -/
  | greenFillTimeout
  /-- ERASE_SLICE_START, R308. -/
  | eraseSliceStart
  /-- ERASE_COMPLETE, R326. -/
  | eraseComplete (fail : Bool)
  /-- QUEUE_CAP_APPLY, R314. -/
  | queueCapApply (q : Fin 16)
  /-- RESET_BASE, R315. -/
  | resetBase (i : Fin 512)
  /-- RESET_WINDOW, R315. -/
  | resetWindow (i : Fin 512)
  /-- CLEAR_ALARMS, R315. -/
  | clearAlarms (i : Fin 512)
  /-- RESET_TRACKER_ALL, R315. -/
  | resetTrackerAll (i : Fin 512)
  /-- STORE_PROGRAM_COMPLETE, R337. -/
  | storeProgramComplete (fail : Bool)
  /-- CFG_SWITCH, R391. -/
  | cfgSwitch
  /-- TRIAL_EXPIRE, R393. -/
  | trialExpire
  /-- TW_WRITE_REQUEST, R350. -/
  | twWriteRequest (bytes : List Byte)
  /-- TW_READ_REPLY, R351. -/
  | twReadReply (n : Nat) (stop : Bool)
  /-- TW_POINTER_RESET, R352. -/
  | twPointerReset
  /-- TW_ADDRESS_NACK, R354. -/
  | twAddressNack
  /-- SCL_TIMEOUT, R357. -/
  | sclTimeout (inRequest : Bool) (tag : Byte)
  /-- SDA_STUCK, R358. -/
  | sdaStuck (freed : Bool)
  /-- BUS_CLEAR_RETRY, R358. -/
  | busClearRetry (freed : Bool)
  /-- HOST_NOTIFY_ATTEMPT, R360. -/
  | hostNotifyAttempt (ok : Bool)
  /-- HRSTN_RELEASE, R365. -/
  | hrstnRelease
  /-- WRITE_PACKET, R362. -/
  | writePacket (bytes : List Byte) (odd vddio : Bool)
  /-- READ_REPLY, R362. -/
  | readReply (n : Nat) (vddio : Bool)
  /-- READ_STATUS, R362. -/
  | readStatus (vddio : Bool)
  /-- REWIND, R362. -/
  | rewind (vddio : Bool)
  /-- BULK_INVALID_INSTRUCTION, R362. -/
  | bulkInvalidInstruction (vddio : Bool)
  /-- PING, R375. -/
  | ping (port : PortId) (tag : Byte) (bytes : List Byte)
  /-- READ_PARAM, R376. -/
  | readParam (port : PortId) (tag : Byte) (addr : Fin 65536) (count : Fin 256)
  /-- WRITE_PARAM, R377. -/
  | writeParam (port : PortId) (tag : Byte) (addr : Fin 65536) (words : List (Fin 65536))
  /-- MODIFY_PARAM, R378. -/
  | modifyParam (port : PortId) (tag : Byte) (addr mask value : Fin 65536)
  /-- READ_FAULTS, R380. -/
  | readFaults (port : PortId) (tag : Byte)
  /-- ENTER_SHIP, R59. -/
  | enterShip (port : PortId) (tag : Byte) (key : Fin 65536) (waken : Bool)
  /-- ENTER_SERVICE, R67. -/
  | enterService (port : PortId) (tag : Byte) (key : Fin 65536)
  /-- LEAVE_SERVICE, R67. -/
  | leaveService (port : PortId) (tag : Byte) (key : Fin 65536)
  /-- END_GRACE, R67. -/
  | endGrace (port : PortId) (tag : Byte) (key : Fin 65536)
  /-- QUEUE_POP, R381. -/
  | queuePop (port : PortId) (tag : Byte) (q most : Fin 256)
  /-- QUEUE_PEEK, R381. -/
  | queuePeek (port : PortId) (tag : Byte) (q most : Fin 256)
  /-- QUEUE_STATUS, R382. -/
  | queueStatus (port : PortId) (tag : Byte)
  /-- JOURNAL_READ, R383. -/
  | journalRead (port : PortId) (tag : Byte) (first : Fin 4294967296) (max_ : Fin 65536) (corr most : Nat) (lost :
      List Nat) (uncorr : Nat)
  /-- JOURNAL_MARK, R384. -/
  | journalMark (port : PortId) (tag : Byte) (bytes : List Byte)
  /-- CFG_STAGE_WRITE, R389. -/
  | cfgStageWrite (port : PortId) (tag : Byte) (flags : Fin 256) (off : Fin 65536) (data : List Byte)
  /-- CFG_VERIFY, R389. -/
  | cfgVerify (port : PortId) (tag : Byte)
  /-- CFG_COMMIT, R390. -/
  | cfgCommit (port : PortId) (tag : Byte) (flags period : Fin 256) (key : Fin 65536) (version : Fin 4294967296)
  /-- CFG_CONFIRM, R394. -/
  | cfgConfirm (port : PortId) (tag : Byte)
  /-- CFG_REVERT, R394. -/
  | cfgRevert (port : PortId) (tag : Byte) (key : Fin 65536)
  /-- CFG_INFO, R395. -/
  | cfgInfo (port : PortId) (tag : Byte)
  /-- WDT_CHECKIN, R409. -/
  | wdtCheckin (port : PortId) (tag : Byte) (task : Fin 256)
  /-- SELFTEST_RUN, R457. -/
  | selftestRun (port : PortId) (tag : Byte) (mask : Fin 256)
  /-- SELFTEST_STOP, R457. -/
  | selftestStop (port : PortId) (tag : Byte) (mask : Fin 256)
  /-- OTP_PROGRAM, R396. -/
  | otpProgram (port : PortId) (tag : Byte) (key : Fin 65536) (index : Fin 256) (value : Fin 65536)
  /-- OTP_PROGRAM_DONE, R396. -/
  | otpProgramDone (failed : Fin 65536)
  /-- LEDGER_READ, R385. -/
  | ledgerRead (port : PortId) (tag : Byte)
  /-- RECOVER, R397. -/
  | recover (port : PortId) (tag : Byte) (key : Fin 65536)
  /-- DEVICE_RESTART, R397. -/
  | deviceRestart (port : PortId) (tag : Byte) (key : Fin 65536)
  /-- WDT_KEY, R406. -/
  | wdtKey (key : Fin 256)
  /-- WDT_DISABLE_SEQUENCE, R407. -/
  | wdtDisableSequence
  /-- WDT_ENABLE, R407. -/
  | wdtEnable
  /-- WDT_LOCK_SET, R408. -/
  | wdtLockSet
  /-- WDT_EXPIRE, R403. -/
  | wdtExpire
  /-- WDT_INTERNAL_SERVICE, R412. -/
  | wdtInternalService
  /-- YELLOW_PULSE_END, R414. -/
  | yellowPulseEnd
  /-- SEQUENCER_SILENT, R417. -/
  | sequencerSilent (seq : Fin 4)
  /-- SUP_WARN, R421. -/
  | supWarn (sys : Nat)
  /-- RIDE_THROUGH_END, R422. -/
  | rideThroughEnd
  /-- DIE_READING, R428. -/
  | dieReading (t t2 : Int)
  /-- JOURNAL_POWER_OFF, R431. -/
  | journalPowerOff
  /-- THERMISTOR_READING, R434. -/
  | thermistorReading (x : Fin 6) (k : Nat) (ref : Bool)
  /-- FOLDBACK_UPDATE, R438. -/
  | foldbackUpdate
  /-- FB_HOLD_END, R439. -/
  | fbHoldEnd (n : Fin 2)
  /-- FB_CLEAR, R440. -/
  | fbClear
  /-- BIST_SLICE_START, R449; bit p of `ahead`: the next scheduled work of partition p lies at least 200 µs ahead. -/
  | bistSliceStart (ahead : Fin 256)
  /-- BIST_SLICE_END, R445. -/
  | bistSliceEnd (match_ : Bool)
  /-- VAO_BELOW_RESET, R38; `torn`: a sector program is cut; `rewrite`: a rewriting of the retained record is (R343). -/
  | vaoBelowReset (loss : SupplyLoss)
  /-- RETAINED_SRAM_LOST, R329. -/
  | retainedSramLost
  /-- PRESENCE_DEBOUNCE_ABORT, R77. -/
  | presenceDebounceAbort (i : Fin 4)
  /-- INPUT_UV_CLEAR, R152. -/
  | inputUvClear (g : Fin 4)
  /-- DRIVE_SUPPLY_CLEAR, R152. -/
  | driveSupplyClear
  /-- VAUX_RETRY, R233. -/
  | vauxRetry
  /-- VPRE_ON_DELAY_END, R228. -/
  | vpreOnDelayEnd
  /-- VPRE_FAIL, R232. -/
  | vpreFail
  /-- VPRE_HICCUP_END, R232. -/
  | vpreHiccupEnd
  /-- PORT_SETTLE_END, R267. -/
  | portSettleEnd (p : Fin 2)
  /-- ERASE_SLICE_END, R308. -/
  | eraseSliceEnd
  /-- RCL_RESERVED_COMMAND, R238. -/
  | rclReservedCommand (rail : Fin 4) (cmd : Fin 16) (data : Fin 256) (parity : Bool)
  deriving DecidableEq, Repr

end Sys2Proof
end

