-- ==== Sys2Proof/Decode.lean ====
section
/-! DEFINITION. Commands from table words. The rows of spec/opcode_table.json give no bits, so no word spells a command. -/

namespace Sys2Proof

/-- The command that a word of `nbits` bits spells by the table's bits: no row gives bits, so there is none. [DEDUCED: log 3] -/
def decodeTableWord (_nbits _w : Nat) : Option Instr := none

end Sys2Proof
end

