-- ==== Sys2Proof/Config.lean ====
section
/-! DEFINITION. What the spec fixes once for the part, and the free values the spec leaves open (opaque: no proof can see them). -/

namespace Sys2Proof.Config

/-- Microseconds allowed for one sector program, t_sec of R309 (R320). -/
def tSec : Nat := 750
/-- Erase suspend latency t_sus of R309 (R320). -/
def tSus : Nat := 200
/-- Interleaved erase slice t_il of R309. -/
def tIl : Nat := 1200
/-- Green fill wait t_fill of R309. -/
def tFill : Nat := 50000
/-- First and last block of the journal ring (R322). -/
def ringFirst : Nat := 32
def ringLast : Nat := 16383
/-- Pages of a block and record slots of a sector (R320, R323). -/
def pagesPerBlock : Nat := 64
def slotsPerSector : Nat := 32
/-- Entries of the grown bad-block table, and the WORN threshold (R327). -/
def grownMax : Nat := 512
def grownWorn : Nat := 256
/-- Bytes of the configuration staging buffer (R389). -/
def stagingSize : Nat := 16384
/-- LPO ticks per second (R40). -/
def lpoHz : Nat := 32768

/-- Free value: the ESR estimate of R225 where the measured ripple current is zero, which the spec does not state. [DESIGN CHOICE: log 8] -/
opaque esrOpen : Nat → Nat
/-- Free value: byte `k` of the 28 bytes of BCH parity of a sector with given data bytes (R321, R323): the spec names the code and
its strength, not its polynomial. [DESIGN CHOICE: log 114] -/
opaque bchParity : List (BitVec 8) → Nat → BitVec 8

end Sys2Proof.Config
end

