-- ==== Sys2Proof/Machine/State.lean ====
section
/-! DEFINITION. The state of the RH7640 as plain data: the register file, the queue SRAM, the journal ring, the
configuration store, the host ports and the waiting commands; and the state after reset. -/

namespace Sys2Proof.Machine

/-- The access codes of R24. -/
inductive Access where
  | rw | ro | wo | rc | rwl
  deriving DecidableEq, Repr

/-- The parameter classes of R23; `nv` marks state of this model that no reset scope touches (what stands outside
the controller die's logic). -/
inductive Cls where
  | cfg | run | stat | ret | otp | nv
  deriving DecidableEq, Repr

/-- One register field as a field table of the spec gives it. A field that repeats (inputs, groups, slots, trackers)
is one `Reg` with an index: index i stands `stride` addresses above index i - 1. A value wider than 16 bits takes
consecutive addresses, least significant word first (R20). `resets` lists the reset value per index where it differs,
`reset` is the value otherwise; `ranges` lists the accepted values of a writable field (none listed: every value that
fits). -/
structure Reg where
  base   : Nat
  stride : Nat := 1
  count  : Nat := 1
  lo     : Nat := 0
  width  : Nat := 16
  acc    : Access := .ro
  cls    : Cls := .stat
  reset  : Nat := 0
  resets : List Nat := []
  ranges : List (Nat × Nat) := []
  deriving DecidableEq, Repr

/-- The register file: (key, value) pairs, keys strictly rising, only fields that differ from their reset value. The
key of a field is 16 times its address plus its lowest bit. -/
abbrev FieldFile := List (Nat × Nat)

/-- One 32-byte record (R302), field by field; the CRC follows from the rest. -/
structure Rec where
  time     : Nat
  seq      : Nat
  type     : Nat
  source   : Nat
  queue    : Nat
  cls      : Nat
  late     : Bool
  summary  : Bool
  deferred : Bool
  unsynced : Bool
  derived  : Bool
  payload  : List Byte
  deriving DecidableEq, Repr

/-- One occupied slot of queue SRAM (R307): the record, the delivery class it was accepted under (R306, R314), the
device time and the supply-good tick count at acceptance (R311), whether its wait has included time that R311 excludes, and
whether it is committed or popped. The record is its image at acceptance until it is committed (R302). -/
structure QSlot where
  record    : Rec
  dclass    : Nat
  at_ms     : Nat
  goodTick  : Nat
  waited    : Bool
  committed : Bool
  popped    : Bool
  deriving DecidableEq, Repr

/-- One programmed sector of a ring page: the records it holds, and whether a supply loss cut its program, so that it cannot be
corrected (R321, R328, R343). [DESIGN CHOICE: log 53] -/
structure Sector where
  recs : List Rec
  torn : Bool
  deriving DecidableEq, Repr

/-- One opened ring page with its header (R324). -/
structure Page where
  block    : Nat
  page     : Nat
  lap      : Nat
  serial   : Nat
  firstSeq : Nat
  time     : Nat
  afterPor : Bool
  sectors  : List Sector
  deriving DecidableEq, Repr

/-- The journal's retained record (R329) with the trial anchor of R393: the device time of a load, and the commit counter of the
version whose trial it restarted. -/
structure Retained where
  nextSeq : Nat
  block   : Nat
  page    : Nat
  sector  : Nat
  lap     : Nat
  ahead   : Nat
  reErase : List Nat
  anchor  : Option (Nat × Nat)
  deriving DecidableEq, Repr

/-- A slot record of the configuration store (R335). -/
structure SlotRec where
  trial   : Bool
  counter : Nat
  version : Nat
  length  : Nat
  crc32   : Nat
  time    : Nat
  period  : Nat
  deriving DecidableEq, Repr

/-- One block of a configuration copy in use as a slot (R334, R335): the image pages, the slot record, the reason of a
revoke record and the device time of its writing, whether a confirm record stands and the time of its writing. -/
structure CfgSlot where
  image     : List Byte
  slotRec   : Option SlotRec
  revoke    : Option Nat
  revokeAt  : Nat
  confirm   : Bool
  confirmAt : Nat
  deriving DecidableEq, Repr

/-- One copy of the configuration store (R334): its slots, oldest first, and how many of its eight blocks are good. -/
structure CfgCopy where
  slots : List CfgSlot
  good  : Nat
  deriving DecidableEq, Repr

/-- One page program or erase of a store operation (R337, R339), on copy 0 A, 1 B or 2 C; an image has pages 0 to 3. -/
inductive StoreStep where
  | image (copy page : Nat) | slotRecord (copy : Nat) | erase (copy : Nat) | revoke (copy : Nat) | confirm (copy : Nat)
  deriving DecidableEq, Repr

/-- What a store operation is for (R395 byte 19; R339 for the repair of a copy). -/
inductive StoreKind where
  | commit | revert (reason : Nat) | confirm | repair (copy : Nat)
  deriving DecidableEq, Repr

/-- A store operation: the version that it writes, revokes or confirms, the steps still to come, and the slot records or like
records written (R337). -/
structure StoreOp where
  kind    : StoreKind
  image   : List Byte
  slotRec : SlotRec
  steps   : List StoreStep
  written : Nat
  deriving DecidableEq, Repr

/-- The program running on the journal die (R309): a ring sector with so many records, or a store page; when it
started, in supply-good LPO ticks and in device time. -/
structure Program where
  records : Nat
  store   : Bool
  tick    : Nat
  time    : Nat
  deriving DecidableEq, Repr

/-- An erase in progress (R308): the ring block it erases, or a block of a store copy. -/
structure EraseJob where
  block     : Nat
  store     : Bool
  suspended : Bool
  deriving DecidableEq, Repr

/-- A reply held by a port (R351), with the SEQs that its delivery pops (R381). -/
structure Reply where
  bytes   : List Byte
  popSeqs : List Nat
  deriving DecidableEq, Repr

/-- One packet port: its held reply and the reply pointer (R351, R352). -/
structure Port where
  reply : Option Reply
  ptr   : Nat
  deriving DecidableEq, Repr

/-- A request that a port has handed to the interpreter and that has not been interpreted (R353). -/
structure Request where
  port   : PortId
  opcode : Nat
  tag    : Nat
  params : List Byte
  deriving DecidableEq, Repr

/-- The whole state. Every register and every counter, timer and captured value of the spec is a field of `fields`
(Machine/Regs.lean names them); what is a list or a record in the spec is a component of its own. -/
structure State where
  /-- The register file. -/
  fields      : FieldFile
  /-- Queue SRAM: accepted records in acceptance order (R307). -/
  slots       : List QSlot
  /-- Records built but not yet offered: the FAULT_EVENT records of R39 and R313, the records R505 keeps. -/
  held        : List Rec
  /-- The FAULT_EVENT of each queue's refusal latch, kept until its summary is accepted (R313). -/
  latched     : List (Nat × Rec)
  /-- Pages of the journal ring, oldest first (R323 to R326). -/
  ring        : List Page
  /-- Pre-erased blocks ahead of the head, nearest first (R326). -/
  ahead       : List Nat
  /-- The grown bad blocks as controller memory holds them, and the copies of their table in blocks 6 and 7 (R322, R327). -/
  grownBad    : List Nat
  table6      : List Nat
  table7      : List Nat
  /-- The factory bad-block table of blocks 0 to 3 (R322, R327). -/
  factoryBad  : List Nat
  /-- The newer copy of the retained record (R329); `none` where no copy checks. -/
  retained    : Option Retained
  /-- The other copy, as it was before the last rewriting (R329, R343). -/
  retainedOld : Option Retained
  /-- The sector or page program running (R308, R309). -/
  program     : Option Program
  /-- The erase in progress (R308). -/
  erase       : Option EraseJob
  /-- Configuration copies A, B and C (R334). -/
  copies      : List CfgCopy
  /-- The store operations, the one in progress first (R337, R339). -/
  storeOps    : List StoreOp
  /-- The version in force; `none` under step 3 of R338. -/
  loaded      : Option CfgSlot
  /-- The version that waits to switch in (R391). -/
  target      : Option CfgSlot
  /-- The staging buffer: bytes that are not 0xFF, offsets rising (R389). -/
  staging     : List (Nat × Byte)
  /-- The two packet ports. -/
  tw          : Port
  qb          : Port
  /-- The bytes that the device last drove on a port: those of a read, or of a host-notify (R351, R359, R362). -/
  driven      : List Byte
  /-- Requests waiting for the interpreter, in the order in which they ended (R353). -/
  requests    : List Request
  /-- Commands that are waiting, first in, first out. -/
  pending     : List Instr
  deriving DecidableEq, Repr

/-- Why a step could stop with a fault. The spec describes every error of this block as a latch, a record and a
response inside the state, so no command faults: safe, nothing raises this one. -/
inductive Fault where
  /-- Raised by nobody; safe. -/
  | none
  deriving DecidableEq, Repr

/-- Why a command could be refused. -/
inductive Refusal where
  /-- Raised by an arm of `exec` whose command has no meaning yet; safe. -/
  | notModelled (mnemonic : String)
  deriving DecidableEq, Repr

/-- An empty port: no reply held (R351). -/
def Port.empty : Port := { reply := none, ptr := 0 }

/-- A configuration copy as shipped: no slot written, eight good blocks (R334, R492). -/
def CfgCopy.blank : CfgCopy := { slots := [], good := 8 }

/-- The machine right after reset: every register at its Reset column, queues, ring, store and ports empty, no
command waiting. POWER_ON_RESET runs the sequence of R38 from here. [DESIGN CHOICE: log 4, 5, 6] -/
def State.reset : State where
  fields     := []
  slots      := []
  held       := []
  latched    := []
  ring       := []
  ahead      := []
  grownBad   := []
  table6     := []
  table7     := []
  factoryBad := []
  retained   := none
  retainedOld := none
  program    := none
  erase      := none
  copies     := [CfgCopy.blank, CfgCopy.blank, CfgCopy.blank]
  storeOps   := []
  loaded     := none
  target     := none
  staging    := []
  tw         := Port.empty
  qb         := Port.empty
  driven     := []
  requests   := []
  pending    := []

end Sys2Proof.Machine
end

