-- ==== Sys2Proof/Machine/Regs.lean ====
section
/-! DEFINITION. The register fields of blocks 0x0000 to 0x0700 and up, one constant per field of the field tables of the spec. -/

namespace Sys2Proof.Machine.R

/-- R44, `DEV_ID` bits [15:0], RO, STAT. -/
def DEV_ID : Reg :=
  { base := 0x0000, reset := 30272 }
/-- R44, `DEV_REV` bits [7:0], RO, STAT. -/
def DEV_REV_REV_LETTER : Reg :=
  { base := 0x0001, width := 8, reset := 66 }
/-- R44, `DEV_REV` bits [15:8], RO, STAT. -/
def DEV_REV_REV_DIGIT : Reg :=
  { base := 0x0001, lo := 8, width := 8, reset := 48 }
/-- R44, `DEV_FAULT_SUM` bits [14:0], RO, STAT. -/
def DEV_FAULT_SUM : Reg :=
  { base := 0x0002, width := 15 }
/-- R44, `DEV_CFG_DIRTY` bits [0:0], RO, RUN. -/
def DEV_CFG_DIRTY : Reg :=
  { base := 0x0003, width := 1, cls := .run }
/-- R44, `DEV_TIME` bits [47:0], RO, RET. -/
def DEV_TIME : Reg :=
  { base := 0x0004, stride := 0x3, width := 48, cls := .ret }
/-- R44, `DEV_EPOCH` bits [63:0], RW, RET. -/
def DEV_EPOCH : Reg :=
  { base := 0x0008, stride := 0x4, width := 64, acc := .rw, cls := .ret }
/-- R44, `DEV_CLK` bits [0:0], RO, STAT. -/
def DEV_CLK_FAST_ON : Reg :=
  { base := 0x000C, width := 1 }
/-- R44, `DEV_CLK` bits [1:1], RO, RET. -/
def DEV_CLK_TIME_SEEDED : Reg :=
  { base := 0x000C, lo := 1, width := 1, cls := .ret }
/-- R44, `DEV_CLK` bits [2:2], RO, RET. -/
def DEV_CLK_EPOCH_SET : Reg :=
  { base := 0x000C, lo := 2, width := 1, cls := .ret }
/-- R44, `DEV_CLK` bits [3:3], RO, STAT. -/
def DEV_CLK_CORR_STALE : Reg :=
  { base := 0x000C, lo := 3, width := 1, reset := 1 }
/-- R71, `MODE_STATUS` bits [3:0], RO, STAT. -/
def MODE_STATUS_MODE : Reg :=
  { base := 0x0100, width := 4, reset := 1 }
/-- R71, `MODE_STATUS` bits [7:4], RO, STAT. -/
def MODE_STATUS_PREV : Reg :=
  { base := 0x0100, lo := 4, width := 4 }
/-- R71, `MODE_STATUS` bits [8:8], RO, STAT. -/
def MODE_STATUS_COUPLED : Reg :=
  { base := 0x0100, lo := 8, width := 1 }
/-- R71, `MODE_STATUS` bits [9:9], RO, STAT. -/
def MODE_STATUS_GRACE : Reg :=
  { base := 0x0100, lo := 9, width := 1 }
/-- R71, `MODE_STATUS` bits [10:10], RO, STAT. -/
def MODE_STATUS_RAIL_DEMAND : Reg :=
  { base := 0x0100, lo := 10, width := 1 }
/-- R71, `MODE_STATUS` bits [11:11], RO, STAT. -/
def MODE_STATUS_RIDE_ACTIVE : Reg :=
  { base := 0x0100, lo := 11, width := 1 }
/-- R71, `MODE_STATUS` bits [12:12], RO, STAT. -/
def MODE_STATUS_THERM_ACTIVE : Reg :=
  { base := 0x0100, lo := 12, width := 1 }
/-- R71, `MODE_STATUS` bits [13:13], RO, STAT. -/
def MODE_STATUS_SHIP_PENDING : Reg :=
  { base := 0x0100, lo := 13, width := 1 }
/-- R71, `MODE_STATUS` bits [14:14], RO, STAT. -/
def MODE_STATUS_HARVEST : Reg :=
  { base := 0x0100, lo := 14, width := 1 }
/-- R71, `MODE_CAUSE` bits [7:0], RO, RUN. -/
def MODE_CAUSE : Reg :=
  { base := 0x0101, width := 8, cls := .run, reset := 1 }
/-- R71, `MODE_CHANGE_TIME` bits [47:0], RO, RUN. -/
def MODE_CHANGE_TIME : Reg :=
  { base := 0x0102, stride := 0x3, width := 48, cls := .run }
/-- R71, `MODE_GRACE_LEFT` bits [10:0], RO, STAT. -/
def MODE_GRACE_LEFT : Reg :=
  { base := 0x0105, width := 11 }
/-- R71, `MODE_CTRL` bits [0:0], RW, RUN. -/
def MODE_CTRL : Reg :=
  { base := 0x0106, width := 1, acc := .rw, cls := .run }
/-- R71, `MODE_POLICY` bits [0:0], RW, CFG. -/
def MODE_POLICY_ON_COUPLE : Reg :=
  { base := 0x0107, width := 1, acc := .rw, cls := .cfg, reset := 1 }
/-- R71, `MODE_POLICY` bits [1:1], RW, CFG. -/
def MODE_POLICY_ON_DEPOT : Reg :=
  { base := 0x0107, lo := 1, width := 1, acc := .rw, cls := .cfg, reset := 1 }
/-- R71, `MODE_POLICY` bits [2:2], RW, CFG. -/
def MODE_POLICY_ON_WAKEN : Reg :=
  { base := 0x0107, lo := 2, width := 1, acc := .rw, cls := .cfg, reset := 1 }
/-- R71, `MODE_POLICY` bits [3:3], RW, CFG. -/
def MODE_POLICY_ON_SOLAR : Reg :=
  { base := 0x0107, lo := 3, width := 1, acc := .rw, cls := .cfg }
/-- R71, `MODE_POLICY` bits [4:4], RW, CFG. -/
def MODE_POLICY_ON_RED : Reg :=
  { base := 0x0107, lo := 4, width := 1, acc := .rw, cls := .cfg }
/-- R71, `MODE_GRACE` bits [10:0], RW, CFG. -/
def MODE_GRACE : Reg :=
  { base := 0x0108, width := 11, acc := .rw, cls := .cfg, reset := 300, ranges := [(0, 1800)] }
/-- R71, `MODE_HARVEST_MIN` bits [9:0], RW, CFG. -/
def MODE_HARVEST_MIN : Reg :=
  { base := 0x0109, width := 10, acc := .rw, cls := .cfg, reset := 20, ranges := [(0, 1000)] }
/-- R71, `MODE_SVC_TIMEOUT` bits [7:0], RW, CFG. -/
def MODE_SVC_TIMEOUT : Reg :=
  { base := 0x010A, width := 8, acc := .rw, cls := .cfg, reset := 60, ranges := [(1, 240)] }
/-- R71, `MODE_SHIP_DELAY` bits [5:0], RW, CFG. -/
def MODE_SHIP_DELAY : Reg :=
  { base := 0x010B, width := 6, acc := .rw, cls := .cfg, reset := 5, ranges := [(0, 60)] }
/-- R71, `MODE_WAKE_EN` bits [0:0], RW, CFG. -/
def MODE_WAKE_EN_WAKEN : Reg :=
  { base := 0x010C, width := 1, acc := .rw, cls := .cfg, reset := 1 }
/-- R71, `MODE_WAKE_EN` bits [1:1], RW, CFG. -/
def MODE_WAKE_EN_ADDR : Reg :=
  { base := 0x010C, lo := 1, width := 1, acc := .rw, cls := .cfg, reset := 1 }
/-- R71, `MODE_WAKE_SRC` bits [0:0], RC, RUN. -/
def MODE_WAKE_SRC_WDT : Reg :=
  { base := 0x010D, width := 1, acc := .rc, cls := .run }
/-- R71, `MODE_WAKE_SRC` bits [1:1], RC, RUN. -/
def MODE_WAKE_SRC_INPUT : Reg :=
  { base := 0x010D, lo := 1, width := 1, acc := .rc, cls := .run }
/-- R71, `MODE_WAKE_SRC` bits [2:2], RC, RUN. -/
def MODE_WAKE_SRC_WAKEN : Reg :=
  { base := 0x010D, lo := 2, width := 1, acc := .rc, cls := .run }
/-- R71, `MODE_WAKE_SRC` bits [3:3], RC, RUN. -/
def MODE_WAKE_SRC_ADDR : Reg :=
  { base := 0x010D, lo := 3, width := 1, acc := .rc, cls := .run }
/-- R71, `MODE_WAKE_SRC` bits [4:4], RC, RUN. -/
def MODE_WAKE_SRC_SUPWARN : Reg :=
  { base := 0x010D, lo := 4, width := 1, acc := .rc, cls := .run }
/-- R71, `MODE_COUPLE_CNT` bits [15:0], RO, RET. -/
def MODE_COUPLE_CNT : Reg :=
  { base := 0x010E, cls := .ret }
/-- R104, `IN_FAULT` bits [3:0], RC, RUN. -/
def IN_FAULT_OV : Reg :=
  { base := 0x0200, width := 4, acc := .rc, cls := .run }
/-- R104, `IN_FAULT` bits [7:4], RC, RUN. -/
def IN_FAULT_REV_POL : Reg :=
  { base := 0x0200, lo := 4, width := 4, acc := .rc, cls := .run }
/-- R104, `IN_FAULT` bits [11:8], RC, RUN. -/
def IN_FAULT_FET : Reg :=
  { base := 0x0200, lo := 8, width := 4, acc := .rc, cls := .run }
/-- R104, `IN_FAULT` bits [15:12], RC, RUN. -/
def IN_FAULT_CLASS : Reg :=
  { base := 0x0200, lo := 12, width := 4, acc := .rc, cls := .run }
/-- R104, `IN_STATUS` bits [3:0], RO, STAT. -/
def IN_STATUS_PRESENT : Reg :=
  { base := 0x0201, width := 4 }
/-- R104, `IN_STATUS` bits [7:4], RO, STAT. -/
def IN_STATUS_FET_ON : Reg :=
  { base := 0x0201, lo := 4, width := 4 }
/-- R104, `IN_STATUS` bits [11:8], RO, STAT. -/
def IN_STATUS_TS_RELEASED : Reg :=
  { base := 0x0201, lo := 8, width := 4 }
/-- R104, `IN_STATUS` bits [15:12], RO, STAT. -/
def IN_STATUS_HELD : Reg :=
  { base := 0x0201, lo := 12, width := 4 }
/-- R104, `IN_CLASS` bits [15:0], RO, STAT. -/
def IN_CLASS : Reg :=
  { base := 0x0202 }
/-- R104, `IN_TS_DROOP` bits [7:0], RW, CFG. -/
def IN_TS_DROOP : Reg :=
  { base := 0x0203, width := 8, acc := .rw, cls := .cfg, reset := 50, ranges := [(10, 200)] }
/-- R104, `IN_TS_HOLD` bits [9:0], RW, CFG. -/
def IN_TS_HOLD : Reg :=
  { base := 0x0204, width := 10, acc := .rw, cls := .cfg, reset := 120, ranges := [(0, 600)] }
/-- R104, `IN_AG_HOLD` bits [9:0], RW, CFG. -/
def IN_AG_HOLD : Reg :=
  { base := 0x0205, width := 10, acc := .rw, cls := .cfg, reset := 10, ranges := [(0, 600)] }
/-- R104, `IN_AG_RIPPLE` bits [9:0], RW, CFG. -/
def IN_AG_RIPPLE : Reg :=
  { base := 0x0206, width := 10, acc := .rw, cls := .cfg, reset := 100, ranges := [(20, 1000)] }
/-- R104, `IN_STIFF_R` bits [12:0], RW, CFG. -/
def IN_STIFF_R : Reg :=
  { base := 0x0207, width := 13, acc := .rw, cls := .cfg, reset := 500, ranges := [(50, 5000)] }
/-- R104, `IN_SETTLE` bits [9:0], RW, CFG. -/
def IN_SETTLE : Reg :=
  { base := 0x0208, width := 10, acc := .rw, cls := .cfg, reset := 100, ranges := [(0, 1000)] }
/-- R104, `IN_PROBE_DROOP` bits [8:0], RW, CFG. -/
def IN_PROBE_DROOP : Reg :=
  { base := 0x0209, width := 9, acc := .rw, cls := .cfg, reset := 200, ranges := [(50, 500)] }
/-- R105, `INn_CTRL` bits [0:0], RW, CFG. -/
def INn_CTRL : Reg :=
  { base := 0x0210, stride := 0x10, count := 4, width := 1, acc := .rw, cls := .cfg, reset := 1 }
/-- R105, `INn_MASK` bits [5:1], RW, CFG. -/
def INn_MASK : Reg :=
  { base := 0x0211, stride := 0x10, count := 4, lo := 1, width := 5, acc := .rw, cls := .cfg, reset := 31 }
/-- R105, `INn_LIMIT` bits [12:0], RW, CFG. -/
def INn_LIMIT : Reg :=
  { base := 0x0212, stride := 0x10, count := 4, width := 13, acc := .rw, cls := .cfg, ranges := [(0, 4000)] }
/-- R105, `INn_OV` bits [12:0], RW, CFG. -/
def INn_OV : Reg :=
  { base := 0x0213, stride := 0x10, count := 4, width := 13, acc := .rw, cls := .cfg, reset := 6000, ranges :=
    [(3000, 6000)] }
/-- R105, `INn_SHUNT` bits [12:0], RW, CFG. -/
def INn_SHUNT : Reg :=
  { base := 0x0214, stride := 0x10, count := 4, width := 13, acc := .rw, cls := .cfg, reset := 1000, ranges :=
    [(100, 5000)] }
/-- R105, `INn_STAT` bits [2:0], RO, STAT. -/
def INn_STAT_CLASS : Reg :=
  { base := 0x0215, stride := 0x10, count := 4, width := 3 }
/-- R105, `INn_STAT` bits [5:3], RO, STAT. -/
def INn_STAT_BAND : Reg :=
  { base := 0x0215, stride := 0x10, count := 4, lo := 3, width := 3 }
/-- R105, `INn_STAT` bits [6:6], RO, STAT. -/
def INn_STAT_DECLARED : Reg :=
  { base := 0x0215, stride := 0x10, count := 4, lo := 6, width := 1 }
/-- R105, `INn_STAT` bits [7:7], RO, STAT. -/
def INn_STAT_MASKED : Reg :=
  { base := 0x0215, stride := 0x10, count := 4, lo := 7, width := 1 }
/-- R105, `INn_STAT` bits [11:8], RO, STAT. -/
def INn_STAT_STATE : Reg :=
  { base := 0x0215, stride := 0x10, count := 4, lo := 8, width := 4 }
/-- R105, `INn_STAT` bits [15:12], RO, STAT. -/
def INn_STAT_ISSUE : Reg :=
  { base := 0x0215, stride := 0x10, count := 4, lo := 12, width := 4 }
/-- R105, `INn_VOC` bits [15:0], RO, STAT. -/
def INn_VOC : Reg :=
  { base := 0x0216, stride := 0x10, count := 4 }
/-- R105, `INn_RSRC` bits [15:0], RO, STAT. -/
def INn_RSRC : Reg :=
  { base := 0x0217, stride := 0x10, count := 4, reset := 65535 }
/-- R105, `INn_CURV` bits [7:0], RO, STAT. -/
def INn_CURV : Reg :=
  { base := 0x0218, stride := 0x10, count := 4, width := 8 }
/-- R105, `INn_SIG` bits [7:0], RO, STAT. -/
def INn_SIG_DROPOUTS : Reg :=
  { base := 0x0219, stride := 0x10, count := 4, width := 8 }
/-- R105, `INn_SIG` bits [15:8], RO, STAT. -/
def INn_SIG_FREQ : Reg :=
  { base := 0x0219, stride := 0x10, count := 4, lo := 8, width := 8 }
/-- R105, `INn_RIPPLE` bits [15:0], RO, STAT. -/
def INn_RIPPLE : Reg :=
  { base := 0x021A, stride := 0x10, count := 4 }
/-- R105, `INn_LIM_EFF` bits [12:0], RO, STAT. -/
def INn_LIM_EFF : Reg :=
  { base := 0x021B, stride := 0x10, count := 4, width := 13 }
/-- R105, `INn_V` bits [15:0], RO, STAT. -/
def INn_V : Reg :=
  { base := 0x021C, stride := 0x10, count := 4 }
/-- R105, `INn_I` bits [15:0], RO, STAT. -/
def INn_I : Reg :=
  { base := 0x021D, stride := 0x10, count := 4 }
/-- R105, `INn_CMD` bits [0:0], WO, RUN. -/
def INn_CMD : Reg :=
  { base := 0x021E, stride := 0x10, count := 4, width := 1, acc := .wo, cls := .run }
/-- R105, `INn_RELEASES` bits [15:0], RO, RUN. -/
def INn_RELEASES : Reg :=
  { base := 0x021F, stride := 0x10, count := 4, cls := .run }
/-- R123, `TRK_FAULT` bits [3:0], RC, RUN. -/
def TRK_FAULT_WEAK : Reg :=
  { base := 0x0300, width := 4, acc := .rc, cls := .run }
/-- R123, `TRK_FAULT` bits [7:4], RC, RUN. -/
def TRK_FAULT_SWEEP_ABORT : Reg :=
  { base := 0x0300, lo := 4, width := 4, acc := .rc, cls := .run }
/-- R123, `TRK_FAULT` bits [8:8], RC, RUN. -/
def TRK_FAULT_PRIO_BAD : Reg :=
  { base := 0x0300, lo := 8, width := 1, acc := .rc, cls := .run }
/-- R123, `TRK_STATUS` bits [2:0], RO, STAT. -/
def TRK_STATUS_TRIM : Reg :=
  { base := 0x0301, width := 3 }
/-- R123, `TRK_STATUS` bits [3:3], RO, STAT. -/
def TRK_STATUS_SHORTFALL : Reg :=
  { base := 0x0301, lo := 3, width := 1 }
/-- R123, `TRK_STATUS` bits [4:4], RO, STAT. -/
def TRK_STATUS_PRIO_BAD : Reg :=
  { base := 0x0301, lo := 4, width := 1 }
/-- R123, `TRK_STATUS` bits [5:5], RO, STAT. -/
def TRK_STATUS_FAST_RISE : Reg :=
  { base := 0x0301, lo := 5, width := 1 }
/-- R123, `TRK_STATUS` bits [9:6], RO, STAT. -/
def TRK_STATUS_SWEEPING : Reg :=
  { base := 0x0301, lo := 6, width := 4 }
/-- R123, `TRK_PRIO_A` bits [15:0], RW, CFG. -/
def TRK_PRIO_A : Reg :=
  { base := 0x0302, acc := .rw, cls := .cfg, reset := 4691 }
/-- R123, `TRK_PRIO_B` bits [3:0], RW, CFG. -/
def TRK_PRIO_B_FIFTH : Reg :=
  { base := 0x0303, width := 4, acc := .rw, cls := .cfg, reset := 4 }
/-- R123, `TRK_PRIO_B` bits [7:4], RW, CFG. -/
def TRK_PRIO_B_SIXTH : Reg :=
  { base := 0x0303, lo := 4, width := 4, acc := .rw, cls := .cfg, reset := 6 }
/-- R123, `TRK_TP_FLOOR` bits [12:0], RW, CFG. -/
def TRK_TP_FLOOR : Reg :=
  { base := 0x0304, width := 13, acc := .rw, cls := .cfg, reset := 2000, ranges := [(1800, 3200)] }
/-- R123, `TRK_GUARD_DROOP` bits [9:0], RW, CFG. -/
def TRK_GUARD_DROOP : Reg :=
  { base := 0x0305, width := 10, acc := .rw, cls := .cfg, reset := 200, ranges := [(50, 1000)] }
/-- R123, `TRK_STEP_INIT` bits [6:0], RW, CFG. -/
def TRK_STEP_INIT : Reg :=
  { base := 0x0306, width := 7, acc := .rw, cls := .cfg, reset := 10, ranges := [(1, 100)] }
/-- R123, `TRK_SWEEP_PERIOD` bits [11:0], RW, CFG. -/
def TRK_SWEEP_PERIOD : Reg :=
  { base := 0x0307, width := 12, acc := .rw, cls := .cfg, reset := 600, ranges := [(0, 0), (60, 3600)] }
/-- R123, `TRK_ETA` bits [7:0], RW, CFG. -/
def TRK_ETA : Reg :=
  { base := 0x0308, width := 8, acc := .rw, cls := .cfg, reset := 243, ranges := [(192, 255)] }
/-- R123, `TRK_MARGIN` bits [6:0], RW, CFG. -/
def TRK_MARGIN : Reg :=
  { base := 0x0309, width := 7, acc := .rw, cls := .cfg, reset := 16, ranges := [(0, 64)] }
/-- R123, `TRK_DEMAND` bits [15:0], RO, STAT. -/
def TRK_DEMAND : Reg :=
  { base := 0x030A }
/-- R123, `TRK_LOAD` bits [15:0], RO, STAT. -/
def TRK_LOAD : Reg :=
  { base := 0x030B }
/-- R124, `TRKn_STAT` bits [2:0], RO, STAT. -/
def TRKn_STAT_STYLE : Reg :=
  { base := 0x0310, stride := 0x10, count := 4, width := 3 }
/-- R124, `TRKn_STAT` bits [5:3], RO, STAT. -/
def TRKn_STAT_LOOP : Reg :=
  { base := 0x0310, stride := 0x10, count := 4, lo := 3, width := 3 }
/-- R124, `TRKn_STAT` bits [6:6], RO, STAT. -/
def TRKn_STAT_GOVERNED : Reg :=
  { base := 0x0310, stride := 0x10, count := 4, lo := 6, width := 1 }
/-- R124, `TRKn_STAT` bits [7:7], RO, STAT. -/
def TRKn_STAT_TRIM : Reg :=
  { base := 0x0310, stride := 0x10, count := 4, lo := 7, width := 1 }
/-- R124, `TRKn_STAT` bits [8:8], RO, STAT. -/
def TRKn_STAT_DIR_DOWN : Reg :=
  { base := 0x0310, stride := 0x10, count := 4, lo := 8, width := 1, reset := 1 }
/-- R124, `TRKn_STAT` bits [11:9], RO, STAT. -/
def TRKn_STAT_RUN : Reg :=
  { base := 0x0310, stride := 0x10, count := 4, lo := 9, width := 3 }
/-- R124, `TRKn_VSET` bits [15:0], RO, STAT. -/
def TRKn_VSET : Reg :=
  { base := 0x0311, stride := 0x10, count := 4 }
/-- R124, `TRKn_STEP` bits [6:0], RO, STAT. -/
def TRKn_STEP : Reg :=
  { base := 0x0312, stride := 0x10, count := 4, width := 7 }
/-- R124, `TRKn_CAP` bits [15:0], RO, STAT. -/
def TRKn_CAP : Reg :=
  { base := 0x0313, stride := 0x10, count := 4 }
/-- R124, `TRKn_ALLOC` bits [12:0], RO, STAT. -/
def TRKn_ALLOC : Reg :=
  { base := 0x0314, stride := 0x10, count := 4, width := 13 }
/-- R124, `TRKn_PIN` bits [15:0], RO, STAT. -/
def TRKn_PIN : Reg :=
  { base := 0x0315, stride := 0x10, count := 4 }
/-- R124, `TRKn_VMP` bits [15:0], RO, RUN. -/
def TRKn_VMP : Reg :=
  { base := 0x0316, stride := 0x10, count := 4, cls := .run }
/-- R124, `TRKn_PMP` bits [15:0], RO, RUN. -/
def TRKn_PMP : Reg :=
  { base := 0x0317, stride := 0x10, count := 4, cls := .run }
/-- R124, `TRKn_SWEEP_AGE` bits [15:0], RO, RUN. -/
def TRKn_SWEEP_AGE : Reg :=
  { base := 0x0318, stride := 0x10, count := 4, cls := .run, reset := 65535 }
/-- R124, `TRKn_CMD` bits [0:0], WO, RUN. -/
def TRKn_CMD : Reg :=
  { base := 0x0319, stride := 0x10, count := 4, width := 1, acc := .wo, cls := .run }
/-- R155, `CNV_FAULT` bits [0:0], RC, RUN. -/
def CNV_FAULT_SYS_OV : Reg :=
  { base := 0x0400, width := 1, acc := .rc, cls := .run }
/-- R155, `CNV_FAULT` bits [1:1], RC, RUN. -/
def CNV_FAULT_DRV_UV : Reg :=
  { base := 0x0400, lo := 1, width := 1, acc := .rc, cls := .run }
/-- R155, `CNV_FAULT` bits [5:2], RC, RUN. -/
def CNV_FAULT_IN_UV : Reg :=
  { base := 0x0400, lo := 2, width := 4, acc := .rc, cls := .run }
/-- R155, `CNV_FAULT` bits [9:6], RC, RUN. -/
def CNV_FAULT_TUNE_FAIL : Reg :=
  { base := 0x0400, lo := 6, width := 4, acc := .rc, cls := .run }
/-- R155, `CNV_FAULT` bits [15:10], RC, RUN. -/
def CNV_FAULT_BOOT : Reg :=
  { base := 0x0400, lo := 10, width := 6, acc := .rc, cls := .run }
/-- R155, `CNV_PH_FAULT` bits [5:0], RC, RUN. -/
def CNV_PH_FAULT_OPEN : Reg :=
  { base := 0x0401, width := 6, acc := .rc, cls := .run }
/-- R155, `CNV_PH_FAULT` bits [11:6], RC, RUN. -/
def CNV_PH_FAULT_SHORT : Reg :=
  { base := 0x0401, lo := 6, width := 6, acc := .rc, cls := .run }
/-- R155, `CNV_STATUS` bits [5:0], RO, STAT. -/
def CNV_STATUS_SWITCHING : Reg :=
  { base := 0x0402, width := 6 }
/-- R155, `CNV_STATUS` bits [11:6], RO, STAT. -/
def CNV_STATUS_EXCLUDED : Reg :=
  { base := 0x0402, lo := 6, width := 6 }
/-- R155, `CNV_STATUS` bits [12:12], RO, STAT. -/
def CNV_STATUS_CFG_PENDING : Reg :=
  { base := 0x0402, lo := 12, width := 1 }
/-- R155, `CNV_PHASE_MAP_A` bits [15:0], RW, CFG. -/
def CNV_PHASE_MAP_A : Reg :=
  { base := 0x0403, acc := .rw, cls := .cfg }
/-- R155, `CNV_PHASE_MAP_B` bits [7:0], RW, CFG. -/
def CNV_PHASE_MAP_B : Reg :=
  { base := 0x0404, width := 8, acc := .rw, cls := .cfg }
/-- R155, `CNV_FSW` bits [5:0], RW, CFG. -/
def CNV_FSW : Reg :=
  { base := 0x0405, width := 6, acc := .rw, cls := .cfg, reset := 20, ranges := [(0, 40)] }
/-- R155, `CNV_LPH` bits [7:0], RW, CFG. -/
def CNV_LPH : Reg :=
  { base := 0x0406, width := 8, acc := .rw, cls := .cfg, reset := 68, ranges := [(22, 220)] }
/-- R155, `CNV_RSENSE` bits [5:0], RW, CFG. -/
def CNV_RSENSE : Reg :=
  { base := 0x0407, width := 6, acc := .rw, cls := .cfg, reset := 10, ranges := [(5, 50)] }
/-- R155, `CNV_PH_IMAX` bits [9:0], RW, CFG. -/
def CNV_PH_IMAX : Reg :=
  { base := 0x0408, width := 10, acc := .rw, cls := .cfg, reset := 800, ranges := [(40, 800)] }
/-- R155, `CNV_IPK_LIM` bits [10:0], RW, CFG. -/
def CNV_IPK_LIM : Reg :=
  { base := 0x0409, width := 11, acc := .rw, cls := .cfg, reset := 1200, ranges := [(200, 1400)] }
/-- R155, `CNV_INEG_LIM` bits [8:0], RW, CFG. -/
def CNV_INEG_LIM : Reg :=
  { base := 0x040A, width := 9, acc := .rw, cls := .cfg, reset := 200, ranges := [(40, 400)] }
/-- R155, `CNV_LIGHT` bits [0:0], RW, CFG. -/
def CNV_LIGHT_DE_EN : Reg :=
  { base := 0x040B, width := 1, acc := .rw, cls := .cfg, reset := 1 }
/-- R155, `CNV_LIGHT` bits [1:1], RW, CFG. -/
def CNV_LIGHT_SHED_EN : Reg :=
  { base := 0x040B, lo := 1, width := 1, acc := .rw, cls := .cfg, reset := 1 }
/-- R155, `CNV_LIGHT` bits [2:2], RW, CFG. -/
def CNV_LIGHT_BURST_EN : Reg :=
  { base := 0x040B, lo := 2, width := 1, acc := .rw, cls := .cfg, reset := 1 }
/-- R155, `CNV_LIGHT` bits [9:3], RW, CFG. -/
def CNV_LIGHT_BURST_CYC : Reg :=
  { base := 0x040B, lo := 3, width := 7, acc := .rw, cls := .cfg, reset := 16, ranges := [(4, 64)] }
/-- R155, `CNV_DT_INIT` bits [5:0], RW, CFG. -/
def CNV_DT_INIT_DT : Reg :=
  { base := 0x040C, width := 6, acc := .rw, cls := .cfg, reset := 12, ranges := [(2, 40)] }
/-- R155, `CNV_DT_INIT` bits [6:6], RW, CFG. -/
def CNV_DT_INIT_LEARN : Reg :=
  { base := 0x040C, lo := 6, width := 1, acc := .rw, cls := .cfg, reset := 1 }
/-- R155, `CNV_OVP_MARGIN` bits [8:0], RW, CFG. -/
def CNV_OVP_MARGIN : Reg :=
  { base := 0x040D, width := 9, acc := .rw, cls := .cfg, reset := 200, ranges := [(50, 400)] }
/-- R155, `CNV_IN_UV` bits [12:0], RW, CFG. -/
def CNV_IN_UV : Reg :=
  { base := 0x040E, width := 13, acc := .rw, cls := .cfg, reset := 700, ranges := [(550, 3000)] }
/-- R155, `CNV_XOVER` bits [5:0], RW, CFG. -/
def CNV_XOVER : Reg :=
  { base := 0x040F, width := 6, acc := .rw, cls := .cfg, reset := 20, ranges := [(5, 40)] }
/-- R155, `CNV_CMD` bits [5:0], WO, RUN. -/
def CNV_CMD_PH_RETRY : Reg :=
  { base := 0x0410, width := 6, acc := .wo, cls := .run }
/-- R155, `CNV_CMD` bits [9:6], WO, RUN. -/
def CNV_CMD_RETUNE : Reg :=
  { base := 0x0410, lo := 6, width := 4, acc := .wo, cls := .run }
/-- R155, `CNV_SYS_OV_TRIP` bits [15:0], RO, STAT. -/
def CNV_SYS_OV_TRIP : Reg :=
  { base := 0x0411, reset := 3900 }
/-- R156, `CNV_Gg_STAT` bits [2:0], RO, STAT. -/
def CNV_Gg_STAT_ACTIVE : Reg :=
  { base := 0x0420, stride := 0x10, count := 4, width := 3 }
/-- R156, `CNV_Gg_STAT` bits [4:3], RO, STAT. -/
def CNV_Gg_STAT_REGION : Reg :=
  { base := 0x0420, stride := 0x10, count := 4, lo := 3, width := 2 }
/-- R156, `CNV_Gg_STAT` bits [7:5], RO, STAT. -/
def CNV_Gg_STAT_STATE : Reg :=
  { base := 0x0420, stride := 0x10, count := 4, lo := 5, width := 3 }
/-- R156, `CNV_Gg_STAT` bits [8:8], RO, STAT. -/
def CNV_Gg_STAT_DE : Reg :=
  { base := 0x0420, stride := 0x10, count := 4, lo := 8, width := 1 }
/-- R156, `CNV_Gg_STAT` bits [9:9], RO, STAT. -/
def CNV_Gg_STAT_BURST : Reg :=
  { base := 0x0420, stride := 0x10, count := 4, lo := 9, width := 1 }
/-- R156, `CNV_Gg_STAT` bits [10:10], RO, STAT. -/
def CNV_Gg_STAT_PH_LIMIT : Reg :=
  { base := 0x0420, stride := 0x10, count := 4, lo := 10, width := 1 }
/-- R156, `CNV_Gg_STAT` bits [11:11], RO, STAT. -/
def CNV_Gg_STAT_TUNED : Reg :=
  { base := 0x0420, stride := 0x10, count := 4, lo := 11, width := 1 }
/-- R156, `CNV_Gg_STAT` bits [12:12], RO, STAT. -/
def CNV_Gg_STAT_EQ_ACTIVE : Reg :=
  { base := 0x0420, stride := 0x10, count := 4, lo := 12, width := 1 }
/-- R156, `CNV_Gg_ON_DELAY` bits [9:0], RW, CFG. -/
def CNV_Gg_ON_DELAY : Reg :=
  { base := 0x0421, stride := 0x10, count := 4, width := 10, acc := .rw, cls := .cfg, reset := 50, ranges := [(0,
    1000)] }
/-- R156, `CNV_Gg_OFF_DELAY` bits [9:0], RW, CFG. -/
def CNV_Gg_OFF_DELAY : Reg :=
  { base := 0x0422, stride := 0x10, count := 4, width := 10, acc := .rw, cls := .cfg, reset := 200, ranges :=
    [(0, 1000)] }
/-- R156, `CNV_Gg_RAMP_ON` bits [8:0], RW, CFG. -/
def CNV_Gg_RAMP_ON : Reg :=
  { base := 0x0423, stride := 0x10, count := 4, width := 9, acc := .rw, cls := .cfg, reset := 50, ranges := [(1,
    500)] }
/-- R156, `CNV_Gg_RAMP_OFF` bits [8:0], RW, CFG. -/
def CNV_Gg_RAMP_OFF : Reg :=
  { base := 0x0424, stride := 0x10, count := 4, width := 9, acc := .rw, cls := .cfg, reset := 100, ranges := [(1,
    500)] }
/-- R156, `CNV_Gg_PHASE_OFS` bits [7:0], RW, CFG. -/
def CNV_Gg_PHASE_OFS : Reg :=
  { base := 0x0425, stride := 0x10, count := 4, width := 8, acc := .rw, cls := .cfg, resets := [0, 32, 64, 96] }
/-- R156, `CNV_Gg_KP` bits [10:0], RO, RUN. -/
def CNV_Gg_KP : Reg :=
  { base := 0x0426, stride := 0x10, count := 4, width := 11, cls := .run, reset := 256 }
/-- R156, `CNV_Gg_KI` bits [10:0], RO, RUN. -/
def CNV_Gg_KI : Reg :=
  { base := 0x0427, stride := 0x10, count := 4, width := 11, cls := .run, reset := 256 }
/-- R156, `CNV_Gg_IL` bits [15:0], RO, STAT. -/
def CNV_Gg_IL : Reg :=
  { base := 0x0428, stride := 0x10, count := 4 }
/-- R156, `CNV_Gg_PEAK` bits [10:0], RO, STAT. -/
def CNV_Gg_PEAK : Reg :=
  { base := 0x0429, stride := 0x10, count := 4, width := 11 }
/-- R157, `CNV_PHn_STAT` bits [2:0], RO, STAT. -/
def CNV_PHn_STAT_GROUP : Reg :=
  { base := 0x0460, stride := 0x10, count := 6, width := 3 }
/-- R157, `CNV_PHn_STAT` bits [3:3], RO, STAT. -/
def CNV_PHn_STAT_SWITCHING : Reg :=
  { base := 0x0460, stride := 0x10, count := 6, lo := 3, width := 1 }
/-- R157, `CNV_PHn_STAT` bits [4:4], RO, STAT. -/
def CNV_PHn_STAT_EXCLUDED : Reg :=
  { base := 0x0460, stride := 0x10, count := 6, lo := 4, width := 1 }
/-- R157, `CNV_PHn_STAT` bits [6:5], RO, STAT. -/
def CNV_PHn_STAT_CAUSE : Reg :=
  { base := 0x0460, stride := 0x10, count := 6, lo := 5, width := 2 }
/-- R157, `CNV_PHn_STAT` bits [7:7], RO, STAT. -/
def CNV_PHn_STAT_TRIM_SAT : Reg :=
  { base := 0x0460, stride := 0x10, count := 6, lo := 7, width := 1 }
/-- R157, `CNV_PHn_STAT` bits [8:8], RO, STAT. -/
def CNV_PHn_STAT_SHED : Reg :=
  { base := 0x0460, stride := 0x10, count := 6, lo := 8, width := 1 }
/-- R157, `CNV_PHn_I` bits [15:0], RO, STAT. -/
def CNV_PHn_I : Reg :=
  { base := 0x0461, stride := 0x10, count := 6 }
/-- R157, `CNV_PHn_TRIM` bits [7:0], RO, STAT. -/
def CNV_PHn_TRIM : Reg :=
  { base := 0x0462, stride := 0x10, count := 6, width := 8 }
/-- R157, `CNV_PHn_DT_U` bits [5:0], RO, RUN. -/
def CNV_PHn_DT_U_RISE : Reg :=
  { base := 0x0463, stride := 0x10, count := 6, width := 6, cls := .run, reset := 12 }
/-- R157, `CNV_PHn_DT_U` bits [11:6], RO, RUN. -/
def CNV_PHn_DT_U_FALL : Reg :=
  { base := 0x0463, stride := 0x10, count := 6, lo := 6, width := 6, cls := .run, reset := 12 }
/-- R157, `CNV_PHn_DT_D` bits [5:0], RO, RUN. -/
def CNV_PHn_DT_D_RISE : Reg :=
  { base := 0x0464, stride := 0x10, count := 6, width := 6, cls := .run, reset := 12 }
/-- R157, `CNV_PHn_DT_D` bits [11:6], RO, RUN. -/
def CNV_PHn_DT_D_FALL : Reg :=
  { base := 0x0464, stride := 0x10, count := 6, lo := 6, width := 6, cls := .run, reset := 12 }
/-- R157, `CNV_PHn_ZC_OFS` bits [15:0], RO, RUN. -/
def CNV_PHn_ZC_OFS : Reg :=
  { base := 0x0465, stride := 0x10, count := 6, cls := .run }
/-- R157, `CNV_PHn_PKLIM_CNT` bits [15:0], RO, RUN. -/
def CNV_PHn_PKLIM_CNT : Reg :=
  { base := 0x0466, stride := 0x10, count := 6, cls := .run }
/-- R191, `CHG_FAULT` bits [0:0], RC, RUN. -/
def CHG_FAULT_TIMEOUT : Reg :=
  { base := 0x0500, width := 1, acc := .rc, cls := .run }
/-- R191, `CHG_FAULT` bits [1:1], RC, RUN. -/
def CHG_FAULT_BAT_AGED : Reg :=
  { base := 0x0500, lo := 1, width := 1, acc := .rc, cls := .run }
/-- R191, `CHG_FAULT` bits [2:2], RC, RUN. -/
def CHG_FAULT_PROFILE_BAD : Reg :=
  { base := 0x0500, lo := 2, width := 1, acc := .rc, cls := .run }
/-- R191, `CHG_FAULT` bits [3:3], RC, RUN. -/
def CHG_FAULT_EQ_ABORT : Reg :=
  { base := 0x0500, lo := 3, width := 1, acc := .rc, cls := .run }
/-- R191, `CHG_STATUS` bits [3:0], RO, STAT. -/
def CHG_STATUS_STATE : Reg :=
  { base := 0x0501, width := 4 }
/-- R191, `CHG_STATUS` bits [4:4], RO, STAT. -/
def CHG_STATUS_HOLD : Reg :=
  { base := 0x0501, lo := 4, width := 1 }
/-- R191, `CHG_STATUS` bits [5:5], RO, STAT. -/
def CHG_STATUS_SAFE_PROFILE : Reg :=
  { base := 0x0501, lo := 5, width := 1 }
/-- R191, `CHG_STATUS` bits [6:6], RO, STAT. -/
def CHG_STATUS_COLD_BAND : Reg :=
  { base := 0x0501, lo := 6, width := 1 }
/-- R191, `CHG_STATUS` bits [7:7], RO, STAT. -/
def CHG_STATUS_WARM_BAND : Reg :=
  { base := 0x0501, lo := 7, width := 1 }
/-- R191, `CHG_STATUS` bits [8:8], RO, STAT. -/
def CHG_STATUS_FOLDBACK : Reg :=
  { base := 0x0501, lo := 8, width := 1 }
/-- R191, `CHG_STATUS` bits [9:9], RO, STAT. -/
def CHG_STATUS_AGED : Reg :=
  { base := 0x0501, lo := 9, width := 1 }
/-- R191, `CHG_STATUS` bits [10:10], RO, STAT. -/
def CHG_STATUS_TIMERS_RUN : Reg :=
  { base := 0x0501, lo := 10, width := 1 }
/-- R191, `CHG_HOLD` bits [0:0], RO, STAT. -/
def CHG_HOLD_TEMP : Reg :=
  { base := 0x0502, width := 1 }
/-- R191, `CHG_HOLD` bits [1:1], RO, STAT. -/
def CHG_HOLD_BMSOK : Reg :=
  { base := 0x0502, lo := 1, width := 1 }
/-- R191, `CHG_HOLD` bits [2:2], RO, STAT. -/
def CHG_HOLD_SUSPEND : Reg :=
  { base := 0x0502, lo := 2, width := 1 }
/-- R191, `CHG_HOLD` bits [3:3], RO, STAT. -/
def CHG_HOLD_RIDE : Reg :=
  { base := 0x0502, lo := 3, width := 1 }
/-- R191, `CHG_TIMEOUT_CAUSE` bits [0:0], RO, RET. -/
def CHG_TIMEOUT_CAUSE_SCALED : Reg :=
  { base := 0x0503, width := 1, cls := .ret }
/-- R191, `CHG_TIMEOUT_CAUSE` bits [1:1], RO, RET. -/
def CHG_TIMEOUT_CAUSE_ABSOLUTE : Reg :=
  { base := 0x0503, lo := 1, width := 1, cls := .ret }
/-- R191, `CHG_TIMEOUT_CAUSE` bits [2:2], RO, RET. -/
def CHG_TIMEOUT_CAUSE_PRECHARGE : Reg :=
  { base := 0x0503, lo := 2, width := 1, cls := .ret }
/-- R191, `CHG_TIMEOUT_CAUSE` bits [3:3], RO, RET. -/
def CHG_TIMEOUT_CAUSE_FOLDBACK_AT_EXPIRY : Reg :=
  { base := 0x0503, lo := 3, width := 1, cls := .ret }
/-- R191, `CHG_TIMEOUT_CAUSE` bits [4:4], RO, RET. -/
def CHG_TIMEOUT_CAUSE_PENDING : Reg :=
  { base := 0x0503, lo := 4, width := 1, cls := .ret }
/-- R191, `CHG_CTRL` bits [0:0], RW, CFG. -/
def CHG_CTRL_ENABLE : Reg :=
  { base := 0x0504, width := 1, acc := .rw, cls := .cfg, reset := 1 }
/-- R191, `CHG_CTRL` bits [1:1], RW, CFG. -/
def CHG_CTRL_AUTORESTART : Reg :=
  { base := 0x0504, lo := 1, width := 1, acc := .rw, cls := .cfg }
/-- R191, `CHG_CTRL` bits [2:2], RW, CFG. -/
def CHG_CTRL_BMSOK_EN : Reg :=
  { base := 0x0504, lo := 2, width := 1, acc := .rw, cls := .cfg, reset := 1 }
/-- R191, `CHG_CTRL` bits [3:3], RW, CFG. -/
def CHG_CTRL_BMSOK_POL : Reg :=
  { base := 0x0504, lo := 3, width := 1, acc := .rw, cls := .cfg, reset := 1 }
/-- R191, `CHG_PROFILE` bits [3:0], RW, CFG. -/
def CHG_PROFILE_CHEM : Reg :=
  { base := 0x0505, width := 4, acc := .rw, cls := .cfg }
/-- R191, `CHG_PROFILE` bits [7:4], RW, CFG. -/
def CHG_PROFILE_CELLS : Reg :=
  { base := 0x0505, lo := 4, width := 4, acc := .rw, cls := .cfg, reset := 8 }
/-- R191, `CHG_V_CELL_MAX` bits [15:0], RW, CFG. -/
def CHG_V_CELL_MAX : Reg :=
  { base := 0x0506, acc := .rw, cls := .cfg, reset := 3600, ranges := [(2000, 4350)] }
/-- R191, `CHG_V_FULL_REST` bits [15:0], RW, CFG. -/
def CHG_V_FULL_REST : Reg :=
  { base := 0x0507, acc := .rw, cls := .cfg, reset := 3400, ranges := [(1500, 4350)] }
/-- R191, `CHG_V_RECHARGE` bits [15:0], RW, CFG. -/
def CHG_V_RECHARGE : Reg :=
  { base := 0x0508, acc := .rw, cls := .cfg, reset := 3330, ranges := [(1500, 4350)] }
/-- R191, `CHG_V_PRE` bits [15:0], RW, CFG. -/
def CHG_V_PRE : Reg :=
  { base := 0x0509, acc := .rw, cls := .cfg, reset := 2500, ranges := [(1500, 4350)] }
/-- R191, `CHG_I_SET` bits [12:0], RW, CFG. -/
def CHG_I_SET : Reg :=
  { base := 0x050A, width := 13, acc := .rw, cls := .cfg, reset := 800, ranges := [(40, 4000)] }
/-- R191, `CHG_I_PRE` bits [8:0], RW, CFG. -/
def CHG_I_PRE : Reg :=
  { base := 0x050B, width := 9, acc := .rw, cls := .cfg, reset := 80, ranges := [(4, 400)] }
/-- R191, `CHG_I_TERM` bits [9:0], RW, CFG. -/
def CHG_I_TERM : Reg :=
  { base := 0x050C, width := 10, acc := .rw, cls := .cfg, reset := 100, ranges := [(4, 800)] }
/-- R191, `CHG_T_ON` bits [10:0], RW, CFG. -/
def CHG_T_ON : Reg :=
  { base := 0x050D, width := 11, acc := .rw, cls := .cfg, reset := 300, ranges := [(10, 1200)] }
/-- R191, `CHG_T_REST` bits [10:0], RW, CFG. -/
def CHG_T_REST : Reg :=
  { base := 0x050E, width := 11, acc := .rw, cls := .cfg, reset := 200, ranges := [(10, 2000)] }
/-- R191, `CHG_EDGE_RAMP` bits [5:0], RW, CFG. -/
def CHG_EDGE_RAMP : Reg :=
  { base := 0x050F, width := 6, acc := .rw, cls := .cfg, reset := 10, ranges := [(1, 50)] }
/-- R191, `CHG_T_PRE` bits [7:0], RW, CFG. -/
def CHG_T_PRE : Reg :=
  { base := 0x0510, width := 8, acc := .rw, cls := .cfg, reset := 60, ranges := [(1, 240)] }
/-- R191, `CHG_T_CHG` bits [11:0], RW, CFG. -/
def CHG_T_CHG : Reg :=
  { base := 0x0511, width := 12, acc := .rw, cls := .cfg, reset := 480, ranges := [(60, 2880)] }
/-- R191, `CHG_T_ABS` bits [12:0], RW, CFG. -/
def CHG_T_ABS : Reg :=
  { base := 0x0512, width := 13, acc := .rw, cls := .cfg, reset := 1440, ranges := [(60, 5760)] }
/-- R191, `CHG_T_MIN` bits [15:0], RW, CFG. -/
def CHG_T_MIN : Reg :=
  { base := 0x0513, acc := .rw, cls := .cfg, ranges := [(0, 600), (65136, 65535)] }
/-- R191, `CHG_T_MAX` bits [15:0], RW, CFG. -/
def CHG_T_MAX : Reg :=
  { base := 0x0514, acc := .rw, cls := .cfg, reset := 550, ranges := [(0, 800), (65136, 65535)] }
/-- R191, `CHG_T_COLD_END` bits [15:0], RW, CFG. -/
def CHG_T_COLD_END : Reg :=
  { base := 0x0515, acc := .rw, cls := .cfg, reset := 100, ranges := [(0, 600), (65136, 65535)] }
/-- R191, `CHG_COLD_SCALE` bits [8:0], RW, CFG. -/
def CHG_COLD_SCALE : Reg :=
  { base := 0x0516, width := 9, acc := .rw, cls := .cfg, reset := 64, ranges := [(0, 256)] }
/-- R191, `CHG_T_WARM_START` bits [15:0], RW, CFG. -/
def CHG_T_WARM_START : Reg :=
  { base := 0x0517, acc := .rw, cls := .cfg, reset := 450, ranges := [(0, 800), (65136, 65535)] }
/-- R191, `CHG_WARM_DV` bits [7:0], RW, CFG. -/
def CHG_WARM_DV : Reg :=
  { base := 0x0518, width := 8, acc := .rw, cls := .cfg, reset := 100, ranges := [(0, 200)] }
/-- R191, `CHG_VPOL_MAX` bits [7:0], RW, CFG. -/
def CHG_VPOL_MAX_LOW : Reg :=
  { base := 0x0519, count := 4, width := 8, acc := .rw, cls := .cfg, resets := [4, 9, 15, 20], ranges := [(1,
    255)] }
/-- R191, `CHG_VPOL_MAX` bits [15:8], RW, CFG. -/
def CHG_VPOL_MAX_HIGH : Reg :=
  { base := 0x0519, count := 4, lo := 8, width := 8, acc := .rw, cls := .cfg, resets := [6, 12, 18, 20], ranges
    := [(1, 255)] }
/-- R191, `CHG_AGE_FACTOR` bits [10:0], RW, CFG. -/
def CHG_AGE_FACTOR : Reg :=
  { base := 0x051D, width := 11, acc := .rw, cls := .cfg, reset := 384, ranges := [(272, 1024)] }
/-- R191, `CHG_R_REF` bits [15:0], RW, CFG. -/
def CHG_R_REF : Reg :=
  { base := 0x051E, acc := .rw, cls := .cfg }
/-- R191, `CHG_LA_V_FLOAT` bits [15:0], RW, CFG. -/
def CHG_LA_V_FLOAT : Reg :=
  { base := 0x051F, acc := .rw, cls := .cfg, reset := 2250, ranges := [(2100, 2350)] }
/-- R191, `CHG_LA_TCOMP` bits [6:0], RW, CFG. -/
def CHG_LA_TCOMP : Reg :=
  { base := 0x0520, width := 7, acc := .rw, cls := .cfg, reset := 40, ranges := [(0, 80)] }
/-- R191, `CHG_LA_I_ABS_END` bits [9:0], RW, CFG. -/
def CHG_LA_I_ABS_END : Reg :=
  { base := 0x0521, width := 10, acc := .rw, cls := .cfg, reset := 80, ranges := [(4, 800)] }
/-- R191, `CHG_LA_T_ABS_MAX` bits [9:0], RW, CFG. -/
def CHG_LA_T_ABS_MAX : Reg :=
  { base := 0x0522, width := 10, acc := .rw, cls := .cfg, reset := 240, ranges := [(10, 720)] }
/-- R191, `CHG_LA_V_EQ` bits [15:0], RW, CFG. -/
def CHG_LA_V_EQ : Reg :=
  { base := 0x0523, acc := .rw, cls := .cfg, reset := 2550, ranges := [(2400, 2650)] }
/-- R191, `CHG_LA_T_EQ` bits [8:0], RW, CFG. -/
def CHG_LA_T_EQ : Reg :=
  { base := 0x0524, width := 9, acc := .rw, cls := .cfg, reset := 120, ranges := [(30, 480)] }
/-- R191, `CHG_LA_I_EQ` bits [9:0], RW, CFG. -/
def CHG_LA_I_EQ : Reg :=
  { base := 0x0525, width := 10, acc := .rw, cls := .cfg, reset := 200, ranges := [(4, 800)] }
/-- R191, `CHG_I_PULSE` bits [12:0], RO, STAT. -/
def CHG_I_PULSE : Reg :=
  { base := 0x0526, width := 13 }
/-- R191, `CHG_I_TARGET` bits [12:0], RO, STAT. -/
def CHG_I_TARGET : Reg :=
  { base := 0x0527, width := 13 }
/-- R191, `CHG_V_LIMIT` bits [15:0], RO, STAT. -/
def CHG_V_LIMIT : Reg :=
  { base := 0x0528 }
/-- R191, `CHG_REST_V` bits [15:0], RO, STAT. -/
def CHG_REST_V : Reg :=
  { base := 0x0529, count := 3 }
/-- R191, `CHG_R_OHM` bits [15:0], RO, STAT. -/
def CHG_R_OHM : Reg :=
  { base := 0x052C }
/-- R191, `CHG_V_POL` bits [15:0], RO, STAT. -/
def CHG_V_POL : Reg :=
  { base := 0x052D }
/-- R191, `CHG_RHO` bits [12:0], RO, STAT. -/
def CHG_RHO : Reg :=
  { base := 0x052E, width := 13 }
/-- R191, `CHG_R_TREND` bits [15:0], RO, RET. -/
def CHG_R_TREND : Reg :=
  { base := 0x052F, cls := .ret }
/-- R191, `CHG_R_TREND_N` bits [15:0], RO, RET. -/
def CHG_R_TREND_N : Reg :=
  { base := 0x0530, cls := .ret }
/-- R191, `CHG_REST_INVALID` bits [15:0], RO, RUN. -/
def CHG_REST_INVALID : Reg :=
  { base := 0x0531, cls := .run }
/-- R191, `CHG_TERM_CNT` bits [1:0], RO, STAT. -/
def CHG_TERM_CNT : Reg :=
  { base := 0x0532, width := 2 }
/-- R191, `CHG_TCHG_ACC` bits [31:0], RO, RET. -/
def CHG_TCHG_ACC : Reg :=
  { base := 0x0533, stride := 0x2, width := 32, cls := .ret }
/-- R191, `CHG_TABS` bits [31:0], RO, RET. -/
def CHG_TABS : Reg :=
  { base := 0x0535, stride := 0x2, width := 32, cls := .ret }
/-- R191, `CHG_FULL` bits [0:0], RO, RET. -/
def CHG_FULL : Reg :=
  { base := 0x0537, width := 1, cls := .ret }
/-- R191, `CHG_OTP_MASK` bits [5:1], RO, OTP. -/
def CHG_OTP_MASK : Reg :=
  { base := 0x0538, lo := 1, width := 5, cls := .otp, reset := 31 }
/-- R191, `CHG_OTP_VMAX_LFP` bits [15:0], RO, OTP. -/
def CHG_OTP_VMAX_LFP : Reg :=
  { base := 0x0539, cls := .otp, reset := 3650 }
/-- R191, `CHG_OTP_VMAX_NMC` bits [15:0], RO, OTP. -/
def CHG_OTP_VMAX_NMC : Reg :=
  { base := 0x053A, cls := .otp, reset := 4200 }
/-- R191, `CHG_OTP_VMAX_LA` bits [15:0], RO, OTP. -/
def CHG_OTP_VMAX_LA : Reg :=
  { base := 0x053B, cls := .otp, reset := 2650 }
/-- R191, `CHG_T_COLD_NOW` bits [15:0], RO, STAT. -/
def CHG_T_COLD_NOW : Reg :=
  { base := 0x053C }
/-- R191, `CHG_T_WARM_NOW` bits [15:0], RO, STAT. -/
def CHG_T_WARM_NOW : Reg :=
  { base := 0x053D }
/-- R213, `PP_FAULT` bits [0:0], RC, RUN. -/
def PP_FAULT_DSG_OC : Reg :=
  { base := 0x0600, width := 1, acc := .rc, cls := .run }
/-- R213, `PP_FAULT` bits [1:1], RC, RUN. -/
def PP_FAULT_SHORT_CIRCUIT : Reg :=
  { base := 0x0600, lo := 1, width := 1, acc := .rc, cls := .run }
/-- R213, `PP_FAULT` bits [2:2], RC, RUN. -/
def PP_FAULT_LOCKOUT : Reg :=
  { base := 0x0600, lo := 2, width := 1, acc := .rc, cls := .run }
/-- R213, `PP_FAULT` bits [3:3], RC, RUN. -/
def PP_FAULT_BAT_MISSING : Reg :=
  { base := 0x0600, lo := 3, width := 1, acc := .rc, cls := .run }
/-- R213, `PP_FAULT` bits [4:4], RC, RUN. -/
def PP_FAULT_BAT_SHORT : Reg :=
  { base := 0x0600, lo := 4, width := 1, acc := .rc, cls := .run }
/-- R213, `PP_FAULT` bits [5:5], RC, RUN. -/
def PP_FAULT_BAT_LOST : Reg :=
  { base := 0x0600, lo := 5, width := 1, acc := .rc, cls := .run }
/-- R213, `PP_FAULT` bits [6:6], RC, RUN. -/
def PP_FAULT_BAT_UV : Reg :=
  { base := 0x0600, lo := 6, width := 1, acc := .rc, cls := .run }
/-- R213, `PP_FAULT` bits [7:7], RC, RET. -/
def PP_FAULT_UV_CUTOFF : Reg :=
  { base := 0x0600, lo := 7, width := 1, acc := .rc, cls := .ret }
/-- R213, `PP_FAULT` bits [8:8], RC, RUN. -/
def PP_FAULT_COLD_START : Reg :=
  { base := 0x0600, lo := 8, width := 1, acc := .rc, cls := .run }
/-- R213, `PP_STATUS` bits [2:0], RO, STAT. -/
def PP_STATUS_ROLE : Reg :=
  { base := 0x0601, width := 3 }
/-- R213, `PP_STATUS` bits [5:3], RO, STAT. -/
def PP_STATUS_BAT : Reg :=
  { base := 0x0601, lo := 3, width := 3 }
/-- R213, `PP_STATUS` bits [6:6], RO, STAT. -/
def PP_STATUS_SUPPL : Reg :=
  { base := 0x0601, lo := 6, width := 1 }
/-- R213, `PP_STATUS` bits [7:7], RO, STAT. -/
def PP_STATUS_UV_INHIBIT : Reg :=
  { base := 0x0601, lo := 7, width := 1 }
/-- R213, `PP_STATUS` bits [8:8], RO, STAT. -/
def PP_STATUS_PLIM : Reg :=
  { base := 0x0601, lo := 8, width := 1 }
/-- R213, `PP_STATUS` bits [9:9], RO, STAT. -/
def PP_STATUS_VSU_ON : Reg :=
  { base := 0x0601, lo := 9, width := 1 }
/-- R213, `PP_STATUS` bits [10:10], RO, STAT. -/
def PP_STATUS_COLD_START : Reg :=
  { base := 0x0601, lo := 10, width := 1 }
/-- R213, `PP_STATUS` bits [11:11], RO, STAT. -/
def PP_STATUS_RETRY_WAIT : Reg :=
  { base := 0x0601, lo := 11, width := 1 }
/-- R213, `PP_VSYS_MIN` bits [15:0], RW, CFG. -/
def PP_VSYS_MIN : Reg :=
  { base := 0x0602, acc := .rw, cls := .cfg, reset := 1200, ranges := [(900, 2400)] }
/-- R213, `PP_SYS_TARGET` bits [15:0], RO, STAT. -/
def PP_SYS_TARGET : Reg :=
  { base := 0x0603 }
/-- R213, `PP_SHUNT` bits [9:0], RW, CFG. -/
def PP_SHUNT : Reg :=
  { base := 0x0604, width := 10, acc := .rw, cls := .cfg, reset := 250, ranges := [(50, 500)] }
/-- R213, `PP_OC` bits [14:0], RW, CFG. -/
def PP_OC : Reg :=
  { base := 0x0605, width := 15, acc := .rw, cls := .cfg, reset := 4000, ranges := [(2000, 16000)] }
/-- R213, `PP_OC_DELAY` bits [9:0], RW, CFG. -/
def PP_OC_DELAY : Reg :=
  { base := 0x0606, width := 10, acc := .rw, cls := .cfg, reset := 20, ranges := [(1, 1000)] }
/-- R213, `PP_SC` bits [14:0], RW, CFG. -/
def PP_SC : Reg :=
  { base := 0x0607, width := 15, acc := .rw, cls := .cfg, reset := 8000, ranges := [(0, 32000)] }
/-- R213, `PP_RETRY` bits [5:0], RW, CFG. -/
def PP_RETRY : Reg :=
  { base := 0x0608, width := 6, acc := .rw, cls := .cfg, reset := 5, ranges := [(1, 60)] }
/-- R213, `PP_FET_PMAX` bits [8:0], RW, CFG. -/
def PP_FET_PMAX : Reg :=
  { base := 0x0609, width := 9, acc := .rw, cls := .cfg, reset := 100, ranges := [(10, 500)] }
/-- R213, `PP_V_SHORT` bits [7:0], RW, CFG. -/
def PP_V_SHORT : Reg :=
  { base := 0x060A, width := 8, acc := .rw, cls := .cfg, reset := 50, ranges := [(10, 150)] }
/-- R213, `PP_T_SHORT` bits [5:0], RW, CFG. -/
def PP_T_SHORT : Reg :=
  { base := 0x060B, width := 6, acc := .rw, cls := .cfg, reset := 10, ranges := [(1, 60)] }
/-- R213, `PP_UV_CELL` bits [15:0], RW, CFG. -/
def PP_UV_CELL : Reg :=
  { base := 0x060C, acc := .rw, cls := .cfg, reset := 2300, ranges := [(1500, 3500)] }
/-- R213, `PP_UV_DELAY` bits [9:0], RW, CFG. -/
def PP_UV_DELAY : Reg :=
  { base := 0x060D, width := 10, acc := .rw, cls := .cfg, reset := 30, ranges := [(1, 600)] }
/-- R213, `PP_LIN_I` bits [12:0], RO, STAT. -/
def PP_LIN_I : Reg :=
  { base := 0x060E, width := 13 }
/-- R213, `PP_TRIP_CNT` bits [15:0], RO, RET. -/
def PP_TRIP_CNT : Reg :=
  { base := 0x060F, cls := .ret }
/-- R213, `PP_CMD` bits [0:0], WO, RUN. -/
def PP_CMD_RETRY_NOW : Reg :=
  { base := 0x0610, width := 1, acc := .wo, cls := .run }
/-- R213, `PP_CMD` bits [1:1], WO, RUN. -/
def PP_CMD_PROBE_NOW : Reg :=
  { base := 0x0610, lo := 1, width := 1, acc := .wo, cls := .run }
/-- R243, `AUX_FAULT` bits [0:0], RC, RUN. -/
def AUX_FAULT_VAUX_SHORT : Reg :=
  { base := 0x0700, width := 1, acc := .rc, cls := .run }
/-- R243, `AUX_FAULT` bits [1:1], RC, RUN. -/
def AUX_FAULT_VPRE_SHORT : Reg :=
  { base := 0x0700, lo := 1, width := 1, acc := .rc, cls := .run }
/-- R243, `AUX_FAULT` bits [2:2], RC, RUN. -/
def AUX_FAULT_RAILA_SHORT : Reg :=
  { base := 0x0700, lo := 2, width := 1, acc := .rc, cls := .run }
/-- R243, `AUX_FAULT` bits [3:3], RC, RUN. -/
def AUX_FAULT_RAILB_SHORT : Reg :=
  { base := 0x0700, lo := 3, width := 1, acc := .rc, cls := .run }
/-- R243, `AUX_FAULT` bits [4:4], RC, RUN. -/
def AUX_FAULT_RAILA_OV : Reg :=
  { base := 0x0700, lo := 4, width := 1, acc := .rc, cls := .run }
/-- R243, `AUX_FAULT` bits [5:5], RC, RUN. -/
def AUX_FAULT_RAILB_OV : Reg :=
  { base := 0x0700, lo := 5, width := 1, acc := .rc, cls := .run }
/-- R243, `AUX_FAULT` bits [6:6], RC, RUN. -/
def AUX_FAULT_TUNE_A : Reg :=
  { base := 0x0700, lo := 6, width := 1, acc := .rc, cls := .run }
/-- R243, `AUX_FAULT` bits [7:7], RC, RUN. -/
def AUX_FAULT_TUNE_B : Reg :=
  { base := 0x0700, lo := 7, width := 1, acc := .rc, cls := .run }
/-- R243, `AUX_FAULT` bits [8:8], RC, RUN. -/
def AUX_FAULT_VAUX_OVLD : Reg :=
  { base := 0x0700, lo := 8, width := 1, acc := .rc, cls := .run }
/-- R243, `AUX_STATUS` bits [0:0], RO, STAT. -/
def AUX_STATUS_VAUX_ON : Reg :=
  { base := 0x0701, width := 1 }
/-- R243, `AUX_STATUS` bits [1:1], RO, STAT. -/
def AUX_STATUS_VAUX_REG : Reg :=
  { base := 0x0701, lo := 1, width := 1 }
/-- R243, `AUX_STATUS` bits [2:2], RO, STAT. -/
def AUX_STATUS_VAUX_ILIM : Reg :=
  { base := 0x0701, lo := 2, width := 1 }
/-- R243, `AUX_STATUS` bits [3:3], RO, STAT. -/
def AUX_STATUS_VPRE_ON : Reg :=
  { base := 0x0701, lo := 3, width := 1 }
/-- R243, `AUX_STATUS` bits [4:4], RO, STAT. -/
def AUX_STATUS_VPRE_REG : Reg :=
  { base := 0x0701, lo := 4, width := 1 }
/-- R243, `AUX_STATUS` bits [5:5], RO, STAT. -/
def AUX_STATUS_VPRE_HOLD_DRV : Reg :=
  { base := 0x0701, lo := 5, width := 1 }
/-- R243, `AUX_VAUX_V` bits [15:0], RO, STAT. -/
def AUX_VAUX_V : Reg :=
  { base := 0x0702 }
/-- R243, `AUX_VAUX_I` bits [15:0], RO, STAT. -/
def AUX_VAUX_I : Reg :=
  { base := 0x0703 }
/-- R243, `AUX_VAUX_SET` bits [15:0], RO, STAT. -/
def AUX_VAUX_SET : Reg :=
  { base := 0x0704, reset := 1200 }
/-- R243, `AUX_CTRL` bits [0:0], RW, CFG. -/
def AUX_CTRL_VAUX_KEEP : Reg :=
  { base := 0x0705, width := 1, acc := .rw, cls := .cfg }
/-- R243, `AUX_CTRL` bits [1:1], RW, CFG. -/
def AUX_CTRL_VPRE_KEEP : Reg :=
  { base := 0x0705, lo := 1, width := 1, acc := .rw, cls := .cfg }
/-- R243, `AUX_PRE_ON_DELAY` bits [8:0], RW, CFG. -/
def AUX_PRE_ON_DELAY : Reg :=
  { base := 0x0706, width := 9, acc := .rw, cls := .cfg, ranges := [(0, 500)] }
/-- R243, `AUX_PRE_OFF_DELAY` bits [8:0], RW, CFG. -/
def AUX_PRE_OFF_DELAY : Reg :=
  { base := 0x0707, width := 9, acc := .rw, cls := .cfg, ranges := [(0, 500)] }
/-- R243, `AUX_PRE_RAMP` bits [7:0], RW, CFG. -/
def AUX_PRE_RAMP : Reg :=
  { base := 0x0708, width := 8, acc := .rw, cls := .cfg, reset := 10, ranges := [(1, 200)] }
/-- R243, `AUX_PRE_SHUNT` bits [6:0], RW, CFG. -/
def AUX_PRE_SHUNT : Reg :=
  { base := 0x0709, width := 7, acc := .rw, cls := .cfg, reset := 50, ranges := [(20, 100)] }
/-- R243, `AUX_PRE_ILIM` bits [8:0], RW, CFG. -/
def AUX_PRE_ILIM : Reg :=
  { base := 0x070A, width := 9, acc := .rw, cls := .cfg, reset := 360, ranges := [(80, 400)] }
/-- R243, `AUX_PRE_V` bits [15:0], RO, STAT. -/
def AUX_PRE_V : Reg :=
  { base := 0x070B }
/-- R243, `AUX_PRE_I` bits [15:0], RO, STAT. -/
def AUX_PRE_I : Reg :=
  { base := 0x070C }
/-- R243, `AUX_PRE_EXT_P` bits [15:0], RO, STAT. -/
def AUX_PRE_EXT_P : Reg :=
  { base := 0x070D }
/-- R243, `AUX_CMD` bits [0:0], WO, RUN. -/
def AUX_CMD : Reg :=
  { base := 0x070E, width := 1, acc := .wo, cls := .run }
/-- R244, `RAIL_x_STAT` bits [2:0], RO, STAT. -/
def RAIL_x_STAT_STATE : Reg :=
  { base := 0x0710, stride := 0x10, count := 2, width := 3 }
/-- R244, `RAIL_x_STAT` bits [4:3], RO, STAT. -/
def RAIL_x_STAT_PS : Reg :=
  { base := 0x0710, stride := 0x10, count := 2, lo := 3, width := 2 }
/-- R244, `RAIL_x_STAT` bits [5:5], RO, STAT. -/
def RAIL_x_STAT_SETTLED : Reg :=
  { base := 0x0710, stride := 0x10, count := 2, lo := 5, width := 1 }
/-- R244, `RAIL_x_STAT` bits [6:6], RO, STAT. -/
def RAIL_x_STAT_SLEWING : Reg :=
  { base := 0x0710, stride := 0x10, count := 2, lo := 6, width := 1 }
/-- R244, `RAIL_x_STAT` bits [7:7], RO, STAT. -/
def RAIL_x_STAT_SUPERSEDED : Reg :=
  { base := 0x0710, stride := 0x10, count := 2, lo := 7, width := 1 }
/-- R244, `RAIL_x_STAT` bits [8:8], RO, STAT. -/
def RAIL_x_STAT_ALERT : Reg :=
  { base := 0x0710, stride := 0x10, count := 2, lo := 8, width := 1 }
/-- R244, `RAIL_x_STAT` bits [9:9], RO, STAT. -/
def RAIL_x_STAT_BURST : Reg :=
  { base := 0x0710, stride := 0x10, count := 2, lo := 9, width := 1 }
/-- R244, `RAIL_x_STAT` bits [10:10], RO, STAT. -/
def RAIL_x_STAT_DE : Reg :=
  { base := 0x0710, stride := 0x10, count := 2, lo := 10, width := 1 }
/-- R244, `RAIL_x_STAT` bits [12:11], RO, STAT. -/
def RAIL_x_STAT_FAILS : Reg :=
  { base := 0x0710, stride := 0x10, count := 2, lo := 11, width := 2 }
/-- R244, `RAIL_x_VID` bits [7:0], RW, CFG. -/
def RAIL_x_VID_INIT : Reg :=
  { base := 0x0711, stride := 0x10, count := 2, width := 8, acc := .rw, cls := .cfg, resets := [100, 210] }
/-- R244, `RAIL_x_VID` bits [15:8], RW, CFG. -/
def RAIL_x_VID_MAX : Reg :=
  { base := 0x0711, stride := 0x10, count := 2, lo := 8, width := 8, acc := .rw, cls := .cfg, resets := [200,
    240] }
/-- R244, `RAIL_x_TARGET` bits [7:0], RO, RUN. -/
def RAIL_x_TARGET : Reg :=
  { base := 0x0712, stride := 0x10, count := 2, width := 8, cls := .run, resets := [100, 210] }
/-- R244, `RAIL_x_V` bits [15:0], RO, STAT. -/
def RAIL_x_V : Reg :=
  { base := 0x0713, stride := 0x10, count := 2 }
/-- R244, `RAIL_x_I` bits [15:0], RO, STAT. -/
def RAIL_x_I : Reg :=
  { base := 0x0714, stride := 0x10, count := 2 }
/-- R244, `RAIL_x_PIN` bits [15:0], RO, STAT. -/
def RAIL_x_PIN : Reg :=
  { base := 0x0715, stride := 0x10, count := 2 }
/-- R244, `RAIL_x_POUT` bits [15:0], RO, STAT. -/
def RAIL_x_POUT : Reg :=
  { base := 0x0716, stride := 0x10, count := 2 }
/-- R244, `RAIL_x_ON_DELAY` bits [8:0], RW, CFG. -/
def RAIL_x_ON_DELAY : Reg :=
  { base := 0x0717, stride := 0x10, count := 2, width := 9, acc := .rw, cls := .cfg, ranges := [(0, 500)] }
/-- R244, `RAIL_x_OFF_DELAY` bits [8:0], RW, CFG. -/
def RAIL_x_OFF_DELAY : Reg :=
  { base := 0x0718, stride := 0x10, count := 2, width := 9, acc := .rw, cls := .cfg, ranges := [(0, 500)] }
/-- R244, `RAIL_x_RAMP` bits [7:0], RW, CFG. -/
def RAIL_x_RAMP : Reg :=
  { base := 0x0719, stride := 0x10, count := 2, width := 8, acc := .rw, cls := .cfg, reset := 10, ranges := [(1,
    200)] }
/-- R244, `RAIL_x_CFG` bits [5:0], RW, CFG. -/
def RAIL_x_CFG_SLEW_INIT : Reg :=
  { base := 0x071A, stride := 0x10, count := 2, width := 6, acc := .rw, cls := .cfg, reset := 20, ranges := [(1,
    40)] }
/-- R244, `RAIL_x_CFG` bits [6:6], RW, CFG. -/
def RAIL_x_CFG_AUTO_DE : Reg :=
  { base := 0x071A, stride := 0x10, count := 2, lo := 6, width := 1, acc := .rw, cls := .cfg, reset := 1 }
/-- R244, `RAIL_x_CFG` bits [7:7], RW, CFG. -/
def RAIL_x_CFG_SETTLE_ALERT : Reg :=
  { base := 0x071A, stride := 0x10, count := 2, lo := 7, width := 1, acc := .rw, cls := .cfg, reset := 1 }
/-- R244, `RAIL_x_CFG` bits [8:8], RW, CFG. -/
def RAIL_x_CFG_KEEP_VID : Reg :=
  { base := 0x071A, stride := 0x10, count := 2, lo := 8, width := 1, acc := .rw, cls := .cfg }
/-- R244, `RAIL_x_CFG` bits [10:9], RW, CFG. -/
def RAIL_x_CFG_PS_INIT : Reg :=
  { base := 0x071A, stride := 0x10, count := 2, lo := 9, width := 2, acc := .rw, cls := .cfg }
/-- R244, `RAIL_x_L` bits [7:0], RW, CFG. -/
def RAIL_x_L : Reg :=
  { base := 0x071B, stride := 0x10, count := 2, width := 8, acc := .rw, cls := .cfg, resets := [33, 100] }
/-- R244, `RAIL_x_RINJ` bits [4:0], RO, RUN. -/
def RAIL_x_RINJ : Reg :=
  { base := 0x071C, stride := 0x10, count := 2, width := 5, cls := .run, reset := 16 }
/-- R244, `RAIL_x_ESR` bits [15:0], RO, RUN. -/
def RAIL_x_ESR : Reg :=
  { base := 0x071D, stride := 0x10, count := 2, cls := .run }
/-- R244, `RAIL_x_SLEW` bits [5:0], RO, RUN. -/
def RAIL_x_SLEW : Reg :=
  { base := 0x071E, stride := 0x10, count := 2, width := 6, cls := .run, resets := [20, 20] }
/-- R246, `RCL_CTRL` bits [0:0], RW, CFG. -/
def RCL_CTRL_EN : Reg :=
  { base := 0x0730, width := 1, acc := .rw, cls := .cfg, reset := 1 }
/-- R246, `RCL_CTRL` bits [1:1], RW, CFG. -/
def RCL_CTRL_VALT_EN : Reg :=
  { base := 0x0730, lo := 1, width := 1, acc := .rw, cls := .cfg, reset := 1 }
/-- R246, `RCL_STATUS` bits [0:0], RO, STAT. -/
def RCL_STATUS : Reg :=
  { base := 0x0731, width := 1 }
/-- R246, `RCL_ACK_CNT` bits [15:0], RO, RUN. -/
def RCL_ACK_CNT : Reg :=
  { base := 0x0732, cls := .run }
/-- R246, `RCL_NAK_CNT` bits [7:0], RO, RUN. -/
def RCL_NAK_CNT_PARITY : Reg :=
  { base := 0x0733, width := 8, cls := .run }
/-- R246, `RCL_NAK_CNT` bits [15:8], RO, RUN. -/
def RCL_NAK_CNT_OTHER : Reg :=
  { base := 0x0733, lo := 8, width := 8, cls := .run }
/-- R246, `RCL_ABORT_CNT` bits [15:0], RO, RUN. -/
def RCL_ABORT_CNT : Reg :=
  { base := 0x0734, cls := .run }

end Sys2Proof.Machine.R
end

