-- ==== Sys2Proof/Machine/RegsB.lean ====
section
/-! DEFINITION. The register fields of blocks 0x0800 to 0x1100 and up, one constant per field of the field tables of the spec. -/

namespace Sys2Proof.Machine.R

/-- R263, `MEAS_FAULT` bits [0:0], RC, RUN. -/
def MEAS_FAULT_CC_SAT : Reg :=
  { base := 0x0800, width := 1, acc := .rc, cls := .run }
/-- R263, `MEAS_FAULT` bits [1:1], RC, RUN. -/
def MEAS_FAULT_OFS_STALE : Reg :=
  { base := 0x0800, lo := 1, width := 1, acc := .rc, cls := .run }
/-- R263, `MEAS_FAULT` bits [2:2], RC, RUN. -/
def MEAS_FAULT_REF_FAIL : Reg :=
  { base := 0x0800, lo := 2, width := 1, acc := .rc, cls := .run }
/-- R263, `MEAS_FAULT` bits [3:3], RC, RUN. -/
def MEAS_FAULT_HORIZON_SHORT : Reg :=
  { base := 0x0800, lo := 3, width := 1, acc := .rc, cls := .run }
/-- R263, `MEAS_STATUS` bits [0:0], RO, STAT. -/
def MEAS_STATUS_ADC_RUN : Reg :=
  { base := 0x0801, width := 1 }
/-- R263, `MEAS_STATUS` bits [1:1], RO, STAT. -/
def MEAS_STATUS_CC_RUN : Reg :=
  { base := 0x0801, lo := 1, width := 1 }
/-- R263, `MEAS_STATUS` bits [2:2], RO, RET. -/
def MEAS_STATUS_OFS_VALID : Reg :=
  { base := 0x0801, lo := 2, width := 1, cls := .ret }
/-- R263, `MEAS_STATUS` bits [3:3], RO, STAT. -/
def MEAS_STATUS_CC_SAT : Reg :=
  { base := 0x0801, lo := 3, width := 1 }
/-- R263, `MEAS_STATUS` bits [4:4], RO, STAT. -/
def MEAS_STATUS_DECODE_BUSY : Reg :=
  { base := 0x0801, lo := 4, width := 1 }
/-- R263, `MEAS_VBAT` bits [15:0], RO, STAT. -/
def MEAS_VBAT : Reg :=
  { base := 0x0802 }
/-- R263, `MEAS_IBAT` bits [15:0], RO, STAT. -/
def MEAS_IBAT : Reg :=
  { base := 0x0803 }
/-- R263, `MEAS_CC_RAW` bits [31:0], RO, STAT. -/
def MEAS_CC_RAW : Reg :=
  { base := 0x0804, stride := 0x2, width := 32 }
/-- R263, `MEAS_CC_OFS` bits [15:0], RO, RET. -/
def MEAS_CC_OFS : Reg :=
  { base := 0x0806, cls := .ret }
/-- R263, `MEAS_CC_OFS_AGE` bits [15:0], RO, STAT. -/
def MEAS_CC_OFS_AGE : Reg :=
  { base := 0x0807, reset := 65535 }
/-- R263, `MEAS_CC_OFS_CNT` bits [15:0], RO, RET. -/
def MEAS_CC_OFS_CNT : Reg :=
  { base := 0x0808, cls := .ret }
/-- R263, `MEAS_CC_OFS_REJ` bits [15:0], RO, RUN. -/
def MEAS_CC_OFS_REJ : Reg :=
  { base := 0x0809, cls := .run }
/-- R263, `MEAS_CC_REJECT` bits [10:0], RW, CFG. -/
def MEAS_CC_REJECT : Reg :=
  { base := 0x080A, width := 11, acc := .rw, cls := .cfg, reset := 64, ranges := [(8, 1024)] }
/-- R263, `MEAS_CC_I` bits [15:0], RO, STAT. -/
def MEAS_CC_I : Reg :=
  { base := 0x080B }
/-- R264, `LDG_STATUS` bits [0:0], RO, RET. -/
def LDG_STATUS_EREM_VALID : Reg :=
  { base := 0x0820, width := 1, cls := .ret }
/-- R264, `LDG_STATUS` bits [1:1], RO, STAT. -/
def LDG_STATUS_AT_MIN : Reg :=
  { base := 0x0820, lo := 1, width := 1 }
/-- R264, `LDG_STATUS` bits [2:2], RO, STAT. -/
def LDG_STATUS_AT_MAX : Reg :=
  { base := 0x0820, lo := 2, width := 1 }
/-- R264, `LDG_STATUS` bits [3:3], RO, STAT. -/
def LDG_STATUS_SHORT : Reg :=
  { base := 0x0820, lo := 3, width := 1 }
/-- R264, `LDG_CTRL` bits [0:0], RW, CFG. -/
def LDG_CTRL : Reg :=
  { base := 0x0821, width := 1, acc := .rw, cls := .cfg, reset := 1 }
/-- R264, `LDG_TARGET_DAYS` bits [5:0], RW, CFG. -/
def LDG_TARGET_DAYS : Reg :=
  { base := 0x0822, width := 6, acc := .rw, cls := .cfg, reset := 14, ranges := [(1, 60)] }
/-- R264, `LDG_POLL_MIN` bits [13:0], RW, CFG. -/
def LDG_POLL_MIN : Reg :=
  { base := 0x0823, width := 14, acc := .rw, cls := .cfg, reset := 6, ranges := [(1, 8640)] }
/-- R264, `LDG_POLL_MAX` bits [13:0], RW, CFG. -/
def LDG_POLL_MAX : Reg :=
  { base := 0x0824, width := 14, acc := .rw, cls := .cfg, reset := 360, ranges := [(1, 8640)] }
/-- R264, `LDG_POLL_INTERVAL` bits [13:0], RO, RUN. -/
def LDG_POLL_INTERVAL : Reg :=
  { base := 0x0825, width := 14, cls := .run, reset := 360 }
/-- R264, `LDG_HORIZON` bits [15:0], RO, STAT. -/
def LDG_HORIZON : Reg :=
  { base := 0x0826, reset := 65535 }
/-- R264, `LDG_P_YARD` bits [15:0], RO, STAT. -/
def LDG_P_YARD : Reg :=
  { base := 0x0827 }
/-- R264, `LDG_P_SLEEP` bits [15:0], RO, STAT. -/
def LDG_P_SLEEP : Reg :=
  { base := 0x0828 }
/-- R264, `LDG_E_POLL` bits [15:0], RO, RET. -/
def LDG_E_POLL : Reg :=
  { base := 0x0829, cls := .ret }
/-- R264, `LDG_SLEEP_DEV` bits [6:0], RW, CFG. -/
def LDG_SLEEP_DEV : Reg :=
  { base := 0x082A, width := 7, acc := .rw, cls := .cfg, reset := 4, ranges := [(1, 100)] }
/-- R264, `LDG_BAT_EFF` bits [8:0], RW, CFG. -/
def LDG_BAT_EFF : Reg :=
  { base := 0x082B, width := 9, acc := .rw, cls := .cfg, reset := 250, ranges := [(192, 256)] }
/-- R264, `LDG_BAT_USABLE` bits [31:0], RW, CFG. -/
def LDG_BAT_USABLE : Reg :=
  { base := 0x082C, stride := 0x2, width := 32, acc := .rw, cls := .cfg, ranges := [(0, 100000000)] }
/-- R264, `LDG_E_REM` bits [31:0], RW, RET. -/
def LDG_E_REM : Reg :=
  { base := 0x082E, stride := 0x2, width := 32, acc := .rw, cls := .ret }
/-- R264, `LDG_SNAP_SEQ` bits [15:0], RO, RUN. -/
def LDG_SNAP_SEQ : Reg :=
  { base := 0x0830, cls := .run }
/-- R264, `LDG_CMD` bits [0:0], WO, RUN. -/
def LDG_CMD_CLEAR_COUNTERS : Reg :=
  { base := 0x0831, width := 1, acc := .wo, cls := .run }
/-- R264, `LDG_CMD` bits [1:1], WO, RUN. -/
def LDG_CMD_SNAPSHOT_NOW : Reg :=
  { base := 0x0831, lo := 1, width := 1, acc := .wo, cls := .run }
/-- R264, `LDG_COUNTERk` bits [47:0], RO, RET. -/
def LDG_COUNTERk : Reg :=
  { base := 0x0840, stride := 0x4, count := 12, width := 48, cls := .ret }
/-- R293, `LINE_FAULT` bits [0:0], RC, RUN. -/
def LINE_FAULT_A_SHORT : Reg :=
  { base := 0x0900, width := 1, acc := .rc, cls := .run }
/-- R293, `LINE_FAULT` bits [1:1], RC, RUN. -/
def LINE_FAULT_B_SHORT : Reg :=
  { base := 0x0900, lo := 1, width := 1, acc := .rc, cls := .run }
/-- R293, `LINE_FAULT` bits [2:2], RC, RUN. -/
def LINE_FAULT_A_KA_OVLD : Reg :=
  { base := 0x0900, lo := 2, width := 1, acc := .rc, cls := .run }
/-- R293, `LINE_FAULT` bits [3:3], RC, RUN. -/
def LINE_FAULT_B_KA_OVLD : Reg :=
  { base := 0x0900, lo := 3, width := 1, acc := .rc, cls := .run }
/-- R293, `LINE_FAULT` bits [4:4], RC, RUN. -/
def LINE_FAULT_NODE_LOST : Reg :=
  { base := 0x0900, lo := 4, width := 1, acc := .rc, cls := .run }
/-- R293, `LINE_FAULT` bits [5:5], RC, RUN. -/
def LINE_FAULT_OVERFLOW : Reg :=
  { base := 0x0900, lo := 5, width := 1, acc := .rc, cls := .run }
/-- R293, `LINE_FAULT` bits [6:6], RC, RUN. -/
def LINE_FAULT_ASSIGN_FAIL : Reg :=
  { base := 0x0900, lo := 6, width := 1, acc := .rc, cls := .run }
/-- R293, `LINE_STATUS` bits [2:0], RO, STAT. -/
def LINE_STATUS_A_STATE : Reg :=
  { base := 0x0901, width := 3 }
/-- R293, `LINE_STATUS` bits [5:3], RO, STAT. -/
def LINE_STATUS_B_STATE : Reg :=
  { base := 0x0901, lo := 3, width := 3 }
/-- R293, `LINE_STATUS` bits [6:6], RO, STAT. -/
def LINE_STATUS_A_ILIM : Reg :=
  { base := 0x0901, lo := 6, width := 1 }
/-- R293, `LINE_STATUS` bits [7:7], RO, STAT. -/
def LINE_STATUS_B_ILIM : Reg :=
  { base := 0x0901, lo := 7, width := 1 }
/-- R293, `LINE_STATUS` bits [8:8], RO, STAT. -/
def LINE_STATUS_DEFER : Reg :=
  { base := 0x0901, lo := 8, width := 1 }
/-- R293, `LINE_STATUS` bits [9:9], RO, RUN. -/
def LINE_STATUS_A_HOST_OFF : Reg :=
  { base := 0x0901, lo := 9, width := 1, cls := .run }
/-- R293, `LINE_STATUS` bits [10:10], RO, RUN. -/
def LINE_STATUS_B_HOST_OFF : Reg :=
  { base := 0x0901, lo := 10, width := 1, cls := .run }
/-- R293, `LINE_CTRL` bits [0:0], RW, CFG. -/
def LINE_CTRL_A_EN : Reg :=
  { base := 0x0902, width := 1, acc := .rw, cls := .cfg, reset := 1 }
/-- R293, `LINE_CTRL` bits [1:1], RW, CFG. -/
def LINE_CTRL_B_EN : Reg :=
  { base := 0x0902, lo := 1, width := 1, acc := .rw, cls := .cfg, reset := 1 }
/-- R293, `LINE_CTRL` bits [2:2], RW, CFG. -/
def LINE_CTRL_A_KA_EN : Reg :=
  { base := 0x0902, lo := 2, width := 1, acc := .rw, cls := .cfg, reset := 1 }
/-- R293, `LINE_CTRL` bits [3:3], RW, CFG. -/
def LINE_CTRL_B_KA_EN : Reg :=
  { base := 0x0902, lo := 3, width := 1, acc := .rw, cls := .cfg, reset := 1 }
/-- R293, `LINE_CTRL` bits [4:4], RW, CFG. -/
def LINE_CTRL_A_ROBUST : Reg :=
  { base := 0x0902, lo := 4, width := 1, acc := .rw, cls := .cfg }
/-- R293, `LINE_CTRL` bits [5:5], RW, CFG. -/
def LINE_CTRL_B_ROBUST : Reg :=
  { base := 0x0902, lo := 5, width := 1, acc := .rw, cls := .cfg }
/-- R293, `LINE_CTRL` bits [6:6], RW, CFG. -/
def LINE_CTRL_DISC_EN : Reg :=
  { base := 0x0902, lo := 6, width := 1, acc := .rw, cls := .cfg, reset := 1 }
/-- R293, `LINE_x_V` bits [7:0], RW, CFG. -/
def LINE_x_V : Reg :=
  { base := 0x0903, count := 2, width := 8, acc := .rw, cls := .cfg, reset := 120, ranges := [(80, 150)] }
/-- R293, `LINE_x_ILIM` bits [4:0], RW, CFG. -/
def LINE_x_ILIM : Reg :=
  { base := 0x0905, count := 2, width := 5, acc := .rw, cls := .cfg, reset := 20, ranges := [(2, 30)] }
/-- R293, `LINE_SYNC_PERIOD` bits [11:0], RW, CFG. -/
def LINE_SYNC_PERIOD : Reg :=
  { base := 0x0907, width := 12, acc := .rw, cls := .cfg, reset := 60, ranges := [(1, 3600)] }
/-- R293, `LINE_DISC_PERIOD` bits [10:0], RW, CFG. -/
def LINE_DISC_PERIOD : Reg :=
  { base := 0x0908, width := 11, acc := .rw, cls := .cfg, reset := 10, ranges := [(1, 1440)] }
/-- R293, `LINE_OVF_COUNT` bits [15:0], RO, RET. -/
def LINE_OVF_COUNT : Reg :=
  { base := 0x0909, cls := .ret }
/-- R293, `LINE_OVF_ID` bits [47:0], RO, RET. -/
def LINE_OVF_ID : Reg :=
  { base := 0x090A, stride := 0x3, width := 48, cls := .ret }
/-- R293, `LINE_x_I` bits [15:0], RO, STAT. -/
def LINE_x_I : Reg :=
  { base := 0x090D, count := 2 }
/-- R293, `LINE_x_VMEAS` bits [15:0], RO, STAT. -/
def LINE_x_VMEAS : Reg :=
  { base := 0x090F, count := 2 }
/-- R293, `LINE_x_ERR` bits [15:0], RO, RUN. -/
def LINE_x_ERR : Reg :=
  { base := 0x0911, count := 2, cls := .run }
/-- R293, `LINE_NODES` bits [6:0], RO, STAT. -/
def LINE_NODES : Reg :=
  { base := 0x0913, width := 7 }
/-- R294, `LINE_SLOTs_CFG` bits [11:0], RW, CFG. -/
def LINE_SLOTs_CFG_PERIOD : Reg :=
  { base := 0x0940, count := 64, width := 12, acc := .rw, cls := .cfg, reset := 10 }
/-- R294, `LINE_SLOTs_CFG` bits [12:12], RW, CFG. -/
def LINE_SLOTs_CFG_UNIT : Reg :=
  { base := 0x0940, count := 64, lo := 12, width := 1, acc := .rw, cls := .cfg }
/-- R294, `LINE_SLOTs_CFG` bits [13:13], RW, CFG. -/
def LINE_SLOTs_CFG_YARD : Reg :=
  { base := 0x0940, count := 64, lo := 13, width := 1, acc := .rw, cls := .cfg, reset := 1 }
/-- R294, `LINE_SLOTs_CFG` bits [14:14], RW, CFG. -/
def LINE_SLOTs_CFG_EN : Reg :=
  { base := 0x0940, count := 64, lo := 14, width := 1, acc := .rw, cls := .cfg, reset := 1 }
/-- R294, `LINE_SLOTs_STAT` bits [1:0], RO, STAT. -/
def LINE_SLOTs_STAT_STATE : Reg :=
  { base := 0x0980, count := 64, width := 2 }
/-- R294, `LINE_SLOTs_STAT` bits [2:2], RO, RET. -/
def LINE_SLOTs_STAT_PORT : Reg :=
  { base := 0x0980, count := 64, lo := 2, width := 1, cls := .ret }
/-- R294, `LINE_SLOTs_STAT` bits [5:3], RO, RET. -/
def LINE_SLOTs_STAT_CLASS : Reg :=
  { base := 0x0980, count := 64, lo := 3, width := 3, cls := .ret }
/-- R294, `LINE_SLOTs_STAT` bits [7:6], RO, STAT. -/
def LINE_SLOTs_STAT_MISSED : Reg :=
  { base := 0x0980, count := 64, lo := 6, width := 2 }
/-- R294, `LINE_SLOTs_STAT` bits [8:8], RO, RET. -/
def LINE_SLOTs_STAT_BOUND : Reg :=
  { base := 0x0980, count := 64, lo := 8, width := 1, cls := .ret }
/-- R294, `LINE_SLOTs_STAT` bits [15:9], RO, RET. -/
def LINE_SLOTs_STAT_AMP : Reg :=
  { base := 0x0980, count := 64, lo := 9, width := 7, cls := .ret }
/-- R294, `LINE_SLOTs_BIND` bits [15:0], RW, CFG. -/
def LINE_SLOTs_BIND : Reg :=
  { base := 0x09C0, count := 64, acc := .rw, cls := .cfg }
/-- R315, `DE_FAULT` bits [0:0], RC, RUN. -/
def DE_FAULT_PAYLOAD : Reg :=
  { base := 0x0A00, width := 1, acc := .rc, cls := .run }
/-- R315, `DE_FAULT` bits [1:1], RC, RUN. -/
def DE_FAULT_UNSYNCED : Reg :=
  { base := 0x0A00, lo := 1, width := 1, acc := .rc, cls := .run }
/-- R315, `DE_STATUS` bits [9:0], RO, STAT. -/
def DE_STATUS : Reg :=
  { base := 0x0A01, width := 10 }
/-- R315, `DE_CTRL` bits [0:0], RW, CFG. -/
def DE_CTRL_EN : Reg :=
  { base := 0x0A02, width := 1, acc := .rw, cls := .cfg, reset := 1 }
/-- R315, `DE_CTRL` bits [1:1], RW, CFG. -/
def DE_CTRL_DERIVE_EN : Reg :=
  { base := 0x0A02, lo := 1, width := 1, acc := .rw, cls := .cfg, reset := 1 }
/-- R315, `DE_P_ATM` bits [10:0], RW, CFG. -/
def DE_P_ATM : Reg :=
  { base := 0x0A03, width := 11, acc := .rw, cls := .cfg, reset := 1013, ranges := [(800, 1100)] }
/-- R315, `DE_SLOPE_SPAN` bits [12:0], RW, CFG. -/
def DE_SLOPE_SPAN : Reg :=
  { base := 0x0A04, width := 13, acc := .rw, cls := .cfg, reset := 600, ranges := [(60, 7200)] }
/-- R315, `DE_CMD` bits [8:0], WO, RUN. -/
def DE_CMD_TRACKER : Reg :=
  { base := 0x0A05, width := 9, acc := .wo, cls := .run }
/-- R315, `DE_CMD` bits [15:12], WO, RUN. -/
def DE_CMD_ACTION : Reg :=
  { base := 0x0A05, lo := 12, width := 4, acc := .wo, cls := .run, ranges := [(0, 4)] }
/-- R317, `Q_FAULT` bits [15:0], RC, RUN. -/
def Q_FAULT : Reg :=
  { base := 0x0B00, acc := .rc, cls := .run }
/-- R317, `Q_FAULT_B` bits [0:0], RC, RUN. -/
def Q_FAULT_B_LATE : Reg :=
  { base := 0x0B01, width := 1, acc := .rc, cls := .run }
/-- R317, `Q_FAULT_B` bits [1:1], RC, RUN. -/
def Q_FAULT_B_STARVED : Reg :=
  { base := 0x0B01, lo := 1, width := 1, acc := .rc, cls := .run }
/-- R317, `Q_STATUS` bits [0:0], RO, STAT. -/
def Q_STATUS_URGENT : Reg :=
  { base := 0x0B02, width := 1 }
/-- R317, `Q_STATUS` bits [1:1], RO, STAT. -/
def Q_STATUS_STARVED : Reg :=
  { base := 0x0B02, lo := 1, width := 1 }
/-- R317, `Q_STATUS` bits [2:2], RO, STAT. -/
def Q_STATUS_HOLD : Reg :=
  { base := 0x0B02, lo := 2, width := 1 }
/-- R317, `Q_STATUS` bits [3:3], RO, STAT. -/
def Q_STATUS_CAP_PENDING : Reg :=
  { base := 0x0B02, lo := 3, width := 1 }
/-- R317, `Q_PENDING` bits [13:0], RO, STAT. -/
def Q_PENDING : Reg :=
  { base := 0x0B03, width := 14 }
/-- R317, `Q_ALERT` bits [15:0], RO, STAT. -/
def Q_ALERT : Reg :=
  { base := 0x0B04 }
/-- R317, `Q_WORST` bits [15:0], RO, RUN. -/
def Q_WORST : Reg :=
  { base := 0x0B05, cls := .run }
/-- R317, `Q_ROUTE_t` bits [15:0], RW, CFG. -/
def Q_ROUTE_t : Reg :=
  { base := 0x0BC0, count := 64, acc := .rw, cls := .cfg, resets := [8738, 21845, 0, 8738, 17476, 8738, 8738,
    8738, 8738, 8738, 8738, 8738, 8738, 8738, 8738, 8738, 8738, 13107, 13107, 8738, 8738, 8738, 8738, 8738, 8738,
    8738, 8738, 8738, 8738, 8738, 8738, 8738, 4369, 4369, 8738, 8738, 8738, 8738, 8738, 8738, 8738, 8738, 8738,
    8738, 8738, 8738, 8738, 8738, 8738, 8738, 8738, 8738, 8738, 8738, 8738, 8738, 8738, 8738, 8738, 8738, 8738,
    8738, 8738, 8738] }
/-- R319, `Qq_CFG` bits [1:0], RW, CFG. -/
def Qq_CFG_CLASS : Reg :=
  { base := 0x0B40, stride := 0x8, count := 16, width := 2, acc := .rw, cls := .cfg, resets := [2, 2, 1, 1, 0, 0,
    0, 0, 0, 0, 0, 0, 0, 0, 0, 0], ranges := [(0, 2)] }
/-- R319, `Qq_CFG` bits [2:2], RW, CFG. -/
def Qq_CFG_ALERT : Reg :=
  { base := 0x0B40, stride := 0x8, count := 16, lo := 2, width := 1, acc := .rw, cls := .cfg, resets := [1, 1, 0,
    0, 0, 0, 0, 0, 0, 0, 0, 0, 0, 0, 0, 0] }
/-- R319, `Qq_CFG` bits [3:3], RW, CFG. -/
def Qq_CFG_NOTIFY : Reg :=
  { base := 0x0B40, stride := 0x8, count := 16, lo := 3, width := 1, acc := .rw, cls := .cfg }
/-- R319, `Qq_CAP` bits [13:0], RW, CFG. -/
def Qq_CAP : Reg :=
  { base := 0x0B41, stride := 0x8, count := 16, width := 14, acc := .rw, cls := .cfg, resets := [256, 256, 512,
    512, 2048, 4096, 0, 0, 0, 0, 0, 0, 0, 0, 0, 0], ranges := [(0, 8192)] }
/-- R319, `Qq_COUNT` bits [13:0], RO, STAT. -/
def Qq_COUNT : Reg :=
  { base := 0x0B42, stride := 0x8, count := 16, width := 14 }
/-- R319, `Qq_PEND` bits [13:0], RO, STAT. -/
def Qq_PEND : Reg :=
  { base := 0x0B43, stride := 0x8, count := 16, width := 14 }
/-- R319, `Qq_REFUSED` bits [31:0], RO, RET. -/
def Qq_REFUSED : Reg :=
  { base := 0x0B44, stride := 0x8, count := 16, width := 32, cls := .ret }
/-- R319, `Qq_EVICTED` bits [15:0], RO, RUN. -/
def Qq_EVICTED : Reg :=
  { base := 0x0B46, stride := 0x8, count := 16, cls := .run }
/-- R319, `Qq_LATE` bits [15:0], RO, RET. -/
def Qq_LATE : Reg :=
  { base := 0x0B47, stride := 0x8, count := 16, cls := .ret }
/-- R344, `JNL_FAULT` bits [0:0], RC, RUN. -/
def JNL_FAULT_PROG_FAIL : Reg :=
  { base := 0x0C00, width := 1, acc := .rc, cls := .run }
/-- R344, `JNL_FAULT` bits [1:1], RC, RUN. -/
def JNL_FAULT_ERASE_FAIL : Reg :=
  { base := 0x0C00, lo := 1, width := 1, acc := .rc, cls := .run }
/-- R344, `JNL_FAULT` bits [2:2], RC, RUN. -/
def JNL_FAULT_UNCORR : Reg :=
  { base := 0x0C00, lo := 2, width := 1, acc := .rc, cls := .run }
/-- R344, `JNL_FAULT` bits [3:3], RC, RUN. -/
def JNL_FAULT_WORN : Reg :=
  { base := 0x0C00, lo := 3, width := 1, acc := .rc, cls := .run }
/-- R344, `JNL_FAULT` bits [4:4], RC, RUN. -/
def JNL_FAULT_TABLE_FULL : Reg :=
  { base := 0x0C00, lo := 4, width := 1, acc := .rc, cls := .run }
/-- R344, `JNL_FAULT` bits [5:5], RC, RUN. -/
def JNL_FAULT_GAP : Reg :=
  { base := 0x0C00, lo := 5, width := 1, acc := .rc, cls := .run }
/-- R344, `JNL_STATUS` bits [0:0], RO, STAT. -/
def JNL_STATUS_DIE_ON : Reg :=
  { base := 0x0C01, width := 1 }
/-- R344, `JNL_STATUS` bits [1:1], RO, STAT. -/
def JNL_STATUS_SCAN_DONE : Reg :=
  { base := 0x0C01, lo := 1, width := 1 }
/-- R344, `JNL_STATUS` bits [2:2], RO, STAT. -/
def JNL_STATUS_ERASING : Reg :=
  { base := 0x0C01, lo := 2, width := 1 }
/-- R344, `JNL_STATUS` bits [3:3], RO, STAT. -/
def JNL_STATUS_SUSPENDED : Reg :=
  { base := 0x0C01, lo := 3, width := 1 }
/-- R344, `JNL_STATUS` bits [4:4], RO, STAT. -/
def JNL_STATUS_HINT_USED : Reg :=
  { base := 0x0C01, lo := 4, width := 1 }
/-- R344, `JNL_ERASED_AHEAD` bits [2:0], RO, STAT. -/
def JNL_ERASED_AHEAD : Reg :=
  { base := 0x0C02, width := 3 }
/-- R344, `JNL_HEAD_BLOCK` bits [13:0], RO, STAT. -/
def JNL_HEAD_BLOCK : Reg :=
  { base := 0x0C03, width := 14 }
/-- R344, `JNL_HEAD_PAGE` bits [5:0], RO, STAT. -/
def JNL_HEAD_PAGE_PAGE : Reg :=
  { base := 0x0C04, width := 6 }
/-- R344, `JNL_HEAD_PAGE` bits [7:6], RO, STAT. -/
def JNL_HEAD_PAGE_SECTOR : Reg :=
  { base := 0x0C04, lo := 6, width := 2 }
/-- R344, `JNL_OLDEST_SEQ` bits [31:0], RO, STAT. -/
def JNL_OLDEST_SEQ : Reg :=
  { base := 0x0C05, stride := 0x2, width := 32 }
/-- R344, `JNL_NEWEST_SEQ` bits [31:0], RO, STAT. -/
def JNL_NEWEST_SEQ : Reg :=
  { base := 0x0C07, stride := 0x2, width := 32 }
/-- R344, `JNL_NEXT_SEQ` bits [31:0], RO, STAT. -/
def JNL_NEXT_SEQ : Reg :=
  { base := 0x0C09, stride := 0x2, width := 32 }
/-- R344, `JNL_LAP` bits [15:0], RO, STAT. -/
def JNL_LAP : Reg :=
  { base := 0x0C0B }
/-- R344, `JNL_BAD_FACTORY` bits [13:0], RO, STAT. -/
def JNL_BAD_FACTORY : Reg :=
  { base := 0x0C0C, width := 14 }
/-- R344, `JNL_BAD_GROWN` bits [9:0], RO, STAT. -/
def JNL_BAD_GROWN : Reg :=
  { base := 0x0C0D, width := 10 }
/-- R344, `JNL_ECC_CORR` bits [15:0], RO, RUN. -/
def JNL_ECC_CORR : Reg :=
  { base := 0x0C0E, cls := .run }
/-- R344, `JNL_ECC_MAX` bits [4:0], RO, RUN. -/
def JNL_ECC_MAX : Reg :=
  { base := 0x0C0F, width := 5, cls := .run }
/-- R344, `JNL_ECC_UNCORR` bits [15:0], RO, RUN. -/
def JNL_ECC_UNCORR : Reg :=
  { base := 0x0C10, cls := .run }
/-- R345, `CFG_FAULT` bits [0:0], RC, RUN. -/
def CFG_FAULT_CONFLICT : Reg :=
  { base := 0x0C40, width := 1, acc := .rc, cls := .run }
/-- R345, `CFG_FAULT` bits [1:1], RC, RUN. -/
def CFG_FAULT_DEFAULT : Reg :=
  { base := 0x0C40, lo := 1, width := 1, acc := .rc, cls := .run }
/-- R345, `CFG_FAULT` bits [2:2], RC, RUN. -/
def CFG_FAULT_REPAIRED : Reg :=
  { base := 0x0C40, lo := 2, width := 1, acc := .rc, cls := .run }
/-- R345, `CFG_FAULT` bits [3:3], RC, RUN. -/
def CFG_FAULT_COPY_LOST : Reg :=
  { base := 0x0C40, lo := 3, width := 1, acc := .rc, cls := .run }
/-- R345, `CFG_FAULT` bits [4:4], RC, RUN. -/
def CFG_FAULT_COMMIT_ABORT : Reg :=
  { base := 0x0C40, lo := 4, width := 1, acc := .rc, cls := .run }
/-- R345, `CFG_STATUS` bits [1:0], RO, STAT. -/
def CFG_STATUS_SELECT : Reg :=
  { base := 0x0C41, width := 2 }
/-- R345, `CFG_STATUS` bits [4:2], RO, STAT. -/
def CFG_STATUS_AGREE : Reg :=
  { base := 0x0C41, lo := 2, width := 3 }
/-- R345, `CFG_STATUS` bits [7:5], RO, STAT. -/
def CFG_STATUS_COPY_OK : Reg :=
  { base := 0x0C41, lo := 5, width := 3 }
/-- R345, `CFG_STATUS` bits [8:8], RO, STAT. -/
def CFG_STATUS_TRIAL : Reg :=
  { base := 0x0C41, lo := 8, width := 1 }
/-- R345, `CFG_STATUS` bits [9:9], RO, STAT. -/
def CFG_STATUS_NO_PREVIOUS : Reg :=
  { base := 0x0C41, lo := 9, width := 1 }
/-- R345, `CFG_STATUS` bits [10:10], RO, STAT. -/
def CFG_STATUS_BUSY : Reg :=
  { base := 0x0C41, lo := 10, width := 1 }
/-- R345, `CFG_ACTIVE_VER` bits [31:0], RO, STAT. -/
def CFG_ACTIVE_VER : Reg :=
  { base := 0x0C42, stride := 0x2, width := 32 }
/-- R345, `CFG_PREV_VER` bits [31:0], RO, STAT. -/
def CFG_PREV_VER : Reg :=
  { base := 0x0C44, stride := 0x2, width := 32 }
/-- R345, `CFG_COMMIT_CNT` bits [31:0], RO, STAT. -/
def CFG_COMMIT_CNT : Reg :=
  { base := 0x0C46, stride := 0x2, width := 32 }
/-- R345, `CFG_TRIAL_LEFT` bits [11:0], RO, STAT. -/
def CFG_TRIAL_LEFT : Reg :=
  { base := 0x0C48, width := 12 }
/-- R345, `CFG_LOADED_LEN` bits [15:0], RO, STAT. -/
def CFG_LOADED_LEN : Reg :=
  { base := 0x0C49 }
/-- R368, `HIF_FAULT` bits [0:0], RC, RUN. -/
def HIF_FAULT_SCL_TMO : Reg :=
  { base := 0x0D00, width := 1, acc := .rc, cls := .run }
/-- R368, `HIF_FAULT` bits [1:1], RC, RUN. -/
def HIF_FAULT_SDA_STUCK : Reg :=
  { base := 0x0D00, lo := 1, width := 1, acc := .rc, cls := .run }
/-- R368, `HIF_FAULT` bits [2:2], RC, RUN. -/
def HIF_FAULT_BUS_CLEAR_FAIL : Reg :=
  { base := 0x0D00, lo := 2, width := 1, acc := .rc, cls := .run }
/-- R368, `HIF_FAULT` bits [3:3], RC, RUN. -/
def HIF_FAULT_NOTIFY_FAIL : Reg :=
  { base := 0x0D00, lo := 3, width := 1, acc := .rc, cls := .run }
/-- R368, `HIF_FAULT` bits [4:4], RC, RUN. -/
def HIF_FAULT_ADDR_INVALID : Reg :=
  { base := 0x0D00, lo := 4, width := 1, acc := .rc, cls := .run }
/-- R368, `HIF_FAULT` bits [5:5], RC, RUN. -/
def HIF_FAULT_BULK_ERR : Reg :=
  { base := 0x0D00, lo := 5, width := 1, acc := .rc, cls := .run }
/-- R368, `HIF_STATUS` bits [0:0], RO, STAT. -/
def HIF_STATUS_AWAKE : Reg :=
  { base := 0x0D01, width := 1 }
/-- R368, `HIF_STATUS` bits [1:1], RO, STAT. -/
def HIF_STATUS_ALERTN_LOW : Reg :=
  { base := 0x0D01, lo := 1, width := 1 }
/-- R368, `HIF_STATUS` bits [2:2], RO, STAT. -/
def HIF_STATUS_HRSTN_LOW : Reg :=
  { base := 0x0D01, lo := 2, width := 1 }
/-- R368, `HIF_STATUS` bits [3:3], RO, STAT. -/
def HIF_STATUS_HRSTN_DRIVEN : Reg :=
  { base := 0x0D01, lo := 3, width := 1 }
/-- R368, `HIF_STATUS` bits [4:4], RO, STAT. -/
def HIF_STATUS_NOTIFY_BUSY : Reg :=
  { base := 0x0D01, lo := 4, width := 1 }
/-- R368, `HIF_STATUS` bits [5:5], RO, STAT. -/
def HIF_STATUS_TW_REPLY : Reg :=
  { base := 0x0D01, lo := 5, width := 1 }
/-- R368, `HIF_STATUS` bits [6:6], RO, STAT. -/
def HIF_STATUS_TW_PENDING : Reg :=
  { base := 0x0D01, lo := 6, width := 1 }
/-- R368, `HIF_STATUS` bits [7:7], RO, STAT. -/
def HIF_STATUS_QB_REPLY : Reg :=
  { base := 0x0D01, lo := 7, width := 1 }
/-- R368, `HIF_STATUS` bits [8:8], RO, STAT. -/
def HIF_STATUS_QB_PENDING : Reg :=
  { base := 0x0D01, lo := 8, width := 1 }
/-- R368, `HIF_STATUS` bits [9:9], RO, STAT. -/
def HIF_STATUS_VDDIO_OK : Reg :=
  { base := 0x0D01, lo := 9, width := 1 }
/-- R368, `HIF_CTRL` bits [4:0], RW, CFG. -/
def HIF_CTRL_FILT : Reg :=
  { base := 0x0D02, width := 5, acc := .rw, cls := .cfg, reset := 5 }
/-- R368, `HIF_CTRL` bits [5:5], RW, CFG. -/
def HIF_CTRL_BUS_CLEAR : Reg :=
  { base := 0x0D02, lo := 5, width := 1, acc := .rw, cls := .cfg, reset := 1 }
/-- R368, `HIF_CTRL` bits [7:6], RW, CFG. -/
def HIF_CTRL_NOTIFY_SPEED : Reg :=
  { base := 0x0D02, lo := 6, width := 2, acc := .rw, cls := .cfg, reset := 1, ranges := [(0, 2)] }
/-- R368, `HIF_CTRL` bits [8:8], RW, CFG. -/
def HIF_CTRL_NOTIFY_ON_ALERT : Reg :=
  { base := 0x0D02, lo := 8, width := 1, acc := .rw, cls := .cfg }
/-- R368, `HIF_TMO` bits [5:0], RW, CFG. -/
def HIF_TMO : Reg :=
  { base := 0x0D03, width := 6, acc := .rw, cls := .cfg, reset := 30, ranges := [(25, 35)] }
/-- R368, `HIF_AWAKE_HOLD` bits [9:0], RW, CFG. -/
def HIF_AWAKE_HOLD : Reg :=
  { base := 0x0D04, width := 10, acc := .rw, cls := .cfg, reset := 100, ranges := [(10, 1000)] }
/-- R368, `HIF_NOTIFY_ADDR` bits [6:0], RW, CFG. -/
def HIF_NOTIFY_ADDR : Reg :=
  { base := 0x0D05, width := 7, acc := .rw, cls := .cfg, reset := 8, ranges := [(8, 119)] }
/-- R368, `HIF_ALERT_EN` bits [0:0], RW, CFG. -/
def HIF_ALERT_EN : Reg :=
  { base := 0x0D06, width := 1, acc := .rw, cls := .cfg, reset := 1 }
/-- R368, `HIF_ALERT_SRC` bits [0:0], RO, STAT. -/
def HIF_ALERT_SRC_QUEUE : Reg :=
  { base := 0x0D07, width := 1 }
/-- R368, `HIF_ALERT_SRC` bits [1:1], RO, STAT. -/
def HIF_ALERT_SRC_FAULT : Reg :=
  { base := 0x0D07, lo := 1, width := 1 }
/-- R368, `HIF_ALERT_SRC` bits [2:2], RO, STAT. -/
def HIF_ALERT_SRC_RIDE : Reg :=
  { base := 0x0D07, lo := 2, width := 1 }
/-- R368, `HIF_HRST_DELAY` bits [9:0], RW, CFG. -/
def HIF_HRST_DELAY : Reg :=
  { base := 0x0D08, width := 10, acc := .rw, cls := .cfg, reset := 10, ranges := [(0, 1000)] }
/-- R368, `HIF_ADDR` bits [6:0], RO, STAT. -/
def HIF_ADDR_EFFECTIVE : Reg :=
  { base := 0x0D09, width := 7, reset := 58 }
/-- R368, `HIF_ADDR` bits [8:7], RO, STAT. -/
def HIF_ADDR_STRAP : Reg :=
  { base := 0x0D09, lo := 7, width := 2 }
/-- R368, `HIF_ADDR` bits [15:9], RO, OTP. -/
def HIF_ADDR_BASE : Reg :=
  { base := 0x0D09, lo := 9, width := 7, cls := .otp, reset := 58 }
/-- R368, `HIF_REPLY_LOST` bits [7:0], RO, RUN. -/
def HIF_REPLY_LOST_TW : Reg :=
  { base := 0x0D0A, width := 8, cls := .run }
/-- R368, `HIF_REPLY_LOST` bits [15:8], RO, RUN. -/
def HIF_REPLY_LOST_QB : Reg :=
  { base := 0x0D0A, lo := 8, width := 8, cls := .run }
/-- R368, `HIF_NACK_CNT` bits [15:0], RO, RUN. -/
def HIF_NACK_CNT : Reg :=
  { base := 0x0D0B, cls := .run }
/-- R368, `HIF_NOTIFY_CNT` bits [7:0], RO, RUN. -/
def HIF_NOTIFY_CNT_SENT : Reg :=
  { base := 0x0D0C, width := 8, cls := .run }
/-- R368, `HIF_NOTIFY_CNT` bits [15:8], RO, RUN. -/
def HIF_NOTIFY_CNT_LOST : Reg :=
  { base := 0x0D0C, lo := 8, width := 8, cls := .run }
/-- R368, `HIF_HRST_EXT_CNT` bits [15:0], RO, RET. -/
def HIF_HRST_EXT_CNT : Reg :=
  { base := 0x0D0D, cls := .ret }
/-- R368, `HIF_TRUNC_CNT` bits [7:0], RO, RUN. -/
def HIF_TRUNC_CNT_TW : Reg :=
  { base := 0x0D0E, width := 8, cls := .run }
/-- R368, `HIF_TRUNC_CNT` bits [15:8], RO, RUN. -/
def HIF_TRUNC_CNT_QB : Reg :=
  { base := 0x0D0E, lo := 8, width := 8, cls := .run }
/-- R425, `WDT_KEY` bits [7:0], WO, RUN. -/
def WDT_KEY : Reg :=
  { base := 0x0E00, width := 8, acc := .wo, cls := .run }
/-- R425, `WDT_DISABLE` bits [7:0], RWL, RUN. -/
def WDT_DISABLE : Reg :=
  { base := 0x0E01, width := 8, acc := .rwl, cls := .run }
/-- R425, `SUP_FAULT` bits [0:0], RC, RUN. -/
def SUP_FAULT_YELLOW : Reg :=
  { base := 0x0E02, width := 1, acc := .rc, cls := .run }
/-- R425, `SUP_FAULT` bits [1:1], RC, RET. -/
def SUP_FAULT_ORANGE : Reg :=
  { base := 0x0E02, lo := 1, width := 1, acc := .rc, cls := .ret }
/-- R425, `SUP_FAULT` bits [2:2], RC, RET. -/
def SUP_FAULT_BLACK : Reg :=
  { base := 0x0E02, lo := 2, width := 1, acc := .rc, cls := .ret }
/-- R425, `SUP_FAULT` bits [3:3], RC, RUN. -/
def SUP_FAULT_SEQ_RESTART : Reg :=
  { base := 0x0E02, lo := 3, width := 1, acc := .rc, cls := .run }
/-- R425, `SUP_FAULT` bits [4:4], RC, RUN. -/
def SUP_FAULT_SUP_WARN : Reg :=
  { base := 0x0E02, lo := 4, width := 1, acc := .rc, cls := .run }
/-- R425, `WDT_STATUS` bits [0:0], RO, STAT. -/
def WDT_STATUS_ENABLED : Reg :=
  { base := 0x0E03, width := 1, reset := 1 }
/-- R425, `WDT_STATUS` bits [1:1], RO, STAT. -/
def WDT_STATUS_INTERNAL : Reg :=
  { base := 0x0E03, lo := 1, width := 1, reset := 1 }
/-- R425, `WDT_STATUS` bits [2:2], RO, STAT. -/
def WDT_STATUS_WINDOW_OPEN : Reg :=
  { base := 0x0E03, lo := 2, width := 1 }
/-- R425, `WDT_STATUS` bits [3:3], RO, STAT. -/
def WDT_STATUS_BOOT : Reg :=
  { base := 0x0E03, lo := 3, width := 1 }
/-- R425, `WDT_STATUS` bits [4:4], RO, STAT. -/
def WDT_STATUS_YELLOW_PULSE : Reg :=
  { base := 0x0E03, lo := 4, width := 1 }
/-- R425, `WDT_CFG` bits [3:0], RW, CFG. -/
def WDT_CFG_PERIOD : Reg :=
  { base := 0x0E04, width := 4, acc := .rw, cls := .cfg, reset := 7 }
/-- R425, `WDT_CFG` bits [7:4], RW, CFG. -/
def WDT_CFG_BOOT_PERIOD : Reg :=
  { base := 0x0E04, lo := 4, width := 4, acc := .rw, cls := .cfg, reset := 9 }
/-- R425, `WDT_CFG` bits [10:8], RW, CFG. -/
def WDT_CFG_Y_MAX : Reg :=
  { base := 0x0E04, lo := 8, width := 3, acc := .rw, cls := .cfg, reset := 2, ranges := [(1, 7)] }
/-- R425, `WDT_CFG` bits [11:11], RW, CFG. -/
def WDT_CFG_STRICT : Reg :=
  { base := 0x0E04, lo := 11, width := 1, acc := .rw, cls := .cfg }
/-- R425, `WDT_CFG` bits [15:12], RW, CFG. -/
def WDT_CFG_INT_PERIOD : Reg :=
  { base := 0x0E04, lo := 12, width := 4, acc := .rw, cls := .cfg, reset := 10 }
/-- R425, `WDT_TASK_EN` bits [7:0], RW, CFG. -/
def WDT_TASK_EN : Reg :=
  { base := 0x0E05, width := 8, acc := .rw, cls := .cfg }
/-- R425, `WDT_TASK_SEEN` bits [7:0], RO, STAT. -/
def WDT_TASK_SEEN_SEEN : Reg :=
  { base := 0x0E06, width := 8 }
/-- R425, `WDT_TASK_SEEN` bits [15:8], RO, STAT. -/
def WDT_TASK_SEEN_DUP : Reg :=
  { base := 0x0E06, lo := 8, width := 8 }
/-- R425, `WDT_LAST_MISSING` bits [7:0], RO, RUN. -/
def WDT_LAST_MISSING : Reg :=
  { base := 0x0E07, width := 8, cls := .run }
/-- R425, `WDT_LAST_DUP` bits [7:0], RO, RUN. -/
def WDT_LAST_DUP : Reg :=
  { base := 0x0E08, width := 8, cls := .run }
/-- R425, `WDT_LAST_KIND` bits [2:0], RO, RUN. -/
def WDT_LAST_KIND : Reg :=
  { base := 0x0E09, width := 3, cls := .run }
/-- R425, `WDT_YELLOW_CNT` bits [15:0], RO, RET. -/
def WDT_YELLOW_CNT : Reg :=
  { base := 0x0E0A, cls := .ret }
/-- R425, `WDT_ORANGE_CNT` bits [15:0], RO, RET. -/
def WDT_ORANGE_CNT : Reg :=
  { base := 0x0E0B, cls := .ret }
/-- R425, `WDT_LADDER` bits [2:0], RO, RET. -/
def WDT_LADDER_Y : Reg :=
  { base := 0x0E0C, width := 3, cls := .ret }
/-- R425, `WDT_LADDER` bits [5:3], RO, RET. -/
def WDT_LADDER_O : Reg :=
  { base := 0x0E0C, lo := 3, width := 3, cls := .ret }
/-- R425, `WDT_LOCK` bits [0:0], RW, RET. -/
def WDT_LOCK : Reg :=
  { base := 0x0E0D, width := 1, acc := .rw, cls := .ret }
/-- R425, `WDT_YELLOW_MS` bits [6:0], RW, CFG. -/
def WDT_YELLOW_MS : Reg :=
  { base := 0x0E0E, width := 7, acc := .rw, cls := .cfg, reset := 10, ranges := [(1, 100)] }
/-- R425, `WDT_POS` bits [31:0], RO, STAT. -/
def WDT_POS : Reg :=
  { base := 0x0E0F, stride := 0x2, width := 32 }
/-- R425, `WDT_WINDOW_AT` bits [31:0], RO, STAT. -/
def WDT_WINDOW_AT : Reg :=
  { base := 0x0E11, stride := 0x2, width := 32 }
/-- R425, `WDT_OTP` bits [1:0], RO, OTP. -/
def WDT_OTP_FRAC : Reg :=
  { base := 0x0E13, width := 2, cls := .otp, reset := 1 }
/-- R425, `WDT_OTP` bits [2:2], RO, OTP. -/
def WDT_OTP_LOCK_DEFAULT : Reg :=
  { base := 0x0E13, lo := 2, width := 1, cls := .otp }
/-- R425, `WDT_OTP` bits [5:3], RO, OTP. -/
def WDT_OTP_O_MAX : Reg :=
  { base := 0x0E13, lo := 3, width := 3, cls := .otp, reset := 3 }
/-- R425, `WDT_SAFE_CAUSE` bits [2:0], RO, RET. -/
def WDT_SAFE_CAUSE : Reg :=
  { base := 0x0E14, width := 3, cls := .ret }
/-- R425, `WDT_SEQ_RESTARTS` bits [15:0], RO, RUN. -/
def WDT_SEQ_RESTARTS : Reg :=
  { base := 0x0E15, cls := .run }
/-- R425, `WDT_WAKE_LEFT` bits [31:0], RO, STAT. -/
def WDT_WAKE_LEFT : Reg :=
  { base := 0x0E16, stride := 0x2, width := 32 }
/-- R425, `SUP_WARN_V` bits [7:0], RW, CFG. -/
def SUP_WARN_V : Reg :=
  { base := 0x0E20, width := 8, acc := .rw, cls := .cfg, reset := 90, ranges := [(60, 240)] }
/-- R425, `SUP_STATUS` bits [0:0], RO, STAT. -/
def SUP_STATUS_BELOW_WARN : Reg :=
  { base := 0x0E21, width := 1 }
/-- R425, `SUP_STATUS` bits [1:1], RO, STAT. -/
def SUP_STATUS_RIDE : Reg :=
  { base := 0x0E21, lo := 1, width := 1 }
/-- R425, `SUP_MIN_SYS` bits [15:0], RO, RUN. -/
def SUP_MIN_SYS : Reg :=
  { base := 0x0E22, cls := .run, reset := 65535 }
/-- R425, `SUP_RIDE_CNT` bits [15:0], RO, RUN. -/
def SUP_RIDE_CNT : Reg :=
  { base := 0x0E23, cls := .run }
/-- R425, `SUP_RIDE_LAST` bits [31:0], RO, RUN. -/
def SUP_RIDE_LAST : Reg :=
  { base := 0x0E24, stride := 0x2, width := 32, cls := .run }
/-- R442, `THM_FAULT` bits [0:0], RC, RUN. -/
def THM_FAULT_DIE_SHUTDOWN : Reg :=
  { base := 0x0F00, width := 1, acc := .rc, cls := .run }
/-- R442, `THM_FAULT` bits [1:1], RC, RUN. -/
def THM_FAULT_DIE_IMPLAUSIBLE : Reg :=
  { base := 0x0F00, lo := 1, width := 1, acc := .rc, cls := .run }
/-- R442, `THM_FAULT` bits [5:2], RC, RUN. -/
def THM_FAULT_TB_INVALID : Reg :=
  { base := 0x0F00, lo := 2, width := 4, acc := .rc, cls := .run }
/-- R442, `THM_FAULT` bits [7:6], RC, RUN. -/
def THM_FAULT_TS_INVALID : Reg :=
  { base := 0x0F00, lo := 6, width := 2, acc := .rc, cls := .run }
/-- R442, `THM_FAULT` bits [8:8], RC, RUN. -/
def THM_FAULT_FB_HELD : Reg :=
  { base := 0x0F00, lo := 8, width := 1, acc := .rc, cls := .run }
/-- R442, `THM_STATUS` bits [0:0], RO, STAT. -/
def THM_STATUS_HOLD : Reg :=
  { base := 0x0F01, width := 1 }
/-- R442, `THM_STATUS` bits [1:1], RO, STAT. -/
def THM_STATUS_FB_ACTIVE : Reg :=
  { base := 0x0F01, lo := 1, width := 1 }
/-- R442, `THM_STATUS` bits [2:2], RO, STAT. -/
def THM_STATUS_FB_HOLD : Reg :=
  { base := 0x0F01, lo := 2, width := 1 }
/-- R442, `THM_STATUS` bits [3:3], RO, STAT. -/
def THM_STATUS_CURVE_BAD : Reg :=
  { base := 0x0F01, lo := 3, width := 1 }
/-- R442, `THM_STATUS` bits [7:4], RO, STAT. -/
def THM_STATUS_TB_VALID : Reg :=
  { base := 0x0F01, lo := 4, width := 4 }
/-- R442, `THM_STATUS` bits [9:8], RO, STAT. -/
def THM_STATUS_TS_VALID : Reg :=
  { base := 0x0F01, lo := 8, width := 2 }
/-- R442, `THM_STATUS` bits [11:10], RO, RUN. -/
def THM_STATUS_TS_EXCLUDED : Reg :=
  { base := 0x0F01, lo := 10, width := 2, cls := .run }
/-- R442, `THM_CTRL` bits [3:0], RW, CFG. -/
def THM_CTRL_TB_EN : Reg :=
  { base := 0x0F02, width := 4, acc := .rw, cls := .cfg, reset := 1 }
/-- R442, `THM_CTRL` bits [5:4], RW, CFG. -/
def THM_CTRL_TS_EN : Reg :=
  { base := 0x0F02, lo := 4, width := 2, acc := .rw, cls := .cfg }
/-- R442, `THM_CTRL` bits [6:6], RW, CFG. -/
def THM_CTRL_TB_CURVE : Reg :=
  { base := 0x0F02, lo := 6, width := 1, acc := .rw, cls := .cfg }
/-- R442, `THM_CTRL` bits [7:7], RW, CFG. -/
def THM_CTRL_TS_CURVE : Reg :=
  { base := 0x0F02, lo := 7, width := 1, acc := .rw, cls := .cfg }
/-- R442, `THM_DIE_T` bits [15:0], RO, STAT. -/
def THM_DIE_T : Reg :=
  { base := 0x0F03 }
/-- R442, `THM_TBn_T` bits [15:0], RO, STAT. -/
def THM_TBn_T : Reg :=
  { base := 0x0F04, count := 4, reset := 32768 }
/-- R442, `THM_TSn_T` bits [15:0], RO, STAT. -/
def THM_TSn_T : Reg :=
  { base := 0x0F08, count := 2, reset := 32768 }
/-- R442, `THM_TS_FB_START` bits [15:0], RW, CFG. -/
def THM_TS_FB_START : Reg :=
  { base := 0x0F0A, acc := .rw, cls := .cfg, reset := 900, ranges := [(400, 1400)] }
/-- R442, `THM_TS_FB_END` bits [15:0], RW, CFG. -/
def THM_TS_FB_END : Reg :=
  { base := 0x0F0B, acc := .rw, cls := .cfg, reset := 1100, ranges := [(450, 1450)] }
/-- R442, `THM_FB_FACTOR` bits [8:0], RO, STAT. -/
def THM_FB_FACTOR : Reg :=
  { base := 0x0F0C, width := 9, reset := 256 }
/-- R442, `THM_FB_HOLD` bits [8:0], RO, RUN. -/
def THM_FB_HOLD : Reg :=
  { base := 0x0F0D, width := 9, cls := .run, reset := 256 }
/-- R442, `THM_CMD` bits [0:0], WO, RUN. -/
def THM_CMD : Reg :=
  { base := 0x0F0E, width := 1, acc := .wo, cls := .run }
/-- R442, `THM_DIE_MAX` bits [15:0], RO, RET. -/
def THM_DIE_MAX : Reg :=
  { base := 0x0F0F, cls := .ret, reset := 32768 }
/-- R442, `THM_SHUT_CNT` bits [15:0], RO, RET. -/
def THM_SHUT_CNT : Reg :=
  { base := 0x0F10, cls := .ret }
/-- R442, `THM_HOLD_LAST` bits [31:0], RO, RUN. -/
def THM_HOLD_LAST : Reg :=
  { base := 0x0F11, stride := 0x2, width := 32, cls := .run }
/-- R442, `THM_CURVEj_K` bits [11:0], RW, CFG. -/
def THM_CURVEj_K : Reg :=
  { base := 0x0F20, stride := 0x2, count := 16, width := 12, acc := .rw, cls := .cfg, resets := [128, 384, 640,
    896, 1152, 1408, 1664, 1920, 2176, 2432, 2688, 2944, 3200, 3456, 3712, 3968] }
/-- R442, `THM_CURVEj_T` bits [15:0], RW, CFG. -/
def THM_CURVEj_T : Reg :=
  { base := 0x0F21, stride := 0x2, count := 16, acc := .rw, cls := .cfg, resets := [1516, 981, 761, 620, 514,
    427, 351, 282, 217, 154, 91, 25, 65490, 65406, 65296, 65102], ranges := [(0, 1600), (65036, 65535)] }
/-- R459, `BIST_FAULT` bits [7:0], RC, RUN. -/
def BIST_FAULT_FAILED : Reg :=
  { base := 0x1000, width := 8, acc := .rc, cls := .run }
/-- R459, `BIST_FAULT` bits [15:8], RC, RUN. -/
def BIST_FAULT_OVERDUE : Reg :=
  { base := 0x1000, lo := 8, width := 8, acc := .rc, cls := .run }
/-- R459, `BIST_STATUS` bits [2:0], RO, STAT. -/
def BIST_STATUS_PART : Reg :=
  { base := 0x1001, width := 3 }
/-- R459, `BIST_STATUS` bits [3:3], RO, STAT. -/
def BIST_STATUS_RUNNING : Reg :=
  { base := 0x1001, lo := 3, width := 1 }
/-- R459, `BIST_STATUS` bits [4:4], RO, STAT. -/
def BIST_STATUS_P3_WINDOW : Reg :=
  { base := 0x1001, lo := 4, width := 1 }
/-- R459, `BIST_STATUS` bits [15:8], RO, STAT. -/
def BIST_STATUS_SAFE : Reg :=
  { base := 0x1001, lo := 8, width := 8 }
/-- R459, `BIST_CTRL` bits [0:0], RW, CFG. -/
def BIST_CTRL_EN : Reg :=
  { base := 0x1002, width := 1, acc := .rw, cls := .cfg, reset := 1 }
/-- R459, `BIST_CTRL` bits [1:1], RW, CFG. -/
def BIST_CTRL_P3_FORCE_EN : Reg :=
  { base := 0x1002, lo := 1, width := 1, acc := .rw, cls := .cfg, reset := 1 }
/-- R459, `BIST_MAX_AGE` bits [7:0], RW, CFG. -/
def BIST_MAX_AGE : Reg :=
  { base := 0x1003, width := 8, acc := .rw, cls := .cfg, reset := 48, ranges := [(25, 168)] }
/-- R459, `BIST_POR_RESULT` bits [7:0], RO, RET. -/
def BIST_POR_RESULT : Reg :=
  { base := 0x1004, width := 8, cls := .ret }
/-- R460, `BIST_Pp_AGE` bits [15:0], RO, STAT. -/
def BIST_Pp_AGE : Reg :=
  { base := 0x1010, stride := 0x4, count := 8 }
/-- R460, `BIST_Pp_PROG` bits [5:0], RO, RUN. -/
def BIST_Pp_PROG_PASSED : Reg :=
  { base := 0x1011, stride := 0x4, count := 8, width := 6, cls := .run }
/-- R460, `BIST_Pp_PROG` bits [7:6], RO, RUN. -/
def BIST_Pp_PROG_LAST : Reg :=
  { base := 0x1011, stride := 0x4, count := 8, lo := 6, width := 2, cls := .run }
/-- R460, `BIST_Pp_PROG` bits [15:8], RO, RUN. -/
def BIST_Pp_PROG_RETRIES : Reg :=
  { base := 0x1011, stride := 0x4, count := 8, lo := 8, width := 8, cls := .run }
/-- R460, `BIST_Pp_CNT` bits [15:0], RO, RET. -/
def BIST_Pp_CNT : Reg :=
  { base := 0x1012, stride := 0x4, count := 8, cls := .ret }
/-- R460, `BIST_Pp_ABORTS` bits [15:0], RO, RUN. -/
def BIST_Pp_ABORTS : Reg :=
  { base := 0x1013, stride := 0x4, count := 8, cls := .run }
/-- R463, `OTP_TRIMw` bits [15:0], RO, OTP. -/
def OTP_TRIMw : Reg :=
  { base := 0x1100, count := 48, cls := .otp }
/-- R463, `OTP_WDT` bits [1:0], RO, OTP. -/
def OTP_WDT_FRAC : Reg :=
  { base := 0x1130, width := 2, cls := .otp, reset := 1 }
/-- R463, `OTP_WDT` bits [2:2], RO, OTP. -/
def OTP_WDT_LOCK_DEFAULT : Reg :=
  { base := 0x1130, lo := 2, width := 1, cls := .otp }
/-- R463, `OTP_WDT` bits [5:3], RO, OTP. -/
def OTP_WDT_O_MAX : Reg :=
  { base := 0x1130, lo := 3, width := 3, cls := .otp, reset := 3 }
/-- R463, `OTP_CHEM` bits [5:1], RO, OTP. -/
def OTP_CHEM : Reg :=
  { base := 0x1131, lo := 1, width := 5, cls := .otp }
/-- R463, `OTP_VREDc` bits [5:0], RO, OTP. -/
def OTP_VREDc : Reg :=
  { base := 0x1132, count := 3, width := 6, cls := .otp }
/-- R463, `OTP_ADDR` bits [6:0], RO, OTP. -/
def OTP_ADDR_BASE : Reg :=
  { base := 0x1135, width := 7, cls := .otp }
/-- R463, `OTP_ADDR` bits [7:7], RO, OTP. -/
def OTP_ADDR_VALID : Reg :=
  { base := 0x1135, lo := 7, width := 1, cls := .otp }
/-- R463, `OTP_SAFEk` bits [15:0], RO, OTP. -/
def OTP_SAFEk : Reg :=
  { base := 0x1136, count := 10, cls := .otp }
/-- R463, `OTP_LOCK` bits [0:0], RO, OTP. -/
def OTP_LOCK : Reg :=
  { base := 0x1140, width := 1, cls := .otp }
/-- R463, `OTP_CUST_KEY` bits [15:0], RO, OTP. -/
def OTP_CUST_KEY : Reg :=
  { base := 0x1141, cls := .otp }
/-- R463, `OTP_USERw` bits [15:0], RO, OTP. -/
def OTP_USERw : Reg :=
  { base := 0x1142, count := 61, cls := .otp }
/-- R463, `OTP_CRC` bits [15:0], RO, OTP. -/
def OTP_CRC : Reg :=
  { base := 0x117F, cls := .otp, reset := 35372 }
/-- R316, `DE_Ti_CTRL` bits [0:0], RW, CFG. -/
def DE_Ti_CTRL_EN : Reg :=
  { base := 0x4000, stride := 0x8, count := 512, width := 1, acc := .rw, cls := .cfg, reset := 1 }
/-- R316, `DE_Ti_CTRL` bits [1:1], RW, CFG. -/
def DE_Ti_CTRL_HI_EN : Reg :=
  { base := 0x4000, stride := 0x8, count := 512, lo := 1, width := 1, acc := .rw, cls := .cfg }
/-- R316, `DE_Ti_CTRL` bits [2:2], RW, CFG. -/
def DE_Ti_CTRL_LO_EN : Reg :=
  { base := 0x4000, stride := 0x8, count := 512, lo := 2, width := 1, acc := .rw, cls := .cfg }
/-- R316, `DE_Ti_CTRL` bits [3:3], RW, CFG. -/
def DE_Ti_CTRL_SLOPE_EN : Reg :=
  { base := 0x4000, stride := 0x8, count := 512, lo := 3, width := 1, acc := .rw, cls := .cfg }
/-- R316, `DE_Ti_CTRL` bits [4:4], RW, CFG. -/
def DE_Ti_CTRL_DEV_EN : Reg :=
  { base := 0x4000, stride := 0x8, count := 512, lo := 4, width := 1, acc := .rw, cls := .cfg }
/-- R316, `DE_Ti_CTRL` bits [5:5], RW, CFG. -/
def DE_Ti_CTRL_SAMPLE_EN : Reg :=
  { base := 0x4000, stride := 0x8, count := 512, lo := 5, width := 1, acc := .rw, cls := .cfg, reset := 1 }
/-- R316, `DE_Ti_CTRL` bits [6:6], RW, CFG. -/
def DE_Ti_CTRL_TREND_EN : Reg :=
  { base := 0x4000, stride := 0x8, count := 512, lo := 6, width := 1, acc := .rw, cls := .cfg, reset := 1 }
/-- R316, `DE_Ti_CTRL` bits [11:8], RW, CFG. -/
def DE_Ti_CTRL_K : Reg :=
  { base := 0x4000, stride := 0x8, count := 512, lo := 8, width := 4, acc := .rw, cls := .cfg, reset := 6, ranges
    := [(1, 12)] }
/-- R316, `DE_Ti_CTRL` bits [15:12], RW, CFG. -/
def DE_Ti_CTRL_MULT : Reg :=
  { base := 0x4000, stride := 0x8, count := 512, lo := 12, width := 4, acc := .rw, cls := .cfg, reset := 4,
    ranges := [(1, 15)] }
/-- R316, `DE_Ti_HI` bits [15:0], RW, CFG. -/
def DE_Ti_HI : Reg :=
  { base := 0x4001, stride := 0x8, count := 512, acc := .rw, cls := .cfg }
/-- R316, `DE_Ti_LO` bits [15:0], RW, CFG. -/
def DE_Ti_LO : Reg :=
  { base := 0x4002, stride := 0x8, count := 512, acc := .rw, cls := .cfg }
/-- R316, `DE_Ti_HYST` bits [14:0], RW, CFG. -/
def DE_Ti_HYST : Reg :=
  { base := 0x4003, stride := 0x8, count := 512, width := 15, acc := .rw, cls := .cfg, reset := 10 }
/-- R316, `DE_Ti_SLOPE` bits [14:0], RW, CFG. -/
def DE_Ti_SLOPE : Reg :=
  { base := 0x4004, stride := 0x8, count := 512, width := 15, acc := .rw, cls := .cfg }
/-- R316, `DE_Ti_WIN` bits [12:0], RW, CFG. -/
def DE_Ti_WIN : Reg :=
  { base := 0x4005, stride := 0x8, count := 512, width := 13, acc := .rw, cls := .cfg, reset := 60, ranges :=
    [(1, 4096)] }
/-- R316, `DE_Ti_AUX0` bits [15:0], RW, CFG. -/
def DE_Ti_AUX0 : Reg :=
  { base := 0x4006, stride := 0x8, count := 512, acc := .rw, cls := .cfg }
/-- R316, `DE_Ti_AUX1` bits [15:0], RW, CFG. -/
def DE_Ti_AUX1 : Reg :=
  { base := 0x4007, stride := 0x8, count := 512, acc := .rw, cls := .cfg }
/-- R316, `DE_Ti_LAST` bits [15:0], RO, RUN. -/
def DE_Ti_LAST : Reg :=
  { base := 0x6000, stride := 0x8, count := 512, cls := .run }
/-- R316, `DE_Ti_MIN` bits [15:0], RO, RUN. -/
def DE_Ti_MIN : Reg :=
  { base := 0x6001, stride := 0x8, count := 512, cls := .run }
/-- R316, `DE_Ti_MAX` bits [15:0], RO, RUN. -/
def DE_Ti_MAX : Reg :=
  { base := 0x6002, stride := 0x8, count := 512, cls := .run }
/-- R316, `DE_Ti_MEAN` bits [15:0], RO, RUN. -/
def DE_Ti_MEAN : Reg :=
  { base := 0x6003, stride := 0x8, count := 512, cls := .run }
/-- R316, `DE_Ti_BASE` bits [15:0], RO, RET. -/
def DE_Ti_BASE : Reg :=
  { base := 0x6004, stride := 0x8, count := 512, cls := .ret }
/-- R316, `DE_Ti_DEV` bits [15:0], RO, RET. -/
def DE_Ti_DEV : Reg :=
  { base := 0x6005, stride := 0x8, count := 512, cls := .ret }
/-- R316, `DE_Ti_SLOPE_NOW` bits [15:0], RO, RET. -/
def DE_Ti_SLOPE_NOW : Reg :=
  { base := 0x6006, stride := 0x8, count := 512, cls := .ret }
/-- R316, `DE_Ti_ALARMS` bits [0:0], RO, RET. -/
def DE_Ti_ALARMS_HIGH : Reg :=
  { base := 0x6007, stride := 0x8, count := 512, width := 1, cls := .ret }
/-- R316, `DE_Ti_ALARMS` bits [1:1], RO, RET. -/
def DE_Ti_ALARMS_LOW : Reg :=
  { base := 0x6007, stride := 0x8, count := 512, lo := 1, width := 1, cls := .ret }
/-- R316, `DE_Ti_ALARMS` bits [2:2], RO, RET. -/
def DE_Ti_ALARMS_SLOPE : Reg :=
  { base := 0x6007, stride := 0x8, count := 512, lo := 2, width := 1, cls := .ret }
/-- R316, `DE_Ti_ALARMS` bits [3:3], RO, RET. -/
def DE_Ti_ALARMS_DEV : Reg :=
  { base := 0x6007, stride := 0x8, count := 512, lo := 3, width := 1, cls := .ret }
/-- R316, `DE_Ti_ALARMS` bits [4:4], RO, RET. -/
def DE_Ti_ALARMS_ARMED : Reg :=
  { base := 0x6007, stride := 0x8, count := 512, lo := 4, width := 1, cls := .ret }
/-- R316, `DE_Ti_ALARMS` bits [5:5], RO, RET. -/
def DE_Ti_ALARMS_VALID : Reg :=
  { base := 0x6007, stride := 0x8, count := 512, lo := 5, width := 1, cls := .ret }

end Sys2Proof.Machine.R
end

