-- ==== Sys2Proof/Machine/RegsX.lean ====
section
/-! DEFINITION. State that the spec gives the machine without giving it an address: timers, counters, captured
values and measured quantities. Keys from 0x100000 up, so no packet reaches them. -/

namespace Sys2Proof.Machine.R

/-- R40: LPO ticks that have passed, for elapsed times -/
def X_TICKS : Reg :=
  { base := 0x100000, width := 64, cls := .nv }
/-- R311: LPO ticks that have passed with SYS not below SUP_WARN_V, the supply-good time of R309 -/
def X_GOOD : Reg :=
  { base := 0x101000, width := 64, cls := .nv }
/-- R55: device time at which the grace timer runs out -/
def X_GRACE_END : Reg :=
  { base := 0x102000, width := 48, cls := .run }
/-- R70: bit c: cause c has occurred since the last mode evaluation -/
def X_CAUSES : Reg :=
  { base := 0x103000, width := 32, cls := .run }
/-- R360: attempts of the host-notify pending -/
def X_NOTIFY_TRIES : Reg :=
  { base := 0x104000, width := 4, cls := .run }
/-- R359: RED bit of the event summary of the notify pending -/
def X_NOTIFY_RED : Reg :=
  { base := 0x105000, width := 1, cls := .run }
/-- R205: the device is in the cut-off rest -/
def X_CUTOFF_REST : Reg :=
  { base := 0x106000, width := 1, cls := .nv }
/-- R313: records of queue q refused since its last summary -/
def X_RF_COUNT : Reg :=
  { base := 0x107000, count := 16, width := 32, cls := .run }
/-- R313: causes of those refusals -/
def X_RF_CAUSES : Reg :=
  { base := 0x108000, count := 16, width := 5, cls := .run }
/-- R313: device time of the first of them -/
def X_RF_FIRST : Reg :=
  { base := 0x109000, count := 16, width := 32, cls := .run }
/-- R313: device time of the last of them -/
def X_RF_LAST : Reg :=
  { base := 0x10A000, count := 16, width := 32, cls := .run }
/-- R313: record type of the first of them -/
def X_RF_FTYPE : Reg :=
  { base := 0x10B000, count := 16, width := 8, cls := .run }
/-- R313: record type of the last of them -/
def X_RF_LTYPE : Reg :=
  { base := 0x10C000, count := 16, width := 8, cls := .run }
/-- R11: bits of each FAULT register whose condition stands, in the order of READ_FAULTS -/
def X_COND : Reg :=
  { base := 0x10D000, count := 18, cls := .run }
/-- R129: the frequency code in force -/
def X_FSW : Reg :=
  { base := 0x10E000, width := 6, reset := 20 }
/-- R129: the phase offset in force -/
def X_PHASE_OFS : Reg :=
  { base := 0x10F000, count := 4, width := 8, resets := [0, 32, 64, 96] }
/-- R151: causes for which group g is TRIPPED: presence, overvoltage, TS release, input undervoltage, SYS overvoltage, drive
supply, thermal shutdown, P3 in safe state -/
def X_TRIP : Reg :=
  { base := 0x110000, count := 4, width := 8 }
/-- R143: cycles for which the trims of group g are still held -/
def X_EQ_HOLD : Reg :=
  { base := 0x111000, count := 4, width := 10 }
/-- R247: the last SYSS reading, 10 mV -/
def X_SYSS : Reg :=
  { base := 0x112000, cls := .nv }
/-- R247: the last VBUSn reading, 10 mV -/
def X_VBUS : Reg :=
  { base := 0x113000, count := 4, cls := .nv }
/-- R247: the last BATS reading, 10 mV -/
def X_BATS : Reg :=
  { base := 0x114000, cls := .nv }
/-- R97: V_ref of a stop-lamp input, 10 mV -/
def X_VREF : Reg :=
  { base := 0x115000, count := 4 }
/-- R51: input n is a dormant harvest input -/
def X_DORMANT : Reg :=
  { base := 0x116000, count := 4, width := 1 }
/-- R111: a sweep of group n is due -/
def X_SWEEP_DUE : Reg :=
  { base := 0x117000, count := 4, width := 1 }
/-- R110: a sweep of group n has completed since classification -/
def X_SWEPT : Reg :=
  { base := 0x118000, count := 4, width := 1 }
/-- R108: P_old of group n is held -/
def X_PO_VALID : Reg :=
  { base := 0x119000, count := 4, width := 1 }
/-- R108: P_new of the previous counted period, 0.1 W -/
def X_PO_OLD : Reg :=
  { base := 0x11A000, count := 4, width := 32 }
/-- R112: V_set before the sweep in progress -/
def X_VSET_OLD : Reg :=
  { base := 0x11B000, count := 4 }
/-- R80: VBUSn at presence, 10 mV -/
def X_VBUS0 : Reg :=
  { base := 0x11C000, count := 4 }
/-- R83: consecutive decodes with a band other than the classified one -/
def X_IDDIFF : Reg :=
  { base := 0x11D000, count := 4, width := 2 }
/-- R83: the band the input was classified with -/
def X_BAND : Reg :=
  { base := 0x11E000, count := 4, width := 3 }
/-- R82: the last ratio lay outside every window -/
def X_KBAD : Reg :=
  { base := 0x11F000, count := 4, width := 1 }
/-- R93: the readmission of a HELD input runs -/
def X_READMIT : Reg :=
  { base := 0x120000, count := 4, width := 1 }
/-- R78: tick at which the absence of input n began -/
def X_ABSENT_AT : Reg :=
  { base := 0x121000, count := 4, width := 64 }
/-- R77: the presence debounce of input n runs -/
def X_DEBOUNCE : Reg :=
  { base := 0x122000, count := 4, width := 1 }
/-- R94: input n is in overvoltage -/
def X_OV : Reg :=
  { base := 0x123000, count := 4, width := 1 }
/-- R94: a FET short or open of input n is in force -/
def X_FETBAD : Reg :=
  { base := 0x124000, count := 4, width := 1 }
/-- R40: the fast clock is requested and starting -/
def X_FAST_REQ : Reg :=
  { base := 0x125000, width := 1 }
/-- R60: the Ship entry sequence is past its delay -/
def X_SHIP_OFF : Reg :=
  { base := 0x126000, width := 1 }
/-- R202: the input that cold-starts SYS -/
def X_COLD_INPUT : Reg :=
  { base := 0x127000, width := 2 }
/-- R202: the input-voltage floor of the cold start, 10 mV -/
def X_COLD_FLOOR : Reg :=
  { base := 0x128000 }
/-- R85: the last probe ended in PROBE_FAIL -/
def X_PROBE_FAIL : Reg :=
  { base := 0x129000, count := 4, width := 1 }
/-- R203: lockout is in force -/
def X_LOCKOUT : Reg :=
  { base := 0x12A000, width := 1 }
/-- R203: consecutive failed connections and trips -/
def X_FAILS : Reg :=
  { base := 0x12B000, width := 2 }
/-- R205: the cut-off sequence runs -/
def X_CUTOFF : Reg :=
  { base := 0x12C000, width := 1 }
/-- R51: bit i: the retry run of a dormant harvest input runs -/
def X_RETRY : Reg :=
  { base := 0x12D000, width := 4 }
/-- R167: an on-pulse runs and has not reached its end -/
def X_PULSE : Reg :=
  { base := 0x12E000, width := 1 }
/-- R167: device time at which the on-pulse began -/
def X_PULSE_AT : Reg :=
  { base := 0x12F000, width := 48 }
/-- R183: no on-pulse may start before the holds are released and a rest of CHG_T_REST has passed -/
def X_CHG_WAIT : Reg :=
  { base := 0x130000, width := 1 }
/-- R164: the sequencer goes to IDLE when the on-pulse has ended -/
def X_TO_IDLE : Reg :=
  { base := 0x131000, width := 1 }
/-- R168: Ride-Through arose during the rest -/
def X_REST_RIDE : Reg :=
  { base := 0x132000, width := 1 }
/-- R167: I_on of the last on-pulse, 25 mA, signed -/
def X_ION : Reg :=
  { base := 0x133000 }
/-- R167: V_on of the last on-pulse, 1 mV -/
def X_VON : Reg :=
  { base := 0x134000 }
/-- R167: samples V1 to V3 of the rest in progress, 1 mV -/
def X_SAMPLE : Reg :=
  { base := 0x135000, count := 3 }
/-- R167: sample I1 of the rest in progress, 25 mA, signed -/
def X_I1 : Reg :=
  { base := 0x136000 }
/-- R184: seconds of the precharge timer -/
def X_PRE_S : Reg :=
  { base := 0x137000 }
/-- R187: FAULT was entered for a fault or a trip of the power path -/
def X_CHG_PP : Reg :=
  { base := 0x138000, width := 1 }
/-- R160: the loaded profile breaks R160 -/
def X_PROFILE_BAD : Reg :=
  { base := 0x139000, width := 1 }
/-- R177: consecutive MAINTAIN checks below the recharge level -/
def X_MAINT_LOW : Reg :=
  { base := 0x13A000, width := 2 }
/-- R189: groups that CHARGE_CONTROL enables in Service -/
def X_SVC_GROUPS : Reg :=
  { base := 0x13B000, width := 4 }
/-- R203: device time of the last discharge trip -/
def X_TRIP_AT : Reg :=
  { base := 0x13C000, width := 48 }
/-- R203: a discharge trip has occurred -/
def X_TRIPPED : Reg :=
  { base := 0x13D000, width := 1 }
/-- R233: VAUX waits for its retry after a failure -/
def X_VAUX_WAIT : Reg :=
  { base := 0x13E000, width := 1 }
/-- R233: consecutive VAUX failures -/
def X_VAUX_FAILS : Reg :=
  { base := 0x13F000, width := 2 }
/-- R232: VPRE: 0 off, 1 on-delay, 2 ramp, 3 in regulation, 5 hiccup, 6 latched -/
def X_VPRE : Reg :=
  { base := 0x140000, width := 3 }
/-- R232: consecutive VPRE failures -/
def X_VPRE_FAILS : Reg :=
  { base := 0x141000, width := 2 }
/-- R229: the off-delay of rail x runs -/
def X_RAIL_OFFDLY : Reg :=
  { base := 0x142000, count := 2, width := 1 }
/-- R504: 4 + n: the power state n named by a SET_STATE that has not yet applied -/
def X_RAIL_NAMED : Reg :=
  { base := 0x143000, count := 2, width := 3 }
/-- R227: rail x was turned off by SET_STATE to PS3 -/
def X_RAIL_PS3 : Reg :=
  { base := 0x144000, count := 2, width := 1 }
/-- R238: the transition in progress slews at 20 mV/us -/
def X_RAIL_FAST : Reg :=
  { base := 0x145000, count := 2, width := 1 }
/-- R239: alerts pending on rail x: settle, fault -/
def X_RAIL_ALERTS : Reg :=
  { base := 0x146000, count := 2, width := 2 }
/-- R149: the bootstrap charge and checks of group g have run -/
def X_BOOT : Reg :=
  { base := 0x147000, count := 4, width := 1 }
/-- R141: a tuning run of group g is due or in progress -/
def X_TUNE : Reg :=
  { base := 0x148000, count := 4, width := 1 }
/-- R147: consecutive shed evaluations of group g below 15 % -/
def X_SHED_LOW : Reg :=
  { base := 0x149000, count := 4, width := 4 }
/-- R147: consecutive shed evaluations of group g above 30 % -/
def X_SHED_HIGH : Reg :=
  { base := 0x14A000, count := 4, width := 2 }
/-- R144: equalisation updates for which the trim of phase n has sat at its limit -/
def X_SAT : Reg :=
  { base := 0x14B000, count := 6, width := 20 }
/-- R135: the last bootstrap refresh of phase n was forced -/
def X_BOOT_REF : Reg :=
  { base := 0x14C000, count := 6, width := 1 }
/-- R152: the synchronous switch of phase n is off for the rest of its cycle -/
def X_SYNC_OFF : Reg :=
  { base := 0x14D000, count := 6, width := 1 }
/-- R122: 1 + tick since which group g has not been voltage-governed -/
def X_UNGOV : Reg :=
  { base := 0x14E000, count := 4, width := 65 }
/-- R115: the last valid priority order -/
def X_PRIO : Reg :=
  { base := 0x14F000, width := 24, reset := 6558291 }
/-- R113: P at the last counted period of group n, 0.1 W -/
def X_PCNT : Reg :=
  { base := 0x150000, count := 4, width := 32 }
/-- R113: group n has had a counted period -/
def X_COUNTED : Reg :=
  { base := 0x151000, count := 4, width := 1 }
/-- R109: V_oc of the last sweep of group n, 10 mV -/
def X_SWEEP_VOC : Reg :=
  { base := 0x152000, count := 4 }
/-- R124: device time of the last completed sweep of group n -/
def X_SWEEP_AT : Reg :=
  { base := 0x153000, count := 4, width := 48, cls := .run }
/-- R124: a sweep of group n has completed -/
def X_SWEEP_EVER : Reg :=
  { base := 0x154000, count := 4, width := 1, cls := .run }
/-- R242: a transition of rail x waits for the end of TUNE -/
def X_RAIL_PEND : Reg :=
  { base := 0x155000, count := 2, width := 1 }
/-- R285: bit p: the yard poll of line port p is due or running -/
def X_POLL : Reg :=
  { base := 0x156000, width := 2 }
/-- R281: enumeration run due on port p: 1 with START = 0, 2 with START = 1 -/
def X_ENUM : Reg :=
  { base := 0x157000, count := 2, width := 2 }
/-- R267: port p rises from OFF and has its boot wait before it -/
def X_LINE_BOOT : Reg :=
  { base := 0x158000, count := 2, width := 1 }
/-- R267: port p has reached V_line -/
def X_LINE_UP : Reg :=
  { base := 0x159000, count := 2, width := 1 }
/-- R251: device time of the last accepted offset sample -/
def X_OFS_AT : Reg :=
  { base := 0x15A000, width := 48, cls := .ret }
/-- R253: fractional accumulator of counter k, 0.1 mW ms -/
def X_LDG_ACC : Reg :=
  { base := 0x15B000, count := 12, width := 26, cls := .ret }
/-- R256: fraction of the remaining energy, in 1/256 of 0.1 mW ms -/
def X_EREM_ACC : Reg :=
  { base := 0x15C000, width := 34, cls := .ret }
/-- R255: keep-alive power of port p at the end of the last poll cycle, 0.1 mW -/
def X_KA_POWER : Reg :=
  { base := 0x15D000, count := 2, cls := .run }
/-- R255: device time from which the next sleep credit counts -/
def X_SLEEP_AT : Reg :=
  { base := 0x15E000, width := 48, cls := .run }
/-- R255: a sleep credit is owed -/
def X_SLEEPING : Reg :=
  { base := 0x15F000, width := 1, cls := .run }
/-- R257: battery-out energy of the yard wake in progress, 0.1 mW ms -/
def X_WAKE_OUT : Reg :=
  { base := 0x160000, width := 48, cls := .run }
/-- R257: battery-in energy of the yard wake in progress, 0.1 mW ms -/
def X_WAKE_IN : Reg :=
  { base := 0x161000, width := 48, cls := .run }
/-- R257: a yard wake is in progress and no other mode has interrupted it -/
def X_WAKE_OK : Reg :=
  { base := 0x162000, width := 1, cls := .run }
/-- R257: LDG_E_POLL has been set since POR -/
def X_POLL_EVER : Reg :=
  { base := 0x163000, width := 1, cls := .ret }
/-- R260: an hourly snapshot is due at the next wake -/
def X_HOUR_DUE : Reg :=
  { base := 0x164000, width := 1, cls := .run }
/-- R248: the reference check fails -/
def X_REF_FAIL : Reg :=
  { base := 0x165000, width := 1 }
/-- R181: charging is forbidden under R181 -/
def X_TEMP_FORBID : Reg :=
  { base := 0x166000, width := 1 }
/-- R199: supplement in LINEAR: 0 current regulation, 1 forward drop 20 mV, 2 fully on -/
def X_SUPPL : Reg :=
  { base := 0x167000, width := 2 }
/-- R207: a presence probe has been asked for -/
def X_PROBE_DUE : Reg :=
  { base := 0x168000, width := 1 }
/-- R202: an abandoned cold start waits for its retry -/
def X_COLD_WAIT : Reg :=
  { base := 0x169000, width := 1 }
/-- R205: the mode held when the cut-off sequence began -/
def X_CUT_MODE : Reg :=
  { base := 0x16A000, width := 4, cls := .nv }
/-- R447: the device is held in reset after a failure of P3 or P4 -/
def X_HELD : Reg :=
  { base := 0x16B000, width := 1 }
/-- R242: rail x failed while it slewed, so it restarts toward the newest target -/
def X_RAIL_KEEP : Reg :=
  { base := 0x16C000, count := 2, width := 1 }
/-- R232: device time at which VPRE reached regulation -/
def X_VPRE_AT : Reg :=
  { base := 0x16D000, width := 48 }
/-- R237: the ACK code that the last frame was answered with; 7 where nobody drove it -/
def X_RCL_ACK : Reg :=
  { base := 0x16E000, width := 3, reset := 7 }
/-- R237: the RDATA byte of the last GET frame answered ACK -/
def X_RCL_RDATA : Reg :=
  { base := 0x16F000, width := 8 }
/-- R249: device time of the last start of the fast clock -/
def X_FAST_AT : Reg :=
  { base := 0x170000, width := 48, cls := .nv }
/-- R299: samples in the window in progress of tracker i -/
def X_TR_N : Reg :=
  { base := 0x171000, count := 512, width := 13, cls := .run }
/-- R299: their sum, signed -/
def X_TR_SUM : Reg :=
  { base := 0x172000, count := 512, width := 32, cls := .run }
/-- R300: window length in force -/
def X_TR_WIN : Reg :=
  { base := 0x173000, count := 512, width := 13, cls := .run, reset := 1 }
/-- R300: K in force -/
def X_TR_K : Reg :=
  { base := 0x174000, count := 512, width := 4, cls := .ret, reset := 6 }
/-- R299: base with 8 fraction bits, signed -/
def X_TR_BASE : Reg :=
  { base := 0x175000, count := 512, width := 32, cls := .ret }
/-- R299: dev with 8 fraction bits -/
def X_TR_DEV : Reg :=
  { base := 0x176000, count := 512, width := 32, cls := .ret }
/-- R299: samples that the baseline has seen, to 4096 -/
def X_TR_COUNT : Reg :=
  { base := 0x177000, count := 512, width := 13, cls := .ret }
/-- R299: a slope reference is held -/
def X_TR_REF : Reg :=
  { base := 0x178000, count := 512, width := 1, cls := .ret }
/-- R299: x_ref, signed -/
def X_TR_XREF : Reg :=
  { base := 0x179000, count := 512, width := 32, cls := .ret }
/-- R299: t_ref, ms -/
def X_TR_TREF : Reg :=
  { base := 0x17A000, count := 512, width := 48, cls := .ret }
/-- R314: a write of Qq_CAP waits -/
def X_CAP_WAIT : Reg :=
  { base := 0x17B000, count := 16, width := 1 }
/-- R314: the capacity that waits -/
def X_CAP_NEW : Reg :=
  { base := 0x17C000, count := 16, width := 14 }
/-- R279: the ID that holds slot s; 0 where it is free -/
def X_SLOT_ID : Reg :=
  { base := 0x17D000, count := 64, width := 48, cls := .ret }
/-- R276: FMT of the node, from its ASSIGN reply -/
def X_SLOT_FMT : Reg :=
  { base := 0x17E000, count := 64, width := 8, cls := .ret }
/-- R276: CHMASK provided by the node -/
def X_SLOT_MASK : Reg :=
  { base := 0x17F000, count := 64, width := 8, cls := .ret }
/-- R291: missed polls in a row, saturating -/
def X_SLOT_MISSES : Reg :=
  { base := 0x180000, count := 64, width := 8 }
/-- R291: device time of the last valid reply, low 32 bits -/
def X_SLOT_LAST : Reg :=
  { base := 0x181000, count := 64, width := 32 }
/-- R275: 1 + the last SEQ sent to the slot; 0 where the next frame carries SEQ 0 -/
def X_SLOT_SEQ : Reg :=
  { base := 0x182000, count := 64, width := 2 }
/-- R284: start of the cycle of the previous poll -/
def X_SLOT_CYC : Reg :=
  { base := 0x183000, count := 64, width := 48 }
/-- R284: the slot has been polled since its assignment -/
def X_SLOT_POLLED : Reg :=
  { base := 0x184000, count := 64, width := 1 }
/-- R290: bit 24: a CONFIG_NODE is pending; bits 23 to 16 entry ID, 15 to 0 value -/
def X_SLOT_CFG : Reg :=
  { base := 0x185000, count := 64, width := 25 }
/-- R271: AMP has been learned since the assignment -/
def X_SLOT_AMP_OK : Reg :=
  { base := 0x186000, count := 64, width := 1, cls := .ret }
/-- R284: slots still to be polled in the line cycle or yard poll of port p -/
def X_LINE_LEFT : Reg :=
  { base := 0x187000, count := 2, width := 64 }
/-- R274: frame in progress on port p: 0 none, 1 POLL, 2 CONFIG, 3 ASSIGN -/
def X_FRAME : Reg :=
  { base := 0x188000, count := 2, width := 2 }
/-- R274: 0 the first frame is out, 1 it failed and its retry is due, 2 the retry is out -/
def X_TRY : Reg :=
  { base := 0x189000, count := 2, width := 2 }
/-- R278: enumeration run in progress on port p: 1 with START = 0, 2 with START = 1 -/
def X_RUN : Reg :=
  { base := 0x18A000, count := 2, width := 2 }
/-- R278: IDWALKs of the run -/
def X_WALKS : Reg :=
  { base := 0x18B000, count := 2, width := 7 }
/-- R278: ID that the ASSIGN in progress names -/
def X_WALK_ID : Reg :=
  { base := 0x18C000, count := 2, width := 48 }
/-- R279: slot that the ASSIGN in progress names -/
def X_WALK_SLOT : Reg :=
  { base := 0x18D000, count := 2, width := 6 }
/-- R279: rule that gave that slot: 1 table, 2 bind, 3 free -/
def X_WALK_HOW : Reg :=
  { base := 0x18E000, count := 2, width := 2 }
/-- R278: ID k that failed in the run of port p, at index 80 p + k -/
def X_FAIL_ID : Reg :=
  { base := 0x18F000, count := 160, width := 48 }
/-- R278: its failures -/
def X_FAIL_N : Reg :=
  { base := 0x190000, count := 160, width := 7 }
/-- R284: a cycle start waits for the cycle or run in progress -/
def X_LINE_LATE : Reg :=
  { base := 0x191000, count := 2, width := 1 }
/-- R286: device time of the last SYNC_TIME on port p -/
def X_SYNC_AT : Reg :=
  { base := 0x192000, count := 2, width := 48 }
/-- R281: device time of the last enumeration run on port p -/
def X_DISC_AT : Reg :=
  { base := 0x193000, count := 2, width := 48 }
/-- R288: shorts of port p in a row -/
def X_SHORTS : Reg :=
  { base := 0x194000, count := 2, width := 2 }
/-- R325: the head block is full and no pre-erased block was ready; the next one erased becomes the head -/
def X_NEED_BLOCK : Reg :=
  { base := 0x195000, width := 1, cls := .nv }
/-- R324: PAGE_SERIAL of the next page opened -/
def X_SERIAL : Reg :=
  { base := 0x196000, width := 32, cls := .nv }
/-- R324: the next page opened carries FIRST_AFTER_POR -/
def X_FIRST_POR : Reg :=
  { base := 0x197000, width := 1, cls := .nv }
/-- R333: every accepted record is to be committed at once -/
def X_FLUSH : Reg :=
  { base := 0x198000, width := 1 }
/-- R340: 1 thermal stop, 2 supply loss: a commit was stopped and its COMMIT_ABORTED is not yet written -/
def X_ABORT : Reg :=
  { base := 0x199000, width := 2, cls := .nv }
/-- R391: a version waits to switch in -/
def X_SWITCH : Reg :=
  { base := 0x19A000, width := 1 }
/-- R393: device time at which the trial of the version in force ends -/
def X_TRIAL_END : Reg :=
  { base := 0x19B000, width := 48 }
/-- R389: state of the staging buffer: 0 EMPTY, 1 STAGED, 2 VERIFIED, 3 IN_USE -/
def X_STAGE : Reg :=
  { base := 0x19C000, width := 2, cls := .run }
/-- R395: highest staged byte offset + 1 -/
def X_STAGE_TOP : Reg :=
  { base := 0x19D000, width := 15, cls := .run }
/-- R395: version of the verified image -/
def X_STAGE_VER : Reg :=
  { base := 0x19E000, width := 32, cls := .run }
/-- R389: length of the verified image -/
def X_STAGE_LEN : Reg :=
  { base := 0x19F000, width := 15, cls := .run }
/-- R340: version that the revert or switch in progress leaves -/
def X_STORE_VER : Reg :=
  { base := 0x1A0000, width := 32, cls := .nv }
/-- R25: cause of the device restart that is due; 0 for none -/
def X_RESTART : Reg :=
  { base := 0x1A1000, width := 5, cls := .run }
/-- R25: the device restart has begun and waits for the records to be committed -/
def X_RESTARTING : Reg :=
  { base := 0x1A2000, width := 1, cls := .run }
/-- R365: HRSTN has been released since the host rail demand became true -/
def X_HRST_UP : Reg :=
  { base := 0x1A3000, width := 1 }
/-- R404: a period starts at the next tick: 1 ordinary, 2 boot -/
def X_WDT_NEW : Reg :=
  { base := 0x1A4000, width := 2 }
/-- R401: period code of the present period -/
def X_WDT_CODE : Reg :=
  { base := 0x1A5000, width := 4, reset := 10 }
/-- R401: ticks P of the present period -/
def X_WDT_LEN : Reg :=
  { base := 0x1A6000, width := 32 }
/-- R407: 0x5A has been written and 0xA5 has not followed -/
def X_DIS_ARM : Reg :=
  { base := 0x1A7000, width := 1, cls := .run }
/-- R407: tick of that write -/
def X_DIS_AT : Reg :=
  { base := 0x1A8000, width := 64, cls := .run }
/-- R417: device times of the last two sequencer restarts, the newest first -/
def X_SEQ_AT : Reg :=
  { base := 0x1A9000, count := 2, width := 48, cls := .run }
/-- R417: how many of them are held -/
def X_SEQ_N : Reg :=
  { base := 0x1AA000, width := 2, cls := .run }
/-- R422: device time at which Ride-Through began -/
def X_RIDE_AT : Reg :=
  { base := 0x1AB000, width := 48, cls := .run }
/-- R399: the slow counter -/
def X_SLOW : Reg :=
  { base := 0x1AC000, width := 32, cls := .nv }
/-- R400: slow counter at the last restart of the wake count -/
def X_WAKE_AT : Reg :=
  { base := 0x1AD000, width := 32, cls := .nv }
/-- R400: ticks that the wake count runs for -/
def X_WAKE_LEN : Reg :=
  { base := 0x1AE000, width := 32, cls := .nv }
/-- R436: thermistor x (TB1 to TB4, TS1, TS2): 0 not yet judged, 1 valid, 2 invalid -/
def X_TH_JUDGE : Reg :=
  { base := 0x1AF000, count := 6, width := 2 }
/-- R436: consecutive valid readings, to 10 -/
def X_TH_RUN : Reg :=
  { base := 0x1B0000, count := 6, width := 4 }
/-- R436: consecutive invalid readings, to 2 -/
def X_TH_BAD : Reg :=
  { base := 0x1B1000, count := 6, width := 2 }
/-- R438: last valid reading, 0.1 degC, signed -/
def X_TH_LAST : Reg :=
  { base := 0x1B2000, count := 6, reset := 32768 }
/-- R438: a foldback episode runs -/
def X_FB_EPISODE : Reg :=
  { base := 0x1B3000, width := 1, cls := .run }
/-- R439: lowest f_lin of the episode -/
def X_FB_LOW : Reg :=
  { base := 0x1B4000, width := 9, cls := .run, reset := 256 }
/-- R439: bit n: TSn+1 must meet the 10 s condition before the hold ends -/
def X_FB_WAIT : Reg :=
  { base := 0x1B5000, width := 2, cls := .run }
/-- R429: consecutive implausible die readings, to 2 -/
def X_DIE_BAD : Reg :=
  { base := 0x1B6000, width := 2 }
/-- R429: consecutive plausible die readings, to 100 -/
def X_DIE_GOOD : Reg :=
  { base := 0x1B7000, width := 7 }
/-- R433: device time at which Thermal Hold began -/
def X_HOLD_AT : Reg :=
  { base := 0x1B8000, width := 48, cls := .run }
/-- R44: held low words of DEV_EPOCH -/
def X_EPOCH_LOW : Reg :=
  { base := 0x1B9000, width := 48, cls := .run }
/-- R264: held low word of LDG_BAT_USABLE -/
def X_USABLE_LOW : Reg :=
  { base := 0x1BA000, cls := .run }
/-- R256: held low word of LDG_E_REM -/
def X_EREM_LOW : Reg :=
  { base := 0x1BB000, cls := .run }
/-- R460: device time of the last completed round of partition p -/
def X_BIST_AT : Reg :=
  { base := 0x1BC000, count := 8, width := 48, cls := .ret }
/-- R444: bit j: slice j of partition p has passed in the present round -/
def X_BIST_SEEN : Reg :=
  { base := 0x1BD000, count := 8, width := 64, cls := .ret }
/-- R444: slice that runs -/
def X_BIST_SLICE : Reg :=
  { base := 0x1BE000, width := 6 }
/-- R454: the last slice of partition p mismatched and its retry is due -/
def X_BIST_MISS : Reg :=
  { base := 0x1BF000, count := 8, width := 1, cls := .ret }
/-- R454: that slice -/
def X_BIST_RETRY : Reg :=
  { base := 0x1C0000, count := 8, width := 6, cls := .ret }
/-- R457: partitions that SELFTEST RUN serves first -/
def X_BIST_FIRST : Reg :=
  { base := 0x1C1000, width := 8, cls := .run }
/-- R396: an OTP word is being programmed -/
def X_OTP_BUSY : Reg :=
  { base := 0x1C2000, width := 1 }
/-- R396: that word -/
def X_OTP_WORD : Reg :=
  { base := 0x1C3000, width := 7 }
/-- R396: the bits to set in it -/
def X_OTP_BITS : Reg :=
  { base := 0x1C4000 }
/-- R68: device time at which Service times out -/
def X_SVC_END : Reg :=
  { base := 0x1C5000, width := 48 }
/-- R448: the hard-wired responder serves the two-wire port -/
def X_P0_ONLY : Reg :=
  { base := 0x1C6000, width := 1 }
/-- R355: the awake hold starts as soon as the fast clock runs -/
def X_HOLD_DUE : Reg :=
  { base := 0x1C7000, width := 1 }
/-- R48: Service has been accepted and not been left -/
def X_SERVICE : Reg :=
  { base := 0x1C8000, width := 1 }
/-- R57: first SEQ of the records written at the last entry to Yard Sleep -/
def X_QUIET_FROM : Reg :=
  { base := 0x1C9000, width := 32, cls := .run }
/-- R57: SEQ after the last of them -/
def X_QUIET_TO : Reg :=
  { base := 0x1CA000, width := 32, cls := .run }
/-- R41: HFO cycles counted over the last 1024 LPO ticks -/
def X_TIME_RATE : Reg :=
  { base := 0x1CB000, width := 32, cls := .nv, reset := 500000 }
/-- R41: fraction of the device time, 1/16384000 ms -/
def X_TIME_ACC : Reg :=
  { base := 0x1CC000, width := 24, cls := .nv }
/-- R41: device time of the last rate correction -/
def X_CORR_AT : Reg :=
  { base := 0x1CD000, width := 48, cls := .nv }
/-- R38: VAO is below the reset level; power-on reset holds -/
def X_DOWN : Reg :=
  { base := 0x1CE000, width := 1, cls := .nv }
/-- R57: a wake by the wake count or by WAKEN awaits its Yard Poll -/
def X_WOKEN : Reg :=
  { base := 0x1CF000, width := 1, cls := .run }
/-- R74: GAn is driven; IN_STATUS.FET_ON shows GAn and GBn both driven -/
def X_GA : Reg :=
  { base := 0x1D0000, count := 4, width := 1 }
/-- R101: the gates of input n go low as soon as its group no longer draws -/
def X_GATE_OFF : Reg :=
  { base := 0x1D1000, count := 4, width := 1 }
/-- R81: presence losses of input n in the signature watch -/
def X_WDROPS : Reg :=
  { base := 0x1D2000, count := 4, width := 8 }
/-- R80: device time at which SETTLE began -/
def X_SETTLE_AT : Reg :=
  { base := 0x1D3000, count := 4, width := 48 }
/-- R82: the ID decode of the classification or readmission in progress is done -/
def X_DECODED : Reg :=
  { base := 0x1D4000, count := 4, width := 1 }
/-- R83: device time of the last ID decode -/
def X_DECODE_AT : Reg :=
  { base := 0x1D5000, count := 4, width := 48 }
/-- R97: a V_ref retake of input n runs -/
def X_RETAKE : Reg :=
  { base := 0x1D6000, count := 4, width := 1 }
/-- R97: device time at which V_ref was last taken -/
def X_VREF_AT : Reg :=
  { base := 0x1D7000, count := 4, width := 48 }
/-- R110: an SO input awaits its first sweep after classification -/
def X_AWAIT : Reg :=
  { base := 0x1D8000, count := 4, width := 1 }
/-- R150: input current that the ramps of group g allow now, 25 mA -/
def X_RAMP : Reg :=
  { base := 0x1D9000, count := 4, width := 13 }
/-- R134: SYSS at the last 10 us evaluation of group g, 10 mV -/
def X_LSYS : Reg :=
  { base := 0x1DA000, count := 4 }
/-- R134: VBUSg at the last 10 us evaluation, 10 mV -/
def X_LVBUS : Reg :=
  { base := 0x1DB000, count := 4 }
/-- R132: place of phase n in the timebase, 1/15360 of a period -/
def X_PLACE : Reg :=
  { base := 0x1DC000, count := 6, width := 14 }
/-- R137: target of the battery-current loop of group g, 25 mA -/
def X_TGT_IBAT : Reg :=
  { base := 0x1DD000, count := 4 }
/-- R137: target of its battery-voltage loop, mV -/
def X_TGT_VBAT : Reg :=
  { base := 0x1DE000, count := 4 }
/-- R137: target of its SYS-voltage loop, 10 mV -/
def X_TGT_SYS : Reg :=
  { base := 0x1DF000, count := 4 }
/-- R137: target of its input-voltage loop, 10 mV -/
def X_TGT_VIN : Reg :=
  { base := 0x1E0000, count := 4 }
/-- R137: target of its input-current loop, 25 mA -/
def X_TGT_IIN : Reg :=
  { base := 0x1E1000, count := 4, width := 13 }
/-- R138: demand of loop k of group g, at index 5 g + k: input voltage, input current, battery current, battery voltage, SYS
voltage, 25 mA -/
def X_DEMAND : Reg :=
  { base := 0x1E2000, count := 20 }
/-- R136: slope of the compensation ramp of group g, mA/us -/
def X_SLOPE : Reg :=
  { base := 0x1E3000, count := 4 }
/-- R136: controlling switch of group g: 0 none, 1 upstream high-side, 2 downstream low-side -/
def X_CTRL_SW : Reg :=
  { base := 0x1E4000, count := 4, width := 2 }
/-- R135: side of the last bootstrap refresh of phase n: 1 upstream, 2 downstream -/
def X_BOOT_SIDE : Reg :=
  { base := 0x1E5000, count := 6, width := 2 }
/-- R141: a tuning run of group g is in progress -/
def X_TUNING : Reg :=
  { base := 0x1E6000, count := 4, width := 1 }
/-- R142: tuning attempts of group g since its start -/
def X_TUNE_N : Reg :=
  { base := 0x1E7000, count := 4, width := 4 }
/-- R142: device time from which the attempts of group g count -/
def X_TUNE_AT : Reg :=
  { base := 0x1E8000, count := 4, width := 48 }
/-- R142: governing loop at the start of the run -/
def X_TUNE_LOOP : Reg :=
  { base := 0x1E9000, count := 4, width := 3 }
/-- R142: region at the start of the run -/
def X_TUNE_REGION : Reg :=
  { base := 0x1EA000, count := 4, width := 2 }
/-- R142: battery-current target at the start of the run, 25 mA -/
def X_TUNE_TGT : Reg :=
  { base := 0x1EB000, count := 4 }
/-- R141: proportional factor of the last successful tuning -/
def X_KP_OK : Reg :=
  { base := 0x1EC000, count := 4, width := 11, reset := 256 }
/-- R141: integral factor of the last successful tuning -/
def X_KI_OK : Reg :=
  { base := 0x1ED000, count := 4, width := 11, reset := 256 }
/-- R143: peak command of phase n, 25 mA -/
def X_PEAK : Reg :=
  { base := 0x1EE000, count := 6 }
/-- R136: on-time of phase n in the last cycle that its peak limit ended, ns -/
def X_ON_NS : Reg :=
  { base := 0x1EF000, count := 6 }
/-- R181: charging is forbidden for temperature, so the return margins apply -/
def X_TEMP_OUT : Reg :=
  { base := 0x1F0000, width := 1 }
/-- R197: rising SYS target of CONNECT before its floor, 10 mV -/
def X_CONN : Reg :=
  { base := 0x1F1000 }
/-- R226: phase of Rail A that holds the firing token: 0 LXA1, 1 LXA2, 2 LXA3 -/
def X_TOKEN : Reg :=
  { base := 0x1F2000, width := 2 }
/-- R226: lead phase L of Rail A -/
def X_LEAD : Reg :=
  { base := 0x1F3000, width := 2 }
/-- R226: 1 + the phase of Rail A that fired last; 0 before the first firing of a start -/
def X_FIRED : Reg :=
  { base := 0x1F4000, width := 2 }
/-- R224: on-time of rail x at its last tuning, ns -/
def X_RAIL_TON : Reg :=
  { base := 0x1F5000, count := 2 }
/-- R237: the parity bit RP after the RDATA byte of the last GET frame answered ACK -/
def X_RCL_RP : Reg :=
  { base := 0x1F6000, width := 1 }
/-- R237: clocks of the last frame: 22, or 31 with RDATA and RP; 0 where it was abandoned or not answered -/
def X_RCL_CLOCKS : Reg :=
  { base := 0x1F7000, width := 5 }
/-- R262: 1 + the device time of the last host write of LDG_E_REM; 0 for none -/
def X_EREM_AT : Reg :=
  { base := 0x1F9000, width := 48 }
/-- R262: the poll interval was updated during the yard wake in progress -/
def X_INT_NEW : Reg :=
  { base := 0x1FA000, width := 1, cls := .run }
/-- R272: bytes of the last downstream frame on port p, at index 16 p -/
def X_LINE_TX : Reg :=
  { base := 0x1FB000, count := 32, width := 8 }
/-- R272: their number -/
def X_LINE_TXN : Reg :=
  { base := 0x1FC000, count := 2, width := 5 }
/-- R284: 1 + the start of the line cycle in progress on port p; 0 for the polls of a yard wake -/
def X_LINE_CYC : Reg :=
  { base := 0x1FD000, count := 2, width := 48 }
/-- R183: a hold has ended the on-pulse, whose current and voltage ON_PULSE_END still takes -/
def X_PULSE_OVER : Reg :=
  { base := 0x1FE000, width := 1 }
/-- R141: evaluations of the loops since the tuning run of group g began -/
def X_TUNE_EV : Reg :=
  { base := 0x1FF000, count := 4 }
/-- R242: the target code that TUNE began with -/
def X_RAIL_TUNED : Reg :=
  { base := 0x200000, count := 2, width := 8 }
/-- R275: SEQ of the POLL or CONFIG in progress on port p, plus 1 -/
def X_FRAME_SEQ : Reg :=
  { base := 0x201000, count := 2, width := 2 }
/-- R420: tick of the violation that gave Black -/
def X_BLACK_TICK : Reg :=
  { base := 0x202000, width := 24 }
/-- R420: period code of that violation, with bit 7 for a boot period -/
def X_BLACK_CODE : Reg :=
  { base := 0x203000, width := 8 }
/-- R420: supervision at that violation, 1 Internal -/
def X_BLACK_SUP : Reg :=
  { base := 0x204000, width := 1 }
/-- R366: another driver holds HRSTN low -/
def X_HRST_EXT : Reg :=
  { base := 0x205000, width := 1 }
/-- R486: VAO has fallen below 1.5 V since the last start -/
def X_PASSIVE : Reg :=
  { base := 0x206000, width := 1 }
/-- R486: state of the JTAG TAP, 0 Test-Logic-Reset, as tapNext numbers them -/
def X_TAP : Reg :=
  { base := 0x207000, width := 4 }

end Sys2Proof.Machine.R
end

