-- ==== Sys2Proof/Machine/RegTable.lean ====
section
/-! DEFINITION. Which register fields a parameter address holds (R461 to R463): short lists per block. -/

namespace Sys2Proof.Machine

/-- Fields of block 0x0000. -/
def regs00 : List Reg :=
  [R.DEV_ID, R.DEV_REV_REV_LETTER, R.DEV_REV_REV_DIGIT, R.DEV_FAULT_SUM,
    R.DEV_CFG_DIRTY, R.DEV_TIME, R.DEV_EPOCH, R.DEV_CLK_FAST_ON,
    R.DEV_CLK_TIME_SEEDED, R.DEV_CLK_EPOCH_SET, R.DEV_CLK_CORR_STALE]
/-- Fields of block 0x0100. -/
def regs01 : List Reg :=
  [R.MODE_STATUS_MODE, R.MODE_STATUS_PREV, R.MODE_STATUS_COUPLED, R.MODE_STATUS_GRACE,
    R.MODE_STATUS_RAIL_DEMAND, R.MODE_STATUS_RIDE_ACTIVE, R.MODE_STATUS_THERM_ACTIVE, R.MODE_STATUS_SHIP_PENDING,
    R.MODE_STATUS_HARVEST, R.MODE_CAUSE, R.MODE_CHANGE_TIME, R.MODE_GRACE_LEFT] ++
  [R.MODE_CTRL, R.MODE_POLICY_ON_COUPLE, R.MODE_POLICY_ON_DEPOT, R.MODE_POLICY_ON_WAKEN,
    R.MODE_POLICY_ON_SOLAR, R.MODE_POLICY_ON_RED, R.MODE_GRACE, R.MODE_HARVEST_MIN,
    R.MODE_SVC_TIMEOUT, R.MODE_SHIP_DELAY, R.MODE_WAKE_EN_WAKEN, R.MODE_WAKE_EN_ADDR] ++
  [R.MODE_WAKE_SRC_WDT, R.MODE_WAKE_SRC_INPUT, R.MODE_WAKE_SRC_WAKEN, R.MODE_WAKE_SRC_ADDR,
    R.MODE_WAKE_SRC_SUPWARN, R.MODE_COUPLE_CNT]
/-- Fields of block 0x0200. -/
def regs02 : List Reg :=
  [R.IN_FAULT_OV, R.IN_FAULT_REV_POL, R.IN_FAULT_FET, R.IN_FAULT_CLASS,
    R.IN_STATUS_PRESENT, R.IN_STATUS_FET_ON, R.IN_STATUS_TS_RELEASED, R.IN_STATUS_HELD,
    R.IN_CLASS, R.IN_TS_DROOP, R.IN_TS_HOLD, R.IN_AG_HOLD] ++
  [R.IN_AG_RIPPLE, R.IN_STIFF_R, R.IN_SETTLE, R.IN_PROBE_DROOP,
    R.INn_CTRL, R.INn_MASK, R.INn_LIMIT, R.INn_OV,
    R.INn_SHUNT, R.INn_STAT_CLASS, R.INn_STAT_BAND, R.INn_STAT_DECLARED] ++
  [R.INn_STAT_MASKED, R.INn_STAT_STATE, R.INn_STAT_ISSUE, R.INn_VOC,
    R.INn_RSRC, R.INn_CURV, R.INn_SIG_DROPOUTS, R.INn_SIG_FREQ,
    R.INn_RIPPLE, R.INn_LIM_EFF, R.INn_V, R.INn_I] ++
  [R.INn_CMD, R.INn_RELEASES]
/-- Fields of block 0x0300. -/
def regs03 : List Reg :=
  [R.TRK_FAULT_WEAK, R.TRK_FAULT_SWEEP_ABORT, R.TRK_FAULT_PRIO_BAD, R.TRK_STATUS_TRIM,
    R.TRK_STATUS_SHORTFALL, R.TRK_STATUS_PRIO_BAD, R.TRK_STATUS_FAST_RISE, R.TRK_STATUS_SWEEPING,
    R.TRK_PRIO_A, R.TRK_PRIO_B_FIFTH, R.TRK_PRIO_B_SIXTH, R.TRK_TP_FLOOR] ++
  [R.TRK_GUARD_DROOP, R.TRK_STEP_INIT, R.TRK_SWEEP_PERIOD, R.TRK_ETA,
    R.TRK_MARGIN, R.TRK_DEMAND, R.TRK_LOAD, R.TRKn_STAT_STYLE,
    R.TRKn_STAT_LOOP, R.TRKn_STAT_GOVERNED, R.TRKn_STAT_TRIM, R.TRKn_STAT_DIR_DOWN] ++
  [R.TRKn_STAT_RUN, R.TRKn_VSET, R.TRKn_STEP, R.TRKn_CAP,
    R.TRKn_ALLOC, R.TRKn_PIN, R.TRKn_VMP, R.TRKn_PMP,
    R.TRKn_SWEEP_AGE, R.TRKn_CMD]
/-- Fields of block 0x0400. -/
def regs04 : List Reg :=
  [R.CNV_FAULT_SYS_OV, R.CNV_FAULT_DRV_UV, R.CNV_FAULT_IN_UV, R.CNV_FAULT_TUNE_FAIL,
    R.CNV_FAULT_BOOT, R.CNV_PH_FAULT_OPEN, R.CNV_PH_FAULT_SHORT, R.CNV_STATUS_SWITCHING,
    R.CNV_STATUS_EXCLUDED, R.CNV_STATUS_CFG_PENDING, R.CNV_PHASE_MAP_A, R.CNV_PHASE_MAP_B] ++
  [R.CNV_FSW, R.CNV_LPH, R.CNV_RSENSE, R.CNV_PH_IMAX,
    R.CNV_IPK_LIM, R.CNV_INEG_LIM, R.CNV_LIGHT_DE_EN, R.CNV_LIGHT_SHED_EN,
    R.CNV_LIGHT_BURST_EN, R.CNV_LIGHT_BURST_CYC, R.CNV_DT_INIT_DT, R.CNV_DT_INIT_LEARN] ++
  [R.CNV_OVP_MARGIN, R.CNV_IN_UV, R.CNV_XOVER, R.CNV_CMD_PH_RETRY,
    R.CNV_CMD_RETUNE, R.CNV_SYS_OV_TRIP, R.CNV_Gg_STAT_ACTIVE, R.CNV_Gg_STAT_REGION,
    R.CNV_Gg_STAT_STATE, R.CNV_Gg_STAT_DE, R.CNV_Gg_STAT_BURST, R.CNV_Gg_STAT_PH_LIMIT] ++
  [R.CNV_Gg_STAT_TUNED, R.CNV_Gg_STAT_EQ_ACTIVE, R.CNV_Gg_ON_DELAY, R.CNV_Gg_OFF_DELAY,
    R.CNV_Gg_RAMP_ON, R.CNV_Gg_RAMP_OFF, R.CNV_Gg_PHASE_OFS, R.CNV_Gg_KP,
    R.CNV_Gg_KI, R.CNV_Gg_IL, R.CNV_Gg_PEAK, R.CNV_PHn_STAT_GROUP] ++
  [R.CNV_PHn_STAT_SWITCHING, R.CNV_PHn_STAT_EXCLUDED, R.CNV_PHn_STAT_CAUSE, R.CNV_PHn_STAT_TRIM_SAT,
    R.CNV_PHn_STAT_SHED, R.CNV_PHn_I, R.CNV_PHn_TRIM, R.CNV_PHn_DT_U_RISE,
    R.CNV_PHn_DT_U_FALL, R.CNV_PHn_DT_D_RISE, R.CNV_PHn_DT_D_FALL, R.CNV_PHn_ZC_OFS] ++
  [R.CNV_PHn_PKLIM_CNT]
/-- Fields of block 0x0500. -/
def regs05 : List Reg :=
  [R.CHG_FAULT_TIMEOUT, R.CHG_FAULT_BAT_AGED, R.CHG_FAULT_PROFILE_BAD, R.CHG_FAULT_EQ_ABORT,
    R.CHG_STATUS_STATE, R.CHG_STATUS_HOLD, R.CHG_STATUS_SAFE_PROFILE, R.CHG_STATUS_COLD_BAND,
    R.CHG_STATUS_WARM_BAND, R.CHG_STATUS_FOLDBACK, R.CHG_STATUS_AGED, R.CHG_STATUS_TIMERS_RUN] ++
  [R.CHG_HOLD_TEMP, R.CHG_HOLD_BMSOK, R.CHG_HOLD_SUSPEND, R.CHG_HOLD_RIDE,
    R.CHG_TIMEOUT_CAUSE_SCALED, R.CHG_TIMEOUT_CAUSE_ABSOLUTE, R.CHG_TIMEOUT_CAUSE_PRECHARGE, R.CHG_TIMEOUT_CAUSE_FOLDBACK_AT_EXPIRY,
    R.CHG_TIMEOUT_CAUSE_PENDING, R.CHG_CTRL_ENABLE, R.CHG_CTRL_AUTORESTART, R.CHG_CTRL_BMSOK_EN] ++
  [R.CHG_CTRL_BMSOK_POL, R.CHG_PROFILE_CHEM, R.CHG_PROFILE_CELLS, R.CHG_V_CELL_MAX,
    R.CHG_V_FULL_REST, R.CHG_V_RECHARGE, R.CHG_V_PRE, R.CHG_I_SET,
    R.CHG_I_PRE, R.CHG_I_TERM, R.CHG_T_ON, R.CHG_T_REST] ++
  [R.CHG_EDGE_RAMP, R.CHG_T_PRE, R.CHG_T_CHG, R.CHG_T_ABS,
    R.CHG_T_MIN, R.CHG_T_MAX, R.CHG_T_COLD_END, R.CHG_COLD_SCALE,
    R.CHG_T_WARM_START, R.CHG_WARM_DV, R.CHG_VPOL_MAX_LOW, R.CHG_VPOL_MAX_HIGH] ++
  [R.CHG_AGE_FACTOR, R.CHG_R_REF, R.CHG_LA_V_FLOAT, R.CHG_LA_TCOMP,
    R.CHG_LA_I_ABS_END, R.CHG_LA_T_ABS_MAX, R.CHG_LA_V_EQ, R.CHG_LA_T_EQ,
    R.CHG_LA_I_EQ, R.CHG_I_PULSE, R.CHG_I_TARGET, R.CHG_V_LIMIT] ++
  [R.CHG_REST_V, R.CHG_R_OHM, R.CHG_V_POL, R.CHG_RHO,
    R.CHG_R_TREND, R.CHG_R_TREND_N, R.CHG_REST_INVALID, R.CHG_TERM_CNT,
    R.CHG_TCHG_ACC, R.CHG_TABS, R.CHG_FULL, R.CHG_OTP_MASK] ++
  [R.CHG_OTP_VMAX_LFP, R.CHG_OTP_VMAX_NMC, R.CHG_OTP_VMAX_LA, R.CHG_T_COLD_NOW,
    R.CHG_T_WARM_NOW]
/-- Fields of block 0x0600. -/
def regs06 : List Reg :=
  [R.PP_FAULT_DSG_OC, R.PP_FAULT_SHORT_CIRCUIT, R.PP_FAULT_LOCKOUT, R.PP_FAULT_BAT_MISSING,
    R.PP_FAULT_BAT_SHORT, R.PP_FAULT_BAT_LOST, R.PP_FAULT_BAT_UV, R.PP_FAULT_UV_CUTOFF,
    R.PP_FAULT_COLD_START, R.PP_STATUS_ROLE, R.PP_STATUS_BAT, R.PP_STATUS_SUPPL] ++
  [R.PP_STATUS_UV_INHIBIT, R.PP_STATUS_PLIM, R.PP_STATUS_VSU_ON, R.PP_STATUS_COLD_START,
    R.PP_STATUS_RETRY_WAIT, R.PP_VSYS_MIN, R.PP_SYS_TARGET, R.PP_SHUNT,
    R.PP_OC, R.PP_OC_DELAY, R.PP_SC, R.PP_RETRY] ++
  [R.PP_FET_PMAX, R.PP_V_SHORT, R.PP_T_SHORT, R.PP_UV_CELL,
    R.PP_UV_DELAY, R.PP_LIN_I, R.PP_TRIP_CNT, R.PP_CMD_RETRY_NOW,
    R.PP_CMD_PROBE_NOW]
/-- Fields of block 0x0700. -/
def regs07 : List Reg :=
  [R.AUX_FAULT_VAUX_SHORT, R.AUX_FAULT_VPRE_SHORT, R.AUX_FAULT_RAILA_SHORT, R.AUX_FAULT_RAILB_SHORT,
    R.AUX_FAULT_RAILA_OV, R.AUX_FAULT_RAILB_OV, R.AUX_FAULT_TUNE_A, R.AUX_FAULT_TUNE_B,
    R.AUX_FAULT_VAUX_OVLD, R.AUX_STATUS_VAUX_ON, R.AUX_STATUS_VAUX_REG, R.AUX_STATUS_VAUX_ILIM] ++
  [R.AUX_STATUS_VPRE_ON, R.AUX_STATUS_VPRE_REG, R.AUX_STATUS_VPRE_HOLD_DRV, R.AUX_VAUX_V,
    R.AUX_VAUX_I, R.AUX_VAUX_SET, R.AUX_CTRL_VAUX_KEEP, R.AUX_CTRL_VPRE_KEEP,
    R.AUX_PRE_ON_DELAY, R.AUX_PRE_OFF_DELAY, R.AUX_PRE_RAMP, R.AUX_PRE_SHUNT] ++
  [R.AUX_PRE_ILIM, R.AUX_PRE_V, R.AUX_PRE_I, R.AUX_PRE_EXT_P,
    R.AUX_CMD, R.RAIL_x_STAT_STATE, R.RAIL_x_STAT_PS, R.RAIL_x_STAT_SETTLED,
    R.RAIL_x_STAT_SLEWING, R.RAIL_x_STAT_SUPERSEDED, R.RAIL_x_STAT_ALERT, R.RAIL_x_STAT_BURST] ++
  [R.RAIL_x_STAT_DE, R.RAIL_x_STAT_FAILS, R.RAIL_x_VID_INIT, R.RAIL_x_VID_MAX,
    R.RAIL_x_TARGET, R.RAIL_x_V, R.RAIL_x_I, R.RAIL_x_PIN,
    R.RAIL_x_POUT, R.RAIL_x_ON_DELAY, R.RAIL_x_OFF_DELAY, R.RAIL_x_RAMP] ++
  [R.RAIL_x_CFG_SLEW_INIT, R.RAIL_x_CFG_AUTO_DE, R.RAIL_x_CFG_SETTLE_ALERT, R.RAIL_x_CFG_KEEP_VID,
    R.RAIL_x_CFG_PS_INIT, R.RAIL_x_L, R.RAIL_x_RINJ, R.RAIL_x_ESR,
    R.RAIL_x_SLEW, R.RCL_CTRL_EN, R.RCL_CTRL_VALT_EN, R.RCL_STATUS] ++
  [R.RCL_ACK_CNT, R.RCL_NAK_CNT_PARITY, R.RCL_NAK_CNT_OTHER, R.RCL_ABORT_CNT]
/-- Fields of block 0x0800. -/
def regs08 : List Reg :=
  [R.MEAS_FAULT_CC_SAT, R.MEAS_FAULT_OFS_STALE, R.MEAS_FAULT_REF_FAIL, R.MEAS_FAULT_HORIZON_SHORT,
    R.MEAS_STATUS_ADC_RUN, R.MEAS_STATUS_CC_RUN, R.MEAS_STATUS_OFS_VALID, R.MEAS_STATUS_CC_SAT,
    R.MEAS_STATUS_DECODE_BUSY, R.MEAS_VBAT, R.MEAS_IBAT, R.MEAS_CC_RAW] ++
  [R.MEAS_CC_OFS, R.MEAS_CC_OFS_AGE, R.MEAS_CC_OFS_CNT, R.MEAS_CC_OFS_REJ,
    R.MEAS_CC_REJECT, R.MEAS_CC_I, R.LDG_STATUS_EREM_VALID, R.LDG_STATUS_AT_MIN,
    R.LDG_STATUS_AT_MAX, R.LDG_STATUS_SHORT, R.LDG_CTRL, R.LDG_TARGET_DAYS] ++
  [R.LDG_POLL_MIN, R.LDG_POLL_MAX, R.LDG_POLL_INTERVAL, R.LDG_HORIZON,
    R.LDG_P_YARD, R.LDG_P_SLEEP, R.LDG_E_POLL, R.LDG_SLEEP_DEV,
    R.LDG_BAT_EFF, R.LDG_BAT_USABLE, R.LDG_E_REM, R.LDG_SNAP_SEQ] ++
  [R.LDG_CMD_CLEAR_COUNTERS, R.LDG_CMD_SNAPSHOT_NOW, R.LDG_COUNTERk]
/-- Fields of block 0x0900. -/
def regs09 : List Reg :=
  [R.LINE_FAULT_A_SHORT, R.LINE_FAULT_B_SHORT, R.LINE_FAULT_A_KA_OVLD, R.LINE_FAULT_B_KA_OVLD,
    R.LINE_FAULT_NODE_LOST, R.LINE_FAULT_OVERFLOW, R.LINE_FAULT_ASSIGN_FAIL, R.LINE_STATUS_A_STATE,
    R.LINE_STATUS_B_STATE, R.LINE_STATUS_A_ILIM, R.LINE_STATUS_B_ILIM, R.LINE_STATUS_DEFER] ++
  [R.LINE_STATUS_A_HOST_OFF, R.LINE_STATUS_B_HOST_OFF, R.LINE_CTRL_A_EN, R.LINE_CTRL_B_EN,
    R.LINE_CTRL_A_KA_EN, R.LINE_CTRL_B_KA_EN, R.LINE_CTRL_A_ROBUST, R.LINE_CTRL_B_ROBUST,
    R.LINE_CTRL_DISC_EN, R.LINE_x_V, R.LINE_x_ILIM, R.LINE_SYNC_PERIOD] ++
  [R.LINE_DISC_PERIOD, R.LINE_OVF_COUNT, R.LINE_OVF_ID, R.LINE_x_I,
    R.LINE_x_VMEAS, R.LINE_x_ERR, R.LINE_NODES, R.LINE_SLOTs_CFG_PERIOD,
    R.LINE_SLOTs_CFG_UNIT, R.LINE_SLOTs_CFG_YARD, R.LINE_SLOTs_CFG_EN, R.LINE_SLOTs_STAT_STATE] ++
  [R.LINE_SLOTs_STAT_PORT, R.LINE_SLOTs_STAT_CLASS, R.LINE_SLOTs_STAT_MISSED, R.LINE_SLOTs_STAT_BOUND,
    R.LINE_SLOTs_STAT_AMP, R.LINE_SLOTs_BIND]
/-- Fields of block 0x0A00. -/
def regs0A : List Reg :=
  [R.DE_FAULT_PAYLOAD, R.DE_FAULT_UNSYNCED, R.DE_STATUS, R.DE_CTRL_EN,
    R.DE_CTRL_DERIVE_EN, R.DE_P_ATM, R.DE_SLOPE_SPAN, R.DE_CMD_TRACKER,
    R.DE_CMD_ACTION]
/-- Fields of block 0x0B00. -/
def regs0B : List Reg :=
  [R.Q_FAULT, R.Q_FAULT_B_LATE, R.Q_FAULT_B_STARVED, R.Q_STATUS_URGENT,
    R.Q_STATUS_STARVED, R.Q_STATUS_HOLD, R.Q_STATUS_CAP_PENDING, R.Q_PENDING,
    R.Q_ALERT, R.Q_WORST, R.Q_ROUTE_t, R.Qq_CFG_CLASS] ++
  [R.Qq_CFG_ALERT, R.Qq_CFG_NOTIFY, R.Qq_CAP, R.Qq_COUNT,
    R.Qq_PEND, R.Qq_REFUSED, R.Qq_EVICTED, R.Qq_LATE]
/-- Fields of block 0x0C00. -/
def regs0C : List Reg :=
  [R.JNL_FAULT_PROG_FAIL, R.JNL_FAULT_ERASE_FAIL, R.JNL_FAULT_UNCORR, R.JNL_FAULT_WORN,
    R.JNL_FAULT_TABLE_FULL, R.JNL_FAULT_GAP, R.JNL_STATUS_DIE_ON, R.JNL_STATUS_SCAN_DONE,
    R.JNL_STATUS_ERASING, R.JNL_STATUS_SUSPENDED, R.JNL_STATUS_HINT_USED, R.JNL_ERASED_AHEAD] ++
  [R.JNL_HEAD_BLOCK, R.JNL_HEAD_PAGE_PAGE, R.JNL_HEAD_PAGE_SECTOR, R.JNL_OLDEST_SEQ,
    R.JNL_NEWEST_SEQ, R.JNL_NEXT_SEQ, R.JNL_LAP, R.JNL_BAD_FACTORY,
    R.JNL_BAD_GROWN, R.JNL_ECC_CORR, R.JNL_ECC_MAX, R.JNL_ECC_UNCORR] ++
  [R.CFG_FAULT_CONFLICT, R.CFG_FAULT_DEFAULT, R.CFG_FAULT_REPAIRED, R.CFG_FAULT_COPY_LOST,
    R.CFG_FAULT_COMMIT_ABORT, R.CFG_STATUS_SELECT, R.CFG_STATUS_AGREE, R.CFG_STATUS_COPY_OK,
    R.CFG_STATUS_TRIAL, R.CFG_STATUS_NO_PREVIOUS, R.CFG_STATUS_BUSY, R.CFG_ACTIVE_VER] ++
  [R.CFG_PREV_VER, R.CFG_COMMIT_CNT, R.CFG_TRIAL_LEFT, R.CFG_LOADED_LEN]
/-- Fields of block 0x0D00. -/
def regs0D : List Reg :=
  [R.HIF_FAULT_SCL_TMO, R.HIF_FAULT_SDA_STUCK, R.HIF_FAULT_BUS_CLEAR_FAIL, R.HIF_FAULT_NOTIFY_FAIL,
    R.HIF_FAULT_ADDR_INVALID, R.HIF_FAULT_BULK_ERR, R.HIF_STATUS_AWAKE, R.HIF_STATUS_ALERTN_LOW,
    R.HIF_STATUS_HRSTN_LOW, R.HIF_STATUS_HRSTN_DRIVEN, R.HIF_STATUS_NOTIFY_BUSY, R.HIF_STATUS_TW_REPLY] ++
  [R.HIF_STATUS_TW_PENDING, R.HIF_STATUS_QB_REPLY, R.HIF_STATUS_QB_PENDING, R.HIF_STATUS_VDDIO_OK,
    R.HIF_CTRL_FILT, R.HIF_CTRL_BUS_CLEAR, R.HIF_CTRL_NOTIFY_SPEED, R.HIF_CTRL_NOTIFY_ON_ALERT,
    R.HIF_TMO, R.HIF_AWAKE_HOLD, R.HIF_NOTIFY_ADDR, R.HIF_ALERT_EN] ++
  [R.HIF_ALERT_SRC_QUEUE, R.HIF_ALERT_SRC_FAULT, R.HIF_ALERT_SRC_RIDE, R.HIF_HRST_DELAY,
    R.HIF_ADDR_EFFECTIVE, R.HIF_ADDR_STRAP, R.HIF_ADDR_BASE, R.HIF_REPLY_LOST_TW,
    R.HIF_REPLY_LOST_QB, R.HIF_NACK_CNT, R.HIF_NOTIFY_CNT_SENT, R.HIF_NOTIFY_CNT_LOST] ++
  [R.HIF_HRST_EXT_CNT, R.HIF_TRUNC_CNT_TW, R.HIF_TRUNC_CNT_QB]
/-- Fields of block 0x0E00. -/
def regs0E : List Reg :=
  [R.WDT_KEY, R.WDT_DISABLE, R.SUP_FAULT_YELLOW, R.SUP_FAULT_ORANGE,
    R.SUP_FAULT_BLACK, R.SUP_FAULT_SEQ_RESTART, R.SUP_FAULT_SUP_WARN, R.WDT_STATUS_ENABLED,
    R.WDT_STATUS_INTERNAL, R.WDT_STATUS_WINDOW_OPEN, R.WDT_STATUS_BOOT, R.WDT_STATUS_YELLOW_PULSE] ++
  [R.WDT_CFG_PERIOD, R.WDT_CFG_BOOT_PERIOD, R.WDT_CFG_Y_MAX, R.WDT_CFG_STRICT,
    R.WDT_CFG_INT_PERIOD, R.WDT_TASK_EN, R.WDT_TASK_SEEN_SEEN, R.WDT_TASK_SEEN_DUP,
    R.WDT_LAST_MISSING, R.WDT_LAST_DUP, R.WDT_LAST_KIND, R.WDT_YELLOW_CNT] ++
  [R.WDT_ORANGE_CNT, R.WDT_LADDER_Y, R.WDT_LADDER_O, R.WDT_LOCK,
    R.WDT_YELLOW_MS, R.WDT_POS, R.WDT_WINDOW_AT, R.WDT_OTP_FRAC,
    R.WDT_OTP_LOCK_DEFAULT, R.WDT_OTP_O_MAX, R.WDT_SAFE_CAUSE, R.WDT_SEQ_RESTARTS] ++
  [R.WDT_WAKE_LEFT, R.SUP_WARN_V, R.SUP_STATUS_BELOW_WARN, R.SUP_STATUS_RIDE,
    R.SUP_MIN_SYS, R.SUP_RIDE_CNT, R.SUP_RIDE_LAST]
/-- Fields of block 0x0F00. -/
def regs0F : List Reg :=
  [R.THM_FAULT_DIE_SHUTDOWN, R.THM_FAULT_DIE_IMPLAUSIBLE, R.THM_FAULT_TB_INVALID, R.THM_FAULT_TS_INVALID,
    R.THM_FAULT_FB_HELD, R.THM_STATUS_HOLD, R.THM_STATUS_FB_ACTIVE, R.THM_STATUS_FB_HOLD,
    R.THM_STATUS_CURVE_BAD, R.THM_STATUS_TB_VALID, R.THM_STATUS_TS_VALID, R.THM_STATUS_TS_EXCLUDED] ++
  [R.THM_CTRL_TB_EN, R.THM_CTRL_TS_EN, R.THM_CTRL_TB_CURVE, R.THM_CTRL_TS_CURVE,
    R.THM_DIE_T, R.THM_TBn_T, R.THM_TSn_T, R.THM_TS_FB_START,
    R.THM_TS_FB_END, R.THM_FB_FACTOR, R.THM_FB_HOLD, R.THM_CMD] ++
  [R.THM_DIE_MAX, R.THM_SHUT_CNT, R.THM_HOLD_LAST, R.THM_CURVEj_K,
    R.THM_CURVEj_T]
/-- Fields of block 0x1000. -/
def regs10 : List Reg :=
  [R.BIST_FAULT_FAILED, R.BIST_FAULT_OVERDUE, R.BIST_STATUS_PART, R.BIST_STATUS_RUNNING,
    R.BIST_STATUS_P3_WINDOW, R.BIST_STATUS_SAFE, R.BIST_CTRL_EN, R.BIST_CTRL_P3_FORCE_EN,
    R.BIST_MAX_AGE, R.BIST_POR_RESULT, R.BIST_Pp_AGE, R.BIST_Pp_PROG_PASSED] ++
  [R.BIST_Pp_PROG_LAST, R.BIST_Pp_PROG_RETRIES, R.BIST_Pp_CNT, R.BIST_Pp_ABORTS]
/-- Fields of block 0x1100. -/
def regs11 : List Reg :=
  [R.OTP_TRIMw, R.OTP_WDT_FRAC, R.OTP_WDT_LOCK_DEFAULT, R.OTP_WDT_O_MAX,
    R.OTP_CHEM, R.OTP_VREDc, R.OTP_ADDR_BASE, R.OTP_ADDR_VALID,
    R.OTP_SAFEk, R.OTP_LOCK, R.OTP_CUST_KEY, R.OTP_USERw] ++
  [R.OTP_CRC]
/-- Fields of block 0x4000. -/
def regs40 : List Reg :=
  [R.DE_Ti_CTRL_EN, R.DE_Ti_CTRL_HI_EN, R.DE_Ti_CTRL_LO_EN, R.DE_Ti_CTRL_SLOPE_EN,
    R.DE_Ti_CTRL_DEV_EN, R.DE_Ti_CTRL_SAMPLE_EN, R.DE_Ti_CTRL_TREND_EN, R.DE_Ti_CTRL_K,
    R.DE_Ti_CTRL_MULT, R.DE_Ti_HI, R.DE_Ti_LO, R.DE_Ti_HYST] ++
  [R.DE_Ti_SLOPE, R.DE_Ti_WIN, R.DE_Ti_AUX0, R.DE_Ti_AUX1]
/-- Fields of block 0x6000. -/
def regs60 : List Reg :=
  [R.DE_Ti_LAST, R.DE_Ti_MIN, R.DE_Ti_MAX, R.DE_Ti_MEAN,
    R.DE_Ti_BASE, R.DE_Ti_DEV, R.DE_Ti_SLOPE_NOW, R.DE_Ti_ALARMS_HIGH,
    R.DE_Ti_ALARMS_LOW, R.DE_Ti_ALARMS_SLOPE, R.DE_Ti_ALARMS_DEV, R.DE_Ti_ALARMS_ARMED] ++
  [R.DE_Ti_ALARMS_VALID]

/-- The fields of the block that address `a` lies in (R462). -/
def blockRegs (a : Nat) : List Reg :=
  match a / 256 with
  | 0x00 => regs00
  | 0x01 => regs01
  | 0x02 => regs02
  | 0x03 => regs03
  | 0x04 => regs04
  | 0x05 => regs05
  | 0x06 => regs06
  | 0x07 => regs07
  | 0x08 => regs08
  | 0x09 => regs09
  | 0x0A => regs0A
  | 0x0B => regs0B
  | 0x0C => regs0C
  | 0x0D => regs0D
  | 0x0E => regs0E
  | 0x0F => regs0F
  | 0x10 => regs10
  | 0x11 => regs11
  | n => if n / 16 = 4 then regs40 else if n / 16 = 6 then regs60 else []

/-- Every register field that has an address. -/
def allRegs : List Reg :=
  regs00 ++ regs01 ++ regs02 ++ regs03 ++ regs04 ++ regs05 ++ regs06 ++ regs07 ++ regs08 ++ regs09 ++
    regs0A ++ regs0B ++ regs0C ++ regs0D ++ regs0E ++ regs0F ++ regs10 ++ regs11 ++ regs40 ++ regs60

/-- The state without an address (Machine/RegsX.lean), in the order of its keys. -/
def xRegs : List Reg :=
  [R.X_TICKS, R.X_GOOD, R.X_GRACE_END, R.X_CAUSES, R.X_NOTIFY_TRIES,
    R.X_NOTIFY_RED, R.X_CUTOFF_REST, R.X_RF_COUNT, R.X_RF_CAUSES, R.X_RF_FIRST,
    R.X_RF_LAST, R.X_RF_FTYPE, R.X_RF_LTYPE, R.X_COND, R.X_FSW,
    R.X_PHASE_OFS, R.X_TRIP, R.X_EQ_HOLD, R.X_SYSS, R.X_VBUS] ++
  [R.X_BATS, R.X_VREF, R.X_DORMANT, R.X_SWEEP_DUE, R.X_SWEPT,
    R.X_PO_VALID, R.X_PO_OLD, R.X_VSET_OLD, R.X_VBUS0, R.X_IDDIFF,
    R.X_BAND, R.X_KBAD, R.X_READMIT, R.X_ABSENT_AT, R.X_DEBOUNCE,
    R.X_OV, R.X_FETBAD, R.X_FAST_REQ, R.X_SHIP_OFF, R.X_COLD_INPUT] ++
  [R.X_COLD_FLOOR, R.X_PROBE_FAIL, R.X_LOCKOUT, R.X_FAILS, R.X_CUTOFF,
    R.X_RETRY, R.X_PULSE, R.X_PULSE_AT, R.X_CHG_WAIT, R.X_TO_IDLE,
    R.X_REST_RIDE, R.X_ION, R.X_VON, R.X_SAMPLE, R.X_I1,
    R.X_PRE_S, R.X_CHG_PP, R.X_PROFILE_BAD, R.X_MAINT_LOW, R.X_SVC_GROUPS] ++
  [R.X_TRIP_AT, R.X_TRIPPED, R.X_VAUX_WAIT, R.X_VAUX_FAILS, R.X_VPRE,
    R.X_VPRE_FAILS, R.X_RAIL_OFFDLY, R.X_RAIL_NAMED, R.X_RAIL_PS3, R.X_RAIL_FAST,
    R.X_RAIL_ALERTS, R.X_BOOT, R.X_TUNE, R.X_SHED_LOW, R.X_SHED_HIGH,
    R.X_SAT, R.X_BOOT_REF, R.X_SYNC_OFF, R.X_UNGOV, R.X_PRIO] ++
  [R.X_PCNT, R.X_COUNTED, R.X_SWEEP_VOC, R.X_SWEEP_AT, R.X_SWEEP_EVER,
    R.X_RAIL_PEND, R.X_POLL, R.X_ENUM, R.X_LINE_BOOT, R.X_LINE_UP,
    R.X_OFS_AT, R.X_LDG_ACC, R.X_EREM_ACC, R.X_KA_POWER, R.X_SLEEP_AT,
    R.X_SLEEPING, R.X_WAKE_OUT, R.X_WAKE_IN, R.X_WAKE_OK, R.X_POLL_EVER] ++
  [R.X_HOUR_DUE, R.X_REF_FAIL, R.X_TEMP_FORBID, R.X_SUPPL, R.X_PROBE_DUE,
    R.X_COLD_WAIT, R.X_CUT_MODE, R.X_HELD, R.X_RAIL_KEEP, R.X_VPRE_AT,
    R.X_RCL_ACK, R.X_RCL_RDATA, R.X_FAST_AT, R.X_TR_N, R.X_TR_SUM,
    R.X_TR_WIN, R.X_TR_K, R.X_TR_BASE, R.X_TR_DEV, R.X_TR_COUNT] ++
  [R.X_TR_REF, R.X_TR_XREF, R.X_TR_TREF, R.X_CAP_WAIT, R.X_CAP_NEW,
    R.X_SLOT_ID, R.X_SLOT_FMT, R.X_SLOT_MASK, R.X_SLOT_MISSES, R.X_SLOT_LAST,
    R.X_SLOT_SEQ, R.X_SLOT_CYC, R.X_SLOT_POLLED, R.X_SLOT_CFG, R.X_SLOT_AMP_OK,
    R.X_LINE_LEFT, R.X_FRAME, R.X_TRY, R.X_RUN, R.X_WALKS] ++
  [R.X_WALK_ID, R.X_WALK_SLOT, R.X_WALK_HOW, R.X_FAIL_ID, R.X_FAIL_N,
    R.X_LINE_LATE, R.X_SYNC_AT, R.X_DISC_AT, R.X_SHORTS, R.X_NEED_BLOCK,
    R.X_SERIAL, R.X_FIRST_POR, R.X_FLUSH, R.X_ABORT, R.X_SWITCH,
    R.X_TRIAL_END, R.X_STAGE, R.X_STAGE_TOP, R.X_STAGE_VER, R.X_STAGE_LEN] ++
  [R.X_STORE_VER, R.X_RESTART, R.X_RESTARTING, R.X_HRST_UP, R.X_WDT_NEW,
    R.X_WDT_CODE, R.X_WDT_LEN, R.X_DIS_ARM, R.X_DIS_AT, R.X_SEQ_AT,
    R.X_SEQ_N, R.X_RIDE_AT, R.X_SLOW, R.X_WAKE_AT, R.X_WAKE_LEN,
    R.X_TH_JUDGE, R.X_TH_RUN, R.X_TH_BAD, R.X_TH_LAST, R.X_FB_EPISODE] ++
  [R.X_FB_LOW, R.X_FB_WAIT, R.X_DIE_BAD, R.X_DIE_GOOD, R.X_HOLD_AT,
    R.X_EPOCH_LOW, R.X_USABLE_LOW, R.X_EREM_LOW, R.X_BIST_AT, R.X_BIST_SEEN,
    R.X_BIST_SLICE, R.X_BIST_MISS, R.X_BIST_RETRY, R.X_BIST_FIRST, R.X_OTP_BUSY,
    R.X_OTP_WORD, R.X_OTP_BITS, R.X_SVC_END, R.X_P0_ONLY, R.X_HOLD_DUE] ++
  [R.X_SERVICE, R.X_QUIET_FROM, R.X_QUIET_TO, R.X_TIME_RATE, R.X_TIME_ACC,
    R.X_CORR_AT, R.X_DOWN, R.X_WOKEN, R.X_GA, R.X_GATE_OFF,
    R.X_WDROPS, R.X_SETTLE_AT, R.X_DECODED, R.X_DECODE_AT, R.X_RETAKE,
    R.X_VREF_AT, R.X_AWAIT, R.X_RAMP, R.X_LSYS, R.X_LVBUS] ++
  [R.X_PLACE, R.X_TGT_IBAT, R.X_TGT_VBAT, R.X_TGT_SYS, R.X_TGT_VIN,
    R.X_TGT_IIN, R.X_DEMAND, R.X_SLOPE, R.X_CTRL_SW, R.X_BOOT_SIDE,
    R.X_TUNING, R.X_TUNE_N, R.X_TUNE_AT, R.X_TUNE_LOOP, R.X_TUNE_REGION,
    R.X_TUNE_TGT, R.X_KP_OK, R.X_KI_OK, R.X_PEAK, R.X_ON_NS] ++
  [R.X_TEMP_OUT, R.X_CONN, R.X_TOKEN, R.X_LEAD, R.X_FIRED,
    R.X_RAIL_TON, R.X_RCL_RP, R.X_RCL_CLOCKS, R.X_EREM_AT,
    R.X_INT_NEW, R.X_LINE_TX, R.X_LINE_TXN, R.X_LINE_CYC, R.X_PULSE_OVER,
    R.X_TUNE_EV, R.X_RAIL_TUNED, R.X_FRAME_SEQ, R.X_BLACK_TICK, R.X_BLACK_CODE] ++
  [R.X_BLACK_SUP, R.X_HRST_EXT, R.X_PASSIVE, R.X_TAP]

end Sys2Proof.Machine
end

