-- ==== Sys2Proof/Machine/Ops.lean ====
section
/-! DEFINITION. The named operations over the state: the register file, bytes and checks, fault latches, records and
their admission to the queues. Every meaning is written over these. -/

namespace Sys2Proof.Machine

/-! ### The register file -/

/-- The value stored under key `k`, if one is. -/
def lookKey (k : Nat) : FieldFile → Option Nat
  | [] => none
  | (a, b) :: t => if a = k then some b else lookKey k t

/-- Store `v` under key `k`, keeping the keys in order. -/
def putKey (k v : Nat) : FieldFile → FieldFile
  | [] => [(k, v)]
  | (a, b) :: t => if k < a then (k, v) :: (a, b) :: t else if k = a then (k, v) :: t else (a, b) :: putKey k v t

/-- Remove key `k`. -/
def dropKey (k : Nat) : FieldFile → FieldFile
  | [] => []
  | (a, b) :: t => if a = k then dropKey k t else (a, b) :: dropKey k t

/-- The key of index `i` of a field; an index counts modulo the number of repetitions. [DESIGN CHOICE: log 9] -/
def Reg.key (r : Reg) (i : Nat) : Nat := (r.base + i % r.count * r.stride) * 16 + r.lo

/-- The reset value of index `i` of a field (its Reset column). -/
def Reg.resetAt (r : Reg) (i : Nat) : Nat := r.resets.getD (i % r.count) r.reset

/-- The value of a field, of its width. [DESIGN CHOICE: log 9] -/
def State.get (s : State) (r : Reg) (i : Nat := 0) : Nat := (lookKey (r.key i) s.fields).getD (r.resetAt i) % 2 ^ r.width

/-- The register file with a field set; a field at its reset value is not listed. -/
def writeField (f : FieldFile) (r : Reg) (i v : Nat) : FieldFile :=
  if v % 2 ^ r.width = r.resetAt i then dropKey (r.key i) f else putKey (r.key i) (v % 2 ^ r.width) f

/-- Set a field, to its width. [DESIGN CHOICE: log 76] -/
def State.set (s : State) (r : Reg) (v : Nat) (i : Nat := 0) : State := { s with fields := writeField s.fields r i v }

/-- Put a field at its reset value. -/
def State.clear (s : State) (r : Reg) (i : Nat := 0) : State := { s with fields := dropKey (r.key i) s.fields }

/-- A one-bit field as a truth value. -/
def State.on (s : State) (r : Reg) (i : Nat := 0) : Bool := s.get r i != 0

/-- Set a one-bit field. -/
def State.flag (s : State) (r : Reg) (b : Bool) (i : Nat := 0) : State := s.set r b.toNat i

/-- A two's complement value of `w` bits (R20). -/
def signed (w v : Nat) : Int := if v < 2 ^ (w - 1) then (v : Int) else (v : Int) - 2 ^ w

/-- The two's complement code of an integer in `w` bits. -/
def unsigned (w : Nat) (x : Int) : Nat := (x % 2 ^ w).toNat

/-- A field read as a two's complement value. -/
def State.getS (s : State) (r : Reg) (i : Nat := 0) : Int := signed r.width (s.get r i)

/-- Set a field to a two's complement value. -/
def State.setS (s : State) (r : Reg) (x : Int) (i : Nat := 0) : State := s.set r (unsigned r.width x) i

/-- Bit `b` of a field. -/
def State.bit (s : State) (r : Reg) (b : Nat) (i : Nat := 0) : Bool := (s.get r i).testBit b

/-- Set bit `b` of a field to a value. -/
def State.setBit (s : State) (r : Reg) (b : Nat) (v : Bool) (i : Nat := 0) : State :=
  let old := s.get r i
  s.set r (if v then old ||| 2 ^ b else if old.testBit b then old - 2 ^ b else old) i

/-- The largest value of a field. -/
def Reg.top (r : Reg) : Nat := 2 ^ r.width - 1

/-- Add to a saturating counter field. -/
def State.add (s : State) (r : Reg) (n : Nat) (i : Nat := 0) : State := s.set r (min (s.get r i + n) r.top) i

/-- Increment a saturating counter field. -/
def State.inc (s : State) (r : Reg) (i : Nat := 0) : State := s.add r 1 i

/-- Apply an update for each index 0 to n - 1. -/
def State.each (s : State) (n : Nat) (f : Nat → State → State) : State := (List.range n).foldl (fun t i => f i t) s

/-- Apply an update where a condition holds. -/
def State.iff (s : State) (c : Bool) (f : State → State) : State := if c then f s else s

/-- Present device time, in ms (R41). -/
def State.now (s : State) : Nat := s.get R.DEV_TIME

/-- Whole units of `u` ms that have passed since device time `t`, saturating at 16 bits. -/
def State.agesOf (s : State) (t u : Nat) : Nat := min ((s.now - t) / u) 0xFFFF

/-- A value limited to a span. -/
def clampI (lo hi x : Int) : Int := max lo (min hi x)

/-- Division rounding toward zero (R299 and the arithmetic rules). -/
def divZ (a b : Int) : Int := Int.tdiv a b

/-- Saturation to 16-bit two's complement. [DESIGN CHOICE: log 76] -/
def satS16 (x : Int) : Int := clampI (-32768) 32767 x

/-! ### Bytes and checks -/

/-- The `n` low bytes of a number, least significant first (R20, R369). -/
def le (n v : Nat) : List Byte :=
  match n with
  | 0 => []
  | k + 1 => BitVec.ofNat 8 v :: le k (v / 256)

/-- The number that bytes spell, least significant first. -/
def ofLe : List Byte → Nat
  | [] => 0
  | b :: t => b.toNat + 256 * ofLe t

/-- Bytes `off` to `off + n - 1` as a number. -/
def field (bs : List Byte) (off n : Nat) : Nat := ofLe ((bs.drop off).take n)

/-- One shift of the CRC-8 register (R370). -/
def crc8Bit (c : Nat) : Nat := if c ≥ 128 then (c * 2 % 256) ^^^ 7 else c * 2

/-- Apply a function `n` times. -/
def iter (n : Nat) (f : Nat → Nat) (x : Nat) : Nat :=
  match n with
  | 0 => x
  | k + 1 => iter k f (f x)

/-- CRC-8 of R370: polynomial 0x07, initial 0x00, no reflection, no final XOR. -/
def crc8 (bs : List Byte) : Nat := bs.foldl (fun c b => iter 8 crc8Bit (c ^^^ b.toNat)) 0

/-- One shift of the CRC-16 register (R302). -/
def crc16Bit (c : Nat) : Nat := if c ≥ 32768 then (c * 2 % 65536) ^^^ 0x1021 else c * 2

/-- CRC-16/CCITT of R302: polynomial 0x1021, initial 0xFFFF, no reflection, no final XOR. -/
def crc16 (bs : List Byte) : Nat := bs.foldl (fun c b => iter 8 crc16Bit (c ^^^ (b.toNat * 256))) 0xFFFF

/-- One shift of the reflected CRC-32 register (R386). -/
def crc32Bit (c : Nat) : Nat := if c % 2 = 1 then (c / 2) ^^^ 0xEDB88320 else c / 2

/-- CRC-32 of R386, ISO-HDLC form: reflected polynomial 0x04C1_1DB7, initial and final 0xFFFF_FFFF. -/
def crc32 (bs : List Byte) : Nat := (bs.foldl (fun c b => iter 8 crc32Bit (c ^^^ b.toNat)) 0xFFFFFFFF) ^^^ 0xFFFFFFFF

/-- A payload of exactly 16 bytes: cut, or filled with the reserved byte 0x00 (R302, R304). -/
def payload16 (bs : List Byte) : List Byte := (bs ++ List.replicate 16 0).take 16

/-- Byte 13 of a record (R302). -/
def Rec.flagByte (r : Rec) : Nat :=
  r.late.toNat + 2 * r.summary.toNat + 4 * r.deferred.toNat + 8 * r.unsynced.toNat + 16 * r.derived.toNat

/-- Bytes 0 to 29 of a record (R302). -/
def Rec.body (r : Rec) : List Byte :=
  le 6 r.time ++ le 4 r.seq ++ le 1 r.type ++ le 1 r.source ++ le 1 (r.queue % 16 + 16 * (r.cls % 4)) ++
    le 1 r.flagByte ++ payload16 r.payload

/-- The 32-byte image of a record with its CRC (R302). -/
def Rec.image (r : Rec) : List Byte := r.body ++ le 2 (crc16 r.body)

/-! ### Words of the register file -/

/-- The bits that index `i`, word `w` of a field contributes to a 16-bit word. -/
def Reg.slice (r : Reg) (w v : Nat) : Nat := v / 2 ^ (16 * w) % 65536 * 2 ^ r.lo % 65536

/-- The number of words of a field. -/
def Reg.words (r : Reg) : Nat := (r.width + 15) / 16

/-- The index and the word of a field that lie at address `a`, if any. -/
def Reg.hit (r : Reg) (a : Nat) : Option (Nat × Nat) :=
  let d := a - r.base
  if a < r.base then none
  else if d / r.stride < r.count && d % r.stride < r.words then some (d / r.stride, d % r.stride) else none

/-- The fields at an address, each with its index and word. -/
def fieldsAt (a : Nat) : List (Reg × Nat × Nat) :=
  (blockRegs a).filterMap (fun r => (r.hit a).map (fun p => (r, p.1, p.2)))

/-- The word stored at an address, as the sum of its fields' bits. -/
def State.rawWord (s : State) (a : Nat) : Nat :=
  (fieldsAt a).foldl (fun acc p => acc + p.1.slice p.2.2 (s.get p.1 p.2.1)) 0

/-- Write a 16-bit word into the fields at an address. -/
def State.putWord (s : State) (a v : Nat) : State :=
  (fieldsAt a).foldl (fun t p =>
    let r := p.1
    if r.width ≤ 16 then t.set r (v / 2 ^ r.lo % 2 ^ r.width) p.2.1
    else
      let old := t.get r p.2.1
      let unit := 2 ^ (16 * p.2.2)
      t.set r (old - old / unit % 65536 * unit + v % 65536 * unit) p.2.1) s

/-- The class of the field stored under a key (R23). -/
def clsOfKey (k : Nat) : Cls :=
  if k < 0x1000000 then ((fieldsAt (k / 16)).find? (fun p => p.1.lo == k % 16)).elim .nv (·.1.cls)
  else (xRegs[(k - 0x1000000) / 0x10000]?).elim .nv (·.cls)

/-- Keep only the fields whose key satisfies a test; the others return to their reset values. -/
def State.keepFields (s : State) (f : Nat → Bool) : State := { s with fields := s.fields.filter (fun p => f p.1) }

/-! ### Fault registers (R11, R45, R380) -/

/-- The addresses of the FAULT registers that DEV_FAULT_SUM maps, with the second registers of R155, R317 and R344. -/
def faultAddrs : List Nat :=
  [0x0200, 0x0300, 0x0400, 0x0401, 0x0500, 0x0600, 0x0700, 0x0800, 0x0900, 0x0A00, 0x0B00, 0x0B01, 0x0C00, 0x0C40,
   0x0D00, 0x0E02, 0x0F00, 0x1000]

/-- DEV_FAULT_SUM: bit k while a FAULT register of the block at (k + 2) × 0x0100 is non-zero (R44, R45). -/
def State.faultSum (s : State) : Nat :=
  faultAddrs.foldl (fun acc a => if s.rawWord a = 0 then acc else acc ||| 2 ^ (a / 256 - 2)) 0

/-- The source code of the block that owns a FAULT register (R32). -/
def faultSource (a : Nat) : Nat :=
  match a / 256 with
  | 0x02 => 0x80 | 0x03 => 0x81 | 0x04 => 0x82 | 0x05 => 0x83 | 0x06 => 0x84 | 0x07 => 0x85 | 0x08 => 0x86
  | 0x09 => 0x88 | 0x0A => 0x89 | 0x0B => 0x8A | 0x0C => 0x8A | 0x0D => 0x8B | 0x0E => 0x8D | 0x0F => 0x8E
  | _ => 0x8F

/-- Index of a FAULT register in `faultAddrs`, for the register of standing conditions. -/
def faultIndex (a : Nat) : Nat := faultAddrs.findIdx (· = a)

/-- A queue's delivery class (R306): 0 Green, 1 Amber, 2 Red. -/
def State.qclass (s : State) (q : Nat) : Nat := s.get R.Qq_CFG_CLASS q

/-- Deadline of a delivery class in µs (R306). -/
def deadlineUs (c : Nat) : Nat := if c = 2 then 5000 else if c = 1 then 100000 else 2000000

/-- LPO ticks as µs (R40). -/
def ticksToUs (t : Nat) : Nat := t * 15625 / 512

/-! ### Records (R302, R309, R313) -/

/-- A record of an internal source generated now (R302): class 0 (R305). -/
def State.mkRec (s : State) (type source : Nat) (payload : List Byte) : Rec :=
  { time := s.now, seq := 0, type := type, source := source, queue := 0, cls := 0, late := false, summary := false,
    deferred := false, unsynced := false, derived := false, payload := payload16 payload }

/-- The queue that the routing table names for a record (R305): source classes 4 to 7 count as 0. -/
def State.route (s : State) (r : Rec) : Nat :=
  s.get R.Q_ROUTE_t (r.type % 64) / 16 ^ (if r.cls < 4 then r.cls else 0) % 16

/-- Uncommitted records of a queue (R309). -/
def State.pendingOf (s : State) (q : Nat) : Nat := (s.slots.filter (fun x => x.record.queue == q && !x.committed)).length

/-- Accepted records not yet committed (R309). -/
def State.uncommitted (s : State) : Nat := (s.slots.filter (fun x => !x.committed)).length

/-- Records in the sector program running (R309). -/
def State.inProgram (s : State) : Nat :=
  match s.program with
  | some p => if p.store then 0 else p.records
  | none => 0

/-- pending_total of R309: accepted, not committed, not in the program running. -/
def State.pendingTotal (s : State) : Nat := s.uncommitted - s.inProgram

/-- t_run of R309, in µs of supply-good time: what the program running still needs. -/
def State.tRun (s : State) : Nat :=
  match s.program with
  | some p => Config.tSec - ticksToUs (s.get R.X_GOOD - p.tick)
  | none => 0

/-- Why R309 refuses a record offered to queue `q`, as the cause bit of R304; `none` where it accepts. [DEDUCED: log 51] -/
def State.judge (s : State) (q : Nat) : Option Nat :=
  let c := s.qclass q
  if s.on R.Q_STATUS_HOLD then some 3
  else if s.on R.Q_STATUS_STARVED then some 2
  else if s.get R.Qq_CAP q = 0 then some 4
  else if s.pendingOf q ≥ s.get R.Qq_CAP q then some 1
  else
    let n := s.pendingTotal + 1
    let per := Config.tSec + (if s.on R.Q_STATUS_URGENT && c != 2 then Config.tIl else 0)
    let wait := if c = 0 then Config.tFill else 0
    if s.tRun + Config.tSus + wait + (n + 30) / 31 * per > deadlineUs c then some 0 else none

/-- Whether a slot holds a committed record of queue `q`. -/
def QSlot.evictable (q : Nat) (x : QSlot) : Bool := x.record.queue == q && x.committed && !x.popped

/-- Take the first slot that satisfies a test out of a list. -/
def eraseFirst (p : QSlot → Bool) : List QSlot → List QSlot
  | [] => []
  | x :: t => if p x then t else x :: eraseFirst p t

/-- Unpopped records of a queue, oldest first (R307, R381). -/
def State.unpopped (s : State) (q : Nat) : List QSlot := s.slots.filter (fun x => x.record.queue == q && !x.popped)

/-- Slots that a queue occupies (R307). -/
def State.held_ (s : State) (q : Nat) : Nat := (s.slots.filter (fun x => x.record.queue == q)).length

/-- Evict the oldest committed, unpopped record of a queue at capacity (R307). -/
def State.evict (s : State) (q : Nat) : State :=
  if s.get R.Qq_CAP q ≤ s.held_ q && s.slots.any (QSlot.evictable q) then
    { s with slots := eraseFirst (QSlot.evictable q) s.slots }.inc R.Qq_EVICTED q
  else s

/-- The retained record kept in step with the journal's registers (R329). [DESIGN CHOICE: log 53] -/
def State.saveRetained (s : State) : State :=
  let kept : Retained :=
    { nextSeq := s.get R.JNL_NEXT_SEQ, block := s.get R.JNL_HEAD_BLOCK, page := s.get R.JNL_HEAD_PAGE_PAGE,
      sector := s.get R.JNL_HEAD_PAGE_SECTOR, lap := s.get R.JNL_LAP, ahead := s.ahead.length,
      reErase := (s.retained.map (·.reErase)).getD [], anchor := s.retained.bind (·.anchor) }
  { s with retained := some kept, retainedOld := s.retained }

/-- A change of the retained record, where one is held: the other copy keeps what stood (R329). -/
def State.editRetained (s : State) (f : Retained → Retained) : State :=
  { s with retained := s.retained.map f, retainedOld := s.retained }

/-- An erase slice is suspended when a record is accepted (R308). -/
def State.suspendErase (s : State) : State :=
  match s.erase with
  | some e => { s with erase := some { e with suspended := true } }.flag R.JNL_STATUS_SUSPENDED true
  | none => s

/-- Start the grace timer, or restart it from its full value (R55). A later write of another non-zero MODE_GRACE leaves a running
timer's end as it is. [DESIGN CHOICE: log 77] -/
def State.startGrace (s : State) : State :=
  if s.get R.MODE_GRACE = 0 then s
  else (s.flag R.MODE_STATUS_GRACE true).set R.X_GRACE_END (s.now + 1000 * s.get R.MODE_GRACE)

/-- Stop the grace timer (R55). -/
def State.stopGrace (s : State) : State := (s.flag R.MODE_STATUS_GRACE false).clear R.X_GRACE_END

/-- A self-test slice on one of the partitions of a mask is aborted and becomes INCOMPLETE (R445, R451). -/
def State.abortSlice (s : State) (mask : Nat) : State :=
  let p := s.get R.BIST_STATUS_PART
  if s.on R.BIST_STATUS_RUNNING && mask.testBit p then
    ((s.flag R.BIST_STATUS_RUNNING false).inc R.BIST_Pp_ABORTS p).set R.BIST_Pp_PROG_LAST 2 p
  else s

/-! ### VPRE and the journal die (R37) -/

/-- Whether an erase is pending (R326, R341): fewer than six blocks lie pre-erased ahead, in a running journal.
[DEDUCED: log 52] -/
def State.erasePending (s : State) : Bool :=
  s.on R.JNL_STATUS_SCAN_DONE && decide (s.ahead.length < 6) && !s.bit R.BIST_STATUS_SAFE 2

/-- Journal work (R37): a commit, an erase or a boot scan. -/
def State.journalWork (s : State) : Bool :=
  s.slots.any (fun x => !x.committed) || s.program.isSome || s.erase.isSome || !s.storeOps.isEmpty || s.erasePending

/-- The state of a rail (R245). -/
def State.railState (s : State) (x : Nat) : Nat := s.get R.RAIL_x_STAT_STATE x

/-- Whether a rail is on in any way: not OFF and not LATCHED. -/
def State.railOn (s : State) (x : Nat) : Bool := s.railState x != 0 && s.railState x != 7

/-- Whether VPRE is to run (R37, R221). -/
def State.vpreWanted (s : State) : Bool :=
  s.on R.MODE_STATUS_RAIL_DEMAND || s.railOn 0 || s.railOn 1 || s.journalWork || s.on R.AUX_CTRL_VPRE_KEEP

/-- Whether the journal die is powered (R37): VPRE runs, and not for VPRE_KEEP alone. -/
def State.dieFollow (s : State) : State :=
  s.flag R.JNL_STATUS_DIE_ON (s.on R.AUX_STATUS_VPRE_REG &&
    (s.on R.MODE_STATUS_RAIL_DEMAND || s.railOn 0 || s.railOn 1 || s.journalWork))

/-- VPRE begins its on-delay (R37, R228 step 2): for the host rails once VAUX is in regulation, on its hold drive (R220) for
journal work and for VPRE_KEEP. The safe state of P4 holds it as it is (R454). [DEDUCED: log 11] -/
def State.startVpre (s : State) : State :=
  if s.vpreWanted && s.get R.X_VPRE == 0 &&
      (s.on R.AUX_STATUS_VAUX_REG || !s.on R.MODE_STATUS_RAIL_DEMAND || s.journalWork || s.on R.AUX_CTRL_VPRE_KEEP) &&
      !s.on R.MODE_STATUS_THERM_ACTIVE && s.get R.MODE_STATUS_MODE != 0 && !s.on R.X_HELD &&
      !s.bit R.BIST_STATUS_SAFE 4 then
    ((s.abortSlice 0x10).set R.X_VPRE 1).dieFollow
  else s.dieFollow

/-! ### Acceptance -/

/-- Note that a cause of R70 has occurred since the last mode evaluation: an event that awaits the mode controller, which
aborts a slice on P7 (R449, R451). Bit 0x1B is the retry of R51, whose cause is 0x05 as well. -/
def State.cause (s : State) (c : Nat) : State := (s.abortSlice 0x80).setBit R.X_CAUSES c true

/-- Trigger a host-notify, or merge into the one pending (R359). -/
def State.notify (s : State) (red : Bool) : State :=
  (if s.on R.HIF_STATUS_NOTIFY_BUSY then s else (s.flag R.HIF_STATUS_NOTIFY_BUSY true).set R.X_NOTIFY_TRIES 0).iff red
    (fun t => t.flag R.X_NOTIFY_RED true)

/-- Whether ALERTN is driven low (R364): a queue alert term, an enabled fault, or Ride-Through; never in Ship or in
the cut-off rest; always where the device is held in reset (R447). -/
def State.alertLow (s : State) : Bool :=
  s.on R.X_HELD || !(s.get R.MODE_STATUS_MODE == 0) && !s.on R.X_CUTOFF_REST && !s.on R.X_DOWN &&
    (s.get R.Q_ALERT != 0 || (s.on R.HIF_ALERT_EN && s.faultSum != 0) || s.on R.MODE_STATUS_RIDE_ACTIVE)

/-- Follow ALERTN: its assertion triggers a host-notify while NOTIFY_ON_ALERT is set (R359). -/
def State.followAlert (s : State) : State :=
  let low := s.alertLow
  (if low && !s.on R.HIF_STATUS_ALERTN_LOW && s.on R.HIF_CTRL_NOTIFY_ON_ALERT then s.notify false else s).flag
    R.HIF_STATUS_ALERTN_LOW low

/-- Accept a record into queue `q` (R309, R33): SEQ, slot, eviction, alert term, notify, grace under ON_RED, the
retained record; an erase slice is suspended, and the die is powered for the commit (R37). -/
def State.accept (s : State) (q : Nat) (r : Rec) : State :=
  let c := s.qclass q
  let s1 := (s.evict q).suspendErase
  let seq := s1.get R.JNL_NEXT_SEQ
  let slot : QSlot :=
    { record := { r with seq := seq, queue := q }, dclass := c, at_ms := s1.now, goodTick := s1.get R.X_GOOD,
      waited := false, committed := false, popped := false }
  let s2 := { s1 with slots := s1.slots ++ [slot] }
  let s3 := (s2.set R.JNL_NEXT_SEQ (seq + 1)).saveRetained
  let s4 := s3.iff (c == 2 || s3.on R.Qq_CFG_ALERT q) (fun t => t.setBit R.Q_ALERT q true)
  let s5 := s4.iff (c == 2 && s4.on R.Qq_CFG_NOTIFY q) (fun t => t.notify true)
  let s6 := s5.iff (c == 2 && s5.on R.MODE_POLICY_ON_RED && !s5.on R.MODE_STATUS_RAIL_DEMAND)
    (fun t => t.startGrace.cause 0x16)
  s6.followAlert.startVpre

/-- Payload of a FAULT_EVENT record (R304). -/
def faultPayload (addr newBits value : Nat) : List Byte := le 2 addr ++ le 2 newBits ++ le 2 value ++ le 2 (addr / 256 - 2)

/-- Refuse a record offered to queue `q` for a cause (R313): count it, gather it for the summary, and latch the
queue's Q_FAULT bit, whose FAULT_EVENT waits for the summary. -/
def State.refuse (s : State) (q cause type : Nat) : State :=
  let s1 := s.inc R.Qq_REFUSED q
  let first := s1.get R.X_RF_COUNT q == 0
  let s2 := s1.iff first (fun t => (t.set R.X_RF_FIRST t.now q).set R.X_RF_FTYPE type q)
  let s3 := ((((s2.inc R.X_RF_COUNT q).setBit R.X_RF_CAUSES cause true q).set R.X_RF_LAST s2.now q).set R.X_RF_LTYPE
    type q)
  let fresh := !s3.bit R.Q_FAULT q
  let s4 := s3.setBit R.Q_FAULT q true
  let s5 := { s4 with latched := if fresh then
      s4.latched ++ [(q, s4.mkRec 0x20 0x8A (faultPayload 0x0B00 (2 ^ q) (s4.get R.Q_FAULT)))] else s4.latched }
  s5.followAlert

/-- Judge a record for a given queue and accept or refuse it (R309). The Boolean says whether it was accepted. The offer
aborts a self-test slice on P1 or P2, whatever its outcome (R314). -/
def State.admitTo (s : State) (q : Nat) (r : Rec) : State × Bool :=
  let t := s.abortSlice 0x06
  match t.judge q with
  | none => (t.accept q r, true)
  | some cause => (t.refuse q cause r.type, false)

/-- The REFUSAL_SUMMARY of a queue (R304, R313): SUMMARY flag, source 0x8A. -/
def State.summaryRec (s : State) (q : Nat) : Rec :=
  let bytes := le 1 q ++ le 1 (s.get R.X_RF_CAUSES q) ++ le 4 (s.get R.X_RF_COUNT q) ++ le 4 (s.get R.X_RF_FIRST q) ++
    le 4 (s.get R.X_RF_LAST q) ++ le 1 (s.get R.X_RF_FTYPE q) ++ le 1 (s.get R.X_RF_LTYPE q)
  { s.mkRec 0x3E 0x8A bytes with summary := true }

/-- The gathered figures of a queue restart (R313). -/
def State.clearGather (s : State) (q : Nat) : State :=
  (((((s.clear R.X_RF_COUNT q).clear R.X_RF_CAUSES q).clear R.X_RF_FIRST q).clear R.X_RF_LAST q).clear R.X_RF_FTYPE
    q).clear R.X_RF_LTYPE q

/-- Offer a record (R309): routed, with the summary of its queue judged first while refusals stand (R313, R314). An
accepted summary ends the condition of the Q_FAULT bit and offers the FAULT_EVENT of that latch. The first argument
bounds how many summaries can follow from one another: one per queue. -/
def State.offerN : Nat → State → Rec → State × Bool
  | 0, s, r => s.admitTo (s.route r) r
  | n + 1, s, r =>
    let q := s.route r
    if s.get R.X_RF_COUNT q = 0 then s.admitTo q r
    else
      let p := s.admitTo q (s.summaryRec q)
      if p.2 then
        let s1 := { p.1.clearGather q with latched := p.1.latched.filter (fun x => x.1 != q) }
        let s2 := (p.1.latched.filter (fun x => x.1 == q)).foldl (fun t x => (State.offerN n t x.2).1) s1
        State.offerN n s2 r
      else p.1.admitTo q r

/-- Whether a record is kept for release instead of offered: Thermal Hold is in force and it is a MODE_CHANGE or a
FAULT_EVENT (R505). [DEDUCED: log 70] -/
def State.keeps (s : State) (r : Rec) : Bool :=
  s.on R.MODE_STATUS_THERM_ACTIVE && (r.type == 0x13 || r.type == 0x20) && s.held.length < 64

/-- Offer a record, unless acceptance is not yet enabled (R39), the device is held in reset (R447) or R505 keeps it.
[DEDUCED: log 70] -/
def State.offerB (s : State) (r : Rec) : State × Bool :=
  if !s.on R.JNL_STATUS_SCAN_DONE || s.on R.X_HELD then (s, false)
  else if s.keeps r then ({ s with held := s.held ++ [r] }, false)
  else s.offerN 17 r

/-- Offer a record and forget whether it was accepted. -/
def State.offer (s : State) (r : Rec) : State := (s.offerB r).1

/-- Offer a record of an internal source generated now. -/
def State.record (s : State) (type source : Nat) (payload : List Byte) : State := s.offer (s.mkRec type source payload)

/-- Latch bit `b` of a fault field with a given source: a bit newly latched sets its FAULT register and generates its
FAULT_EVENT record (R304), held while acceptance is not enabled (R39). A bit already latched changes nothing. -/
def State.latchFrom (s : State) (source : Nat) (r : Reg) (b : Nat := 0) : State :=
  if s.bit r b then s
  else
    let s1 := s.setBit r b true
    let rec1 := s1.mkRec 0x20 source (faultPayload r.base (2 ^ (r.lo + b)) (s1.rawWord r.base))
    (if s1.on R.JNL_STATUS_SCAN_DONE then s1.offer rec1 else { s1 with held := s1.held ++ [rec1] }).followAlert

/-- Latch bit `b` of a fault field. -/
def State.latch (s : State) (r : Reg) (b : Nat := 0) : State := s.latchFrom (faultSource r.base) r b

/-- The condition behind bit `b` of a fault field stands: a read does not clear the bit (R11). -/
def State.stand (s : State) (r : Reg) (b : Nat := 0) : State := s.setBit R.X_COND (r.lo + b) true (faultIndex r.base)

/-- The condition behind bit `b` of a fault field has ended. -/
def State.ended (s : State) (r : Reg) (b : Nat := 0) : State := s.setBit R.X_COND (r.lo + b) false (faultIndex r.base)

/-- Whether the condition behind bit `b` of a fault field stands. -/
def State.stands (s : State) (r : Reg) (b : Nat := 0) : Bool := s.bit R.X_COND (r.lo + b) (faultIndex r.base)

/-- Latch a fault whose condition stands until an event ends it. -/
def State.latchStand (s : State) (r : Reg) (b : Nat := 0) : State := (s.stand r b).latch r b

end Sys2Proof.Machine
end

