-- ==== Sys2Proof/Machine/Groups.lean ====
section
/-! DEFINITION. Operations on phases, phase groups and the inputs they hang on that several chapters share: starting, stopping
and tripping a group, excluding a phase, the end of a class, applying the phase map (R72, R129 to R158). Groups, phases and inputs
count from 0 here. -/

namespace Sys2Proof.Machine

/-- The input that the stored phase map gives phase `p`: 0 unused, 1 to 4 an input (R129). -/
def State.mapNibble (s : State) (p : Nat) : Nat :=
  if p < 4 then s.get R.CNV_PHASE_MAP_A / 16 ^ p % 16 else s.get R.CNV_PHASE_MAP_B / 16 ^ (p - 4) % 16

/-- The phases of group `g` under the applied map (R129, R157). -/
def State.phasesOf (s : State) (g : Nat) : List Nat :=
  (List.range 6).filter (fun p => s.get R.CNV_PHn_STAT_GROUP p == g + 1)

/-- The phases of a group that can switch (R131). -/
def State.usable (s : State) (g : Nat) : List Nat := (s.phasesOf g).filter (fun p => !s.on R.CNV_PHn_STAT_EXCLUDED p)

/-- The phases of a group that switch now. -/
def State.active (s : State) (g : Nat) : List Nat := (s.phasesOf g).filter (fun p => s.on R.CNV_PHn_STAT_SWITCHING p)

/-- The group's state code (R158). -/
def State.gstate (s : State) (g : Nat) : Nat := s.get R.CNV_Gg_STAT_STATE g

/-- A phase starts or stops switching, with its bits in CNV_STATUS and CNV_PHn_STAT (R155, R157). -/
def State.switchPhase (s : State) (p : Nat) (b : Bool) : State :=
  (s.flag R.CNV_PHn_STAT_SWITCHING b p).setBit R.CNV_STATUS_SWITCHING p b

/-- The active phases of a group take their places in the timebase (R132): the i-th of k at θ_g + (i - 1) × 360°/k, in 1/15360
of a period; the re-spacing takes no time. -/
def State.respace (s : State) (g : Nat) : State :=
  let act := s.active g
  (List.range act.length).foldl (fun t i =>
    t.set R.X_PLACE ((60 * t.get R.X_PHASE_OFS g + i * (15360 / act.length)) % 15360) (act.getD i 0)) s

/-- CNV_Gg_STAT.ACTIVE follows the phases that switch, which are re-spaced (R132, R156). -/
def State.countActive (s : State) (g : Nat) : State := (s.set R.CNV_Gg_STAT_ACTIVE (s.active g).length g).respace g

/-- The peak command of each phase (R143): the group's with the phase's trim; 0 where it does not switch. -/
def State.phasePeaks (s : State) (g : Nat) : State :=
  (s.phasesOf g).foldl (fun t p =>
    t.set R.X_PEAK (if t.on R.CNV_PHn_STAT_SWITCHING p then
      (((t.get R.CNV_Gg_PEAK g : Int) * (1024 + t.getS R.CNV_PHn_TRIM p)) / 1024).toNat else 0) p) s

/-- Drive the gates of an input, or pull them low (R74, R76); low while the function of P3 is in its safe state (R454), while
a reverse polarity stands (R94) and in Thermal Hold (R432). -/
def State.gates (s : State) (i : Nat) (b : Bool) : State :=
  let on := b && !s.bit R.BIST_STATUS_SAFE 3 && !s.stands R.IN_FAULT_REV_POL i && !s.on R.MODE_STATUS_THERM_ACTIVE
  ((s.setBit R.IN_STATUS_FET_ON i on).flag R.X_GA on i).flag R.X_GATE_OFF false i

/-- Whether a group draws or may draw from its input: RAMP_ON or RUN (R149, R158). -/
def State.drawing (s : State) (g : Nat) : Bool := s.gstate g == 2 || s.gstate g == 3

/-- The gates of an input go low, after the ramp where its group still draws (R94, R100, R101). -/
def State.gatesAfterRamp (s : State) (i : Nat) : State :=
  if s.drawing i then s.flag R.X_GATE_OFF true i else s.gates i false

/-- Every phase of a group stops: gates idle, no region, no loop governing, no tuning run (R125, R142, R156); the input's gates
go low where they wait for it. [DESIGN CHOICE: log 110] -/
def State.idlePhases (s : State) (g : Nat) : State :=
  let s1 := (s.phasesOf g).foldl (fun t p => ((t.switchPhase p false).set R.CNV_PHn_I 0 p).flag R.CNV_PHn_STAT_SHED
    false p) s
  let s2 := (((((((((s1.countActive g).set R.CNV_Gg_STAT_REGION 3 g).flag R.CNV_Gg_STAT_BURST false g).flag R.CNV_Gg_STAT_DE
    false g).flag R.CNV_Gg_STAT_PH_LIMIT false g).flag R.CNV_Gg_STAT_EQ_ACTIVE false g).set R.CNV_Gg_PEAK 0 g).set
    R.CNV_Gg_IL 0 g).set R.TRKn_STAT_LOOP 0 g).flag R.TRKn_STAT_GOVERNED false g
  let s3 := (((s2.set R.X_RAMP 0 g).set R.X_CTRL_SW 0 g).flag R.X_TUNING false g).phasePeaks g
  if s3.on R.X_GATE_OFF g then s3.gates g false else s3

/-- UNAVAILABLE where no phase can switch, TRIPPED while the cause of a trip stands, else STOPPED (R131, R151, R158). -/
def State.settleGroup (s : State) (g : Nat) : State :=
  (s.set R.CNV_Gg_STAT_STATE (if s.usable g = [] then 6 else if s.get R.X_TRIP g ≠ 0 then 5 else 0) g).flag R.X_BOOT false g

/-- A group begins its on-delay (R149 step 1), with its bootstrap charge before it. -/
def State.toOnDelay (s : State) (g : Nat) : State := (s.set R.CNV_Gg_STAT_STATE 1 g).flag R.X_BOOT false g

/-- The forced window ends (R453 steps 4 and 5): a slice still running is aborted, and each group with a ceiling restarts, ON_DELAY
taken as 0. -/
def State.endP3Window (s : State) : State :=
  if s.on R.BIST_STATUS_P3_WINDOW then
    ((s.abortSlice 0x08).flag R.BIST_STATUS_P3_WINDOW false).each 4 (fun g t =>
      if t.gstate g = 0 ∧ t.get R.TRKn_ALLOC g ≠ 0 ∧ t.on R.AUX_STATUS_VAUX_REG then
        t.toOnDelay g
      else t)
  else s

/-- An event needs the logic of P3 (R451, R453): a slice on it is aborted and the forced window ends. [DEDUCED: log 18] -/
def State.needP3 (s : State) : State := (s.abortSlice 0x08).endP3Window

/-! ### Inputs (R72 to R103) -/

/-- The classifier state of an input (R79). -/
def State.instate (s : State) (i : Nat) : Nat := s.get R.INn_STAT_STATE i

/-- The class of an input (R92). -/
def State.cls (s : State) (i : Nat) : Nat := s.get R.INn_STAT_CLASS i

/-- Whether an input is present (R48). -/
def State.present (s : State) (i : Nat) : Bool := s.bit R.IN_STATUS_PRESENT i

/-- Whether some input is present. -/
def State.anyPresent (s : State) : Bool := s.get R.IN_STATUS_PRESENT != 0

/-- Whether some present input is classified `c` (R48). -/
def State.hasClass (s : State) (c : Nat) : Bool := (List.range 4).any (fun i => s.cls i == c && s.present i)

/-- Whether some input is classified (R48). -/
def State.anyClassified (s : State) : Bool := (List.range 4).any (fun i => s.cls i != 0)

/-- Whether an input can be classified at all: enabled, and its group has a phase (R72, R101). -/
def State.enabled (s : State) (i : Nat) : Bool := s.on R.INn_CTRL i && !(s.phasesOf i).isEmpty

/-- Set the classifier state, with the HELD bit of IN_STATUS (R79, R104). -/
def State.setInstate (s : State) (i st : Nat) : State :=
  (s.needP3.set R.INn_STAT_STATE st i).setBit R.IN_STATUS_HELD i (st == 8)

/-- Default limit and ceiling of a class, 25 mA codes (R92). -/
def classLimit (c : Nat) : Nat × Nat :=
  match c with
  | 1 => (600, 1600) | 2 => (40, 120) | 3 => (480, 800) | 4 => (2400, 4000) | 5 => (400, 800) | 6 => (80, 80)
  | _ => (0, 0)

/-- INn_LIM_EFF: the class default where INn_LIMIT is 0, else the lesser of INn_LIMIT and the ceiling (R92). -/
def State.limEff (s : State) (i : Nat) : Nat :=
  let p := classLimit (s.cls i)
  if s.get R.INn_LIMIT i = 0 then p.1 else min (s.get R.INn_LIMIT i) p.2

/-- INn_LIM_EFF follows the class and the limit. -/
def State.updateLimit (s : State) (i : Nat) : State := s.set R.INn_LIM_EFF (s.limEff i) i

/-- The hold of a class across absence, in LPO ticks; 0 for none (R92). -/
def State.holdTicks (s : State) (c : Nat) : Nat :=
  match c with
  | 1 => 65536
  | 2 => s.get R.IN_TS_HOLD * 32768
  | 5 => s.get R.IN_AG_HOLD * 32768
  | _ => 0

/-- A SOURCE_EVENT record (R102). -/
def State.sourceEvent (s : State) (i event : Nat) : State :=
  let flags := s.get R.INn_STAT_BAND i + 8 * s.get R.INn_STAT_DECLARED i + 16 * s.get R.INn_STAT_MASKED i +
    (if s.get R.INn_SIG_DROPOUTS i = 0 then 0 else 64)
  s.record 0x10 0x80 (le 1 (i + 1) ++ le 1 event ++ le 1 (s.cls i) ++ le 1 flags ++ le 2 (s.get R.INn_VOC i) ++
    le 2 (s.get R.INn_RSRC i) ++ le 2 (s.get R.INn_RIPPLE i) ++ le 1 (s.get R.INn_SIG_DROPOUTS i) ++
    le 1 (s.get R.INn_SIG_FREQ i) ++ le 2 (s.get R.INn_LIM_EFF i) ++ le 1 (s.get R.INn_STAT_ISSUE i))

/-- Tracking of an input stops: style Idle, no capability, no sweep (R107, R113). -/
def State.trackIdle (s : State) (i : Nat) : State :=
  ((((((s.set R.TRKn_STAT_STYLE 0 i).set R.TRKn_CAP 0 i).setBit R.TRK_STATUS_SWEEPING i false).clear R.X_SWEEP_DUE i).clear
    R.X_DORMANT i).flag R.X_AWAIT false i).setBit R.X_RETRY i false

/-- Whether an input is a harvest source, and one that delivers (R51). -/
def State.harvestSource (s : State) (i : Nat) : Bool :=
  let c := s.cls i
  c == 3 || c == 5 || ((c == 2 || c == 6) && !s.on R.MODE_STATUS_COUPLED)
def State.delivering (s : State) (i : Nat) : Bool := s.harvestSource i && !s.on R.X_DORMANT i

/-- Classification restarts: SETTLE where the input is present, DEBOUNCE or ABSENT otherwise (R83, R91, R100).
[DEDUCED: log 27, 28] -/
def State.restartClass (s : State) (i : Nat) : State :=
  let s1 := (((s.gatesAfterRamp i).clear R.X_IDDIFF i).flag R.X_READMIT false i).flag R.X_DECODED false i
  let s2 := (s1.flag R.X_PROBE_FAIL false i).set R.X_WDROPS 0 i
  if !s2.enabled i then s2.setInstate i 9
  else if s2.present i then
    ((((((s2.setInstate i 2).set R.X_SETTLE_AT s2.now i).set R.X_VBUS0 (s2.get R.X_VBUS i) i).clear R.INn_VOC i).clear
      R.INn_RSRC i).clear R.INn_CURV i).clear R.INn_SIG_DROPOUTS i |>.clear R.INn_SIG_FREQ i |>.clear R.INn_RIPPLE i
  else s2.setInstate i (if s2.on R.X_DEBOUNCE i then 1 else 0)

/-- What the end of a class leaves (R55, R98): class None, no limit, no tracking, no stop-lamp release; grace where the last Depot
input is lost. It is an event for the mode controller where a Depot or a delivering source is lost (R57). -/
def State.endClass (s : State) (i : Nat) : State :=
  let wasDepot := s.cls i == 4
  let s1 := (((s.set R.INn_STAT_CLASS 0 i).flag R.INn_STAT_MASKED false i).updateLimit i).trackIdle i
  let s2 := (s1.setBit R.IN_STATUS_TS_RELEASED i false).flag R.X_RETAKE false i
  let s3 := s2.iff (wasDepot && !(List.range 4).any (fun j => s2.cls j == 4)) State.startGrace
  if wasDepot || s.delivering i then s3.cause 0x06 else s3.abortSlice 0x80

/-! ### The phase map (R72, R129) -/

/-- The ceiling and the capability of a group are zero at once (R120, R131). -/
def State.noCeiling (s : State) (g : Nat) : State := (s.set R.TRKn_ALLOC 0 g).set R.TRKn_CAP 0 g

/-- An input loses its phases (R72): its class is dropped with a SOURCE_EVENT LOST, its gates are low, its state is DISABLED. Its
group does not switch then. [DESIGN CHOICE: log 78] -/
def State.unmapInput (s : State) (i : Nat) : State :=
  let wasTp := s.cls i == 1
  let s1 := if s.cls i = 0 then s else ((s.endClass i).noCeiling i).sourceEvent i 0x02
  let s2 := (((s1.gates i false).flag R.X_READMIT false i).noCeiling i).setInstate i 9
  s2.iff wasTp (fun t => t.each 4 (fun j u =>
    if u.get R.INn_STAT_ISSUE j = 3 ∧ u.cls j = 6 then
      (((u.endClass j).noCeiling j).sourceEvent j 0x05).restartClass j
    else u))

/-- The inputs follow the applied map (R72): one without phases is DISABLED, one that has phases again starts over. -/
def State.inputsFollow (s : State) : State :=
  s.each 4 (fun i t =>
    if (t.phasesOf i).isEmpty then (if t.instate i = 9 then t else t.unmapInput i)
    else if t.instate i = 9 ∧ t.on R.INn_CTRL i then
      (if t.on R.X_OV i || t.on R.X_FETBAD i then t.setInstate i 10 else t.restartClass i)
    else t)

/-- A stored map or frequency write is applied (R129): phases take their groups, unusable groups read UNAVAILABLE, inputs
without phases DISABLED (R72). -/
def State.applyMap (s : State) : State :=
  let s1 := s.each 6 (fun p t => t.set R.CNV_PHn_STAT_GROUP (t.mapNibble p) p)
  let s2 := (s1.set R.X_FSW (s1.get R.CNV_FSW)).each 4 (fun g t => t.set R.X_PHASE_OFS (t.get R.CNV_Gg_PHASE_OFS g) g)
  let s3 := s2.each 4 (fun g t => if t.gstate g = 0 ∨ t.gstate g = 6 then t.settleGroup g else t)
  (s3.flag R.CNV_STATUS_CFG_PENDING false).inputsFollow

/-- Whether every group is STOPPED, an unavailable one included, and no phase switches for a cold start (R129, R202). -/
def State.allStopped (s : State) : Bool :=
  s.get R.CNV_STATUS_SWITCHING == 0 && (List.range 4).all (fun g => s.gstate g == 0 || s.gstate g == 6)

/-- A held map or frequency write is applied once every group is STOPPED (R129). -/
def State.mapCheck (s : State) : State := if s.on R.CNV_STATUS_CFG_PENDING && s.allStopped then s.applyMap else s

/-- Stop a group at once (R149, R151). -/
def State.stopGroup (s : State) (g : Nat) : State :=
  (((s.idlePhases g).settleGroup g).flag R.CNV_Gg_STAT_TUNED false g).mapCheck

/-! ### Trips, ceilings and regions -/

/-- Trip a group for a cause: 0 presence loss, 1 input overvoltage, 2 TS release, 3 input undervoltage, 4 SYS
overvoltage, 5 drive supply, 6 thermal shutdown, 7 P3 in its safe state (R151, R152). A group that does not switch yet stops
without a fault on the first three (R154). [DESIGN CHOICE: log 79] -/
def State.tripGroup (s : State) (g cause : Nat) : State :=
  let st := s.gstate g
  if cause ≤ 2 ∧ st = 6 then s
  else if cause ≤ 2 ∧ (st = 0 ∨ st = 1) then s.needP3.stopGroup g
  else ((s.needP3.idlePhases g).setBit R.X_TRIP cause true g).settleGroup g

/-- The cause of a trip has ended: with no cause left the group returns to STOPPED, and one that still has a ceiling
restarts with ON_DELAY taken as 0 (R152). -/
def State.endTrip (s : State) (g cause : Nat) : State :=
  let s1 := s.setBit R.X_TRIP cause false g
  if s1.gstate g = 5 ∧ s1.get R.X_TRIP g = 0 then
    let s2 := s1.stopGroup g
    if s2.gstate g = 0 ∧ s2.get R.TRKn_ALLOC g ≠ 0 ∧ s2.on R.AUX_STATUS_VAUX_REG then s2.toOnDelay g else s2
  else s1

/-- A group loses its ceiling at once (R120): from ON_DELAY it returns to STOPPED (R149). -/
def State.zeroCeiling (s : State) (g : Nat) : State :=
  let s1 := s.noCeiling g
  if s1.gstate g = 1 then s1.stopGroup g else s1

/-- A group is to lose its ceiling: where it draws, the allocator's updates take it down at CHG_EDGE_RAMP (R101, R119, R151). -/
def State.rampDown (s : State) (g : Nat) : State := if s.drawing g then s.set R.TRKn_CAP 0 g else s.zeroCeiling g

/-- The class of an input ends, and its group ramps down. -/
def State.clearClass (s : State) (i : Nat) : State := ((s.endClass i).rampDown i).endTrip i 2

/-- The region a group takes when it starts to switch, from r = SYSS / VBUSg of the last evaluation (R134). -/
def startRegion (sys vbus : Nat) : Nat :=
  if sys * 100 < 85 * vbus then 0 else if sys * 100 > 115 * vbus then 2 else 1

/-- A group takes a region, and with it the controlling switch (R136): 2 the downstream low-side in boost, else 1. -/
def State.regionSet (s : State) (g r : Nat) : State :=
  (s.set R.CNV_Gg_STAT_REGION r g).set R.X_CTRL_SW (if r = 2 then 2 else 1) g

/-- The slope of the compensation ramp in the region in force (R136), 0.6 × V_down / L in mA/µs. -/
def State.slopeFollow (s : State) (g : Nat) : State :=
  let sys := s.get R.X_LSYS g
  s.set R.X_SLOPE (60 * (if s.get R.CNV_Gg_STAT_REGION g = 2 then sys - s.get R.X_LVBUS g else sys) / s.get R.CNV_LPH) g

/-- A group that begins to switch has no region before (R134): it takes the one of the last evaluation. -/
def State.regionStart (s : State) (g : Nat) : State :=
  (s.regionSet g (startRegion (s.get R.X_LSYS g) (s.get R.X_LVBUS g))).slopeFollow g

/-- The region after an evaluation (R133), with the hysteresis of its table. -/
def nextRegion (old sys vbus : Nat) : Nat :=
  match old with
  | 0 => if sys * 100 > 88 * vbus then (if sys * 100 > 115 * vbus then 2 else 1) else 0
  | 1 => if sys * 100 < 85 * vbus then 0 else if sys * 100 > 115 * vbus then 2 else 1
  | 2 => if sys * 100 < 112 * vbus then (if sys * 100 < 85 * vbus then 0 else 1) else 2
  | _ => startRegion sys vbus

/-- Exclude a phase for a cause: 1 open, 2 short, 3 bootstrap (R152, R157). The exclusion of the last usable phase
makes the group unavailable (R131); that of the only phase that switches, while others are shed, leaves the group in RUN with
none until the next shed evaluation. [DESIGN CHOICE: log 80] -/
def State.excludePhase (s : State) (p cause : Nat) : State :=
  let g := s.get R.CNV_PHn_STAT_GROUP p - 1
  let s1 := (((s.switchPhase p false).flag R.CNV_PHn_STAT_EXCLUDED true p).setBit R.CNV_STATUS_EXCLUDED p true).set
    R.CNV_PHn_STAT_CAUSE cause p
  if s.get R.CNV_PHn_STAT_GROUP p = 0 then s1
  else if s1.usable g = [] then (s1.idlePhases g).set R.CNV_Gg_STAT_STATE 6 g
  else (((s1.countActive g).set R.X_EQ_HOLD 256 g).flag R.X_TUNING false g).phasePeaks g

/-- Start to switch every usable phase of a group in RAMP_ON (R149 step 3, R134). -/
def State.switchOn (s : State) (g : Nat) : State :=
  let s1 := (s.usable g).foldl (fun t p => (t.switchPhase p true).flag R.CNV_PHn_STAT_SHED false p) s.needP3
  (((((s1.countActive g).regionStart g).set R.CNV_Gg_STAT_STATE 2 g).set R.CNV_Gg_PEAK 0 g).phasePeaks g).set R.X_RAMP 0 g

end Sys2Proof.Machine
end

