-- ==== Sys2Proof/Machine/Sources.lean ====
section
/-! DEFINITION. Operations on the inputs that several commands share: presence, class, holds, coupling, the start of
tracking and the SOURCE_EVENT record (R72 to R103, R52 to R55, R110). Inputs count from 0 here. -/

namespace Sys2Proof.Machine

/-- The floor of a tracking style (R107): TP fixed, DP and UK relative, TS from V_ref. -/
def State.floorOf (s : State) (i : Nat) : Nat :=
  match s.cls i with
  | 1 => s.get R.TRK_TP_FLOOR
  | 2 => max (s.get R.X_VREF i - s.get R.IN_TS_DROOP) 1820
  | _ => max (s.get R.INn_VOC i - s.get R.TRK_GUARD_DROOP) 800

/-- The tracking style of a class (R107, R125). -/
def styleOf (c : Nat) : Nat :=
  match c with
  | 3 => 1 | 5 => 2 | 1 => 3 | 2 => 5 | 0 => 0 | _ => 4

/-- Perturb and observe starts afresh (R110): the first step, downwards, with no P_old. -/
def State.poStart (s : State) (i : Nat) : State :=
  (((s.set R.TRKn_STEP (s.get R.TRK_STEP_INIT) i).flag R.TRKn_STAT_DIR_DOWN true i).set R.TRKn_STAT_RUN 0 i).flag
    R.X_PO_VALID false i

/-- Tracking starts at classification (R107, R110): an SO input awaits its first sweep, an AG input starts at 3/4 of its
open-circuit voltage, the others hold their floor. -/
def State.trackStart (s : State) (i : Nat) : State :=
  let s1 := (((s.poStart i).flag R.X_SWEPT false i).flag R.X_COUNTED false i).set R.TRKn_STAT_STYLE (styleOf (s.cls i)) i
  match s.cls i with
  | 3 => ((s1.set R.TRKn_VSET (s.get R.INn_VOC i - 10) i).flag R.X_SWEEP_DUE true i).flag R.X_AWAIT true i
  | 5 => s1.set R.TRKn_VSET (s.get R.INn_VOC i * 3 / 4) i
  | _ => s1.set R.TRKn_VSET (s.floorOf i) i

/-- An input leaves dormancy in its retry (R110): an AG input starts afresh; an SO input goes on, its sweep due when the retry
has ended; a floor stands as it was fixed. -/
def State.leaveDormancy (s : State) (i : Nat) : State :=
  let s1 := ((s.clear R.X_DORMANT i).flag R.X_AWAIT false i).set R.TRKn_STAT_STYLE (styleOf (s.cls i)) i
  match s.cls i with
  | 3 => s1.flag R.X_SWEEP_DUE true i
  | 5 => (s1.poStart i).set R.TRKn_VSET (s.get R.INn_VOC i * 3 / 4) i
  | _ => s1

/-- TRKn_SWEEP_AGE in seconds (R124): 0xFFFF where no sweep has completed. -/
def State.sweepAge (s : State) (i : Nat) : Nat :=
  if s.on R.X_SWEEP_EVER i then s.agesOf (s.get R.X_SWEEP_AT i) 1000 else 0xFFFF

/-- A new V_ref (R97) moves the floor of a stop-lamp input (R95, R107). -/
def State.setVref (s : State) (i vref : Nat) : State :=
  let s1 := (s.set R.X_VREF vref i).set R.X_VREF_AT s.now i
  s1.set R.TRKn_VSET (s1.floorOf i) i

/-- Whether the V_ref retake of a stop-lamp input is due: it draws, and 1 s has passed since the last (R97). -/
def State.retakeDue (s : State) (i : Nat) : Bool :=
  s.cls i == 2 && s.get R.TRKn_ALLOC i != 0 && decide (s.get R.X_VREF_AT i + 1000 ≤ s.now)

/-- Couple the device (R52): COUPLED, the couple count, grace stopped, cause 0x07. -/
def State.couple (s : State) : State :=
  if s.on R.MODE_STATUS_COUPLED then s
  else ((s.flag R.MODE_STATUS_COUPLED true).inc R.MODE_COUPLE_CNT).stopGrace.cause 0x07

/-- Uncouple the device (R52, R55): COUPLED clears, grace starts, cause 0x08. -/
def State.uncouple (s : State) : State :=
  if s.on R.MODE_STATUS_COUPLED then ((s.flag R.MODE_STATUS_COUPLED false).startGrace).cause 0x08 else s

/-- When a TP class is dropped, every input classified UK with issue DUP_TP drops its class and starts over, with a
SOURCE_EVENT TP_FREED (R91). -/
def State.freeDup (s : State) : State :=
  s.each 4 (fun j t =>
    if t.get R.INn_STAT_ISSUE j = 3 ∧ t.cls j = 6 then ((t.clearClass j).sourceEvent j 0x05).restartClass j else t)

/-- Drop the class of an input with a SOURCE_EVENT (R83, R92, R100, R101). -/
def State.dropClass (s : State) (i event : Nat) : State :=
  if s.cls i = 0 then s
  else
    let wasTp := s.cls i == 1
    ((s.clearClass i).sourceEvent i event).iff wasTp State.freeDup

/-- Enter HELD for the class hold, or drop a class that has none (R92). -/
def State.holdOrDrop (s : State) (i : Nat) : State :=
  if s.holdTicks (s.cls i) = 0 then (s.dropClass i 0x02).setInstate i (if s.on R.X_DEBOUNCE i then 1 else 0)
  else (s.setInstate i 8).zeroCeiling i

/-- Whether an issue latches IN_FAULT.CLASS (R94): ID_INVALID, CLASS_MISMATCH, DUP_TP, PROBE_FAIL. -/
def latchedIssue (issue : Nat) : Bool := 1 ≤ issue && issue ≤ 4

/-- Give an input a class (R88 to R92): the mask (R90), one TP only (R91; any other input whose class is TP counts, one in
overvoltage included), the issue, the limit, the start of tracking, coupling and the end of grace on a Depot, and the SOURCE_EVENT
CLASSIFIED. A PROBE_FAIL of this classification stands beside a later issue (R94). [DEDUCED: log 81; DESIGN CHOICE: log 99] -/
def State.classify (s : State) (i c issue : Nat) : State :=
  let masked := 1 ≤ c && c ≤ 5 && !s.bit R.INn_MASK (c - 1) i
  let dup := c == 1 && !masked && (List.range 4).any (fun j => j != i && s.cls j == 1)
  let c' := if masked || dup then 6 else c
  let issue' := if masked then 5 else if dup then 3 else issue
  let s1 := (((((s.set R.INn_STAT_CLASS c' i).flag R.INn_STAT_MASKED masked i).set R.INn_STAT_ISSUE issue' i).setInstate
    i 7).updateLimit i).set R.X_BAND (s.get R.INn_STAT_BAND i) i
  let s1 := (s1.set R.X_DECODE_AT s1.now i).clear R.X_IDDIFF i
  let s2 := if latchedIssue issue' || s1.on R.X_PROBE_FAIL i then s1.latchStand R.IN_FAULT_CLASS i else s1.ended R.IN_FAULT_CLASS i
  let s3 := (((s2.clear R.X_DORMANT i).iff (c' == 2) (fun t => t.setVref i (t.get R.INn_VOC i))).trackStart i).cause
    0x05
  let s4 := ((s3.iff (c' == 1) State.couple).iff (c' == 4) State.stopGrace).sourceEvent i 0x01
  if s4.present i then s4 else s4.holdOrDrop i

/-- Request the fast clock (R40). -/
def State.requestFast (s : State) : State := if s.on R.DEV_CLK_FAST_ON then s else s.flag R.X_FAST_REQ true

/-- Whether the device is at rest in Ship, in the cut-off rest or under power-on reset: device time stands still (R38,
R42, R205). -/
def State.asleepDeep (s : State) : Bool := s.get R.MODE_STATUS_MODE == 0 || s.on R.X_CUTOFF_REST || s.on R.X_DOWN

/-- A wake source acts: its bit in MODE_WAKE_SRC in Yard Sleep, and the fast clock is requested (R64). -/
def State.wake (s : State) (src : Reg) : State :=
  (s.iff (s.get R.MODE_STATUS_MODE == 1) (fun t => t.flag src true)).requestFast

/-- Cancel the Ship entry sequence (R61). -/
def State.cancelShip (s : State) : State :=
  if s.on R.MODE_STATUS_SHIP_PENDING then
    (((s.flag R.MODE_STATUS_SHIP_PENDING false).flag R.X_SHIP_OFF false)).cause 0x19
  else s

/-- Abandon the sweep of an input, if one runs (R112): V_set returns to its value before the sweep and SWEEP_ABORT latches. The
sweep is retried when it is next due under R111. [DESIGN CHOICE: log 106] -/
def State.abortSweep (s : State) (i : Nat) : State :=
  if s.bit R.TRK_STATUS_SWEEPING i then
    ((((s.setBit R.TRK_STATUS_SWEEPING i false).set R.TRKn_VSET (s.get R.X_VSET_OLD i) i).set R.TRKn_STAT_STYLE 1 i).flag
      R.X_PO_VALID false i).latchStand R.TRK_FAULT_SWEEP_ABORT i
  else s

/-- Abandon the sweeps of all inputs (R112). -/
def State.abortSweeps (s : State) : State := s.each 4 (fun i t => t.abortSweep i)

/-- A probe starts on an input (R80, R84, R154): state PROBE, sweeps abandoned, the group started for the probe. -/
def State.startProbe (s : State) (i : Nat) : State :=
  let s1 := (s.setInstate i 5).abortSweeps
  if s1.gstate i = 0 then s1.switchOn i else s1

/-- A probe ends or is abandoned: the group returns to STOPPED (R154). -/
def State.endProbe (s : State) (i : Nat) : State := s.stopGroup i

/-- The probes that run are abandoned when VAUX leaves regulation (R80): the inputs return to WAIT_VAUX. -/
def State.abandonProbes (s : State) : State :=
  s.each 4 (fun i t => if t.instate i = 5 then (t.endProbe i).setInstate i 4 else t)

/-- The probe droop limit of an input (R85, R202). -/
def State.droopOf (s : State) (i : Nat) : Nat :=
  if s.get R.INn_STAT_BAND i = 2 then s.get R.IN_TS_DROOP else s.get R.IN_PROBE_DROOP

/-- The input that a cold start would use (R202): the lowest-numbered in WAIT_VAUX with INSn at 11.0 V or more that has a usable
phase. -/
def State.coldInput (s : State) : Option Nat :=
  (List.range 4).find? (fun i => s.instate i == 4 && 1100 ≤ s.get R.INn_V i && !(s.usable i).isEmpty)

/-- Whether a cold start runs, waits for its retry, or is due (R202, R212). -/
def State.coldDue (s : State) : Bool :=
  s.on R.PP_STATUS_COLD_START || s.on R.X_COLD_WAIT || (s.get R.X_SYSS < 900 && s.coldInput.isSome)

/-- What PP does where an input waits for VAUX that cannot start (R202): with the battery PRESENT at 9.00 V or more
the pair closes under R200 (R196); otherwise SYS is cold-started, unless a cold start runs already or Thermal Hold lets no driver
start (R432): one phase, at most 0.300 A from the input, its peak command from 0. [DESIGN CHOICE: log 39] -/
def State.coldStartCheck (s : State) : State :=
  if s.on R.AUX_STATUS_VAUX_REG || 900 ≤ s.get R.X_SYSS || s.on R.PP_STATUS_COLD_START || s.on R.X_COLD_WAIT ||
      s.on R.MODE_STATUS_THERM_ACTIVE then s
  else if s.get R.PP_STATUS_BAT = 1 ∧ 900 ≤ s.get R.X_BATS then s
  else
    match s.coldInput with
    | some i =>
      let s1 := (((s.flag R.PP_STATUS_COLD_START true).set R.X_COLD_INPUT i).set R.X_COLD_FLOOR
        (s.get R.INn_V i - s.droopOf i)).switchPhase ((s.usable i).headD 0) true
      (((s1.countActive i).regionStart i).set R.CNV_Gg_PEAK 0 i).set R.X_RAMP 12 i
    | none => s

/-- Whether a cold start runs through a group. -/
def State.coldGroup (s : State) (g : Nat) : Bool := s.on R.PP_STATUS_COLD_START && s.get R.X_COLD_INPUT == g

/-- The cold start ends (R202): its phase stops and COLD_START clears. [DESIGN CHOICE: log 39] -/
def State.coldStartEnd (s : State) : State :=
  if s.on R.PP_STATUS_COLD_START then
    ((s.flag R.PP_STATUS_COLD_START false).idlePhases (s.get R.X_COLD_INPUT)).mapCheck
  else s

end Sys2Proof.Machine
end

