-- ==== Sys2Proof/Machine/Battery.lean ====
section
/-! DEFINITION. Operations of the charge sequencer and the power path that several commands share (R159 to R213). -/

namespace Sys2Proof.Machine

/-! ### Profile and limits -/

/-- The sequencer's state code (R163). -/
def State.chg (s : State) : Nat := s.get R.CHG_STATUS_STATE

/-- The chemistry and the cell count of the active profile (R159). -/
def State.chem (s : State) : Nat := s.get R.CHG_PROFILE_CHEM
def State.cells (s : State) : Nat := s.get R.CHG_PROFILE_CELLS

/-- Whether the chemistry is lithium, or lead-acid (R159). -/
def State.lithium (s : State) : Bool := s.chem == 1 || s.chem == 2
def State.leadAcid (s : State) : Bool := 3 ≤ s.chem && s.chem ≤ 5

/-- The OTP ceiling of a chemistry, mV per cell (R159). -/
def State.ceilingOf (s : State) (c : Nat) : Nat :=
  match c with
  | 1 => s.get R.CHG_OTP_VMAX_LFP
  | 2 => s.get R.CHG_OTP_VMAX_NMC
  | 3 | 4 | 5 => s.get R.CHG_OTP_VMAX_LA
  | _ => 0

/-- The cell counts a chemistry allows (R159). -/
def cellsAllowed (chem cells : Nat) : Bool :=
  match chem with
  | 0 => true
  | 1 => cells == 4 || cells == 8
  | 2 => 3 ≤ cells && cells ≤ 8
  | 3 | 4 | 5 => cells == 6 || cells == 12
  | _ => false

/-- The conditions of R160 on the whole profile; with chemistry None only the ordering is judged. [DEDUCED: log 37] -/
def State.profileOk (s : State) : Bool :=
  let top := s.get R.CHG_V_CELL_MAX
  let full := s.get R.CHG_V_FULL_REST
  let again := s.get R.CHG_V_RECHARGE
  let pre := s.get R.CHG_V_PRE
  let ordered := pre < again && again < full && full ≤ top
  let lim := s.ceilingOf s.chem
  let under := top ≤ lim && full ≤ lim && again ≤ lim && pre ≤ lim &&
    (!s.leadAcid || (s.get R.CHG_LA_V_EQ ≤ lim && s.get R.CHG_LA_V_FLOAT ≤ lim))
  let pack := 8000 ≤ s.cells * top && s.cells * top ≤ 36000
  ordered && (s.chem == 0 ||
    (cellsAllowed s.chem s.cells && s.bit R.CHG_OTP_MASK (s.chem - 1) && under && pack))

/-- T_cold and T_warm, 0.1 °C (R181). -/
def State.tCold (s : State) : Int := s.getS R.CHG_T_COLD_NOW
def State.tWarm (s : State) : Int := s.getS R.CHG_T_WARM_NOW

/-- The cold scale s of R182. -/
def State.coldScale (s : State) : Nat :=
  let lo := s.getS R.CHG_T_MIN
  let hi := s.getS R.CHG_T_COLD_END
  let k : Int := s.get R.CHG_COLD_SCALE
  if hi ≤ s.tCold then 256 else (k + (256 - k) * (s.tCold - lo) / (hi - lo)).toNat

/-- I_cap and I_fb of R182, 25 mA codes. -/
def State.iCap (s : State) : Nat := s.get R.CHG_I_SET * s.coldScale / 256
def State.iFb (s : State) : Nat := s.get R.CHG_I_SET * s.get R.THM_FB_FACTOR / 256

/-- Whether the warm reduction applies (R182: lithium, T_warm at the warm start or above, a reduction set). -/
def State.warmBand (s : State) : Bool :=
  s.lithium && decide (s.getS R.CHG_T_WARM_START ≤ s.tWarm) && s.get R.CHG_WARM_DV != 0

/-- A lead-acid per-cell voltage compensated and capped (R179). [DEDUCED: log 35] -/
def State.compensated (s : State) (mv : Nat) : Nat :=
  let t := clampI (-200) 500 s.tWarm
  min ((mv : Int) + (s.get R.CHG_LA_TCOMP : Int) * (250 - t) / 100).toNat (s.ceilingOf s.chem)

/-- The pack voltage limit of R161 and R162, mV. -/
def State.vLimit (s : State) : Nat :=
  let lim := s.cells * s.ceilingOf s.chem
  if s.lithium then
    min (min (s.cells * (s.get R.CHG_V_CELL_MAX - (if s.warmBand then s.get R.CHG_WARM_DV else 0))) lim) 36000
  else if s.leadAcid then
    let v := if s.chg = 0xC then s.get R.CHG_LA_V_FLOAT else if s.chg = 0xD then s.get R.CHG_LA_V_EQ
      else s.get R.CHG_V_CELL_MAX
    min (min (s.cells * s.compensated v) lim) 36000
  else 0

/-! ### Targets -/

/-- On states and rest states of the pulse method (R163). -/
def onState (st : Nat) : Bool := st == 4 || st == 6 || st == 8
def restState (st : Nat) : Bool := st == 5 || st == 7 || st == 9

/-- Any hold cause of R183. -/
def State.holding (s : State) : Bool :=
  s.on R.CHG_HOLD_TEMP || s.on R.CHG_HOLD_BMSOK || s.on R.CHG_HOLD_SUSPEND || s.on R.CHG_HOLD_RIDE

/-- Whether an on-pulse runs that nothing has ended (R164, R167, R183). -/
def State.pulsing (s : State) : Bool := s.on R.X_PULSE && !s.on R.X_TO_IDLE && !s.on R.X_PULSE_OVER

/-- Whether a rest runs (R167 to R169, R183): a rest state, but for the wait at the end of a completed rest while a hold lasts.
[DESIGN CHOICE: log 104] -/
def State.resting (s : State) : Bool := restState s.chg && !(s.on R.X_CHG_WAIT && s.holding)

/-- The target to which the battery current is brought in the state (R163, R171, R182, R183), 25 mA codes. [DEDUCED: log 35] -/
def State.chgAim (s : State) : Nat :=
  let cap := min s.iCap s.iFb
  if s.holding || s.on R.MODE_STATUS_THERM_ACTIVE then 0
  else if onState s.chg then (if s.pulsing then min (s.get R.CHG_I_PULSE) cap else 0)
  else if s.chg = 3 then s.get R.CHG_I_PRE
  else if s.chg = 0xB ∨ s.chg = 0xC then min (s.get R.CHG_I_SET) cap
  else if s.chg = 0xD then min (s.get R.CHG_LA_I_EQ) cap
  else 0

/-- Whether the scaled and absolute timers count (R184). -/
def timersRun (st : Nat) : Bool := onState st || restState st || st == 0xB

/-- The SYS target of the present role (R197), 10 mV; CONNECT holds its own rising target. -/
def State.sysTarget (s : State) : Nat :=
  match s.get R.PP_STATUS_ROLE with
  | 1 => min (max (s.get R.PP_VSYS_MIN) (s.get R.CHG_V_LIMIT / 10) + 30) 3800
  | 4 => s.get R.PP_SYS_TARGET
  | _ => s.get R.PP_VSYS_MIN

/-- The SYS overvoltage trip level (R153), 10 mV. -/
def State.ovTrip (s : State) : Nat :=
  min 3900 (max (s.get R.CHG_V_LIMIT / 10) (s.get R.PP_SYS_TARGET) + s.get R.CNV_OVP_MARGIN)

/-- The SYS target and the trip level follow (R153, R197). -/
def State.sysFollow (s : State) : State :=
  let s1 := s.set R.PP_SYS_TARGET s.sysTarget
  s1.set R.CNV_SYS_OV_TRIP s1.ovTrip

/-- A value moves toward its target by at most one update's step (R119, R120, R167). -/
def moveCeiling (old want up down : Nat) : Nat :=
  if old < want then min want (old + up) else max want (old - down)

/-- The change of a current that CHG_EDGE_RAMP allows in 1 ms (R119), 25 mA. -/
def State.edgeStep (s : State) : Nat := 40 * s.get R.CHG_EDGE_RAMP

/-- ibat_target moves toward its aim for 1 ms, at CHG_EDGE_RAMP (R167, R182, R183, R185). -/
def State.chgRamp (s : State) : State :=
  s.set R.CHG_I_TARGET (moveCeiling (s.get R.CHG_I_TARGET) s.chgAim s.edgeStep s.edgeStep)

/-- ibat_target is 0 A at once, where the drivers or the pair have stopped (R188, R203, R209). -/
def State.chgDrop (s : State) : State := s.set R.CHG_I_TARGET 0

/-- CHG_V_LIMIT and the status bits that follow from state, holds and temperature (R162, R163, R182). -/
def State.chgTargets (s : State) : State :=
  let s1 := (s.set R.CHG_V_LIMIT s.vLimit).flag R.CHG_STATUS_HOLD s.holding
  let s2 := ((s1.flag R.CHG_STATUS_COLD_BAND (s1.coldScale < 256)).flag R.CHG_STATUS_WARM_BAND s1.warmBand).flag
    R.CHG_STATUS_FOLDBACK (s1.get R.THM_FB_FACTOR < 256)
  (s2.flag R.CHG_STATUS_TIMERS_RUN (timersRun s2.chg)).sysFollow

/-- Whether some foldback is in force: power stage, with a hold of it (R441), or battery temperature (R182, R185). -/
def State.folding (s : State) : Bool :=
  s.get R.THM_FB_FACTOR < 256 || s.on R.THM_STATUS_FB_HOLD || s.coldScale < 256 || s.warmBand

/-! ### States -/

/-- The CHARGE_PULSE record (R190) with its flag byte; `rest` fills bytes 18 to 27. [DEDUCED: log 36] -/
def State.pulseRecord (s : State) (flags : Nat) (rest : Bool) : State :=
  let z := fun v => le 2 (if rest then v else 0)
  s.record 0x11 0x83 (le 1 s.chg ++ le 1 flags ++ le 2 (s.get R.X_ION) ++ z (s.get R.X_VON) ++
    z (s.get R.CHG_R_OHM) ++ z (s.get R.CHG_V_POL) ++ z (s.get R.CHG_RHO) ++ z (s.get R.CHG_I_PULSE) ++
    le 1 (unsigned 8 (clampI (-128) 127 (divZ s.tCold 10))) ++ le 1 (s.get R.CHG_TERM_CNT))

/-- HOLD and FOLDBACK of the flag byte (R190). -/
def State.pulseFlags (s : State) : Nat := (if s.holding then 4 else 0) + (if s.folding then 8 else 0)

/-- Whether a change is between an on state and its own rest state (R190). -/
def ownPair (a b : Nat) : Bool := (onState a && b == a + 1) || (onState b && a == b + 1)

/-- Enter a sequencer state without a record: the timers and marks that the change touches (R163, R177, R184). -/
def State.chgSet (s : State) (st : Nat) : State :=
  let s1 := s.needP3.set R.CHG_STATUS_STATE st
  let s2 := (s1.iff (st != 3) (fun t => t.clear R.X_PRE_S)).iff (st == 0xA) (fun t => t.clear R.X_MAINT_LOW)
  let s3 := s2.iff (!onState st && !restState st) (fun t =>
    (((t.flag R.X_PULSE false).flag R.X_CHG_WAIT false).flag R.X_TO_IDLE false).flag R.X_PULSE_OVER false)
  (s3.iff (st != 0xF) (fun t => t.flag R.X_CHG_PP false)).chgTargets

/-- CHG_REST_V1 to CHG_REST_V3 take the samples of a rest that ends (R170); one that was not taken is 0.
[DESIGN CHOICE: log 111] -/
def State.restStore (s : State) : State := s.each 3 (fun k t => t.set R.CHG_REST_V (t.get R.X_SAMPLE k) k)

/-- A rest that is cut short is invalid (R168). -/
def State.cutRest (s : State) : State :=
  s.iff (restState s.chg && !s.on R.X_CHG_WAIT) (fun t => (t.inc R.CHG_REST_INVALID).restStore)

/-- A state change with its own record (R190), which cuts a rest in progress short. -/
def State.chgTo (s : State) (st : Nat) : State :=
  if s.chg = st then s.chgTargets
  else if ownPair s.chg st then s.chgSet st
  else
    let s1 := s.cutRest.chgSet st
    s1.pulseRecord (16 + s1.pulseFlags) false

/-- Start the on-pulse of an on state, or wait in its rest state while a hold is in force (R167, R183). -/
def State.pulse (s : State) (st : Nat) : State :=
  let s1 := (s.flag R.X_TO_IDLE false).flag R.X_PULSE_OVER false
  if s1.holding then ((s1.flag R.X_CHG_WAIT true).flag R.X_PULSE false).chgSet (st + 1)
  else ((((s1.flag R.X_CHG_WAIT false).flag R.X_PULSE true).flag R.X_REST_RIDE false).set R.X_PULSE_AT s1.now).chgSet st

/-- The first bulk pulse (R171): a quarter of CHG_I_SET, at least CHG_I_TERM. -/
def State.firstPulse (s : State) : State :=
  let s1 := (s.set R.CHG_I_PULSE (max (s.get R.CHG_I_SET / 4) (s.get R.CHG_I_TERM))).pulse 4
  s1.pulseRecord (16 + s1.pulseFlags) false

/-- The safety timers reset (R184). -/
def State.timersReset (s : State) : State := (s.clear R.CHG_TCHG_ACC).clear R.CHG_TABS

/-- The ledger's full mark (R256), over which a host write of the same millisecond stands (R262). -/
def State.eRemFull (s : State) : State :=
  if s.get R.X_EREM_AT = s.now + 1 then s
  else (s.set R.LDG_E_REM (s.get R.LDG_BAT_USABLE)).flag R.LDG_STATUS_EREM_VALID (s.get R.LDG_BAT_USABLE != 0)

/-- Charging terminates or completes: CHG_FULL and the timers (R176, R178), and the ledger's full mark (R256). -/
def State.terminate (s : State) : State := ((s.set R.CHG_FULL 1).timersReset).eRemFull

/-- The restart of R186: timers reset, cause bits cleared, QUALIFY. -/
def State.chgRestart (s : State) : State :=
  let s1 := (((s.timersReset.flag R.CHG_TIMEOUT_CAUSE_SCALED false).flag R.CHG_TIMEOUT_CAUSE_ABSOLUTE false).flag
    R.CHG_TIMEOUT_CAUSE_PRECHARGE false).flag R.CHG_TIMEOUT_CAUSE_FOLDBACK_AT_EXPIRY false
  s1.chgTo 2

/-- Why the sequencer is OFF (R163). -/
def State.chgDisabled (s : State) : Bool := s.chem == 0 || !s.on R.CHG_CTRL_ENABLE || s.on R.X_PROFILE_BAD || s.bit R.BIST_STATUS_SAFE 3

/-- The modes in which the allocator runs (R118). -/
def allocMode (m : Nat) : Bool := (3 ≤ m && m ≤ 8) || m == 0xA

/-- Whether the allocator runs (R118): on the fast clock, in an allocating mode or for a retry run in Yard Poll; never while
Thermal Hold is in force, whatever mode is reported (R50). -/
def State.allocRuns (s : State) : Bool :=
  let m := s.get R.MODE_STATUS_MODE
  s.on R.DEV_CLK_FAST_ON && !s.on R.MODE_STATUS_THERM_ACTIVE && (allocMode m || (m == 2 && s.get R.X_RETRY != 0))

/-- Whether a group can be allocated in the present mode (R164); a retry run leaves the sequencer in IDLE. -/
def State.canAllocate (s : State) : Bool :=
  s.on R.DEV_CLK_FAST_ON && allocMode (s.get R.MODE_STATUS_MODE) &&
    !s.on R.MODE_STATUS_THERM_ACTIVE && (s.get R.MODE_STATUS_MODE != 0xA || s.get R.X_SVC_GROUPS != 0)

/-- A running on-pulse ends before IDLE, with its down-ramp (R164). -/
def State.chgIdle (s : State) : State :=
  if onState s.chg then (s.flag R.X_TO_IDLE true).chgTargets else s.chgTo 1

/-- The end of an on-pulse once ibat_target has reached 0 A (R167 step 3, R164): its rest begins, or IDLE follows. -/
def State.pulseFall (s : State) : State :=
  if onState s.chg && !s.on R.X_PULSE && s.get R.CHG_I_TARGET == 0 then
    if s.on R.X_TO_IDLE then s.chgTo 1 else s.chgSet (s.chg + 1)
  else s

/-- Dead-Battery Start is entered or left (R57, R66): charging goes on from QUALIFY. -/
def State.chgQualify (s : State) : State :=
  if s.chg = 0 ∨ s.chg = 1 ∨ s.chg = 2 ∨ s.chg = 0xF then s.chgTargets else s.chgTo 2

/-- Thermal Hold: IDLE at once (R188). -/
def State.chgStopNow (s : State) : State :=
  (if s.chg = 0 ∨ s.chg = 0xF then s.chgTargets else (s.flag R.X_PULSE false).chgTo 1).chgDrop

/-- Faults and trips of the power path that hold the sequencer in FAULT until they are read (R187). -/
def State.ppLatched (s : State) : Bool :=
  s.on R.PP_FAULT_DSG_OC || s.on R.PP_FAULT_SHORT_CIRCUIT || s.on R.PP_FAULT_BAT_SHORT || s.on R.PP_FAULT_BAT_LOST

/-- EQUALISE ends in FLOAT (R180): at the warm start, which latches EQ_ABORT, and where the Depot input or its mode is gone. -/
def State.equaliseFollow (s : State) : State :=
  if s.chg = 0xD then
    if s.getS R.CHG_T_WARM_START ≤ s.tWarm then (s.chgTo 0xC).latch R.CHG_FAULT_EQ_ABORT
    else if s.hasClass 4 ∧ s.get R.MODE_STATUS_MODE = 6 then s
    else s.chgTo 0xC
  else s

/-- OFF, IDLE and FAULT follow the enables, the mode and the power path (R163, R164, R187). -/
def State.chgFollow (s : State) : State :=
  let st := s.chg
  if s.chgDisabled then
    if st = 0 ∨ (st = 0xF ∧ s.on R.CHG_TIMEOUT_CAUSE_PENDING) then s.chgTargets else s.chgTo 0
  else if st = 0 then s.chgTo 1
  else if st = 1 then s.chgTargets
  else if st = 0xF then
    if s.on R.X_CHG_PP && !s.on R.CHG_TIMEOUT_CAUSE_PENDING && s.get R.PP_STATUS_BAT == 1 && !s.ppLatched then
      s.chgTo 2
    else s.chgTargets
  else if s.canAllocate then s.equaliseFollow.chgTargets
  else s.equaliseFollow.chgIdle

/-- IDLE is left for QUALIFY at an allocator update (R164). -/
def State.leaveIdle (s : State) : State := if s.chg = 1 ∧ !s.chgDisabled ∧ s.canAllocate then s.chgTo 2 else s

/-- The aged condition (R174). -/
def State.agedFollow (s : State) : State :=
  let ref := s.get R.CHG_R_REF
  let t := s.get R.CHG_R_TREND * 256
  let able := ref != 0 && 64 ≤ s.get R.CHG_R_TREND_N
  let aged := able && (decide (ref * s.get R.CHG_AGE_FACTOR < t) ||
    (s.on R.CHG_STATUS_AGED && decide (ref * (s.get R.CHG_AGE_FACTOR - 16) < t)))
  let s1 := s.flag R.CHG_STATUS_AGED aged
  if aged then s1.latchStand R.CHG_FAULT_BAT_AGED else s1.ended R.CHG_FAULT_BAT_AGED

/-- FAULT for the power path (R187): the target falls to 0 A, the timers are held. -/
def State.chgFaultPp (s : State) : State :=
  if s.chg = 0 then s.chgTargets.chgDrop
  else if s.chg = 0xF then s.chgDrop
  else (((s.flag R.X_PULSE false).chgTo 0xF).flag R.X_CHG_PP true).chgDrop

/-- A hold cause begins or ends (R183). A running on-pulse ends for good: its target falls to 0 A through the down-ramp, and
ON_PULSE_END takes its current and voltage; a rest that Ride-Through reaches, and the rest of a pulse that it ends, is invalid
(R168). A release leaves the next on-pulse to the end of a rest. -/
def State.chgHold (s : State) (r : Reg) (b : Bool) : State :=
  let s1 := (s.flag r b).iff (b && r == R.CHG_HOLD_RIDE && (onState s.chg || restState s.chg)) (fun t =>
    t.flag R.X_REST_RIDE true)
  (s1.iff (b && onState s.chg && s.on R.X_PULSE) (fun t => t.flag R.X_PULSE_OVER true)).chgTargets

/-- A safety timer expires (R185, R188): FAULT, the cause bits, TIMEOUT, and the record, which is that of a rest cut short with
what the rest has. -/
def State.chgExpire (s : State) (scaled absolute pre : Bool) : State :=
  let cut := restState s.chg && !s.on R.X_CHG_WAIT
  let s1 := ((((s.flag R.CHG_TIMEOUT_CAUSE_SCALED scaled).flag R.CHG_TIMEOUT_CAUSE_ABSOLUTE absolute).flag
    R.CHG_TIMEOUT_CAUSE_PRECHARGE pre).flag R.CHG_TIMEOUT_CAUSE_FOLDBACK_AT_EXPIRY s.folding).flag
    R.CHG_TIMEOUT_CAUSE_PENDING true
  let s2 := (s1.cutRest.flag R.X_PULSE false).chgSet 0xF
  (s2.pulseRecord (16 + s2.pulseFlags + (if cut then 2 else 0)) cut).latchStand R.CHG_FAULT_TIMEOUT

/-- The first read of TIMEOUT (R186): PENDING clears; a disabled sequencer goes to OFF, AUTORESTART restarts. -/
def State.readTimeout (s : State) : State :=
  if s.on R.CHG_FAULT_TIMEOUT ∧ s.on R.CHG_TIMEOUT_CAUSE_PENDING then
    let s1 := (s.flag R.CHG_TIMEOUT_CAUSE_PENDING false).ended R.CHG_FAULT_TIMEOUT
    if s1.chgDisabled then s1.chgTo 0
    else if s1.on R.CHG_CTRL_AUTORESTART then s1.chgRestart
    else s1
  else s

/-- Whether a charge rest or the end of an on-pulse keeps a sweep waiting (R111): a rest runs, or less than 400 ms of
the on-pulse remain. -/
def State.sweepBlocked (s : State) : Bool :=
  s.resting || (onState s.chg && (!s.pulsing || s.get R.CHG_T_ON * 100 < s.now - s.get R.X_PULSE_AT + 400))

/-- SUP_MIN_SYS keeps the lowest 1 ms mean of SYSS while Ride-Through holds (R421). [DEDUCED: log 119] -/
def State.minSys (s : State) (sys : Nat) : State :=
  if s.on R.SUP_STATUS_RIDE then s.set R.SUP_MIN_SYS (min (s.get R.SUP_MIN_SYS) sys) else s

/-! ### Power path -/

/-- The pair opens (R195, R196). -/
def State.openPair (s : State) : State :=
  ((((s.needP3.set R.PP_STATUS_ROLE 0).flag R.PP_STATUS_PLIM false).set R.PP_LIN_I 0).flag R.PP_STATUS_SUPPL false).sysFollow

/-- The battery state changes (R206); the pair is open unless it is PRESENT. BAT_LOST and BAT_MISSING end when the
state leaves them for PRESENT or another state (R207, R209). -/
def State.setBat (s : State) (b : Nat) : State :=
  let s1 := s.needP3.set R.PP_STATUS_BAT b
  let s2 := (s1.iff (b == 1) (fun t => t.ended R.PP_FAULT_BAT_LOST)).iff (b != 2) (fun t =>
    t.ended R.PP_FAULT_BAT_MISSING)
  let s3 := if b = 1 then s2 else s2.openPair
  s3.cause 0x0D

/-- A failed connection or a trip (R203): lockout at the third consecutive failure, else the retry wait. [DEDUCED: log 38] -/
def State.ppFailure (s : State) (counts : Bool) : State :=
  let s1 := s.set R.X_FAILS (min (s.get R.X_FAILS + counts.toNat) 3)
  if 3 ≤ s1.get R.X_FAILS then ((s1.flag R.X_LOCKOUT true).flag R.PP_STATUS_RETRY_WAIT false).latchStand R.PP_FAULT_LOCKOUT
  else s1.flag R.PP_STATUS_RETRY_WAIT true

/-- A discharge trip (R203): the latch, the count, the pair open, the sequencer in FAULT, the retry wait. -/
def State.ppTrip (s : State) (r : Reg) : State :=
  let again := s.on R.X_TRIPPED && s.now - s.get R.X_TRIP_AT ≤ 60000
  let s1 := (((s.latch r).inc R.PP_TRIP_CNT).openPair).chgFaultPp
  ((s1.flag R.X_TRIPPED true).set R.X_TRIP_AT s1.now).ppFailure again

/-- A probe finds no battery (R207, R209): MISSING with its latch; LOST stays LOST. -/
def State.batteryMissing (s : State) : State :=
  if s.get R.PP_STATUS_BAT = 3 ∨ s.get R.PP_STATUS_BAT = 2 then s.openPair
  else (s.setBat 2).latchStand R.PP_FAULT_BAT_MISSING

/-- Lockout ends and the count restarts (R203). -/
def State.endLockout (s : State) : State :=
  if s.on R.X_LOCKOUT then ((s.flag R.X_LOCKOUT false).clear R.X_FAILS).ended R.PP_FAULT_LOCKOUT else s

/-- The read of BAT_SHORT (R208): its condition ends, and a SHORTED battery is UNKNOWN again and is probed. -/
def State.readBatShort (s : State) : State :=
  if s.on R.PP_FAULT_BAT_SHORT then
    (s.ended R.PP_FAULT_BAT_SHORT).iff (s.get R.PP_STATUS_BAT == 4) (fun t => t.setBat 0)
  else s

/-- A battery removed while charging (R209 step 2): BAT_LOST latches, the pair is open, the sequencer is in FAULT. -/
def State.batteryLost (s : State) : State := ((s.latchStand R.PP_FAULT_BAT_LOST).setBat 3).chgFaultPp

/-- The undervoltage inhibit ends (R204). -/
def State.endUvInhibit (s : State) : State := (s.flag R.PP_STATUS_UV_INHIBIT false).ended R.PP_FAULT_BAT_UV

end Sys2Proof.Machine
end

