-- ==== Sys2Proof/Machine/Meter.lean ====
section
/-! DEFINITION. Operations of the measurement front end and the ledger that several commands share (R248 to R261). -/

namespace Sys2Proof.Machine

/-- i_cc in 25 mA codes from a raw result (R249): one count is 250 mV / 2^18 over PP_SHUNT. -/
def State.iCc (s : State) (raw : Int) : Int :=
  divZ ((raw - s.getS R.MEAS_CC_OFS) * 10000000) (262144 * (max (s.get R.PP_SHUNT) 1 : Nat))

/-- A current in 25 mA codes as counts (R249, R250). -/
def State.ccCounts (s : State) (amps : Int) : Int := divZ (amps * (s.get R.PP_SHUNT : Int) * 262144) 10000000

/-- An offset sample of a zero window (R250): the first since POR sets the offset, a later one within MEAS_CC_REJECT
moves it by an eighth, any other is counted as rejected. -/
def State.zeroWindow (s : State) (raw amps : Int) : State :=
  let v := raw - s.ccCounts amps
  let ofs := s.getS R.MEAS_CC_OFS
  let take := fun (x : Int) =>
    ((((s.setS R.MEAS_CC_OFS (satS16 x)).flag R.MEAS_STATUS_OFS_VALID true).inc R.MEAS_CC_OFS_CNT).set R.X_OFS_AT
      s.now).ended R.MEAS_FAULT_OFS_STALE
  if !s.on R.MEAS_STATUS_OFS_VALID then take v
  else if (v - ofs).natAbs ≤ s.get R.MEAS_CC_REJECT then take (ofs + divZ (v - ofs) 8)
  else s.inc R.MEAS_CC_OFS_REJ

/-- OFS_STALE latches 168 h after the last accepted sample (R251). -/
def State.staleCheck (s : State) : State :=
  if s.on R.MEAS_STATUS_OFS_VALID && 168 * 3600000 ≤ s.now - s.get R.X_OFS_AT then s.latchStand R.MEAS_FAULT_OFS_STALE
  else s

/-- LDG_P_SLEEP (R255), 0.1 mW. -/
def State.pSleep (s : State) : Nat := s.get R.LDG_SLEEP_DEV + s.get R.X_KA_POWER 0 + s.get R.X_KA_POWER 1

/-- p_yard of R257, 0.1 mW, for an interval of `t` 10 s codes. -/
def State.pYard (s : State) (t : Nat) : Nat := s.pSleep + s.get R.LDG_E_POLL * 36 / (max t 1 * 10)

/-- The survival horizon of R257, hours; 0xFFFF while EREM_VALID is clear. -/
def State.horizon (s : State) : Nat :=
  if s.on R.LDG_STATUS_EREM_VALID then
    min (s.get R.LDG_E_REM * 10 / max (s.pYard (s.get R.LDG_POLL_INTERVAL)) 1) 0xFFFE
  else 0xFFFF

/-- LDG_P_SLEEP, LDG_P_YARD, LDG_HORIZON and the interval's bounds follow (R255 to R258, R264); EREM_VALID clears while
LDG_BAT_USABLE is 0 (R256). -/
def State.ledgerFollow (s : State) : State :=
  let s0 := s.iff (s.get R.LDG_BAT_USABLE == 0) (fun t => t.flag R.LDG_STATUS_EREM_VALID false)
  let t := s0.get R.LDG_POLL_INTERVAL
  let s1 := ((s0.set R.LDG_P_SLEEP (min s0.pSleep 65535)).set R.LDG_P_YARD (min (s0.pYard t) 65535)).set R.LDG_HORIZON
    s0.horizon
  (s1.flag R.LDG_STATUS_AT_MIN (t == s1.get R.LDG_POLL_MIN)).flag R.LDG_STATUS_AT_MAX (t == s1.get R.LDG_POLL_MAX)

/-- The next yard poll interval (R258), 10 s codes. -/
def State.nextInterval (s : State) : Nat :=
  let old := s.get R.LDG_POLL_INTERVAL
  let lo := s.get R.LDG_POLL_MIN
  let hi := s.get R.LDG_POLL_MAX
  let pMax := s.get R.LDG_E_REM * 10 / (max (s.get R.LDG_TARGET_DAYS) 1 * 24)
  let want := if !s.on R.LDG_CTRL then lo
    else if !s.on R.LDG_STATUS_EREM_VALID || pMax ≤ s.pSleep then hi
    else s.get R.LDG_E_POLL * 36 / ((pMax - s.pSleep) * 10)
  max (old / 2) (min (old * 2) (max lo (min hi want)))

/-- The update of R258 with the judgement of R259. -/
def State.intervalUpdate (s : State) : State :=
  let s1 := (s.set R.LDG_POLL_INTERVAL s.nextInterval).ledgerFollow
  let far := s1.get R.LDG_TARGET_DAYS * 24 ≤ s1.get R.LDG_HORIZON
  if far then (s1.flag R.LDG_STATUS_SHORT false).ended R.MEAS_FAULT_HORIZON_SHORT
  else if s1.on R.LDG_STATUS_AT_MAX then
    ((s1.flag R.LDG_STATUS_SHORT true).stand R.MEAS_FAULT_HORIZON_SHORT).latchFrom 0x87 R.MEAS_FAULT_HORIZON_SHORT
  else s1

/-- One part of a snapshot (R261). -/
def State.snapPart (s : State) (p trigger : Nat) : List Byte :=
  let e := fun k => le 4 (s.get R.LDG_COUNTERk k % 2 ^ 32)
  let head := le 1 p ++ le 1 (s.get R.LDG_SNAP_SEQ)
  if p < 4 then head ++ e (3 * p) ++ e (3 * p + 1) ++ e (3 * p + 2) ++ le 1 trigger ++ le 1 0
  else head ++ le 4 (s.get R.LDG_E_REM) ++ le 2 (s.get R.LDG_HORIZON) ++ le 2 (s.get R.LDG_POLL_INTERVAL) ++
    le 2 (s.get R.LDG_P_YARD) ++ le 2 (s.get R.MEAS_CC_OFS) ++ le 1 trigger ++ le 1 (s.rawWord 0x0820)


/-! ### Counters and remaining energy -/

/-- Add energy in 0.1 mW ms to counter `k` (R253): 36 000 000 carry into the 48-bit counter, the remainder stays.
[DEDUCED: log 47] -/
def State.ledgerAdd (s : State) (k e : Nat) : State :=
  let t := s.get R.X_LDG_ACC k + e
  (s.set R.LDG_COUNTERk (s.get R.LDG_COUNTERk k + t / 36000000) k).set R.X_LDG_ACC (t % 36000000) k

/-- The remaining energy gains battery-in energy × EFF / 256 and loses battery-out energy, within 0 to the usable
energy (R256); both in 0.1 mW ms. -/
def State.eRemMove (s : State) (gain loss : Nat) : State :=
  let unit := 36000000 * 256
  let t := s.get R.LDG_E_REM * unit + s.get R.X_EREM_ACC + gain * s.get R.LDG_BAT_EFF - loss * 256
  let t' := min t (s.get R.LDG_BAT_USABLE * unit)
  (s.set R.LDG_E_REM (t' / unit)).set R.X_EREM_ACC (t' % unit)

/-- Battery energy of a millisecond (R256), which the yard wake in progress counts too (R257). [DEDUCED: log 47] -/
def State.ledgerBat (s : State) (gain loss : Nat) : State :=
  ((s.eRemMove gain loss).add R.X_WAKE_IN gain).add R.X_WAKE_OUT loss

/-- The energy of a sleep of `dt` ms (R255). -/
def State.creditSleep (s : State) (dt : Nat) : State :=
  let own := s.get R.LDG_SLEEP_DEV * dt
  let a := s.get R.X_KA_POWER 0 * dt
  let b := s.get R.X_KA_POWER 1 * dt
  let s1 := (((s.ledgerAdd 11 own).ledgerAdd 9 a).ledgerAdd 10 b).ledgerAdd 5 (own + a + b)
  s1.eRemMove 0 (own + a + b)

/-- The sleep credit of R255, before any other ledger work: the time since the last credit, none where the reference check fails
(R248). -/
def State.sleepCredit (s : State) : State :=
  if s.on R.X_SLEEPING then
    (s.iff (!s.on R.X_REF_FAIL) (fun t => t.creditSleep (t.now - t.get R.X_SLEEP_AT))).set R.X_SLEEP_AT s.now
  else s

/-- A ledger snapshot (R260, R261): the count first, then five records in part order. -/
def State.snapshot (s : State) (trigger : Nat) : State :=
  let s0 := s.sleepCredit.ledgerFollow
  let s1 := s0.set R.LDG_SNAP_SEQ (s0.get R.LDG_SNAP_SEQ + 1)
  s1.each 5 (fun p t => t.record 0x12 0x87 (s1.snapPart p trigger))

/-- A yard wake begins (R257). -/
def State.wakeBegin (s : State) : State :=
  ((s.sleepCredit.set R.X_WAKE_OUT 0).set R.X_WAKE_IN 0).flag R.X_WAKE_OK true

/-- A yard wake ends in Yard Sleep (R257): LDG_E_POLL takes an eighth of the difference, or the first value directly; a
negative net energy counts as 0. -/
def State.wakeEnd (s : State) : State :=
  if s.on R.X_WAKE_OK then
    let e := (s.get R.X_WAKE_OUT - s.get R.X_WAKE_IN) / 36000
    let old := s.get R.LDG_E_POLL
    let v := if s.on R.X_POLL_EVER then ((old : Int) + ((e : Int) - old) / 8).toNat else e
    ((s.set R.LDG_E_POLL (min v 65535)).flag R.X_POLL_EVER true).flag R.X_WAKE_OK false
  else s

/-- The reference check of R248 fails or recovers: charging is held as under the TEMP hold while it fails. -/
def State.refFail (s : State) (bad : Bool) : State :=
  let s1 := s.flag R.X_REF_FAIL bad
  if bad then (s1.chgHold R.CHG_HOLD_TEMP true).latchStand R.MEAS_FAULT_REF_FAIL
  else (s1.chgHold R.CHG_HOLD_TEMP (s1.on R.X_TEMP_FORBID)).ended R.MEAS_FAULT_REF_FAIL

/-- The effect of LDG_CMD.CLEAR_COUNTERS (R264). -/
def State.clearCounters (s : State) : State := s.each 12 (fun k t => (t.set R.LDG_COUNTERk 0 k).set R.X_LDG_ACC 0 k)

/-- The effect of a write of the high word of LDG_E_REM (R256, R264). -/
def State.eRemWrite (s : State) (v : Nat) : State :=
  if v ≤ s.get R.LDG_BAT_USABLE then
    ((((s.set R.LDG_E_REM v).set R.X_EREM_ACC 0).flag R.LDG_STATUS_EREM_VALID true).set R.X_EREM_AT (s.now + 1)).ledgerFollow
  else s

/-- The effect of a write of the high word of DEV_EPOCH (R44). -/
def State.epochWrite (s : State) (v : Nat) : State := (s.set R.DEV_EPOCH v).flag R.DEV_CLK_EPOCH_SET true

end Sys2Proof.Machine
end

