-- ==== Sys2Proof/Machine/Supply.lean ====
section
/-! DEFINITION. Operations of VAUX, VPRE, the host rails and the line ports that several commands share (R37, R46,
R214 to R246, R265 to R267). Rail 0 is Rail A, rail 1 Rail B; port 0 is LINEA, port 1 LINEB. -/

namespace Sys2Proof.Machine

/-! ### Line ports -/

/-- The state of a line port (R295). -/
def State.portState (s : State) (p : Nat) : Nat :=
  if p = 0 then s.get R.LINE_STATUS_A_STATE else s.get R.LINE_STATUS_B_STATE

/-- Set the state of a line port. -/
def State.setPort (s : State) (p st : Nat) : State :=
  if p = 0 then s.set R.LINE_STATUS_A_STATE st else s.set R.LINE_STATUS_B_STATE st

/-- A port's enable, keep-alive enable, host-off bit and line voltage (R290, R293). -/
def State.portEn (s : State) (p : Nat) : Bool := if p = 0 then s.on R.LINE_CTRL_A_EN else s.on R.LINE_CTRL_B_EN
def State.portKa (s : State) (p : Nat) : Bool := if p = 0 then s.on R.LINE_CTRL_A_KA_EN else s.on R.LINE_CTRL_B_KA_EN
def State.hostOff (s : State) (p : Nat) : Bool :=
  if p = 0 then s.on R.LINE_STATUS_A_HOST_OFF else s.on R.LINE_STATUS_B_HOST_OFF

/-- Whether a port is above keep-alive: RISING, ENUMERATING or ACTIVE (R295). -/
def State.portHigh (s : State) (p : Nat) : Bool := 2 ≤ s.portState p && s.portState p ≤ 4

/-- The modes that use node periods (R66). -/
def nodeMode (m : Nat) : Bool := (4 ≤ m && m ≤ 7) || m == 0xA

/-- Whether the mode wants a port at full power (R66, R285): node periods, or the port's yard poll. -/
def State.portWanted (s : State) (p : Nat) : Bool :=
  let m := s.get R.MODE_STATUS_MODE
  s.portEn p && !s.hostOff p && s.portState p != 6 && s.portState p != 5 && !s.on R.MODE_STATUS_THERM_ACTIVE &&
    m != 0xB && m != 0 && !s.on R.X_SHIP_OFF && !(s.on R.X_CUTOFF && !s.railOn 0 && !s.railOn 1) &&
      !s.bit R.BIST_STATUS_SAFE 5 && (nodeMode m || s.bit R.X_POLL p)

/-- The nodes of a port are powered on: none holds a SEQ, so the next POLL or CONFIG to each slot carries SEQ = 0 (R275). -/
def State.seqRestart0 (s : State) (p : Nat) : State :=
  s.each 64 (fun n t => if t.get R.LINE_SLOTs_STAT_PORT n = p then t.set R.X_SLOT_SEQ 0 n else t)

/-- A port's transition to RISING (R267): from OFF a boot wait and an enumeration run with START = 1 follow. -/
def State.portRise (s : State) (p : Nat) : State :=
  let off := s.portState p == 0 || s.portState p == 5
  let s1 := (((s.abortSlice 0x20).setPort p 2).flag R.X_LINE_BOOT off p).flag R.X_LINE_UP false p
  if off then (s1.set R.X_ENUM 2 p).seqRestart0 p else s1

/-- Ports rise while VAUX is in regulation (R267). -/
def State.portsFollow (s : State) : State :=
  if s.on R.AUX_STATUS_VAUX_REG then
    s.each 2 (fun p t => if t.portWanted p && t.portState p ≤ 1 then t.portRise p else t)
  else s

/-- A cycle that waited on a port no longer does; DEFER stays for the other port's alone (R46, R293). -/
def State.dropLate (s : State) (p : Nat) : State :=
  (s.flag R.X_LINE_LATE false p).flag R.LINE_STATUS_DEFER (s.on R.LINE_STATUS_DEFER && s.on R.X_LINE_LATE (1 - p))

/-- The work of a port is abandoned: no frame, no cycle, no run. A run with START = 1 that is due or in progress is due again, one
with START = 0 is not, since the port is no longer ACTIVE (R46, R281, R292). -/
def State.lineIdle (s : State) (p : Nat) : State :=
  let s1 := s.set R.X_ENUM (if s.get R.X_RUN p = 2 ∨ s.get R.X_ENUM p = 2 then 2 else 0) p
  ((((s1.set R.X_LINE_LEFT 0 p).set R.X_FRAME 0 p).set R.X_TRY 0 p).set R.X_RUN 0 p).dropLate p

/-- A port falls to 0 V with a state code: its nodes are unpowered (R267, R288). Its keep-alive draws nothing from here, and what it
drew in the sleep so far is credited (R255). -/
def State.portDown (s : State) (p code : Nat) : State :=
  (((((s.sleepCredit.abortSlice 0x20).lineIdle p).setPort p code).flag R.X_LINE_UP false p).set R.X_ENUM 0 p).set R.X_KA_POWER 0 p

/-- A port goes to OFF (R267); a LATCHED one stays LATCHED (R288). -/
def State.portOff (s : State) (p : Nat) : State := s.portDown p (if s.portState p = 6 then 6 else 0)

/-- Both ports drop to keep-alive (R46): a run in progress is due again. -/
def State.portsDrop (s : State) : State :=
  s.each 2 (fun p t =>
    if t.portHigh p then ((t.lineIdle p).setPort p 1).flag R.X_LINE_UP false p else t)

/-! ### VAUX -/

/-- Whether VAUX is requested (R218). [DEDUCED: log 41] -/
def State.vauxWanted (s : State) : Bool :=
  (List.range 4).any (fun g => (s.gstate g != 0 && s.gstate g != 6) || (s.gstate g == 0 && s.get R.TRKn_ALLOC g != 0)) ||
    (List.range 4).any (fun i => s.instate i == 4 || s.instate i == 5) ||
    (List.range 2).any (fun p => s.portHigh p || s.portWanted p) || s.on R.MODE_STATUS_RAIL_DEMAND ||
    (s.on R.AUX_STATUS_VPRE_ON && 20 < s.get R.AUX_PRE_I) || s.on R.AUX_CTRL_VAUX_KEEP

/-- VAUX starts on the first request with SYSS at 9.00 V or more (R202, R218), never in Thermal Hold, in Safe State or
while it waits after a failure, nor where the device is held in reset (R447) or P4 in its safe state (R454).
[DEDUCED: log 11] -/
def State.startVaux (s : State) : State :=
  if s.vauxWanted && !s.on R.AUX_STATUS_VAUX_ON && 900 ≤ s.get R.X_SYSS && !s.on R.MODE_STATUS_THERM_ACTIVE &&
      s.get R.MODE_STATUS_MODE != 0xB && !s.on R.X_VAUX_WAIT && !s.on R.X_HELD && !s.bit R.BIST_STATUS_SAFE 4 then
    (s.abortSlice 0x10).flag R.AUX_STATUS_VAUX_ON true
  else s

/-- VAUX leaves regulation (R217): the ports drop (R46), probes are abandoned (R80), VPRE moves to its hold drive. -/
def State.vauxOutOfReg (s : State) : State :=
  if s.on R.AUX_STATUS_VAUX_REG then
    let s1 := (s.flag R.AUX_STATUS_VAUX_REG false).flag R.AUX_STATUS_VPRE_HOLD_DRV (s.on R.AUX_STATUS_VPRE_ON)
    s1.portsDrop.abandonProbes
  else s

/-- VAUX stops (R218, R233), which a slice on P4 gives way to (R451). -/
def State.stopVaux (s : State) : State :=
  (((((s.abortSlice 0x10).vauxOutOfReg).flag R.AUX_STATUS_VAUX_ON false).flag R.AUX_STATUS_VAUX_ILIM false).set
    R.AUX_VAUX_V 0).set R.AUX_VAUX_I 0

/-- V_aux_set (R216): 12.00 V, or the highest line voltage above 11.50 V of a port above keep-alive + 0.50 V. -/
def State.vauxSet (s : State) : Nat :=
  (List.range 2).foldl (fun v p =>
    if s.portHigh p ∧ 115 < s.get R.LINE_x_V p then max v (min (s.get R.LINE_x_V p * 10 + 50) 1550) else v) 1200

/-- The setpoint of VAUX moves toward V_aux_set by 1 V in the 1 ms of an update (R216). -/
def State.vauxMove (s : State) : State :=
  let v := s.get R.AUX_VAUX_SET
  s.set R.AUX_VAUX_SET (if s.bit R.BIST_STATUS_SAFE 4 then v
    else if v < s.vauxSet then min s.vauxSet (v + 100) else max s.vauxSet (v - 100))

/-! ### VPRE and the journal die -/

/-- The failure count of VPRE restarts after 100 ms in regulation (R230, R232). -/
def State.vpreGood (s : State) : State :=
  s.iff (s.get R.X_VPRE == 3 && decide (100 ≤ s.now - s.get R.X_VPRE_AT)) (fun t => t.clear R.X_VPRE_FAILS)

/-- VPRE stops switching, with the given new state code (R229, R232); a latched one stays latched where it is to be off. A slice
on P4 gives way (R451). [DEDUCED: log 41] -/
def State.stopVpre (s : State) (code : Nat) : State :=
  let s1 := (s.abortSlice 0x10).vpreGood
  (((((s1.set R.X_VPRE (if code = 0 ∧ s.get R.X_VPRE = 6 then 6 else code)).flag R.AUX_STATUS_VPRE_ON false).flag
    R.AUX_STATUS_VPRE_REG false).flag R.AUX_STATUS_VPRE_HOLD_DRV false).set R.AUX_PRE_V 0).dieFollow

/-! ### Rails -/

/-- Millivolts of a VID code (R223). -/
def vidMv (x code : Nat) : Nat := if x = 0 then 500 + 5 * code else 1200 + 10 * code

/-- The top code of a rail (R223). -/
def vidTop (x : Nat) : Nat := if x = 0 then 200 else 240

/-- The nearest code of a voltage, clamped to the codes of R223 (R238). -/
def vidCode (x mv : Nat) : Nat :=
  if x = 0 then min ((mv - 500 + 2) / 5) 200 else min ((mv - 1200 + 5) / 10) 240

/-- VALT follows the alerts pending (R239); ALERT is the rail's own bit. -/
def State.valtFollow (s : State) : State :=
  let s1 := s.each 2 (fun x t => t.flag R.RAIL_x_STAT_ALERT (t.get R.X_RAIL_ALERTS x != 0) x)
  s1.flag R.RCL_STATUS (s1.on R.RCL_CTRL_VALT_EN && (s1.get R.X_RAIL_ALERTS 0 != 0 || s1.get R.X_RAIL_ALERTS 1 != 0))

/-- Once the rails are off in the cut-off sequence, the ports switch fully off (R205 step 2). -/
def State.cutoffPorts (s : State) : State :=
  if s.on R.X_CUTOFF ∧ !s.railOn 0 ∧ !s.railOn 1 then s.each 2 (fun p t => t.portOff p) else s

/-- A rail stops all its switches (R229 step 3): OFF, or HICCUP or LATCHED by its code. A slew that a failure cut short is
remembered through the hiccup alone (R242). -/
def State.railStop (s : State) (x code : Nat) : State :=
  let s1 := ((((s.set R.RAIL_x_STAT_STATE code x).flag R.RAIL_x_STAT_SLEWING false x).flag R.RAIL_x_STAT_SETTLED false
    x).flag R.RAIL_x_STAT_BURST false x).flag R.RAIL_x_STAT_DE false x
  let s2 := (((((s1.flag R.X_RAIL_OFFDLY false x).flag R.X_RAIL_PEND false x).set R.RAIL_x_V 0 x).set R.RAIL_x_I 0 x).set
    R.RAIL_x_PIN 0 x).set R.RAIL_x_POUT 0 x
  ((s2.iff (code != 6) (fun t => t.flag R.X_RAIL_KEEP false x)).dieFollow).cutoffPorts

/-- A rail begins its soft start (R228 step 5), in diode emulation, its reference moving: the target is INIT unless KEEP_VID, or
the newest one after a failure in a slew (R242). The token and the lead phase of Rail A restart at LXA1 (R226).
[DEDUCED: log 42] -/
def State.railSoft (s : State) (x : Nat) : State :=
  let s1 := if s.on R.RAIL_x_CFG_KEEP_VID x || s.on R.X_RAIL_KEEP x then s
    else s.set R.RAIL_x_TARGET (s.get R.RAIL_x_VID_INIT x) x
  let s2 := ((((s1.set R.RAIL_x_STAT_STATE 2 x).flag R.RAIL_x_STAT_SETTLED false x).flag R.RAIL_x_STAT_SLEWING true x).flag
    R.X_RAIL_OFFDLY false x).flag R.RAIL_x_STAT_BURST false x
  (s2.flag R.RAIL_x_STAT_DE true x).iff (x == 0) (fun t => ((t.set R.X_TOKEN 0).set R.X_LEAD 0).set R.X_FIRED 0)

/-- A rail's turn-on from the host rail demand (R227, R228 step 4): PS_INIT and SLEW_INIT, then its on-delay; a state
named by a SET_STATE before starts it at step 5 (R504). -/
def State.railTurnOn (s : State) (x : Nat) : State :=
  let s1 := (s.set R.RAIL_x_SLEW (s.get R.RAIL_x_CFG_SLEW_INIT x) x).set R.RAIL_x_STAT_FAILS 0 x
  let named := s.get R.X_RAIL_NAMED x
  if 4 ≤ named then ((s1.set R.RAIL_x_STAT_PS (named - 4) x).clear R.X_RAIL_NAMED x).railSoft x
  else
    let s2 := s1.set R.RAIL_x_STAT_PS (s.get R.RAIL_x_CFG_PS_INIT x) x
    if s.get R.RAIL_x_CFG_PS_INIT x = 3 then s2.flag R.X_RAIL_PS3 true x
    else (s2.set R.RAIL_x_STAT_STATE 1 x).flag R.X_RAIL_PS3 false x

/-- Rails start once VPRE is in regulation and the demand is true (R228 step 4): those that are OFF and not turned off
by a SET_STATE to PS3. -/
def State.railsGo (s : State) : State :=
  if s.on R.AUX_STATUS_VPRE_REG && s.on R.MODE_STATUS_RAIL_DEMAND && !s.bit R.BIST_STATUS_SAFE 4 then
    (s.abortSlice 0x10).each 2 (fun x t => if t.railState x = 0 ∧ (!t.on R.X_RAIL_PS3 x ∨ 4 ≤ t.get R.X_RAIL_NAMED x) then
        t.railTurnOn x
      else t)
  else s

/-- PS_INIT and SLEW_INIT at a turn-on from the host rail demand (R227, R244). -/
def State.railInit (s : State) (x : Nat) : State :=
  (s.set R.RAIL_x_STAT_PS (s.get R.RAIL_x_CFG_PS_INIT x) x).set R.RAIL_x_SLEW (s.get R.RAIL_x_CFG_SLEW_INIT x) x

/-- The host rail demand becomes true (R56, R228, R231): VAUX, then VPRE, then the rails; a running off-delay is
cancelled, a ramp-down reverses unless PS_INIT is PS3, a rail that failed while it ramped down waits on, to restart in PS_INIT,
and a latched rail restarts. -/
def State.demandOn (s : State) : State :=
  let s1 := s.each 2 (fun x t =>
    let u := (t.flag R.X_RAIL_PS3 false x).flag R.X_RAIL_OFFDLY false x
    let off := u.get R.RAIL_x_CFG_PS_INIT x == 3
    if u.railState x = 5 then (if off then u.flag R.X_RAIL_PS3 true x else (u.railInit x).railSoft x)
    else if u.railState x = 6 then
      (if off then ((u.flag R.X_RAIL_PS3 true x).railStop x 0).set R.RAIL_x_STAT_FAILS 0 x else u.railInit x)
    else if u.railState x = 7 then (u.set R.RAIL_x_STAT_STATE 0 x).set R.RAIL_x_STAT_FAILS 0 x
    else u)
  s1.startVaux.startVpre.railsGo

/-- A rail ramps down, in diode emulation, its reference moving (R229 step 2, R244). -/
def State.railDown (s : State) (x : Nat) : State :=
  let s1 := ((((s.set R.RAIL_x_STAT_STATE 5 x).flag R.RAIL_x_STAT_SLEWING true x).flag R.RAIL_x_STAT_SETTLED false x).flag
    R.X_RAIL_OFFDLY false x).flag R.X_RAIL_PEND false x
  (s1.flag R.RAIL_x_STAT_BURST false x).flag R.RAIL_x_STAT_DE true x

/-- The host rail demand becomes false (R229 step 1): the off-delays run; a rail that has not begun is OFF. -/
def State.demandOff (s : State) : State :=
  s.each 2 (fun x t =>
    let u := t.clear R.X_RAIL_NAMED x
    match u.railState x with
    | 1 => u.railStop x 0
    | 6 => (u.railStop x 0).set R.RAIL_x_STAT_FAILS 0 x
    | 2 | 3 | 4 => u.flag R.X_RAIL_OFFDLY true x
    | _ => u)

/-- A SET_STATE to PS3 accepted (R229, R504). -/
def State.railPs3 (s : State) (x : Nat) : State :=
  let u := ((s.set R.RAIL_x_STAT_PS 3 x).flag R.X_RAIL_PS3 true x).clear R.X_RAIL_NAMED x
  match s.railState x with
  | 1 => u.railStop x 0
  | 2 | 3 | 4 => u.railDown x
  | 5 => u
  | 6 => (u.railStop x 0).set R.RAIL_x_STAT_FAILS 0 x
  | _ => s

/-- The rails stop at once, without a ramp (R229: thermal shutdown and Safe State). -/
def State.railsKill (s : State) : State :=
  s.each 2 (fun x t => if t.railOn x then (t.clear R.X_RAIL_NAMED x).railStop x 0 else t)

/-- An input that becomes present cancels the cut-off sequence, and the rails return, with them the ports (R205). -/
def State.cancelCutoff (s : State) : State :=
  if s.on R.X_CUTOFF then
    ((s.flag R.X_CUTOFF false).iff (s.on R.MODE_STATUS_RAIL_DEMAND) State.demandOn).portsFollow
  else s

end Sys2Proof.Machine
end

