-- ==== Sys2Proof/Machine/Inputs.lean ====
section
/-! DEFINITION. Inputs and source classification (R72 to R105): the meanings of the commands of chapter 03. -/

namespace Sys2Proof.Machine

/-- What every meaning answers. -/
abbrev Out := Host.Outcome State Fault Refusal

/-- INPUT_COMPARATOR_TRIP (R64, R77): INSn rises above 6 V. The fast clock is requested, the presence debounce starts,
and a reverse polarity has ended (R94: INSn is above −1.0 V). In Ship and in the cut-off rest SHIP_EXIT is the event.
[DEDUCED: log 11] -/
def execInputComparatorTrip (i : Fin 4) (s : State) : Out :=
  .next (if s.asleepDeep || s.on R.X_HELD || s.present i then s else
    let s1 := ((s.wake R.MODE_WAKE_SRC_INPUT).flag R.X_DEBOUNCE true i).ended R.IN_FAULT_REV_POL i
    if s1.instate i = 0 then s1.setInstate i 1 else s1)

/-- PRESENCE_DEBOUNCE_ABORT (R77): INSn falls back before 164 ticks; DEBOUNCE returns to ABSENT. -/
def execPresenceDebounceAbort (i : Fin 4) (s : State) : Out :=
  .next (if s.on R.X_DEBOUNCE i then
    let s1 := s.flag R.X_DEBOUNCE false i
    if s1.instate i = 1 then s1.setInstate i 0 else s1
  else s)

/-- INPUT_PRESENT (R77, R80, R93): the debounce ends with `vbus` on VBUSn. A HELD input begins its readmission, one in
WATCH is watched on with its gates driven, a disabled one stays DISABLED, any other settles for classification.
A Ship entry is cancelled (R61), lockout ends (R203), a cut-off sequence is cancelled (R205), VSU is enabled (R201). -/
def execInputPresent (i : Fin 4) (vbus : Nat) (s : State) : Out :=
  .next (if s.on R.X_DEBOUNCE i then
    let s1 := (((s.flag R.X_DEBOUNCE false i).setBit R.IN_STATUS_PRESENT i true).set R.X_VBUS vbus i).endTrip i 0
    let s2 := (s1.cancelShip.flag R.PP_STATUS_VSU_ON true).cancelCutoff
    let s3 := s2.iff (s2.on R.X_LOCKOUT) (fun t => (t.flag R.X_LOCKOUT false).clear R.X_FAILS)
    let s4 := s3.ended R.PP_FAULT_LOCKOUT
    match s4.instate i with
    | 8 => (s4.flag R.X_READMIT true i).flag R.X_DECODED false i
    | 6 => s4.gates i true
    | 10 => s4
    | _ => s4.restartClass i
  else s)

/-- INPUT_PRESENCE_LOST (R76, R78, R81, R92, R94, R99, R112, R204): the gates go low, the group stops at once, a FET fault ends; the absence
runs from now, but for an overvoltage, whose episode is the absence already. A class with a hold is HELD, one without is
dropped; SETTLE to PROBE start over from ABSENT; a watch goes on and counts a dropout. -/
def execInputPresenceLost (i : Fin 4) (s : State) : Out :=
  .next (if s.present i then
    let s0 := (s.setBit R.IN_STATUS_PRESENT i false).iff (s.get R.IN_STATUS_PRESENT == 2 ^ i.val) State.endUvInhibit
    let s1 := ((s0.gates i false).setBit R.IN_STATUS_TS_RELEASED i false).abortSweep i
    let s2 := (((s1.setBit R.X_TRIP 2 false i).tripGroup i 0).ended R.IN_FAULT_CLASS i).flag R.X_READMIT false i
    let s3 := (s2.flag R.X_RETAKE false i).iff (s2.instate i != 10) (fun t => t.set R.X_ABSENT_AT (t.get R.X_TICKS) i)
    let s4 := s3.iff (s3.on R.X_FETBAD i) (fun t => (t.flag R.X_FETBAD false i).ended R.IN_FAULT_FET i)
    match s4.instate i with
    | 6 => s4.inc R.X_WDROPS i
    | 7 => (s4.holdOrDrop i).equaliseFollow
    | 8 => s4
    | 9 => s4
    | 10 => if s3.on R.X_FETBAD i && !s4.on R.X_OV i then s4.setInstate i 0 else s4
    | _ => s4.setInstate i 0
  else if s.on R.X_DEBOUNCE i then
    ((s.flag R.X_DEBOUNCE false i).iff (s.instate i == 1) (fun t => t.setInstate i 0)).iff (s.instate i == 6)
      (fun t => t.inc R.X_WDROPS i)
  else s)

/-- The ID band of a ratio k, in thousandths (R82); `none` outside every window. [DEDUCED: log 10] -/
def bandOf (k : Nat) : Option Nat :=
  if k < 45 then some 0
  else if 60 ≤ k ∧ k ≤ 125 then some 1
  else if 160 ≤ k ∧ k ≤ 245 then some 2
  else if 290 ≤ k ∧ k ≤ 380 then some 3
  else if 455 ≤ k ∧ k ≤ 545 then some 4
  else if 620 ≤ k ∧ k ≤ 715 then some 5
  else if 790 ≤ k ∧ k ≤ 875 then some 6
  else if 930 < k then some 7
  else none

/-- Store a decoded band: BAND, DECLARED for B1 to B5, band 7 for an invalid ratio (R82, R105). -/
def State.setBand (s : State) (i k : Nat) : State :=
  let b := (bandOf k).getD 7
  let s1 := ((s.set R.INn_STAT_BAND b i).flag R.INn_STAT_DECLARED (1 ≤ b && b ≤ 5) i).flag R.X_KBAD (bandOf k).isNone i
  (s1.flag R.X_DECODED true i).set R.X_DECODE_AT s1.now i

/-- ID_DECODE (R80 step 2, R82, R93 step 1): in SETTLE the band is stored; at a readmission a band other than the held
one drops the class and classification restarts. [DEDUCED: log 27] -/
def execIdDecode (i : Fin 4) (k : Nat) (s : State) : Out :=
  .next (if s.instate i = 2 then s.setBand i k
  else if s.instate i = 8 ∧ s.on R.X_READMIT i then
    let s1 := s.setBand i k
    if s1.get R.INn_STAT_BAND i = s1.get R.X_BAND i then s1 else (s1.dropClass i 0x03).restartClass i
  else s)

/-- INPUT_CONNECT (R80 step 3, R93 step 2, R94): the FET-short check on VBUSn, then the gates are driven. -/
def execInputConnect (i : Fin 4) (vbus : Nat) (s : State) : Out :=
  .next (let s1 := s.set R.X_VBUS vbus i
  if s.instate i = 2 then
    if s.get R.X_VBUS0 i + 200 < vbus then
      (((s1.gates i false).setInstate i 10).set R.INn_STAT_ISSUE 6 i).flag R.X_FETBAD true i |>.latchStand R.IN_FAULT_FET i
    else (s1.gates i true).setInstate i 3
  else if s.instate i = 8 ∧ s.on R.X_READMIT i then s1.gates i true
  else s)

/-- VBUS_REACHED (R80 step 4, R93 step 3, R202): VBUSn follows INSn, which reads `v`. Bands B0 and B6 and an invalid
ratio are classified UK now, which shows their ISSUE ID_INVALID; otherwise the probe starts, or the input waits for VAUX. A
readmitted input is CLASSIFIED again, with `v` as the unloaded reference of a stop-lamp input (R97). [DESIGN CHOICE: log 82] -/
def execVbusReached (i : Fin 4) (v : Nat) (s : State) : Out :=
  .next (let s1 := (s.set R.X_VBUS v i).set R.INn_V v i
  if s.instate i = 3 then
    let b := s.get R.INn_STAT_BAND i
    if b = 0 ∨ b = 6 ∨ s.on R.X_KBAD i then s1.classify i 6 (if b = 0 then 0 else 1)
    else if s.on R.AUX_STATUS_VAUX_REG then s1.startProbe i
    else (s1.setInstate i 4).coldStartCheck
  else if s.instate i = 8 ∧ s.on R.X_READMIT i ∧ s.bit R.IN_STATUS_FET_ON i then
    let s2 := (s1.setInstate i 7).flag R.X_READMIT false i
    s2.iff (s2.cls i == 2) (fun t => t.setVref i v)
  else s)

/-- PROBE_START (R84, R80): an input in WAIT_VAUX is probed once VAUX is in regulation; a cold start ends (R202). -/
def execProbeStart (i : Fin 4) (s : State) : Out :=
  .next (if s.instate i = 4 ∧ s.on R.AUX_STATUS_VAUX_REG then s.coldStartEnd.startProbe i else s)

/-- r_k of R86 in milliohms: a negative drop counts as 0, a current difference that is not positive gives 0xFFFF.
[DEDUCED: log 29] -/
def probeR (v0 : Nat) (i0 : Int) (v : Nat) (i : Int) : Nat :=
  if i ≤ i0 then 0xFFFF else min ((v0 - v) * 400 / (i - i0).toNat) 0xFFFD

/-- The targets of the three steps of the probe (R84), 25 mA codes. -/
def probeTargets : List Nat := [8, 20, 40]

/-- The steps of a probe that complete, and whether the one after them was cut (R85): a step is cut when INSn falls below V0
less the droop limit (`lows` is its lowest value in each step that began), and completes when the current is within ±10 % of its
target after 1 ms. [DEDUCED: log 29] -/
def probeSteps (v0 droop : Nat) : List Nat → List Nat → List ProbeStep → List ProbeStep × Bool
  | t :: ts, low :: lows, ps =>
    if low + droop < v0 then ([], true)
    else
      match ps with
      | [] => ([], false)
      | p :: rest =>
        if (10 * (p.mid - t)).natAbs ≤ t then
          let r := probeSteps v0 droop ts lows rest
          (p :: r.1, r.2)
        else ([], false)
  | _, _, _ => ([], false)

/-- The class that a declared band gives under its check (R89): B2 to B5 at the probe's end, B1 after the watch. -/
def declaredClass (band dropouts v0 : Nat) : Option Nat :=
  match band with
  | 1 => if dropouts = 0 ∧ 1800 ≤ v0 ∧ v0 ≤ 3200 then some 1 else none
  | 2 => if 1800 ≤ v0 ∧ v0 ≤ 3200 then some 2 else none
  | 3 => some 3
  | 4 => some 5
  | 5 => if 800 ≤ v0 then some 4 else none
  | _ => none

/-- curv of R86 from the drops of the completed steps, first to last. -/
def probeCurv (rs : List Nat) : Nat :=
  match rs with
  | r1 :: _ :: _ =>
    let last := rs.getLast?.getD 0
    if r1 = 0 then (if last ≤ 50 then 0 else 255) else min (last * 16 / r1) 255
  | _ => 0

/-- PROBE_COMPLETE (R84 to R86, R80 step 5): the reference and what each step that ran measured. No completed step, with step 1 not
cut, is PROBE_FAIL. Bands B2 to B5 are classified now; B1 and B7 go to the watch. -/
def execProbeComplete (i : Fin 4) (v0 : Nat) (i0 : Int) (steps : List ProbeStep) (lows : List Nat) (s : State) : Out :=
  .next (if s.instate i = 5 then
    let r := probeSteps v0 (s.droopOf i) probeTargets lows steps
    let rs := r.1.map (fun p => probeR v0 i0 p.v p.a)
    let fail := rs.isEmpty && !r.2
    let s1 := (((s.endProbe i).set R.INn_VOC v0 i).set R.INn_RSRC (rs.getLast?.getD (if r.2 then 0xFFFE else 0xFFFF)) i).set
      R.INn_CURV (probeCurv rs) i
    let s2 := (s1.flag R.X_PROBE_FAIL fail i).iff fail (fun t => (t.set R.INn_STAT_ISSUE 4 i).latchStand R.IN_FAULT_CLASS i)
    let b := s2.get R.INn_STAT_BAND i
    if 2 ≤ b ∧ b ≤ 5 then
      match declaredClass b 0 v0 with
      | some c => s2.classify i c (if fail then 4 else 0)
      | none => s2.classify i 6 2
    else s2.setInstate i 6
  else s)

/-- The class of an undeclared source (R88), first match of its table; `fail` is PROBE_FAIL. [DESIGN CHOICE: log 102] -/
def measuredClass (s : State) (i : Nat) (fail : Bool) : Nat :=
  let d := s.get R.INn_SIG_DROPOUTS i
  let v0 := s.get R.INn_VOC i
  let r := s.get R.INn_RSRC i
  let f := s.get R.INn_SIG_FREQ i
  let inBand := 1800 ≤ v0 && v0 ≤ 3200
  if 1 ≤ d && inBand then 2
  else if d == 0 && s.get R.IN_AG_RIPPLE ≤ s.get R.INn_RIPPLE i && 1 ≤ f && f ≤ 100 then 5
  else if d == 0 && r ≤ s.get R.IN_STIFF_R && s.get R.INn_CURV i < 32 && inBand then 1
  else if d == 0 && !fail && (s.get R.IN_STIFF_R < r && r != 0xFFFF || 32 ≤ s.get R.INn_CURV i) then 3
  else 6

/-- Separate episodes of INSn below 5.5 V for at least 1.0 ms in samples 1 ms apart (R87): runs of two or more; `run` is the length
of the run in progress. [DESIGN CHOICE: log 83] -/
def dropouts : List Nat → Nat → Nat
  | [], _ => 0
  | v :: t, run => if v < 550 then (if run = 1 then 1 else 0) + dropouts t (run + 1) else dropouts t 0

/-- Crossings of the mean `sum / n` with 0.1 V hysteresis (R87): a side is taken 0.05 V beyond the mean; `side` is the last one
taken. [DESIGN CHOICE: log 83] -/
def crossings (sum n : Nat) : List Nat → Option Bool → Nat
  | [], _ => 0
  | v :: t, side =>
    let now := if sum + 5 * n < v * n then some true else if v * n + 5 * n < sum then some false else side
    (if side.isSome && now != side then 1 else 0) + crossings sum n t now

/-- What the watch makes of its samples (R87): ripple and frequency, of those above 6.0 V. -/
def watchRipple (vs : List Nat) : Nat :=
  let up := vs.filter (fun v => 600 < v)
  up.foldl max 0 - up.foldl min (up.headD 0)
/-- [DESIGN CHOICE: log 83] -/
def watchFreq (vs : List Nat) : Nat :=
  let up := vs.filter (fun v => 600 < v)
  crossings up.sum up.length up none / 4

/-- SIGNATURE_WATCH_COMPLETE (R87 to R91): the samples of INSn, 1 ms apart, in 10 mV, in three runs in the order in which they were
taken; dropouts (with the presence losses of R81), ripple and frequency are stored and the class is decided. -/
def execSignatureWatchComplete (i : Fin 4) (early mid late : List Nat) (s : State) : Out :=
  .next (if s.instate i = 6 then
    let samples := early ++ mid ++ late
    let d := min (max (s.get R.X_WDROPS i) (dropouts samples 0)) 255
    let s1 := ((s.set R.INn_SIG_DROPOUTS d i).set R.INn_SIG_FREQ (min (watchFreq samples) 255) i).set R.INn_RIPPLE
      (watchRipple samples) i
    let fail := s1.on R.X_PROBE_FAIL i
    let issue := if fail then 4 else 0
    if s1.get R.INn_STAT_BAND i = 1 then
      match declaredClass 1 d (s1.get R.INn_VOC i) with
      | some c => s1.classify i c issue
      | none => s1.classify i 6 2
    else s1.classify i (measuredClass s1 i fail) issue
  else s)

/-- ID_REDECODE (R83), every 100 ms: the second consecutive decode that differs from the classified band drops the class at once and
classification restarts. [DEDUCED: log 27] -/
def execIdRedecode (i : Fin 4) (k : Nat) (s : State) : Out :=
  .next (if s.instate i = 7 ∨ s.instate i = 8 then
    let s1 := s.setBand i k
    if s1.get R.INn_STAT_BAND i = s1.get R.X_BAND i then s1.clear R.X_IDDIFF i
    else if s1.get R.X_IDDIFF i = 0 then s1.set R.X_IDDIFF 1 i
    else (s1.dropClass i 0x03).restartClass i
  else s)

/-- CLASS_HOLD_EXPIRE (R92, R52): the class of an input that is absent, or in overvoltage, is dropped with a SOURCE_EVENT LOST; the
end of a TP hold uncouples the device where no other input is present as TP. -/
def execClassHoldExpire (i : Fin 4) (s : State) : Out :=
  .next (if (s.instate i = 8 ∧ !s.present i ∨ s.instate i = 10 ∧ s.on R.X_OV i) ∧ s.cls i ≠ 0 then
    let wasTp := s.cls i == 1
    let s1 := (s.dropClass i 0x02).iff (s.instate i == 8) (fun t => t.setInstate i (if t.on R.X_DEBOUNCE i then 1 else 0))
    s1.iff (wasTp && !s1.hasClass 1) State.uncouple
  else s)

/-- INPUT_OVERVOLTAGE (R94, R81, R151): the gates go low, the group trips, the input is in FAULT with OV latched; a DISABLED one
stays DISABLED (R72, R101). The episode of a present input counts as absence from now: a class with a hold is kept for its hold; one
without is dropped. [DEDUCED: log 28; DESIGN CHOICE: log 106] -/
def execInputOvervoltage (i : Fin 4) (s : State) : Out :=
  .next (let s1 := ((((s.gates i false).abortSweep i).tripGroup i 1).set R.INn_STAT_ISSUE 8 i).flag R.X_OV true i
  let s2 := ((s1.setBit R.IN_STATUS_TS_RELEASED i false).setBit R.X_TRIP 2 false i).flag R.X_RETAKE false i
  let s3 := if s2.holdTicks (s2.cls i) = 0 then (s2.dropClass i 0x02).zeroCeiling i
    else (s2.iff (s2.present i) (fun t => t.set R.X_ABSENT_AT (t.get R.X_TICKS) i)).zeroCeiling i
  ((s3.flag R.X_READMIT false i).iff (s3.instate i != 9) (fun t => t.setInstate i 10)).latchStand R.IN_FAULT_OV i)

/-- INPUT_OV_CLEAR (R94): the overvoltage has ended, and the input is treated as newly present, with `vbus` on VBUSn:
readmitted where its class is still held, classified otherwise. -/
def execInputOvClear (i : Fin 4) (vbus : Nat) (s : State) : Out :=
  .next (if s.on R.X_OV i then
    let s1 := (((s.flag R.X_OV false i).ended R.IN_FAULT_OV i).endTrip i 1).set R.X_VBUS vbus i
    if s1.on R.X_FETBAD i then s1
    else if s1.cls i = 0 then s1.restartClass i
    else ((s1.setInstate i 8).flag R.X_READMIT (s1.present i) i).flag R.X_DECODED false i
  else s)

/-- REVERSE_POLARITY (R94): `below` says INSn has been below −1.0 V for 1 ms: the gates are low and held low, and REV_POL latches.
Otherwise INSn is above −1.0 V again and the condition has ended. -/
def execReversePolarity (e : PolarityEdge) (s : State) : Out :=
  .next (if e.below then ((s.gates e.input false).set R.INn_STAT_ISSUE 9 e.input).latchStand R.IN_FAULT_REV_POL e.input
  else s.ended R.IN_FAULT_REV_POL e.input)

/-- FET_OPEN (R94): in CONNECT, or while drawing, VBUSn fails to follow INSn: the group stops through its turn-off ramp, then the
gates go low; the class is None, without a SOURCE_EVENT, and the input is in FAULT with FET latched.
[DESIGN CHOICE: log 84, 101, 106] -/
def execFetOpen (i : Fin 4) (s : State) : Out :=
  .next (if s.instate i = 3 ∨ s.instate i = 7 then
    let wasTp := s.cls i == 1
    let s1 := ((s.abortSweep i).clearClass i).gatesAfterRamp i
    let s2 := (((s1.setInstate i 10).set R.INn_STAT_ISSUE 7 i).flag R.X_FETBAD true i).latchStand R.IN_FAULT_FET i
    s2.iff wasTp State.freeDup
  else s)

/-- TS_RELEASE (R98, R112): INSn of a stop-lamp input falls below 18.0 V; its phases stop, GBn goes low, TS_RELEASED
is set and the release counted. Every sweep is abandoned. -/
def execTsRelease (i : Fin 4) (s : State) : Out :=
  .next (if s.instate i = 7 ∧ s.cls i = 2 ∧ !s.bit R.IN_STATUS_TS_RELEASED i then
    let s1 := ((s.abortSweeps.tripGroup i 2).setBit R.IN_STATUS_FET_ON i false).setBit R.IN_STATUS_TS_RELEASED i true
    ((s1.flag R.X_RETAKE false i).zeroCeiling i).inc R.INn_RELEASES i
  else s)

/-- TS_RESUME (R98): INSn has stayed above 18.5 V for 5 ms and V_ref has been retaken; the draw may resume. -/
def execTsResume (i : Fin 4) (vref : Nat) (s : State) : Out :=
  .next (if s.instate i = 7 ∧ s.cls i = 2 ∧ s.bit R.IN_STATUS_TS_RELEASED i then
    (((s.setBit R.IN_STATUS_TS_RELEASED i false).gates i true).setVref i vref).endTrip i 2
  else s)

/-- TS_VREF_RETAKE (R97): a retake of a stop-lamp input that draws ends: its draw has rested at zero and V_ref is `vref`; the
allocator may ramp it back. [DEDUCED: log 30] -/
def execTsVrefRetake (i : Fin 4) (vref : Nat) (s : State) : Out :=
  .next (if s.instate i = 7 ∧ s.cls i = 2 ∧ !s.bit R.IN_STATUS_TS_RELEASED i ∧ (s.on R.X_RETAKE i ∨ s.get R.TRKn_ALLOC i ≠ 0) then
    (((s.flag R.X_RETAKE false i).setVref i vref).zeroCeiling i).set R.X_RAMP 0 i
  else s)

/-- The effect of writing 1 to INn_CMD.RECLASSIFY (R100): the class is dropped at once with RECLASSIFY_CMD, a FET fault
state ends, and classification restarts at SETTLE if the input is present and not in overvoltage. [DESIGN CHOICE: log 106] -/
def State.reclassify (s : State) (i : Nat) : State :=
  let s1 := (((s.abortSweep i).flag R.X_FETBAD false i).ended R.IN_FAULT_FET i)
  let s2 := if s1.instate i = 5 then s1.endProbe i else s1
  let s3 := if s2.cls i = 0 then s2.sourceEvent i 0x04 else s2.dropClass i 0x04
  if s3.on R.X_OV i then s3 else s3.restartClass i

/-- RECLASSIFY (R100). -/
def execReclassify (i : Fin 4) (s : State) : Out := .next (s.reclassify i)

/-- The effect of a write to INn_CTRL.ENABLE (R101): a disabled input's group ramps to zero, then its gates go low.
[DESIGN CHOICE: log 100, 106] -/
def State.enableInput (s : State) (i : Nat) (b : Bool) : State :=
  let was := s.on R.INn_CTRL i
  let s1 := s.flag R.INn_CTRL b i
  if !b then
    if was then
      let s2 := (s1.abortSweep i).iff (s1.instate i == 5) (fun t => t.endProbe i)
      ((((s2.dropClass i 0x02).rampDown i).gatesAfterRamp i).flag R.X_READMIT false i).setInstate i 9
    else s1
  else if was || (s1.phasesOf i).isEmpty then s1
  else if s1.on R.X_OV i || s1.on R.X_FETBAD i then s1.setInstate i 10
  else s1.restartClass i

/-- INPUT_ENABLE_WRITE (R101, R379): the write also sets DEV_CFG_DIRTY. -/
def execInputEnableWrite (i : Fin 4) (b : Bool) (s : State) : Out :=
  .next ((s.flag R.DEV_CFG_DIRTY true).enableInput i b)

end Sys2Proof.Machine
end

