-- ==== Sys2Proof/Machine/Charge.lean ====
section
/-! DEFINITION. Charge sequencing (R159 to R191): the meanings of the commands of chapter 06 and the effects of
CHARGE_CONTROL. -/

namespace Sys2Proof.Machine

/-- QUALIFY_COMPLETE (R165): V_q in mV picks the next state, once no hold stands and the battery is PRESENT; in Dead-Battery
Start it is precharge or none (R66). -/
def execQualifyComplete (vq : Nat) (s : State) : Out :=
  .next (if s.chg = 2 ∧ !s.holding ∧ s.get R.PP_STATUS_BAT = 1 then
    let rest := if s.leadAcid then 0xC else 0xA
    if vq < s.cells * s.get R.CHG_V_PRE then s.chgTo 3
    else if s.get R.MODE_STATUS_MODE = 7 then s
    else if s.on R.CHG_FULL ∧ s.cells * s.get R.CHG_V_RECHARGE ≤ vq then s.chgTo rest
    else if s.cells * s.get R.CHG_V_FULL_REST ≤ vq then (s.set R.CHG_FULL 1).chgTo rest
    else (s.set R.CHG_FULL 0).firstPulse
  else s)

/-- PRECHARGE_COMPLETE (R166): the 1 s mean of BATS in mV is 50 mV per cell above the precharge threshold; Dead-Battery Start
has precharge only (R66). -/
def execPrechargeComplete (v : Nat) (s : State) : Out :=
  .next (if s.chg = 3 ∧ !s.holding ∧ s.cells * (s.get R.CHG_V_PRE + 50) ≤ v ∧ s.get R.MODE_STATUS_MODE ≠ 7 then s.firstPulse
    else s)

/-- ON_PULSE_END (R167 steps 2 and 3, R164, R183): I_on in 25 mA and V_on in mV are captured and the target ramps down; once it is
0 A the rest begins, or IDLE where no group can be allocated. [DEDUCED: log 36] -/
def execOnPulseEnd (ion : Int) (von : Nat) (s : State) : Out :=
  .next (if onState s.chg ∧ s.on R.X_PULSE then
    let s1 := (((s.setS R.X_ION (satS16 ion)).set R.X_VON (min von 65535)).flag R.X_PULSE false).flag R.X_PULSE_OVER false
    ((((s1.clear R.X_SAMPLE 0).clear R.X_SAMPLE 1).clear R.X_SAMPLE 2).clear R.X_I1).pulseFall
  else s)

/-- REST_SAMPLE (R167 steps 4 to 6): sample V1, V2 or V3 in mV; V1 takes I1 in 25 mA with it. -/
def execRestSample (k : Fin 3) (v : Nat) (i1 : Int) (s : State) : Out :=
  .next (if restState s.chg ∧ !s.on R.X_CHG_WAIT then
    (s.set R.X_SAMPLE (min v 65535) k).iff (k == 0) (fun t => t.setS R.X_I1 (satS16 i1))
  else s)

/-- The rest arithmetic of R170: (R_ohm, rho, V_pol). -/
def restMath (von v1 v2 v3 ion i1 : Int) : Nat × Nat × Nat :=
  let di := ion - i1
  let r := if di ≤ 0 then 0 else ((von - v1) * 40000 / di).toNat
  let d12 := v1 - v2
  let d23 := max (v2 - v3) 0
  let rho := if d12 + d23 ≤ 0 then 0 else (d23 * 4096 / (d12 + d23)).toNat
  let m : Int := min rho 3584
  let tail := d23 * m / (4096 - m)
  let vpol := (min ((v1 - v3) + tail) (2 * (v1 - v3))).toNat
  (min r 65535, min rho 8191, min vpol 65535)

/-- Entry k of the polarisation table, mV per cell (R172). -/
def State.vpolEntry (s : State) (k : Nat) : Nat :=
  if k % 2 = 0 then s.get R.CHG_VPOL_MAX_LOW (k / 2) else s.get R.CHG_VPOL_MAX_HIGH (k / 2)

/-- vpol_max(T) (R172): linear between entries 10 °C apart from -20 °C, rounded down, clamped at the ends. -/
def State.vpolMax (s : State) : Nat :=
  let t := clampI (-200) 500 s.tCold + 200
  let k := (t / 100).toNat
  if 7 ≤ k then s.vpolEntry 7
  else
    let a : Int := s.vpolEntry k
    let b : Int := s.vpolEntry (k + 1)
    (a + (b - a) * (t - 100 * (k : Int)) / 100).toNat

/-- The next pulse current of R171. -/
def State.steer (s : State) (vpol : Nat) : Nat :=
  let vpm := s.cells * s.vpolMax
  let q : Nat := if vpol = 0 then 1280 else max 768 (min 1280 (vpm * 1024 / vpol))
  let next := (s.getS R.X_ION * (q : Int) / 1024).toNat
  max (s.get R.CHG_I_TERM) (min next (s.get R.CHG_I_SET))


/-- The trend of R173: the first qualifying rest seeds it, each later one moves it by a 64th, rounding down. -/
def State.trend (s : State) (r : Nat) : State :=
  let n := s.get R.CHG_R_TREND_N
  let old : Int := s.get R.CHG_R_TREND
  let v := if n = 0 then r else (old + ((r : Int) - old) / 64).toNat
  (s.set R.CHG_R_TREND (min v 65535)).inc R.CHG_R_TREND_N

/-- The state and termination count after a taper or top-off rest (R176): `low` I_on at or below CHG_I_TERM, `high` I_on
above twice it, `full` V3 at the full-rest level. -/
def termination (rest cnt : Nat) (low high full : Bool) : Nat × Nat :=
  if rest = 7 then (if low then (8, if full then 1 else 0) else (6, cnt))
  else if rest = 9 then
    if high then (6, 0) else if low then (8, if full then cnt + 1 else 0) else (8, cnt)
  else (rest - 1, cnt)

/-- REST_END (R167 step 7, R168 to R176, R183, R190, R250): the rest's arithmetic, steering and decisions. `inBand` says
that the current stayed within the band of step 3; `raw` and `amps` are the zero-window means of the coulomb counter and
of position 2, `sat` a saturation within the window. A rest that only ends a hold is not judged; it starts the pulse. -/
def execRestEnd (inBand : Bool) (raw amps : Int) (sat : Bool) (s : State) : Out :=
  .next (if !restState s.chg then s
  else if s.on R.X_CHG_WAIT then
    if s.holding then s
    else
      let s1 := s.pulse (s.chg - 1)
      s1.pulseRecord s1.pulseFlags true
  else
    let ion := s.getS R.X_ION
    let v1 := s.get R.X_SAMPLE 0
    let v2 := s.get R.X_SAMPLE 1
    let v3 := s.get R.X_SAMPLE 2
    let i1 := s.getS R.X_I1
    let m := restMath (s.get R.X_VON) v1 v2 v3 ion i1
    let relaxed := decide ((0 : Int) < ((v1 : Int) - v2) + max ((v2 : Int) - v3) 0)
    let valid := !s.on R.X_REST_RIDE && inBand && decide (40 ≤ ion - i1) && relaxed
    let s1 := s.restStore
    let qual := decide (400 ≤ ion - i1) && decide (150 ≤ s.tCold) && decide (s.tWarm ≤ 350)
    let s2 := if valid then
        let t1 := ((s1.set R.CHG_R_OHM m.1).set R.CHG_RHO m.2.1).set R.CHG_V_POL m.2.2
        let t2 := (t1.iff qual (fun t => t.trend m.1)).agedFollow
        let t3 := t2.iff (!sat) (fun t => t.zeroWindow raw amps)
        t3.iff (s.chg == 5) (fun t => t.set R.CHG_I_PULSE (t.steer m.2.2))
      else s1.inc R.CHG_REST_INVALID
    let term : Int := s.get R.CHG_I_TERM
    let d := if valid then termination s.chg (s.get R.CHG_TERM_CNT) (decide (ion ≤ term)) (decide (2 * term < ion))
        (decide (s.cells * s.get R.CHG_V_FULL_REST ≤ v3))
      else (s.chg - 1, s.get R.CHG_TERM_CNT)
    let s3 := s2.set R.CHG_TERM_CNT (min d.2 3)
    let s4 := if valid ∧ s.chg = 9 ∧ 3 ≤ d.2 then s3.terminate.chgSet 0xA else s3.pulse d.1
    let moved := s4.chg != s.chg - 1
    s4.pulseRecord ((if valid then 1 else 0) + s4.pulseFlags + (if moved then 16 else 0)) true)

/-- Whether the forced P3 window may open at a MAINTAIN check (R452). -/
def State.p3Qualifies (s : State) : Bool :=
  24 ≤ s.agesOf (s.get R.X_BIST_AT 3) 3600000 && s.on R.BIST_CTRL_P3_FORCE_EN && s.get R.PP_STATUS_ROLE == 1 &&
    !s.on R.PP_STATUS_UV_INHIBIT && !s.on R.THM_STATUS_HOLD &&
    (List.range 4).all (fun i => (s.instate i == 0 || 7 ≤ s.instate i) && !s.on R.X_RETAKE i && !s.retakeDue i)

/-- MAINTAIN_CHECK (R177, R250, R452, R453): the 100 ms means of BATS in mV and of the battery current in 25 mA, with the
zero-window mean of the coulomb counter. Two consecutive low checks start a recharge; a forced P3 window takes the place
of a check, and every group stops for it. -/
def execMaintainCheck (v : Nat) (amps raw : Int) (sat : Bool) (s : State) : Out :=
  .next (if s.chg ≠ 0xA ∨ s.on R.BIST_STATUS_P3_WINDOW then s
  else if s.p3Qualifies then (s.needP3.each 4 (fun g t => t.stopGroup g)).flag R.BIST_STATUS_P3_WINDOW true
  else if 4 + s.get R.CHG_I_TERM / 10 < amps.natAbs then s.needP3
  else
    let s1 := s.needP3.iff (!sat) (fun t => t.zeroWindow raw amps)
    if v < s1.cells * s1.get R.CHG_V_RECHARGE then
      if s1.get R.X_MAINT_LOW = 0 then s1.set R.X_MAINT_LOW 1 else (s1.set R.CHG_FULL 0).firstPulse
    else s1.set R.X_MAINT_LOW 0)

/-- P3_WINDOW_END (R453). -/
def execP3WindowEnd (s : State) : Out := .next s.endP3Window

/-- ABSORB_END (R178): FLOAT begins; CHG_FULL, the timers and the remaining energy. -/
def execAbsorbEnd (s : State) : Out := .next (if s.chg = 0xB then s.terminate.chgTo 0xC else s)

/-- FLOAT_RECHARGE (R178): BATS has stayed below the recharge level for 60 s. [DEDUCED: log 35] -/
def execFloatRecharge (s : State) : Out :=
  .next (if s.chg = 0xC ∧ !s.holding then (s.set R.CHG_FULL 0).firstPulse else s)

/-- EQUALISE_END (R180): 0 the timer; 1 the Depot input is lost, 2 T_warm has reached the warm start (EQ_ABORT), both of which are
judged. -/
def execEqualiseEnd (why : Fin 3) (s : State) : Out :=
  .next (if why = 0 ∧ s.chg = 0xD then s.chgTo 0xC else s.equaliseFollow)

/-- SAFETY_TIMER_TICK (R184): one second of device time; `amps` is the 1 s mean of the battery current. -/
def execSafetyTimerTick (amps : Int) (s : State) : Out :=
  .next (if s.chg = 3 then s.inc R.X_PRE_S
  else if timersRun s.chg then
    (s.add R.CHG_TCHG_ACC (min amps.toNat (s.get R.CHG_I_SET))).inc R.CHG_TABS
  else s)

/-- SAFETY_TIMEOUT (R184, R185, R188): the timers that have expired, if any, take the sequencer to FAULT together. -/
def execSafetyTimeout (s : State) : Out :=
  .next (let scaled := timersRun s.chg && s.get R.CHG_I_SET * 60 * s.get R.CHG_T_CHG ≤ s.get R.CHG_TCHG_ACC
  let absolute := timersRun s.chg && 60 * s.get R.CHG_T_ABS ≤ s.get R.CHG_TABS
  let pre := s.chg == 3 && 60 * s.get R.CHG_T_PRE ≤ s.get R.X_PRE_S
  if scaled || absolute || pre then s.chgExpire scaled absolute pre else s)

/-- BMSOK_REFUSE (R183): BMSOK has refused for 100 µs while BMSOK_EN = 1. -/
def execBmsokRefuse (s : State) : Out :=
  .next (if s.on R.CHG_CTRL_BMSOK_EN then s.chgHold R.CHG_HOLD_BMSOK true else s)

/-- BMSOK_PERMIT (R183): 1 s after BMSOK permits again. -/
def execBmsokPermit (s : State) : Out := .next (s.chgHold R.CHG_HOLD_BMSOK false)

/-- An accepted change of CHG_PROFILE acts on the sequencer (R188): outside OFF, IDLE and FAULT it restarts at QUALIFY
with CHG_FULL, CHG_TERM_CNT and the timers reset. -/
def State.profileChanged (s : State) : State :=
  if s.chg = 0 ∨ s.chg = 1 ∨ s.chg = 0xF then s.chgFollow
  else
    let s1 := (((s.iff (!s.chgDisabled) State.cutRest).set R.CHG_FULL 0).set R.CHG_TERM_CNT 0).timersReset.flag R.X_PULSE false
    if s1.chgDisabled then s1.chgFollow
    else
      let s2 := s1.chgSet 2
      s2.pulseRecord (16 + s2.pulseFlags) false

/-- CHG_PROFILE_WRITE (R159, R160, R188, R377): the word is judged; a refused write changes nothing, an accepted one
sets DEV_CFG_DIRTY and, where it changes the profile, restarts the sequencer. -/
def execChgProfileWrite (word : Nat) (s : State) : Out :=
  .next (let s1 := (s.set R.CHG_PROFILE_CHEM (word % 16)).set R.CHG_PROFILE_CELLS (word / 16)
  if 256 ≤ word ∨ !cellsAllowed (word % 16) (word / 16 % 16) ∨ !s1.profileOk then s
  else
    let s2 := s1.flag R.DEV_CFG_DIRTY true
    if s.chem = s2.chem ∧ s.cells = s2.cells then s2 else s2.profileChanged)

/-! ### CHARGE_CONTROL (R189): each action answers its state and its status code (R374) -/

/-- SUSPEND. -/
def State.chgSuspend (s : State) : State × Nat := (s.chgHold R.CHG_HOLD_SUSPEND true, 0x00)

/-- RESUME. -/
def State.chgResume (s : State) : State × Nat := (s.chgHold R.CHG_HOLD_SUSPEND false, 0x00)

/-- RESTART: OK in a read timeout FAULT with AUTORESTART = 0, in MAINTAIN and in FLOAT. -/
def State.chgRestartAction (s : State) : State × Nat :=
  let late := s.chg == 0xF && !s.on R.X_CHG_PP && !s.on R.CHG_TIMEOUT_CAUSE_PENDING && !s.on R.CHG_CTRL_AUTORESTART
  if late || s.chg == 0xA || s.chg == 0xC then (s.chgRestart, 0x00) else (s, 0x17)

/-- EQUALISE with its key (R180), in the order of R372: WRONG_MODE outside Depot Charge, ABSORB and FLOAT, LOCKED, RANGE off
chemistry 3. -/
def State.chgEqualise (s : State) (key : Nat) : State × Nat :=
  if s.get R.MODE_STATUS_MODE ≠ 6 ∨ (s.chg ≠ 0xB ∧ s.chg ≠ 0xC) then (s, 0x17)
  else if key ≠ 0x5EA1 then (s, 0x16)
  else if s.chem ≠ 3 then (s, 0x15)
  else (s.chgTo 0xD, 0x00)

/-- END_EQUALISE. -/
def State.chgEndEqualise (s : State) : State × Nat := if s.chg = 0xD then (s.chgTo 0xC, 0x00) else (s, 0x17)

/-- SERVICE_GROUPS: bits [3:0] enable groups in Service. -/
def State.serviceGroups (s : State) (arg : Nat) : State × Nat :=
  if s.get R.MODE_STATUS_MODE = 0xA then (s.set R.X_SVC_GROUPS (arg % 16), 0x00) else (s, 0x17)

end Sys2Proof.Machine
end

