-- ==== Sys2Proof/Machine/Tracking.lean ====
section
/-! DEFINITION. Best-point tracking and source allocation (R106 to R125): the meanings of the commands of chapter 04. -/

namespace Sys2Proof.Machine

/-! ### The priority order (R115) -/

/-- The six nibbles of the stored order. -/
def State.orderWord (s : State) : Nat :=
  s.get R.TRK_PRIO_A + 65536 * s.get R.TRK_PRIO_B_FIFTH + 1048576 * s.get R.TRK_PRIO_B_SIXTH

/-- The classes of an order word, first to sixth. -/
def orderOf (w : Nat) : List Nat := (List.range 6).map (fun k => w / 16 ^ k % 16)

/-- Whether an order is a permutation of 1 to 6. -/
def validOrder (w : Nat) : Bool := [1, 2, 3, 4, 5, 6].all (fun c => (orderOf w).contains c)

/-- The stored order is judged (R115, R122): a valid one takes effect, another keeps the last valid one and latches. -/
def State.judgeOrder (s : State) : State :=
  if validOrder s.orderWord then
    ((s.set R.X_PRIO s.orderWord).flag R.TRK_STATUS_PRIO_BAD false).ended R.TRK_FAULT_PRIO_BAD
  else if s.on R.TRK_STATUS_PRIO_BAD then s
  else (s.flag R.TRK_STATUS_PRIO_BAD true).latchStand R.TRK_FAULT_PRIO_BAD

/-- The groups in priority order, by class and then by input number (R115). -/
def State.ordered (s : State) : List Nat :=
  ((orderOf (s.get R.X_PRIO)).map (fun c => (List.range 4).filter (fun i => s.cls i == c))).flatten

/-! ### Capability (R113) -/

/-- Whether the retry run of a dormant harvest input goes on, in Yard Poll (R51, R118). -/
def State.retrying (s : State) : Bool := s.get R.X_RETRY != 0 && s.get R.MODE_STATUS_MODE == 2

/-- Whether the retry run in progress is that of input `i` (R51, R118): of the dormant inputs of a wake the lowest-numbered one
whose run has not ended, so one group is allocated at a time. [DESIGN CHOICE: log 108] -/
def State.retryOf (s : State) (i : Nat) : Bool :=
  s.retrying && (List.range 4).find? (fun j => s.bit R.X_RETRY j && s.on R.X_DORMANT j) == some i

/-- Whether a group may draw now: CLASSIFIED and present, not released and not in a V_ref retake, with a usable phase, and not
dormant unless its retry runs (R113, R97, R51, R131). -/
def State.drawable (s : State) (i : Nat) : Bool :=
  s.instate i == 7 && s.present i && !s.bit R.IN_STATUS_TS_RELEASED i && !s.on R.X_RETAKE i && s.gstate i != 6 &&
    (!s.on R.X_DORMANT i || s.retryOf i)

/-- Whether the mode lets a group be allocated (R118). -/
def State.allowed (s : State) (i : Nat) : Bool :=
  let m := s.get R.MODE_STATUS_MODE
  if m = 3 then s.harvestSource i else if m = 0xA then s.bit R.X_SVC_GROUPS i else true

/-- C_n of R113, 0.1 W, from the present input power and INSn. -/
def State.capability (s : State) (i pin ins : Nat) : Nat :=
  let sweeping := s.bit R.TRK_STATUS_SWEEPING i
  if !s.drawable i || s.on R.X_DORMANT i || (s.on R.X_AWAIT i && !sweeping) then 0
  else if sweeping || s.on R.TRKn_STAT_GOVERNED i then pin
  else if s.cls i = 3 ∨ s.cls i = 5 then
    if s.on R.X_COUNTED i then max pin (s.get R.X_PCNT i) else s.get R.TRKn_VSET i * s.get R.INn_LIM_EFF i / 400
  else ins * s.get R.INn_LIM_EFF i / 400

/-! ### The allocator (R114 to R120) -/

/-- ibat_target as it enters D (R114, R118). -/
def State.allocTarget (s : State) : Nat :=
  if !s.retrying then s.get R.CHG_I_TARGET
  else if s.holding || s.on R.CHG_HOLD_TEMP then 0
  else min (s.get R.CHG_I_SET) (min s.iCap s.iFb)

/-- p_load of R114, 0.1 W: the groups' power at η, less what the battery takes. -/
def State.pLoad (s : State) (pin : Quad) (vbat ibat : Int) : Int :=
  let eta := s.get R.TRK_ETA
  (((List.range 4).map (fun g => pin.at g * eta / 256)).sum : Nat) - vbat * ibat / 400

/-- D of R114. [DEDUCED: log 31] -/
def State.demandD (s : State) (pin : Quad) (vbat ibat : Int) : Int :=
  (s.pLoad pin vbat ibat + vbat * (s.allocTarget : Int) / 400) * 256 / (s.get R.TRK_ETA : Int)

/-- The ceiling that an allocation asks for (R114), 25 mA. -/
def askCeiling (a m v lim : Nat) : Nat := if v = 0 then 0 else min (400 * a * (256 + m) / (v * 256)) lim

/-- Split a demand over groups in priority order (R114): each group with its allocation, and what is left. -/
def split (cap : Nat → Nat) : List Nat → Nat → List (Nat × Nat) × Nat
  | [], d => ([], d)
  | g :: t, d =>
    let a := min (cap g) d
    let r := split cap t (d - a)
    ((g, a) :: r.1, r.2)


/-- Whether the battery can supplement (R120): the pair is not open and lets the battery discharge. -/
def State.supplements (s : State) : Bool :=
  let r := s.get R.PP_STATUS_ROLE
  r != 0 && r != 3 && s.get R.PP_STATUS_BAT == 1 && !s.on R.PP_FAULT_BAT_LOST

/-- A group takes a new ceiling (R149, R151): a stopped one starts where VAUX is in regulation, one in OFF_HOLD ramps
again, one in ON_DELAY that loses its ceiling stops. -/
def State.setCeiling (s : State) (g v : Nat) : State :=
  let s1 := s.set R.TRKn_ALLOC v g
  if v = 0 then (if s1.gstate g = 1 then s1.stopGroup g else s1)
  else if s1.on R.BIST_STATUS_P3_WINDOW then s1
  else if s1.gstate g = 0 ∧ s1.on R.AUX_STATUS_VAUX_REG then s1.toOnDelay g
  else if s1.gstate g = 4 then s1.switchOn g
  else s1


/-- The input current that the ramps of a group allow moves toward its ceiling (R150), by the lesser of the group's ramp and
CHG_EDGE_RAMP; a rise without supplement by the lesser of the group's ramp and 50 A/ms (R120). -/
def State.rampFollow (s : State) (g : Nat) : State :=
  if s.drawing g then
    s.set R.X_RAMP (moveCeiling (s.get R.X_RAMP g) (s.get R.TRKn_ALLOC g)
      (min (4 * s.get R.CNV_Gg_RAMP_ON g) (if s.supplements then s.edgeStep else 2000))
      (min (4 * s.get R.CNV_Gg_RAMP_OFF g) s.edgeStep)) g
  else s

/-- A fixed floor follows its parameter, a sweep falls due at its age, and the V_ref retake of a stop-lamp input that draws begins
1 s after the last (R97, R107, R111). -/
def State.trackFollow (s : State) : State :=
  s.each 4 (fun i t =>
    let t1 := t.iff (t.cls i == 1) (fun u => u.set R.TRKn_VSET (u.get R.TRK_TP_FLOOR) i)
    let per := t1.get R.TRK_SWEEP_PERIOD
    let t2 := t1.iff (t1.cls i == 3 && per != 0 && per ≤ t1.sweepAge i && !t1.bit R.TRK_STATUS_SWEEPING i)
      (fun u => u.flag R.X_SWEEP_DUE true i)
    t2.iff (t2.drawable i && t2.retakeDue i) (fun u => u.flag R.X_RETAKE true i))

/-- The ceilings asked for: in a retry run INn_LIM_EFF for the retrying group and nothing else; otherwise the split of
D, with INn_LIM_EFF for a sweeping group (R111, R114, R118). -/
def State.wanted (s : State) (pairs : List (Nat × Nat)) (ins : Quad) (g : Nat) : Nat :=
  if !s.drawable g then 0
  else if s.retrying then (if s.retryOf g then s.get R.INn_LIM_EFF g else 0)
  else if s.bit R.TRK_STATUS_SWEEPING g then (if s.allowed g then s.get R.INn_LIM_EFF g else 0)
  else
    match pairs.find? (fun p => p.1 == g) with
    | some p => askCeiling p.2 (s.get R.TRK_MARGIN) (ins.at g) (s.get R.INn_LIM_EFF g)
    | none => 0

/-- Whether a stiffness probe runs on some input (R84, R111). -/
def State.probing (s : State) : Bool := (List.range 4).any (fun j => s.instate j == 5)

/-- The capability of every group, with the allocator or without it (R113). -/
def State.capacityFollow (s : State) (pin ins : Quad) : State :=
  s.each 4 (fun g t => t.set R.TRKn_CAP (min (t.capability g (pin.at g) (ins.at g)) 65535) g)

/-- The body of the allocator while it runs (R113 to R121). During a probe the ceilings of the groups that may draw, and the trim
group, stay as they are (R84). In a retry run the retrying group is the trim group. [DESIGN CHOICE: log 107] -/
def State.allocate (s : State) (pin ins : Quad) (vbat ibat : Int) : State :=
  let cap := fun i => s.capability i (pin.at i) (ins.at i)
  let d := s.demandD pin vbat ibat
  let r := split cap (s.ordered.filter s.allowed) d.toNat
  let pool := if s.retrying then (s.ordered.filter (fun i => s.retryOf i && s.drawable i)) else
    (r.1.filter (fun p => p.2 != 0)).map (·.1)
  let trim := if s.probing then s.get R.TRK_STATUS_TRIM else
    match pool.getLast? with
    | some i => i + 1
    | none => 0
  let up := if s.supplements then s.edgeStep else 2000
  let s1 := ((s.set R.TRK_DEMAND (min d.toNat 65535)).set R.TRK_LOAD (min (s.pLoad pin vbat ibat).toNat 65535)).set
    R.TRK_STATUS_TRIM trim
  let s2 := (s1.flag R.TRK_STATUS_SHORTFALL (0 < r.2)).flag R.TRK_STATUS_FAST_RISE (!s.supplements)
  s2.each 4 (fun g t =>
    let old := t.get R.TRKn_ALLOC g
    let v := if s.probing && s.drawable g then old else moveCeiling old (s.wanted r.1 ins g) up s.edgeStep
    ((t.flag R.TRKn_STAT_TRIM (trim == g + 1) g).setCeiling g v).rampFollow g)

/-- While the allocator does not run every ceiling goes to zero, at CHG_EDGE_RAMP (R118, R119); no group trims and no shortfall
shows, and the figures of its last run stay in TRK_DEMAND, TRK_LOAD and FAST_RISE. [DESIGN CHOICE: log 87] -/
def State.noCeilings (s : State) : State :=
  let s1 := (s.set R.TRK_STATUS_TRIM 0).flag R.TRK_STATUS_SHORTFALL false
  s1.each 4 (fun g t => ((t.flag R.TRKn_STAT_TRIM false g).setCeiling g
    (moveCeiling (t.get R.TRKn_ALLOC g) 0 0 s.edgeStep)).rampFollow g)

/-- Every ceiling goes at once: where all groups stop at once there is nothing to ramp (R66, R120, R418, R431), but for the limit
of a cold start, which goes on in Thermal Hold (R211). [DESIGN CHOICE: log 87] -/
def State.dropCeilings (s : State) : State :=
  let s1 := (s.set R.TRK_STATUS_TRIM 0).flag R.TRK_STATUS_SHORTFALL false
  s1.each 4 (fun g t => ((t.flag R.TRKn_STAT_TRIM false g).setCeiling g 0).iff (!t.coldGroup g) (fun u => u.set R.X_RAMP 0 g))

/-- ALLOCATOR_UPDATE (R114, R164): present input powers in 0.1 W, INSn in 10 mV, BAT in 10 mV, the battery current in
25 mA and SYSS in 10 mV; 4 ms means. INn_LIM_EFF follows a new limit here (R121), and the battery-current target moves by one
millisecond of CHG_EDGE_RAMP (R167, R183). [DEDUCED: log 31] -/
def execAllocatorUpdate (pin ins : Quad) (vbat ibat : Int) (sys : Nat) (s : State) : Out :=
  .next (let s1 := s.each 4 (fun i t => ((t.set R.TRKn_PIN (min (pin.at i) 65535) i).set R.INn_V (ins.at i) i).updateLimit i)
  let s2 := ((s1.set R.X_SYSS sys).set R.X_BATS vbat.toNat).chgFollow.leaveIdle.chgRamp.pulseFall.trackFollow
  let s3 := s2.capacityFollow pin ins
  let s4 := if s3.allocRuns then s3.allocate pin ins vbat ibat else s3.noCeilings
  s4.startVaux)

/-! ### Perturb and observe (R108, R109) -/

/-- The bounds of R109, 10 mV. -/
def State.poBounds (s : State) (i : Nat) : Nat × Nat :=
  let voc := if s.cls i = 3 ∧ s.on R.X_SWEPT i then s.get R.X_SWEEP_VOC i else s.get R.INn_VOC i
  (max (voc / 2) 700, voc - 10)

/-- What a counted period does to direction, step and run count (R108): (down, step, run). -/
def poJudge (old : Option Nat) (p : Nat) (down : Bool) (step run : Nat) : Bool × Nat × Nat :=
  match old with
  | none => (down, step, run)
  | some q =>
    let d : Int := (p : Int) - q
    let dead : Int := q / 1024
    if dead < d then (if run + 1 = 4 then (down, min (step * 2) 100, 0) else (down, step, run + 1))
    else if d < -dead then (!down, max (step / 2) 1, 0)
    else (down, step, run)

/-- The move of V_set, stopping at a bound with the direction reversed and the step halved (R109). -/
def poMove (v lo hi : Nat) (down : Bool) (step run : Nat) : Nat × Bool × Nat × Nat :=
  let t : Int := if down then (v : Int) - step else (v : Int) + step
  if t < lo then (lo, !down, max (step / 2) 1, 0)
  else if (hi : Int) < t then (hi, !down, max (step / 2) 1, 0)
  else (t.toNat, down, step, run)

/-- PO_PERIOD_END (R108, R109): `p` is P_new in 0.1 W, `counted` whether the group was voltage-governed throughout the
second half of the period. A period in which the group does not draw, or sweeps, is uncounted. [DESIGN CHOICE: log 103] -/
def execPoPeriodEnd (i : Fin 4) (p : Nat) (counted : Bool) (s : State) : Out :=
  .next (if s.cls i = 3 ∨ s.cls i = 5 then
    if !counted || !s.drawable i || s.bit R.TRK_STATUS_SWEEPING i || s.on R.X_AWAIT i then s.flag R.X_PO_VALID false i
    else
      let old := if s.on R.X_PO_VALID i then some (s.get R.X_PO_OLD i) else none
      let j := poJudge old p (s.on R.TRKn_STAT_DIR_DOWN i) (s.get R.TRKn_STEP i) (s.get R.TRKn_STAT_RUN i)
      let b := s.poBounds i
      let m := poMove (s.get R.TRKn_VSET i) b.1 b.2 j.1 j.2.1 j.2.2
      let s1 := (((s.flag R.X_PO_VALID true i).set R.X_PO_OLD p i).flag R.X_COUNTED true i).set R.X_PCNT p i
      (((s1.set R.TRKn_VSET m.1 i).flag R.TRKn_STAT_DIR_DOWN m.2.1 i).set R.TRKn_STEP m.2.2.1 i).set R.TRKn_STAT_RUN
        m.2.2.2 i
  else s)

/-! ### Sweeps (R111, R112) -/

/-- What keeps a due sweep waiting (R111): a rest or the end of an on-pulse, another sweep, a lower input that is due,
a probe. -/
def State.sweepWaits (s : State) (i : Nat) : Bool :=
  s.sweepBlocked || s.get R.TRK_STATUS_SWEEPING != 0 ||
    (List.range i).any (fun j => s.on R.X_SWEEP_DUE j && s.cls j == 3 && s.drawable j && s.allowed j) || s.probing

/-- SWEEP_START (R111 step 1): the ceiling goes to INn_LIM_EFF and V_set rises to 60.00 V, which TRKn_VSET shows in the first
sweep too. [DESIGN CHOICE: log 85, 109] -/
def execSweepStart (i : Fin 4) (s : State) : Out :=
  .next (if s.on R.X_SWEEP_DUE i ∧ s.cls i = 3 ∧ s.drawable i ∧ s.allowed i ∧ s.allocRuns ∧
      !s.retrying ∧ !s.sweepWaits i then
    let s1 := ((s.flag R.X_SWEEP_DUE false i).set R.X_VSET_OLD (s.get R.TRKn_VSET i) i).set R.TRKn_VSET 6000 i
    ((s1.set R.TRKn_STAT_STYLE 6 i).setBit R.TRK_STATUS_SWEEPING i true).setCeiling i (s1.get R.INn_LIM_EFF i)
  else s)

/-- The voltage of step k (0 to 63) of a sweep (R111 step 3). [DESIGN CHOICE: log 105] -/
def sweepStep (voc k : Nat) : Nat :=
  let hi := voc - 10
  let lo := max (voc / 2) 700
  hi - (hi - lo) * k / 63

/-- The first step of highest power and its power. -/
def bestStep : List Nat → Nat → Nat × Nat → Nat × Nat
  | [], _, best => best
  | p :: t, k, best => bestStep t (k + 1) (if best.2 < p then (k, p) else best)

/-- SWEEP_COMPLETE (R111 step 4): V_oc and the power of each of the 64 steps. P_old is discarded; direction and run count are
kept. [DESIGN CHOICE: log 86] -/
def execSweepComplete (i : Fin 4) (voc : Nat) (powers : List Nat) (s : State) : Out :=
  .next (if s.bit R.TRK_STATUS_SWEEPING i then
    let b := bestStep (powers.take 64) 0 (0, 0)
    let v := sweepStep voc b.1
    let s1 := ((s.set R.TRKn_VSET v i).set R.TRKn_STEP (s.get R.TRK_STEP_INIT) i).set R.TRKn_VMP v i
    let s2 := ((s1.set R.TRKn_PMP (min b.2 65535) i).set R.X_SWEEP_VOC voc i).flag R.X_SWEPT true i
    let s3 := (((s2.flag R.X_SWEEP_EVER true i).set R.X_SWEEP_AT s2.now i).flag R.X_PO_VALID false i).flag R.X_AWAIT false i
    ((s3.set R.TRKn_STAT_STYLE 1 i).setBit R.TRK_STATUS_SWEEPING i false).ended R.TRK_FAULT_SWEEP_ABORT i
  else s)

/-- SWEEP_ABORT (R112): the running sweep is abandoned. -/
def execSweepAbort (i : Fin 4) (s : State) : Out := .next (s.abortSweep i)

/-- The effect of TRKn_CMD.SWEEP_NOW (R111, R124): an SO input only. -/
def State.sweepNow (s : State) (i : Nat) : State := if s.cls i = 3 then s.flag R.X_SWEEP_DUE true i else s

/-- SWEEP_NOW (R111). -/
def execSweepNow (i : Fin 4) (s : State) : Out := .next (s.sweepNow i)

/-- TRK_WEAK (R122): a TP, DP or UK group has been voltage-governed at its floor for 60 s with headroom. -/
def execTrkWeak (i : Fin 4) (s : State) : Out :=
  .next (if (s.cls i = 1 ∨ s.cls i = 4 ∨ s.cls i = 6) ∧ s.on R.TRKn_STAT_GOVERNED i then
    s.latchStand R.TRK_FAULT_WEAK i
  else s)

end Sys2Proof.Machine
end

