-- ==== Sys2Proof/Machine/Converter.lean ====
section
/-! DEFINITION. The charger converter (R126 to R158): the meanings of the commands of chapter 05. -/

namespace Sys2Proof.Machine

/-! ### Tuning (R141, R142) -/

/-- A tuning run is due with a fresh count of attempts (R141, R142). -/
def State.tuneDue (s : State) (g : Nat) : State :=
  (((s.flag R.X_TUNE true g).flag R.X_TUNING false g).set R.X_TUNE_N 0 g).set R.X_TUNE_AT s.now g

/-- Whether the run in progress still holds (R142): the group in RUN, its loop and region unchanged, the battery-current target
within 5 % of that at its start. -/
def State.tuneHolds (s : State) (g : Nat) : Bool :=
  let a := s.get R.X_TUNE_TGT g
  let b := s.get R.CHG_I_TARGET
  s.gstate g == 3 && s.get R.TRKn_STAT_LOOP g == s.get R.X_TUNE_LOOP g &&
    s.get R.CNV_Gg_STAT_REGION g == s.get R.X_TUNE_REGION g && 20 * (a - b) ≤ a && 20 * (b - a) ≤ a

/-- Whether a due run may begin (R141, R142): in RUN with at least 2 A on average per active phase, within 8 attempts and 10 s. -/
def State.tuneReady (s : State) (g : Nat) : Bool :=
  let k := (s.active g).length
  s.on R.X_TUNE g && s.gstate g == 3 && k != 0 && decide (80 * (k : Int) ≤ s.getS R.CNV_Gg_IL g) && s.get R.X_TUNE_N g < 8 &&
    s.now < s.get R.X_TUNE_AT g + 10000

/-- The run in progress is abandoned where it no longer holds; a due one begins (R141, R142). -/
def State.tuneFollow (s : State) (g : Nat) : State :=
  if s.on R.X_TUNING g then (if s.tuneHolds g then s else s.flag R.X_TUNING false g)
  else if s.tuneReady g then
    let s1 := (((s.flag R.X_TUNING true g).inc R.X_TUNE_N g).set R.X_TUNE_EV 0 g).set R.X_TUNE_LOOP (s.get R.TRKn_STAT_LOOP g) g
    (s1.set R.X_TUNE_REGION (s.get R.CNV_Gg_STAT_REGION g) g).set R.X_TUNE_TGT (s.get R.CHG_I_TARGET) g
  else s

/-! ### Start and stop -/

/-- GROUP_ON_DELAY_END (R149 step 2): the on-delay is over; bootstrap charge and checks run with VAUX in regulation. -/
def execGroupOnDelayEnd (g : Fin 4) (s : State) : Out :=
  .next (if s.gstate g = 1 ∧ s.on R.AUX_STATUS_VAUX_REG then s.flag R.X_BOOT true g else s)

/-- GROUP_SWITCH_START (R149 step 3, R134, R141): the usable phases switch in RAMP_ON, on the factors of the last successful
tuning; a tuning run is due, its attempts counted afresh. -/
def execGroupSwitchStart (g : Fin 4) (s : State) : Out :=
  .next (if s.gstate g = 1 ∧ s.on R.X_BOOT g then
    let s1 := ((s.flag R.X_BOOT false g).flag R.CNV_Gg_STAT_TUNED false g).tuneDue g
    ((s1.set R.CNV_Gg_KP (s.get R.X_KP_OK g) g).set R.CNV_Gg_KI (s.get R.X_KI_OK g) g).switchOn g
  else s)

/-- GROUP_OFF_DELAY_END (R151): OFF_HOLD ends without a new ceiling. -/
def execGroupOffDelayEnd (g : Fin 4) (s : State) : Out :=
  .next (if s.gstate g = 4 ∧ s.get R.TRKn_ALLOC g = 0 then s.stopGroup g else s)

/-- The loop that governs (R125, R138): the lowest demand, ties in the order battery voltage, battery current, SYS
voltage, input current, input voltage. [DESIGN CHOICE: log 32] -/
def governing (vin iin ibat vbat vsys : Nat) : Nat :=
  let low := min vin (min iin (min ibat (min vbat vsys)))
  if vbat = low then 4 else if ibat = low then 3 else if vsys = low then 5 else if iin = low then 2 else 1

/-- Taper or absorption is entered while an on-pulse runs and BATS reaches CHG_V_LIMIT - 0.2 % (R175, R178). -/
def State.taperCheck (s : State) (batMv : Nat) : State :=
  if s.get R.CHG_V_LIMIT != 0 ∧ s.get R.CHG_V_LIMIT - s.get R.CHG_V_LIMIT / 500 ≤ batMv ∧ s.on R.X_PULSE then
    if s.chg = 4 ∧ s.lithium then s.chgTo 6
    else if s.chg = 4 ∧ s.leadAcid then s.chgTo 0xB
    else s
  else s

/-- The WEAK condition ends when the group has not been voltage-governed for 1 s (R122). -/
def State.weakFollow (s : State) (g : Nat) : State :=
  if s.on R.TRKn_STAT_GOVERNED g then s.clear R.X_UNGOV g
  else if s.get R.X_UNGOV g = 0 then s.set R.X_UNGOV (s.get R.X_TICKS + 1) g
  else if s.get R.X_UNGOV g + 32768 ≤ s.get R.X_TICKS + 1 then s.ended R.TRK_FAULT_WEAK g
  else s

/-- The targets of the five loops of a group (R116, R137): in every group but the trim group the battery-current target is raised
by m/256 of itself and the SYS target by 0.30 V; the input-current target is the ceiling as the ramps allow it. A cold start holds
the floor of its input (R202). -/
def State.plainTargets (s : State) (g : Nat) : State :=
  let trim := s.on R.TRKn_STAT_TRIM g
  let i := s.allocTarget
  let s1 := (s.set R.X_TGT_IBAT (if trim then i else i + i * s.get R.TRK_MARGIN / 256) g).set R.X_TGT_VBAT
    (s.get R.CHG_V_LIMIT) g
  ((s1.set R.X_TGT_SYS (s.get R.PP_SYS_TARGET + (if trim then 0 else 30)) g).set R.X_TGT_VIN
    (if s.coldGroup g then s.get R.X_COLD_FLOOR else s.get R.TRKn_VSET g) g).set R.X_TGT_IIN (s.get R.X_RAMP g) g

/-- The target of the loop with code `loop` (R125). -/
def loopReg (loop : Nat) : Reg :=
  match loop with
  | 1 => R.X_TGT_VIN
  | 2 => R.X_TGT_IIN
  | 3 => R.X_TGT_IBAT
  | 4 => R.X_TGT_VBAT
  | _ => R.X_TGT_SYS

/-- The half-period of the square wave of a tuning run (R141), in evaluations of 10 µs: the longer of 250 µs and the edge time of
the 4 % step under CHG_EDGE_RAMP, for the loops of a current, plus 150 µs. [DESIGN CHOICE: log 112] -/
def State.tuneHalf (s : State) (g : Nat) : Nat :=
  let loop := s.get R.X_TUNE_LOOP g
  let edge := if loop = 2 ∨ loop = 3 then s.get (loopReg loop) g / max (s.get R.CHG_EDGE_RAMP) 1 else 0
  (max 250 (edge + 150) + 9) / 10

/-- While a tuning run goes on the target of the governing loop is modulated by ±2 % for 8 periods, the upper half first (R141).
[DESIGN CHOICE: log 112] -/
def State.modulate (s : State) (g : Nat) : State :=
  let half := s.get R.X_TUNE_EV g / s.tuneHalf g
  if s.on R.X_TUNING g ∧ half < 16 then
    let target := s.get (loopReg (s.get R.X_TUNE_LOOP g)) g
    (s.set (loopReg (s.get R.X_TUNE_LOOP g)) (target * (if half % 2 = 0 then 102 else 98) / 100) g).inc R.X_TUNE_EV g
  else s

/-- The targets of the five loops in force. -/
def State.loopTargets (s : State) (g : Nat) : State := (s.plainTargets g).modulate g

/-- Whether a group runs diode emulation (R146): enabled, or started in it (R149 step 3, R202), which a start keeps until RUN.
[DESIGN CHOICE: log 113] -/
def State.diode (s : State) (g : Nat) : Bool := s.on R.CNV_LIGHT_DE_EN || s.gstate g == 2 || s.coldGroup g

/-- The code of the frequency in force (R129, R132): 100 kHz in a cold start (R202). -/
def State.fswCode (s : State) : Nat := if s.on R.PP_STATUS_COLD_START then 0 else s.get R.X_FSW

/-- The region of a group follows the last evaluation (R133), and with it the controlling switch and the slope (R136).
[DESIGN CHOICE: log 73] -/
def State.regionFollow (s : State) (g : Nat) : State :=
  (s.regionSet g (nextRegion (s.get R.CNV_Gg_STAT_REGION g) (s.get R.X_LSYS g) (s.get R.X_LVBUS g))).slopeFollow g

/-- The demands after an evaluation (R138): the integrator of a loop that does not govern is held to 5 % of CNV_IPK_LIM above the
governing demand. -/
def State.holdDemands (s : State) (g low : Nat) (ds : List Nat) : State :=
  ds.zipIdx.foldl (fun t p => t.set R.X_DEMAND (min p.1 (low + s.get R.CNV_IPK_LIM / 20)) (5 * g + p.2)) s

/-- A phase joins its running group (R147, R143, R142): trim 0, trims held for 256 cycles, a tuning run abandoned. -/
def State.joinPhase (s : State) (g p : Nat) : State :=
  let s1 := (((s.flag R.CNV_PHn_STAT_SHED false p).switchPhase p true).setS R.CNV_PHn_TRIM 0 p).flag R.CNV_PHn_STAT_TRIM_SAT
    false p
  (((s1.countActive g).set R.X_EQ_HOLD 256 g).flag R.X_TUNING false g).phasePeaks g

/-- The lowest-numbered shed phase is added back (R147), in RUN with shedding enabled and not in burst. -/
def State.addBack (s : State) (g : Nat) : State :=
  if s.gstate g = 3 ∧ s.on R.CNV_LIGHT_SHED_EN ∧ !s.on R.CNV_Gg_STAT_BURST g then
    match (s.usable g).find? (fun p => s.on R.CNV_PHn_STAT_SHED p) with
    | some p => (s.joinPhase g p).clear R.X_SHED_HIGH g
    | none => s
  else s

/-- The state of a group after an evaluation (R149 step 5, R151): a group without a ceiling enters OFF_HOLD once its input current
is zero; RAMP_ON ends at the ceiling or where a loop other than input current governs; a probe ends with its own command. -/
def State.runFollow (s : State) (g amps : Nat) : State :=
  if s.instate g = 5 then s
  else if s.get R.TRKn_ALLOC g = 0 then
    if amps = 0 then (s.idlePhases g).set R.CNV_Gg_STAT_STATE 4 g else s.set R.CNV_Gg_STAT_STATE 3 g
  else if s.gstate g = 2 ∧ (s.get R.TRKn_STAT_LOOP g ≠ 2 ∨ s.get R.TRKn_ALLOC g ≤ amps) then s.set R.CNV_Gg_STAT_STATE 3 g
  else s

/-- LOOP_EVALUATION (R133, R136 to R139, R149 step 5, R151, R153, R161): the five demands in 25 mA, `reduced` the
command that the phase-current clamp allows, the input current in 25 mA, SYSS and VBUSg in 10 mV, BATS in mV. In burst the region
and the floor command stand and the slope follows (R136, R148, R154). A cold start has a peak command of at most 1.0 A (R202).
[DESIGN CHOICE: log 32] -/
def execLoopEvaluation (g : Fin 4) (vin iin ibat vbat vsys reduced amps sys vbus bats : Nat) (s : State) : Out :=
  .next (let s0 := (((s.set R.X_SYSS sys).set R.X_VBUS vbus g).set R.X_LSYS sys g).set R.X_LVBUS vbus g
  let s1 := (s0.set R.X_BATS (bats / 10)).chgTargets.loopTargets g
  let low := min vin (min iin (min ibat (min vbat vsys)))
  let s2 := if s1.drawing g then
      let loop := governing vin iin ibat vbat vsys
      let top := min low (s1.get R.CNV_IPK_LIM)
      let clamp := (s1.active g).any (fun p => decide ((s1.get R.CNV_PH_IMAX : Int) < s1.getS R.CNV_PHn_I p))
      let s3 := (((s1.holdDemands g low [vin, iin, ibat, vbat, vsys]).set R.TRKn_STAT_LOOP loop g).flag R.TRKn_STAT_GOVERNED
        (loop == 1) g).flag R.CNV_Gg_STAT_PH_LIMIT clamp g
      let s4 := if s3.on R.CNV_Gg_STAT_BURST g then s3.slopeFollow g
        else ((s3.regionFollow g).set R.CNV_Gg_PEAK (if clamp then min top reduced else top) g).phasePeaks g
      let s5 := ((s4.phasesOf g).foldl (fun t p => t.flag R.X_SYNC_OFF false p) s4).iff clamp (fun t => t.addBack g)
      (s5.runFollow g amps).tuneFollow g
    else if s1.coldGroup g then
      (((s1.holdDemands g low [vin, iin, ibat, vbat, vsys]).regionFollow g).set R.CNV_Gg_PEAK (min low 40) g).phasePeaks g
    else s1
  (s2.weakFollow g).taperCheck bats)

/-- A tuning run fails (R142): nominal factors, the latch, the group runs on. -/
def State.tuneFail (s : State) (g : Nat) : State :=
  let s1 := (s.flag R.X_TUNE false g).flag R.X_TUNING false g
  ((s1.set R.CNV_Gg_KP 256 g).set R.CNV_Gg_KI 256 g).latch R.CNV_FAULT_TUNE_FAIL g

/-- TUNING_COMPLETE (R141, R142): of a run that still holds, factors in 64 to 1024 are set, kept for later starts, and TUNED; others
fail the tuning. A run that no longer holds is abandoned. [DESIGN CHOICE: log 32] -/
def execTuningComplete (g : Fin 4) (kp ki : Nat) (s : State) : Out :=
  .next (if !s.on R.X_TUNING g then s
  else if !s.tuneHolds g then s.flag R.X_TUNING false g
  else if 64 ≤ kp ∧ kp ≤ 1024 ∧ 64 ≤ ki ∧ ki ≤ 1024 then
    let s1 := (s.flag R.X_TUNE false g).flag R.X_TUNING false g
    let s2 := ((s1.set R.CNV_Gg_KP kp g).set R.CNV_Gg_KI ki g).flag R.CNV_Gg_STAT_TUNED true g
    (s2.set R.X_KP_OK kp g).set R.X_KI_OK ki g
  else s.tuneFail g)

/-- TUNE_FAIL (R142): tuning is not completed in its attempts. -/
def execTuneFail (g : Fin 4) (s : State) : Out := .next (if s.on R.X_TUNE g then s.tuneFail g else s)

/-- The effect of CNV_CMD.RETUNE for one group (R142, R155): a new tuning run in RUN, ignored otherwise. -/
def State.retune (s : State) (g : Nat) : State := if s.gstate g = 3 then s.tuneDue g else s

/-- RETUNE (R142). -/
def execRetune (g : Fin 4) (s : State) : Out := .next (s.retune g)

/-! ### Currents, dead times, light load -/

/-- The phase currents of a group are stored with their sum (R156, R157); `cur` holds one code per phase. -/
def State.phaseCurrents (s : State) (g : Nat) (cur : List Int) : State :=
  let s1 := (s.phasesOf g).foldl (fun t p => t.setS R.CNV_PHn_I (if t.on R.CNV_PHn_STAT_SWITCHING p then cur.getD p 0
    else 0) p) s
  s1.setS R.CNV_Gg_IL (((s1.phasesOf g).map (fun p => s1.getS R.CNV_PHn_I p)).sum) g

/-- The sum of the currents of the active phases of a group. -/
def State.activeSum (s : State) (g : Nat) : Int := ((s.active g).map (fun p => s.getS R.CNV_PHn_I p)).sum

/-- One phase's trim step (R143): e = i - mean against mean / 200, exactly, with sum = n × mean. -/
def trimStep (i sum : Int) (n : Nat) (trim : Int) : Int :=
  let e := 200 * ((n : Int) * i - sum)
  if sum < e then max (trim - 1) (-64) else if e < -sum then min (trim + 1) 64 else trim

/-- A phase whose trim sits at a limit for 1 s sets TRIM_SAT (R144); updates come every 32 cycles. [DEDUCED: log 33] -/
def State.trimSat (s : State) (p : Nat) : State :=
  if (s.getS R.CNV_PHn_TRIM p).natAbs = 64 then
    let s1 := s.inc R.X_SAT p
    s1.flag R.CNV_PHn_STAT_TRIM_SAT (100000 + 10000 * s.fswCode ≤ 32 * s1.get R.X_SAT p) p
  else (s.clear R.X_SAT p).flag R.CNV_PHn_STAT_TRIM_SAT false p

/-- EQUALISATION_UPDATE (R143, R144): trims move toward the group mean, except while tuning, in burst, below 20 % of
CNV_PH_IMAX, with one phase, or for 256 cycles after a phase came or went; a trim held at its limit counts toward TRIM_SAT all the
same. [DEDUCED: log 33] -/
def execEqualisationUpdate (g : Fin 4) (cur : List Int) (s : State) : Out :=
  .next (let s1 := s.phaseCurrents g cur
  let act := s1.active g
  let sum := s1.activeSum g
  let free := s1.gstate g == 3 && 2 ≤ act.length && !s1.on R.CNV_Gg_STAT_BURST g && !s1.on R.X_TUNING g &&
    s1.get R.X_EQ_HOLD g == 0 && decide ((s1.get R.CNV_PH_IMAX * act.length : Int) < 5 * sum)
  let s2 := (s1.set R.X_EQ_HOLD (s1.get R.X_EQ_HOLD g - 32) g).flag R.CNV_Gg_STAT_EQ_ACTIVE free g
  let s3 := if free then
      (act.foldl (fun t p => t.setS R.CNV_PHn_TRIM (trimStep (t.getS R.CNV_PHn_I p) sum act.length
        (t.getS R.CNV_PHn_TRIM p)) p) s2).phasePeaks g
    else s2
  (s3.phasesOf g).foldl (fun t p => t.trimSat p) s3)

/-- The dead-time field of an edge: upstream rising, upstream falling, downstream rising, downstream falling (R145). -/
def deadTime (edge : Nat) : Reg :=
  match edge with
  | 0 => R.CNV_PHn_DT_U_RISE
  | 1 => R.CNV_PHn_DT_U_FALL
  | 2 => R.CNV_PHn_DT_D_RISE
  | _ => R.CNV_PHn_DT_D_FALL

/-- DEAD_TIME_UPDATE (R145): one step per 64 cycles of the edge. `diode` is body-diode conduction above 5 ns, `gate` an
outgoing gate still above 1.0 V, `fall` the gate fall time plus 2.5 ns in steps. [DEDUCED: log 33] -/
def execDeadTimeUpdate (p : Fin 6) (edge : Fin 4) (diode gate : Bool) (fall : Nat) (s : State) : Out :=
  .next (let g := s.get R.CNV_PHn_STAT_GROUP p - 1
  let r := deadTime edge
  let v := s.get r p
  if s.on R.CNV_DT_INIT_LEARN && s.on R.CNV_PHn_STAT_SWITCHING p && !s.on R.CNV_Gg_STAT_BURST g &&
      decide ((s.get R.CNV_PH_IMAX : Int) ≤ 10 * s.getS R.CNV_PHn_I p) then
    if gate then s.set r (min (v + 1) 40) p
    else if diode ∧ max fall 2 < v then s.set r (v - 1) p
    else s
  else s)

/-- ZERO_CROSS_UPDATE (R146): body-diode conduction lowers the threshold by 25 mA, a ring raises it, within ±1.000 A; where both
were found it stays. [DESIGN CHOICE: log 88] -/
def execZeroCrossUpdate (p : Fin 6) (diode ring : Bool) (s : State) : Out :=
  .next (if s.on R.CNV_LIGHT_DE_EN && s.on R.CNV_PHn_STAT_SWITCHING p then
    let z := s.getS R.CNV_PHn_ZC_OFS p
    if diode && !ring then s.setS R.CNV_PHn_ZC_OFS (max (z - 1) (-40)) p
    else if ring && !diode then s.setS R.CNV_PHn_ZC_OFS (min (z + 1) 40) p
    else s
  else s)

/-- A phase is shed (R147, R143, R142). -/
def State.shedPhase (s : State) (g p : Nat) : State :=
  let s1 := (((s.switchPhase p false).flag R.CNV_PHn_STAT_SHED true p).countActive g).set R.X_EQ_HOLD 256 g
  ((s1.flag R.X_TUNING false g).phasePeaks g).clear R.X_SHED_LOW g

/-- SHED_EVALUATION (R147, R156): every 32 cycles the phase currents are taken, `de` says whether a phase turned off at
zero-cross, `full` whether an active phase reached CNV_IPK_LIM; phases are shed below 15 % and added back above 30 %, or where
no phase is left active. [DESIGN CHOICE: log 80, 110] -/
def execShedEvaluation (g : Fin 4) (cur : List Int) (de full : Bool) (s : State) : Out :=
  .next (if s.gstate g = 2 ∨ s.gstate g = 3 then
    let s1 := (s.phaseCurrents g cur).flag R.CNV_Gg_STAT_DE (de && s.diode g) g
    let act := s1.active g
    let lim : Int := s1.get R.CNV_PH_IMAX * act.length
    if s1.gstate g = 3 ∧ s1.on R.CNV_LIGHT_SHED_EN ∧ !s1.on R.CNV_Gg_STAT_BURST g then
      let low := decide (100 * s1.activeSum g < 15 * lim)
      let high := decide (30 * lim < 100 * s1.activeSum g)
      let nl := if low then min (s1.get R.X_SHED_LOW g + 1) 8 else 0
      let nh := if high then min (s1.get R.X_SHED_HIGH g + 1) 2 else 0
      let s2 := (s1.set R.X_SHED_LOW nl g).set R.X_SHED_HIGH nh g
      if nh = 2 ∨ full ∨ act = [] ∨ s2.on R.CNV_Gg_STAT_PH_LIMIT g then s2.addBack g
      else if nl = 8 ∧ 2 ≤ act.length then
        match act.getLast? with
        | some p => s2.shedPhase g p
        | none => s2
      else s2
    else s1
  else s)

/-- The burst floor of R148: 5 % of CNV_IPK_LIM. -/
def State.burstFloor (s : State) : Nat := s.get R.CNV_IPK_LIM / 20

/-- BURST (R148, R154): `ev` 0 enters burst, 1 starts a burst, in the region of the last evaluation, 2 ends one (the phase stops),
3 leaves burst. -/
def execBurst (g : Fin 4) (ev : Fin 4) (s : State) : Out :=
  .next (let on1 := (s.usable g).filter (fun p => !s.on R.CNV_PHn_STAT_SHED p)
  let sw := fun (b : Bool) (t : State) => ((on1.foldl (fun u p => u.switchPhase p b) t).countActive g).phasePeaks g
  if s.on R.CNV_Gg_STAT_BURST g then
    match ev with
    | 0 => s
    | 1 => sw true ((s.regionFollow g).set R.CNV_Gg_PEAK s.burstFloor g)
    | 2 => sw false s
    | 3 => sw true ((s.set R.CNV_Gg_PEAK s.burstFloor g).flag R.CNV_Gg_STAT_BURST false g)
  else if ev = 0 ∧ s.gstate g = 3 ∧ s.on R.CNV_LIGHT_BURST_EN ∧ (s.active g).length = 1 ∧
      s.get R.CNV_Gg_PEAK g * 20 < s.get R.CNV_IPK_LIM then
    ((s.set R.CNV_Gg_PEAK s.burstFloor g).flag R.CNV_Gg_STAT_BURST true g).phasePeaks g
  else s)

/-- The side whose high-side FET is held on and has its bootstrap refreshed (R133, R135): the downstream one in buck, the upstream
one in boost. -/
def State.refreshSide (s : State) (g : Nat) : Nat :=
  match s.get R.CNV_Gg_STAT_REGION g with
  | 0 => 2
  | 2 => 1
  | _ => 0

/-- BOOTSTRAP_REFRESH (R135, R152): a refresh pulse of 150 ns, forced or periodic, on the side that is held on; it carries no load
current, and the downstream one runs only while the inductor current exceeds the zero-cross threshold. A periodic one within 4
cycles of a forced one leaves the forced one watched. -/
def execBootstrapRefresh (p : Fin 6) (r : RefreshPulse) (s : State) : Out :=
  .next (let side := s.refreshSide (s.get R.CNV_PHn_STAT_GROUP p - 1)
  if s.on R.CNV_PHn_STAT_SWITCHING p ∧ (side = 1 ∨ side = 2 ∧ s.getS R.CNV_PHn_ZC_OFS p < r.cur) then
    (s.iff (r.forced || 4 < r.since) (fun t => t.flag R.X_BOOT_REF r.forced p)).set R.X_BOOT_SIDE side p
  else s)

/-- Blanking of the current comparator, and the shortest on-time of the controlling switch and off-time of a high-side FET that
switches (R136), ns. -/
def blankNs : Nat := 60
def minOnNs : Nat := 80
def minOffNs : Nat := 150

/-- The on-time that a turn-off asked for at `ns` gives the controlling switch (R136): the upstream high-side stays on for at least
the minimum on-time and leaves its minimum off-time; the downstream low-side leaves the downstream high-side its minimum off-time.
[DESIGN CHOICE: log 73] -/
def State.onTime (s : State) (g ns : Nat) : Nat :=
  if s.get R.X_CTRL_SW g = 2 then max ns (max minOnNs minOffNs)
  else min (max ns minOnNs) (100000 / (10 + s.fswCode) - minOffNs)

/-- PEAK_LIMIT (R136, R147, R152): the sensed current reaches the limit. After blanking the on-time ends, the
cycle is counted, and a shed phase joins. -/
def execPeakLimit (e : TurnOff) (s : State) : Out :=
  .next (if s.on R.CNV_PHn_STAT_SWITCHING e.phase ∧ blankNs ≤ e.ns then
    let g := s.get R.CNV_PHn_STAT_GROUP e.phase - 1
    ((s.inc R.CNV_PHn_PKLIM_CNT e.phase).set R.X_ON_NS (s.onTime g e.ns) e.phase).addBack g
  else s)

/-- NEGATIVE_LIMIT (R140, R146, R149, R152): the synchronous switch of a phase turns off for the rest of the cycle, in diode
emulation at the zero-cross threshold, which DE shows, and in any case below −CNV_INEG_LIM; no latch. -/
def execNegativeLimit (e : NegativeCurrent) (s : State) : Out :=
  .next (let p := e.phase
  let zero := s.diode (s.get R.CNV_PHn_STAT_GROUP p - 1) && decide (e.cur ≤ s.getS R.CNV_PHn_ZC_OFS p)
  if s.on R.CNV_PHn_STAT_SWITCHING p ∧ (zero ∨ e.cur < -(s.get R.CNV_INEG_LIM : Int)) then
    (s.flag R.X_SYNC_OFF true p).iff zero (fun t => t.flag R.CNV_Gg_STAT_DE true (s.get R.CNV_PHn_STAT_GROUP p - 1))
  else s)

/-! ### Protection (R152) -/

/-- A phase is excluded for a cause with its latch, whose condition stands until PH_RETRY (R152). -/
def State.failPhase (s : State) (p cause : Nat) (r : Reg) : State :=
  if s.get R.CNV_PHn_STAT_GROUP p = 0 ∨ s.on R.CNV_PHn_STAT_EXCLUDED p then s
  else (s.excludePhase p cause).latchStand r p

/-- PHASE_SHORT (R152). -/
def execPhaseShort (p : Fin 6) (s : State) : Out := .next (s.failPhase p 2 R.CNV_PH_FAULT_SHORT)

/-- PHASE_OPEN (R152, R149 step 4): of a phase that switches. -/
def execPhaseOpen (p : Fin 6) (s : State) : Out :=
  .next (if s.on R.CNV_PHn_STAT_SWITCHING p then s.failPhase p 1 R.CNV_PH_FAULT_OPEN else s)

/-- BOOTSTRAP_FAULT (R152): low again within 4 cycles after a forced refresh. -/
def execBootstrapFault (p : Fin 6) (s : State) : Out :=
  .next (if s.on R.X_BOOT_REF p then (s.failPhase p 3 R.CNV_FAULT_BOOT).flag R.X_BOOT_REF false p else s)

/-- SYS_OVERVOLTAGE (R152, R153, R209): every gate low, every group TRIPPED, SYS_OV latched; while the battery is charged it is a
detection of its removal. [DEDUCED: log 38] -/
def execSysOvervoltage (s : State) : Out :=
  .next (let s1 := (s.each 4 (fun g t => t.tripGroup g 4)).latchStand R.CNV_FAULT_SYS_OV
  if s1.get R.PP_STATUS_ROLE ≠ 0 ∧ s1.get R.CHG_I_TARGET ≠ 0 then s1.batteryLost else s1)

/-- SYS_OV_CLEAR (R152): SYSS has been below the trip level - 1.00 V for 1 ms. -/
def execSysOvClear (s : State) : Out :=
  .next ((s.each 4 (fun g t => t.endTrip g 4)).ended R.CNV_FAULT_SYS_OV)

/-- INPUT_UNDERVOLTAGE (R152): VBUSg below CNV_IN_UV while the group switches. -/
def execInputUndervoltage (g : Fin 4) (s : State) : Out :=
  .next (if s.active g = [] then s else (s.tripGroup g 3).latchStand R.CNV_FAULT_IN_UV g)

/-- INPUT_UV_CLEAR (R152): VBUSg above CNV_IN_UV + 1.00 V for 100 ms. -/
def execInputUvClear (g : Fin 4) (s : State) : Out := .next ((s.endTrip g 3).ended R.CNV_FAULT_IN_UV g)

/-- DRIVE_SUPPLY_UV (R152): VAUX below 9.0 V trips every group. -/
def execDriveSupplyUv (s : State) : Out :=
  .next ((s.each 4 (fun g t => t.tripGroup g 5)).latchStand R.CNV_FAULT_DRV_UV)

/-- DRIVE_SUPPLY_CLEAR (R152): VAUX above 10.5 V for 1 ms. -/
def execDriveSupplyClear (s : State) : Out :=
  .next ((s.each 4 (fun g t => t.endTrip g 5)).ended R.CNV_FAULT_DRV_UV)

/-- The effect of CNV_CMD.PH_RETRY for one phase (R152): it returns at the next start, or joins a group that
is running, which RUN alone is. [DESIGN CHOICE: log 89] -/
def State.phRetry (s : State) (p : Nat) : State :=
  if s.on R.CNV_PHn_STAT_EXCLUDED p then
    let g := s.get R.CNV_PHn_STAT_GROUP p - 1
    let s1 := ((s.flag R.CNV_PHn_STAT_EXCLUDED false p).setBit R.CNV_STATUS_EXCLUDED p false).set R.CNV_PHn_STAT_CAUSE 0 p
    let s2 := ((s1.ended R.CNV_PH_FAULT_OPEN p).ended R.CNV_PH_FAULT_SHORT p).ended R.CNV_FAULT_BOOT p
    if s.get R.CNV_PHn_STAT_GROUP p = 0 then s2
    else if s2.gstate g = 6 then s2.settleGroup g
    else if s2.gstate g = 3 then s2.joinPhase g p
    else s2
  else s

/-- PH_RETRY (R152). -/
def execPhRetry (p : Fin 6) (s : State) : Out := .next (s.phRetry p)

/-- CNV_CFG_APPLY (R129): a held write is applied once every group is STOPPED. -/
def execCnvCfgApply (s : State) : Out :=
  .next s.mapCheck

end Sys2Proof.Machine
end

