-- ==== Sys2Proof/Machine/Engine.lean ====
section
/-! DEFINITION. The data engine's arithmetic and records, and the queues' housekeeping (R296 to R319): operations that
several commands share. Tracker i = 8 s + c serves channel c of slot s. -/

namespace Sys2Proof.Machine

/-! ### Channels (R283, R299, R301) -/

/-- The class a STATUS byte gives, values 4 to 7 taken as generic (R272, R305). -/
def nodeClass (c : Nat) : Nat := if c < 4 then c else 0

/-- Whether a channel is signed (R283, R301). -/
def signedChan (cls c : Nat) : Bool :=
  match cls with
  | 1 => c == 1 || c == 4
  | 2 => c == 1
  | 3 => false
  | _ => true

/-- Whether a class uses a raw channel (R283). -/
def usedChan (cls c : Nat) : Bool :=
  match cls with
  | 1 | 2 => c < 3
  | 3 => c < 2
  | _ => true

/-- Number of ones in the low `n` bits. -/
def ones (n m : Nat) : Nat := ((List.range n).filter m.testBit).length

/-- A 16-bit code widened in a channel's signedness (R299). -/
def widen (sgn : Bool) (raw : Nat) : Int := if sgn then signed 16 raw else raw

/-- The value of channel `c` in a poll payload; none where it is absent, unused or not available (R283, R296). -/
def chanValue (cls c : Nat) (pl : List Byte) : Option Int :=
  let mask := field pl 1 1
  let raw := field pl (2 + 2 * ones c mask) 2
  let sgn := signedChan cls c
  if !mask.testBit c || !usedChan cls c then none
  else if raw = (if sgn then 0x8000 else 0xFFFF) then none
  else some (widen sgn raw)

/-! ### Tracker arithmetic (R299, R300) -/

/-- The trackers with any alarm set are counted in DE_STATUS (R315). -/
def State.alarmed (s : State) (i : Nat) : Bool :=
  s.on R.DE_Ti_ALARMS_HIGH i || s.on R.DE_Ti_ALARMS_LOW i || s.on R.DE_Ti_ALARMS_SLOPE i || s.on R.DE_Ti_ALARMS_DEV i

/-- DE_STATUS.ALARMS follows a tracker that changed from alarmed `was`. [DEDUCED: log 49] -/
def State.countAlarm (s : State) (i : Nat) (was : Bool) : State :=
  if s.alarmed i = was then s
  else if was then s.set R.DE_STATUS (s.get R.DE_STATUS - 1) else s.set R.DE_STATUS (s.get R.DE_STATUS + 1)

/-- The alarm bits of a tracker, HIGH lowest (R316). -/
def State.alarmBits (s : State) (i : Nat) : Nat :=
  s.get R.DE_Ti_ALARMS_HIGH i + 2 * s.get R.DE_Ti_ALARMS_LOW i + 4 * s.get R.DE_Ti_ALARMS_SLOPE i +
    8 * s.get R.DE_Ti_ALARMS_DEV i

/-- One alarm of R299: cleared without a record while its enable is clear, else set or cleared by its conditions. -/
def nextAlarm (en old set clr : Bool) : Bool := en && ((!old && set) || (old && !clr))

/-- An alarm event: kind 1 to 4, whether it was set, the limit it carries (R299, R304). -/
structure AlarmEvent where
  kind  : Nat
  isSet : Bool
  limit : Int
  deriving DecidableEq, Repr

/-- The event of an alarm that changed while its enable bit is set (R299). [DEDUCED: log 49] -/
def alarmEvent (kind : Nat) (en old new : Bool) (limit : Int) : List AlarmEvent :=
  if en && old != new then [{ kind := kind, isSet := new, limit := limit }] else []

/-- The window step of R299: n, sum, min, max, last; at the window's end the mean and the figures of its TREND record. -/
def State.windowStep (s : State) (i : Nat) (sgn : Bool) (x : Int) : State × Option (Nat × Int × Int × Int) :=
  let first := s.get R.X_TR_N i == 0
  let s0 := if first then
      ((s.set R.X_TR_WIN (s.get R.DE_Ti_WIN i) i).set R.X_TR_K (s.get R.DE_Ti_CTRL_K i) i).set R.X_TR_SUM 0 i
    else s
  let lo := if first then x else min x (widen sgn (s.get R.DE_Ti_MIN i))
  let hi := if first then x else max x (widen sgn (s.get R.DE_Ti_MAX i))
  let n := s.get R.X_TR_N i + 1
  let sum := s0.getS R.X_TR_SUM i + x
  let s1 := (((s0.setS R.DE_Ti_MIN lo i).setS R.DE_Ti_MAX hi i).setS R.DE_Ti_LAST x i).flag R.DE_Ti_ALARMS_VALID true i
  if s0.get R.X_TR_WIN i ≤ n then
    let mean := divZ sum n
    let s2 := ((s1.setS R.DE_Ti_MEAN mean i).set R.X_TR_N 0 i).set R.X_TR_SUM 0 i
    (s2, if s.on R.DE_Ti_CTRL_TREND_EN i then some (n, lo, hi, mean) else none)
  else ((s1.set R.X_TR_N n i).setS R.X_TR_SUM sum i, none)

/-- The limit step of R299. -/
def State.limitStep (s : State) (i : Nat) (sgn : Bool) (x : Int) : State × List AlarmEvent :=
  let hi := widen sgn (s.get R.DE_Ti_HI i)
  let lo := widen sgn (s.get R.DE_Ti_LO i)
  let hyst : Int := s.get R.DE_Ti_HYST i
  let oldH := s.on R.DE_Ti_ALARMS_HIGH i
  let oldL := s.on R.DE_Ti_ALARMS_LOW i
  let enH := s.on R.DE_Ti_CTRL_HI_EN i
  let enL := s.on R.DE_Ti_CTRL_LO_EN i
  let newH := nextAlarm enH oldH (hi < x) (x ≤ hi - hyst)
  let newL := nextAlarm enL oldL (x < lo) (lo + hyst ≤ x)
  ((s.flag R.DE_Ti_ALARMS_HIGH newH i).flag R.DE_Ti_ALARMS_LOW newL i,
    alarmEvent 1 enH oldH newH hi ++ alarmEvent 2 enL oldL newL lo)

/-- The slope step of R299 for a sample at time `t`; the new slope, where it updates. -/
def State.slopeStep (s : State) (i : Nat) (x : Int) (t : Nat) : State × List AlarmEvent × Option Int :=
  let old := s.on R.DE_Ti_ALARMS_SLOPE i
  let en := s.on R.DE_Ti_CTRL_SLOPE_EN i
  let lim : Int := s.get R.DE_Ti_SLOPE i
  let ref := fun (u : State) => ((u.flag R.X_TR_REF true i).setS R.X_TR_XREF x i).set R.X_TR_TREF t i
  let keep := nextAlarm en old false false
  if !s.on R.X_TR_REF i then (ref (s.flag R.DE_Ti_ALARMS_SLOPE keep i), [], none)
  else if s.get R.X_TR_TREF i + s.get R.DE_SLOPE_SPAN * 1000 ≤ t then
    let dt := t - s.get R.X_TR_TREF i
    let v := satS16 (divZ ((x - s.getS R.X_TR_XREF i) * 3600000) dt)
    let new := nextAlarm en old (lim < v.natAbs) (v.natAbs ≤ lim * 3 / 4)
    (ref ((s.flag R.DE_Ti_ALARMS_SLOPE new i).setS R.DE_Ti_SLOPE_NOW v i), alarmEvent 3 en old new lim, some v)
  else (s.flag R.DE_Ti_ALARMS_SLOPE keep i, [], none)

/-- The baseline step of R299. -/
def State.baseStep (s : State) (i : Nat) (x : Int) : State × List AlarmEvent :=
  let base := s.getS R.X_TR_BASE i
  let dev : Int := s.get R.X_TR_DEV i
  let count := s.get R.X_TR_COUNT i
  let k := s.get R.X_TR_K i
  let e := x * 256 - base
  let abs : Int := e.natAbs
  let lim := (s.get R.DE_Ti_CTRL_MULT i : Int) * max dev 256
  let en := s.on R.DE_Ti_CTRL_DEV_EN i
  let old := s.on R.DE_Ti_ALARMS_DEV i
  let new := nextAlarm en old (2 ^ k ≤ count && lim < abs) (abs ≤ lim / 2)
  let s1 := s.flag R.DE_Ti_ALARMS_DEV new i
  let s2 := if count = 0 then (s1.setS R.X_TR_BASE (x * 256) i).set R.X_TR_DEV 0 i
    else if new then s1
    else (s1.setS R.X_TR_BASE (base + e / 2 ^ k) i).setS R.X_TR_DEV (dev + (abs - dev) / 2 ^ k) i
  let count' := min (count + 1) 4096
  let s3 := (s2.set R.X_TR_COUNT count' i).flag R.DE_Ti_ALARMS_ARMED (2 ^ k ≤ count') i
  ((s3.setS R.DE_Ti_BASE (s3.getS R.X_TR_BASE i / 256) i).set R.DE_Ti_DEV (s3.get R.X_TR_DEV i / 256) i,
    alarmEvent 4 en old new (lim / 256))

/-- A node record (R302): the slot as source, its class, the sample time and the flags. -/
def State.nodeRec (s : State) (type slot cls t : Nat) (unsynced derived : Bool) (pl : List Byte) : Rec :=
  { s.mkRec type slot pl with time := t, cls := nodeClass cls, unsynced := unsynced, derived := derived }

/-- Two bytes of a two's complement value. -/
def le2 (x : Int) : List Byte := le 2 (unsigned 16 x)

/-- One sample of an enabled tracker (R298, R299): every step, then its records in order. The slope, where it updated.
[DEDUCED: log 49] -/
def State.sample (s : State) (slot c cls : Nat) (x : Int) (t status : Nat) (unsynced derived : Bool) :
    State × Option Int :=
  let i := 8 * slot + c
  if !s.on R.DE_Ti_CTRL_EN i then (s, none)
  else
    let sgn := signedChan cls c
    let w := s.windowStep i sgn x
    let l := w.1.limitStep i sgn x
    let p := l.1.slopeStep i x t
    let b := p.1.baseStep i x
    let s1 := b.1.countAlarm i (s.alarmed i)
    let base := le 2 (s1.get R.DE_Ti_BASE i)
    let dev := le 2 (s1.get R.DE_Ti_DEV i)
    let slope := le 2 (s1.get R.DE_Ti_SLOPE_NOW i)
    let bits := le 1 (s1.alarmBits i)
    let mk := fun (u : State) (type : Nat) (pl : List Byte) => u.offer (u.nodeRec type slot cls t unsynced derived pl)
    let s2 := (l.2 ++ p.2.1 ++ b.2).foldl (fun u a =>
      mk u (if a.isSet then 0x02 else 0x03) (le 1 c ++ le 1 a.kind ++ le2 x ++ le2 a.limit ++ base ++ slope ++ le 1 status)) s1
    let s3 := s2.iff (s2.on R.DE_Ti_CTRL_SAMPLE_EN i) (fun u =>
      mk u 0x01 (le 1 c ++ le 1 status ++ le2 x ++ base ++ dev ++ slope ++ bits))
    let s4 := match w.2 with
      | some (n, lo, hi, mean) =>
        mk s3 0x04 (le 1 c ++ le 1 (min n 255) ++ le2 lo ++ le2 hi ++ le2 mean ++ base ++ dev ++ slope ++ bits)
      | none => s3
    (s4, p.2.2)

/-- The derived quantities of R301, after the raw channels. -/
def State.derive (s : State) (slot cls : Nat) (pl : List Byte) (t status : Nat) (unsynced : Bool) : State :=
  match cls, chanValue cls 0 pl, chanValue cls 1 pl with
  | 1, some p, some tc =>
    let den := 10 * tc + 27315
    if den ≤ 0 then s
    else
      let atm : Int := s.get R.DE_P_ATM
      let r := s.sample slot 3 1 (clampI 0 65534 (divZ ((p + atm) * 29315) den - atm)) t status unsynced true
      match r.2 with
      | some v => (r.1.sample slot 4 1 (clampI (-32767) 32767 (-v)) t status unsynced true).1
      | none => r.1
  | 3, some p, _ =>
    let i := 8 * slot + 3
    let load := divZ ((p - s.get R.DE_Ti_AUX1 i) * s.get R.DE_Ti_AUX0 i) 4096
    (s.sample slot 3 3 (clampI 0 65534 load) t status unsynced true).1
  | _, _, _ => s

/-- A valid POLL reply reaches the data engine (R296 to R298): its payload, STATUS, and the device time of its SYNC. -/
def State.engineReply (s : State) (slot status : Nat) (pl : List Byte) (sync : Nat) : State :=
  if !s.on R.DE_CTRL_EN || s.bit R.BIST_STATUS_SAFE 1 then s
  else if pl.length < 2 ∨ pl.length ≠ 2 + 2 * ones 8 (field pl 1 1) then s.latch R.DE_FAULT_PAYLOAD
  else
    let cls := nodeClass (status % 8)
    let t := sync - 10 * field pl 0 1
    let unsynced := !status.testBit 4
    let s1 := s.iff unsynced (fun u => u.latch R.DE_FAULT_UNSYNCED)
    let s2 := s1.each 8 (fun c u =>
      match chanValue cls c pl with
      | some x => (u.sample slot c cls x t status unsynced false).1
      | none => u)
    s2.iff (s2.on R.DE_CTRL_DERIVE_EN) (fun u => u.derive slot cls pl t status unsynced)

/-! ### Tracker commands (R300, R315) -/

/-- The registers of one tracker that a slot's release resets (R300). -/
def trackerRegs : List Reg :=
  [R.DE_Ti_LAST, R.DE_Ti_MIN, R.DE_Ti_MAX, R.DE_Ti_MEAN, R.DE_Ti_BASE, R.DE_Ti_DEV, R.DE_Ti_SLOPE_NOW] ++
  [R.DE_Ti_ALARMS_HIGH, R.DE_Ti_ALARMS_LOW, R.DE_Ti_ALARMS_SLOPE, R.DE_Ti_ALARMS_DEV, R.DE_Ti_ALARMS_ARMED,
    R.DE_Ti_ALARMS_VALID] ++
  [R.X_TR_N, R.X_TR_SUM, R.X_TR_WIN, R.X_TR_K, R.X_TR_BASE, R.X_TR_DEV, R.X_TR_COUNT, R.X_TR_REF, R.X_TR_XREF,
    R.X_TR_TREF]

/-- The trackers of a slot return to their reset state without any record (R300). -/
def State.engineRelease (s : State) (slot : Nat) : State :=
  s.each 8 (fun c t => (trackerRegs.foldl (fun u r => u.clear r (8 * slot + c)) t).countAlarm (8 * slot + c)
    (t.alarmed (8 * slot + c)))

/-- RESET_BASE (R315). -/
def State.resetBase (s : State) (i : Nat) : State :=
  (((((s.set R.X_TR_BASE 0 i).set R.X_TR_DEV 0 i).set R.X_TR_COUNT 0 i).set R.DE_Ti_BASE 0 i).set R.DE_Ti_DEV 0 i).flag
    R.DE_Ti_ALARMS_ARMED false i

/-- RESET_WINDOW (R315). -/
def State.resetWindow (s : State) (i : Nat) : State := (s.set R.X_TR_N 0 i).set R.X_TR_SUM 0 i

/-- CLEAR_ALARMS, without records (R315). -/
def State.clearAlarms (s : State) (i : Nat) : State :=
  ((((s.flag R.DE_Ti_ALARMS_HIGH false i).flag R.DE_Ti_ALARMS_LOW false i).flag R.DE_Ti_ALARMS_SLOPE false i).flag
    R.DE_Ti_ALARMS_DEV false i).countAlarm i (s.alarmed i)

/-- The effect of a write of DE_CMD (R315). -/
def State.engineCommand (s : State) (i action : Nat) : State :=
  match action with
  | 1 => s.resetBase i
  | 2 => s.resetWindow i
  | 3 => s.clearAlarms i
  | 4 => ((s.resetBase i).resetWindow i).clearAlarms i
  | _ => s

/-! ### Queues (R306, R307, R313, R314) -/

/-- Evict committed, unpopped records of a queue while it holds more than its capacity, at most `n` of them (R307). -/
def State.evictTo : Nat → State → Nat → State
  | 0, s, _ => s
  | n + 1, s, q =>
    if s.get R.Qq_CAP q < s.held_ q && s.slots.any (QSlot.evictable q) then
      State.evictTo n ({ s with slots := eraseFirst (QSlot.evictable q) s.slots }.inc R.Qq_EVICTED q) q
    else s

/-- The alert term of a queue ends when it holds no unpopped record (R306). [DEDUCED: log 50] -/
def State.alertFollow (s : State) (q : Nat) : State :=
  (s.iff (s.unpopped q).isEmpty (fun t => t.setBit R.Q_ALERT q false)).followAlert

/-- Queue `q`'s refusal summary is offered; accepted, the condition ends and the latch's FAULT_EVENT follows (R313). -/
def State.summaryDue (s : State) (q : Nat) : State :=
  if s.get R.X_RF_COUNT q = 0 then s
  else
    let p := s.admitTo q (s.summaryRec q)
    if p.2 then
      let s1 := { p.1.clearGather q with latched := p.1.latched.filter (fun x => x.1 != q) }
      (p.1.latched.filter (fun x => x.1 == q)).foldl (fun t x => (State.offerN 16 t x.2).1) s1
    else p.1

/-- Q_STATUS.CAP_PENDING while any capacity write waits (R314). -/
def State.capFollow (s : State) : State :=
  s.flag R.Q_STATUS_CAP_PENDING ((List.range 16).any (fun q => s.on R.X_CAP_WAIT q))

/-- A capacity write takes effect: committed records beyond it are evicted (R314). -/
def State.capApply (s : State) (q v : Nat) : State :=
  let s1 := (s.set R.Qq_CAP v q).flag R.X_CAP_WAIT false q
  ((State.evictTo s1.slots.length s1 q).alertFollow q).capFollow

/-- A write of Qq_CAP (R314): held while records of the queue are uncommitted. [DEDUCED: log 50] -/
def State.capWrite (s : State) (q v : Nat) : State :=
  if s.pendingOf q = 0 then s.capApply q v else ((s.set R.X_CAP_NEW v q).flag R.X_CAP_WAIT true q).capFollow

end Sys2Proof.Machine
end

