-- ==== Sys2Proof/Machine/Ring.lean ====
section
/-! DEFINITION. Operations of the journal ring that several commands share (R308, R311, R320 to R333): the head, sector
programs, erases, reads, the boot scan. -/

namespace Sys2Proof.Machine

/-! ### Blocks -/

/-- The uses of the blocks of the die (R322). -/
inductive BlockUse where
  | factory | reserved | grownTable | configCopy (k : Nat) | ring
  deriving DecidableEq, Repr

/-- What a block is used for (R322): 0 to 3 the factory's, 4 and 5 never written, 6 and 7 the grown table, 8 to 31 the
configuration copies, the rest the ring. -/
def blockUse (b : Nat) : BlockUse :=
  if b < 4 then .factory else if b < 6 then .reserved else if b < 8 then .grownTable
  else if b < Config.ringFirst then .configCopy (b / 8 - 1) else .ring

/-- Whether a ring block is bad, from the factory or grown (R327). -/
def State.badBlock (s : State) (b : Nat) : Bool := s.factoryBad.contains b || s.grownBad.contains b

/-- The next good block in ring order, wrapping from the last block to the first (R325); `fuel` bounds the bad ones. -/
def State.goodAfter : Nat → State → Nat → Nat
  | 0, _, b => if Config.ringLast ≤ b then Config.ringFirst else b + 1
  | n + 1, s, b =>
    let c := if Config.ringLast ≤ b then Config.ringFirst else b + 1
    if s.badBlock c then State.goodAfter n s c else c

/-- The block after `b` in ring order. -/
def State.blockAfter (s : State) (b : Nat) : Nat := State.goodAfter (s.factoryBad.length + s.grownBad.length) s b

/-- The first `n` good blocks after `b`. -/
def State.blocksAfter : Nat → State → Nat → List Nat
  | 0, _, _ => []
  | n + 1, s, b => s.blockAfter b :: State.blocksAfter n s (s.blockAfter b)

/-- The block that the next erase takes: one of the re-erase list, else the oldest good one (R326, R341). -/
def State.eraseNext (s : State) : Nat :=
  match (s.retained.map (·.reErase)).getD [] with
  | b :: _ => b
  | [] => s.blockAfter (s.ahead.getLast?.getD (s.get R.JNL_HEAD_BLOCK))

/-- URGENT and STARVED follow the margin (R308); entering STARVED latches (R317). -/
def State.marginFollow (s : State) : State :=
  let n := s.ahead.length
  let s1 := (s.set R.JNL_ERASED_AHEAD (min n 7)).flag R.Q_STATUS_URGENT (n < 4)
  let starved := decide (n ≤ 1)
  let s2 := s1.flag R.Q_STATUS_STARVED starved
  if starved && !s1.on R.Q_STATUS_STARVED then s2.latchStand R.Q_FAULT_B_STARVED
  else if starved then s2 else s2.ended R.Q_FAULT_B_STARVED

/-- A block joins the grown bad-block table (R327): block 6 is rewritten, then block 7; beyond 512 entries it is held in
controller memory alone. [DESIGN CHOICE: log 53] -/
def State.growBad (s : State) (b : Nat) : State :=
  let s1 := { s with grownBad := s.grownBad ++ [b] }
  let n := s1.grownBad.length
  let s1' : State := if n ≤ Config.grownMax then { s1 with table6 := s1.grownBad, table7 := s1.grownBad } else s1
  let s2 := s1'.set R.JNL_BAD_GROWN (min n Config.grownMax)
  (s2.iff (n == Config.grownWorn) (fun t => t.latch R.JNL_FAULT_WORN)).iff (n == Config.grownMax) (fun t =>
    t.latch R.JNL_FAULT_TABLE_FULL)

/-- The head takes page 0 of the next pre-erased block, or waits for one (R325); a step back in block number is a lap. -/
def State.takeBlock (s : State) : State :=
  let s1 := (s.set R.JNL_HEAD_PAGE_PAGE 0).set R.JNL_HEAD_PAGE_SECTOR 0
  match s.ahead with
  | b :: rest =>
    let lap := if b < s.get R.JNL_HEAD_BLOCK then s.get R.JNL_LAP + 1 else s.get R.JNL_LAP
    (({ s1 with ahead := rest }.set R.JNL_HEAD_BLOCK b).set R.JNL_LAP lap).flag R.X_NEED_BLOCK false |>.marginFollow
  | [] => s1.flag R.X_NEED_BLOCK true

/-- The head moves to the next page (R325). -/
def State.nextPage (s : State) : State :=
  if s.get R.JNL_HEAD_PAGE_PAGE = 63 then s.takeBlock
  else (s.set R.JNL_HEAD_PAGE_PAGE (s.get R.JNL_HEAD_PAGE_PAGE + 1)).set R.JNL_HEAD_PAGE_SECTOR 0

/-- The head moves past a programmed sector (R325). -/
def State.advanceHead (s : State) : State :=
  if s.get R.JNL_HEAD_PAGE_SECTOR = 3 then s.nextPage
  else s.set R.JNL_HEAD_PAGE_SECTOR (s.get R.JNL_HEAD_PAGE_SECTOR + 1)

/-! ### Records of the ring -/

/-- The header of a page (R324). -/
def Page.header (p : Page) : List Byte :=
  let b := le 4 0x4C4E4A4C ++ le 1 1 ++ le 1 p.afterPor.toNat ++ le 2 p.lap ++ le 4 p.serial ++ le 4 p.firstSeq ++
    le 6 p.time ++ le 2 p.block ++ le 1 p.page ++ le 5 0
  b ++ le 2 (crc16 b)

/-- The 1024 data bytes of sector `k` of a page (R323): the header in slot 0 of sector 0, the records in the first slots, the
rest 0xFF. -/
def Page.sectorBytes (p : Page) (k : Nat) : List Byte :=
  let recs := ((p.sectors[k]?).map (·.recs)).getD []
  let bytes := (if k = 0 then p.header else []) ++ (recs.map Rec.image).flatten
  bytes ++ List.replicate (1024 - bytes.length) 0xFF

/-- The spare bytes of page `p` of a ring block (R321): the bad-block mark of page 0, the BCH parity of each programmed sector, the
rest 0xFF. [DESIGN CHOICE: log 114] -/
def Page.spare (p : Page) (bad : Bool) : List Byte :=
  let mark := if p.page = 0 ∧ bad then [0x00, 0x00] else [0xFF, 0xFF]
  mark ++ List.replicate 30 0xFF ++ ((List.range 4).map (fun k =>
    (if k < p.sectors.length then (List.range 28).map (Config.bchParity (p.sectorBytes k)) else List.replicate 28 0xFF) ++
      List.replicate 4 0xFF)).flatten ++ List.replicate 96 0xFF

/-- Every committed record of a page, and of the ring, in SEQ order (R323, R325): those of a torn sector count as lost (R343). -/
def Page.recs (p : Page) : List Rec := ((p.sectors.filter (fun c => !c.torn)).map (·.recs)).flatten
def State.ringRecs (s : State) : List Rec := (s.ring.map Page.recs).flatten

/-- JNL_OLDEST_SEQ and JNL_NEWEST_SEQ follow the ring (R326, R344). [DEDUCED: log 52] -/
def State.ringFollow (s : State) : State :=
  let rs := s.ringRecs
  (s.set R.JNL_OLDEST_SEQ ((rs.head?.map (·.seq)).getD 0)).set R.JNL_NEWEST_SEQ ((rs.getLast?.map (·.seq)).getD 0)

/-- Add a programmed sector to the ring: sector 0 opens a page (R323 to R325). -/
def State.addSector (s : State) (recs : List Rec) (torn : Bool) (time : Nat) : State :=
  let sec : Sector := { recs := recs, torn := torn }
  if s.get R.JNL_HEAD_PAGE_SECTOR = 0 then
    let page : Page :=
      { block := s.get R.JNL_HEAD_BLOCK, page := s.get R.JNL_HEAD_PAGE_PAGE, lap := s.get R.JNL_LAP,
        serial := s.get R.X_SERIAL, firstSeq := (recs.head?.map (·.seq)).getD 0, time := time,
        afterPor := s.on R.X_FIRST_POR, sectors := [sec] }
    ({ s with ring := s.ring ++ [page] }.set R.X_SERIAL (s.get R.X_SERIAL + 1)).flag R.X_FIRST_POR false
  else
    match s.ring.getLast? with
    | some p => { s with ring := s.ring.dropLast ++ [{ p with sectors := p.sectors ++ [sec] }] }
    | none => s

/-- Update the first `n` uncommitted records in acceptance order. -/
def mapPending (f : QSlot → QSlot) : Nat → List QSlot → List QSlot
  | 0, xs => xs
  | _, [] => []
  | n + 1, x :: t => if x.committed then x :: mapPending f (n + 1) t else f x :: mapPending f n t

/-! ### Sector programs (R308, R309, R311) -/

/-- Whether the die may start a program (R308, R311, R341): powered, free, out of Thermal Hold and of Ride-Through but
in a cut-off sequence. -/
def State.dieFree (s : State) : Bool :=
  s.on R.JNL_STATUS_DIE_ON && s.program.isNone && (s.erase.all (·.suspended)) && !s.on R.MODE_STATUS_THERM_ACTIVE &&
    (!s.on R.MODE_STATUS_RIDE_ACTIVE || s.on R.X_CUTOFF) && !s.bit R.BIST_STATUS_SAFE 2

/-- Whether a Red or Amber record is pending. -/
def State.urgentPending (s : State) : Bool := s.slots.any (fun x => !x.committed && x.dclass != 0)

/-- Whether every accepted record is to be committed at once (R60, R205, R333). -/
def State.flushing (s : State) : Bool := s.on R.X_FLUSH || s.on R.X_CUTOFF || s.on R.X_SHIP_OFF

/-- A sector program of the oldest pending records starts (R308, R323). -/
def State.startProgram (s : State) : State :=
  let cap := if s.get R.JNL_HEAD_PAGE_SECTOR = 0 then 31 else 32
  let p : Program := { records := min cap s.uncommitted, store := false, tick := s.get R.X_GOOD, time := s.now }
  if s.dieFree && s.uncommitted != 0 && !s.on R.X_NEED_BLOCK then { s with program := some p } else s

/-- A record as it is committed (R302, R311): LATE where its deadline has passed in plain device time, DEFERRED where its wait
included time under Ride-Through. [DEDUCED: log 51] -/
def State.commitRec (s : State) (x : QSlot) : QSlot :=
  let late := decide (deadlineUs x.dclass < (s.now - x.at_ms) * 1000)
  let deferred := x.waited || s.on R.MODE_STATUS_RIDE_ACTIVE
  { x with record := { x.record with late := x.record.late || late, deferred := x.record.deferred || deferred },
           committed := true }

/-- The counters of a record committed now (R311, R317): LATE, Q_WORST. -/
def State.commitCount (s : State) (x : QSlot) : State :=
  let wait := min (ticksToUs (s.get R.X_GOOD - x.goodTick) / 10) 65535
  let s1 := s.set R.Q_WORST (max (s.get R.Q_WORST) wait)
  if x.record.late then (s1.inc R.Qq_LATE x.record.queue).latch R.Q_FAULT_B_LATE else s1

/-- The slots whose records are both committed and popped are free again (R307). -/
def State.freeSlots (s : State) : State := { s with slots := s.slots.filter (fun x => !(x.committed && x.popped)) }

/-- The sector program running has made its records durable (R320). -/
def State.commitSector (s : State) (p : Program) : State :=
  let slots : List QSlot := mapPending s.commitRec p.records s.slots
  let done : List QSlot := ((s.slots.filter (fun x => !x.committed)).take p.records).map s.commitRec
  let s0 : State := { s with slots := slots, program := none }
  let s1 := s0.addSector (done.map QSlot.record) false p.time
  let s2 := (s1.advanceHead.ringFollow).freeSlots
  (done.foldl State.commitCount s2).saveRetained

/-! ### Erases (R308, R326, R341) -/

/-- Whether the projection of R309 leaves every pending record 1.2 ms of slack (R308). -/
def State.slackOk (s : State) : Bool :=
  let p := s.slots.filter (fun x => !x.committed)
  (List.range p.length).all (fun j =>
    match p[j]? with
    | some x =>
      let wait := if x.dclass = 0 then Config.tFill else 0
      let per := Config.tSec + (if s.on R.Q_STATUS_URGENT && x.dclass != 2 then Config.tIl else 0)
      let waited := ticksToUs (s.get R.X_GOOD - x.goodTick)
      s.tRun + Config.tSus + wait + (j + 1 + 30) / 31 * per + waited + 1200 ≤ deadlineUs x.dclass
    | none => true)

/-- Whether an erase slice may run now (R308). -/
def State.sliceOk (s : State) : Bool :=
  s.on R.JNL_STATUS_DIE_ON && s.program.isNone && !s.on R.MODE_STATUS_THERM_ACTIVE && !s.bit R.BIST_STATUS_SAFE 2 &&
    (s.uncommitted == 0 || (!s.slots.any (fun x => !x.committed && x.dclass == 2) && s.slackOk))

/-- The erase in progress ends, in whatever way: no erase. -/
def State.eraseOver (s : State) : State :=
  ({ s with erase := none }.flag R.JNL_STATUS_ERASING false).flag R.JNL_STATUS_SUSPENDED false

/-- A block leaves the re-erase list of the retained record (R329). -/
def State.reErased (s : State) (b : Nat) : State :=
  s.editRetained (fun r => { r with reErase := r.reErase.filter (· != b) })

/-- A ring block is erased: its records leave the journal, and it stands ahead of the head (R326). -/
def State.blockErased (s : State) (b : Nat) : State :=
  let s1 := { s with ring := s.ring.filter (fun p => p.block != b), ahead := s.ahead ++ [b] }
  let s2 := ((s1.reErased b).ringFollow).marginFollow
  (if s2.on R.X_NEED_BLOCK then s2.takeBlock else s2).saveRetained

/-- A thermal stop aborts the erase in progress; a ring block joins the re-erase list (R341 step 2). [DESIGN CHOICE: log 21] -/
def State.abortErase (s : State) : State :=
  match s.erase with
  | some e =>
    let s1 := s.eraseOver
    if e.store then s1
    else s1.editRetained (fun r => { r with reErase := (r.reErase.filter (· != e.block) ++ [e.block]).take 4 })
  | none => s

/-! ### Ride-Through (R311, R422) -/

/-- Ride-Through ends: every record still pending has waited through excluded time and will carry DEFERRED (R302, R311). -/
def State.deferPending (s : State) : State :=
  { s with slots := s.slots.map (fun x => if x.committed then x else { x with waited := true }) }

/-! ### Reads (R328, R383) -/

/-- Whether SEQ `a` stands at or before SEQ `b`, modulo 2^32. [DEDUCED: log 52] -/
def seqLe (a b : Nat) : Bool := (b + 2 ^ 32 - a) % 2 ^ 32 < 2 ^ 31

/-- The sectors of the ring, oldest first. -/
def State.ringSectors (s : State) : List Sector := (s.ring.map (·.sectors)).flatten

/-- The slots of the ring from a SEQ on, at most `n`, each with whether it can be read: those of `lost`, in sectors that cannot be
corrected, fail their own CRC (R328). None is read beyond the newest committed record (R383), nor while P2 is in its safe state
(R454). [DEDUCED: log 52] -/
def State.readRing (s : State) (first n : Nat) (lost : List Nat) : List (Rec × Bool) :=
  let all := (s.ringSectors.map (·.recs)).flatten.map (fun r => (r, !lost.contains r.seq))
  if s.ringRecs.isEmpty || !seqLe first (s.get R.JNL_NEWEST_SEQ) || s.bit R.BIST_STATUS_SAFE 2 then []
  else (all.filter (fun p => seqLe first p.1.seq)).take n

/-- How many sectors of a read cannot be corrected (R328): those with a slot among `rs` that are torn or have a slot that fails its
CRC. -/
def State.badSectors (s : State) (rs : List (Rec × Bool)) : Nat :=
  (s.ringSectors.filter (fun c => c.recs.any (fun r => rs.any (fun p => p.1.seq == r.seq && (c.torn || !p.2))))).length

/-! ### Boot scan (R43, R329 to R332) -/

/-- The newest committed SEQ (R330 step 3): that of the last record whose sector decodes. -/
def State.lastSeq (s : State) : Option Nat :=
  (s.ringRecs.getLast?).map (·.seq)

/-- The newest device time of the head page, the last one opened (R330 step 3); none for an empty ring. -/
def State.newestTime (s : State) : Option Nat :=
  (s.ring.getLast?).map (fun p => p.recs.foldl (fun t r => max t r.time) p.time)

/-- The next SEQ, and the range and the UNKNOWN flag of the GAP record where one is due (R331). -/
def State.nextAndGap (s : State) : Nat × Option (Nat × Nat × Bool) :=
  match s.retained, s.lastSeq with
  | some r, some l =>
    if (r.nextSeq + 2 ^ 32 - (l + 1)) % 2 ^ 32 = 0 ∨ !seqLe (l + 1) r.nextSeq then (r.nextSeq, none)
    else (r.nextSeq, some ((l + 1) % 2 ^ 32, (r.nextSeq + 2 ^ 32 - 1) % 2 ^ 32, false))
  | some r, none => (r.nextSeq, none)
  | none, some l => ((l + 8193) % 2 ^ 32, some ((l + 1) % 2 ^ 32, (l + 8192) % 2 ^ 32, true))
  | none, none => (0, none)

/-- The payload of the GAP record (R332). -/
def gapPayload (first last : Nat) (unknown torn hint : Bool) (time : Nat) : List Byte :=
  le 1 (unknown.toNat + 2 * torn.toNat + 4 * hint.toNat) ++ le 1 1 ++ le 4 first ++ le 4 last ++ le 6 time

/-- The head stands at a page, with its next sector and its lap. -/
def State.headAt (s : State) (block page sector lap : Nat) : State :=
  (((s.set R.JNL_HEAD_BLOCK block).set R.JNL_HEAD_PAGE_PAGE page).set R.JNL_HEAD_PAGE_SECTOR sector).set R.JNL_LAP lap

/-- Whether the retained record names a page that is yet to be opened, in a good block (R325, R330): the head stands there. -/
def State.headAhead (s : State) (r : Retained) : Bool :=
  r.sector == 0 && !s.badBlock r.block && decide (Config.ringFirst ≤ r.block) &&
    !s.ring.any (fun p => p.block == r.block && p.page == r.page)

/-- Whether the retained record names a page: its block, page and lap. -/
def Retained.names (r : Retained) (p : Page) : Bool := p.block == r.block && p.page == r.page && p.lap == r.lap

/-- Whether a page that the retained record names is confirmed as the head page (R330 step 1): no PAGE_SERIAL is higher, and its
first SEQ lies before the next SEQ. -/
def State.headConfirmed (s : State) (r : Retained) (p : Page) : Bool :=
  r.names p && seqLe p.firstSeq r.nextSeq && s.ring.all (fun q => seqLe q.serial p.serial)

/-- The head page (R330 steps 1 and 2): the one that the retained record names, where it is confirmed; else the search finds the one
with the highest PAGE_SERIAL. -/
def State.headPage (s : State) : Option Page :=
  match s.retained.bind (fun r => s.ring.find? (s.headConfirmed r)) with
  | some p => some p
  | none => s.ring.getLast?

/-- The head is found (R325, R330): the page yet to be opened that the retained record names, or the head page; whether it moves on:
after a POR, from a full page, and out of a bad block. -/
def State.findHead (s : State) (por : Bool) : State × Bool :=
  let s0 := (s.iff (!s.ring.isEmpty) (fun t => t.set R.X_SERIAL (((s.ring.getLast?.map (·.serial)).getD 0) + 1))).flag
    R.X_NEED_BLOCK false
  match s.retained.filter s.headAhead, s.headPage with
  | some r, _ => (s0.headAt r.block r.page 0 r.lap, false)
  | none, none => (s0.headAt (s.blockAfter Config.ringLast) 0 0 0, false)
  | none, some p => (s0.headAt p.block p.page (p.sectors.length % 4) p.lap, por || p.sectors.length == 4 || s.badBlock p.block)

/-- The first `n` blocks of a list whose erase does not fail, and the ones before them that do (R327). -/
def takeGood : Nat → List Nat → List Nat → List Nat × List Nat
  | 0, _, _ => ([], [])
  | _, _, [] => ([], [])
  | n + 1, worn, b :: t =>
    if worn.contains b then ((takeGood (n + 1) worn t).1, b :: (takeGood (n + 1) worn t).2)
    else (b :: (takeGood n worn t).1, (takeGood n worn t).2)

/-- The erases of the boot scan (R330 step 4): the re-erase list, or the four good blocks after the head block; those of `worn`
fail (R327). [DESIGN CHOICE: log 118] -/
def State.scanErase (s : State) (worn : List Nat) : State :=
  let head := s.get R.JNL_HEAD_BLOCK
  let e := match s.retained with
    | some r => takeGood r.reErase.length worn r.reErase
    | none => takeGood 4 worn (State.blocksAfter (4 + worn.length) s head)
  let kept := if s.retained.isSome then s.ahead.filter (fun b => !e.1.contains b && !e.2.contains b) else []
  let s1 : State := { s with ahead := kept ++ e.1, ring := s.ring.filter (fun p => !e.1.contains p.block || p.block == head) }
  (e.2.foldl (fun t b => (t.growBad b).latch R.JNL_FAULT_ERASE_FAIL) s1).editRetained (fun r => { r with reErase := [] })

/-- The head is found and the margin restored (R325, R330 steps 1 to 4). After a POR writing resumes at the next unopened page; a
bad block is never entered again (R327). [DEDUCED: log 17] -/
def State.scanHead (s : State) (por : Bool) (worn : List Nat) : State :=
  let h := s.findHead por
  let s1 := h.1.scanErase worn
  let s2 := if !h.2 then s1 else if s1.badBlock (s1.get R.JNL_HEAD_BLOCK) then s1.takeBlock else s1.nextPage
  (s2.marginFollow.ringFollow).flag R.X_FIRST_POR por

/-- The boot scan up to step 5 (R43, R330, R331): HINT_USED, head, margin, device time seeded, the next SEQ, acceptance
enabled. The GAP record due, where one is. [DEDUCED: log 17] -/
def State.bootScan (s : State) (por : Bool) (worn : List Nat) : State × Option (List Byte) :=
  let hint := s.retained.isSome
  let ng := s.nextAndGap
  let torn := (s.ring.getLast?.map (fun p => p.sectors.any (·.torn))).getD false
  let newest := s.newestTime
  let s1 := (s.scanHead por worn).flag R.JNL_STATUS_HINT_USED hint
  let s2 := match newest with
    | some t => if por then (s1.set R.DEV_TIME (s1.now + t + 1)).flag R.DEV_CLK_TIME_SEEDED true else s1
    | none => s1
  let s3 := (((s2.set R.JNL_NEXT_SEQ ng.1).set R.JNL_BAD_FACTORY s2.factoryBad.length).set R.JNL_BAD_GROWN
    (min s2.grownBad.length Config.grownMax)).flag R.JNL_STATUS_SCAN_DONE true
  match ng.2 with
  | some (a, b, unknown) =>
    -- the latch comes before acceptance is enabled, so that its FAULT_EVENT is held (R39)
    let s4 := ((s3.flag R.JNL_STATUS_SCAN_DONE false).latch R.JNL_FAULT_GAP).flag R.JNL_STATUS_SCAN_DONE true
    (s4.saveRetained, some (gapPayload a b unknown torn hint (newest.getD 0)))
  | none => (s3.saveRetained, none)

end Sys2Proof.Machine
end

