-- ==== Sys2Proof/Machine/Store.lean ====
section
/-! DEFINITION. The configuration store (R334 to R342): slots, selection, store operations and their steps, CFG_EVENT
records and the CFG_ registers that follow. Copies 0, 1 and 2 are A, B and C. -/

namespace Sys2Proof.Machine

/-! ### Slots and selection (R336, R338) -/

/-- The 32 bytes of a store record (R335): kind, byte 5, commit counter, version, then what bytes 14 to 27 hold. -/
def storeRecord (kind mark counter version length crc time period : Nat) : List Byte :=
  let b := le 4 0x4746434C ++ le 1 kind ++ le 1 mark ++ le 4 counter ++ le 4 version ++ le 2 length ++ le 4 crc ++ le 6 time ++
    le 2 period ++ le 2 0
  b ++ le 2 (crc16 b)

/-- The start of page 4, 5 or 6 of a slot (R334, R335): the slot, revoke and confirm records, where they are written. -/
def CfgSlot.storePage (c : CfgSlot) (page : Nat) : List Byte :=
  match c.slotRec, page with
  | some r, 4 => storeRecord 1 r.trial.toNat r.counter r.version r.length r.crc32 r.time r.period
  | some r, 5 => (c.revoke.map (fun why => storeRecord 2 why r.counter r.version 0 0 c.revokeAt 0)).getD []
  | some r, 6 => if c.confirm then storeRecord 3 0 r.counter r.version 0 0 c.confirmAt 0 else []
  | _, _ => []

/-- The 4096 data bytes of a page of a slot (R334): the image in pages 0 to 3, then the records; the rest 0xFF. -/
def CfgSlot.page (c : CfgSlot) (p : Nat) : List Byte :=
  let bytes := if p < 4 then (c.image.drop (4096 * p)).take 4096 else c.storePage p
  bytes ++ List.replicate (4096 - bytes.length) 0xFF

/-- Whether a slot is intact: its image's length and CRC-32 match its slot record (R336). -/
def CfgSlot.intact (c : CfgSlot) : Bool :=
  match c.slotRec with
  | some r => c.image.length == r.length && crc32 (c.image.drop 32) == r.crc32
  | none => false

/-- Whether a slot is eligible (R336). -/
def CfgSlot.eligible (c : CfgSlot) : Bool := c.intact && c.revoke.isNone

/-- Commit counter and version of a slot; 0 without a slot record. -/
def CfgSlot.counter (c : CfgSlot) : Nat := (c.slotRec.map (·.counter)).getD 0
def CfgSlot.version (c : CfgSlot) : Nat := (c.slotRec.map (·.version)).getD 0

/-- Whether two slots agree (R336). -/
def CfgSlot.agrees (a b : CfgSlot) : Bool := a.counter == b.counter && a.image == b.image

/-- Whether a copy is in service (R334). -/
def CfgCopy.inService (c : CfgCopy) : Bool := 3 ≤ c.good

/-- The eligible slots of a copy in service. -/
def CfgCopy.usable (c : CfgCopy) : List CfgSlot := if c.inService then c.slots.filter (·.eligible) else []

/-- The slot with the highest commit counter of a list. -/
def newestSlot (l : List CfgSlot) : Option CfgSlot :=
  l.foldl (fun best c => match best with
    | some b => if b.counter < c.counter then some c else some b
    | none => some c) none

/-- A copy's active slot (R336). -/
def CfgCopy.active (c : CfgCopy) : Option CfgSlot := newestSlot c.usable

/-- Whether a copy holds an eligible slot that agrees with a given one. -/
def CfgCopy.holds (c : CfgCopy) (x : CfgSlot) : Bool := c.usable.any (fun y => y.agrees x)

/-- How many copies hold a given version. -/
def State.holders (s : State) (x : CfgSlot) : Nat := (s.copies.filter (fun c => c.holds x)).length

/-- The choice of R338: the step, and the version of steps 1 and 2. -/
def State.selectBoot (s : State) : Nat × Option CfgSlot :=
  let actives := s.copies.filterMap (·.active)
  match actives.find? (fun a => 2 ≤ (actives.filter (fun b => b.agrees a)).length) with
  | some a => (1, some a)
  | none =>
    match newestSlot ((s.copies.map (·.usable)).flatten.filter (fun a => 2 ≤ s.holders a)) with
    | some a => (2, some a)
    | none => (3, none)

/-- The previous version: the eligible slot with the highest commit counter below that of the version in force (R336) that two
copies hold, since a slot of one copy is never loaded (R338). [DEDUCED: log 56] -/
def State.prevSlot (s : State) : Option CfgSlot :=
  match s.loaded with
  | some x => newestSlot ((s.copies.map (·.usable)).flatten.filter (fun y => y.counter < x.counter && 2 ≤ s.holders y))
  | none => none

/-! ### The CFG_ registers and CFG_EVENT (R340, R345) -/

/-- The copies for which a test holds, A lowest. -/
def State.copyMask (s : State) (f : CfgCopy → Bool) : Nat :=
  (List.range 3).foldl (fun m k => match s.copies[k]? with
    | some c => if f c then m + 2 ^ k else m
    | none => m) 0

/-- The copies that hold the version in force. -/
def State.agreeMask (s : State) : Nat :=
  match s.loaded with
  | some x => s.copyMask (fun c => c.holds x)
  | none => 0

/-- The CFG_ registers follow the store and the version in force (R345). -/
def State.storeRegs (s : State) : State :=
  let s1 := ((s.set R.CFG_STATUS_AGREE s.agreeMask).set R.CFG_STATUS_COPY_OK (s.copyMask (·.inService))).flag
    R.CFG_STATUS_NO_PREVIOUS s.prevSlot.isNone
  let s2 := (s1.flag R.CFG_STATUS_BUSY (!s.storeOps.isEmpty)).set R.CFG_PREV_VER ((s.prevSlot.map (·.version)).getD 0)
  ((s2.set R.CFG_ACTIVE_VER ((s.loaded.map (·.version)).getD 0)).set R.CFG_COMMIT_CNT
    ((s.loaded.map (·.counter)).getD 0)).set R.CFG_LOADED_LEN ((s.loaded.map (·.image.length)).getD 0)

/-- A CFG_EVENT record (R340) that names a version in force and another version. [DEDUCED: log 56] -/
def State.cfgEventOf (s : State) (event detail : Nat) (force : Option CfgSlot) (other : Nat) : State :=
  let mask := match force with
    | some x => s.copyMask (fun c => c.holds x)
    | none => 0
  s.record 0x22 0x8A (le 1 event ++ le 1 detail ++ le 4 ((force.map (·.version)).getD 0) ++
    le 4 ((force.map (·.counter)).getD 0) ++ le 4 other ++ le 1 mask ++ le 1 0)

/-- A CFG_EVENT about the version in force, with the previous version (R340). [DEDUCED: log 56] -/
def State.cfgEvent (s : State) (event detail : Nat) : State :=
  s.cfgEventOf event detail s.loaded ((s.prevSlot.map (·.version)).getD 0)

/-! ### Steps (R337, R339) -/

/-- Update one copy. -/
def State.onCopy (s : State) (k : Nat) (f : CfgCopy → CfgCopy) : State :=
  { s with copies := (List.range s.copies.length).zip s.copies |>.map (fun p => if p.1 = k then f p.2 else p.2) }

/-- Copy `k`. -/
def State.copy (s : State) (k : Nat) : CfgCopy := (s.copies[k]?).getD { slots := [], good := 0 }

/-- Update the last slot of a copy. -/
def CfgCopy.onLast (c : CfgCopy) (f : CfgSlot → CfgSlot) : CfgCopy :=
  match c.slots.getLast? with
  | some x => { c with slots := c.slots.dropLast ++ [f x] }
  | none => c

/-- Update the slots of a copy that agree with a given one. -/
def CfgCopy.onSlot (c : CfgCopy) (x : CfgSlot) (f : CfgSlot → CfgSlot) : CfgCopy :=
  { c with slots := c.slots.map (fun y => if y.agrees x then f y else y) }

/-- Whether an operation is a repair. -/
def StoreKind.isRepair : StoreKind → Bool
  | .repair _ => true
  | _ => false

/-- A slot that holds no slot record yet. -/
def CfgSlot.fresh (image : List Byte) : CfgSlot :=
  { image := image, slotRec := none, revoke := none, revokeAt := 0, confirm := false, confirmAt := 0 }

/-- The version of an operation, as its slot stands once written. -/
def StoreOp.slot (op : StoreOp) : CfgSlot := { CfgSlot.fresh op.image with slotRec := some op.slotRec }

/-- The slot with the lowest commit counter of a list. -/
def oldestSlot (l : List CfgSlot) : Option CfgSlot :=
  l.foldl (fun best x => match best with
    | some b => if x.counter < b.counter then some x else some b
    | none => some x) none

/-- The slot that an erase of a copy takes (R337 step 3, R339): one that is not eligible; for a repair then one above the version
repaired; else the eligible one with the lowest counter. Never the one in force, nor the one that the operation has written.
[DESIGN CHOICE: log 54] -/
def State.eraseChoice (s : State) (c : CfgCopy) (op : StoreOp) : Option CfgSlot :=
  let keep := fun (x : CfgSlot) => (s.loaded.map (fun y => y.agrees x)).getD false || (x.slotRec.isSome && x.agrees op.slot)
  let others := c.slots.filter (fun x => !keep x)
  match others.find? (fun x => !x.eligible) with
  | some x => some x
  | none =>
    match (if op.kind.isRepair then others.find? (fun x => op.slotRec.counter < x.counter) else none) with
    | some x => some x
    | none => oldestSlot others

/-- The copy that a step writes. -/
def StoreStep.copy : StoreStep → Nat
  | .image k _ => k | .slotRecord k => k | .erase k => k | .revoke k => k | .confirm k => k

/-- Whether a step is an erase. -/
def StoreStep.isErase : StoreStep → Bool
  | .erase _ => true
  | _ => false


/-- Bytes of image page `p`, of 4096. -/
def imagePages (image : List Byte) (p : Nat) : List Byte := image.take (4096 * (p + 1))

/-- What a completed step leaves in its copy (R334, R337): a slot record carries the device time of its own writing, and a mark goes
to the version that the operation names (R335). -/
def State.stepDone (s : State) (op : StoreOp) (st : StoreStep) : State :=
  match st with
  | .image k p =>
    s.onCopy k (fun c => if p = 0 then { c with slots := c.slots ++ [CfgSlot.fresh (imagePages op.image 0)] }
      else c.onLast (fun x => { x with image := imagePages op.image p }))
  | .slotRecord k => s.onCopy k (fun c => c.onLast (fun x => { x with slotRec := some { op.slotRec with time := s.now } }))
  | .erase k =>
    s.onCopy k (fun c => match s.eraseChoice c op with
      | some x => { c with slots := c.slots.erase x }
      | none => c)
  | .revoke k =>
    let reason := match op.kind with
      | .revert r => r
      | _ => 0
    s.onCopy k (fun c => c.onSlot op.slot (fun y => { y with revoke := some reason, revokeAt := s.now }))
  | .confirm k => s.onCopy k (fun c => c.onSlot op.slot (fun y => { y with confirm := true, confirmAt := s.now }))

/-- Whether a step counts toward the second record that makes an operation take effect (R337). -/
def StoreStep.counts : StoreStep → Bool
  | .slotRecord _ => true | .revoke _ => true | .confirm _ => true
  | _ => false

/-- Whether a step has nothing to do: its copy is out of service, an erase finds a spare, a revoke or confirm finds no
slot of the version in force. -/
def State.stepIdle (s : State) (st : StoreStep) : Bool :=
  let c := s.copy st.copy
  !c.inService || (match st with
    | .erase _ => decide (c.slots.length < 3)
    | _ => false)

/-- Drop the leading steps that have nothing to do. -/
def State.dropIdle (s : State) : List StoreStep → List StoreStep
  | [] => []
  | x :: t => if s.stepIdle x then s.dropIdle t else x :: t

/-- The image pages of one copy. -/
def imageSteps (k : Nat) : List StoreStep := [.image k 0, .image k 1, .image k 2, .image k 3]

/-- The steps of a commit (R337): a copy that has no spare erases one first. -/
def State.commitSteps (s : State) : List StoreStep :=
  let ks := (List.range 3).filter (fun k => (s.copy k).inService)
  ks.filterMap (fun k => if 3 ≤ (s.copy k).slots.length then some (StoreStep.erase k) else none) ++
    (ks.map imageSteps).flatten ++ ks.map StoreStep.slotRecord ++ ks.map StoreStep.erase

/-- The steps of a revert or a confirm, on the copies that hold the version in force. -/
def State.markSteps (s : State) (f : Nat → StoreStep) : List StoreStep :=
  ((List.range 3).filter (fun k => match s.loaded with
    | some x => (s.copy k).holds x
    | none => false)).map f

/-- The steps that write a given slot's image and record again into copy `k`, with a confirm record where it has one,
and restore the spare (R339). [DESIGN CHOICE: log 54] -/
def State.repairSteps (s : State) (k : Nat) (confirm : Bool) : List StoreStep :=
  (if 3 ≤ (s.copy k).slots.length then [StoreStep.erase k] else []) ++ imageSteps k ++ [.slotRecord k] ++
    (if confirm then [.confirm k] else []) ++ [.erase k]

/-- The slot record of an operation that does not write one. -/
def SlotRec.none : SlotRec := { trial := false, counter := 0, version := 0, length := 0, crc32 := 0, time := 0, period := 0 }

/-- Append a store operation that has something to write; CFG_STATUS.BUSY follows, and the die is powered for it (R37). -/
def State.pushOp (s : State) (kind : StoreKind) (image : List Byte) (r : SlotRec) (steps : List StoreStep) : State :=
  let op : StoreOp := { kind := kind, image := image, slotRec := r, steps := steps, written := 0 }
  if steps.isEmpty then s.storeRegs else { s with storeOps := s.storeOps ++ [op] }.storeRegs.startVpre

/-- A mark on the version in force begins on the copies that hold it: revoke or confirm records (R335, R337). -/
def State.pushMark (s : State) (kind : StoreKind) (f : Nat → StoreStep) : State :=
  match s.loaded with
  | some x => s.pushOp kind x.image (x.slotRec.getD SlotRec.none) (s.markSteps f)
  | none => s

/-- Whether a version is on trial (R345, R393). -/
def State.onTrial (s : State) : Bool := s.on R.CFG_STATUS_TRIAL

/-- A revert of the version in force begins, with its reason (R335, R393, R394). [DESIGN CHOICE: log 54] -/
def State.startRevert (s : State) (reason : Nat) : State := (s.flag R.CFG_STATUS_TRIAL false).pushMark (.revert reason) .revoke

/-- A confirm of the version on trial begins, unless one runs (R393, R394, R398). [DESIGN CHOICE: log 54] -/
def State.startConfirm (s : State) : State :=
  if s.storeOps.any (fun o => o.kind == .confirm) then s else s.pushMark .confirm .confirm

/-- The trial ends by self-rejection (R393): revoke records with reason 3. -/
def State.selfReject (s : State) : State := if s.onTrial then s.startRevert 3 else s

/-- The highest commit counter of any copy (R337). -/
def State.topCounter (s : State) : Nat :=
  ((s.copies.map (·.slots)).flatten.map (·.counter)).foldl max 0

/-! ### The end of an operation -/

/-- The staging buffer returns to EMPTY (R390). -/
def State.stageEmpty (s : State) : State := (s.set R.X_STAGE 0).set R.X_STAGE_TOP 0

/-- A commit is abandoned with a CFG_EVENT detail (R337, R340, R390). -/
def State.commitAborted (s : State) (detail : Nat) : State :=
  ((s.latch R.CFG_FAULT_COMMIT_ABORT).stageEmpty.storeRegs).cfgEvent 0x07 detail

/-- A commit of an image begins (R337, R390); with no copy in service to write to it is abandoned at once. -/
def State.startCommit (s : State) (image : List Byte) (version period : Nat) (trial : Bool) : State :=
  let r : SlotRec :=
    { trial := trial, counter := s.topCounter + 1, version := version, length := image.length,
      crc32 := crc32 (image.drop 32), time := s.now, period := period }
  if s.commitSteps.isEmpty then s.commitAborted 3 else s.pushOp .commit image r s.commitSteps

/-- Whether the version in force is the one that an operation names. -/
def State.inForce (s : State) (op : StoreOp) : Bool := (s.loaded.map (fun x => x.agrees op.slot)).getD false

/-- A commit is complete (R337, R390): the buffer is EMPTY, the version waits to switch in. -/
def State.committed (s : State) (op : StoreOp) : State :=
  let s2 : State := { s with target := some op.slot }
  ((s2.stageEmpty.flag R.X_SWITCH true).storeRegs).cfgEvent 0x02 0

/-- A revert has taken effect (R337, R393, R394, R503): the previous version, or the factory defaults where there is none, wait to
switch in, unless the version reverted is no longer in force or a newer one waits already. [DEDUCED: log 56] -/
def State.reverted (s : State) (op : StoreOp) (reason : Nat) : State :=
  let prev := s.prevSlot
  let s2 : State := if s.inForce op && !s.on R.X_SWITCH then
      ({ s with target := prev }.flag R.X_SWITCH true).set R.X_STORE_VER op.slotRec.version
    else s
  s2.storeRegs.cfgEventOf 0x04 reason prev op.slotRec.version

/-- The trial of the version in force is over (R393): no anchor of it stays. -/
def State.trialOver (s : State) : State :=
  ((s.flag R.CFG_STATUS_TRIAL false).clear R.X_TRIAL_END).editRetained (fun r => { r with anchor := none })

/-- The operation at the head has no step left (R337, R339, R390, R393, R394): a revert and a confirm take effect at the second
record; a repair that lost its copy on the way has repaired nothing. -/
def State.opDone (s : State) (op : StoreOp) : State :=
  let s1 : State := { s with storeOps := s.storeOps.drop 1 }
  match op.kind with
  | .commit => if op.written < 2 then s1.commitAborted 3 else s1.committed op
  | .revert reason => if op.written < 2 then s1.storeRegs else s1.reverted op reason
  | .confirm =>
    if op.written < 2 then s1.storeRegs else (s1.iff (s1.inForce op) State.trialOver).storeRegs.cfgEvent 0x05 0
  | .repair k => if (s1.copy k).holds op.slot then (s1.storeRegs.latch R.CFG_FAULT_REPAIRED).cfgEvent 0x06 k else s1.storeRegs

/-- Go on with the operations: idle steps are skipped, finished operations end. `n` bounds how many can end at once. -/
def State.storeGo : Nat → State → State
  | 0, s => s.storeRegs
  | n + 1, s =>
    match s.storeOps with
    | [] => s.storeRegs
    | op :: rest =>
      match s.dropIdle op.steps with
      | [] => State.storeGo n (s.opDone op)
      | l => { s with storeOps := { op with steps := l } :: rest }.storeRegs

/-- Settle the store operations. -/
def State.storeSettle (s : State) : State := State.storeGo (s.storeOps.length + 1) s

/-- The step at the head, once the idle ones are dropped. -/
def State.storeStep (s : State) : Option (StoreOp × StoreStep) :=
  match s.storeOps with
  | op :: _ => (s.dropIdle op.steps).head?.map (fun st => (op, st))
  | [] => none

/-- The step at the head has completed. The operation keeps the device time of its first slot record (R335, R393). -/
def State.stepComplete (s : State) (op : StoreOp) (st : StoreStep) : State :=
  let first := op.written == 0 && st.counts
  let op1 : StoreOp := if first && (op.kind == .commit || op.kind.isRepair) then
      { op with slotRec := { op.slotRec with time := s.now } }
    else op
  let s1 := s.stepDone op1 st
  let op2 : StoreOp := { op1 with steps := (s.dropIdle op.steps).drop 1, written := op.written + st.counts.toNat }
  { s1 with storeOps := op2 :: s.storeOps.drop 1 }.storeSettle

/-- A block of a copy fails (R327, R334, R343): the copy loses it; with fewer than three good blocks it is lost.
[DESIGN CHOICE: log 54] -/
def State.copyBlockBad (s : State) (k : Nat) : State :=
  let block := 8 + 8 * k + (8 - (s.copy k).good)
  let s1 := (s.growBad block).onCopy k (fun c => { c with good := c.good - 1 })
  if (s.copy k).good = 3 then s1.latch R.CFG_FAULT_COPY_LOST else s1

/-- A program of the step at the head has failed (R327, R334, R343): the new slot is written again in another block of
the copy; a failed revoke or confirm record is given up in that copy. [DESIGN CHOICE: log 54] -/
def State.stepFailed (s : State) (op : StoreOp) (st : StoreStep) : State :=
  let k := st.copy
  let rest := (s.dropIdle op.steps).drop 1
  let s1 := (s.latch R.JNL_FAULT_PROG_FAIL).copyBlockBad k
  let unfinished := match (s.copy k).slots.getLast? with
    | some x => x.slotRec.isNone
    | none => false
  let drop := fun (t : State) => if unfinished then t.onCopy k (fun c => { c with slots := c.slots.dropLast }) else t
  match st with
  | .image _ _ =>
    let again := imageSteps k ++ rest.filter (fun x => !(x == .image k 1 || x == .image k 2 || x == .image k 3))
    { drop s1 with storeOps := { op with steps := again } :: s.storeOps.drop 1 }.storeSettle
  | .slotRecord _ =>
    { drop s1 with storeOps := { op with steps := imageSteps k ++ StoreStep.slotRecord k :: rest } :: s.storeOps.drop 1 }.storeSettle
  | _ => { s1 with storeOps := { op with steps := rest } :: s.storeOps.drop 1 }.storeSettle

/-- An erase of the step at the head has failed (R327): the block is given up with its slot, which is a spare the less.
[DESIGN CHOICE: log 54] -/
def State.stepEraseFailed (s : State) (op : StoreOp) (st : StoreStep) : State :=
  let s1 := (s.latch R.JNL_FAULT_ERASE_FAIL).copyBlockBad st.copy
  let s2 := s1.stepDone op st
  { s2 with storeOps := { op with steps := (s.dropIdle op.steps).drop 1 } :: s.storeOps.drop 1 }.storeSettle

/-! ### Programs and stops (R337, R341, R342) -/

/-- Whether a store program may start (R337, R342): no Red or Amber record pending, no Green one that has waited 40 ms. -/
def State.storeFree (s : State) : Bool :=
  s.dieFree && !s.on R.X_CUTOFF && s.slots.all (fun x =>
    x.committed || (x.dclass == 0 && decide (ticksToUs (s.get R.X_GOOD - x.goodTick) < 40000)))

/-- A store page program starts where one is due and may run (R337). -/
def State.startStoreProgram (s : State) : State :=
  match s.storeStep with
  | some (_, st) =>
    if s.storeFree && !st.isErase then
      { s with program := some { records := 0, store := true, tick := s.get R.X_GOOD, time := s.now } }
    else s
  | none => s

/-- A thermal stop or a loss of supply drops a commit that has not reached its second slot record (R337, R341, R342);
`why` is the detail its COMMIT_ABORTED will carry. -/
def State.stopCommit (s : State) (why : Nat) : State :=
  match s.storeOps with
  | op :: rest =>
    if op.kind = .commit ∧ op.written < 2 then { s with storeOps := rest }.set R.X_ABORT why else s
  | [] => s

/-- The die shutdown is over for the store (R341 steps 3 and 4): a commit that has its second slot record is to be completed by
repair (mark 3); one short of it is dropped. [DEDUCED: log 55] -/
def State.stopStore (s : State) : State :=
  match s.storeOps with
  | op :: _ => if op.kind = .commit ∧ 2 ≤ op.written then s.set R.X_ABORT 3 else s.stopCommit 1
  | [] => s

/-- Every copy in service whose active slot does not agree with a version is to be repaired (R339); the repairs wait while
Ride-Through is in force (R343). -/
def State.repairsOf (s : State) (x : CfgSlot) : State :=
  let confirm := s.copies.any (fun c => c.usable.any (fun y => y.agrees x && y.confirm))
  let r := x.slotRec.getD SlotRec.none
  s.each 3 (fun k t =>
    let c := t.copy k
    if c.inService && !((c.active.map (fun y => y.agrees x)).getD false) then
      t.pushOp (.repair k) x.image r (t.repairSteps k confirm)
    else t)

/-- The repairs that follow step 1 of R338 (R339). -/
def State.queueRepairs (s : State) : State :=
  match s.loaded with
  | some x => s.repairsOf x
  | none => s

/-- A commit that was stopped is reported, or completed by repair (R337, R340, R341 step 5). [DEDUCED: log 55] -/
def State.reportAbort (s : State) : State :=
  let why := s.get R.X_ABORT
  let s1 := s.set R.X_ABORT 0
  match why, s.storeOps with
  | 0, _ => s
  | 3, op :: rest => if op.kind = .commit then (({ s1 with storeOps := rest }.committed op).repairsOf op.slot).storeRegs else s1
  | 3, [] => s1
  | _, _ => s1.commitAborted why

end Sys2Proof.Machine
end

