-- ==== Sys2Proof/Machine/Guard.lean ====
section
/-! DEFINITION. Operations of the watchdog, the supply supervisor and the HRSTN pad that several commands share
(R365, R399 to R427). -/

namespace Sys2Proof.Machine

/-! ### HRSTN (R365, R366) -/

/-- HIF_STATUS follows the drive of HRSTN: a Yellow pulse, no host rail demand, rails not yet up, or the reset state of the pad
(R485); the pad is low while anyone drives it. -/
def State.hrstnFollow (s : State) : State :=
  let low := s.on R.WDT_STATUS_YELLOW_PULSE || !s.on R.MODE_STATUS_RAIL_DEMAND || !s.on R.X_HRST_UP || s.on R.X_HELD || s.on R.X_DOWN
  (s.flag R.HIF_STATUS_HRSTN_DRIVEN low).flag R.HIF_STATUS_HRSTN_LOW (low || s.on R.X_HRST_EXT)

/-- An external low of HRSTN has ended by the next LPO tick: no command tells its end. [DEDUCED: log 62] -/
def State.hrstnEase (s : State) : State := if s.on R.X_HRST_EXT then (s.flag R.X_HRST_EXT false).hrstnFollow else s

/-! ### Periods (R401 to R405, R411) -/

/-- P of R401: floor(2^(c + 18) / 1000) ticks. -/
def periodTicks (c : Nat) : Nat := 2 ^ (c + 18) / 1000

/-- W of R401: ceil(P × f), with f of R402. -/
def windowTick (p frac : Nat) : Nat :=
  match frac with
  | 0 => (p + 7) / 8
  | 1 => (p + 3) / 4
  | 2 => (p + 1) / 2
  | _ => (p * 3 + 3) / 4

/-- A period starts now, a boot period or an ordinary one (R404, R405, R411, R412); `pos` is its first tick. -/
def State.periodStart (s : State) (boot : Bool) : State :=
  let internal := s.on R.WDT_STATUS_INTERNAL
  let c := if internal then s.get R.WDT_CFG_INT_PERIOD else if boot then s.get R.WDT_CFG_BOOT_PERIOD else s.get R.WDT_CFG_PERIOD
  let b := boot && !internal
  let w := if b then 0 else windowTick (periodTicks c) (s.get R.WDT_OTP_FRAC)
  let s1 := ((s.set R.X_WDT_CODE c).set R.X_WDT_LEN (periodTicks c)).set R.WDT_WINDOW_AT w
  (((s1.flag R.WDT_STATUS_BOOT b).set R.WDT_POS 0).flag R.WDT_STATUS_WINDOW_OPEN (w == 0)).set R.X_WDT_NEW 0

/-- A period is to start at the next tick, with its task marks clear (R404, R411). -/
def State.periodNext (s : State) (boot : Bool) : State :=
  ((s.set R.WDT_TASK_SEEN_SEEN 0).set R.WDT_TASK_SEEN_DUP 0).set R.X_WDT_NEW (if boot then 2 else 1)

/-- Whether the watchdog is running (R407, R418, R424): enabled, outside Safe State and its entry, and no device restart is about
to begin. [DEDUCED: log 66] -/
def State.wdtLive (s : State) : Bool :=
  s.on R.WDT_STATUS_ENABLED && s.get R.MODE_STATUS_MODE != 0xB && s.get R.WDT_SAFE_CAUSE == 0 &&
    (s.get R.X_RESTART == 0 || s.on R.X_RESTARTING)

/-- Supervision is Internal from now on (R411): a change of style starts a period. -/
def State.guardInternal (s : State) : State :=
  if s.on R.WDT_STATUS_INTERNAL then s else (s.flag R.WDT_STATUS_INTERNAL true).periodNext false

/-- Supervision is Tasks from now on, with a boot period (R411). -/
def State.guardTasks (s : State) : State := (s.flag R.WDT_STATUS_INTERNAL false).periodNext true

/-! ### Records and stages (R413 to R416, R420) -/

/-- A WDT_EVENT record (R420) with the tick, the period code and the supervision of its violation. -/
def State.wdtEventAt (s : State) (event kind tick code sup detail : Nat) : State :=
  s.record 0x21 0x8D (le 1 event ++ le 1 kind ++ le 1 (s.get R.WDT_LADDER_Y) ++ le 1 (s.get R.WDT_LADDER_O) ++
    le 1 (s.get R.WDT_LAST_MISSING) ++ le 1 (s.get R.WDT_LAST_DUP) ++ le 4 tick ++ le 1 code ++ le 1 sup ++
    le 2 (s.get R.WDT_YELLOW_CNT) ++ le 1 detail ++ le 1 (s.get R.WDT_ORANGE_CNT % 256))

/-- The present period's code, with bit 7 for a boot period (R420). -/
def State.periodCode (s : State) : Nat := s.get R.X_WDT_CODE + (if s.on R.WDT_STATUS_BOOT then 128 else 0)

/-- A WDT_EVENT record (R420) of the present period. -/
def State.wdtEvent (s : State) (event kind tick detail : Nat) : State :=
  s.wdtEventAt event kind tick s.periodCode (s.get R.WDT_STATUS_INTERNAL) detail

/-- A cause of Safe State (R418): recorded, unless one is; a trial ends by self-rejection (R393). -/
def State.safeCause (s : State) (c : Nat) : State :=
  if s.get R.WDT_SAFE_CAUSE != 0 then s else ((s.set R.WDT_SAFE_CAUSE c).selfReject).cause 0x17

/-- Yellow (R414): HRSTN, the count, the latch, the record; the first period after it is a boot period (R411). -/
def State.yellow (s : State) (kind tick : Nat) : State :=
  let s1 := ((s.flag R.WDT_STATUS_YELLOW_PULSE true).inc R.WDT_YELLOW_CNT).set R.WDT_LADDER_Y (s.get R.WDT_LADDER_Y + 1)
  let s2 := (s1.hrstnFollow.latch R.SUP_FAULT_YELLOW).wdtEvent 0x01 kind tick 0xFF
  (s2.selfReject).periodNext true

/-- A device restart is due, with the cause of its MODE_CHANGE record (R25, R397); that of RECOVER takes the place of another. -/
def State.restartDue (s : State) (c : Nat) : State :=
  if s.get R.X_RESTART != 0 && c != 0x18 then s else s.set R.X_RESTART c

/-- Orange (R415): the count, the latch, the record; a trial is revoked with reason 2 (R393). -/
def State.orange (s : State) (kind tick : Nat) : State :=
  let s1 := ((s.inc R.WDT_ORANGE_CNT).set R.WDT_LADDER_Y 0).set R.WDT_LADDER_O (s.get R.WDT_LADDER_O + 1)
  let s2 := (s1.latch R.SUP_FAULT_ORANGE).wdtEvent 0x02 kind tick 0xFF
  (s2.iff s2.onTrial (fun t => t.startRevert 2)).restartDue 0x1A

/-- Black (R416): the tick, the period and the supervision of the violation stay for the final record (R418, R420). -/
def State.black (s : State) (tick : Nat) : State :=
  let s1 := ((s.set R.X_BLACK_TICK tick).set R.X_BLACK_CODE s.periodCode).set R.X_BLACK_SUP (s.get R.WDT_STATUS_INTERNAL)
  (s1.latch R.SUP_FAULT_BLACK).safeCause 1

/-- A violation captures the masks and its kind (R410) and escalates (R413); SEQUENCER enters at the Orange row
(R417). [DEDUCED: log 66] -/
def State.violation (s : State) (kind tick : Nat) : State :=
  let missing := (List.range 8).foldl (fun m k =>
    if s.bit R.WDT_TASK_EN k && !s.bit R.WDT_TASK_SEEN_SEEN k then m + 2 ^ k else m) 0
  let s1 := ((s.set R.WDT_LAST_MISSING missing).set R.WDT_LAST_DUP (s.get R.WDT_TASK_SEEN_DUP)).set R.WDT_LAST_KIND kind
  if s1.get R.WDT_LADDER_Y < s1.get R.WDT_CFG_Y_MAX ∧ kind ≠ 6 then s1.yellow kind tick
  else if s1.get R.WDT_LADDER_O < s1.get R.WDT_OTP_O_MAX then s1.orange kind tick
  else s1.black tick

/-- The period has expired (R403, R412, R413): kind TIMEOUT, under Internal INTERNAL, at the boundary into tick P. -/
def State.expire (s : State) : State := s.violation (if s.on R.WDT_STATUS_INTERNAL then 7 else 1) (s.get R.X_WDT_LEN)

/-- One LPO tick of the watchdog (R403 to R405, R412): the period that is due starts; else tick P - 1 ends in expiry, or the next
tick is current, in whose tick W the supervisor services an Internal period. [DESIGN CHOICE: log 2] -/
def State.wdtTick (s : State) : State :=
  let t := s.get R.WDT_POS + 1
  if !s.wdtLive then s
  else if s.get R.X_WDT_NEW != 0 then s.periodStart (s.get R.X_WDT_NEW == 2)
  else if s.get R.X_WDT_LEN ≤ t then s.expire
  else
    let s1 := (s.set R.WDT_POS t).flag R.WDT_STATUS_WINDOW_OPEN (s.get R.WDT_WINDOW_AT ≤ t)
    s1.iff (s.on R.WDT_STATUS_INTERNAL && t == s.get R.WDT_WINDOW_AT) (fun u => u.periodNext false)

/-- A valid service (R404, R413). -/
def State.serviced (s : State) : State := ((s.set R.WDT_LADDER_Y 0).set R.WDT_LADDER_O 0).periodNext false

/-! ### Keys and check-ins (R406 to R410) -/

/-- Whether host task monitoring is active (R406): a key after an Orange is lost in its restart (R424). -/
def State.monitored (s : State) : Bool :=
  s.wdtLive && !s.on R.WDT_STATUS_INTERNAL && !s.on R.WDT_STATUS_YELLOW_PULSE

/-- Whether the period has run out without a service: tick P - 1 has passed, and no new period is due (R403). -/
def State.expired (s : State) : Bool := s.get R.X_WDT_NEW == 0 && decide (s.get R.X_WDT_LEN ≤ s.get R.WDT_POS)

/-- A write of WDT_KEY.KEY (R403, R404, R406, R409). -/
def State.keyWrite (s : State) (key : Nat) : State :=
  let pos := s.get R.WDT_POS
  let early := s.get R.X_WDT_NEW == 1 || (s.get R.X_WDT_NEW == 0 && pos < s.get R.WDT_WINDOW_AT)
  let missing := (List.range 8).any (fun k => s.bit R.WDT_TASK_EN k && !s.bit R.WDT_TASK_SEEN_SEEN k)
  if !s.monitored || s.expired then s
  else if key ≠ 0xB7 then s.violation 5 pos
  else if early then s.violation 2 pos
  else if missing then s.violation 3 pos
  else if s.on R.WDT_CFG_STRICT && s.get R.WDT_TASK_SEEN_DUP != 0 then s.violation 4 pos
  else s.serviced

/-- WDT_CHECKIN for a task (R409): ignored under Internal (R412), while disabled and where the task is not enabled. -/
def State.checkIn (s : State) (k : Nat) : State :=
  if !s.on R.WDT_STATUS_ENABLED || s.on R.WDT_STATUS_INTERNAL || !s.bit R.WDT_TASK_EN k then s
  else if s.bit R.WDT_TASK_SEEN_SEEN k then s.setBit R.WDT_TASK_SEEN_DUP k true
  else s.setBit R.WDT_TASK_SEEN_SEEN k true

/-- The watchdog is disabled (R407). -/
def State.wdtDisable (s : State) : State :=
  let s1 := s.flag R.X_DIS_ARM false
  if s1.on R.WDT_STATUS_ENABLED then (s1.flag R.WDT_STATUS_ENABLED false).wdtEvent 0x05 0 (s1.get R.WDT_POS) 0xFF
  else s1

/-- The watchdog is enabled again (R407): a boot period begins under Tasks. -/
def State.wdtEnable (s : State) : State :=
  let s1 := s.flag R.X_DIS_ARM false
  if s1.on R.WDT_STATUS_ENABLED then s1
  else
    let s2 := ((s1.flag R.WDT_STATUS_ENABLED true).periodNext true).periodStart true
    s2.wdtEvent 0x06 0 0 0xFF

/-- A write of WDT_DISABLE.CODE while it is not locked (R407): 1 ms is at most 32 ticks between the two writes.
[DEDUCED: log 65] -/
def State.disableWrite (s : State) (code : Nat) : State :=
  if code = 0x5A then (s.flag R.X_DIS_ARM true).set R.X_DIS_AT (s.get R.X_TICKS)
  else if code = 0x3C then s.wdtEnable
  else if code = 0xA5 ∧ s.on R.X_DIS_ARM ∧ s.get R.X_TICKS - s.get R.X_DIS_AT ≤ 32 then s.wdtDisable
  else s.flag R.X_DIS_ARM false

/-- A write of WDT_LOCK.LOCK (R408): set-only. -/
def State.lockWrite (s : State) (v : Nat) : State := if v % 2 = 1 then s.set R.WDT_LOCK 1 else s

/-! ### Sequencers (R417) -/

/-- What a sequencer's restart leaves: 0 charge, 1 line, 2 journal, 3 packet interpreter. The charge sequencer holds no work in
OFF, IDLE and FAULT and stays there. -/
def State.seqReset (s : State) (seq : Nat) : State :=
  match seq with
  | 0 => if s.chg = 0 ∨ s.chg = 1 ∨ s.chg = 0xF then s else (s.flag R.X_PULSE false).chgTo 2
  | 1 => s.each 2 (fun p t => t.lineIdle p)
  | 2 => s.abortErase
  | _ => s

/-- Whether the restart at hand is the third within 600 000 ms. -/
def State.thirdRestart (s : State) : Bool := s.get R.X_SEQ_N == 2 && s.now - s.get R.X_SEQ_AT 1 ≤ 600000

/-- A silent sequencer is restarted alone; the third restart within 600 000 ms is a violation of kind SEQUENCER.
[DEDUCED: log 66] -/
def State.seqRestart (s : State) (seq : Nat) : State :=
  let third := s.thirdRestart
  let s1 := (s.seqReset seq).inc R.WDT_SEQ_RESTARTS
  let s2 := ((s1.set R.X_SEQ_AT (s1.get R.X_SEQ_AT 0) 1).set R.X_SEQ_AT s1.now 0).set R.X_SEQ_N (min (s1.get R.X_SEQ_N + 1) 2)
  let s3 := (s2.latch R.SUP_FAULT_SEQ_RESTART).wdtEvent 0x04 0 (s2.get R.WDT_POS) seq
  if third then s3.violation 6 (s3.get R.WDT_POS) else s3

/-! ### Supply (R421, R422) -/

/-- Ride-Through begins (R66, R421): its actions, the latch, the wake. -/
def State.rideBegin (s : State) : State :=
  let s1 := ((s.flag R.SUP_STATUS_BELOW_WARN true).flag R.SUP_STATUS_RIDE true).flag R.MODE_STATUS_RIDE_ACTIVE true
  let s2 := ((s1.set R.X_RIDE_AT s1.now).chgHold R.CHG_HOLD_RIDE true).suspendErase
  ((s2.wake R.MODE_WAKE_SRC_SUPWARN).cause 0x0E).latchStand R.SUP_FAULT_SUP_WARN |>.followAlert

/-- Ride-Through ends (R422). -/
def State.rideEnd (s : State) : State :=
  let s1 := ((s.flag R.SUP_STATUS_BELOW_WARN false).flag R.SUP_STATUS_RIDE false).flag R.MODE_STATUS_RIDE_ACTIVE false
  let s2 := ((s1.set R.SUP_RIDE_LAST (s1.now - s1.get R.X_RIDE_AT)).inc R.SUP_RIDE_CNT).deferPending
  (((s2.chgHold R.CHG_HOLD_RIDE false).ended R.SUP_FAULT_SUP_WARN).cause 0x0F).followAlert

end Sys2Proof.Machine
end

