-- ==== Sys2Proof/Machine/Heat.lean ====
section
/-! DEFINITION. Thermistor curves, sensor validity, the battery temperature window and the power-stage foldback
(R181, R434 to R442). Sensors 0 to 3 are TB1 to TB4, sensors 4 and 5 are TS1 and TS2. -/

namespace Sys2Proof.Machine

/-! ### Curves (R435) -/

/-- Twice the series of atanh(p / q) times `q' = 10^18`, over odd powers, `n` terms from power `j`; `x` is the term's
power of p / q scaled by 10^18. -/
def atanhSum : Nat → Nat → Nat → Nat → Nat → Nat
  | 0, _, _, _, _ => 0
  | n + 1, p, q, x, j => 2 * x / j + atanhSum n p q (x * p * p / (q * q)) (j + 2)

/-- The largest power of two not above `n`, as its exponent, for n below 4096. -/
def log2floor (n : Nat) : Nat := ((List.range 12).filter (fun e => 2 ^ e ≤ n)).length - 1

/-- ln 2 × 10^18. -/
def ln2 : Nat := 693147180559945309

/-- ln n × 10^18 for 1 ≤ n < 4096: n = 2^e (1 + f), ln of the factor by atanh. -/
def lnScaled (n : Nat) : Nat :=
  let e := log2floor n
  let p := n - 2 ^ e
  let q := n + 2 ^ e
  e * ln2 + atanhSum 20 p q (p * 10 ^ 18 / q) 1

/-- The built-in curve of R435 for 1 ≤ k ≤ 4095, 0.1 °C, rounded toward zero: with L = ln(k / (4096 - k)),
t = 298.15 × 3435 / (3435 + 298.15 L) - 273.15. -/
def builtinTemp (k : Nat) : Int :=
  let l : Int := (lnScaled k : Int) - lnScaled (4096 - k)
  let den : Int := 343500 * 10 ^ 18 + 29815 * l
  divZ (10 * (29815 * 343500 * 10 ^ 18) - 273150 * den) (100 * den)

/-- Whether the custom curve is well formed: K rises and T falls strictly (R435). -/
def State.curveGood (s : State) : Bool :=
  (List.range 15).all (fun j => s.get R.THM_CURVEj_K j < s.get R.THM_CURVEj_K (j + 1) &&
    decide (s.getS R.THM_CURVEj_T (j + 1) < s.getS R.THM_CURVEj_T j))

/-- THM_STATUS.CURVE_BAD follows the points. -/
def State.curveFollow (s : State) : State := s.flag R.THM_STATUS_CURVE_BAD (!s.curveGood)

/-- The custom curve (R435): linear in k between two points, rounded toward zero; none outside its span (R436). -/
def State.customTemp (s : State) (k : Nat) : Option Int :=
  match (List.range 15).find? (fun j => s.get R.THM_CURVEj_K j ≤ k && k ≤ s.get R.THM_CURVEj_K (j + 1)) with
  | some j =>
    let k0 := s.get R.THM_CURVEj_K j
    let d : Int := s.get R.THM_CURVEj_K (j + 1) - k0
    let t0 := s.getS R.THM_CURVEj_T j
    let t1 := s.getS R.THM_CURVEj_T (j + 1)
    some (divZ (t0 * d + (t1 - t0) * ((k : Int) - k0)) d)
  | none => none

/-- The temperature of sensor `x` at ratio code `k`; none where the curve gives none. [DEDUCED: log 34] -/
def State.tempOf (s : State) (x k : Nat) : Option Int :=
  let custom := (if x < 4 then s.on R.THM_CTRL_TB_CURVE else s.on R.THM_CTRL_TS_CURVE) && s.curveGood
  if custom then s.customTemp k else if k = 0 ∨ 4095 < k then none else some (builtinTemp k)

/-! ### Sensors (R436) -/

/-- Whether sensor `x` is enabled. -/
def State.thEnabled (s : State) (x : Nat) : Bool :=
  if x < 4 then s.bit R.THM_CTRL_TB_EN x else s.bit R.THM_CTRL_TS_EN (x - 4)

/-- Show a sensor's temperature word. -/
def State.setTemp (s : State) (x v : Nat) : State :=
  if x < 4 then s.set R.THM_TBn_T v x else s.set R.THM_TSn_T v (x - 4)

/-- Set a sensor's judgement: 0 not yet judged, 1 valid, 2 invalid, with its VALID bit. -/
def State.setJudge (s : State) (x j : Nat) : State :=
  let s1 := s.set R.X_TH_JUDGE j x
  if x < 4 then s1.setBit R.THM_STATUS_TB_VALID x (j == 1) else s1.setBit R.THM_STATUS_TS_VALID (x - 4) (j == 1)

/-- The latch bit of a sensor becomes set and its condition stands, or the condition ends. -/
def State.thLatch (s : State) (x : Nat) : State :=
  if x < 4 then s.latchStand R.THM_FAULT_TB_INVALID x else s.latchStand R.THM_FAULT_TS_INVALID (x - 4)
def State.thEnded (s : State) (x : Nat) : State :=
  if x < 4 then s.ended R.THM_FAULT_TB_INVALID x else s.ended R.THM_FAULT_TS_INVALID (x - 4)

/-- A sensor is not yet judged (R436): it reads 0x8000. -/
def State.thRestart (s : State) (x : Nat) : State :=
  (((s.setJudge x 0).set R.X_TH_RUN 0 x).set R.X_TH_BAD 0 x |>.setTemp x 0x8000).thEnded x

/-! ### Battery window (R181, R437) -/

/-- The readings of the enabled, valid battery sensors. -/
def State.tbReadings (s : State) : List Int :=
  ((List.range 4).filter (fun x => s.thEnabled x && s.get R.X_TH_JUDGE x == 1)).map (fun x => s.getS R.X_TH_LAST x)

/-- Whether every enabled battery sensor is valid, and at least one is enabled. -/
def State.tbAllValid (s : State) : Bool :=
  s.get R.THM_CTRL_TB_EN != 0 && (List.range 4).all (fun x => !s.thEnabled x || s.get R.X_TH_JUDGE x == 1)

/-- T_cold, T_warm and the TEMP hold follow the sensors (R181, R437), the former kept while no sensor is valid; the return margin
of 2.0 °C applies once charging was forbidden for temperature. The hold stands while the reference fails (R248).
[DEDUCED: log 34] -/
def State.windowFollow (s : State) : State :=
  let ts := s.tbReadings
  let s1 := match ts with
    | [] => s
    | t :: r => (s.setS R.CHG_T_COLD_NOW (r.foldl min t)).setS R.CHG_T_WARM_NOW (r.foldl max t)
  let inside := fun (margin : Int) => decide (s1.getS R.CHG_T_MIN + margin ≤ s1.tCold) &&
    decide (s1.tWarm ≤ s1.getS R.CHG_T_MAX - margin)
  let out := if s.on R.X_TEMP_OUT then !(s1.tbAllValid && inside 20) else !ts.isEmpty && !inside 0
  let ok := s1.tbAllValid && inside 0 && !out
  let s2 := ((s1.flag R.X_TEMP_OUT out).flag R.X_TEMP_FORBID (!ok)).chgHold R.CHG_HOLD_TEMP (!ok || s1.on R.X_REF_FAIL)
  s2.equaliseFollow

/-! ### Foldback (R438 to R440) -/

/-- The governing power-stage temperature: the highest of the enabled, valid, not excluded TS sensors (R438). -/
def State.tPs (s : State) : Option Int :=
  let ts := ((List.range 2).filter (fun n => s.thEnabled (4 + n) && s.get R.X_TH_JUDGE (4 + n) == 1 &&
    !s.bit R.THM_STATUS_TS_EXCLUDED n)).map (fun n => s.getS R.X_TH_LAST (4 + n))
  match ts with
  | [] => none
  | t :: r => some (r.foldl max t)

/-- f_lin of R438. -/
def State.fLin (s : State) : Nat :=
  match s.tPs with
  | some t =>
    let a := s.getS R.THM_TS_FB_START
    let b := s.getS R.THM_TS_FB_END
    (256 - 205 * (clampI a b t - a) / (b - a)).toNat
  | none => 256

/-- f_fb takes a value: FB_ACTIVE and the charge limits follow. -/
def State.setFb (s : State) (f : Nat) : State :=
  ((s.set R.THM_FB_FACTOR f).flag R.THM_STATUS_FB_ACTIVE (f < 256)).chgTargets

/-- Whether T_ps lies above THM_TS_FB_START (R438). -/
def State.tsAbove (s : State) : Bool :=
  match s.tPs with
  | some t => decide (s.getS R.THM_TS_FB_START < t)
  | none => false

/-- Whether an episode is in progress after a computation that gives `f` (R438): it begins with T_ps above THM_TS_FB_START and ends
where f_fb returns to 256; a hold keeps f_fb, and with it the episode. -/
def State.episodeAfter (s : State) (f : Nat) : Bool :=
  let was := s.on R.X_FB_EPISODE
  if s.on R.THM_STATUS_FB_HOLD then was || s.tsAbove
  else decide (f < 256) || (s.tsAbove && !(was && s.get R.THM_FB_FACTOR < 256))

/-- One computation of R438: outside a hold f_fb is f_lin. The episode and its lowest f_lin follow in a hold too (R439). -/
def State.foldback (s : State) : State :=
  let f := s.fLin
  let low := if !s.episodeAfter f then 256 else if s.on R.X_FB_EPISODE then min (s.get R.X_FB_LOW) f else f
  ((s.flag R.X_FB_EPISODE (s.episodeAfter f)).set R.X_FB_LOW low).iff (!s.on R.THM_STATUS_FB_HOLD) (fun t => t.setFb f)

/-- An enabled TS sensor became invalid (R439): a hold begins, or the sensor joins the one in force. `f` is f_lin of the readings at
that moment: where it is back at 256 the episode has ended in the same reading (R441). [DEDUCED: log 69] -/
def State.fbHold (s : State) (n f : Nat) : State :=
  if s.bit R.THM_STATUS_TS_EXCLUDED n then s
  else
    let s1 := s.setBit R.X_FB_WAIT n true
    if s.on R.THM_STATUS_FB_HOLD then s1
    else
      let inside := s.on R.X_FB_EPISODE && decide (f < 256)
      let held := if inside then s.get R.X_FB_LOW else 51
      let s2 := (s1.flag R.X_FB_EPISODE inside).set R.X_FB_LOW (if inside then held else 256)
      (((s2.flag R.THM_STATUS_FB_HOLD true).set R.THM_FB_HOLD held).setFb held).latchStand R.THM_FAULT_FB_HELD

/-- The hold ends (R439, R440). -/
def State.fbRelease (s : State) : State :=
  (((s.flag R.THM_STATUS_FB_HOLD false).set R.THM_FB_HOLD 256).set R.X_FB_WAIT 0).ended R.THM_FAULT_FB_HELD |>.foldback

/-- A TS sensor has met the 10 s condition, or is no longer enabled: the hold ends with the last such sensor. -/
def State.fbDone (s : State) (n : Nat) : State :=
  let s1 := s.setBit R.X_FB_WAIT n false
  if s1.on R.THM_STATUS_FB_HOLD && s1.get R.X_FB_WAIT == 0 then s1.fbRelease else s1

/-- The effect of THM_CMD.FB_CLEAR (R440): the hold ends, the sensors invalid at that moment are excluded. -/
def State.fbClear (s : State) : State :=
  if s.on R.THM_STATUS_FB_HOLD then
    (s.each 2 (fun n t => if t.thEnabled (4 + n) && t.get R.X_TH_JUDGE (4 + n) == 2 then
      t.setBit R.THM_STATUS_TS_EXCLUDED n true else t)).fbRelease
  else s

/-- The effect of a write of THM_CTRL on the sensors (R436, R440): a newly enabled sensor is not yet judged; a disabled
one reads 0x8000, is never invalid, and ends a hold that it alone caused. -/
def State.thmCtrl (s : State) (old : State) : State :=
  (s.each 6 (fun x t =>
    if t.thEnabled x = old.thEnabled x then t
    else
      let u := t.thRestart x
      if 4 ≤ x && !t.thEnabled x then (u.setBit R.THM_STATUS_TS_EXCLUDED (x - 4) false).fbDone (x - 4) else u)).windowFollow

end Sys2Proof.Machine
end

