-- ==== Sys2Proof/Machine/Flags.lean ====
section
/-! DEFINITION. What a parameter reads: words computed from other state, and the effect of a read on read-clear words
(R11, R24, R44, R45, R376, R380). -/

namespace Sys2Proof.Machine

/-! ### Computed words -/


/-- A bit of a word. -/
def bitAt (k : Nat) (b : Bool) : Nat := if b then 2 ^ k else 0

/-- A port. -/
def State.port (s : State) (p : PortId) : Port :=
  match p with
  | .tw => s.tw
  | .qb => s.qb

/-- Whether a port has a request that has not been interpreted (R351). -/
def State.waiting (s : State) (p : PortId) : Bool := s.requests.any (fun r => r.port == p)

/-- HIF_STATUS [8:5]: replies held and requests pending (R368). -/
def State.portBits (s : State) : Nat :=
  bitAt 5 s.tw.reply.isSome + bitAt 6 (s.waiting .tw) + bitAt 7 s.qb.reply.isSome + bitAt 8 (s.waiting .qb)

/-- HIF_ALERT_SRC (R364). -/
def State.alertSrc (s : State) : Nat :=
  bitAt 0 (s.get R.Q_ALERT != 0) + bitAt 1 (s.on R.HIF_ALERT_EN && s.faultSum != 0) +
    bitAt 2 (s.on R.MODE_STATUS_RIDE_ACTIVE)

/-- MODE_GRACE_LEFT (R55): whole seconds of grace. -/
def State.graceLeft (s : State) : Nat :=
  if s.on R.MODE_STATUS_GRACE then (s.get R.X_GRACE_END - s.now) / 1000 else 0

/-- CFG_TRIAL_LEFT (R393): whole seconds. -/
def State.trialLeft (s : State) : Nat :=
  if s.onTrial then min ((s.get R.X_TRIAL_END - s.now) / 1000) 4095 else 0

/-- WDT_WAKE_LEFT (R400). -/
def State.wakeLeft (s : State) : Nat :=
  s.get R.X_WAKE_LEN - (s.get R.X_SLOW + 2 ^ 32 - s.get R.X_WAKE_AT) % 2 ^ 32

/-- IN_CLASS (R104). -/
def State.classWord (s : State) : Nat := (List.range 4).foldl (fun w i => w + s.cls i * 16 ^ i) 0

/-- Whether an ID decode uses position 23 (R82, R93, R247): in the last 1 ms of settle, at the start of a readmission, and in the
last 1 ms of each 100 ms of a classified or held input. [DEDUCED: log 48] -/
def State.decodeBusy (s : State) : Bool :=
  s.on R.DEV_CLK_FAST_ON && (List.range 4).any (fun i =>
    let st := s.instate i
    (st == 2 && !s.on R.X_DECODED i && s.get R.X_SETTLE_AT i + (s.get R.IN_SETTLE - 1) ≤ s.now) ||
      (st == 8 && s.on R.X_READMIT i && !s.on R.X_DECODED i) || ((st == 7 || st == 8) && s.get R.X_DECODE_AT i + 99 ≤ s.now))

/-- The words of one queue that are computed (R306, R319): CFG with ALERT of a Red queue, COUNT, PEND. -/
def State.queueWord (s : State) (q k : Nat) : Option Nat :=
  match k with
  | 0 => if s.qclass q = 2 then some (2 + 4 + 8 * s.get R.Qq_CFG_NOTIFY q) else none
  | 2 => some (s.unpopped q).length
  | 3 => some (s.pendingOf q)
  | _ => none

/-- The words whose value follows from other state; `none` for the others. -/
def State.computed (s : State) (a : Nat) : Option Nat :=
  if 0x0B40 ≤ a ∧ a < 0x0BC0 then s.queueWord ((a - 0x0B40) / 8) ((a - 0x0B40) % 8)
  else if 0x0310 ≤ a ∧ a < 0x0350 ∧ a % 16 = 8 then
    some (s.sweepAge ((a - 0x0310) / 16))
  else if 0x1010 ≤ a ∧ a < 0x1030 ∧ a % 4 = 0 then some (s.agesOf (s.get R.X_BIST_AT ((a - 0x1010) / 4)) 3600000)
  else match a with
    | 0x0002 => some s.faultSum
    | 0x0105 => some s.graceLeft
    | 0x0202 => some s.classWord
    | 0x0801 => some (s.rawWord 0x0801 / 4 % 4 * 4 + (if s.on R.DEV_CLK_FAST_ON then 3 else 0) + bitAt 4 s.decodeBusy)
    | 0x0807 => some (if s.on R.MEAS_STATUS_OFS_VALID then s.agesOf (s.get R.X_OFS_AT) 3600000 else 0xFFFF)
    | 0x0B03 => some s.pendingTotal
    | 0x0C48 => some s.trialLeft
    | 0x0D01 => some (s.rawWord 0x0D01 - s.rawWord 0x0D01 / 32 % 16 * 32 + s.portBits)
    | 0x0D07 => some s.alertSrc
    | 0x0E16 => some (s.wakeLeft % 65536)
    | 0x0E17 => some (s.wakeLeft / 65536)
    | _ => none

/-! ### Access -/

/-- Whether a field table defines an address (R22, R462); LINE_CMD has reserved bits only. [DEDUCED: log 45] -/
def defined (a : Nat) : Bool := a == 0x0914 || !(fieldsAt a).isEmpty

/-- The access code of a word: its first field's. -/
def accessOf (a : Nat) : Access := ((fieldsAt a).head?.map (·.1.acc)).getD .wo

/-- The class of a word: its first field's. -/
def classOf (a : Nat) : Cls := ((fieldsAt a).head?.map (·.1.cls)).getD .run

/-- The value a READ_PARAM returns for a word (R24): WO words read 0. -/
def State.readWord (s : State) (a : Nat) : Nat :=
  if accessOf a = .wo then 0
  else match s.computed a with
    | some v => v
    | none => s.rawWord a

/-! ### Reads that clear (R11, R24, R376, R380) -/

/-- The bits of a word whose condition stands: Q_FAULT bits stand while their queue's refusals are gathered (R313). -/
def State.standing (s : State) (a : Nat) : Nat :=
  let kept := if faultAddrs.contains a then s.get R.X_COND (faultIndex a) else 0
  if a = 0x0B00 then
    (List.range 16).foldl (fun m q => if s.get R.X_RF_COUNT q = 0 then m else m ||| 2 ^ q) kept
  else kept

/-- Clear the bits of a read-clear word whose condition has ended. -/
def State.clearWord (s : State) (a : Nat) : State := s.putWord a (s.rawWord a &&& s.standing a)

/-- What a read of a word sets off beside the clearing: the first read of TIMEOUT (R186), of BAT_SHORT (R208), of the
latches that hold CHG in FAULT (R187), of SUP_WARN (R422). -/
def State.readAction (s : State) (a : Nat) : State :=
  match a with
  | 0x0500 => s.readTimeout.clearWord a
  | 0x0600 => (s.readBatShort.clearWord a).chgFollow
  | 0x0E02 =>
    let s1 := s.clearWord a
    if s.on R.SUP_FAULT_SUP_WARN && !s1.on R.SUP_FAULT_SUP_WARN then s1.clear R.SUP_MIN_SYS else s1
  | _ => s.clearWord a

/-- The read of one word: read-clear words act (R24). -/
def State.readClear (s : State) (a : Nat) : State := if accessOf a = .rc then s.readAction a else s

/-- The read of a list of words, captured before any of them clears (R34, R376). -/
def State.readWords (s : State) (as : List Nat) : State × List Nat :=
  ((as.foldl State.readClear s).followAlert, as.map s.readWord)

/-- READ_FAULTS (R380): the sum, then every non-zero FAULT register; all are read-cleared. -/
def State.readFaults (s : State) : State × List Byte :=
  let bytes := (faultAddrs.filter (fun a => s.rawWord a != 0)).map (fun a => le 2 a ++ le 2 (s.rawWord a))
  ((faultAddrs.foldl State.readAction s).followAlert, le 2 s.faultSum ++ bytes.flatten)

end Sys2Proof.Machine
end

