-- ==== Sys2Proof/Machine/Ledger.lean ====
section
/-! DEFINITION. Measurement and the energy ledger (R247 to R264): the meanings of the commands of chapter 09. -/

namespace Sys2Proof.Machine

/-- ADC_REFERENCE_FAIL (R248): 16 consecutive reference conversions are out of tolerance (`bad`), or are so no longer.
[DEDUCED: log 47] -/
def execAdcReferenceFail (bad : Bool) (s : State) : Out := .next (s.refFail bad)

/-- CC_RESULT (R249): the raw result. A result at either end of the scale saturates. -/
def execCcResult (raw : Int) (s : State) : Out :=
  .next (if s.on R.DEV_CLK_FAST_ON then
    let r := clampI (-131072) 131071 raw
    let sat := decide (r ≤ -131072 ∨ 131071 ≤ r)
    let s1 := ((s.setS R.MEAS_CC_RAW r).setS R.MEAS_CC_I (satS16 (s.iCc r))).flag R.MEAS_STATUS_CC_SAT sat
    if sat then s1.latchStand R.MEAS_FAULT_CC_SAT else s1.ended R.MEAS_FAULT_CC_SAT
  else s)

/-- The battery power of R253 in 10 mW, from BATS in mV: with i_cc, or with position 2 while the counter saturates and in the
updates that close the first 2 ms after the start of the HFO (R249). -/
def State.batPower (s : State) (vbat : Nat) : Int :=
  if s.on R.MEAS_STATUS_CC_SAT ∨ s.now ≤ s.get R.X_FAST_AT + 2 then divZ (s.getS R.MEAS_IBAT * vbat) 400
  else divZ ((s.getS R.MEAS_CC_RAW - s.getS R.MEAS_CC_OFS) * 25000 * vbat) (262144 * (max (s.get R.PP_SHUNT) 1 : Nat))

/-- The powers of R253 and R254 in 10 mW, counters 0 to 11, from battery voltage in mV and the input voltages in
10 mV and currents in 25 mA, two's complement. -/
def State.powers (s : State) (vbat : Nat) (vin iin : Quad) : List Nat :=
  let ins := (List.range 4).map (fun i => (vin.at i : Nat) * (max 0 (signed 16 (iin.at i))).toNat / 40)
  let bat := s.batPower vbat
  let into := bat.toNat
  let out := (-bat).toNat
  let line := fun p => s.get R.LINE_x_VMEAS p * s.get R.LINE_x_I p / 1000
  let loads := [s.get R.RAIL_x_POUT 0, s.get R.RAIL_x_POUT 1, s.get R.AUX_PRE_EXT_P, line 0, line 1]
  ins ++ [into, out] ++ loads ++ [ins.sum + out - (into + loads.sum)]

/-- LEDGER_UPDATE (R247, R251, R253, R254, R256, R421): the 1 ms means of SYSS and BATS, the battery current, INSn, the input
currents, the line ports' voltages and currents, and VAUX; a limit binds at its setting (R216, R266). Nothing counts while the
reference check fails (R248). [DEDUCED: log 119] -/
def execLedgerUpdate (bus : BusMeans) (ibat : Int) (vin iin lineV lineI : Quad) (auxV auxI : Nat) (s : State) : Out :=
  .next (if s.on R.DEV_CLK_FAST_ON then
    let s0 := (((s.abortSlice 0x40).set R.X_SYSS bus.sys).minSys bus.sys).set R.MEAS_VBAT (min bus.bats 65535)
    let s1 := ((s0.setS R.MEAS_IBAT (satS16 ibat)).set R.AUX_VAUX_V (if s.on R.AUX_STATUS_VAUX_ON then auxV else 0)).set
      R.AUX_VAUX_I (if s.on R.AUX_STATUS_VAUX_ON then auxI else 0)
    let s2 := s1.each 4 (fun i t => (t.set R.INn_V (vin.at i) i).set R.INn_I (iin.at i) i)
    let s3 := s2.each 2 (fun p t => (t.set R.LINE_x_VMEAS (lineV.at p) p).set R.LINE_x_I (lineI.at p) p)
    let lim := fun p => s3.portHigh p && decide (s3.get R.LINE_x_ILIM p * 25 ≤ s3.get R.LINE_x_I p)
    let s3' := ((s3.flag R.LINE_STATUS_A_ILIM (lim 0)).flag R.LINE_STATUS_B_ILIM (lim 1)).flag R.AUX_STATUS_VAUX_ILIM
      (s3.on R.AUX_STATUS_VAUX_ON && decide (64 ≤ auxI))
    let s4 := s3'.vauxMove.staleCheck
    let ps := s4.powers bus.bats vin iin
    let s5 := if s4.on R.X_REF_FAIL then s4 else
      (s4.each 12 (fun k t => t.ledgerAdd k (ps.getD k 0 * 100))).ledgerBat (ps.getD 4 0 * 100) (ps.getD 5 0 * 100)
    s5.ledgerFollow
  else s)

/-- CLEAR_COUNTERS (R264). -/
def execClearCounters (s : State) : Out := .next s.clearCounters

/-- SNAPSHOT_NOW (R260). -/
def execSnapshotNow (s : State) : Out := .next (s.snapshot 2)

/-- E_REM_WRITE (R256): a value above LDG_BAT_USABLE is refused (R264). -/
def execERemWrite (v : Nat) (s : State) : Out := .next (s.eRemWrite v)

/-- EPOCH_WRITE (R44). -/
def execEpochWrite (v : Nat) (s : State) : Out := .next (s.epochWrite v)

end Sys2Proof.Machine
end

