-- ==== Sys2Proof/Machine/Line.lean ====
section
/-! DEFINITION. The Sheax Line controller (R265 to R295): the meanings of the commands of chapter 10 but the
LINE_CONTROL and NODE_INFO packets, whose effects stand here and whose packets Machine/Commands.lean holds. Port 0 is
LINEA, port 1 LINEB. -/

namespace Sys2Proof.Machine

/-! ### Slots -/

/-- One shift of the downstream CRC-8 register (R273). -/
def lineCrcBit (c : Nat) : Nat := if c ≥ 128 then (c * 2 % 256) ^^^ 0x2F else c * 2

/-- The downstream CRC-8 of R273: polynomial 0x2F, initial 0xFF, final XOR 0xFF. -/
def lineCrc (bs : List Byte) : Nat := (bs.foldl (fun c b => iter 8 lineCrcBit (c ^^^ b.toNat)) 0xFF) ^^^ 0xFF

/-- A downstream frame (R272): preamble, SYNC, HDR, SLOT, LEN, payload, CRC-8. -/
def lineFrame (cmd flags slot : Nat) (payload : List Byte) : List Byte :=
  let body := le 1 (cmd * 16 + flags) ++ le 1 slot ++ le 1 payload.length ++ payload
  [0x55, 0x9D] ++ body ++ le 1 (lineCrc body)

/-- A frame goes out on a port that is ENUMERATING or ACTIVE; the last one sent is held. [DEDUCED: log 96] -/
def State.lineSend (s : State) (p : Nat) (bs : List Byte) : State :=
  if s.portState p = 3 ∨ s.portState p = 4 then
    (s.each 16 (fun k t => t.set R.X_LINE_TX (bs.getD k 0).toNat (16 * p + k))).set R.X_LINE_TXN bs.length p
  else s

/-- SYNC_TIME on a port (R276, R286): device time and the µs within its ms. -/
def State.syncTime (s : State) (p : Nat) : State :=
  (s.set R.X_SYNC_AT s.now p).lineSend p (lineFrame 3 1 0xFF (le 6 s.now ++ le 2 (s.get R.X_TIME_ACC / 16384 % 1000)))

/-- The ID that holds a slot; 0 for a free one (R279). -/
def State.slotId (s : State) (n : Nat) : Nat := s.get R.X_SLOT_ID n

/-- The state of a slot (R294). -/
def State.slotState (s : State) (n : Nat) : Nat := s.get R.LINE_SLOTs_STAT_STATE n

/-- Whether a NODE_EVENT carries its slot as source (R289). -/
def slotSourced (ev : Nat) : Bool := ev == 1 || ev == 2 || ev == 3 || ev == 6 || ev == 0x0A || ev == 0x0B

/-- A NODE_EVENT record (R289) on a port, with node ID, class, slot and detail. -/
def State.nodeEvent (s : State) (ev p id cls slot detail : Nat) : State :=
  let src := if slotSourced ev then slot else 0x88
  let r := s.mkRec 0x05 src (le 1 ev ++ le 1 p ++ le 6 id ++ le 1 cls ++ le 1 slot ++ le 2 detail)
  s.offer { r with cls := if slotSourced ev then nodeClass cls else 0 }

/-- A NODE_EVENT about a slot's own node. -/
def State.slotEvent (s : State) (ev p n detail : Nat) : State :=
  s.nodeEvent ev p (s.slotId n) (s.get R.LINE_SLOTs_STAT_CLASS n) n detail

/-- LINE_NODES and the condition of NODE_LOST follow the slots (R293). -/
def State.slotsFollow (s : State) : State :=
  let s1 := s.set R.LINE_NODES ((List.range 64).filter (fun n => s.slotId n != 0)).length
  if (List.range 64).any (fun n => s.slotState n == 2) then s1.stand R.LINE_FAULT_NODE_LOST
  else s1.ended R.LINE_FAULT_NODE_LOST

/-- A slot's state changes. -/
def State.setSlot (s : State) (n st : Nat) : State := (s.set R.LINE_SLOTs_STAT_STATE st n).slotsFollow

/-- The amplitude after a valid reply (R271): an eighth of the difference, or the first one directly. [DEDUCED: log 44] -/
def State.learnAmp (s : State) (n amp : Nat) : State :=
  let old := s.get R.LINE_SLOTs_STAT_AMP n
  let v := if s.on R.X_SLOT_AMP_OK n then ((old : Int) + divZ ((amp : Int) - old) 8).toNat else amp
  (s.set R.LINE_SLOTs_STAT_AMP (min v 127) n).flag R.X_SLOT_AMP_OK true n

/-- The SEQ of a new command to a slot (R272, R275): the opposite of the last one sent to it. -/
def State.nextSeq (s : State) (n : Nat) : State := s.set R.X_SLOT_SEQ (if s.get R.X_SLOT_SEQ n = 1 then 2 else 1) n

/-- A command without reply, SLEEP, WAKE or RESET, to a slot (R272, R276): SEQ toggles as at each new command. -/
def State.slotCommand (s : State) (p n cmd : Nat) : State :=
  if s.portState p = 3 ∨ s.portState p = 4 then
    let t := s.nextSeq n
    t.lineSend p (lineFrame cmd (2 * (t.get R.X_SLOT_SEQ n - 1)) n [])
  else s

/-- A slot is freed: nothing of its node is kept (R279, R290, R300). -/
def State.freeSlot (s : State) (n : Nat) : State :=
  let regs := [R.X_SLOT_ID, R.X_SLOT_FMT, R.X_SLOT_MASK, R.X_SLOT_MISSES, R.X_SLOT_LAST, R.X_SLOT_SEQ, R.X_SLOT_CYC,
    R.X_SLOT_POLLED, R.X_SLOT_CFG, R.X_SLOT_AMP_OK, R.LINE_SLOTs_STAT_STATE, R.LINE_SLOTs_STAT_PORT,
    R.LINE_SLOTs_STAT_CLASS, R.LINE_SLOTs_STAT_MISSED, R.LINE_SLOTs_STAT_BOUND, R.LINE_SLOTs_STAT_AMP]
  (regs.foldl (fun t r => t.clear r n) (s.engineRelease n)).slotsFollow

/-! ### The work of a port -/

/-- The slots of a port that a test names, as a mask. -/
def State.slotMask (s : State) (p : Nat) (f : Nat → Bool) : Nat :=
  (List.range 64).foldl (fun m n =>
    if s.slotId n != 0 && s.get R.LINE_SLOTs_STAT_PORT n == p && (s.slotState n == 1 || s.slotState n == 2) && f n
    then m + 2 ^ n else m) 0

/-- The slot that is polled next: the lowest of those left (R284). -/
def State.nextSlot (s : State) (p : Nat) : Option Nat :=
  (List.range 64).find? (fun n => (s.get R.X_LINE_LEFT p).testBit n)

/-- A port's period for a slot, ms (R294). -/
def State.slotPeriod (s : State) (n : Nat) : Nat :=
  s.get R.LINE_SLOTs_CFG_PERIOD n * (if s.on R.LINE_SLOTs_CFG_UNIT n then 60000 else 100)

/-- The present line cycle's start: a multiple of 100 ms (R284). [DEDUCED: log 45] -/
def State.cycleTime (s : State) : Nat := s.now / 100 * 100

/-- Whether a slot is due at the present cycle start (R284). [DEDUCED: log 45] -/
def State.slotDue (s : State) (n : Nat) : Bool :=
  !s.on R.X_SLOT_POLLED n || decide (s.get R.X_SLOT_CYC n + s.slotPeriod n ≤ s.cycleTime)

/-- The frame in progress on a port goes out, a retry with the same SEQ (R272, R274 to R276): a POLL or a CONFIG to the next slot,
or the ASSIGN of the walk. -/
def State.sendFrame (s : State) (p : Nat) : State :=
  match s.get R.X_FRAME p, s.nextSlot p with
  | 1, some n => s.lineSend p (lineFrame 1 (2 * (s.get R.X_FRAME_SEQ p - 1)) n [])
  | 2, some n => s.lineSend p (lineFrame 2 (2 * (s.get R.X_FRAME_SEQ p - 1)) n
      (le 1 (s.get R.X_SLOT_CFG n / 65536) ++ le 2 (s.get R.X_SLOT_CFG n)))
  | 3, _ => s.lineSend p (lineFrame 7 0 0xFF (le 6 (s.get R.X_WALK_ID p) ++ le 1 (s.get R.X_WALK_SLOT p)))
  | _, _ => s

/-- Whether a self-test slice runs on P5, between whose start and end no frame goes out on the line (R47, R292). -/
def State.lineSliced (s : State) : Bool := s.on R.BIST_STATUS_RUNNING && s.get R.BIST_STATUS_PART == 5

/-- Whether polls are suspended (R47, R66, R169, R292): Ride-Through, a charge rest measurement, or a self-test slice on P5. -/
def State.pollsHeld (s : State) : Bool := s.on R.MODE_STATUS_RIDE_ACTIVE || s.resting || s.lineSliced

/-- No frame is in progress on a port. -/
def State.frameIdle (s : State) (p : Nat) : State := (s.set R.X_FRAME 0 p).set R.X_TRY 0 p

/-- The POLL of a slot goes out in the line cycle in progress, from which its next due time counts (R284). -/
def State.markPolled (s : State) (p n : Nat) : State :=
  if s.get R.X_LINE_CYC p = 0 then s
  else (s.set R.X_SLOT_CYC (s.get R.X_LINE_CYC p - 1) n).flag R.X_SLOT_POLLED true n

/-- A frame to the next slot left goes out: its CONFIG where one is pending, else its POLL (R284). With none left, or while polls
are suspended (R292), the port is idle. -/
def State.nextFrame (s : State) (p : Nat) : State :=
  match s.nextSlot p with
  | some n =>
    if s.pollsHeld then s.frameIdle p
    else
      let cfg := (s.get R.X_SLOT_CFG n).testBit 24
      let s1 := ((s.set R.X_FRAME (if cfg then 2 else 1) p).set R.X_TRY 0 p).nextSeq n
      let s2 := s1.set R.X_FRAME_SEQ (s1.get R.X_SLOT_SEQ n) p
      (if cfg then s2 else s2.markPolled p n).sendFrame p
  | none => s.frameIdle p

/-- Whether a port does nothing at the moment. -/
def State.lineQuiet (s : State) (p : Nat) : Bool :=
  s.get R.X_FRAME p == 0 && s.get R.X_LINE_LEFT p == 0 && s.get R.X_RUN p == 0

/-- A line cycle starts (R284, R286): SYNC_TIME where its period has elapsed, then every due slot. -/
def State.startCycle (s : State) (p : Nat) : State :=
  let due := s.slotMask p s.slotDue
  let s1 := s.iff (decide (s.get R.X_SYNC_AT p + 1000 * s.get R.LINE_SYNC_PERIOD ≤ s.now)) (fun t => t.syncTime p)
  (((s1.set R.X_LINE_CYC (s1.cycleTime + 1) p).set R.X_LINE_LEFT due p).flag R.X_LINE_LATE false p).nextFrame p

/-- The polls of a yard wake start (R285): every ACTIVE or LOST slot on the port with YARD = 1, once. -/
def State.yardCycle (s : State) (p : Nat) : State :=
  let s1 := (s.set R.X_LINE_CYC 0 p).flag R.X_LINE_LATE false p
  (s1.set R.X_LINE_LEFT (s1.slotMask p (fun n => s1.on R.LINE_SLOTs_CFG_YARD n)) p).nextFrame p

/-- Whether an enumeration run is due on a port (R281): one with START = 1, or one with START = 0 while DISC_EN is set and the mode
uses node periods. -/
def State.runDue (s : State) (p : Nat) : Bool :=
  s.get R.X_ENUM p == 2 ||
    (s.get R.X_ENUM p == 1 && s.on R.LINE_CTRL_DISC_EN && nodeMode (s.get R.MODE_STATUS_MODE))

/-- Whether a cycle or the polls of a yard wake may start on a port (R46, R47, R281, R284, R292). -/
def State.cycleAllowed (s : State) (p : Nat) : Bool :=
  s.portState p == 4 && s.lineQuiet p && !s.pollsHeld && s.get R.AUX_VAUX_I ≤ 54 && !s.runDue p

/-- A cycle or the polls of a yard wake start, or wait until they may; DEFER shows a wait for VAUX (R46). -/
def State.cycleDue (s : State) (p : Nat) : State :=
  let yard := !nodeMode (s.get R.MODE_STATUS_MODE)
  let s1 := s.flag R.LINE_STATUS_DEFER (54 < s.get R.AUX_VAUX_I)
  if yard && !s1.bit R.X_POLL p then s.dropLate p
  else if s1.cycleAllowed p then (if yard then s1.yardCycle p else s1.startCycle p)
  else s1.flag R.X_LINE_LATE true p

/-- A port that has no frame in progress goes on with the polls that are left, or with a cycle that waited. [DEDUCED: log 45] -/
def State.lineResume (s : State) (p : Nat) : State :=
  if s.get R.X_FRAME p != 0 || s.get R.X_RUN p != 0 || s.portState p != 4 then s
  else if s.get R.X_LINE_LEFT p != 0 then s.nextFrame p
  else if s.on R.X_LINE_LATE p then s.cycleDue p
  else s

/-- A port has finished a frame, a run or a cycle. -/
def State.lineGoOn (s : State) (p : Nat) : State := (s.frameIdle p).lineResume p

/-- A slot's POLL is done, one way or the other. -/
def State.slotDone (s : State) (p n : Nat) : State := (s.setBit R.X_LINE_LEFT n false p).lineGoOn p

/-- The polls of a yard wake fall due on a port (R285). -/
def State.startYard (s : State) (p : Nat) : State :=
  if s.bit R.X_POLL p && !nodeMode (s.get R.MODE_STATUS_MODE) then s.cycleDue p else s

/-- A port becomes ACTIVE (R267): shorts are forgotten, a yard wake polls. -/
def State.portActive (s : State) (p : Nat) : State := ((s.setPort p 4).set R.X_SHORTS 0 p).startYard p

/-- The last poll cycle of a port whose work is done (R267, R285). -/
def State.portIdle (s : State) (p : Nat) : Bool :=
  s.lineQuiet p && s.get R.X_ENUM p != 2 && !(s.on R.X_LINE_LATE p && s.bit R.X_POLL p)

/-! ### Enumeration (R277 to R281) -/

/-- A slot that no ID holds and no ASSIGN in progress names (R279). [DEDUCED: log 44] -/
def State.slotFree (s : State) (n : Nat) : Bool :=
  s.slotId n == 0 && (List.range 2).all (fun p => !(s.get R.X_FRAME p == 3 && s.get R.X_WALK_SLOT p == n))

/-- The slot allocated to an ID and the rule that gave it (R279). [DEDUCED: log 46] -/
def State.slotAllocate (s : State) (id : Nat) : Option (Nat × Nat) :=
  let bind := fun n => s.get R.LINE_SLOTs_BIND n
  match (List.range 64).find? (fun n => s.slotId n == id) with
  | some n => some (n, 1)
  | none =>
    match (List.range 64).find? (fun n => s.slotFree n && bind n != 0 && bind n == id % 65536) with
    | some n => some (n, 2)
    | none => ((List.range 64).find? (fun n => s.slotFree n && bind n == 0)).map (fun n => (n, 3))

/-- An enumeration run ends (R278); a port that was ENUMERATING becomes ACTIVE (R267 step 4). -/
def State.runEnd (s : State) (p : Nat) : State :=
  let s1 := s.set R.X_RUN 0 p
  if s1.portState p = 3 then s1.portActive p else s1.lineGoOn p

/-- An IDWALK goes out, the first of a run with its START (R276, R278). -/
def State.sendWalk (s : State) (p start : Nat) : State := s.lineSend p (lineFrame 6 1 0xFF (le 1 start))

/-- A PARK goes out (R276, R278). -/
def State.sendPark (s : State) (p id : Nat) : State := s.lineSend p (lineFrame 8 0 0xFF (le 6 id))

/-- After an IDWALK's action: the run ends at its 80th IDWALK, or the next one goes out (R278). -/
def State.runStep (s : State) (p : Nat) : State :=
  let s1 := s.frameIdle p
  if 80 ≤ s1.get R.X_WALKS p then s1.runEnd p else s1.sendWalk p 0

/-- The index at which the failures of an ID are counted in the run of a port. -/
def State.failIndex (s : State) (p id : Nat) : Nat :=
  80 * p + ((List.range 79).find? (fun k => s.get R.X_FAIL_ID (80 * p + k) == id || s.get R.X_FAIL_ID (80 * p + k) == 0)).getD 79

/-- An ASSIGN has failed with its retry (R278): the count, the latch, the record with the class of an ID that holds the slot
already (R289); from three on the node is parked. [DEDUCED: log 46] -/
def State.assignFailed (s : State) (p : Nat) : State :=
  let id := s.get R.X_WALK_ID p
  let slot := s.get R.X_WALK_SLOT p
  let k := s.failIndex p id
  let n := s.get R.X_FAIL_N k + 1
  let cls := if s.slotId slot = id then s.get R.LINE_SLOTs_STAT_CLASS slot else 0xFF
  let s1 := ((s.set R.X_FAIL_ID id k).set R.X_FAIL_N n k).latch R.LINE_FAULT_ASSIGN_FAIL
  ((s1.nodeEvent 0x05 p id cls slot n).iff (decide (3 ≤ n)) (fun t => t.sendPark p id)).runStep p

/-- A node gets no slot (R280): PARK, the latch, the ID and the count, the record. -/
def State.overflow (s : State) (p id : Nat) : State :=
  let s1 := (((s.sendPark p id).inc R.LINE_OVF_COUNT).set R.LINE_OVF_ID id).latch R.LINE_FAULT_OVERFLOW
  s1.nodeEvent 0x04 p id 0xFF 0xFF (s1.get R.LINE_OVF_COUNT)

/-! ### Ports -/

/-- PORT_RISE_COMPLETE (R267): V_line is reached; the boot wait or the settle begins. -/
def execPortRiseComplete (p : Fin 2) (s : State) : Out :=
  .next (if s.portState p = 2 then s.flag R.X_LINE_UP true p else s)

/-- PORT_BOOT_WAIT_END (R267 step 3, R286): SYNC_TIME; the port enumerates, its run is due with START = 1. -/
def execPortBootWaitEnd (p : Fin 2) (s : State) : Out :=
  .next (if s.portState p = 2 ∧ s.on R.X_LINE_UP p ∧ s.on R.X_LINE_BOOT p then
    ((s.setPort p 3).syncTime p).set R.X_ENUM 2 p
  else s)

/-- PORT_SETTLE_END (R267, R286): SYNC_TIME; the port is ACTIVE without enumeration. [DEDUCED: log 44] -/
def execPortSettleEnd (p : Fin 2) (s : State) : Out :=
  .next (if s.portState p = 2 ∧ s.on R.X_LINE_UP p ∧ !s.on R.X_LINE_BOOT p then
    (((s.setPort p 4).syncTime p).set R.X_SHORTS 0 p).startYard p
  else s)

/-- PORT_TO_KEEP_ALIVE (R66, R255, R267): the work is done and no mode wants the port at full power. `power` is its
keep-alive draw, 0.1 mW. [DEDUCED: log 44] -/
def execPortToKeepAlive (p : Fin 2) (power : Nat) (s : State) : Out :=
  .next (
    let keep := s.portEn p && !s.hostOff p && (nodeMode (s.get R.MODE_STATUS_MODE) || s.on R.MODE_STATUS_RIDE_ACTIVE)
    if s.portHigh p && s.portIdle p && !keep then
      let s1 := ((s.lineIdle p).setBit R.X_POLL p false).flag R.X_LINE_UP false p
      if s.portKa p && s.portEn p && !s.hostOff p then ((s1.setPort p 1).set R.X_KA_POWER power p).ledgerFollow
      else s1.portOff p
    else s)

/-- PORT_SHORT (R288, R292): 0 V and RETRY; the third retry that ends in a short latches the port. -/
def execPortShort (p : Fin 2) (s : State) : Out :=
  .next (if s.portHigh p then
    let n := s.get R.X_SHORTS p + 1
    if n ≤ 3 then ((s.portDown p 5).set R.X_SHORTS n p).nodeEvent 0x07 p 0 0xFF 0xFF n
    else
      let s1 := ((s.portDown p 6).set R.X_SHORTS 0 p).setBit R.X_POLL p false
      (s1.latch (if p.val = 0 then R.LINE_FAULT_A_SHORT else R.LINE_FAULT_B_SHORT)).nodeEvent 0x08 p 0 0xFF 0xFF 0
  else s)

/-- PORT_RETRY_END (R288): the power-up restarts where the port is still wanted. -/
def execPortRetryEnd (p : Fin 2) (s : State) : Out :=
  .next (if s.portState p = 5 then (s.setPort p 0).portsFollow else s)

/-- KEEP_ALIVE_OVERLOAD (R288). -/
def execKeepAliveOverload (p : Fin 2) (s : State) : Out :=
  .next (if s.portState p = 1 then
    ((s.portOff p).latch (if p.val = 0 then R.LINE_FAULT_A_KA_OVLD else R.LINE_FAULT_B_KA_OVLD)).nodeEvent 0x09 p 0 0xFF
      0xFF 0
  else s)

/-! ### Cycles and frames -/

/-- LINE_CYCLE_START (R46, R47, R284, R292): a cycle or run in progress delays it, and so does what suspends polls; above 1.35 A of
VAUX current it is deferred. -/
def execLineCycleStart (p : Fin 2) (s : State) : Out :=
  .next (if s.portState p = 4 ∧ nodeMode (s.get R.MODE_STATUS_MODE) then s.cycleDue p else s)

/-- A valid reply from a slot (R271, R287, R291): its amplitude, its class, its time; a LOST slot is FOUND. -/
def State.slotHeard (s : State) (p n status amp : Nat) : State :=
  let s1 := ((s.learnAmp n amp).set R.LINE_SLOTs_STAT_CLASS (status % 8) n).set R.X_SLOT_LAST (s.now % 2 ^ 32) n
  if s.slotState n = 2 then ((s1.set R.LINE_SLOTs_STAT_MISSED 0 n).setSlot n 1).slotEvent 0x03 p n 0 else s1

/-- POLL_REPLY (R271, R274, R287, R296): STATUS, payload, device time of its SYNC and its amplitude. [DESIGN CHOICE: log 74] -/
def execPollReply (p : Fin 2) (status : Fin 256) (payload : List Byte) (sync amp : Nat) (s : State) : Out :=
  .next (match s.nextSlot p with
  | some n =>
    if s.get R.X_FRAME p = 1 ∧ s.get R.X_TRY p ≠ 1 then
      let s1 := (s.set R.LINE_SLOTs_STAT_MISSED 0 n).set R.X_SLOT_MISSES 0 n
      ((s1.slotHeard p n status amp).engineReply n status payload sync).slotDone p n
    else s
  | none => s)

/-- A poll is missed (R287): at the third in a row the slot is LOST. -/
def State.pollMissed (s : State) (p n : Nat) : State :=
  let m := min (s.get R.LINE_SLOTs_STAT_MISSED n + 1) 3
  let s1 := (s.set R.LINE_SLOTs_STAT_MISSED m n).inc R.X_SLOT_MISSES n
  if m = 3 ∧ s.slotState n = 1 then ((s1.setSlot n 2).latch R.LINE_FAULT_NODE_LOST).slotEvent 0x02 p n 0 else s1

/-- The CONFIG of a slot is done (R290): its POLL follows, unless the slot was put to sleep meanwhile (R287). -/
def State.configDone (s : State) (p n : Nat) (ok : Bool) (detail : Nat) : State :=
  let s1 := (s.set R.X_SLOT_CFG 0 n).slotEvent (if ok then 0x0A else 0x0B) p n (if ok then 0 else detail)
  if s1.slotState n = 3 then s1.slotDone p n else s1.lineGoOn p

/-- REPLY_TIMEOUT (R274): the error count; a first failure awaits its retry, a second ends the frame. -/
def execReplyTimeout (p : Fin 2) (s : State) : Out :=
  .next (if s.get R.X_FRAME p = 0 ∨ s.get R.X_TRY p = 1 then s
  else
    let s1 := s.inc R.LINE_x_ERR p
    if s.get R.X_TRY p = 0 then s1.set R.X_TRY 1 p
    else
      match s.get R.X_FRAME p, s.nextSlot p with
      | 1, some n => (s1.pollMissed p n).slotDone p n
      | 2, some n => s1.configDone p n false 0
      | 3, _ => s1.assignFailed p
      | _, _ => s1)

/-- FRAME_RETRY (R274): the same frame with the same SEQ. -/
def execFrameRetry (p : Fin 2) (s : State) : Out :=
  .next (if s.get R.X_FRAME p ≠ 0 ∧ s.get R.X_TRY p = 1 then (s.set R.X_TRY 2 p).sendFrame p else s)

/-- CONFIG_REPLY (R276): CFG_VALID of STATUS says whether the entry was applied. [DESIGN CHOICE: log 74] -/
def execConfigReply (p : Fin 2) (status : Fin 256) (amp : Nat) (s : State) : Out :=
  .next (match s.nextSlot p with
  | some n =>
    if s.get R.X_FRAME p = 2 ∧ s.get R.X_TRY p ≠ 1 then
      (s.slotHeard p n status amp).configDone p n (status.val.testBit 5) (s.get R.X_SLOT_CFG n / 65536 % 256)
    else s
  | none => s)

/-! ### Runs -/

/-- ENUMERATION_RUN_START (R278, R281, R292): the line cycle in progress has ended and no slice runs on P5. A run with START = 0
whose conditions have ended is dropped. [DEDUCED: log 44] -/
def execEnumerationRunStart (p : Fin 2) (s : State) : Out :=
  .next (if (s.portState p = 3 ∨ s.portState p = 4) ∧ s.lineQuiet p ∧ !s.lineSliced then
    if s.runDue p then
      let s1 := s.each 80 (fun k t => (t.set R.X_FAIL_ID 0 (80 * p + k)).set R.X_FAIL_N 0 (80 * p + k))
      ((((s1.set R.X_RUN (s.get R.X_ENUM p) p).set R.X_ENUM 0 p).set R.X_WALKS 0 p).set R.X_DISC_AT s.now p).sendWalk p
        (s.get R.X_ENUM p - 1)
    else (s.set R.X_ENUM 0 p).lineResume p
  else s)

/-- An ASSIGN goes out (R275, R278): after it the next POLL or CONFIG to a slot that the ID holds already carries SEQ = 0. -/
def State.sendAssign (s : State) (p id slot how : Nat) : State :=
  let s1 := ((s.set R.X_WALK_ID id p).set R.X_WALK_SLOT slot p).set R.X_WALK_HOW how p
  (((s1.set R.X_FRAME 3 p).set R.X_TRY 0 p).iff (how == 1) (fun t => t.set R.X_SLOT_SEQ 0 slot)).sendFrame p

/-- IDWALK_COMPLETE (R277 to R280): whether a node sank in the presence slot, and the ID of the 48 slots.
[DESIGN CHOICE: log 74] -/
def execIdwalkComplete (p : Fin 2) (seen : Bool) (id : Nat) (s : State) : Out :=
  .next (if s.get R.X_RUN p = 0 ∨ s.get R.X_FRAME p ≠ 0 then s
  else
    let i := id % 2 ^ 48
    let s1 := s.set R.X_WALKS (s.get R.X_WALKS p + 1) p
    if !seen then s1.runEnd p
    else if i = 0 ∨ i = 2 ^ 48 - 1 then s1.runStep p
    else
      match s1.slotAllocate i with
      | some (n, how) => s1.sendAssign p i n how
      | none => (s1.overflow p i).runStep p)

/-- ASSIGN_REPLY (R275, R276, R278, R279, R287): STATUS, FMT and CHMASK of a valid reply; the slot enters the table, a LOST one is
FOUND. A slot with EN = 0 is sent SLEEP. An ASSIGN by the table whose slot was released meanwhile names no slot any more.
[DESIGN CHOICE: log 74] -/
def execAssignReply (p : Fin 2) (status fmt mask : Fin 256) (s : State) : Out :=
  .next (if s.get R.X_FRAME p = 3 ∧ s.get R.X_TRY p ≠ 1 then
    let n := s.get R.X_WALK_SLOT p
    let how := s.get R.X_WALK_HOW p
    if how = 1 ∧ s.slotId n ≠ s.get R.X_WALK_ID p then s.runStep p
    else
    let s1 := if how = 1 then s else
      ((s.engineRelease n).set R.X_SLOT_ID (s.get R.X_WALK_ID p) n).flag R.LINE_SLOTs_STAT_BOUND (how == 2) n
    let s2 := ((s1.set R.LINE_SLOTs_STAT_PORT p n).set R.LINE_SLOTs_STAT_CLASS (status.val % 8) n).set
      R.LINE_SLOTs_STAT_MISSED 0 n
    let s3 := (((s2.set R.X_SLOT_FMT fmt n).set R.X_SLOT_MASK mask n).set R.X_SLOT_MISSES 0 n).set R.X_SLOT_SEQ 0 n
    let s4 := ((s3.flag R.X_SLOT_AMP_OK false n).flag R.X_SLOT_POLLED false n).set R.X_SLOT_LAST (s.now % 2 ^ 32) n
    let s5 := if s4.on R.LINE_SLOTs_CFG_EN n then s4.setSlot n 1 else (s4.setSlot n 3).slotCommand p n 4
    ((s5.iff (how == 1 && s.slotState n == 2) (fun t => t.slotEvent 0x03 p n 0)).slotEvent 0x01 p n how).runStep p
  else s)

/-- DISCOVERY_DUE (R281): a run with START = 0 becomes due. -/
def execDiscoveryDue (p : Fin 2) (s : State) : Out :=
  .next (if s.on R.LINE_CTRL_DISC_EN ∧ s.portState p = 4 ∧ nodeMode (s.get R.MODE_STATUS_MODE) then
    s.set R.X_ENUM (max (s.get R.X_ENUM p) 1) p
  else s)

/-! ### Slot enable, LINE_CONTROL, NODE_INFO -/

/-- Whether a slot's own frame, a POLL or a CONFIG, is in progress on its port. -/
def State.slotBusy (s : State) (p n : Nat) : Bool :=
  s.nextSlot p == some n && s.get R.X_FRAME p != 0 && s.get R.X_FRAME p != 3

/-- The effect of a write of LINE_SLOTs_CFG.EN on a slot that is held (R275, R287): SLEEP, and no further poll, or WAKE. -/
def State.slotEnable (s : State) (n : Nat) (b : Bool) : State :=
  let was := s.on R.LINE_SLOTs_CFG_EN n
  let p := s.get R.LINE_SLOTs_STAT_PORT n
  let s1 := s.flag R.LINE_SLOTs_CFG_EN b n
  if was = b ∨ s.slotId n = 0 then s1
  else if b then ((s1.setSlot n 1).slotCommand p n 5).set R.X_SLOT_SEQ 0 n
  else ((s1.setSlot n 3).iff (!s1.slotBusy p n) (fun t => t.setBit R.X_LINE_LEFT n false p)).slotCommand p n 4

/-- SLOT_ENABLE_WRITE (R287, R379): the write also sets DEV_CFG_DIRTY. -/
def execSlotEnableWrite (n : Fin 64) (b : Bool) (s : State) : Out :=
  .next ((s.flag R.DEV_CFG_DIRTY true).slotEnable n b)

/-- Set the host-off bit of a port (R290, R293). -/
def State.setHostOff (s : State) (p : Nat) (b : Bool) : State :=
  if p = 0 then s.flag R.LINE_STATUS_A_HOST_OFF b else s.flag R.LINE_STATUS_B_HOST_OFF b

/-- Apply an update to the ports that a mask names. -/
def State.onPorts (s : State) (mask : Nat) (f : Nat → State → State) : State :=
  s.each 2 (fun p t => if mask.testBit p then f p t else t)

/-- LINE_CONTROL PORT_ON (R290): LATCHED and host-off end; the port powers as the mode permits. -/
def State.linePortOn (s : State) (mask : Nat) : State :=
  (s.onPorts mask (fun p t =>
    let u := t.setHostOff p false
    if u.portState p = 6 then (u.setPort p 0).set R.X_SHORTS 0 p else u)).portsFollow

/-- LINE_CONTROL PORT_OFF (R290): OFF, keep-alive included. -/
def State.linePortOff (s : State) (mask : Nat) : State :=
  s.onPorts mask (fun p t => ((t.setHostOff p true).setBit R.X_POLL p false).portOff p)

/-- LINE_CONTROL ENUMERATE (R281, R290). -/
def State.lineEnumerate (s : State) (mask : Nat) : State := s.onPorts mask (fun p t => t.set R.X_ENUM 2 p)

/-- LINE_CONTROL RELEASE_SLOT on a slot below 64 (R290, R292): RESET, the record, the slot free. -/
def State.lineRelease (s : State) (n : Nat) : State :=
  if s.slotId n = 0 then s
  else
    let p := s.get R.LINE_SLOTs_STAT_PORT n
    let s1 := ((s.slotEvent 0x06 p n 0).slotCommand p n 9).freeSlot n
    if s.slotBusy p n then s1.slotDone p n else s1.setBit R.X_LINE_LEFT n false p

/-- LINE_CONTROL CONFIG_NODE (R290): the answer's status is 0 OK, 0x15 RANGE, 0x02 BUSY. -/
def State.lineConfig (s : State) (n id value : Nat) : State × Nat :=
  if 63 < n ∨ s.slotId n = 0 then (s, 0x15)
  else if (s.get R.X_SLOT_CFG n).testBit 24 then (s, 0x02)
  else (s.set R.X_SLOT_CFG (2 ^ 24 + id * 65536 + value) n, 0)

/-- The 16 bytes of NODE_INFO (R291). -/
def State.nodeInfo (s : State) (n : Nat) : List Byte :=
  le 6 (s.slotId n) ++ le 1 (s.get R.LINE_SLOTs_STAT_PORT n) ++ le 1 (s.get R.LINE_SLOTs_STAT_CLASS n) ++
    le 1 (s.slotState n) ++ le 1 (s.get R.X_SLOT_FMT n) ++ le 1 (s.get R.X_SLOT_MASK n) ++
    le 1 (s.get R.X_SLOT_MISSES n) ++ le 4 (s.get R.X_SLOT_LAST n)

end Sys2Proof.Machine
end

