-- ==== Sys2Proof/Machine/PowerPath.lean ====
section
/-! DEFINITION. The power path and battery protection (R192 to R213): the meanings of the commands of chapter 07.
Voltages are 10 mV codes unless a name says otherwise, currents 25 mA codes, positive into the battery. -/

namespace Sys2Proof.Machine

/-- R196 row 1: what keeps the pair OPEN, with the holds of R212, R447 and R454. -/
def State.mustOpen (s : State) (bats : Nat) : Bool :=
  s.get R.MODE_STATUS_MODE == 0 || s.on R.X_CUTOFF_REST || s.on R.PP_STATUS_RETRY_WAIT || s.on R.X_LOCKOUT ||
    s.get R.PP_STATUS_BAT != 1 || s.on R.X_HELD ||
    (s.bit R.BIST_STATUS_SAFE 3 && s.get R.PP_STATUS_ROLE != 1) ||
    (s.get R.PP_STATUS_ROLE == 0 && s.coldDue && bats < 900 && !s.on R.AUX_STATUS_VAUX_REG)

/-- The role of R196, FULL_ON kept in the safe state of P3 (R454); `high` says that BATS has been at PP_VSYS_MIN - 0.20 V or above for 10 ms. -/
def State.roleOf (s : State) (sys bats : Nat) (high : Bool) : Nat :=
  let role := s.get R.PP_STATUS_ROLE
  let low := s.get R.PP_VSYS_MIN
  if s.mustOpen bats then 0
  else if (role = 0 ∧ sys + 100 < bats) ∨ (role = 4 ∧ sys + 50 < bats) then 4
  else if s.bit R.BIST_STATUS_SAFE 3 then 1
  else if s.on R.PP_STATUS_UV_INHIBIT then 3
  else if (high ∧ low ≤ bats + 20) ∨ (role = 1 ∧ low ≤ bats + 50) then 1
  else 2

/-- I_plim for a voltage difference (R198): no limit below 10 codes. -/
def State.pLimit (s : State) (dv : Int) : Option Nat :=
  if dv < 10 then none else some (s.get R.PP_FET_PMAX * 400 / dv.toNat)

/-- A current under an optional limit. -/
def limited (i : Nat) (lim : Option Nat) : Nat :=
  match lim with
  | some p => min i p
  | none => i

/-- The linear current command of a role (R195, R198, R200), and whether the power limit binds. -/
def State.linear (s : State) (role sys bats : Nat) : Nat × Bool :=
  let want := s.get R.CHG_I_TARGET
  let lim := s.pLimit ((sys : Int) - bats)
  if role = 2 ∨ (role = 3 ∧ bats + 20 < s.get R.PP_VSYS_MIN) then
    (limited want lim, decide (limited want lim < want))
  else if role = 4 then
    let l2 := s.pLimit ((bats : Int) - sys)
    (limited 200 l2, decide (limited 200 l2 < 200))
  else (0, false)

/-- The rising target of CONNECT (R197): it starts at the SYS voltage at entry and rises 10 mV per evaluation, toward the
lesser of BATS - 0.50 V and 38.00 V; PP_VSYS_MIN is its floor. -/
def State.connectRise (s : State) (old sys bats : Nat) : State :=
  let v := if old = 4 then min (s.get R.X_CONN + 1) (min (bats - 50) 3800) else sys
  (s.set R.X_CONN v).set R.PP_SYS_TARGET (max (s.get R.PP_VSYS_MIN) v)

/-- ROLE_EVALUATE (R195 to R201, R207): SYSS, BATS, the battery current, and whether BATS has been high for 10 ms. With
no input present a battery of 2.0 V or more is PRESENT. VAUX and VPRE start where they are requested and SYS allows
(R202, R218, R221). -/
def execRoleEvaluate (sys bats : Nat) (ibat : Int) (high : Bool) (s : State) : Out :=
  .next (if s.asleepDeep then s.openPair
  else
    let s1 := ((s.set R.X_SYSS sys).set R.X_BATS bats).iff (sys < 450) (fun t => t.flag R.PP_STATUS_VSU_ON true)
    let s2 := s1.iff (!s1.anyPresent && 200 ≤ bats && s1.get R.PP_STATUS_BAT != 1 && s1.get R.PP_STATUS_BAT != 4)
      (fun t => t.setBat 1)
    let old := s2.get R.PP_STATUS_ROLE
    let role := s2.roleOf sys bats high
    let lin := s2.linear role sys bats
    let s3 := ((((s2.iff (role != old) State.needP3).set R.PP_STATUS_ROLE role).set R.PP_LIN_I lin.1).flag R.PP_STATUS_PLIM lin.2).flag R.PP_STATUS_SUPPL
      (decide (ibat ≤ -4))
    let s4 := s3.iff (role == 4) (fun t => t.connectRise old sys bats)
    (s4.iff (role != 2 || bats < sys) (fun t => t.set R.X_SUPPL 0)).sysFollow.coldStartCheck.startVaux.startVpre)

/-- CONNECT_TIMEOUT (R200): the attempt fails and counts toward lockout. -/
def execConnectTimeout (s : State) : Out :=
  .next (if s.get R.PP_STATUS_ROLE = 4 then s.openPair.ppFailure true else s)

/-- SUPPLEMENT (R199): in LINEAR, SYSS more than 20 mV below BATS gives the forward drop, more than 200 mV fully on. -/
def execSupplement (sysMv batsMv : Nat) (s : State) : Out :=
  .next (if s.get R.PP_STATUS_ROLE = 2 then
    if sysMv + 200 < batsMv then s.set R.X_SUPPL 2
    else if sysMv + 20 < batsMv ∧ s.get R.X_SUPPL = 0 then s.set R.X_SUPPL 1
    else s
  else s)

/-- COLD_START_ABANDON (R202): 2 s without SYS at 9.00 V. [DESIGN CHOICE: log 39] -/
def execColdStartAbandon (s : State) : Out :=
  .next (if s.on R.PP_STATUS_COLD_START then (s.coldStartEnd.latch R.PP_FAULT_COLD_START).flag R.X_COLD_WAIT true else s)

/-- COLD_START_RETRY (R202): 5 s after the abandonment. -/
def execColdStartRetry (s : State) : Out :=
  .next (if s.on R.X_COLD_WAIT then (s.flag R.X_COLD_WAIT false).coldStartCheck else s)

/-- VSU_DISABLE (R201): 10 ms after VAUX reached regulation, with SYSS at 4.5 V or more. -/
def execVsuDisable (s : State) : Out :=
  .next (if s.on R.AUX_STATUS_VAUX_REG && 450 ≤ s.get R.X_SYSS then s.flag R.PP_STATUS_VSU_ON false else s)

/-- DISCHARGE_OVERCURRENT (R203). -/
def execDischargeOvercurrent (s : State) : Out :=
  .next (if s.get R.PP_STATUS_ROLE = 0 then s else s.ppTrip R.PP_FAULT_DSG_OC)

/-- SHORT_CIRCUIT (R203). -/
def execShortCircuit (s : State) : Out :=
  .next (if s.get R.PP_STATUS_ROLE = 0 then s else s.ppTrip R.PP_FAULT_SHORT_CIRCUIT)

/-- RETRY_WAIT_END (R203): PP reconnects at its next evaluation. -/
def execRetryWaitEnd (s : State) : Out := .next (s.flag R.PP_STATUS_RETRY_WAIT false)

/-- TRIP_COUNT_RESET (R203): 60 s connected without a trip. -/
def execTripCountReset (s : State) : Out :=
  .next (if s.on R.X_LOCKOUT ∨ s.get R.PP_STATUS_ROLE = 0 ∨ s.get R.PP_STATUS_ROLE = 4 then s
  else (s.clear R.X_FAILS).flag R.X_TRIPPED false)

/-- The effect of PP_CMD.RETRY_NOW (R203, R213). -/
def State.ppRetryNow (s : State) : State := (s.flag R.PP_STATUS_RETRY_WAIT false).endLockout

/-- RETRY_NOW (R203). -/
def execRetryNow (s : State) : Out := .next s.ppRetryNow

/-- UV_INHIBIT (R204): BATS in mV has been below cells × PP_UV_CELL for PP_UV_DELAY with an input present. -/
def execUvInhibit (batsMv : Nat) (s : State) : Out :=
  .next (if s.anyPresent ∧ batsMv < s.cells * s.get R.PP_UV_CELL ∧ !s.on R.PP_STATUS_UV_INHIBIT then
    (s.needP3.flag R.PP_STATUS_UV_INHIBIT true).latchStand R.PP_FAULT_BAT_UV
  else s)

/-- UV_INHIBIT_END (R204): BATS in mV has been 100 mV per cell above the level for 1 s. -/
def execUvInhibitEnd (batsMv : Nat) (s : State) : Out :=
  .next (if s.cells * (s.get R.PP_UV_CELL + 100) ≤ batsMv then s.endUvInhibit else s)

/-- UV_CUTOFF (R205 step 1): the undervoltage has held with no input present: the latch and its record, and the rails
turned off as by SET_STATE to PS3; with the rails off the ports follow. [DEDUCED: log 40] -/
def execUvCutoff (batsMv : Nat) (s : State) : Out :=
  .next (if !s.anyPresent ∧ batsMv < s.cells * s.get R.PP_UV_CELL ∧ !s.on R.X_CUTOFF ∧ !s.asleepDeep then
    let s1 := ((s.flag R.X_CUTOFF true).set R.X_CUT_MODE (s.get R.MODE_STATUS_MODE)).latch R.PP_FAULT_UV_CUTOFF
    (s1.each 2 (fun x t => t.railPs3 x)).cutoffPorts
  else s)

/-- CUTOFF_COMPLETE (R205 step 3): with the rails and the ports off and every accepted record committed, VAUX and VPRE stop, the
pair opens, VSU is disabled and device time freezes. -/
def execCutoffComplete (s : State) : Out :=
  .next (if s.on R.X_CUTOFF ∧ !s.railOn 0 ∧ !s.railOn 1 ∧ s.uncommitted = 0 then
    let s1 := (((s.abortSlice 0xFF).cutoffPorts.stopVaux).stopVpre 0).openPair
    let s2 := ((s1.flag R.PP_STATUS_VSU_ON false).flag R.DEV_CLK_FAST_ON false).flag R.X_FAST_REQ false
    ((s2.flag R.X_CUTOFF false).flag R.X_CUTOFF_REST true).followAlert
  else s)

/-- PRESENCE_PROBE (R207, R209): BATS before and under the 10 mA load, with the pair OPEN; with no input present a battery of
2.0 V or more is PRESENT without the load. [DEDUCED: log 38] -/
def execPresenceProbe (v0 v1 : Nat) (s : State) : Out :=
  .next (let bat := s.get R.PP_STATUS_BAT
  if s.get R.PP_STATUS_ROLE = 0 ∧ (bat = 0 ∨ bat = 2 ∨ bat = 3 ∨ s.on R.X_PROBE_DUE) ∧ !s.asleepDeep then
    let s1 := s.needP3.flag R.X_PROBE_DUE false
    if v0 < 200 ∨ s.anyPresent ∧ (v1 < 200 ∨ v1 * 100 < v0 * 80) then s1.batteryMissing
    else if bat = 4 then s1
    else s1.setBat 1
  else s)

/-- The effect of PP_CMD.PROBE_NOW (R207, R213). -/
def State.probeNow (s : State) : State := if s.get R.PP_STATUS_ROLE = 0 then s.flag R.X_PROBE_DUE true else s

/-- PROBE_NOW (R207). -/
def execProbeNow (s : State) : Out := .next s.probeNow

/-- EMPTY_CONNECTOR (R207): precharge into an empty connector. [DEDUCED: log 38] -/
def execEmptyConnector (s : State) : Out :=
  .next (if s.get R.PP_STATUS_ROLE = 2 ∧ s.get R.CHG_I_TARGET ≠ 0 then s.openPair.batteryMissing else s)

/-- BATTERY_SHORT (R208): BATS in mV has not risen above cells × PP_V_SHORT within PP_T_SHORT of precharge. -/
def execBatteryShort (batsMv : Nat) (s : State) : Out :=
  .next (if s.chg = 3 ∧ s.get R.PP_STATUS_BAT = 1 ∧ batsMv ≤ s.cells * s.get R.PP_V_SHORT * 10 then
    ((s.latchStand R.PP_FAULT_BAT_SHORT).setBat 4).chgFaultPp
  else s)

/-- BATTERY_REMOVAL (R209, R212): every phase stops, the pair opens, BAT_LOST latches, CHG is in FAULT; the trip ends at
once, or with the SYS overvoltage that found the removal. In CONNECT no phase stops, and BAT_LOST latches only with a
charge target. [DEDUCED: log 38] -/
def execBatteryRemoval (s : State) : Out :=
  .next (let role := s.get R.PP_STATUS_ROLE
  if role = 0 then s
  else if role = 4 then
    if s.get R.CHG_I_TARGET = 0 then s.setBat 0 else s.batteryLost
  else
    let s2 := (s.each 4 (fun g t => t.tripGroup g 4)).batteryLost
    if s2.stands R.CNV_FAULT_SYS_OV then s2 else s2.each 4 (fun g t => t.endTrip g 4))

/-- UNSUPPORTED_SYS_FALL (R209): the pair opens, presence is judged afresh, CHG waits in QUALIFY. -/
def execUnsupportedSysFall (s : State) : Out :=
  .next (if s.get R.PP_STATUS_ROLE ≠ 0 ∧ s.on R.TRK_STATUS_SHORTFALL then
    let s1 := s.setBat 0
    if s1.chg = 0 ∨ s1.chg = 1 ∨ s1.chg = 0xF then s1 else (s1.flag R.X_PULSE false).chgTo 2
  else s)

end Sys2Proof.Machine
end

