-- ==== Sys2Proof/Machine/Rails.lean ====
section
/-! DEFINITION. VAUX, VPRE, the host rails and the Rail Command Link (R214 to R246, R504): the meanings of the commands
of chapter 08 but the RAIL_CONTROL packets, which Machine/Commands.lean holds. Rail 0 is Rail A, rail 1 Rail B. -/

namespace Sys2Proof.Machine

/-! ### VAUX -/

/-- VAUX_IN_REGULATION (R217, R202 step 4): output voltage and current. A cold start is over, VPRE and the line ports
may start, the failure count restarts (R233). [DEDUCED: log 41] -/
def execVauxInRegulation (v a : Nat) (s : State) : Out :=
  .next (if s.on R.AUX_STATUS_VAUX_ON && !s.on R.AUX_STATUS_VAUX_REG then
    let s1 := (((s.flag R.AUX_STATUS_VAUX_REG true).flag R.AUX_STATUS_VPRE_HOLD_DRV false).set R.AUX_VAUX_V v).set
      R.AUX_VAUX_I a
    ((s1.clear R.X_VAUX_FAILS).coldStartEnd.startVpre).portsFollow
  else s)

/-- VAUX_OUT_OF_REGULATION (R217, R46). -/
def execVauxOutOfRegulation (s : State) : Out := .next s.vauxOutOfReg

/-- VAUX_STOP (R218): 10 ms after the last request. The safe state of P4 holds VAUX as it is (R454). -/
def execVauxStop (s : State) : Out := .next (if s.vauxWanted || s.bit R.BIST_STATUS_SAFE 4 then s else s.stopVaux)

/-- VAUX_FAIL (R233): VAUX stops and waits; the third consecutive failure latches VAUX_SHORT. -/
def execVauxFail (s : State) : Out :=
  .next (if s.on R.AUX_STATUS_VAUX_ON then
    let s1 := (s.stopVaux.set R.X_VAUX_FAILS (min (s.get R.X_VAUX_FAILS + 1) 3)).flag R.X_VAUX_WAIT true
    if s.get R.X_VAUX_FAILS = 2 then s1.latch R.AUX_FAULT_VAUX_SHORT else s1
  else s)

/-- VAUX_RETRY (R233): VAUX soft-starts again where it is still requested. -/
def execVauxRetry (s : State) : Out :=
  .next (if s.on R.X_VAUX_WAIT then (s.flag R.X_VAUX_WAIT false).startVaux else s)

/-- VAUX_OVERLOAD (R233): the current limit of R216 has held for 10 ms. -/
def execVauxOverload (s : State) : Out :=
  .next (if s.on R.AUX_STATUS_VAUX_ON then (s.flag R.AUX_STATUS_VAUX_ILIM true).latch R.AUX_FAULT_VAUX_OVLD else s)

/-! ### VPRE -/

/-- VPRE ramps (R228 step 3), on its hold drive while VAUX is not in regulation (R220). -/
def State.vpreRamp (s : State) : State :=
  ((s.set R.X_VPRE 2).flag R.AUX_STATUS_VPRE_ON true).flag R.AUX_STATUS_VPRE_HOLD_DRV (!s.on R.AUX_STATUS_VAUX_REG)

/-- VPRE_ON_DELAY_END (R228 step 3). -/
def execVpreOnDelayEnd (s : State) : Out := .next (if s.get R.X_VPRE = 1 then s.vpreRamp else s)

/-- VPRE_IN_REGULATION (R221, R228 step 4): PFB; the journal die is powered where R37 wants it, the rails may start.
[DEDUCED: log 41] -/
def execVpreInRegulation (v : Nat) (s : State) : Out :=
  .next (if s.get R.X_VPRE = 2 then
    let s1 := (((s.set R.X_VPRE 3).flag R.AUX_STATUS_VPRE_REG true).set R.AUX_PRE_V v).set R.X_VPRE_AT s.now
    s1.dieFollow.railsGo
  else s)

/-- VPRE_STOP (R229 step 4): after the off-delay, unless something still needs VPRE. The ramp-down takes no time. The safe state
of P4 holds VPRE as it is (R454). -/
def execVpreStop (s : State) : Out :=
  .next (if !s.vpreWanted && 1 ≤ s.get R.X_VPRE && s.get R.X_VPRE ≤ 3 && !s.bit R.BIST_STATUS_SAFE 4 then s.stopVpre 0 else s)

/-- VPRE_FAIL (R230 to R232): both rails OFF, HICCUP, or LATCHED with VPRE_SHORT at the third consecutive failure. The
count restarts after 100 ms in regulation. The rails start again at R228 step 4, a state named before forgotten. -/
def execVpreFail (s : State) : Out :=
  .next (if s.on R.AUX_STATUS_VPRE_ON then
    let s0 := s.vpreGood
    let old := s0.get R.X_VPRE_FAILS
    let s1 := (s0.each 2 (fun x t => (t.railStop x 0).clear R.X_RAIL_NAMED x)).stopVpre (if 2 ≤ old then 6 else 5)
    (s1.set R.X_VPRE_FAILS (min (old + 1) 3)).iff (decide (2 ≤ old)) (fun t => t.latch R.AUX_FAULT_VPRE_SHORT)
  else s)

/-- VPRE_HICCUP_END (R232): VPRE restarts its ramp. -/
def execVpreHiccupEnd (s : State) : Out :=
  .next (if s.get R.X_VPRE = 5 then (if s.vpreWanted then s.vpreRamp else s.set R.X_VPRE 0) else s)

/-- The effect of AUX_CMD.VPRE_RETRY (R232, R243). -/
def State.vpreRetry (s : State) : State :=
  if s.get R.X_VPRE = 6 then ((s.set R.X_VPRE 0).clear R.X_VPRE_FAILS).startVpre else s

/-- VPRE_RETRY (R232). -/
def execVpreRetry (s : State) : Out := .next s.vpreRetry

/-! ### Rails -/

/-- A settle alert (kind 0) or a fault alert (kind 1) of a rail becomes pending (R239). -/
def State.railAlert (s : State) (x kind : Nat) : State := (s.setBit R.X_RAIL_ALERTS kind true x).valtFollow

/-- A latch on a rail: AUX_FAULT and the rail's fault alert (R234, R239). -/
def State.railLatch (s : State) (x : Nat) (a b : Reg) : State := (s.latch (if x = 0 then a else b)).railAlert x 1

/-- Whether a RAIL latch of a rail is unread (R238): SHORT, OV or TUNE. -/
def State.railBad (s : State) (x : Nat) : Bool :=
  if x = 0 then s.on R.AUX_FAULT_RAILA_SHORT || s.on R.AUX_FAULT_RAILA_OV || s.on R.AUX_FAULT_TUNE_A
  else s.on R.AUX_FAULT_RAILB_SHORT || s.on R.AUX_FAULT_RAILB_OV || s.on R.AUX_FAULT_TUNE_B

/-- The reference has reached the newest target: the transition, and its fast slew, are over (R238, R240, R244). -/
def State.railReached (s : State) (x : Nat) : State := (s.flag R.RAIL_x_STAT_SLEWING false x).flag R.X_RAIL_FAST false x

/-- A rail has settled (R239): SETTLED, and the alert where SETTLE_ALERT asks for one. -/
def State.railSettled (s : State) (x : Nat) : State :=
  ((s.railReached x).flag R.RAIL_x_STAT_SETTLED true x).iff (s.on R.RAIL_x_CFG_SETTLE_ALERT x) (fun t => t.railAlert x 0)

/-- RAIL_ON_DELAY_END (R228 step 5). -/
def execRailOnDelayEnd (x : Fin 2) (s : State) : Out := .next (if s.railState x = 1 then s.railSoft x else s)

/-- RAIL_RAMP_END (R228 step 6): 1 ms after the ramp, TUNE, at the target of this moment (R242). -/
def execRailRampEnd (x : Fin 2) (s : State) : Out :=
  .next (if s.railState x = 2 then
    ((s.set R.RAIL_x_STAT_STATE 3 x).flag R.RAIL_x_STAT_SLEWING false x).set R.X_RAIL_TUNED (s.get R.RAIL_x_TARGET x) x
  else s)

/-- The injection code of R225 for a ripple component in 0.1 mV, rounded to nearest. -/
def injectionCode (x dv : Nat) : Nat := (clampI 0 31 (((if x = 0 then 150 else 250 : Int) - dv + 5) / 10)).toNat

/-- The ESR estimate of R225, 0.1 mΩ, from the ripple component in 0.1 mV and the ripple current in mA; where that
current is zero the value is free. [DESIGN CHOICE: log 8] -/
def esrOf (dv di : Nat) : Nat := if di = 0 then Config.esrOpen dv else min (dv * 1000 / di) 65535

/-- The on-time of R224 in ns, from the reference and V_PV in mV: V_ref / (V_PV × 2.0 MHz) with the trim of the frequency loop
in percent, at least 30 ns. -/
def railTon (vref vpv : Nat) (trim : Int) : Nat := max 30 (vref * 5 * (100 + clampI (-25) 25 trim).toNat / vpv)

/-- di_ripple of R225 in mA, from voltages in mV, the on-time in ns and RAIL_x_L in 10 nH. -/
def rippleCurrent (vpv vout ton l : Nat) : Nat := (vpv - vout) * ton / (10 * l)

/-- The end of TUNE (R228 step 7): REGULATING, a state named before applies, and a failed slew is made good (R242). -/
def State.railTuned (s : State) (x : Nat) : State :=
  let named := s.get R.X_RAIL_NAMED x
  ((s.set R.RAIL_x_STAT_STATE 4 x).flag R.X_RAIL_KEEP false x).iff (4 ≤ named) (fun t =>
    (t.set R.RAIL_x_STAT_PS (named - 4) x).clear R.X_RAIL_NAMED x)

/-- RAIL_TUNE_COMPLETE (R225, R228 step 7, R242): the ripple component in 0.1 mV at the target that tuning began with, what sets
the on-time, and whether the jitter was too large at first and again after the retry with G + 4. A transition that waited begins
to slew. [DEDUCED: log 42] -/
def execRailTuneComplete (x : Fin 2) (dv : Nat) (on : RailOnTime) (jitter again : Bool) (s : State) : Out :=
  .next (if s.railState x = 3 then
    let g := injectionCode x dv
    let g' := if jitter && again then 16 else if jitter then min (g + 4) 31 else g
    let vout := vidMv x (s.get R.X_RAIL_TUNED x)
    let ton := railTon vout on.vpv on.trim
    let di := rippleCurrent on.vpv vout ton (s.get R.RAIL_x_L x)
    let s1 := (((s.set R.RAIL_x_RINJ g' x).set R.RAIL_x_ESR (esrOf dv di) x).set R.X_RAIL_TON ton x).iff (jitter && again)
      (fun t => t.railLatch x R.AUX_FAULT_TUNE_A R.AUX_FAULT_TUNE_B)
    let s2 := s1.railTuned x
    let s3 := s2.flag R.X_RAIL_PEND false x
    if s2.on R.X_RAIL_PEND x && s2.get R.RAIL_x_TARGET x != s2.get R.X_RAIL_TUNED x then s3.flag R.RAIL_x_STAT_SLEWING true x
    else s3.railSettled x
  else s)

/-- RAIL_OFF_DELAY_END (R229 step 2). -/
def execRailOffDelayEnd (x : Fin 2) (s : State) : Out := .next (if s.on R.X_RAIL_OFFDLY x then s.railDown x else s)

/-- RAIL_RAMP_DOWN_END (R229 step 3). -/
def execRailRampDownEnd (x : Fin 2) (s : State) : Out := .next (if s.railState x = 5 then s.railStop x 0 else s)

/-- RAIL_START_FAIL (R230, R231): in any switching state HICCUP, or LATCHED with its latch at the third consecutive failure. A
slew that the failure abandons is remembered until a restart succeeds (R242). [DEDUCED: log 42] -/
def execRailStartFail (x : Fin 2) (s : State) : Out :=
  .next (if 2 ≤ s.railState x ∧ s.railState x ≤ 5 then
    let n := min (s.get R.RAIL_x_STAT_FAILS x + 1) 3
    let keep := s.on R.X_RAIL_KEEP x || (s.railState x == 4 && s.on R.RAIL_x_STAT_SLEWING x)
    let s1 := (s.flag R.X_RAIL_KEEP keep x).set R.RAIL_x_STAT_FAILS n x
    if n = 3 then (s1.railStop x 7).railLatch x R.AUX_FAULT_RAILA_SHORT R.AUX_FAULT_RAILB_SHORT else s1.railStop x 6
  else s)

/-- RAIL_HICCUP_END (R230, R242): the restart at R228 step 5, toward the newest target where the failure struck in a slew. A rail
that had to stop meanwhile, or that was stopping, is OFF (R229). [DEDUCED: log 42] -/
def execRailHiccupEnd (x : Fin 2) (s : State) : Out :=
  .next (if s.railState x = 6 then
    (if s.on R.MODE_STATUS_RAIL_DEMAND && !s.on R.X_RAIL_PS3 x then s.railSoft x
    else (s.railStop x 0).set R.RAIL_x_STAT_FAILS 0 x)
  else s)

/-- RAIL_FAILS_RESET (R230): 100 ms REGULATING at 90 % of the target or more. -/
def execRailFailsReset (x : Fin 2) (s : State) : Out :=
  .next (if s.railState x = 4 then s.set R.RAIL_x_STAT_FAILS 0 x else s)

/-- RAIL_OVERVOLTAGE (R234): the latch; the rail keeps its state. -/
def execRailOvervoltage (x : Fin 2) (s : State) : Out :=
  .next (if 2 ≤ s.railState x ∧ s.railState x ≤ 5 then s.railLatch x R.AUX_FAULT_RAILA_OV R.AUX_FAULT_RAILB_OV else s)

/-- RAIL_SETTLE (R239, R240): the reference has reached the newest target, and the output may have held within its window for 1
µs as well. In SOFT_START the reference has reached the ramp's end point; the rail settles at the end of TUNE.
[DESIGN CHOICE: log 91] -/
def execRailSettle (e : RailArrival) (s : State) : Out :=
  .next (if s.railState e.rail = 4 ∧ !s.on R.RAIL_x_STAT_SETTLED e.rail then
    (if e.held then s.railSettled e.rail else s.railReached e.rail)
  else if s.railState e.rail = 2 then s.railReached e.rail
  else s)

/-! ### Firing order (R226) -/

/-- One firing demand of Rail A (R226): to the token holder, or at a load step to the lead phase, which then advances; a phase in
its on-time or minimum off-time is passed over. [DESIGN CHOICE: log 73; DEDUCED: log 92] -/
def State.fireStep (s : State) (f : Firing) : State :=
  let tok := s.get R.X_TOKEN
  let lead := s.get R.X_LEAD
  let step := f.offTime.contains tok || decide (3 * f.gap < 500)
  let from_ := if step then lead else tok
  match [from_ % 3, (from_ + 1) % 3, (from_ + 2) % 3].find? (fun p => !f.onTime.contains p && !f.offTime.contains p) with
  | none => s
  | some p =>
    let s1 := s.set R.X_FIRED (p + 1)
    if step then (s1.set R.X_TOKEN ((lead + 1) % 3)).set R.X_LEAD ((lead + 1) % 3) else s1.set R.X_TOKEN ((p + 1) % 3)

/-- Diode emulation and burst of a rail that switches (R227, R228 step 5, R229 step 2), by its state and its power state, from
what its phases did. [DEDUCED: log 92] -/
def State.railLight (s : State) (x : Nat) (de burst : Bool) : Bool × Bool :=
  let st := s.railState x
  if st = 2 ∨ st = 5 then (true, false)
  else if st = 3 then (false, false)
  else
    match s.get R.RAIL_x_STAT_PS x with
    | 0 => (de && s.on R.RAIL_x_CFG_AUTO_DE x, false)
    | 1 => (true, burst)
    | 2 => (de || !burst, burst)
    | _ => (true, false)

/-- P_in of R235 in 10 mW: input voltage in mV; per phase its mean current in mA, mean on-time in ns, on-times fired. -/
def railInput (vpv : Nat) (phases : List (Nat × Nat × Nat)) : Nat :=
  (phases.foldl (fun acc p => acc + vpv * p.1 * p.2.1 * p.2.2 / 1000000 + (if p.2.2 = 0 then 0 else 30000)) 0) / 10000

/-- RAIL_POWER_ESTIMATE (R221, R226, R227, R235): the rail's output in mV and 25 mA, its phases, the firing demands of Rail A that
the token and the lead phase had to place, whether phases emulated diodes and the rail burst, and PFB, VPRE's output current and
VHOLD's power, from which the external 5 V load follows. A rail that does not switch reads 0. [DESIGN CHOICE: log 91] -/
def execRailPowerEstimate (x : Fin 2) (v a vpv : Nat) (cycles : RailCycles) (de burst : Bool) (preV preI hold : Nat) (s : State) :
    Out :=
  .next (
    let live := decide (2 ≤ s.railState x ∧ s.railState x ≤ 5)
    let z := fun (n : Nat) => if live then min n 65535 else 0
    let s1 := ((((s.set R.RAIL_x_V (z v) x).set R.RAIL_x_I (z a) x).set R.RAIL_x_PIN (z (railInput vpv cycles.phases)) x).set
      R.RAIL_x_POUT (z (v * a * 25 / 10000)) x).flag R.RAIL_x_STAT_DE (live && (s.railLight x de burst).1) x
    let s2 := (s1.flag R.RAIL_x_STAT_BURST (live && (s.railLight x de burst).2) x).iff (live && x == 0)
      (fun t => cycles.firings.foldl State.fireStep t)
    let on := s2.on R.AUX_STATUS_VPRE_ON
    let used := s2.get R.RAIL_x_PIN 0 + s2.get R.RAIL_x_PIN 1 + hold
    ((s2.set R.AUX_PRE_V (if on then preV else 0)).set R.AUX_PRE_I (if on then preI else 0)).set R.AUX_PRE_EXT_P
      (if on then min (preV * preI / 40 - used) 65535 else 0))

/-! ### Commands to the rails (R238 to R242, R504) -/

/-- SET_VID and SET_VID_FAST on one rail (R238, R240, R242). [DEDUCED: log 42] -/
def State.railVid (s : State) (x code : Nat) (fast : Bool) : State :=
  let slewing := s.on R.RAIL_x_STAT_SLEWING x
  let same := s.get R.RAIL_x_TARGET x == code && !slewing
  let s1 := ((s.set R.RAIL_x_TARGET code x).flag R.RAIL_x_STAT_SETTLED false x).flag R.X_RAIL_FAST fast x
  match s.railState x with
  | 2 => s1.iff (!same) (fun t => t.flag R.RAIL_x_STAT_SLEWING true x)
  | 3 => s1.flag R.X_RAIL_PEND true x
  | 4 => if same then s1 else (s1.flag R.RAIL_x_STAT_SLEWING true x).flag R.RAIL_x_STAT_SUPERSEDED
      (s1.on R.RAIL_x_STAT_SUPERSEDED x || slewing) x
  | _ => s1

/-- SET_STATE on one rail, by its state (R504). -/
def State.railSetState (s : State) (x ps : Nat) : State :=
  if ps = 3 then s.railPs3 x
  else
    let s1 := (s.flag R.X_RAIL_PS3 false x).set R.X_RAIL_NAMED (4 + ps) x
    let now_ := ((s1.set R.RAIL_x_STAT_PS ps x).clear R.X_RAIL_NAMED x).iff (ps == 0) (fun t =>
      t.flag R.RAIL_x_STAT_BURST false x)
    match s.railState x with
    | 0 => if s.on R.AUX_STATUS_VPRE_REG then s1.railTurnOn x else s1
    | 4 => now_
    | 5 => now_.railSoft x
    | 7 => ((now_.set R.RAIL_x_STAT_FAILS 0 x).set R.RAIL_x_SLEW (s.get R.RAIL_x_CFG_SLEW_INIT x) x).set
        R.RAIL_x_STAT_STATE 1 x
    | _ => s1

/-- CLEAR_ALERT on one rail (R238). -/
def State.railClearAlert (s : State) (x : Nat) : State :=
  ((s.set R.X_RAIL_ALERTS 0 x).flag R.RAIL_x_STAT_SUPERSEDED false x).valtFollow

/-- The effect of a command on one rail under ACK (R238). -/
def State.railApply (s : State) (x cmd data : Nat) : State :=
  match cmd with
  | 1 => s.railVid x data false
  | 2 => s.set R.RAIL_x_SLEW data x
  | 3 => s.railSetState x data
  | 8 => s.railClearAlert x
  | 9 => s.railVid x data true
  | _ => s

/-- Whether the data byte of a command is out of range for a rail (R238 order 3, R223). -/
def State.railRange (s : State) (x cmd data : Nat) : Bool :=
  match cmd with
  | 1 | 9 => s.get R.RAIL_x_VID_MAX x < data
  | 2 => data == 0 || 40 < data
  | 3 => 3 < data
  | _ => false

/-- Whether the rail's state refuses a command (R238 order 4; R454 for a self-test slice on P4). -/
def State.railRefuses (s : State) (x cmd data : Nat) : Bool :=
  let setter := cmd == 1 || cmd == 2 || cmd == 3 || cmd == 9
  let st := s.railState x
  setter && (s.get R.MODE_STATUS_MODE == 0xB || s.on R.MODE_STATUS_THERM_ACTIVE || s.bit R.BIST_STATUS_SAFE 4 ||
    (if cmd == 3 then data < 3 && !s.on R.MODE_STATUS_RAIL_DEMAND
     else st == 0 || st == 1 || st == 5 || st == 6 || st == 7 || s.get R.RAIL_x_STAT_PS x == 3))

/-- The rails that a RAIL value names (R237). -/
def railsNamed (rail : Nat) : List Nat := if rail = 3 then [0, 1] else if rail < 2 then [rail] else []

/-- The answer of R238 orders 2 to 6: 1 ACK, 3 NAK_RANGE, 4 NAK_STATE. -/
def State.railAnswer (s : State) (rail cmd data : Nat) : Nat :=
  let xs := railsNamed rail
  if rail = 2 ∨ 3 < rail ∨ cmd = 0 ∨ 9 < cmd ∨ (rail = 3 ∧ cmd ≠ 2 ∧ cmd ≠ 3 ∧ cmd ≠ 8) then 3
  else if xs.any (fun x => s.railRange x cmd data) then 3
  else if xs.any (fun x => s.railRefuses x cmd data) then 4
  else 1

/-- A command judged and, under ACK, applied to every rail it names; the answer stands beside the state. -/
def State.railCommand (s : State) (rail cmd data : Nat) : State × Nat :=
  let a := s.railAnswer rail cmd data
  (if a = 1 then (railsNamed rail).foldl (fun t x => t.railApply x cmd data) s else s, a)

/-- GET_STATUS (R238). -/
def State.railStatusByte (s : State) (x : Nat) : Nat :=
  let st := s.railState x
  (s.on R.RAIL_x_STAT_SETTLED x).toNat + 2 * (s.on R.RAIL_x_STAT_SLEWING x).toNat +
    4 * (s.on R.RAIL_x_STAT_SUPERSEDED x).toNat + 8 * (s.on R.RAIL_x_STAT_ALERT x).toNat +
    16 * s.get R.RAIL_x_STAT_PS x + 64 * (st == 6 || st == 7 || s.railBad x).toNat + 128 * (st == 4).toNat

/-- RDATA of a GET command (R238). -/
def State.railRead (s : State) (x cmd : Nat) : Nat :=
  match cmd with
  | 4 => s.get R.RAIL_x_TARGET x
  | 5 => if s.railState x = 0 then 0xFF else vidCode x (s.get R.RAIL_x_V x)
  | 6 => s.railStatusByte x
  | _ => min (s.get R.RAIL_x_PIN x / 10) 255

/-- Whether the link answers at all (R236, R237): enabled, in a running device. -/
def State.rclUp (s : State) : Bool := s.on R.RCL_CTRL_EN && !s.asleepDeep && !s.on R.X_HELD

/-- The ones among the low `n` bits of a number. -/
def onesIn (n v : Nat) : Nat := ((List.range n).filter (fun b => v.testBit b)).length

/-- Whether the count of ones in RAIL, CMD, DATA and P is even (R237). -/
def rclEven (rail cmd data : Nat) (p : Bool) : Bool := (onesIn 2 rail + onesIn 4 cmd + onesIn 8 data + p.toNat) % 2 == 0

/-- The answer driven to a frame: its ACK code and its length in clocks (R237, R238). -/
def State.rclAnswer (s : State) (ack clocks : Nat) : State := (s.set R.X_RCL_ACK ack).set R.X_RCL_CLOCKS clocks

/-- One frame that START opened, RAIL, CMD, DATA and P as sent (R237, R238): parity first, then the judgement; the counters;
ACK, and for a GET the RDATA byte and RP, as driven. [DESIGN CHOICE: log 43] -/
def State.rclFrame (s : State) (rail cmd data : Nat) (p : Bool) : State :=
  if !s.rclUp then s.rclAnswer 7 0
  else if !rclEven rail cmd data p then (s.inc R.RCL_NAK_CNT_PARITY).rclAnswer 2 22
  else
    let r := (s.abortSlice 0x10).railCommand rail cmd data
    if r.2 = 1 then
      (if 4 ≤ cmd ∧ cmd ≤ 7 then
        let d := s.railRead rail cmd
        (((r.1.inc R.RCL_ACK_CNT).rclAnswer 1 31).set R.X_RCL_RDATA d).set R.X_RCL_RP (onesIn 8 d % 2)
      else (r.1.inc R.RCL_ACK_CNT).rclAnswer 1 22)
    else (r.1.inc R.RCL_NAK_CNT_OTHER).rclAnswer r.2 22

/-- RCL_SET_VID (R238). `p` is the bit P as sent, here and in the frames below. -/
def execRclSetVid (rail : Fin 4) (data : Fin 256) (p : Bool) (s : State) : Out :=
  .next (s.rclFrame rail 1 data p)

/-- RCL_SET_SLEW (R238). -/
def execRclSetSlew (rail : Fin 4) (data : Fin 256) (p : Bool) (s : State) : Out :=
  .next (s.rclFrame rail 2 data p)

/-- RCL_SET_STATE (R238, R504). -/
def execRclSetState (rail : Fin 4) (data : Fin 256) (p : Bool) (s : State) : Out :=
  .next (s.rclFrame rail 3 data p)

/-- RCL_GET_VID_TARGET (R238). -/
def execRclGetVidTarget (rail : Fin 4) (data : Fin 256) (p : Bool) (s : State) : Out :=
  .next (s.rclFrame rail 4 data p)

/-- RCL_GET_VID_ACTUAL (R238). -/
def execRclGetVidActual (rail : Fin 4) (data : Fin 256) (p : Bool) (s : State) : Out :=
  .next (s.rclFrame rail 5 data p)

/-- RCL_GET_STATUS (R238). -/
def execRclGetStatus (rail : Fin 4) (data : Fin 256) (p : Bool) (s : State) : Out :=
  .next (s.rclFrame rail 6 data p)

/-- RCL_GET_POWER (R238). -/
def execRclGetPower (rail : Fin 4) (data : Fin 256) (p : Bool) (s : State) : Out :=
  .next (s.rclFrame rail 7 data p)

/-- RCL_CLEAR_ALERT (R238). -/
def execRclClearAlert (rail : Fin 4) (data : Fin 256) (p : Bool) (s : State) : Out :=
  .next (s.rclFrame rail 8 data p)

/-- RCL_SET_VID_FAST (R238). -/
def execRclSetVidFast (rail : Fin 4) (data : Fin 256) (p : Bool) (s : State) : Out :=
  .next (s.rclFrame rail 9 data p)

/-- RCL_FRAME_ABANDON (R236): the frame in progress is counted; nobody drives an answer. -/
def execRclFrameAbandon (s : State) : Out :=
  .next (if s.asleepDeep then s else (s.inc R.RCL_ABORT_CNT).rclAnswer 7 0)

/-- RCL_RESERVED_COMMAND (R238 order 2): RAIL 2, or CMD 0x0 or 0xA to 0xF; any other frame is no event of this row.
[DESIGN CHOICE: log 43] -/
def execRclReservedCommand (rail : Fin 4) (cmd : Fin 16) (data : Fin 256) (p : Bool) (s : State) : Out :=
  .next (if rail.val = 2 ∨ cmd.val = 0 ∨ 9 < cmd.val then s.rclFrame rail cmd data p else s)

end Sys2Proof.Machine
end

