-- ==== Sys2Proof/Machine/Operands.lean ====
section
/-! DEFINITION. Parameter writes: how a word is judged (R24, R377), stored, and what the write sets off in its block;
the configuration as a whole (R386 to R388, R391). -/

namespace Sys2Proof.Machine

/-! ### The judgement of one word (R377) -/

/-- The bits of a 16-bit word that one field takes. -/
def wordMask (p : Reg × Nat × Nat) : Nat := (2 ^ min 16 (p.1.width - 16 * p.2.2) - 1) * 2 ^ p.1.lo

/-- Whether no reserved bit of a word is set (R22). -/
def reservedOk (a v : Nat) : Bool := v &&& ((fieldsAt a).foldl (fun m p => m ||| wordMask p) 0) == v

/-- Whether a field of at most 16 bits lies in a word inside its range. -/
def fieldOk (v : Nat) (p : Reg × Nat × Nat) : Bool :=
  let x := v / 2 ^ p.1.lo % 2 ^ p.1.width
  16 < p.1.width || p.1.ranges.isEmpty || p.1.ranges.any (fun r => r.1 ≤ x && x ≤ r.2)

/-- Ranges that no single span states: phase map (R129), VID and inductance (R223, R244), the usable energy, whose low word waits
(R264), poll period (R294), notify address (R368). -/
def State.specialOk (s : State) (a v : Nat) : Bool :=
  if 0x0940 ≤ a ∧ a < 0x0980 then
    1 ≤ v % 4096 && (!v.testBit 12 || v % 4096 ≤ 1440)
  else match a with
    | 0x0403 => (List.range 4).all (fun k => v / 16 ^ k % 16 ≤ 4)
    | 0x0404 => v % 16 ≤ 4 && v / 16 ≤ 4
    | 0x0711 => v % 256 ≤ v / 256 && v / 256 ≤ vidTop 0
    | 0x0721 => v % 256 ≤ v / 256 && v / 256 ≤ vidTop 1
    | 0x071B => 22 ≤ v && v ≤ 68
    | 0x072B => 47 ≤ v && v ≤ 150
    | 0x082D => v * 65536 + s.get R.X_USABLE_LOW ≤ 100000000
    | 0x0D05 => v != s.get R.HIF_ADDR_EFFECTIVE
    | _ => true

/-- Whether a value lies in range for a word, its reserved bits aside. -/
def State.rangeOk (s : State) (a v : Nat) : Bool := (fieldsAt a).all (fieldOk v) && s.specialOk a v

/-- Whether a word accepts writes at all: RW, WO or RWL, of a class other than STAT and OTP. -/
def writable (a : Nat) : Bool :=
  match accessOf a with
  | .ro | .rc => false
  | _ => classOf a != .stat && classOf a != .otp

/-- The status of one word of a write (R377): BAD_ADDRESS, READ_ONLY, LOCKED, RANGE, or OK. -/
def State.wordStatus (s : State) (a v : Nat) : Nat :=
  if !defined a then 0x13
  else if !writable a then 0x14
  else if accessOf a = .rwl ∧ s.on R.WDT_LOCK then 0x16
  else if !reservedOk a v ∨ !s.rangeOk a v then 0x15
  else 0

/-! ### Rules between fields (R377) -/

/-- A rule that ties fields to one another: the words it names, lowest first, and when it holds. -/
structure Rule where
  words : List Nat
  ok    : State → Bool

/-- The total of the queue capacities; a write that waits counts where it is larger (R307, R314). [DEDUCED: log 50] -/
def State.capTotal (s : State) : Nat :=
  (List.range 16).foldl (fun t q => t + max (s.get R.Qq_CAP q) (if s.on R.X_CAP_WAIT q then s.get R.X_CAP_NEW q else 0)) 0

/-- The rules between fields: the profile (R159, R160), the temperature window (R182), the short-circuit level (R203),
the interval bounds (R258), the usable energy and what remains of it (R256, R264), the queue capacities (R307), the
foldback span (R442). [DEDUCED: log 60] -/
def rules : List Rule :=
  [{ words := [0x0505, 0x0506, 0x0507, 0x0508, 0x0509, 0x051F, 0x0523],
     ok := fun s => (cellsAllowed s.chem s.cells && s.profileOk) },
   { words := [0x0513, 0x0515], ok := fun s => decide (s.getS R.CHG_T_MIN < s.getS R.CHG_T_COLD_END) },
   { words := [0x0514, 0x0517], ok := fun s => decide (s.getS R.CHG_T_WARM_START < s.getS R.CHG_T_MAX) },
   { words := [0x0604, 0x0605, 0x0607],
     ok := fun s => s.get R.PP_OC * 5 ≤ s.get R.PP_SC * 4 && s.get R.PP_SC * s.get R.PP_SHUNT ≤ 8000000 },
   { words := [0x0823, 0x0824], ok := fun s => s.get R.LDG_POLL_MIN ≤ s.get R.LDG_POLL_MAX },

   { words := [0x082F], ok := fun s => s.get R.LDG_E_REM ≤ s.get R.LDG_BAT_USABLE },
   { words := (List.range 16).map (fun q => 0x0B41 + 8 * q), ok := fun s => s.capTotal ≤ 8192 },
   { words := [0x0F0A, 0x0F0B], ok := fun s => decide (s.getS R.THM_TS_FB_START + 50 ≤ s.getS R.THM_TS_FB_END) }]

/-- Store a word without what the write sets off: the low words of a wide value are held until its high word (R44,
R256, R264), WDT_LOCK is set-only (R408), command words are not stored. The high word of an epoch joins the low words held from
the last writes of them, 0 where none came. [DESIGN CHOICE: log 90] -/
def State.storeWord (s : State) (a v : Nat) : State :=
  match a with
  | 0x0008 => s.set R.X_EPOCH_LOW (s.get R.X_EPOCH_LOW / 65536 * 65536 + v)
  | 0x0009 => s.set R.X_EPOCH_LOW (s.get R.X_EPOCH_LOW / 2 ^ 32 * 2 ^ 32 + v * 65536 + s.get R.X_EPOCH_LOW % 65536)
  | 0x000A => s.set R.X_EPOCH_LOW (v * 2 ^ 32 + s.get R.X_EPOCH_LOW % 2 ^ 32)
  | 0x000B => s.set R.DEV_EPOCH (v * 2 ^ 48 + s.get R.X_EPOCH_LOW)
  | 0x082C => s.set R.X_USABLE_LOW v
  | 0x082D => s.set R.LDG_BAT_USABLE (v * 65536 + s.get R.X_USABLE_LOW)
  | 0x082E => s.set R.X_EREM_LOW v
  | 0x082F => s.set R.LDG_E_REM (v * 65536 + s.get R.X_EREM_LOW)
  | 0x0E01 => s
  | 0x0E0D => s.lockWrite v
  | _ => if accessOf a = .wo then s else s.putWord a v

/-- The first rule that a write breaks: one that names a written word and fails on what results. Its address is that of
the lowest written word it names. [DEDUCED: log 60] -/
def brokenRule (t : State) (as : List Nat) : Option Nat :=
  (rules.find? (fun r => as.any r.words.contains && !r.ok t)).bind (fun r => as.find? r.words.contains)

/-- The low word of the usable energy that the high word is judged with: that of the same words, else a given one (R377).
[DEDUCED: log 60] -/
def State.withLow (s : State) (ws : List (Nat × Nat)) (d : Nat) : State :=
  s.set R.X_USABLE_LOW (((ws.find? (fun w => w.1 == 0x082C)).map (·.2)).getD d)

/-- The judgement of a whole write (R377): none where it is accepted, else the status and the address refused. -/
def State.judgeWrite (s : State) (ws : List (Nat × Nat)) : Option (Nat × Nat) :=
  let u := s.withLow ws (s.get R.X_USABLE_LOW)
  match ws.find? (fun w => u.wordStatus w.1 w.2 != 0) with
  | some w => some (u.wordStatus w.1 w.2, w.1)
  | none =>
    match brokenRule (ws.foldl (fun t w => t.storeWord w.1 w.2) s) (ws.map (·.1)) with
    | some a => some (0x15, a)
    | none => none

/-! ### What a write sets off -/

/-- A write to the phase map, the frequency or a phase offset (R129): at once where every group is STOPPED. -/
def State.mapWrite (s : State) : State := if s.allStopped then s.applyMap else s.flag R.CNV_STATUS_CFG_PENDING true

/-- A write of LINE_CTRL (R293): a port no longer used goes to OFF, keep-alive no longer wanted ends, a port used again
may rise. -/
def State.lineCtrl (s : State) : State :=
  (s.each 2 (fun p t =>
    if t.portState p = 6 then t
    else if !t.portEn p ∨ (t.portState p = 1 ∧ !t.portKa p) then (t.setBit R.X_POLL p false).portOff p else t)).portsFollow

/-- The words of an input's block (R105, R124, R156). -/
def State.wroteInput (s old : State) (a v : Nat) : State :=
  let i := a / 16 % 16 - 1
  match a / 256, a % 16 with
  | 0x02, 0x0 => (s.set R.INn_CTRL (old.get R.INn_CTRL i) i).enableInput i (v % 2 == 1)
  | 0x02, 0xE => if v % 2 = 1 then s.reclassify i else s
  | 0x03, 0x9 => if v % 2 = 1 then s.sweepNow i else s
  | _, _ => s

/-- The words of the charge profile (R161, R182, R188, R191). -/
def State.wroteCharge (s old : State) (a : Nat) : State :=
  match a with
  | 0x0504 => (s.iff (!s.on R.CHG_CTRL_BMSOK_EN) (fun t => t.chgHold R.CHG_HOLD_BMSOK false)).chgFollow
  | 0x0505 => if old.chem = s.chem ∧ old.cells = s.cells then s else s.profileChanged
  | 0x0513 => s.windowFollow.chgTargets
  | 0x0514 => s.windowFollow.chgTargets
  | 0x051D | 0x051E => s.agedFollow
  | _ => s.chgTargets

/-- CNV_CMD (R142, R152, R155). -/
def State.converterCommand (s : State) (v : Nat) : State :=
  (s.each 6 (fun p t => if v.testBit p then t.phRetry p else t)).each 4 (fun g t =>
    if v.testBit (6 + g) then t.retune g else t)

/-- LDG_CMD (R260, R264). -/
def State.ledgerCommand (s : State) (v : Nat) : State :=
  (s.iff (v.testBit 0) State.clearCounters).iff (v.testBit 1) (fun t => t.snapshot 2)

/-- PP_CMD (R203, R207, R213). -/
def State.powerCommand (s : State) (v : Nat) : State :=
  (s.iff (v.testBit 0) State.ppRetryNow).iff (v.testBit 1) State.probeNow

/-- What the write of word `a` with value `v` sets off, on the state that holds every word written; `old` is the state
before the write. [DEDUCED: log 71] -/
def State.wrote (s old : State) (a v : Nat) : State :=
  if (0x0210 ≤ a ∧ a < 0x0250) ∨ (0x0310 ≤ a ∧ a < 0x0350) then s.wroteInput old a v
  else if 0x0420 ≤ a ∧ a < 0x0460 then (if a % 16 = 5 then s.mapWrite else s)
  else if 0x0504 ≤ a ∧ a < 0x0526 then s.wroteCharge old a
  else if 0x0940 ≤ a ∧ a < 0x0980 then
    (s.set R.LINE_SLOTs_CFG_EN (old.get R.LINE_SLOTs_CFG_EN (a - 0x0940)) (a - 0x0940)).slotEnable (a - 0x0940) (v.testBit 14)
  else if 0x0B40 ≤ a ∧ a < 0x0BC0 then
    let q := (a - 0x0B40) / 8
    if a % 8 = 1 then (s.set R.Qq_CAP (old.get R.Qq_CAP q) q).capWrite q v else s
  else if 0x0F20 ≤ a ∧ a < 0x0F40 then s.curveFollow
  else match a with
    | 0x000B => s.flag R.DEV_CLK_EPOCH_SET true
    | 0x0106 => s.iff (s.get R.MODE_CTRL != old.get R.MODE_CTRL) (fun t => t.cause 0x0A)
    | 0x0107 => s.iff (s.rawWord 0x0107 != old.rawWord 0x0107) (fun t => t.cause 0x12)
    | 0x0108 => s.iff (s.get R.MODE_GRACE == 0 && s.on R.MODE_STATUS_GRACE) (fun t => t.stopGrace.cause 0x09)
    | 0x0302 | 0x0303 => s.judgeOrder
    | 0x0403 | 0x0404 | 0x0405 => s.mapWrite
    | 0x0410 => s.converterCommand v
    | 0x0602 => s.sysFollow
    | 0x0610 => s.powerCommand v
    | 0x0705 => s.startVaux.startVpre
    | 0x070E => s.iff (v.testBit 0) State.vpreRetry
    | 0x0730 => s.valtFollow
    | 0x0821 | 0x0822 | 0x0823 | 0x0824 | 0x082A | 0x082B | 0x082D => s.ledgerFollow
    | 0x082F => s.eRemWrite (s.get R.LDG_E_REM)
    | 0x0831 => s.ledgerCommand v
    | 0x0902 => s.lineCtrl
    | 0x0A05 => s.engineCommand (v % 512) (v / 4096)
    | 0x0D06 => s.followAlert
    | 0x0E00 => s.keyWrite v
    | 0x0E01 => s.disableWrite v
    | 0x0F02 => s.thmCtrl old
    | 0x0F0A | 0x0F0B => s.foldback
    | 0x0F0E => s.iff (v.testBit 0) State.fbClear
    | _ => s

/-- An accepted write (R34, R377, R379): every word stored, then what the words set off; DEV_CFG_DIRTY for a CFG word. -/
def State.writeWords (s : State) (ws : List (Nat × Nat)) : State :=
  let t := ws.foldl (fun t w => t.storeWord w.1 w.2) s
  let u := t.iff (ws.any (fun w => classOf w.1 == .cfg)) (fun t => t.flag R.DEV_CFG_DIRTY true)
  ws.foldl (fun t w => t.wrote s w.1 w.2) u

/-! ### The configuration as a whole (R386 to R388, R391) -/

/-- Whether a word may stand in an image: a CFG parameter with RW or RWL access (R387). -/
def imageWord (a : Nat) : Bool := defined a && classOf a == .cfg && (accessOf a == .rw || accessOf a == .rwl)

/-- The words that an image may hold, ascending: they lie below 0x1100 and in the trackers' area (R461, R462). -/
def imageAddrs : List Nat :=
  (List.range 0x1100).filter imageWord ++ ((List.range 0x1000).map (0x4000 + ·)).filter imageWord

/-- The configuration at its reset values with the words of an image put in (R387): those that may stand in one.
[DEDUCED: log 58] -/
def State.putImage (s : State) (ws : List (Nat × Nat)) : State :=
  (ws.filter (fun w => imageWord w.1)).foldl (fun t w => t.putWord w.1 w.2) (s.keepFields (fun k => clsOfKey k != .cfg))

/-- A run of an image at a byte offset: its words and the offset after it (R386). -/
def imageRun (image : List Byte) (off : Nat) : List (Nat × Nat) × Nat :=
  let a := field image off 2
  let n := field image (off + 2) 2
  ((List.range n).map (fun j => (a + j, field image (off + 4 + 2 * j) 2)), off + 4 + 2 * n)

/-- The words of an image, run by run; `n` bounds the runs. -/
def imageWords : Nat → List Byte → Nat → List (Nat × Nat)
  | 0, _, _ => []
  | n + 1, image, off =>
    if image.length ≤ off then [] else (imageRun image off).1 ++ imageWords n image (imageRun image off).2

/-- Every word of an accepted image. -/
def wordsOf (image : List Byte) : List (Nat × Nat) := imageWords (field image 14 2) image 32

/-- The words whose write sets something off that a change of the whole configuration sets off as well. -/
def followWords : List Nat :=
  [0x0107, 0x0108, 0x0210, 0x0220, 0x0230, 0x0240, 0x0302, 0x0303, 0x0403, 0x0404, 0x0405,
    0x0425, 0x0435, 0x0445, 0x0455, 0x0504, 0x0505, 0x0506, 0x0513, 0x0514, 0x051D, 0x051E, 0x0602, 0x0705, 0x0730] ++
  [0x0821, 0x0822, 0x0823, 0x0824, 0x082A, 0x082B, 0x082D, 0x0902] ++
  (List.range 64).map (0x0940 + ·) ++ (List.range 16).map (fun q => 0x0B41 + 8 * q) ++
  [0x0D06, 0x0F02, 0x0F0A, 0x0F0B] ++ (List.range 32).map (0x0F20 + ·)

/-- A version switches in (R391): every CFG parameter takes its value from the image or its reset value; each changed
word acts as its write does. -/
def State.switchTo (s : State) (ws : List (Nat × Nat)) : State :=
  let t := (s.putImage ws).flag R.DEV_CFG_DIRTY false
  followWords.foldl (fun u a => if t.rawWord a = s.rawWord a ∧ a ≠ 0x0506 then u else u.wrote s a (t.rawWord a)) t

end Sys2Proof.Machine
end

