-- ==== Sys2Proof/Machine/Live.lean ====
section
/-! DEFINITION. Configuration versions: the staging buffer, the check of an image, building one from live values, loading
and switching a version, trials (R161, R338, R386 to R394). -/

namespace Sys2Proof.Machine

/-! ### The staging buffer (R389) -/

/-- `n` bytes of a sparse buffer from offset `pos`; unlisted bytes are 0xFF. -/
def expand : Nat → Nat → List (Nat × Byte) → List Byte
  | 0, _, _ => []
  | n + 1, pos, [] => 0xFF :: expand n (pos + 1) []
  | n + 1, pos, (k, b) :: t =>
    if k = pos then b :: expand n (pos + 1) t else 0xFF :: expand n (pos + 1) ((k, b) :: t)

/-- The sparse form of bytes that begin at offset `pos`. -/
def compress : Nat → List Byte → List (Nat × Byte)
  | _, [] => []
  | pos, b :: t => if b = 0xFF then compress (pos + 1) t else (pos, b) :: compress (pos + 1) t

/-- The bytes of the buffer, `n` of them. -/
def State.stageBytes (s : State) (n : Nat) : List Byte := expand n 0 s.staging

/-- Write bytes into the buffer at an offset; CLEAR fills it with 0xFF first. The state becomes STAGED. -/
def State.stageWrite (s : State) (clear : Bool) (off : Nat) (data : List Byte) : State :=
  let old := if clear then [] else s.staging
  let bytes := expand Config.stagingSize 0 old
  let new := bytes.take off ++ data ++ bytes.drop (off + data.length)
  let top := max (if clear then 0 else s.get R.X_STAGE_TOP) (off + data.length)
  ({ s with staging := compress 0 new }.set R.X_STAGE_TOP top).set R.X_STAGE 1

/-! ### The check of an image (R386 to R388) -/

/-- The offset of the first run out of order, or where the runs do not end at the length (R387); none where all is well.
`last` is one above the last address used. -/
def badRun : Nat → List Byte → Nat → Nat → Option Nat
  | 0, image, off, _ => if off = image.length then none else some off
  | n + 1, image, off, last =>
    let a := field image off 2
    let c := field image (off + 2) 2
    if image.length < off + 4 ∨ c = 0 ∨ a < last ∨ image.length < off + 4 + 2 * c then some off
    else badRun n image (off + 4 + 2 * c) (a + c)

/-- The errors that words of an image can have: ADDRESS, RESERVED_BITS, RANGE (R388). -/
def State.badWords (s : State) (ws : List (Nat × Nat)) : Option (Nat × Nat) :=
  match ws.find? (fun w => !imageWord w.1) with
  | some w => some (0x09, w.1)
  | none =>
    match ws.find? (fun w => !reservedOk w.1 w.2) with
    | some w => some (0x0A, w.1)
    | none => (ws.find? (fun w => !(s.withLow ws 0).rangeOk w.1 w.2)).map (fun w => (0x0B, w.1))

/-- RULE (R388), on the configuration that the image gives. -/
def State.badRules (s : State) (ws : List (Nat × Nat)) : Option (Nat × Nat) :=
  let t := (s.putImage ws).each 16 (fun q u => u.flag R.X_CAP_WAIT false q)
  (rules.find? (fun r => r.words.all imageWord && !r.ok t)).map (fun r => (0x0C, r.words.headD 0))

/-- The first failure of R388 in the staged image, and its detail; none where it passes. [DEDUCED: log 58] -/
def State.imageError (s : State) : Option (Nat × Nat) :=
  let h := s.stageBytes 32
  let n := field h 12 2
  if field h 0 4 ≠ 0x474D4943 then some (0x02, 0)
  else if field h 4 1 ≠ 1 then some (0x03, 0)
  else if field h 6 2 ≠ 0x7640 then some (0x04, 0)
  else if n % 2 = 1 ∨ n < 32 ∨ Config.stagingSize < n ∨ s.get R.X_STAGE_TOP < n then some (0x05, n)
  else if crc16 (h.take 30) ≠ field h 30 2 then some (0x06, 0)
  else
    let image := s.stageBytes n
    if crc32 (image.drop 32) ≠ field h 16 4 then some (0x07, 0)
    else
      match badRun (field h 14 2) image 32 0 with
      | some off => some (0x08, off)
      | none =>
        let ws := wordsOf image
        match s.badWords ws, s.badRules ws with
        | some e, _ => some e
        | none, some e => some e
        | none, none =>
          let v := field h 8 4
          if v = 0 ∨ s.loaded.map (·.version) = some v then some (0x0D, 0) else none

/-- The four data bytes of CFG_INVALID (R371). -/
def invalidData (e : Nat × Nat) : List Byte := le 1 e.1 ++ le 1 0 ++ le 2 e.2

/-- CFG_VERIFY (R389): the status and the data. -/
def State.verify (s : State) : State × Nat × List Byte :=
  if s.get R.X_STAGE = 0 then (s, 0x30, invalidData (0x01, 0))
  else if s.get R.X_STAGE = 3 then (s, 0x02, [])
  else
    match s.imageError with
    | some e => (s.set R.X_STAGE 1, 0x30, invalidData e)
    | none =>
      let h := s.stageBytes 32
      let n := field h 12 2
      let s1 := ((s.set R.X_STAGE 2).set R.X_STAGE_VER (field h 8 4)).set R.X_STAGE_LEN n
      (s1, 0, le 4 (field h 8 4) ++ le 2 n ++ le 2 (wordsOf (s.stageBytes n)).length)

/-! ### An image of the live values (R390) -/

/-- Runs of consecutive addresses, the last one first while they are gathered: (first address, words reversed). -/
def gather : List (Nat × Nat) → List (Nat × List Nat) → List (Nat × List Nat)
  | [], acc => acc
  | (a, v) :: t, [] => gather t [(a, [v])]
  | (a, v) :: t, (b, ws) :: acc =>
    if a = b + ws.length then gather t ((b, v :: ws) :: acc) else gather t ((a, [v]) :: (b, ws) :: acc)

/-- The bytes of a run. -/
def runBytes (r : Nat × List Nat) : List Byte :=
  le 2 r.1 ++ le 2 r.2.length ++ (r.2.reverse.map (le 2)).flatten

/-- An image of given words with a version (R386). -/
def buildImage (version : Nat) (ws : List (Nat × Nat)) : List Byte :=
  let runs := (gather ws []).reverse
  let body := (runs.map runBytes).flatten
  let head := le 4 0x474D4943 ++ le 1 1 ++ le 1 0 ++ le 2 0x7640 ++ le 4 version ++ le 2 (32 + body.length) ++
    le 2 runs.length ++ le 4 (crc32 body) ++ le 4 0 ++ le 6 0
  head ++ le 2 (crc16 head) ++ body

/-- Every CFG parameter with RW or RWL access, as it reads (R387, R390). -/
def State.liveWords (s : State) : List (Nat × Nat) := imageAddrs.map (fun a => (a, s.readWord a))

/-- CFG_COMMIT once its flags, key and the running operations have been judged (R390); one refused has no effect (R372).
[DEDUCED: log 57] -/
def State.commit (s : State) (fromLive trial : Bool) (period version : Nat) : State × Nat × List Byte :=
  let s1 := if fromLive then s.stageWrite true 0 (buildImage version s.liveWords) else s
  let err := if fromLive then s1.imageError else if s.get R.X_STAGE = 2 then none else some (0x01, 0)
  match err with
  | some e => (s, 0x30, invalidData e)
  | none =>
    let h := s1.stageBytes 32
    let v := field h 8 4
    let n := field h 12 2
    let s2 := ((s1.set R.X_STAGE 3).set R.X_STAGE_VER v).set R.X_STAGE_LEN n
    (s2.startCommit (s1.stageBytes n) v period trial, 0x01, le 4 v ++ le 4 (s.topCounter + 1))

/-! ### The profile of a loaded configuration (R160, R161) -/

/-- The profile of the configuration in force is judged (R160): PROFILE_BAD holds the sequencer in OFF, and ends a
trial (R393). -/
def State.judgeProfile (s : State) : State :=
  if cellsAllowed s.chem s.cells && s.profileOk then (s.flag R.X_PROFILE_BAD false).ended R.CHG_FAULT_PROFILE_BAD
  else ((s.flag R.X_PROFILE_BAD true).latchStand R.CHG_FAULT_PROFILE_BAD).selfReject

/-- Whether the factory trims check against their CRC (R418, R463). [DESIGN CHOICE: log 6] -/
def State.otpGood (s : State) : Bool :=
  crc16 (((List.range 48).map (fun w => le 2 (s.get R.OTP_TRIMw w))).flatten) == s.get R.OTP_CRC

/-- The words of the OTP safe profile with their CHG_ addresses (R161, R463). -/
def State.safeWords (s : State) : List (Nat × Nat) :=
  ([0x0505, 0x0506, 0x0507, 0x0508, 0x0509, 0x050A, 0x050B, 0x050C, 0x0513, 0x0514].zip (List.range 10)).map (fun p =>
    (p.1, s.get R.OTP_SAFEk p.2))

/-- The words of the OTP factory defaults beside the reset values (R161, R338 step 3): the OTP safe profile, where it names a
chemistry; one that breaks a rule gives chemistry None, which the second component says. [DEDUCED: log 37] -/
def State.defaultWords (s : State) : List (Nat × Nat) × Bool :=
  let ws := s.safeWords
  let t := s.putImage ws
  if s.get R.OTP_SAFEk 0 % 16 = 0 then ([], false)
  else if ws.all (fun w => reservedOk w.1 w.2 && s.rangeOk w.1 w.2) && cellsAllowed t.chem t.cells && t.profileOk then (ws, false)
  else (ws.map (fun w => if w.1 = 0x0505 then (w.1, w.2 / 16 * 16) else w), true)

/-- What marks the OTP factory defaults as loaded (R161, R338 step 3, R418): the profile judged, DEFAULT latched, the trims
checked. [DEDUCED: log 37, 60] -/
def State.defaultsMarked (s : State) (bad : Bool) : State :=
  let s1 := ((s.flag R.CHG_STATUS_SAFE_PROFILE true).flag R.X_PROFILE_BAD false).iff bad (fun t =>
    (t.flag R.X_PROFILE_BAD true).latchStand R.CHG_FAULT_PROFILE_BAD)
  let s2 := (s1.set R.CFG_STATUS_SELECT 3).latch R.CFG_FAULT_DEFAULT
  s2.iff (!s2.otpGood) (fun t => t.safeCause 3)


/-! ### Trials (R393) -/

/-- Whether a version has been confirmed: two copies hold its confirm record (R337). -/
def State.confirmed (s : State) (x : CfgSlot) : Bool :=
  2 ≤ (s.copies.filter (fun c => c.usable.any (fun y => y.agrees x && y.confirm))).length

/-- The trial period of a slot record, ms. -/
def SlotRec.span (r : SlotRec) : Nat := r.period * 60000

/-- The trial of the version in force is on, to end at a device time. -/
def State.trialTo (s : State) (t : Nat) : State := (s.flag R.CFG_STATUS_TRIAL true).set R.X_TRIAL_END t

/-- The trial of the version in force at a load (R393): counted from an anchor of its own that stands, else from its writing time,
else from this load, which becomes the anchor; one whose time has run out is confirmed. -/
def State.trialLoad (s : State) (por : Bool) : State :=
  match s.loaded.bind (fun x => x.slotRec.map (fun r => (x, r))) with
  | some (x, r) =>
    if !r.trial || s.confirmed x then s.trialOver
    else
      let unknown := decide (s.now < r.time) || (por && !s.on R.DEV_CLK_TIME_SEEDED)
      let own := (s.retained.bind (·.anchor)).filter (fun a => a.2 == r.counter && decide (a.1 ≤ s.now))
      let start := match own with
        | some a => a.1
        | none => if unknown then s.now else r.time
      let kept := if own.isNone && unknown then some (s.now, r.counter) else own
      let s1 := (s.trialTo (start + r.span)).editRetained (fun q => { q with anchor := kept })
      if start + r.span ≤ s1.now then s1.startConfirm else s1
  | none => s.trialOver

/-! ### Loading and switching (R338, R391) -/

/-- Copies with fewer than three good blocks are lost (R334). -/
def State.copyLostCheck (s : State) : State :=
  if s.copies.all (·.inService) then s else s.latch R.CFG_FAULT_COPY_LOST

/-- The boot selection (R338): a version of the store, or the OTP defaults; the repairs of R339 follow step 1. -/
def State.bootConfig (s : State) : State :=
  let c := s.selectBoot
  let s0 : State := { s with loaded := c.2, target := none }
  let s1 := (s0.set R.CFG_STATUS_SELECT c.1).flag R.X_PROFILE_BAD false
  let s2 := match c.2 with
    | some x => (s1.putImage (wordsOf x.image)).flag R.CHG_STATUS_SAFE_PROFILE false
    | none => s1.putImage s1.defaultWords.1
  let s3 := ((s2.flag R.DEV_CFG_DIRTY false).flag R.X_SWITCH false).iff (c.1 == 2) (fun t => t.latch R.CFG_FAULT_CONFLICT)
  let s4 := if c.2.isNone then s3.defaultsMarked s1.defaultWords.2 else s3.judgeProfile
  (s4.copyLostCheck.storeRegs).iff (c.1 == 1) State.queueRepairs

/-- A safe point (R391): no on-pulse or rest, or step 7 of R167, at which an on-pulse begins or waits out a hold; no frame or run on
either port, and no line cycle in progress (R292). -/
def State.safePoint (s : State) : Bool :=
  let quiet := (List.range 2).all (fun p => s.get R.X_FRAME p == 0 && s.get R.X_RUN p == 0 && s.get R.X_LINE_LEFT p == 0)
  let step7 := (onState s.chg && s.on R.X_PULSE && s.get R.X_PULSE_AT == s.now) || (restState s.chg && !s.resting)
  quiet && ((!onState s.chg && !restState s.chg) || step7)

/-- The OTP factory defaults switch in, where a trial ended with no previous version to fall back on (R391, R503). -/
def State.switchDefaults (s : State) : State :=
  let d := s.defaultWords
  let s1 : State := { s.switchTo d.1 with loaded := none, target := none }
  let s2 := (((s1.flag R.X_SWITCH false).set R.X_STORE_VER 0).trialOver.defaultsMarked d.2).storeRegs
  s2.cfgEventOf 0x03 0 none (s.get R.X_STORE_VER)

/-- The version that waits switches in (R391): SWITCHED names the version left by a revert, else the previous one. A trial that the
anchor of another version had restarted leaves none (R393). -/
def State.cfgSwitch (s : State) : State :=
  match s.target with
  | some x =>
    let s1 := (s.switchTo (wordsOf x.image)).flag R.CHG_STATUS_SAFE_PROFILE false
    let s2 : State := { s1 with loaded := some x, target := none }
    let s3 := (s2.flag R.X_SWITCH false).trialOver
    let r := x.slotRec.getD SlotRec.none
    let s4 := s3.iff (r.trial && !s3.confirmed x) (fun t => t.trialTo (max (r.time + r.span) (t.now + 60000)))
    let left := s.get R.X_STORE_VER
    let s5 := (s4.set R.X_STORE_VER 0).storeRegs
    let other := if left = 0 then (s5.prevSlot.map (·.version)).getD 0 else left
    (s5.cfgEventOf 0x03 0 s5.loaded other).judgeProfile
  | none => s.switchDefaults

/-- The operation that CFG_INFO reports (R395): the first that is no repair. -/
def State.cfgOperation (s : State) : Nat :=
  match ((s.storeOps.find? (fun o => !o.kind.isRepair)).map StoreOp.kind : Option StoreKind) with
  | some StoreKind.commit => 1
  | some (StoreKind.revert _) => 2
  | some StoreKind.confirm => 3
  | _ => if s.on R.X_SWITCH then 4 else 0

end Sys2Proof.Machine
end

