-- ==== Sys2Proof/Machine/Journal.lean ====
section
/-! DEFINITION. Journal and configuration store (R308, R320 to R343, R391, R393): the meanings of their commands. -/

namespace Sys2Proof.Machine

/-- SECTOR_PROGRAM_START (R308): a Red or Amber record is pending, 31 records are, or every record is to be committed
at once. -/
def execSectorProgramStart (s : State) : Out :=
  .next (if s.flushing || s.urgentPending || 31 ≤ s.uncommitted then s.startProgram else s)

/-- GREEN_FILL_TIMEOUT (R308): the oldest pending record has waited 50 ms. -/
def execGreenFillTimeout (s : State) : Out := .next s.startProgram

/-- A failed sector program (R327): its records stay pending and the head takes the next pre-erased block. -/
def State.programFailed (s : State) : State :=
  let s1 : State := { s with program := none }
  (((s1.growBad (s.get R.JNL_HEAD_BLOCK)).latch R.JNL_FAULT_PROG_FAIL).takeBlock).saveRetained

/-- SECTOR_PROGRAM_COMPLETE (R320, R327): `fail` is the die's status. -/
def execSectorProgramComplete (fail : Bool) (s : State) : Out :=
  .next (match s.program with
    | some p => if p.store then s else (if fail then s.programFailed else s.commitSector p).dieFollow
    | none => s)

/-- Whether the store step that is due is an erase that may run now; a repair waits out Ride-Through (R337, R343). -/
def State.storeEraseDue (s : State) : Bool :=
  match s.storeStep with
  | some (op, st) =>
    st.isErase && !(s.on R.MODE_STATUS_RIDE_ACTIVE &&
      (match op.kind with
       | .repair _ => true
       | _ => false))
  | none => false

/-- An erase slice runs: the erase in progress goes on, else a store erase that is due begins, else the next block ahead
of the head (R308, R326, R337). -/
def State.eraseSlice (s : State) : State :=
  let run := fun (e : EraseJob) =>
    (({ s with erase := some { e with suspended := false } }.flag R.JNL_STATUS_ERASING true).flag
      R.JNL_STATUS_SUSPENDED false).dieFollow
  match s.erase with
  | some e => if e.suspended then run e else s
  | none =>
    if s.storeEraseDue then run { block := 0, store := true, suspended := false }
    else if s.ahead.length < 6 then run { block := s.eraseNext, store := false, suspended := false }
    else s

/-- ERASE_SLICE_START (R308). -/
def execEraseSliceStart (s : State) : Out := .next (if s.sliceOk then s.eraseSlice else s)

/-- ERASE_SLICE_END (R308): the erase is suspended. -/
def execEraseSliceEnd (s : State) : Out := .next s.suspendErase

/-- A ring erase ends (R326, R327). -/
def State.ringErased (s : State) (b : Nat) (fail : Bool) : State :=
  if fail then (((s.growBad b).latch R.JNL_FAULT_ERASE_FAIL).reErased b).saveRetained else s.blockErased b

/-- A store erase ends (R327, R337). -/
def State.storeErased (s : State) (fail : Bool) : State :=
  match s.storeStep with
  | some (op, st) => if st.isErase then (if fail then s.stepEraseFailed op st else s.stepComplete op st) else s
  | none => s

/-- ERASE_COMPLETE (R326, R327): `fail` is the die's status. -/
def execEraseComplete (fail : Bool) (s : State) : Out :=
  .next (match s.erase with
    | some e =>
      if e.suspended then s
      else (if e.store then s.eraseOver.storeErased fail else s.eraseOver.ringErased e.block fail).dieFollow
    | none => s)

/-- A store page program ends (R327, R337). -/
def State.storeProgrammed (s : State) (fail : Bool) : State :=
  let s1 : State := { s with program := none }
  match s1.storeStep with
  | some (op, st) => if st.isErase then s1 else if fail then s1.stepFailed op st else s1.stepComplete op st
  | none => s1

/-- STORE_PROGRAM_COMPLETE (R337): the page program that is due runs and ends; `fail` is the die's status. A due erase
is ended by ERASE_COMPLETE. -/
def execStoreProgramComplete (fail : Bool) (s : State) : Out :=
  let s1 := s.startStoreProgram
  .next (match s1.program with
    | some p => if p.store then (s1.storeProgrammed fail).dieFollow else s
    | none => s)

/-- CFG_SWITCH (R391). -/
def execCfgSwitch (s : State) : Out := .next (if s.on R.X_SWITCH && s.safePoint then s.cfgSwitch else s)

/-- TRIAL_EXPIRE (R393). -/
def execTrialExpire (s : State) : Out := .next (if s.onTrial then s.startConfirm else s)

end Sys2Proof.Machine
end

