-- ==== Sys2Proof/Machine/Modes.lean ====
section
/-! DEFINITION. The mode controller (R37, R48 to R71): the demand, the selection, a change of mode with its cause, its
record and its actions, and the commands that bear on it. -/

namespace Sys2Proof.Machine

/-! ### Conditions (R48, R51, R54) -/


/-- Whether some harvest source is delivering (R51). -/
def State.harvesting (s : State) : Bool := (List.range 4).any s.delivering

/-- Whether a cause of Safe State is recorded (R418). -/
def State.unsafe_ (s : State) : Bool := s.get R.WDT_SAFE_CAUSE != 0

/-- The host rail demand (R54). -/
def State.demandNow (s : State) : Bool :=
  s.get R.MODE_STATUS_MODE != 0 && !s.on R.X_SHIP_OFF && !s.on R.MODE_STATUS_THERM_ACTIVE && !s.unsafe_ &&
    ((s.on R.MODE_POLICY_ON_COUPLE && s.on R.MODE_STATUS_COUPLED) || (s.on R.MODE_POLICY_ON_DEPOT && s.hasClass 4) ||
      (s.on R.MODE_POLICY_ON_SOLAR && s.harvesting) || s.on R.MODE_STATUS_GRACE || s.on R.MODE_CTRL || s.on R.X_SERVICE)

/-- Whether a record was written by the last entry to Yard Sleep: it powers the die but is no work of R48. [DEDUCED: log 25] -/
def State.quiet (s : State) (seq : Nat) : Bool :=
  (seq + 2 ^ 32 - s.get R.X_QUIET_FROM) % 2 ^ 32 < (s.get R.X_QUIET_TO + 2 ^ 32 - s.get R.X_QUIET_FROM) % 2 ^ 32

/-- Journal work as Yard Poll takes it (R37, R48). [DEDUCED: log 24, 25] -/
def State.pollWork (s : State) : Bool :=
  s.slots.any (fun x => !x.committed && !s.quiet x.record.seq) || s.erase.isSome || !s.storeOps.isEmpty || s.erasePending

/-- Whether a poll or a retry run is due or running, or a wake by the wake count or by WAKEN awaits its Yard Poll (R48, R51,
R57). -/
def State.pollDue (s : State) : Bool := s.get R.X_POLL != 0 || s.get R.X_RETRY != 0 || s.on R.X_WOKEN

/-- Whether the battery is below the precharge threshold of the profile, mV, or has been found missing (R48, R165, R207). -/
def State.batteryLow (s : State) : Bool :=
  s.get R.PP_STATUS_BAT == 2 || decide (s.get R.X_BATS * 10 < s.cells * s.get R.CHG_V_PRE)

/-- The condition of Dead-Battery Start (R48). -/
def State.deadBattery (s : State) : Bool := s.anyClassified && s.batteryLow

/-- The mode that R49 selects; `ride` says whether Ride-Through counts (R400). -/
def State.modeNow (s : State) (ride : Bool) : Nat :=
  if s.unsafe_ then 0xB
  else if s.on R.X_SERVICE then 0xA
  else if s.on R.MODE_STATUS_THERM_ACTIVE then 9
  else if ride && s.on R.MODE_STATUS_RIDE_ACTIVE then 8
  else if s.deadBattery then 7
  else if s.hasClass 4 then 6
  else if s.on R.MODE_STATUS_RAIL_DEMAND then 5
  else if s.on R.MODE_STATUS_COUPLED then 4
  else if s.harvesting then 3
  else if s.pollDue || s.pollWork || s.on R.HIF_STATUS_AWAKE then 2
  else 1

/-! ### Causes (R57, R70) -/

/-- The rows of R57 whose trigger has occurred and whose From and To columns admit the change, as their causes: an event that
did not bring the change about gives none. -/
def State.rowCauses (s : State) (old new : Nat) : List Nat :=
  let t := fun c => s.bit R.X_CAUSES c
  let yard := decide (1 ≤ old ∧ old ≤ 4)
  let grace := s.on R.MODE_STATUS_GRACE
  let hold := s.on R.MODE_CTRL
  let row := fun (b : Bool) (c : Nat) => if b then [c] else []
  row (old == 1 && new == 2 && t 0x04) 0x04 ++
  row (((old == 1 || old == 2) && new == 3 && t 0x05) || (1 ≤ old && old ≤ 5 && new == 6 && t 0x05) ||
    (old == 2 && (new == 3 || (new == 5 && s.on R.MODE_POLICY_ON_SOLAR)) && t 0x1B)) 0x05 ++
  row (((old == 3 && new < 3) || (old == 6 && new < 6)) && t 0x06) 0x06 ++
  row (((yard && new == 5 && s.on R.MODE_POLICY_ON_COUPLE) || (1 ≤ old && old ≤ 3 && new == 4)) && t 0x07) 0x07 ++
  row (((old == 4 && new == 5 && grace) || ((old == 4 || old == 5) && 1 ≤ new && new ≤ 3)) && t 0x08) 0x08 ++
  row (old == 5 && 1 ≤ new && new ≤ 4 && t 0x09) 0x09 ++
  row (((yard && new == 5 && hold) || (old == 5 && new < 5 && !hold)) && t 0x0A) 0x0A ++
  row (old == 3 && new < 3 && t 0x0B) 0x0B ++
  row ((old == 2 && new == 1) || (old == 1 && new == 2 && !s.pollDue && s.pollWork)) 0x0C ++
  row ((2 ≤ old && old ≤ 6 && new == 7) || (old == 7 && new < 7 && !s.batteryLow)) 0x0D ++
  row (1 ≤ old && old ≤ 7 && new == 8) 0x0E ++
  row (old == 8 && new < 8) 0x0F ++
  row (1 ≤ old && old ≤ 8 && new == 9) 0x10 ++
  row (old == 9 && new < 9) 0x11 ++
  row (((old == 5 && new < 5) || (old == 0xA && new < 0xA)) && t 0x12 || (2 ≤ old && old ≤ 6 && new == 0xA)) 0x12 ++
  row (old == 0xA && new < 0xA && t 0x13) 0x13 ++
  row (((old == 1 && new == 2) || (yard && new == 5 && grace)) && t 0x14) 0x14 ++
  row (old == 1 && new == 2 && t 0x15) 0x15 ++
  row (yard && new == 5 && grace && t 0x16) 0x16 ++
  row (old != 0 && new == 0xB) 0x17 ++
  row (old == 0xB) 0x18

/-- The lowest cause of a list that has occurred, else a default. [DEDUCED: log 13] -/
def firstCause (causes : Nat) (cs : List Nat) (d : Nat) : Nat := (cs.find? (fun c => causes.testBit c)).getD d

/-- The cause where no row applies (R70): of the event that made the new mode's condition hold, or that ended the old one's. A
change of MODE_POLICY and the delay of the Ship request count as host requests. [DEDUCED: log 13] -/
def otherCause (causes old new : Nat) : Nat :=
  if old < new then
    match new with
    | 2 => 0x0C
    | 3 => 0x05
    | 4 => 0x07
    | 5 => firstCause causes [0x05, 0x07, 0x08, 0x0A, 0x12, 0x14, 0x16] 0x12
    | 6 => 0x05
    | 7 => firstCause causes [0x05, 0x0D] 0x0D
    | 8 => 0x0E
    | 9 => 0x10
    | 0xA => 0x12
    | _ => 0x17
  else
    match old with
    | 2 => 0x0C
    | 3 => 0x06
    | 4 => 0x08
    | 5 => firstCause causes [0x06, 0x07, 0x0B, 0x12] 0x12
    | 6 => 0x06
    | 7 => 0x06
    | 8 => 0x0F
    | 9 => 0x11
    | 0xA => 0x12
    | _ => 0x18

/-- The cause of a change (R70): the lowest whose row applies. [DEDUCED: log 13] -/
def State.changeCause (s : State) (old new : Nat) : Nat :=
  (s.rowCauses old new).headD (otherCause (s.get R.X_CAUSES) old new)

/-! ### Records (R58, R69, R260) -/

/-- A MODE_CHANGE record (R69). -/
def State.modeNote (s : State) (old new cause : Nat) : State :=
  s.record 0x13 0x8C (le 1 old ++ le 1 new ++ le 1 cause ++ le 1 0 ++ le 2 (s.rawWord 0x0100) ++
    le 2 (s.get R.X_SYSS) ++ le 2 (s.get R.X_BATS) ++ le 6 0)

/-- The one snapshot of an evaluation, after its MODE_CHANGE records (R260): hourly where one is owed, since that is the lower
trigger. What an entry to Yard Sleep has written since `from_` is marked. [DESIGN CHOICE: log 95] -/
def State.modeSnap (s : State) (from_ : Nat) : State :=
  let s1 := (s.flag R.X_HOUR_DUE false).snapshot (if s.on R.X_HOUR_DUE then 0 else 1)
  if s.get R.MODE_STATUS_MODE = 1 then (s1.set R.X_QUIET_FROM from_).set R.X_QUIET_TO (s1.get R.JNL_NEXT_SEQ) else s1

/-- A MODE_CHANGE record and the snapshot that follows it (R69, R260). -/
def State.modeWrite (s : State) (old new cause : Nat) : State := (s.modeNote old new cause).modeSnap (s.get R.JNL_NEXT_SEQ)

/-- MODE_CAUSE and MODE_CHANGE_TIME of a change of mode, or of an event of R58. -/
def State.modeStamp (s : State) (cause : Nat) : State := (s.set R.MODE_CAUSE cause).set R.MODE_CHANGE_TIME s.now

/-- A change of mode: its cause and time, the record and the snapshot. -/
def State.modeRecord (s : State) (old new cause : Nat) : State := (s.modeStamp cause).modeWrite old new cause

/-! ### Actions -/

/-- The host rail demand follows its terms (R54, R56, R365, R411). -/
def State.demandFollow (s : State) : State :=
  let d := s.demandNow
  if d = s.on R.MODE_STATUS_RAIL_DEMAND then s
  else if d then ((s.flag R.MODE_STATUS_RAIL_DEMAND true).demandOn).hrstnFollow
  else (((s.flag R.MODE_STATUS_RAIL_DEMAND false).flag R.X_HRST_UP false).demandOff.guardInternal).hrstnFollow

/-- The wake count runs to the present interval (R400). -/
def State.wakeLen (s : State) : State :=
  (s.set R.X_WAKE_LEN (s.get R.LDG_POLL_INTERVAL * 327680)).flag R.X_INT_NEW false

/-- The wake count restarts (R400). -/
def State.wakeRestart (s : State) : State := (s.set R.X_WAKE_AT (s.get R.X_SLOW)).wakeLen

/-- A yard wake ends in Yard Sleep (R257); an interval that was updated during it applies from here (R262). [DEDUCED: log 94] -/
def State.wakeDone (s : State) : State := s.wakeEnd.iff (s.on R.X_INT_NEW) State.wakeLen

/-- The actions of Safe State (R66, R418): rails, ports, charging, VAUX and the allocation stop, offers are under hold.
[DEDUCED: log 15] -/
def State.safeActions (s : State) : State :=
  let s1 := (s.railsKill.each 2 (fun p t => t.portOff p)).chgStopNow
  ((s1.stopVaux.dropCeilings).abortSlice 0xFF).flag R.Q_STATUS_HOLD true

/-- The final record of Safe State, exempt from the hold (R309, R418): of a Black, with the tick, the period and the supervision of
its violation (R420). [DEDUCED: log 15] -/
def State.safeRecord (s : State) : State :=
  let cause := s.get R.WDT_SAFE_CAUSE
  let t := s.flag R.Q_STATUS_HOLD false
  (if cause = 1 then
    t.wdtEventAt 0x03 (s.get R.WDT_LAST_KIND) (s.get R.X_BLACK_TICK) (s.get R.X_BLACK_CODE) (s.get R.X_BLACK_SUP) cause
  else t.wdtEvent 0x03 0 (s.get R.WDT_POS) cause).flag R.Q_STATUS_HOLD true

/-- What accompanies a mode's entry before its record: Safe State's stop, the close of a yard wake and the next interval at
Yard Sleep, the start of a yard wake, Service with every group disabled (R189, R257, R258, R400). -/
def State.modeEntry (s : State) (old new : Nat) : State :=
  let s1 := s.iff (new != 1 && new != 2) (fun t => t.flag R.X_WAKE_OK false)
  match new with
  | 0xB => s1.safeActions
  | 0xA => s1.set R.X_SVC_GROUPS 0
  | 2 => s1.wakeRestart.wakeBegin
  | 1 => ((s1.iff (old == 2) State.wakeDone).intervalUpdate).iff (old != 2) State.wakeRestart
  | _ => s1

/-- Dead-Battery Start (R57, R66): CHG is in QUALIFY on its entry, or goes on in QUALIFY or PRECHARGE after Ride-Through; charging
resumes through QUALIFY when it is left. -/
def State.deadFollow (s : State) (old new : Nat) : State :=
  s.iff ((new == 7 && (old ≤ 6 || s.chg != 3)) || (old == 7 && new < 7)) State.chgQualify

/-- The mode becomes `new` (R49, R57); the sleep credit comes before any ledger work (R255). -/
def State.changeMode (s : State) (new cause : Nat) : State :=
  let old := s.get R.MODE_STATUS_MODE
  let s1 := ((s.sleepCredit.set R.MODE_STATUS_MODE new).set R.MODE_STATUS_PREV old).modeEntry old new
  ((s1.modeRecord old new cause).iff (new == 0xB) State.safeRecord).deadFollow old new

/-- The records of R58 with old and new mode equal, for those of the given causes that have occurred. [DEDUCED: log 14] -/
def State.sameMode (s : State) (cs : List Nat) : State :=
  let m := s.get R.MODE_STATUS_MODE
  cs.foldl (fun t c => if s.bit R.X_CAUSES c then (t.modeStamp c).modeNote m m c else t) s

/-- The causes whose events write a record of their own where the mode stays (R58). -/
def State.ownRecords (s : State) : Bool := s.bit R.X_CAUSES 0x07 || s.bit R.X_CAUSES 0x08 || s.bit R.X_CAUSES 0x19

/-- An hourly snapshot that fell due while the fast clock was stopped, or beside a change of mode, is written (R260). -/
def State.owedSnap (s : State) : State :=
  if s.on R.X_HOUR_DUE && s.on R.DEV_CLK_FAST_ON then (s.flag R.X_HOUR_DUE false).snapshot 0 else s

/-- Whether the next evaluation of the mode controller writes a MODE_CHANGE record (R49, R58). -/
def State.recordDue (s : State) : Bool :=
  let t := s.flag R.MODE_STATUS_RAIL_DEMAND s.demandNow
  !s.on R.X_HELD && !s.on R.X_RESTARTING && (s.ownRecords || t.modeNow true != t.get R.MODE_STATUS_MODE)

/-- The hourly snapshot (R260): where a record of the mode controller falls due with it, the one snapshot of both follows that
record. [DESIGN CHOICE: log 95] -/
def State.hourSnap (s : State) : State :=
  let t := s.flag R.X_HOUR_DUE true
  if s.recordDue then t else t.owedSnap

/-- The supplies and the sequencer follow the mode: the fast clock of R66, VAUX, VPRE, the ports and their polls, the charge
states. -/
def State.modeFollow (s : State) : State :=
  let s1 := s.iff (decide (2 ≤ s.get R.MODE_STATUS_MODE) || s.journalWork) State.requestFast
  ((s1.chgFollow.startVaux.startVpre.portsFollow).each 2 (fun p t => t.lineResume p)).followAlert

/-- The selection of R49 without its record: the demand, HARVEST, the mode in force. -/
def State.modeTerms (s : State) : State := (s.flag R.MODE_STATUS_HARVEST s.harvesting).demandFollow

/-- One evaluation of the mode controller (R49): coupling and uncoupling write a record of their own where the mode stays, a
cancelled Ship entry in any case (R58, R61). -/
def State.modeEvaluate (s : State) : State :=
  let s1 := s.modeTerms
  let new := s1.modeNow true
  let old := s1.get R.MODE_STATUS_MODE
  let s2 := if new != old then (s1.sameMode [0x19]).changeMode new (s1.changeCause old new)
    else if s1.ownRecords then (s1.sameMode [0x07, 0x08, 0x19]).modeSnap (s1.get R.JNL_NEXT_SEQ)
    else s1.owedSnap
  ((s2.set R.X_CAUSES 0).flag R.X_WOKEN false).modeFollow

/-- MODE_EVALUATE (R49): SYSS and BATS as measured. Nothing is evaluated in Ship, in the cut-off rest, in reset, or while a
device restart waits for its commits. [DEDUCED: log 14] -/
def execModeEvaluate (sys bats : Nat) (s : State) : Out :=
  .next (if s.asleepDeep || s.on R.X_HELD || s.on R.X_RESTARTING then s
    else ((s.set R.X_SYSS sys).set R.X_BATS bats).modeEvaluate)

/-! ### Events -/

/-- UNCOUPLE (R52, R55): no Tractor-Permanent input has been present for 65 536 ticks. -/
def execUncouple (s : State) : Out := .next (if s.hasClass 1 then s else s.uncouple)

/-- GRACE_EXPIRE (R55). -/
def execGraceExpire (s : State) : Out :=
  .next (if s.on R.MODE_STATUS_GRACE then s.stopGrace.cause 0x09 else s)

/-- HARVEST_DORMANT (R51, R125): the input keeps its class, its style is Dormant, its group stops; a sweep of it ends.
[DESIGN CHOICE: log 106] -/
def execHarvestDormant (i : Fin 4) (s : State) : Out :=
  .next (if s.delivering i then
    (((((s.abortSweep i).flag R.X_DORMANT true i).set R.TRKn_STAT_STYLE 7 i).flag R.X_PO_VALID false i).rampDown i).cause 0x0B
  else s)

/-- HARVEST_RETRY_END (R51, R110): `reached` says that the tracked power reached MODE_HARVEST_MIN in the run. A run whose turn
has not come, or that the mode has cut short, ends too. -/
def execHarvestRetryEnd (i : Fin 4) (reached : Bool) (s : State) : Out :=
  .next (if s.bit R.X_RETRY i then
      let s1 := s.setBit R.X_RETRY i false
      if reached then (s1.leaveDormancy i).cause 0x1B else s1.rampDown i
    else s)

/-- SERVICE_TIMEOUT (R68). -/
def execServiceTimeout (s : State) : Out :=
  .next (if s.on R.X_SERVICE then (s.flag R.X_SERVICE false).cause 0x13 else s)

/-- The ports that a yard wake raises and the dormant inputs that it retries (R51, R285, R400). [DEDUCED: log 24] -/
def State.yardWake (s : State) : State :=
  let m := s.get R.MODE_STATUS_MODE
  let s1 := s.each 2 (fun p t =>
    if t.portEn p && !t.hostOff p && t.portState p != 6 then t.setBit R.X_POLL p true else t)
  let s2 := if m = 1 ∨ m = 2 then s1.each 4 (fun i t => if t.on R.X_DORMANT i then t.setBit R.X_RETRY i true else t) else s1
  s2.portsFollow

/-- WAKE_COUNT_DUE (R57, R64, R400): the count has run for its length since its restart. The yard wake begins where the mode,
Ride-Through disregarded, permits. -/
def execWakeCountDue (s : State) : Out :=
  .next (if s.asleepDeep || s.get R.X_SLOW < s.get R.X_WAKE_AT + s.get R.X_WAKE_LEN then s
    else
      let m := s.get R.MODE_STATUS_MODE
      let base := if m = 8 then s.modeNow false else m
      let s1 := s.wakeRestart
      if 1 ≤ base ∧ base ≤ 3 then
        (((s1.wake R.MODE_WAKE_SRC_WDT).cause 0x04).flag R.X_WOKEN (base == 1 || s1.on R.X_WOKEN)).yardWake
      else s1)

/-- WAKEN_LOW (R55, R57, R61, R64). In Yard Sleep it acts only where MODE_WAKE_EN.WAKEN is set, and Yard Poll follows where no
higher mode does. [DEDUCED: log 22, 24] -/
def execWakenLow (s : State) : Out :=
  .next (if s.asleepDeep then s
    else
      let s1 := s.cancelShip
      if s.get R.MODE_STATUS_MODE = 1 ∧ !s.on R.MODE_WAKE_EN_WAKEN then s1
      else
        let s2 := ((s1.wake R.MODE_WAKE_SRC_WAKEN).cause 0x14).flag R.X_WOKEN
          (s.get R.MODE_STATUS_MODE == 1 || s1.on R.X_WOKEN)
        s2.iff (s.on R.MODE_POLICY_ON_WAKEN) State.startGrace)

/-! ### Clocks (R40, R41, R260, R355) -/

/-- FAST_CLOCK_START (R40, R255, R260, R355): the sleep credit comes first, then an hourly snapshot that is owed; the awake hold
of a NACKed wake starts. -/
def execFastClockStart (s : State) : Out :=
  .next (if s.on R.X_FAST_REQ && !s.on R.DEV_CLK_FAST_ON && !s.asleepDeep then
      let s1 := ((s.flag R.DEV_CLK_FAST_ON true).flag R.X_FAST_REQ false).set R.X_FAST_AT s.now
      let s2 := s1.sleepCredit.flag R.X_SLEEPING false
      let s3 := s2.iff (s2.on R.X_HOUR_DUE) State.hourSnap
      s3.iff (s3.on R.X_HOLD_DUE) (fun t => (t.flag R.X_HOLD_DUE false).flag R.HIF_STATUS_AWAKE true)
    else s)

/-- Whether some block holds a fast-clock request (R40, R66). -/
def State.fastHeld (s : State) : Bool :=
  s.get R.MODE_STATUS_MODE != 1 || s.on R.X_FAST_REQ || s.on R.HIF_STATUS_AWAKE || s.journalWork || s.pollDue ||
    s.on R.MODE_STATUS_THERM_ACTIVE || s.on R.MODE_STATUS_RIDE_ACTIVE || s.on R.X_RESTARTING || s.unsafe_ ||
    s.on R.X_WOKEN || !s.requests.isEmpty || s.get R.CHG_I_TARGET != 0 || (List.range 4).any (fun g => 1 ≤ s.gstate g && s.gstate g ≤ 4) ||
    (List.range 4).any (fun i => s.on R.X_DEBOUNCE i || (1 ≤ s.instate i && s.instate i ≤ 6))

/-- FAST_CLOCK_STOP (R40, R255): at an LPO tick at which no request is held. -/
def execFastClockStop (s : State) : Out :=
  .next (if s.on R.DEV_CLK_FAST_ON && !s.fastHeld then
      (((s.flag R.DEV_CLK_FAST_ON false).flag R.X_SLEEPING true).set R.X_SLEEP_AT s.now).abortSlice 0xFF
    else s)

/-- TIME_RATE_CORRECTION (R41): `cycles` HFO cycles over 1024 LPO ticks set the rate of the accumulator.
[DESIGN CHOICE: log 26] -/
def execTimeRateCorrection (cycles : Nat) (s : State) : Out :=
  .next (if s.on R.DEV_CLK_FAST_ON then
      ((s.set R.X_TIME_RATE (cycles % 2 ^ 24)).set R.X_CORR_AT s.now).flag R.DEV_CLK_CORR_STALE false
    else s)

/-- HOUR_BOUNDARY (R258, R260): with the fast clock stopped the snapshot is owed. An update during a yard wake is marked (R262). -/
def execHourBoundary (s : State) : Out :=
  .next (if s.asleepDeep then s
    else if s.on R.DEV_CLK_FAST_ON then
      (s.intervalUpdate.hourSnap).flag R.X_INT_NEW (s.get R.MODE_STATUS_MODE == 2 || s.on R.X_INT_NEW)
    else s.flag R.X_HOUR_DUE true)

/-- AWAKE_HOLD_END (R355). -/
def execAwakeHoldEnd (s : State) : Out := .next (s.flag R.HIF_STATUS_AWAKE false)

/-! ### Requests (R59, R67, R68) -/

/-- MODE_REQUEST ENTER_SHIP (R59): `waken` is the level of the WAKEN pad. -/
def State.enterShip (s : State) (key : Nat) (waken : Bool) : State × Nat :=
  let m := s.get R.MODE_STATUS_MODE
  if s.anyPresent ∨ !waken ∨ s.get R.PP_STATUS_BAT ≠ 1 ∨ m < 1 ∨ 5 < m then (s, 0x17)
  else if key ≠ 0x69D2 then (s, 0x16)
  else (s.flag R.MODE_STATUS_SHIP_PENDING true, 0x01)

/-- MODE_REQUEST ENTER_SERVICE (R67). -/
def State.enterService (s : State) (key : Nat) : State × Nat :=
  if !s.on R.MODE_STATUS_RAIL_DEMAND ∨ s.on R.MODE_STATUS_THERM_ACTIVE ∨ s.on R.MODE_STATUS_RIDE_ACTIVE ∨
      s.deadBattery then (s, 0x17)
  else if key ≠ 0x3C96 then (s, 0x16)
  else
    let s1 := s.set R.X_SVC_END (s.now + s.get R.MODE_SVC_TIMEOUT * 60000)
    (if s.on R.X_SERVICE then s1 else (s1.flag R.X_SERVICE true).cause 0x12, 0x00)

/-- MODE_REQUEST LEAVE_SERVICE (R67, R68). -/
def State.leaveService (s : State) : State × Nat :=
  if s.on R.X_SERVICE then ((s.flag R.X_SERVICE false).cause 0x12, 0x00) else (s, 0x17)

/-- MODE_REQUEST END_GRACE (R67). [DEDUCED: log 23] -/
def State.endGrace (s : State) : State × Nat :=
  (if s.on R.MODE_STATUS_GRACE then s.stopGrace.cause 0x12 else s, 0x00)

end Sys2Proof.Machine
end

