-- ==== Sys2Proof/Machine/Ports.lean ====
section
/-! DEFINITION. The two packet ports and the interpreter's frame: packets, replies, delivery, the checks that every
request passes (R350 to R356, R362, R369 to R375, R448). -/

namespace Sys2Proof.Machine

/-! ### Packets (R369 to R371) -/

/-- A reply frame (R369, R370). -/
def frame (status tag : Nat) (data : List Byte) : List Byte :=
  let b := le 1 status ++ le 1 tag ++ le 2 data.length ++ data
  b ++ le 1 (crc8 b)

/-- What an opcode answers: the state it leaves, STATUS, data, and the SEQs that delivery of the reply pops (R381). -/
structure Answer where
  state  : State
  status : Nat
  data   : List Byte := []
  pops   : List Nat := []

/-- The answer of an operation that gives a status and no data. -/
def State.answers (p : State × Nat) : Answer := { state := p.1, status := p.2 }

/-- The opcodes with the LENGTHs they allow (R375). -/
def lengthOk (op n : Nat) : Bool :=
  match op with
  | 0x01 => decide (n ≤ 16)
  | 0x02 => n == 3
  | 0x03 => decide (4 ≤ n ∧ n ≤ 130 ∧ n % 2 = 0)
  | 0x04 => n == 6
  | 0x08 => n == 0
  | 0x10 => n == 3
  | 0x18 => n == 3
  | 0x1C => n == 4
  | 0x20 => n == 5
  | 0x24 => n == 1
  | 0x30 => n == 2
  | 0x31 => n == 2
  | 0x32 => n == 0
  | 0x38 => n == 6
  | 0x39 => n == 16
  | 0x40 => decide (4 ≤ n ∧ n ≤ 4091)
  | 0x41 => n == 0
  | 0x42 => n == 8
  | 0x43 => n == 0
  | 0x44 => n == 2
  | 0x45 => n == 0
  | 0x50 => n == 1
  | 0x60 => n == 2
  | 0x68 => n == 5
  | 0x70 => n == 0
  | 0x7E => n == 2
  | 0x7F => n == 2
  | _ => false

/-- The opcodes of R375. -/
def opcodes : List Nat :=
  [0x01, 0x02, 0x03, 0x04, 0x08, 0x10, 0x18, 0x1C, 0x20, 0x24, 0x30, 0x31, 0x32, 0x38, 0x39, 0x40, 0x41, 0x42, 0x43, 0x44,
    0x45, 0x50, 0x60, 0x68, 0x70, 0x7E, 0x7F]

/-! ### Ports -/

/-- Replace a port. -/
def State.setHif (s : State) (p : PortId) (x : Port) : State :=
  match p with
  | .tw => { s with tw := x }
  | .qb => { s with qb := x }

/-- The HIF_REPLY_LOST counter of a port. -/
def lostReg (p : PortId) : Reg :=
  match p with
  | .tw => R.HIF_REPLY_LOST_TW
  | .qb => R.HIF_REPLY_LOST_QB

/-- The HIF_TRUNC_CNT counter of a port. -/
def truncReg (p : PortId) : Reg :=
  match p with
  | .tw => R.HIF_TRUNC_CNT_TW
  | .qb => R.HIF_TRUNC_CNT_QB

/-- The most records of a reply, per port (R381, R383). -/
def recordLimit (p : PortId) : Nat :=
  match p with
  | .tw => 31
  | .qb => 511

/-- A port comes to hold a reply, its pointer on the first byte (R351). -/
def State.hold (s : State) (p : PortId) (bytes : List Byte) (pops : List Nat) : State :=
  s.setHif p { reply := some { bytes := bytes, popSeqs := pops }, ptr := 0 }

/-- The reply to a request just interpreted: discarded where a newer request of its port waits, or where the TRUNCATED reply of
a later packet is held (R350, R353). [DEDUCED: log 61] -/
def State.putReply (s : State) (p : PortId) (bytes : List Byte) (pops : List Nat) : State :=
  if s.waiting p || (s.port p).reply.isSome then s.inc (lostReg p) else s.hold p bytes pops

/-- A request ends on a port that still holds a reply: that reply is discarded and counted (R353). [DEDUCED: log 61] -/
def State.dropReply (s : State) (p : PortId) : State :=
  if (s.port p).reply.isSome then (s.setHif p Port.empty).inc (lostReg p) else s

/-- The pointer returns to the first byte of a held reply (R352, R362). -/
def State.rewind (s : State) (p : PortId) : State :=
  if (s.port p).reply.isSome then s.setHif p { s.port p with ptr := 0 } else s

/-- The records that a delivered QUEUE_POP reply names are popped (R307, R381, R398). -/
def State.popRecords (s : State) (seqs : List Nat) : State :=
  let s1 : State := { s with slots := s.slots.map (fun x =>
    if seqs.contains x.record.seq then { x with popped := true } else x) }
  (if seqs.isEmpty then s else s1.freeSlots.each 16 (fun q t => t.alertFollow q)).followAlert

/-- What a read transaction of `n` bytes returns: from the reply, the BUSY frame, or 0xFF (R351). -/
def State.readBytes (s : State) (p : PortId) (n : Nat) : List Byte :=
  let tag := ((s.requests.filter (fun r => r.port == p)).getLast?.map (·.tag)).getD 0
  let all := match (s.port p).reply with
    | some r => r.bytes.drop (s.port p).ptr
    | none => if s.waiting p then frame 0x02 tag [] else []
  (all ++ List.replicate n 0xFF).take n

/-- A read transaction of `n` bytes of which the first `taken` are delivered (R351, R352): the pointer moves past them;
the reply is released, and a QUEUE_POP pops, once the final byte is delivered. [DEDUCED: log 62] -/
def State.readOut (s : State) (p : PortId) (n taken : Nat) : State :=
  let s1 : State := { s with driven := s.readBytes p n }
  match (s.port p).reply with
  | some r =>
    let at_ := (s.port p).ptr + taken
    if r.bytes.length ≤ at_ then (s1.setHif p Port.empty).popRecords r.popSeqs
    else s1.setHif p { s.port p with ptr := at_ }
  | none => s1

/-! ### Awake and asleep (R354 to R356, R447) -/

/-- A transaction addresses the device: the awake hold runs from its end, and in Yard Sleep it is cause 0x15 (R355). -/
def State.awake (s : State) : State :=
  (s.flag R.HIF_STATUS_AWAKE true).iff (s.get R.MODE_STATUS_MODE == 1) (fun t => t.cause 0x15)

/-- Whether a self-test slice runs on P0 (R354). -/
def State.p0Slice (s : State) : Bool := s.on R.BIST_STATUS_RUNNING && s.get R.BIST_STATUS_PART == 0

/-- Whether the bus is not live at all: Ship, the cut-off rest, held in reset (R62, R354, R447). [DEDUCED: log 11] -/
def State.busDead (s : State) : Bool := s.asleepDeep || s.on R.X_HELD

/-- Whether the two-wire port answers its own address (R354). -/
def State.twLive (s : State) : Bool := !s.busDead && s.on R.DEV_CLK_FAST_ON && !s.p0Slice

/-- The two-wire port NACKs its own address (R354, R355, R451): counted; a P0 slice is aborted; where the fast clock is
stopped, ADDR wakes the device in Yard Sleep and the awake hold follows. -/
def State.twNack (s : State) : State :=
  if s.busDead then s
  else
    let s1 := s.inc R.HIF_NACK_CNT
    if s.on R.DEV_CLK_FAST_ON then (s1.abortSlice 0x01).awake
    else if s.get R.MODE_STATUS_MODE = 1 then
      (if s.on R.MODE_WAKE_EN_ADDR then ((s1.wake R.MODE_WAKE_SRC_ADDR).cause 0x15).flag R.X_HOLD_DUE true else s1)
    else s1.flag R.X_HOLD_DUE true

/-- Whether the bulk port takes part in a transaction (R346, R356, R362, R447, R448). -/
def State.qbLive (s : State) : Bool :=
  !s.busDead && s.on R.DEV_CLK_FAST_ON && s.on R.HIF_STATUS_VDDIO_OK && !s.on R.X_P0_ONLY

/-! ### Checks (R372, R373, R392, R448) -/

/-- Whether Safe State is in force or due (R373, R418). -/
def State.safeState (s : State) : Bool := s.get R.MODE_STATUS_MODE == 0xB || s.get R.WDT_SAFE_CAUSE != 0

/-- Whether the hard-wired responder executes an opcode (R448). [DEDUCED: log 63] -/
def responderOk (op : Nat) (params : List Byte) : Bool :=
  let a := field params 0 2
  let n := field params 2 1
  match op with
  | 0x01 => true
  | 0x02 => (List.range n).all (fun k => a + k < 0x100 || a + k == 0x0E14 || (0x1000 ≤ a + k && a + k < 0x1100))
  | 0x08 => true
  | 0x7E => true
  | _ => false

/-- Whether the present mode refuses an opcode (R290, R373, R397, R448). -/
def State.modeRefuses (s : State) (op : Nat) (params : List Byte) : Bool :=
  (s.safeState && !(op == 0x01 || op == 0x02 || op == 0x08 || op == 0x7E)) ||
    (s.on R.MODE_STATUS_THERM_ACTIVE && (op == 0x20 || op == 0x42 || op == 0x43 || op == 0x44 || op == 0x68)) ||
    (op == 0x68 && s.get R.MODE_STATUS_MODE != 0xA) || (op == 0x7E && !s.safeState) ||
    (s.on R.X_P0_ONLY && !responderOk op params)

/-- Whether the key of an opcode is wrong (R392): OTP_PROGRAM, RECOVER, DEVICE_RESTART, and under the customer lock
CFG_COMMIT and CFG_REVERT. -/
def State.keyWrong (s : State) (op : Nat) (params : List Byte) : Bool :=
  match op with
  | 0x68 => field params 0 2 != 0x7C3E
  | 0x7E => field params 0 2 != 0x52EC
  | 0x7F => field params 0 2 != 0xD1E5
  | 0x42 => s.on R.OTP_LOCK && field params 2 2 != s.get R.OTP_CUST_KEY
  | 0x44 => s.on R.OTP_LOCK && field params 0 2 != s.get R.OTP_CUST_KEY
  | _ => false

/-- Checks 3 to 5 of R372: 0 where the request passes them, else its status. -/
def State.preCheck (s : State) (op : Nat) (params : List Byte) : Nat :=
  if !lengthOk op params.length then 0x12
  else if s.modeRefuses op params then 0x17
  else if s.keyWrong op params then 0x16
  else 0

/-! ### Requests (R350, R353, R356) -/

/-- Whether a request names an action that is reserved (R67, R189, R241, R290, R457); it is answered RANGE. -/
def reservedAction (op : Nat) (params : List Byte) : Bool :=
  match op with
  | 0x10 => field params 0 1 == 0 || 4 < field params 0 1
  | 0x18 => field params 0 1 == 0 || 6 < field params 0 1
  | 0x1C => field params 1 1 == 0 || 5 < field params 1 1
  | 0x20 => field params 0 1 == 0 || 5 < field params 0 1
  | 0x60 => field params 0 1 == 0 || 2 < field params 0 1
  | _ => false

/-- The answer to a waiting request that no command of its own serves: a packet that failed check 1 to 3, kept with its
status as opcode 256 + status, or a reserved action. -/
def State.ownAnswer (s : State) (r : Request) : Option Nat :=
  if 256 ≤ r.opcode then some (r.opcode - 256)
  else if reservedAction r.opcode r.params then
    some (if s.preCheck r.opcode r.params ≠ 0 then s.preCheck r.opcode r.params else 0x15)
  else none

/-- Answer the requests at the head of the queue that no command of their own serves, at most `n` of them. -/
def State.autoServe : Nat → State → State
  | 0, s => s
  | n + 1, s =>
    match s.requests with
    | r :: rest =>
      match s.ownAnswer r with
      | some st => State.autoServe n ({ s with requests := rest }.putReply r.port (frame st r.tag []) [])
      | none => s
    | [] => s

/-- A request ends on its port and waits for the interpreter (R353). -/
def State.arrive (s : State) (r : Request) : State :=
  let s1 := s.dropReply r.port
  let s2 : State := { s1 with requests := s1.requests ++ [r] }
  State.autoServe s2.requests.length s2

/-- A packet is cut off (R350): counted; the port's reply becomes the TRUNCATED reply. [DEDUCED: log 61] -/
def State.truncated (s : State) (p : PortId) (tag : Nat) : State := (s.inc (truncReg p)).hold p (frame 0x18 tag []) []

/-- The bytes of a write transaction (R350, R362): the request that they complete, or the TRUNCATED reply. [DEDUCED: log 61] -/
def State.packet (s : State) (p : PortId) (bytes : List Byte) : State :=
  let total := field bytes 2 2 + 5
  let tag := field bytes 1 1
  let n := min total 4096
  if bytes.length < 4 ∨ bytes.length < n then s.truncated p tag
  else
    let op := field bytes 0 1
    let params := (bytes.drop 4).take (total - 5)
    let status := if 4096 < total then 0x12
      else if crc8 (bytes.take total) ≠ 0 then 0x10
      else if !opcodes.contains op then 0x11
      else if !lengthOk op params.length then 0x12
      else 0
    s.arrive (if status = 0 then { port := p, opcode := op, tag := tag, params := params }
      else { port := p, opcode := 256 + status, tag := tag, params := [] })


/-- A request is interpreted (R353, R371, R372): the checks, then the opcode's own meaning; the reply goes to its port.
`s` is the state without the request. -/
def State.interpret (s : State) (r : Request) (body : State → Answer) : State :=
  let st := s.preCheck r.opcode r.params
  let a : Answer := if st ≠ 0 then { state := s, status := st } else body s
  let s1 := a.state.putReply r.port (frame a.status r.tag a.data) a.pops
  State.autoServe s1.requests.length s1

/-- A request that has just ended: interpreted at once, or after those that ended before it (R353). -/
def State.taken (s : State) (r : Request) (body : State → Answer) : State :=
  if s.requests.isEmpty then (s.dropReply r.port).interpret r body else s.arrive r

/-- A command of the host: the request of that port, tag and parameters is interpreted when it is the oldest that waits. Where
it does not wait it ends now, and a port that does not answer NACKs or ignores it (R353, R354, R362). [DEDUCED: log 61] -/
def State.serve (s : State) (port : PortId) (op : Nat) (tag : Byte) (params : List Byte) (body : State → Answer) : State :=
  let r : Request := { port := port, opcode := op, tag := tag.toNat, params := params }
  if s.requests.head? = some r then
    if s.busDead then s
    else ({ s.abortSlice 0x01 with requests := s.requests.drop 1 }).interpret r body
  else if s.requests.contains r then s
  else
    match port with
    | .tw => if s.twLive then s.awake.taken r body else s.twNack
    | .qb => if s.qbLive then ((s.abortSlice 0x01).awake).taken r body else s

end Sys2Proof.Machine
end

