-- ==== Sys2Proof/Machine/Boot.lean ====
section
/-! DEFINITION. What a start shares with other commands: the OTP mirror, the strap, what follows a configuration load (R38,
R62, R338, R348, R463). -/

namespace Sys2Proof.Machine

/-- The registers that mirror OTP words (R191, R368, R402, R463). -/
def State.otpFollow (s : State) : State :=
  let base := s.get R.OTP_ADDR_BASE
  let good := s.on R.OTP_ADDR_VALID && 0x08 ≤ base && base + 3 ≤ 0x77
  let s1 := ((s.set R.WDT_OTP_FRAC (s.get R.OTP_WDT_FRAC)).set R.WDT_OTP_LOCK_DEFAULT (s.get R.OTP_WDT_LOCK_DEFAULT)).set
    R.WDT_OTP_O_MAX (s.get R.OTP_WDT_O_MAX)
  let s2 := ((s1.set R.CHG_OTP_MASK (31 - s.get R.OTP_CHEM)).set R.CHG_OTP_VMAX_LFP (3650 - 10 * s.get R.OTP_VREDc 0)).set
    R.CHG_OTP_VMAX_NMC (4200 - 10 * s.get R.OTP_VREDc 1)
  (s2.set R.CHG_OTP_VMAX_LA (2650 - 10 * s.get R.OTP_VREDc 2)).set R.HIF_ADDR_BASE (if good then base else 0x3A)

/-- The strap offset of a ratio k, in thousandths; none outside every window (R348). [DEDUCED: log 10] -/
def strapOf (k : Nat) : Option Nat :=
  if k < 250 then some 0
  else if 400 ≤ k ∧ k ≤ 600 then some 1
  else if 750 ≤ k ∧ k ≤ 900 then some 2
  else if 950 < k then some 3
  else none

/-- The own address after the strap is decoded (R348). [DEDUCED: log 22] -/
def State.strapFollow (s : State) (k : Nat) : State :=
  let off := (strapOf k).getD 0
  let s1 := (s.set R.HIF_ADDR_STRAP off).set R.HIF_ADDR_EFFECTIVE (s.get R.HIF_ADDR_BASE + off)
  if (strapOf k).isNone then s1.latchStand R.HIF_FAULT_ADDR_INVALID else s1.ended R.HIF_FAULT_ADDR_INVALID


/-- Queues after a start (R306, R307, R314): kept records above a capacity are evicted; the alert terms follow what is
kept. -/
def State.queuesFollow (s : State) : State :=
  s.each 16 (fun q t =>
    let u := State.evictTo t.slots.length t q
    u.setBit R.Q_ALERT q (!(u.unpopped q).isEmpty && (u.qclass q == 2 || u.on R.Qq_CFG_ALERT q)))

/-- The dead times of every phase start at CNV_DT_INIT (R145, R157). -/
def State.deadTimesFollow (s : State) : State :=
  let d := s.get R.CNV_DT_INIT_DT
  s.each 6 (fun p t =>
    (((t.set R.CNV_PHn_DT_U_RISE d p).set R.CNV_PHn_DT_U_FALL d p).set R.CNV_PHn_DT_D_RISE d p).set R.CNV_PHn_DT_D_FALL d p)

/-- What follows a loaded configuration at a start: every block takes its parameters up. [DEDUCED: log 98] -/
def State.bootFollow (s : State) : State :=
  let s1 := s.applyMap.each 4 (fun i t => (t.restartClass i).updateLimit i)
  let s2 := s1.judgeOrder.curveFollow.windowFollow.sysFollow.agedFollow
  let s2' := if s2.on R.CHG_TIMEOUT_CAUSE_PENDING then (s2.chgSet 0xF).latchStand R.CHG_FAULT_TIMEOUT else s2.chgFollow
  let s3 := (s2'.set R.AUX_VAUX_SET s2'.vauxSet).valtFollow
  let s4 := (s3.set R.LDG_POLL_INTERVAL (s3.get R.LDG_POLL_MAX)).ledgerFollow
  let s5 := s4.each 2 (fun x t =>
    (t.set R.RAIL_x_TARGET (t.get R.RAIL_x_VID_INIT x) x).set R.RAIL_x_SLEW (t.get R.RAIL_x_CFG_SLEW_INIT x) x)
  let s6 := s5.each 64 (fun n t =>
    if t.slotId n = 0 then t
    else (t.set R.LINE_SLOTs_STAT_STATE (if t.on R.LINE_SLOTs_CFG_EN n then 1 else 3) n).set R.LINE_SLOTs_STAT_MISSED 0 n)
  (s6.deadTimesFollow.queuesFollow.hrstnFollow).followAlert

end Sys2Proof.Machine
end

