-- ==== Sys2Proof/Machine/Commands.lean ====
section
/-! DEFINITION. The opcodes of the packet interpreter (R59, R67, R189, R241, R290, R291, R375 to R397, R409, R457). Every
command names its port and tag, then its parameters; the frame of checks, reply and delivery is `State.serve`. -/

namespace Sys2Proof.Machine

/-- An answer of status OK with data. -/
def State.okData (s : State) (data : List Byte) : Answer := { state := s, status := 0, data := data }

/-- An answer that changes nothing: a status, with data. -/
def State.refusal (s : State) (status : Nat) (data : List Byte := []) : Answer := { state := s, status := status, data := data }

/-! ### CHARGE_CONTROL (R189) -/

/-- CHARGE_CONTROL with an action and its argument. -/
def State.chargeControl (s : State) (port : PortId) (tag : Byte) (action arg : Nat) (f : State → State × Nat) : State :=
  s.serve port 0x18 tag (le 1 action ++ le 2 arg) (fun t => State.answers (f t))

/-- SUSPEND (R189): the argument is ignored. -/
def execSuspend (port : PortId) (tag : Byte) (arg : Fin 65536) (s : State) : Out :=
  .next (s.chargeControl port tag 1 arg State.chgSuspend)

/-- RESUME (R189). -/
def execResume (port : PortId) (tag : Byte) (arg : Fin 65536) (s : State) : Out :=
  .next (s.chargeControl port tag 2 arg State.chgResume)

/-- RESTART (R189). -/
def execRestart (port : PortId) (tag : Byte) (arg : Fin 65536) (s : State) : Out :=
  .next (s.chargeControl port tag 3 arg State.chgRestartAction)

/-- EQUALISE (R180, R189). -/
def execEqualise (port : PortId) (tag : Byte) (key : Fin 65536) (s : State) : Out :=
  .next (s.chargeControl port tag 4 key (fun t => t.chgEqualise key))

/-- END_EQUALISE (R189). -/
def execEndEqualise (port : PortId) (tag : Byte) (arg : Fin 65536) (s : State) : Out :=
  .next (s.chargeControl port tag 5 arg State.chgEndEqualise)

/-- SERVICE_GROUPS (R118, R189). -/
def execServiceGroups (port : PortId) (tag : Byte) (arg : Fin 65536) (s : State) : Out :=
  .next (s.chargeControl port tag 6 arg (fun t => t.serviceGroups arg))

/-! ### RAIL_CONTROL (R241) -/

/-- RAIL_CONTROL with an action, judged as the frame with the given CMD: ACK OK, NAK_RANGE RANGE, NAK_STATE
WRONG_MODE. -/
def State.railControl (s : State) (port : PortId) (tag : Byte) (rail action arg cmd : Nat) : State :=
  s.serve port 0x1C tag (le 1 rail ++ le 1 action ++ le 2 arg) (fun t =>
    let p := t.railCommand rail cmd (arg % 256)
    State.answers (p.1, if p.2 = 1 then 0x00 else if p.2 = 3 then 0x15 else 0x17))

/-- RAIL_CONTROL SET_VID. -/
def execRailControlSetVid (port : PortId) (tag : Byte) (rail : Fin 256) (arg : Fin 65536) (s : State) : Out :=
  .next (s.railControl port tag rail 1 arg 1)

/-- RAIL_CONTROL SET_SLEW. -/
def execRailControlSetSlew (port : PortId) (tag : Byte) (rail : Fin 256) (arg : Fin 65536) (s : State) : Out :=
  .next (s.railControl port tag rail 2 arg 2)

/-- RAIL_CONTROL SET_STATE. -/
def execRailControlSetState (port : PortId) (tag : Byte) (rail : Fin 256) (arg : Fin 65536) (s : State) : Out :=
  .next (s.railControl port tag rail 3 arg 3)

/-- RAIL_CONTROL CLEAR_ALERT. -/
def execRailControlClearAlert (port : PortId) (tag : Byte) (rail : Fin 256) (arg : Fin 65536) (s : State) : Out :=
  .next (s.railControl port tag rail 4 arg 8)

/-- RAIL_CONTROL SET_VID_FAST. -/
def execRailControlSetVidFast (port : PortId) (tag : Byte) (rail : Fin 256) (arg : Fin 65536) (s : State) : Out :=
  .next (s.railControl port tag rail 5 arg 9)

/-! ### LINE_CONTROL and NODE_INFO (R290, R291) -/

/-- LINE_CONTROL with an action and its four argument bytes. -/
def State.lineControl (s : State) (port : PortId) (tag : Byte) (action : Nat) (args : List Byte) (f : State → State × Nat) :
    State :=
  s.serve port 0x20 tag (le 1 action ++ args) (fun t => State.answers (f t))

/-- PORT_ON: bits 0 and 1 of the mask name the ports; the other argument bytes are ignored. -/
def execPortOn (port : PortId) (tag : Byte) (mask : Fin 256) (others : Fin 16777216) (s : State) : Out :=
  .next (s.lineControl port tag 1 (le 1 mask ++ le 3 others) (fun t => (t.linePortOn mask, 0x00)))

/-- PORT_OFF. -/
def execPortOff (port : PortId) (tag : Byte) (mask : Fin 256) (others : Fin 16777216) (s : State) : Out :=
  .next (s.lineControl port tag 2 (le 1 mask ++ le 3 others) (fun t => (t.linePortOff mask, 0x00)))

/-- ENUMERATE. -/
def execEnumerate (port : PortId) (tag : Byte) (mask : Fin 256) (others : Fin 16777216) (s : State) : Out :=
  .next (s.lineControl port tag 3 (le 1 mask ++ le 3 others) (fun t => (t.lineEnumerate mask, 0x00)))

/-- RELEASE_SLOT. -/
def execReleaseSlot (port : PortId) (tag : Byte) (slot : Fin 256) (others : Fin 16777216) (s : State) : Out :=
  .next (s.lineControl port tag 4 (le 1 slot ++ le 3 others) (fun t =>
    if 63 < slot.val then (t, 0x15) else (t.lineRelease slot, 0x00)))

/-- CONFIG_NODE. -/
def execConfigNode (port : PortId) (tag : Byte) (slot id : Fin 256) (value : Fin 65536) (s : State) : Out :=
  .next (s.lineControl port tag 5 (le 1 slot ++ le 1 id ++ le 2 value) (fun t => t.lineConfig slot id value))

/-- NODE_INFO (R291). -/
def execNodeInfo (port : PortId) (tag : Byte) (slot : Fin 256) (s : State) : Out :=
  .next (s.serve port 0x24 tag (le 1 slot) (fun t => if 63 < slot.val then t.refusal 0x15 else t.okData (t.nodeInfo slot)))

/-! ### PING and parameters (R375 to R380) -/

/-- PING (R375): identity, revision, mode and fault summary, then the parameter bytes. -/
def execPing (port : PortId) (tag : Byte) (bytes : List Byte) (s : State) : Out :=
  .next (s.serve port 0x01 tag bytes (fun t =>
    t.okData (le 2 (t.readWord 0x0000) ++ le 2 (t.readWord 0x0001) ++ le 2 (t.readWord 0x0100) ++ le 2 t.faultSum ++ bytes)))

/-- READ_PARAM (R376). -/
def State.readParam (s : State) (addr count : Nat) : Answer :=
  let as := (List.range count).map (addr + ·)
  if count = 0 ∨ 64 < count then s.refusal 0x15 (le 2 addr)
  else match as.find? (fun a => !defined a) with
    | some a => s.refusal 0x13 (le 2 a)
    | none =>
      let p := s.readWords as
      p.1.okData (p.2.map (le 2)).flatten

/-- READ_PARAM (R376). -/
def execReadParam (port : PortId) (tag : Byte) (addr : Fin 65536) (count : Fin 256) (s : State) : Out :=
  .next (s.serve port 0x02 tag (le 2 addr ++ le 1 count) (fun t => t.readParam addr count))

/-- WRITE_PARAM (R34, R377): in full or not at all. -/
def State.writeParam (s : State) (ws : List (Nat × Nat)) : Answer :=
  match s.judgeWrite ws with
  | some e => s.refusal e.1 (le 2 e.2)
  | none => { state := s.writeWords ws, status := 0 }

/-- WRITE_PARAM (R377). -/
def execWriteParam (port : PortId) (tag : Byte) (addr : Fin 65536) (words : List (Fin 65536)) (s : State) : Out :=
  let ws := (List.range words.length).zip words |>.map (fun p => (addr.val + p.1, p.2.val))
  .next (s.serve port 0x03 tag (le 2 addr ++ (words.map (fun w => le 2 w.val)).flatten) (fun t => t.writeParam ws))

/-- MODIFY_PARAM (R378): (old AND NOT mask) OR (value AND mask), on RW and RWL words. [DEDUCED: log 64] -/
def State.modifyParam (s : State) (addr mask value : Nat) : Answer :=
  let old := s.readWord addr
  let new := (old &&& (65535 - mask)) ||| (value &&& mask)
  if !defined addr then s.refusal 0x13 (le 2 addr)
  else if accessOf addr ≠ .rw ∧ accessOf addr ≠ .rwl then s.refusal 0x14 (le 2 addr)
  else match s.judgeWrite [(addr, new)] with
    | some e => s.refusal e.1 (le 2 e.2)
    | none => (s.writeWords [(addr, new)]).okData (le 2 new)

/-- MODIFY_PARAM (R378). -/
def execModifyParam (port : PortId) (tag : Byte) (addr mask value : Fin 65536) (s : State) : Out :=
  .next (s.serve port 0x04 tag (le 2 addr ++ le 2 mask ++ le 2 value) (fun t => t.modifyParam addr mask value))

/-- READ_FAULTS under the hard-wired responder (R448): DEV_FAULT_SUM and BIST_FAULT only. [DEDUCED: log 63] -/
def State.readFaultsP0 (s : State) : State × List Byte :=
  let v := s.rawWord 0x1000
  ((s.readAction 0x1000).followAlert, le 2 s.faultSum ++ (if v = 0 then [] else le 2 0x1000 ++ le 2 v))

/-- READ_FAULTS (R380, R448). -/
def execReadFaults (port : PortId) (tag : Byte) (s : State) : Out :=
  .next (s.serve port 0x08 tag [] (fun t =>
    let p := if t.on R.X_P0_ONLY then t.readFaultsP0 else t.readFaults
    p.1.okData p.2))

/-! ### MODE_REQUEST (R59, R67) -/

/-- MODE_REQUEST with a request and a key. -/
def State.modeRequest (s : State) (port : PortId) (tag : Byte) (action key : Nat) (f : State → State × Nat) : State :=
  s.serve port 0x10 tag (le 1 action ++ le 2 key) (fun t => State.answers (f t))

/-- ENTER_SHIP (R59): `waken` is the level of WAKEN. -/
def execEnterShip (port : PortId) (tag : Byte) (key : Fin 65536) (waken : Bool) (s : State) : Out :=
  .next (s.modeRequest port tag 1 key (fun t => t.enterShip key waken))

/-- ENTER_SERVICE (R67). -/
def execEnterService (port : PortId) (tag : Byte) (key : Fin 65536) (s : State) : Out :=
  .next (s.modeRequest port tag 2 key (fun t => t.enterService key))

/-- LEAVE_SERVICE (R67, R68). -/
def execLeaveService (port : PortId) (tag : Byte) (key : Fin 65536) (s : State) : Out :=
  .next (s.modeRequest port tag 3 key State.leaveService)

/-- END_GRACE (R67). -/
def execEndGrace (port : PortId) (tag : Byte) (key : Fin 65536) (s : State) : Out :=
  .next (s.modeRequest port tag 4 key State.endGrace)

/-! ### Queues (R381, R382) -/

/-- The answer of QUEUE_POP and QUEUE_PEEK (R381): r, what stays in the queue, the records. -/
def State.queueRead (s : State) (port : PortId) (q most : Nat) (pop : Bool) : Answer :=
  if 15 < q ∨ most = 0 then s.refusal 0x15
  else
    let all := s.unpopped q
    let rs := (all.take (min most (recordLimit port))).map (·.record)
    if rs.isEmpty then s.refusal 0x21
    else
      { state := s, status := 0,
        data := le 1 rs.length ++ le 2 (all.length - rs.length) ++ (rs.map Rec.image).flatten,
        pops := if pop then rs.map (·.seq) else [] }

/-- QUEUE_POP (R381): the records are popped once the reply's final byte is delivered. -/
def execQueuePop (port : PortId) (tag : Byte) (q most : Fin 256) (s : State) : Out :=
  .next (s.serve port 0x30 tag (le 1 q ++ le 1 most) (fun t => t.queueRead port q most true))

/-- QUEUE_PEEK (R381). -/
def execQueuePeek (port : PortId) (tag : Byte) (q most : Fin 256) (s : State) : Out :=
  .next (s.serve port 0x31 tag (le 1 q ++ le 1 most) (fun t => t.queueRead port q most false))

/-- QUEUE_STATUS (R382): 70 bytes. -/
def execQueueStatus (port : PortId) (tag : Byte) (s : State) : Out :=
  .next (s.serve port 0x32 tag [] (fun t =>
    t.okData (le 2 (t.readWord 0x0B02) ++ le 2 (t.readWord 0x0B03) ++ le 2 (t.readWord 0x0B04) ++
      ((List.range 16).map (fun q => le 2 (t.unpopped q).length ++ le 2 (t.pendingOf q))).flatten)))

/-! ### The journal (R328, R383, R384) -/

/-- JOURNAL_READ (R328, R383): of the sectors read `corr` needed corrections, at most `most` bits in one; the slots of `lost` lie in
sectors that could not be corrected and fail their own CRC; torn sectors cannot be corrected either, nor can `uncorr` more, each
of whose slots still checks. A self-test slice on P2 gives way (R451). [DESIGN CHOICE: log 53] -/
def State.journalRead (s : State) (port : PortId) (first max_ corr most : Nat) (lost : List Nat) (uncorr : Nat) : Answer :=
  if max_ = 0 ∨ 511 < max_ then s.refusal 0x15
  else
    let rs := s.readRing first (min max_ (recordLimit port)) lost
    let bad := s.badSectors rs + uncorr
    let s1 := ((s.abortSlice 0x04).add R.JNL_ECC_CORR corr).set R.JNL_ECC_MAX (max (s.get R.JNL_ECC_MAX) (min most 16))
    let s2 := s1.iff (0 < bad) (fun t => (t.add R.JNL_ECC_UNCORR bad).latch R.JNL_FAULT_UNCORR)
    s2.okData (le 4 ((rs.head?.map (fun p => p.1.seq)).getD first) ++ le 4 (s.get R.JNL_OLDEST_SEQ) ++
      le 4 (s.get R.JNL_NEWEST_SEQ) ++ le 2 rs.length ++ le 2 (rs.filter (fun p => !p.2)).length ++
      (rs.map (fun p => if p.2 then p.1.image else List.replicate 32 0)).flatten)

/-- JOURNAL_READ (R383). -/
def execJournalRead (port : PortId) (tag : Byte) (first : Fin 4294967296) (max_ : Fin 65536) (corr most : Nat)
    (lost : List Nat) (uncorr : Nat) (s : State) : Out :=
  .next (s.serve port 0x38 tag (le 4 first ++ le 2 max_) (fun t => t.journalRead port first max_ corr most lost uncorr))

/-- JOURNAL_MARK (R384): the SEQ assigned and the queue, or REFUSED_DEADLINE. -/
def State.journalMark (s : State) (bytes : List Byte) : Answer :=
  let r := s.mkRec 0x30 0x90 bytes
  let p := s.offerB r
  if p.2 then p.1.okData (le 4 ((p.1.get R.JNL_NEXT_SEQ + 2 ^ 32 - 1) % 2 ^ 32) ++ le 1 (s.route r))
  else { state := p.1, status := 0x20 }

/-- JOURNAL_MARK (R384). -/
def execJournalMark (port : PortId) (tag : Byte) (bytes : List Byte) (s : State) : Out :=
  .next (s.serve port 0x39 tag bytes (fun t => t.journalMark bytes))

/-! ### Configuration versions (R389 to R395) -/

/-- CFG_STAGE_WRITE (R389): RANGE for a reserved flag or beyond the buffer, BUSY in IN_USE. -/
def execCfgStageWrite (port : PortId) (tag : Byte) (flags : Fin 256) (off : Fin 65536) (data : List Byte) (s : State) : Out :=
  .next (s.serve port 0x40 tag (le 1 flags ++ le 2 off ++ data) (fun t =>
    if 1 < flags.val ∨ Config.stagingSize < off.val + data.length then t.refusal 0x15
    else if t.get R.X_STAGE = 3 then t.refusal 0x02
    else { state := t.stageWrite (flags.val == 1) off data, status := 0 }))

/-- CFG_VERIFY (R388, R389). -/
def execCfgVerify (port : PortId) (tag : Byte) (s : State) : Out :=
  .next (s.serve port 0x41 tag [] (fun t =>
    let r := t.verify
    { state := r.1, status := r.2.1, data := r.2.2 }))

/-- Whether a commit, revert or confirm runs or a switch waits (R390). -/
def State.cfgBusy (s : State) : Bool := s.storeOps.any (fun o => !o.kind.isRepair) || s.on R.X_SWITCH

/-- CFG_COMMIT (R390). [DEDUCED: log 58] -/
def execCfgCommit (port : PortId) (tag : Byte) (flags period : Fin 256) (key : Fin 65536) (version : Fin 4294967296)
    (s : State) : Out :=
  .next (s.serve port 0x42 tag (le 1 flags ++ le 1 period ++ le 2 key ++ le 4 version) (fun t =>
    let trial := flags.val.testBit 1
    let good := if trial then decide (1 ≤ period.val ∧ period.val ≤ 60) else period.val == 0
    if 3 < flags.val ∨ !good then t.refusal 0x15
    else if t.cfgBusy then t.refusal 0x02
    else
      let r := t.commit (flags.val.testBit 0) trial period version
      { state := r.1, status := r.2.1, data := r.2.2 }))

/-- CFG_CONFIRM (R394). -/
def execCfgConfirm (port : PortId) (tag : Byte) (s : State) : Out :=
  .next (s.serve port 0x43 tag [] (fun t => State.answers (if t.onTrial then (t.startConfirm, 0x01) else (t, 0x00))))

/-- CFG_REVERT (R390, R394). [DEDUCED: log 59] -/
def execCfgRevert (port : PortId) (tag : Byte) (key : Fin 65536) (s : State) : Out :=
  .next (s.serve port 0x44 tag (le 2 key) (fun t =>
    if t.on R.CFG_STATUS_NO_PREVIOUS then t.refusal 0x31
    else if t.cfgBusy then t.refusal 0x02
    else State.answers (t.startRevert 1, 0x01)))

/-- CFG_INFO (R395): 26 bytes. [DEDUCED: log 57] -/
def State.cfgInfo (s : State) : List Byte :=
  let stage := s.get R.X_STAGE
  le 2 (s.rawWord R.CFG_STATUS_SELECT.base) ++ le 4 (s.get R.CFG_ACTIVE_VER) ++ le 4 (s.get R.CFG_PREV_VER) ++
    le 4 (s.get R.CFG_COMMIT_CNT) ++ le 2 s.trialLeft ++ le 2 (s.get R.CFG_LOADED_LEN) ++ le 1 stage ++ le 1 s.cfgOperation ++
    le 2 (s.get R.X_STAGE_TOP) ++ le 4 (if 2 ≤ stage then s.get R.X_STAGE_VER else 0)

/-- CFG_INFO (R395). -/
def execCfgInfo (port : PortId) (tag : Byte) (s : State) : Out :=
  .next (s.serve port 0x45 tag [] (fun t => t.okData t.cfgInfo))

/-! ### Watchdog, self-test, OTP, ledger, restarts -/

/-- WDT_CHECKIN (R409): tasks 0 to 7. -/
def execWdtCheckin (port : PortId) (tag : Byte) (task : Fin 256) (s : State) : Out :=
  .next (s.serve port 0x50 tag (le 1 task) (fun t =>
    if 7 < task.val then t.refusal 0x15 else { state := t.checkIn task, status := 0 }))

/-- SELFTEST RUN (R457): the partitions are served first. -/
def execSelftestRun (port : PortId) (tag : Byte) (mask : Fin 256) (s : State) : Out :=
  .next (s.serve port 0x60 tag (le 1 1 ++ le 1 mask) (fun t =>
    { state := t.set R.X_BIST_FIRST (t.get R.X_BIST_FIRST ||| mask.val), status := 0 }))

/-- The present round of a partition is abandoned: it restarts at slice 0 (R457). -/
def State.roundDrop (s : State) (p : Nat) : State :=
  (((s.clear R.X_BIST_SEEN p).set R.BIST_Pp_PROG_PASSED 0 p).clear R.X_BIST_MISS p).setBit R.X_BIST_FIRST p false

/-- SELFTEST STOP (R457). [DEDUCED: log 18] -/
def execSelftestStop (port : PortId) (tag : Byte) (mask : Fin 256) (s : State) : Out :=
  .next (s.serve port 0x60 tag (le 1 2 ++ le 1 mask) (fun t =>
    { state := (t.abortSlice mask).each 8 (fun p u => if mask.val.testBit p then u.roundDrop p else u), status := 0 }))

/-- OTP_PROGRAM (R396). -/
def execOtpProgram (port : PortId) (tag : Byte) (key : Fin 65536) (index : Fin 256) (value : Fin 65536) (s : State) : Out :=
  .next (s.serve port 0x68 tag (le 2 key ++ le 1 index ++ le 2 value) (fun t =>
    if 127 < index.val then t.refusal 0x15
    else if t.on R.OTP_LOCK then t.refusal 0x16
    else if t.on R.X_OTP_BUSY then t.refusal 0x02
    else State.answers
      ((((t.flag R.X_OTP_BUSY true).set R.X_OTP_WORD index).set R.X_OTP_BITS value), 0x01)))

/-- OTP_PROGRAM_DONE (R396, R463): every bit of the value but those of `failed` is now 1; the mirror is read again. -/
def execOtpProgramDone (failed : Fin 65536) (s : State) : Out :=
  .next (if s.on R.X_OTP_BUSY then
      let a := 0x1100 + s.get R.X_OTP_WORD
      let bits := s.get R.X_OTP_BITS &&& (65535 - failed.val)
      ((s.putWord a (s.rawWord a ||| bits)).flag R.X_OTP_BUSY false).otpFollow
    else s)

/-- LEDGER_READ (R385): 94 bytes. -/
def State.ledgerRead (s : State) : List Byte :=
  ((List.range 12).map (fun k => le 6 (s.get R.LDG_COUNTERk k))).flatten ++ le 4 (s.get R.LDG_E_REM) ++
    le 2 (s.get R.LDG_HORIZON) ++ le 2 (s.get R.LDG_POLL_INTERVAL) ++ le 2 (s.get R.LDG_P_YARD) ++
    le 2 (s.get R.LDG_P_SLEEP) ++ le 2 (s.rawWord R.LDG_STATUS_EREM_VALID.base) ++ le 2 (s.get R.MEAS_CC_OFS) ++ le 6 s.now

/-- LEDGER_READ (R385). -/
def execLedgerRead (port : PortId) (tag : Byte) (s : State) : Out :=
  .next (s.serve port 0x70 tag [] (fun t => t.okData t.ledgerRead))

/-- RECOVER with its key in Safe State (R397): DEVICE_RESTART_RESET follows. -/
def execRecover (port : PortId) (tag : Byte) (key : Fin 65536) (s : State) : Out :=
  .next (s.serve port 0x7E tag (le 2 key) (fun t => { state := t.restartDue 0x18, status := 0 }))

/-- DEVICE_RESTART with its key outside Safe State (R397): DEVICE_RESTART_RESET follows. -/
def execDeviceRestart (port : PortId) (tag : Byte) (key : Fin 65536) (s : State) : Out :=
  .next (s.serve port 0x7F tag (le 2 key) (fun t => { state := t.restartDue 0x1A, status := 0 }))

end Sys2Proof.Machine
end

