-- ==== Sys2Proof/Machine/DataEngine.lean ====
section
/-! DEFINITION. Data engine and delivery queues (R296 to R319): the meanings of the commands of chapter 11 that no
journal work belongs to. -/

namespace Sys2Proof.Machine

/-- The reserved source codes of R32. -/
def reservedSource (source : Nat) : Bool := (0x40 ≤ source && source < 0x80) || 0x91 ≤ source

/-- The record types that a block generates (R303); a REFUSAL_SUMMARY comes from its queue alone (R305, R313). -/
def recordTypes : List Nat :=
  [0x01, 0x02, 0x03, 0x04, 0x05, 0x10, 0x11, 0x12, 0x13, 0x20, 0x21, 0x22, 0x30, 0x3F]

/-- A record that a source generates (R302, R305): a node record carries its sample time and its slot's class. -/
def State.offered (s : State) (type source time : Nat) (unsynced derived : Bool) (payload : List Byte) : Rec :=
  { s.mkRec type source payload with
    time := if source < 64 then time else s.now,
    cls := if source < 64 then nodeClass (s.get R.LINE_SLOTs_STAT_CLASS source) else 0,
    unsynced := unsynced, derived := derived }

/-- RECORD_OFFER (R32, R302, R303, R305, R309, R313): a source offers a record. A reserved source never does, and no record of
another type is generated. -/
def execRecordOffer (type source time : Nat) (unsynced derived : Bool) (payload : List Byte) (s : State) : Out :=
  .next (if reservedSource source || !recordTypes.contains type then s
    else s.offer (s.offered type source time unsynced derived payload))

/-- REFUSAL_SUMMARY_DUE (R313). -/
def execRefusalSummaryDue (q : Fin 16) (s : State) : Out :=
  .next (if s.on R.JNL_STATUS_SCAN_DONE then s.summaryDue q else s)

/-- QUEUE_CAP_APPLY (R314). -/
def execQueueCapApply (q : Fin 16) (s : State) : Out :=
  .next (if s.on R.X_CAP_WAIT q && s.pendingOf q == 0 then s.capApply q (s.get R.X_CAP_NEW q) else s)

/-- RESET_BASE (R315). -/
def execResetBase (i : Fin 512) (s : State) : Out := .next (s.engineCommand i 1)

/-- RESET_WINDOW (R315). -/
def execResetWindow (i : Fin 512) (s : State) : Out := .next (s.engineCommand i 2)

/-- CLEAR_ALARMS (R315). -/
def execClearAlarms (i : Fin 512) (s : State) : Out := .next (s.engineCommand i 3)

/-- RESET_TRACKER_ALL (R315). -/
def execResetTrackerAll (i : Fin 512) (s : State) : Out := .next (s.engineCommand i 4)

end Sys2Proof.Machine
end

