-- ==== Sys2Proof/Machine/HostPorts.lean ====
section
/-! DEFINITION. Host ports (R346 to R366): the meanings of the transactions, bus faults, host-notify and HRSTN. -/

namespace Sys2Proof.Machine

/-! ### The two-wire port -/

/-- A transaction that addresses the device: answered and followed by the awake hold, or NACKed (R354, R355). One that
takes place shows that SDA is free again (R358). [DEDUCED: log 62] -/
def State.twTransaction (s : State) (f : State → State) : State :=
  if s.twLive then f ((s.awake).ended R.HIF_FAULT_SDA_STUCK) else s.twNack

/-- TW_WRITE_REQUEST (R350, R352): the bytes written up to the STOP or repeated START. -/
def execTwWriteRequest (bytes : List Byte) (s : State) : Out :=
  .next (s.twTransaction (fun t => if bytes.isEmpty then t.rewind .tw else t.packet .tw bytes))

/-- TW_READ_REPLY (R351, R352): `n` bytes are read, all but the last acknowledged; `stop` says that the last was
answered with NACK followed by STOP, which delivers a final CRC-8 byte. [DEDUCED: log 61] -/
def execTwReadReply (n : Nat) (stop : Bool) (s : State) : Out :=
  let len := ((s.tw.reply.map Reply.bytes).getD []).length
  let taken := if stop && s.tw.ptr + n == len then n else n - 1
  .next (s.twTransaction (fun t => if n = 0 then t else t.readOut .tw n taken))

/-- TW_POINTER_RESET (R352). -/
def execTwPointerReset (s : State) : Out := .next (s.twTransaction (fun t => t.rewind .tw))

/-- TW_ADDRESS_NACK (R354, R355): in the three cases in which the own address is NACKed. -/
def execTwAddressNack (s : State) : Out := .next (if s.twLive then s else s.twNack)

/-- SCL_TIMEOUT (R350, R355, R357): `inRequest` says that a request to the device was in progress, with the TAG received or 0; the
awake hold follows it. -/
def execSclTimeout (inRequest : Bool) (tag : Byte) (s : State) : Out :=
  .next (if s.busDead then s
    else (s.latch R.HIF_FAULT_SCL_TMO).iff (inRequest && s.twLive) (fun t => t.awake.truncated .tw tag.toNat))

/-- SDA is released, which ends the condition, or is still held low (R358): `freed` says which, after the nine pulses of a bus clear
where BUS_CLEAR is set. -/
def State.busClear (s : State) (freed : Bool) : State :=
  if freed then s.ended R.HIF_FAULT_SDA_STUCK
  else s.iff (s.on R.HIF_CTRL_BUS_CLEAR) (fun t => t.latch R.HIF_FAULT_BUS_CLEAR_FAIL)

/-- SDA_STUCK (R358): the condition latches and the first bus clear runs. -/
def execSdaStuck (freed : Bool) (s : State) : Out :=
  .next (if s.busDead then s else (s.latchStand R.HIF_FAULT_SDA_STUCK).busClear freed)

/-- BUS_CLEAR_RETRY (R358): SDA is still stuck after a further HIF_TMO. -/
def execBusClearRetry (freed : Bool) (s : State) : Out :=
  .next (if s.busDead || !s.stands R.HIF_FAULT_SDA_STUCK then s else s.busClear freed)

/-- The bytes of a host-notify (R359): the address, the event summary, the CRC-8 over the address byte sent and both. The
summary is that of R359's table. [DEDUCED: log 97] -/
def State.notifyBytes (s : State) : List Byte :=
  let summary := bitAt 0 (s.on R.X_NOTIFY_RED) + bitAt 1 (s.alertSrc.testBit 1) +
    bitAt 2 (s.on R.MODE_STATUS_RIDE_ACTIVE) + bitAt 3 (s.get R.Q_ALERT != 0)
  let b := le 1 (2 * s.get R.HIF_ADDR_EFFECTIVE) ++ le 1 summary
  b ++ le 1 (crc8 (le 1 (2 * s.get R.HIF_NOTIFY_ADDR) ++ b))

/-- HOST_NOTIFY_ATTEMPT (R359, R360): `ok` says that it was sent whole and acknowledged. An attempt waits for an idle bus (R367), so
SDA is not stuck when it begins; the eighth failure drops it. -/
def execHostNotifyAttempt (ok : Bool) (s : State) : Out :=
  .next (if s.busDead || !s.on R.HIF_STATUS_NOTIFY_BUSY then s
    else
      let s1 : State := { s.ended R.HIF_FAULT_SDA_STUCK with driven := s.notifyBytes }
      let dropped := fun (t : State) => ((t.flag R.HIF_STATUS_NOTIFY_BUSY false).flag R.X_NOTIFY_RED false).clear R.X_NOTIFY_TRIES
      if ok then (dropped s1).inc R.HIF_NOTIFY_CNT_SENT
      else
        let s2 := s1.inc R.HIF_NOTIFY_CNT_LOST
        if s.get R.X_NOTIFY_TRIES = 7 then (dropped s2).latch R.HIF_FAULT_NOTIFY_FAIL
        else s2.set R.X_NOTIFY_TRIES (s.get R.X_NOTIFY_TRIES + 1))

/-! ### HRSTN (R365, R366) -/

/-- HRSTN_EXTERNAL_LOW (R366): another driver holds HRSTN low for at least 1 µs; the pad shows it. [DEDUCED: log 62] -/
def execHrstnExternalLow (s : State) : Out :=
  .next (if s.asleepDeep || s.on R.HIF_STATUS_HRSTN_DRIVEN then s
    else ((s.inc R.HIF_HRST_EXT_CNT).flag R.X_HRST_EXT true).hrstnFollow)

/-- HRSTN_RELEASE (R365, R411): every rail not started in PS3 has been REGULATING for HIF_HRST_DELAY. Task supervision
begins when the pad rises; a Yellow pulse holds it down until its own end. -/
def execHrstnRelease (s : State) : Out :=
  let up := (List.range 2).all (fun x => s.on R.X_RAIL_PS3 x || s.railState x == 4)
  .next (if s.on R.MODE_STATUS_RAIL_DEMAND && up && !s.on R.X_HRST_UP && !s.on R.X_HELD then
      let s1 := (s.flag R.X_HRST_UP true).hrstnFollow
      if s.on R.WDT_STATUS_YELLOW_PULSE then s1 else s1.guardTasks
    else s)

/-! ### The bulk port (R362); `vddio` says that VDDIO is at or above 1.5 V (R346) -/

/-- A bulk transaction that reads `n` bytes: ignored, in which case the pull-ups give 0xFF, or followed by the awake hold (R346,
R355, R362). -/
def State.qbTransaction (s : State) (vddio : Bool) (n : Nat) (f : State → State) : State :=
  let s1 := s.flag R.HIF_STATUS_VDDIO_OK vddio
  if s1.qbLive then f s1.awake else if n = 0 then s1 else { s1 with driven := List.replicate n 0xFF }

/-- WRITE_PACKET (R350, R356, R362): the bytes driven; `odd` says that the number of data clocks was odd. -/
def execWritePacket (bytes : List Byte) (odd vddio : Bool) (s : State) : Out :=
  .next (s.qbTransaction vddio 0 (fun t =>
    if odd then t.truncated .qb (field bytes 1 1) else (t.abortSlice 0x01).packet .qb bytes))

/-- READ_REPLY (R351, R362): `n` bytes are clocked out, each delivered. -/
def execReadReply (n : Nat) (vddio : Bool) (s : State) : Out :=
  .next (s.qbTransaction vddio n (fun t => t.readOut .qb n n))

/-- READ_STATUS (R362): the status byte of the port. [DEDUCED: log 62] -/
def execReadStatus (vddio : Bool) (s : State) : Out :=
  .next (s.qbTransaction vddio 1 (fun t =>
    let busy := (t.requests.head?.map (fun r => r.port == PortId.qb)).getD false
    { t with driven := le 1 (bitAt 0 t.qb.reply.isSome + bitAt 1 (t.waiting .qb) +
        bitAt 2 (t.on R.HIF_STATUS_ALERTN_LOW) + bitAt 3 busy) }))

/-- REWIND (R362). -/
def execRewind (vddio : Bool) (s : State) : Out := .next (s.qbTransaction vddio 0 (fun t => t.rewind .qb))

/-- BULK_INVALID_INSTRUCTION (R362). -/
def execBulkInvalidInstruction (vddio : Bool) (s : State) : Out :=
  .next (s.qbTransaction vddio 0 (fun t => t.latch R.HIF_FAULT_BULK_ERR))

end Sys2Proof.Machine
end

