-- ==== Sys2Proof/Machine/System.lean ====
section
/-! DEFINITION. Power-on reset, device restart, Ship, and the tick of an idle step (R25, R26, R38 to R43, R59 to R63, R330,
R397, R405, R446 to R448, R455). -/

namespace Sys2Proof.Machine

/-! ### The start run and the retest (R446 to R448, R455) -/

/-- A round of partition `p` is completed (R444, R456, R460). [DEDUCED: log 16] -/
def State.roundDone (s : State) (p : Nat) : State :=
  (((s.roundDrop p).set R.X_BIST_AT s.now p).inc R.BIST_Pp_CNT p).ended R.BIST_FAULT_OVERDUE p

/-- The start run (R446 to R448): `fail` names the partitions with a failing slice. A failure of P3 or P4 holds the device in
reset; another one is a cause of Safe State and leaves the port to the hard-wired responder. [DEDUCED: log 16] -/
def State.lbist (s : State) (fail : Nat) : State :=
  let s1 := (s.set R.BIST_POR_RESULT (255 - fail)).each 8 (fun p t =>
    (t.roundDone p).set R.BIST_Pp_PROG_LAST (if fail.testBit p then 3 else 1) p)
  if fail.testBit 3 || fail.testBit 4 then s1.flag R.X_HELD true
  else if fail = 0 then s1
  else (s1.safeCause 2).flag R.X_P0_ONLY true

/-- The function of partition `p` takes its safe state (R454). Those of P1, P2, P4 and P5 rest on BIST_STATUS.SAFE too.
[DEDUCED: log 16] -/
def State.safeFunction (s : State) (p : Nat) : State :=
  match p with
  | 0 => s.flag R.X_P0_ONLY true
  | 2 => s.flag R.Q_STATUS_HOLD true
  | 3 => ((s.each 4 (fun g t => (t.tripGroup g 7).gates g false)).iff (s.get R.PP_STATUS_ROLE != 1) State.openPair).chgFollow
  | 4 => s.railsKill
  | 5 => s.each 2 (fun q t => t.portOff q)
  | 6 => s.refFail true
  | 7 => s.restartDue 0x1A
  | _ => s

/-- The slices of partition `p` that have passed in the present round (R444). -/
def State.slicesPassed (s : State) (p : Nat) : Nat := ((List.range 64).filter (fun k => s.bit R.X_BIST_SEEN k p)).length

/-- The retest of R455: each partition whose function is in its safe state is to run a full round; one that passes completes it and
restores the function, one of `fail` completes none and stays as it is, FAILED standing. A failure of P3, P4 or P7 holds the device
in reset, where no record is written (R447). -/
def State.retest (s : State) (fail : Nat) : State :=
  let safe := s.get R.BIST_STATUS_SAFE
  (s.iff ((safe &&& fail &&& 0x98) != 0) (fun t => t.flag R.X_HELD true)).each 8 (fun p t =>
    if !safe.testBit p then t
    else if fail.testBit p then t.latchStand R.BIST_FAULT_FAILED p
    else ((t.roundDone p).setBit R.BIST_STATUS_SAFE p false).ended R.BIST_FAULT_FAILED p)

/-! ### The steps of a start -/

/-- Held in reset (R447): HRSTN and ALERTN low, nothing else. -/
def State.heldFollow (s : State) : State := s.hrstnFollow.followAlert

/-- Step 4 of R38 and step 5 of R62: the configuration is loaded and every block starts. -/
def State.startLogic (s : State) (sys bats : Nat) : State :=
  let s1 := (((s.flag R.DEV_CLK_FAST_ON true).set R.X_FAST_AT s.now).set R.X_SYSS sys).set R.X_BATS bats
  let s2 := (s1.bootConfig.bootFollow).wakeRestart
  let s3 := ((s2.flag R.WDT_STATUS_ENABLED true).flag R.WDT_STATUS_INTERNAL true).periodNext false
  s3.each 8 (fun p t => if t.bit R.BIST_STATUS_SAFE p then t.safeFunction p else t)

/-- The selection of the mode at a start, without its record (R39, R49); Safe State's actions follow its records.
[DEDUCED: log 13] -/
def State.startMode (s : State) (old : Nat) : State :=
  let s1 := s.modeTerms
  let new := s1.modeNow true
  let s2 := s1.set R.MODE_STATUS_MODE new
  (s2.iff (new != 0xB) (fun t => t.modeEntry old new)).set R.X_CAUSES 0

/-- The FAULT_EVENT records held under R39 whose bits are still set are produced now, with what they captured at their latch
(R302, R304). [DEDUCED: log 70] -/
def State.offerHeld (s : State) : State :=
  s.held.foldl (fun t r =>
    if field r.payload 2 2 &&& t.rawWord (field r.payload 0 2) = 0 then t else t.offer { r with time := t.now })
    { s with held := [] }

/-- Safe State entered at a start (R418): its actions and its final record. [DEDUCED: log 15] -/
def State.startSafe (s : State) : State := if s.get R.MODE_STATUS_MODE = 0xB then s.safeActions.safeRecord else s

/-- The CFG_EVENT SELECTED of a load, a commit that was stopped, and the trial of what was loaded (R338, R340, R393). -/
def State.selectedRecord (s : State) (por : Bool) : State :=
  ((s.cfgEvent 0x01 (s.get R.CFG_STATUS_SELECT)).reportAbort).trialLoad por

/-- Step 5 of R38 and step 6 of R62 (R39, R330): the scan ends, acceptance is enabled, and the records of the start are
offered; the MODE_CHANGE carries the given old mode and cause. [DEDUCED: log 13, 17] -/
def State.startRecords (s : State) (por : Bool) (worn : List Nat) (old cause : Nat) : State :=
  let p := s.bootScan por worn
  let s1 := p.1.each 8 (fun q t => t.set R.X_BIST_AT (t.get R.X_BIST_AT q + (t.now - s.now)) q)
  let s2 := match p.2 with
    | some gap => s1.record 0x3F 0x8A gap
    | none => s1
  let s3 := ((s2.selectedRecord por).offerHeld).modeWrite old (s2.get R.MODE_STATUS_MODE) cause
  s3.startSafe.modeFollow

/-! ### POR (R25, R26, R38) -/

/-- Components that a loss of supply empties: queue SRAM, buffers, what runs on the journal die. -/
def State.coldParts (s : State) : State :=
  { s with slots := [], held := [], latched := [], program := none, erase := none, storeOps := [], target := none,
           staging := [], tw := Port.empty, qb := Port.empty, driven := [], requests := [] }

/-- VAO falls below the reset level (R38, R312, R423): a program running is lost, the slots of its sector torn; a commit short of
its second slot record is lost (R342); what is neither OTP nor retained is gone. A torn sector 0 leaves a header that does not
check, so that its page counts as erased (R330 step 2). [DESIGN CHOICE: log 12, 21] -/
def State.supplyLost (s : State) (torn : Bool) : State :=
  let s1 := s.stopCommit 2
  let s2 := match s1.program with
    | some p =>
      if p.store || !torn || s1.get R.JNL_HEAD_PAGE_SECTOR == 0 then s1
      else (s1.addSector (((s1.slots.filter (fun (x : QSlot) => !x.committed)).take p.records).map QSlot.record) true p.time).advanceHead
    | none => s1
  (((s2.coldParts).keepFields (fun k => clsOfKey k == Cls.otp || clsOfKey k == Cls.nv)).flag R.X_DOWN true).hrstnFollow

/-- VAO_BELOW_RESET (R38): the program running may leave a torn sector; where the loss cuts a rewriting of the retained record, the
other copy is the one that checks (R329, R343). [DESIGN CHOICE: log 53; DEDUCED: log 117] -/
def execVaoBelowReset (loss : SupplyLoss) (s : State) : Out :=
  let t := (s.supplyLost loss.torn).flag R.X_PASSIVE loss.passive
  .next (if loss.rewrite then { t with retained := t.retainedOld, retainedOld := none } else t)

/-- Registers of the always-on domain that a POR starts afresh: the slow counter, the rate of device time, the wake count.
[DESIGN CHOICE: log 12] -/
def State.alwaysOnReset (s : State) : State :=
  let s1 := (((s.clear R.X_SLOW).clear R.X_WAKE_AT).clear R.X_WAKE_LEN).clear R.X_TIME_RATE
  let s2 := ((((s1.clear R.X_TIME_ACC).clear R.X_CORR_AT).clear R.X_FAST_AT).clear R.X_CUTOFF_REST).clear R.X_CUT_MODE
  (s2.flag R.X_DOWN false).flag R.X_PASSIVE false

/-- POWER_ON_RESET (R38, R39, R43, R327, R446): VAO rises through 2.8 V; the grown table is read from block 6. `run` says what the
start run and the boot scan find, `k` is the strap ratio in thousandths, `sys` and `bats` are SYSS and BATS in 10 mV.
[DESIGN CHOICE: log 4, 12, 118] -/
def execPowerOnReset (run : StartRun) (k sys bats : Nat) (s : State) : Out :=
  .next (
    let s0 : State := (s.supplyLost false).alwaysOnReset
    let s1 : State := { s0 with grownBad := s0.table6 }
    let s2 := ((s1.otpFollow).strapFollow k).set R.WDT_LOCK (s1.get R.OTP_WDT_LOCK_DEFAULT)
    let s3 := s2.lbist run.fail
    if s3.on R.X_HELD then s3.heldFollow
    else
      let s4 := (s3.flag R.PP_STATUS_VSU_ON true).startLogic sys bats
      let s5 := ((s4.startMode 1).set R.MODE_CAUSE 1).set R.MODE_CHANGE_TIME s4.now
      s5.startRecords true run.worn 0xFF 0x01)

/-- RETAINED_SRAM_LOST (R329): VAO falls below 1.2 V. -/
def execRetainedSramLost (s : State) : Out := .next { s with retained := none, retainedOld := none }

/-! ### Device restart (R25, R26, R333, R397, R455) -/

/-- Whether a field keeps its value through a device restart: class RET or OTP, what no reset touches, and status whose source
goes on (R26). -/
def keptAtRestart (k : Nat) : Bool :=
  let c := clsOfKey k
  let a := k / 16
  let b := a / 256
  c == .ret || c == .otp || c == .nv ||
    (c == .stat && k < 0x1000000 && (b == 0x00 || b == 0x01 || b == 0x08 || b == 0x0C || b == 0x0D || a == 0x0913 ||
      (0x0980 ≤ a && a < 0x09C0) || a == 0x0A01 || a == 0x0E21 || a == 0x0F03 || k == R.THM_STATUS_HOLD.key 0 ||
      k == R.BIST_STATUS_SAFE.key 0))

/-- The reset of the logic (R25, R26): port buffers and staging empty, an erase in progress aborted, status recomputed. -/
def State.logicReset (s : State) : State :=
  let s1 := (s.abortErase).keepFields keptAtRestart
  let s2 : State := { s1 with latched := [], program := none, storeOps := [], target := none, staging := [],
                              tw := Port.empty, qb := Port.empty, driven := [], requests := [] }
  let s3 := ((s2.flag R.MODE_STATUS_COUPLED false).flag R.MODE_STATUS_GRACE false).flag R.MODE_STATUS_RAIL_DEMAND false
  let s4 := ((s3.flag R.MODE_STATUS_SHIP_PENDING false).flag R.MODE_STATUS_HARVEST false).flag R.HIF_STATUS_AWAKE false
  ((s4.flag R.HIF_STATUS_NOTIFY_BUSY false).set R.X_RIDE_AT (s.get R.X_RIDE_AT)).set R.X_HOLD_AT (s.get R.X_HOLD_AT)

/-- Whether the device restart may reset the logic: every accepted record is committed, and so is what the store was asked to
write (R333, R393, R398), and no program runs; in the safe state of P2 nothing can be written before its retest (R454, R455).
[DEDUCED: log 19] -/
def State.restartReady (s : State) : Bool :=
  s.bit R.BIST_STATUS_SAFE 2 ||
    (s.uncommitted == 0 && s.program.isNone && !s.storeOps.any (fun o => !o.kind.isRepair))

/-- The first half of a device restart (R25, R333): the rails go off, every accepted record is to be committed.
[DEDUCED: log 19] -/
def State.restartBegin (s : State) : State :=
  if s.on R.X_RESTARTING then s
  else
    let s1 := ((s.flag R.X_RESTARTING true).flag R.X_FLUSH true).flag R.MODE_STATUS_RAIL_DEMAND false
    ((((s1.flag R.X_HRST_UP false).each 2 (fun x t => t.railPs3 x)).guardInternal).hrstnFollow).requestFast

/-- RECOVER leaves Safe State (R414, R419). -/
def State.recovered (s : State) : State :=
  (((s.set R.WDT_SAFE_CAUSE 0).set R.WDT_LADDER_Y 0).set R.WDT_LADDER_O 0)

/-- The second half: the logic is reset, the committed configuration is reloaded, and the mode is selected; a watchdog
that was disabled is enabled again (R407); a change of mode carries cause 0x18 or 0x1A (R397); passed slices stay (R458).
[DEDUCED: log 19, 20; DESIGN CHOICE: log 21] -/
def State.restartEnd (s : State) (fail sys bats : Nat) : State :=
  let cause := s.get R.X_RESTART
  let old := s.get R.MODE_STATUS_MODE
  let ride := s.on R.MODE_STATUS_RIDE_ACTIVE
  let disabled := !s.on R.WDT_STATUS_ENABLED
  let again := cause == 0x18 && s.get R.WDT_SAFE_CAUSE == 2
  let s0 := s.logicReset.each 8 (fun p t => t.set R.BIST_Pp_PROG_PASSED (t.slicesPassed p) p)
  let s1 := s0.iff (cause == 0x18) State.recovered
  let s2 := (s1.iff again (fun t => t.lbist fail)).retest fail
  if s2.on R.X_HELD then s2.heldFollow
  else
    let s3 := ((s2.startLogic sys bats).marginFollow).iff ride (fun t => t.chgHold R.CHG_HOLD_RIDE true)
    let hold := s3.on R.MODE_STATUS_THERM_ACTIVE || s3.bit R.BIST_STATUS_SAFE 2
    let s3' := (s3.flag R.Q_STATUS_HOLD hold).selectedRecord false
    let s4 := (s3'.iff disabled (fun t => t.wdtEvent 0x06 0 0 0xFF)).modeTerms
    let new := s4.modeNow true
    let s5 := if new = old then s4.startSafe else s4.changeMode new (if new = 0xB then 0x17 else cause)
    (s5.set R.X_CAUSES 0).modeFollow

/-- DEVICE_RESTART_RESET (R25): a restart that is due. `fail` names the partitions that fail the start run or the retest.
[DEDUCED: log 19] -/
def execDeviceRestartReset (fail : Fin 256) (sys bats : Nat) (s : State) : Out :=
  .next (if s.get R.X_RESTART = 0 ∨ s.asleepDeep ∨ s.on R.X_HELD then s
    else
      let s1 := s.restartBegin
      if s1.restartReady then s1.restartEnd fail sys bats else s1)

/-! ### Ship (R42, R60 to R63, R205) -/

/-- SHIP_DELAY_EXPIRE (R60 step 2). -/
def execShipDelayExpire (s : State) : Out :=
  .next (if s.on R.MODE_STATUS_SHIP_PENDING && !s.on R.X_SHIP_OFF then
      ((s.flag R.X_SHIP_OFF true).cause 0x12).demandFollow else s)

/-- Every accepted record is committed, sector by sector; `n` bounds the sectors. -/
def State.flushAll : Nat → State → State
  | 0, s => s
  | n + 1, s =>
    if s.uncommitted = 0 ∨ s.on R.X_NEED_BLOCK then s
    else
      let cap := if s.get R.JNL_HEAD_PAGE_SECTOR = 0 then 31 else 32
      State.flushAll n (s.commitSector
        { records := min cap s.uncommitted, store := false, tick := s.get R.X_GOOD, time := s.now })

/-- Whether the Ship entry may complete (R57, R60): a mode of 0x1 to 0x5, the rails off, every accepted record committed, and a
journal that can take the last record. -/
def State.shipReady (s : State) : Bool :=
  s.on R.X_SHIP_OFF && decide (1 ≤ s.get R.MODE_STATUS_MODE ∧ s.get R.MODE_STATUS_MODE ≤ 5) && !s.railOn 0 && !s.railOn 1 &&
    s.program.isNone && s.uncommitted == 0 && !s.on R.Q_STATUS_HOLD && !s.on R.Q_STATUS_STARVED && !s.on R.X_NEED_BLOCK

/-- SHIP_ENTRY_COMPLETE (R60 steps 3 and 4): the MODE_CHANGE to Ship is written and committed, the supplies stop and the pair
opens. -/
def execShipEntryComplete (s : State) : Out :=
  .next (if s.shipReady then
      let old := s.get R.MODE_STATUS_MODE
      let s1 := (s.each 2 (fun p t => t.portOff p)).abortSlice 0xFF
      let s2 := ((s1.set R.MODE_STATUS_PREV old).set R.MODE_STATUS_MODE 0).modeRecord old 0 0x12
      let s3 := State.flushAll (s2.slots.length + 1) s2
      let s4 := ((s3.stopVaux).stopVpre 0).openPair
      let s5 := ((s4.flag R.PP_STATUS_VSU_ON false).flag R.DEV_CLK_FAST_ON false).flag R.X_FAST_REQ false
      (((s5.flag R.MODE_STATUS_SHIP_PENDING false).flag R.X_SHIP_OFF false).set R.X_CAUSES 0).followAlert
    else s)

/-- The transactions that the two-wire port NACKs during a Ship exit (R63, R354, R355): each is counted, and the awake hold follows
as the fast clock runs. [DEDUCED: log 62] -/
def State.exitNacks (s : State) (n : Nat) : State :=
  if n = 0 then s else (s.set R.HIF_NACK_CNT (min (s.get R.HIF_NACK_CNT + n) 65535)).flag R.HIF_STATUS_AWAKE true

/-- SHIP_EXIT (R62, R63, R205, R348, R354): by input presence or by WAKEN; the cut-off rest ends by input presence alone.
`exit.run`, `k`, `sys` and `bats` are as for POWER_ON_RESET. [DEDUCED: log 22, 40; DESIGN CHOICE: log 118] -/
def execShipExit (byInput : Bool) (exit : ExitRun) (k sys bats : Nat) (s : State) : Out :=
  .next (
    let cut := s.on R.X_CUTOFF_REST
    if s.on R.X_DOWN || s.on R.X_HELD || !(cut && byInput || !cut && s.get R.MODE_STATUS_MODE == 0) then s
    else
      let old := if cut then s.get R.X_CUT_MODE else 0
      let cause := if cut then 0x0D else if byInput then 0x02 else 0x03
      let s1 := (s.logicReset).coldParts
      let s2 := (((s1.flag R.X_CUTOFF_REST false).flag R.DEV_CLK_EPOCH_SET false).flag R.MODE_STATUS_RIDE_ACTIVE false).otpFollow
      let s3 := (((s2.strapFollow k).flag R.JNL_STATUS_SCAN_DONE false).flag R.SUP_STATUS_RIDE false).lbist exit.run.fail
      if s3.on R.X_HELD then s3.heldFollow
      else
        let s4 := (((s3.flag R.PP_STATUS_VSU_ON true).set R.MODE_STATUS_MODE 1).startLogic sys bats).exitNacks exit.nacks
        let s5 := (((s4.startMode old).set R.MODE_STATUS_PREV old).set R.MODE_CAUSE cause).set R.MODE_CHANGE_TIME s4.now
        s5.startRecords false exit.run.worn old cause)

/-! ### The tick of an idle step (R40, R41, R400, R405, R456) -/

/-- Device time advances by one LPO tick (R41); CORR_STALE after 10 min without a correction (R44).
[DESIGN CHOICE: log 2, 26] -/
def State.timeTick (s : State) : State :=
  let acc := s.get R.X_TIME_ACC + s.get R.X_TIME_RATE
  let s1 := (s.set R.X_TIME_ACC (acc % 16384000)).set R.DEV_TIME (s.now + acc / 16384000)
  s1.iff (decide (600000 ≤ s1.now - s1.get R.X_CORR_AT)) (fun t => t.flag R.DEV_CLK_CORR_STALE true)

/-- BIST_FAULT.OVERDUE latches for a partition whose age has reached BIST_MAX_AGE (R456). -/
def State.overdueCheck (s : State) : State :=
  s.each 8 (fun p t =>
    if t.get R.BIST_MAX_AGE ≤ t.agesOf (t.get R.X_BIST_AT p) 3600000 && !t.stands R.BIST_FAULT_OVERDUE p then
      t.latchStand R.BIST_FAULT_OVERDUE p
    else t)

/-- One LPO tick: what a step does while no command waits. In Ship, in the cut-off rest, below the reset level and held in
reset nothing runs. [DESIGN CHOICE: log 2; DEDUCED: log 11] -/
def State.tick (s : State) : State :=
  if s.asleepDeep || s.on R.X_HELD then s
  else
    let s1 := (s.set R.X_TICKS (s.get R.X_TICKS + 1)).set R.X_SLOW (s.get R.X_SLOW + 1)
    let s2 := ((s1.iff (!s.on R.MODE_STATUS_RIDE_ACTIVE) (fun t => t.set R.X_GOOD (t.get R.X_GOOD + 1))).timeTick).hrstnEase
    let s3 := (s2.wdtTick.staleCheck).overdueCheck
    if s3.program.isNone then s3.startStoreProgram else s3

end Sys2Proof.Machine
end

