-- ==== Sys2Proof/Machine/SelfTest.lean ====
section
/-! DEFINITION. Self-test slices in service (R443 to R460): the meanings of their commands. -/

namespace Sys2Proof.Machine

/-- Whether no watchdog tick of W, P - 1 or P falls within 200 µs, which is seven LPO ticks or less ahead (R449).
[DEDUCED: log 18] -/
def State.wdtFar (s : State) : Bool :=
  let pos := s.get R.WDT_POS
  let len := s.get R.X_WDT_LEN
  !s.wdtLive || s.get R.X_WDT_NEW != 0 ||
    [s.get R.WDT_WINDOW_AT, len - 1, len].all (fun t => decide (t < pos) || decide (pos + 7 < t))

/-- Whether partition `p` is predicted idle (R449), as far as the state shows it; what else lies ahead is an operand. -/
def State.predictedIdle (s : State) (p : Nat) : Bool :=
  let railsOff := s.railState 0 == 0 && s.railState 1 == 0
  let quietIn := (List.range 4).all (fun i => !(1 ≤ s.instate i && s.instate i ≤ 6))
  match p with
  | 0 => s.requests.isEmpty
  | 2 => s.uncommitted == 0 && s.program.isNone && s.erase.isNone && s.storeOps.isEmpty
  | 3 => s.allStopped && (s.on R.BIST_STATUS_P3_WINDOW ||
      (quietIn && !s.allocRuns && (s.chg == 0 || s.chg == 1 || s.chg == 0xA)))
  | 4 => railsOff && (!s.on R.AUX_STATUS_VAUX_ON || s.on R.AUX_STATUS_VAUX_REG) && (s.get R.X_VPRE == 0 || s.get R.X_VPRE == 3 || s.get R.X_VPRE == 6)
  | 5 => (List.range 2).all (fun q =>
      s.get R.X_FRAME q == 0 && s.get R.X_RUN q == 0 && s.portState q != 2 && s.portState q != 3)
  | 6 => s.allStopped && railsOff
  | 7 => s.get R.X_CAUSES == 0 && s.wdtFar
  | _ => true

/-- Whether slices run at all (R449); a charge rest ranks above them (R47, R169). -/
def State.slicesRun (s : State) : Bool :=
  s.on R.BIST_CTRL_EN && !s.asleepDeep && !s.on R.X_HELD && s.on R.DEV_CLK_FAST_ON && !s.on R.MODE_STATUS_THERM_ACTIVE &&
    !s.safeState && !s.resting

/-- Whole hours since the last completed round of partition `p` (R460). -/
def State.bistAge (s : State) (p : Nat) : Nat := s.agesOf (s.get R.X_BIST_AT p) 3600000

/-- The partition that is served next (R450, R453, R457): of those predicted idle, P3 in its forced window, whose slices run back to
back, then the ones of SELFTEST RUN, then the greatest age, then the lowest number. [DEDUCED: log 18] -/
def State.bistNext (s : State) (ahead : Nat) : Option Nat :=
  let ready := (List.range 8).filter (fun p => ahead.testBit p && !s.bit R.BIST_STATUS_SAFE p && s.predictedIdle p)
  let first := ready.filter (fun p => s.bit R.X_BIST_FIRST p)
  if s.on R.BIST_STATUS_P3_WINDOW && ready.contains 3 then some 3
  else (if first.isEmpty then ready else first).foldl (fun best p => match best with
    | some b => if s.bistAge b < s.bistAge p then some p else some b
    | none => some p) none

/-- The lowest slice not yet passed in the present round of partition `p` (R444, R453). -/
def State.nextSlice (s : State) (p : Nat) : Nat := ((List.range 64).find? (fun j => !s.bit R.X_BIST_SEEN j p)).getD 0

/-- A slice of partition `p` begins: one whose retry is due, else the lowest not yet passed (R444, R453, R454). -/
def State.sliceStart (s : State) (p : Nat) : State :=
  let j := if s.on R.X_BIST_MISS p then s.get R.X_BIST_RETRY p else s.nextSlice p
  ((s.flag R.BIST_STATUS_RUNNING true).set R.BIST_STATUS_PART p).set R.X_BIST_SLICE j

/-- BIST_SLICE_START (R449, R450): the partition that the order of R450 serves; bit p of `ahead` says that the next scheduled
work of partition p lies at least 200 µs ahead. [DEDUCED: log 18] -/
def execBistSliceStart (ahead : Fin 256) (s : State) : Out :=
  .next (if s.slicesRun && !s.on R.BIST_STATUS_RUNNING then
      match s.bistNext ahead with
      | some p => s.sliceStart p
      | none => s
    else s)

/-- A slice has passed (R444, R453, R454): PASSED, a pass on retry, the end of a round, with which the forced window of P3 ends. -/
def State.slicePass (s : State) (p j : Nat) : State :=
  let s1 := (s.setBit R.X_BIST_SEEN j true p).iff (s.on R.X_BIST_MISS p) (fun t =>
    (t.inc R.BIST_Pp_PROG_RETRIES p).flag R.X_BIST_MISS false p)
  if s1.slicesPassed p = 64 then (s1.roundDone p).iff (p == 3) State.endP3Window else s1.set R.BIST_Pp_PROG_PASSED (s1.slicesPassed p) p

/-- A second mismatch (R454): FAILED, the record, the safe state of the partition's function. -/
def State.sliceFail (s : State) (p : Nat) : State :=
  let s1 := ((s.flag R.BIST_STATUS_RUNNING false).flag R.X_BIST_MISS false p).latchStand R.BIST_FAULT_FAILED p
  (s1.setBit R.BIST_STATUS_SAFE p true).safeFunction p

/-- BIST_SLICE_END (R445, R454): the running slice reaches its terminal count; `match_` says that its signature is the golden
one. A first mismatch runs the slice again at once. [DEDUCED: log 18] -/
def execBistSliceEnd (match_ : Bool) (s : State) : Out :=
  .next (if s.on R.BIST_STATUS_RUNNING then
      let p := s.get R.BIST_STATUS_PART
      let j := s.get R.X_BIST_SLICE
      if match_ then ((s.flag R.BIST_STATUS_RUNNING false).set R.BIST_Pp_PROG_LAST 1 p).slicePass p j
      else
        let s1 := s.set R.BIST_Pp_PROG_LAST 3 p
        if s.on R.X_BIST_MISS p then s1.sliceFail p
        else (s1.flag R.X_BIST_MISS true p).set R.X_BIST_RETRY j p
    else s)

end Sys2Proof.Machine
end

