-- ==== Sys2Proof/Machine/Thermal.lean ====
section
/-! DEFINITION. Temperatures (R428 to R442, R505): the meanings of their commands. Temperatures in 0.1 °C. -/

namespace Sys2Proof.Machine

/-! ### The die (R428 to R433) -/

/-- Whether a reading is plausible (R429): the two bias currents agree within 10.0 °C, both within -55.0 to 175.0 °C. -/
def plausible (t t2 : Int) : Bool :=
  let inside := fun (x : Int) => decide (-550 ≤ x) && decide (x ≤ 1750)
  decide (t - t2 ≤ 100) && decide (t2 - t ≤ 100) && inside t && inside t2

/-- Offers stay under hold after a release while Safe State or the safe state of P2 keeps them there (R309, R454).
[DEDUCED: log 69] -/
def State.holdFollow (s : State) : State :=
  s.flag R.Q_STATUS_HOLD (s.on R.MODE_STATUS_THERM_ACTIVE || s.get R.MODE_STATUS_MODE == 0xB || s.bit R.BIST_STATUS_SAFE 2)

/-- Thermal Hold stops a group and drives its input's gates low (R431 step 2); a running cold start goes on, its group TRIPPED
(R211). [DEDUCED: log 93] -/
def State.thermGroup (s : State) (g : Nat) : State :=
  if s.coldGroup g then (s.setBit R.X_TRIP 6 true g).settleGroup g else (s.tripGroup g 6).gates g false

/-- The power stages, supplies and ports stop (R431 step 2, R341, R452). -/
def State.thermStages (s : State) : State :=
  let s1 := (s.abortSlice 0xFF).endP3Window.dropCeilings
  let s2 := s1.each 4 (fun g t => t.thermGroup g)
  let s3 := ((s2.flag R.MODE_STATUS_RAIL_DEMAND false).flag R.X_HRST_UP false).demandOff
  let s4 := ((s3.railsKill.guardInternal).hrstnFollow).stopVaux
  ((s4.each 2 (fun p t => t.portOff p)).chgStopNow).abortErase

/-- A die shutdown event (R430, R431). -/
def State.thermStop (s : State) : State :=
  let s1 := ((s.flag R.THM_STATUS_HOLD true).flag R.MODE_STATUS_THERM_ACTIVE true).set R.X_HOLD_AT s.now
  let s2 := ((s1.holdFollow.latchStand R.THM_FAULT_DIE_SHUTDOWN).inc R.THM_SHUT_CNT).cause 0x10
  (s2.thermStages.requestFast).followAlert

/-- After release a classified input is readmitted without a probe, another present one starts over (R433). -/
def State.readmit (s : State) (i : Nat) : State :=
  if s.on R.X_OV i || s.on R.X_FETBAD i || !s.enabled i then s
  else if s.cls i != 0 && s.present i then ((s.setInstate i 8).flag R.X_READMIT true i).flag R.X_DECODED false i
  else if s.instate i = 8 then s
  else s.restartClass i

/-- The release of a group and its input (R433). -/
def State.thermGroupBack (s : State) (g : Nat) : State :=
  if s.coldGroup g then (s.setBit R.X_TRIP 6 false g).settleGroup g else (s.endTrip g 6).readmit g

/-- The release (R433, R505): kept records first, then the journal, the supplies, the groups, the inputs, the sequencer. -/
def State.thermRelease (s : State) : State :=
  let s1 := (s.flag R.THM_STATUS_HOLD false).flag R.MODE_STATUS_THERM_ACTIVE false
  let s2 := ((s1.holdFollow.ended R.THM_FAULT_DIE_SHUTDOWN).set R.THM_HOLD_LAST (s.now - s.get R.X_HOLD_AT)).cause 0x11
  let s3 := (s2.held.foldl State.offer { s2 with held := [] }).reportAbort
  let s4 := s3.startVaux.startVpre.each 4 (fun g t => t.thermGroupBack g)
  s4.chgFollow.followAlert

/-- The plausibility count of R429 after a reading: DIE_IMPLAUSIBLE latches at the second bad one in a row and its condition
ends after 100 good ones. [DEDUCED: log 68] -/
def State.dieJudge (s : State) (good : Bool) : State :=
  if good then
    let n := min (s.get R.X_DIE_GOOD + 1) 100
    ((s.set R.X_DIE_BAD 0).set R.X_DIE_GOOD n).iff (n == 100) (fun t => t.ended R.THM_FAULT_DIE_IMPLAUSIBLE)
  else
    let n := min (s.get R.X_DIE_BAD + 1) 2
    ((s.set R.X_DIE_GOOD 0).set R.X_DIE_BAD n).iff (n == 2) (fun t => t.latchStand R.THM_FAULT_DIE_IMPLAUSIBLE)

/-- DIE_READING (R428 to R430): `t` is the reading, `t2` the one from the difference of the two bias currents.
[DEDUCED: log 68] -/
def execDieReading (t t2 : Int) (s : State) : Out :=
  .next (if s.asleepDeep || s.on R.X_HELD then s
    else
      let good := plausible t t2
      let v := satS16 t
      let s1 := ((s.setS R.THM_DIE_T v).setS R.THM_DIE_MAX (max v (s.getS R.THM_DIE_MAX))).dieJudge good
      if s1.on R.THM_STATUS_HOLD then
        (if good && decide (t ≤ 1300) && !s1.stands R.THM_FAULT_DIE_IMPLAUSIBLE then s1.thermRelease else s1)
      else if 1500 ≤ t ∨ (!good ∧ s1.get R.X_DIE_BAD = 2) then s1.thermStop
      else s1)

/-- JOURNAL_POWER_OFF (R341 steps 3 and 4, R431): a program in progress has completed on the hold drive; what the store had in hand
stops there; VPRE stops. [DEDUCED: log 52] -/
def execJournalPowerOff (s : State) : Out :=
  .next (if s.on R.THM_STATUS_HOLD then
      let s1 := match s.program with
        | some p => if p.store then s.storeProgrammed false else s.commitSector p
        | none => s
      s1.stopStore.stopVpre 0
    else s)

/-! ### Thermistors (R434 to R437) -/

/-- A sensor's reading was valid (R436): the tenth in a row makes it valid. -/
def State.thGood (s : State) (x : Nat) (t : Int) : State :=
  let n := min (s.get R.X_TH_RUN x + 1) 10
  let s1 := ((s.set R.X_TH_BAD 0 x).set R.X_TH_RUN n x).setS R.X_TH_LAST t x
  if s1.get R.X_TH_JUDGE x = 1 then s1.setTemp x (s1.get R.X_TH_LAST x)
  else if n = 10 then ((s1.setJudge x 1).thEnded x).setTemp x (s1.get R.X_TH_LAST x)
  else s1

/-- A sensor's reading was invalid (R436, R439): the second in a row makes it invalid, which latches, and for a TS sensor begins
a hold. -/
def State.thBad (s : State) (x : Nat) : State :=
  let n := min (s.get R.X_TH_BAD x + 1) 2
  let s1 := (s.set R.X_TH_RUN 0 x).set R.X_TH_BAD n x
  if n = 2 ∧ s1.get R.X_TH_JUDGE x ≠ 2 then
    (((s1.setJudge x 2).setTemp x 0x8000).thLatch x).iff (4 ≤ x) (fun t => t.fbHold (x - 4) s.fLin)
  else s1

/-- THERMISTOR_READING (R434 to R437): ratio code `k` of sensor `x` (TB1 to TB4, TS1, TS2), while the fast clock runs; `ref` says
that TBREF is in tolerance. -/
def execThermistorReading (x : Fin 6) (k : Nat) (ref : Bool) (s : State) : Out :=
  .next (if !s.thEnabled x || !s.on R.DEV_CLK_FAST_ON then s
    else
      let s1 := match s.tempOf x (min k 4095) with
        | some t => if ref && decide (-400 ≤ t) && decide (t ≤ 1500) then s.thGood x t else s.thBad x
        | none => s.thBad x
      s1.windowFollow)

/-! ### Foldback (R438 to R440) -/

/-- FOLDBACK_UPDATE (R438). -/
def execFoldbackUpdate (s : State) : Out := .next s.foldback

/-- FB_HOLD_END (R439, R440): TS sensor `n` has been valid for 10 s: an excluded one rejoins; with its reading below
THM_TS_FB_START it meets the condition of the hold. [DEDUCED: log 69] -/
def execFbHoldEnd (n : Fin 2) (s : State) : Out :=
  .next (if s.get R.X_TH_JUDGE (4 + n) = 1 then
      (s.setBit R.THM_STATUS_TS_EXCLUDED n false).iff
        (decide (s.getS R.X_TH_LAST (4 + n) < s.getS R.THM_TS_FB_START)) (fun t => t.fbDone n)
    else s)

/-- FB_CLEAR (R440). -/
def execFbClear (s : State) : Out := .next s.fbClear

end Sys2Proof.Machine
end

