-- ==== Sys2Proof/Machine/Watchdog.lean ====
section
/-! DEFINITION. Watchdog and supply supervision (R399 to R427): the meanings of their commands. -/

namespace Sys2Proof.Machine

/-- WDT_KEY (R406): a write of KEY. -/
def execWdtKey (key : Fin 256) (s : State) : Out := .next (s.keyWrite key)

/-- WDT_DISABLE_SEQUENCE (R407): 0x5A, then 0xA5 within 1 ms; LOCKED while WDT_LOCK is set. [DEDUCED: log 65] -/
def execWdtDisableSequence (s : State) : Out :=
  .next (if s.on R.WDT_LOCK then s else (s.disableWrite 0x5A).disableWrite 0xA5)

/-- WDT_ENABLE (R407): 0x3C; LOCKED while WDT_LOCK is set. -/
def execWdtEnable (s : State) : Out := .next (if s.on R.WDT_LOCK then s else s.disableWrite 0x3C)

/-- WDT_LOCK_SET (R408). -/
def execWdtLockSet (s : State) : Out := .next (s.lockWrite 1)

/-- Whether the watchdog runs in a running device (R407, R418). -/
def State.wdtRuns (s : State) : Bool := s.wdtLive && !s.asleepDeep && !s.on R.X_HELD

/-- WDT_EXPIRE (R403, R412, R413): tick P - 1 ends without a valid service: kind TIMEOUT, under Internal INTERNAL.
[DEDUCED: log 66] -/
def execWdtExpire (s : State) : Out :=
  .next (if s.wdtRuns && s.get R.X_WDT_NEW == 0 && s.get R.X_WDT_LEN ≤ s.get R.WDT_POS + 1 then s.expire else s)

/-- WDT_INTERNAL_SERVICE (R412): from tick W on a new period starts at the next tick; the ladder, which counts host services,
stands. [DEDUCED: log 66] -/
def execWdtInternalService (s : State) : Out :=
  .next (if s.wdtRuns && s.on R.WDT_STATUS_INTERNAL && s.get R.WDT_WINDOW_AT ≤ s.get R.WDT_POS then s.periodNext false else s)

/-- YELLOW_PULSE_END (R365, R411, R414): HRSTN is released again where the rails are up; under Internal Tasks return. -/
def execYellowPulseEnd (s : State) : Out :=
  .next (if s.on R.WDT_STATUS_YELLOW_PULSE then
      let s1 := (s.flag R.WDT_STATUS_YELLOW_PULSE false).hrstnFollow
      s1.iff (s1.on R.X_HRST_UP && s1.on R.WDT_STATUS_INTERNAL) State.guardTasks
    else s)

/-- The request being executed is answered INTERNAL_FAULT (R374, R417). [DEDUCED: log 67] -/
def State.internalFault (s : State) : State :=
  match s.requests with
  | r :: rest =>
    let s1 := ({ s with requests := rest }.putReply r.port (frame 0x3F r.tag []) [])
    State.autoServe s1.requests.length s1
  | [] => s

/-- Whether a sequencer holds work (R417): a charge state other than OFF, IDLE and FAULT; a frame, a run or a cycle on the line; a
program, an erase or a store operation of the journal; a request that waits. [DEDUCED: log 67] -/
def State.seqWorks (s : State) (seq : Nat) : Bool :=
  match seq with
  | 0 => s.chg != 0 && s.chg != 1 && s.chg != 0xF
  | 1 => (List.range 2).any (fun p => !s.lineQuiet p || s.on R.X_LINE_LATE p || s.runDue p)
  | 2 => s.journalWork
  | _ => !s.requests.isEmpty

/-- SEQUENCER_SILENT (R417): 0 charge, 1 line, 2 journal, 3 packet interpreter; one without work is not missed.
[DEDUCED: log 67] -/
def execSequencerSilent (seq : Fin 4) (s : State) : Out :=
  .next (if s.asleepDeep || s.on R.X_HELD || s.get R.MODE_STATUS_MODE == 0xB || !s.seqWorks seq then s
    else (s.iff (seq == 3) State.internalFault).seqRestart seq)

/-- SUP_WARN (R421): SYSS, in 10 mV, has stayed below SUP_WARN_V for 10 µs. -/
def execSupWarn (sys : Nat) (s : State) : Out :=
  .next (if s.asleepDeep || s.on R.X_HELD || s.on R.SUP_STATUS_RIDE then s else (s.set R.X_SYSS sys).rideBegin)

/-- RIDE_THROUGH_END (R422): SYSS has stayed 0.30 V above SUP_WARN_V for 1 ms. -/
def execRideThroughEnd (s : State) : Out := .next (if s.on R.SUP_STATUS_RIDE then s.rideEnd else s)

end Sys2Proof.Machine
end

