-- ==== Sys2Proof/Machine/Dispatch.lean ====
section
/-! DEFINITION. One arm per command: each calls its meaning. -/

namespace Sys2Proof.Machine

/-- The effect of a command on everything but the queue. -/
def exec (i : Instr) (s : State) : Host.Outcome State Fault Refusal :=
  match i with
  | .powerOnReset run k sys bats => Sys2Proof.Machine.execPowerOnReset run k sys bats s
  | .deviceRestartReset fail sys bats => Sys2Proof.Machine.execDeviceRestartReset fail sys bats s
  | .hrstnExternalLow => Sys2Proof.Machine.execHrstnExternalLow s
  | .modeEvaluate sys bats => Sys2Proof.Machine.execModeEvaluate sys bats s
  | .uncouple => Sys2Proof.Machine.execUncouple s
  | .graceExpire => Sys2Proof.Machine.execGraceExpire s
  | .harvestDormant idx => Sys2Proof.Machine.execHarvestDormant idx s
  | .harvestRetryEnd idx reached => Sys2Proof.Machine.execHarvestRetryEnd idx reached s
  | .serviceTimeout => Sys2Proof.Machine.execServiceTimeout s
  | .shipDelayExpire => Sys2Proof.Machine.execShipDelayExpire s
  | .shipEntryComplete => Sys2Proof.Machine.execShipEntryComplete s
  | .shipExit byInput exit k sys bats => Sys2Proof.Machine.execShipExit byInput exit k sys bats s
  | .wakeCountDue => Sys2Proof.Machine.execWakeCountDue s
  | .wakenLow => Sys2Proof.Machine.execWakenLow s
  | .fastClockStart => Sys2Proof.Machine.execFastClockStart s
  | .fastClockStop => Sys2Proof.Machine.execFastClockStop s
  | .timeRateCorrection cycles => Sys2Proof.Machine.execTimeRateCorrection cycles s
  | .hourBoundary => Sys2Proof.Machine.execHourBoundary s
  | .awakeHoldEnd => Sys2Proof.Machine.execAwakeHoldEnd s
  | .inputComparatorTrip idx => Sys2Proof.Machine.execInputComparatorTrip idx s
  | .inputPresent idx vbus => Sys2Proof.Machine.execInputPresent idx vbus s
  | .inputPresenceLost idx => Sys2Proof.Machine.execInputPresenceLost idx s
  | .idDecode idx k => Sys2Proof.Machine.execIdDecode idx k s
  | .inputConnect idx vbus => Sys2Proof.Machine.execInputConnect idx vbus s
  | .vbusReached idx v => Sys2Proof.Machine.execVbusReached idx v s
  | .probeStart idx => Sys2Proof.Machine.execProbeStart idx s
  | .probeComplete idx v0 i0 steps lows => Sys2Proof.Machine.execProbeComplete idx v0 i0 steps lows s
  | .signatureWatchComplete idx early mid late => Sys2Proof.Machine.execSignatureWatchComplete idx early mid late s
  | .idRedecode idx k => Sys2Proof.Machine.execIdRedecode idx k s
  | .classHoldExpire idx => Sys2Proof.Machine.execClassHoldExpire idx s
  | .inputOvervoltage idx => Sys2Proof.Machine.execInputOvervoltage idx s
  | .inputOvClear idx vbus => Sys2Proof.Machine.execInputOvClear idx vbus s
  | .reversePolarity e => Sys2Proof.Machine.execReversePolarity e s
  | .fetOpen idx => Sys2Proof.Machine.execFetOpen idx s
  | .tsRelease idx => Sys2Proof.Machine.execTsRelease idx s
  | .tsResume idx vref => Sys2Proof.Machine.execTsResume idx vref s
  | .tsVrefRetake idx vref => Sys2Proof.Machine.execTsVrefRetake idx vref s
  | .reclassify idx => Sys2Proof.Machine.execReclassify idx s
  | .inputEnableWrite idx b => Sys2Proof.Machine.execInputEnableWrite idx b s
  | .allocatorUpdate pin ins vbat ibat sys => Sys2Proof.Machine.execAllocatorUpdate pin ins vbat ibat sys s
  | .poPeriodEnd idx p counted => Sys2Proof.Machine.execPoPeriodEnd idx p counted s
  | .sweepStart idx => Sys2Proof.Machine.execSweepStart idx s
  | .sweepComplete idx voc powers => Sys2Proof.Machine.execSweepComplete idx voc powers s
  | .sweepAbort idx => Sys2Proof.Machine.execSweepAbort idx s
  | .sweepNow idx => Sys2Proof.Machine.execSweepNow idx s
  | .trkWeak idx => Sys2Proof.Machine.execTrkWeak idx s
  | .groupOnDelayEnd g => Sys2Proof.Machine.execGroupOnDelayEnd g s
  | .groupSwitchStart g => Sys2Proof.Machine.execGroupSwitchStart g s
  | .groupOffDelayEnd g => Sys2Proof.Machine.execGroupOffDelayEnd g s
  | .loopEvaluation g vin iin ibat vbat vsys reduced amps sys vbus bats => Sys2Proof.Machine.execLoopEvaluation g vin iin ibat vbat vsys reduced amps sys vbus bats s
  | .tuningComplete g kp ki => Sys2Proof.Machine.execTuningComplete g kp ki s
  | .tuneFail g => Sys2Proof.Machine.execTuneFail g s
  | .retune g => Sys2Proof.Machine.execRetune g s
  | .equalisationUpdate g cur => Sys2Proof.Machine.execEqualisationUpdate g cur s
  | .deadTimeUpdate p edge diode gate fall => Sys2Proof.Machine.execDeadTimeUpdate p edge diode gate fall s
  | .zeroCrossUpdate p diode ring => Sys2Proof.Machine.execZeroCrossUpdate p diode ring s
  | .shedEvaluation g cur de full => Sys2Proof.Machine.execShedEvaluation g cur de full s
  | .burst g ev => Sys2Proof.Machine.execBurst g ev s
  | .bootstrapRefresh p r => Sys2Proof.Machine.execBootstrapRefresh p r s
  | .peakLimit e => Sys2Proof.Machine.execPeakLimit e s
  | .negativeLimit e => Sys2Proof.Machine.execNegativeLimit e s
  | .phaseShort p => Sys2Proof.Machine.execPhaseShort p s
  | .phaseOpen p => Sys2Proof.Machine.execPhaseOpen p s
  | .bootstrapFault p => Sys2Proof.Machine.execBootstrapFault p s
  | .sysOvervoltage => Sys2Proof.Machine.execSysOvervoltage s
  | .sysOvClear => Sys2Proof.Machine.execSysOvClear s
  | .inputUndervoltage g => Sys2Proof.Machine.execInputUndervoltage g s
  | .driveSupplyUv => Sys2Proof.Machine.execDriveSupplyUv s
  | .phRetry p => Sys2Proof.Machine.execPhRetry p s
  | .cnvCfgApply => Sys2Proof.Machine.execCnvCfgApply s
  | .qualifyComplete vq => Sys2Proof.Machine.execQualifyComplete vq s
  | .prechargeComplete v => Sys2Proof.Machine.execPrechargeComplete v s
  | .onPulseEnd ion von => Sys2Proof.Machine.execOnPulseEnd ion von s
  | .restSample k v i1 => Sys2Proof.Machine.execRestSample k v i1 s
  | .restEnd inBand raw amps sat => Sys2Proof.Machine.execRestEnd inBand raw amps sat s
  | .maintainCheck v amps raw sat => Sys2Proof.Machine.execMaintainCheck v amps raw sat s
  | .p3WindowEnd => Sys2Proof.Machine.execP3WindowEnd s
  | .absorbEnd => Sys2Proof.Machine.execAbsorbEnd s
  | .floatRecharge => Sys2Proof.Machine.execFloatRecharge s
  | .equaliseEnd why => Sys2Proof.Machine.execEqualiseEnd why s
  | .safetyTimerTick amps => Sys2Proof.Machine.execSafetyTimerTick amps s
  | .safetyTimeout => Sys2Proof.Machine.execSafetyTimeout s
  | .bmsokRefuse => Sys2Proof.Machine.execBmsokRefuse s
  | .bmsokPermit => Sys2Proof.Machine.execBmsokPermit s
  | .chgProfileWrite word => Sys2Proof.Machine.execChgProfileWrite word s
  | .suspend port tag arg => Sys2Proof.Machine.execSuspend port tag arg s
  | .resume port tag arg => Sys2Proof.Machine.execResume port tag arg s
  | .restart port tag arg => Sys2Proof.Machine.execRestart port tag arg s
  | .equalise port tag key => Sys2Proof.Machine.execEqualise port tag key s
  | .endEqualise port tag arg => Sys2Proof.Machine.execEndEqualise port tag arg s
  | .serviceGroups port tag arg => Sys2Proof.Machine.execServiceGroups port tag arg s
  | .roleEvaluate sys bats ibat high => Sys2Proof.Machine.execRoleEvaluate sys bats ibat high s
  | .connectTimeout => Sys2Proof.Machine.execConnectTimeout s
  | .supplement sysMv batsMv => Sys2Proof.Machine.execSupplement sysMv batsMv s
  | .coldStartAbandon => Sys2Proof.Machine.execColdStartAbandon s
  | .coldStartRetry => Sys2Proof.Machine.execColdStartRetry s
  | .vsuDisable => Sys2Proof.Machine.execVsuDisable s
  | .dischargeOvercurrent => Sys2Proof.Machine.execDischargeOvercurrent s
  | .shortCircuit => Sys2Proof.Machine.execShortCircuit s
  | .retryWaitEnd => Sys2Proof.Machine.execRetryWaitEnd s
  | .tripCountReset => Sys2Proof.Machine.execTripCountReset s
  | .retryNow => Sys2Proof.Machine.execRetryNow s
  | .uvInhibit batsMv => Sys2Proof.Machine.execUvInhibit batsMv s
  | .uvInhibitEnd batsMv => Sys2Proof.Machine.execUvInhibitEnd batsMv s
  | .uvCutoff batsMv => Sys2Proof.Machine.execUvCutoff batsMv s
  | .cutoffComplete => Sys2Proof.Machine.execCutoffComplete s
  | .presenceProbe v0 v1 => Sys2Proof.Machine.execPresenceProbe v0 v1 s
  | .probeNow => Sys2Proof.Machine.execProbeNow s
  | .emptyConnector => Sys2Proof.Machine.execEmptyConnector s
  | .batteryShort batsMv => Sys2Proof.Machine.execBatteryShort batsMv s
  | .batteryRemoval => Sys2Proof.Machine.execBatteryRemoval s
  | .unsupportedSysFall => Sys2Proof.Machine.execUnsupportedSysFall s
  | .vauxInRegulation v a => Sys2Proof.Machine.execVauxInRegulation v a s
  | .vauxOutOfRegulation => Sys2Proof.Machine.execVauxOutOfRegulation s
  | .vauxStop => Sys2Proof.Machine.execVauxStop s
  | .vauxFail => Sys2Proof.Machine.execVauxFail s
  | .vauxOverload => Sys2Proof.Machine.execVauxOverload s
  | .vpreInRegulation v => Sys2Proof.Machine.execVpreInRegulation v s
  | .vpreStop => Sys2Proof.Machine.execVpreStop s
  | .vpreRetry => Sys2Proof.Machine.execVpreRetry s
  | .railOnDelayEnd x => Sys2Proof.Machine.execRailOnDelayEnd x s
  | .railRampEnd x => Sys2Proof.Machine.execRailRampEnd x s
  | .railTuneComplete x dv on jitter again => Sys2Proof.Machine.execRailTuneComplete x dv on jitter again s
  | .railOffDelayEnd x => Sys2Proof.Machine.execRailOffDelayEnd x s
  | .railRampDownEnd x => Sys2Proof.Machine.execRailRampDownEnd x s
  | .railStartFail x => Sys2Proof.Machine.execRailStartFail x s
  | .railHiccupEnd x => Sys2Proof.Machine.execRailHiccupEnd x s
  | .railFailsReset x => Sys2Proof.Machine.execRailFailsReset x s
  | .railOvervoltage x => Sys2Proof.Machine.execRailOvervoltage x s
  | .railSettle e => Sys2Proof.Machine.execRailSettle e s
  | .railPowerEstimate x v a vpv cycles de burst preV preI hold => Sys2Proof.Machine.execRailPowerEstimate x v a vpv cycles de burst preV preI hold s
  | .rclSetVid rail data parity => Sys2Proof.Machine.execRclSetVid rail data parity s
  | .rclSetSlew rail data parity => Sys2Proof.Machine.execRclSetSlew rail data parity s
  | .rclSetState rail data parity => Sys2Proof.Machine.execRclSetState rail data parity s
  | .rclGetVidTarget rail data parity => Sys2Proof.Machine.execRclGetVidTarget rail data parity s
  | .rclGetVidActual rail data parity => Sys2Proof.Machine.execRclGetVidActual rail data parity s
  | .rclGetStatus rail data parity => Sys2Proof.Machine.execRclGetStatus rail data parity s
  | .rclGetPower rail data parity => Sys2Proof.Machine.execRclGetPower rail data parity s
  | .rclClearAlert rail data parity => Sys2Proof.Machine.execRclClearAlert rail data parity s
  | .rclSetVidFast rail data parity => Sys2Proof.Machine.execRclSetVidFast rail data parity s
  | .rclFrameAbandon => Sys2Proof.Machine.execRclFrameAbandon s
  | .railControlSetVid port tag rail arg => Sys2Proof.Machine.execRailControlSetVid port tag rail arg s
  | .railControlSetSlew port tag rail arg => Sys2Proof.Machine.execRailControlSetSlew port tag rail arg s
  | .railControlSetState port tag rail arg => Sys2Proof.Machine.execRailControlSetState port tag rail arg s
  | .railControlClearAlert port tag rail arg => Sys2Proof.Machine.execRailControlClearAlert port tag rail arg s
  | .railControlSetVidFast port tag rail arg => Sys2Proof.Machine.execRailControlSetVidFast port tag rail arg s
  | .adcReferenceFail bad => Sys2Proof.Machine.execAdcReferenceFail bad s
  | .ccResult raw => Sys2Proof.Machine.execCcResult raw s
  | .ledgerUpdate bus ibat vin iin lineV lineI auxV auxI => Sys2Proof.Machine.execLedgerUpdate bus ibat vin iin lineV lineI auxV auxI s
  | .clearCounters => Sys2Proof.Machine.execClearCounters s
  | .snapshotNow => Sys2Proof.Machine.execSnapshotNow s
  | .eRemWrite v => Sys2Proof.Machine.execERemWrite v s
  | .epochWrite v => Sys2Proof.Machine.execEpochWrite v s
  | .portRiseComplete p => Sys2Proof.Machine.execPortRiseComplete p s
  | .portBootWaitEnd p => Sys2Proof.Machine.execPortBootWaitEnd p s
  | .portToKeepAlive p power => Sys2Proof.Machine.execPortToKeepAlive p power s
  | .lineCycleStart p => Sys2Proof.Machine.execLineCycleStart p s
  | .pollReply p status payload sync amp => Sys2Proof.Machine.execPollReply p status payload sync amp s
  | .replyTimeout p => Sys2Proof.Machine.execReplyTimeout p s
  | .frameRetry p => Sys2Proof.Machine.execFrameRetry p s
  | .enumerationRunStart p => Sys2Proof.Machine.execEnumerationRunStart p s
  | .idwalkComplete p seen id => Sys2Proof.Machine.execIdwalkComplete p seen id s
  | .assignReply p status fmt mask => Sys2Proof.Machine.execAssignReply p status fmt mask s
  | .configReply p status amp => Sys2Proof.Machine.execConfigReply p status amp s
  | .discoveryDue p => Sys2Proof.Machine.execDiscoveryDue p s
  | .portShort p => Sys2Proof.Machine.execPortShort p s
  | .portRetryEnd p => Sys2Proof.Machine.execPortRetryEnd p s
  | .keepAliveOverload p => Sys2Proof.Machine.execKeepAliveOverload p s
  | .slotEnableWrite n b => Sys2Proof.Machine.execSlotEnableWrite n b s
  | .portOn port tag mask others => Sys2Proof.Machine.execPortOn port tag mask others s
  | .portOff port tag mask others => Sys2Proof.Machine.execPortOff port tag mask others s
  | .enumerate port tag mask others => Sys2Proof.Machine.execEnumerate port tag mask others s
  | .releaseSlot port tag slot others => Sys2Proof.Machine.execReleaseSlot port tag slot others s
  | .configNode port tag slot id value => Sys2Proof.Machine.execConfigNode port tag slot id value s
  | .nodeInfo port tag slot => Sys2Proof.Machine.execNodeInfo port tag slot s
  | .recordOffer type source time unsynced derived payload => Sys2Proof.Machine.execRecordOffer type source time unsynced derived payload s
  | .refusalSummaryDue q => Sys2Proof.Machine.execRefusalSummaryDue q s
  | .sectorProgramStart => Sys2Proof.Machine.execSectorProgramStart s
  | .sectorProgramComplete fail => Sys2Proof.Machine.execSectorProgramComplete fail s
  | .greenFillTimeout => Sys2Proof.Machine.execGreenFillTimeout s
  | .eraseSliceStart => Sys2Proof.Machine.execEraseSliceStart s
  | .eraseComplete fail => Sys2Proof.Machine.execEraseComplete fail s
  | .queueCapApply q => Sys2Proof.Machine.execQueueCapApply q s
  | .resetBase idx => Sys2Proof.Machine.execResetBase idx s
  | .resetWindow idx => Sys2Proof.Machine.execResetWindow idx s
  | .clearAlarms idx => Sys2Proof.Machine.execClearAlarms idx s
  | .resetTrackerAll idx => Sys2Proof.Machine.execResetTrackerAll idx s
  | .storeProgramComplete fail => Sys2Proof.Machine.execStoreProgramComplete fail s
  | .cfgSwitch => Sys2Proof.Machine.execCfgSwitch s
  | .trialExpire => Sys2Proof.Machine.execTrialExpire s
  | .twWriteRequest bytes => Sys2Proof.Machine.execTwWriteRequest bytes s
  | .twReadReply n stop => Sys2Proof.Machine.execTwReadReply n stop s
  | .twPointerReset => Sys2Proof.Machine.execTwPointerReset s
  | .twAddressNack => Sys2Proof.Machine.execTwAddressNack s
  | .sclTimeout inRequest tag => Sys2Proof.Machine.execSclTimeout inRequest tag s
  | .sdaStuck freed => Sys2Proof.Machine.execSdaStuck freed s
  | .busClearRetry freed => Sys2Proof.Machine.execBusClearRetry freed s
  | .hostNotifyAttempt ok => Sys2Proof.Machine.execHostNotifyAttempt ok s
  | .hrstnRelease => Sys2Proof.Machine.execHrstnRelease s
  | .writePacket bytes odd vddio => Sys2Proof.Machine.execWritePacket bytes odd vddio s
  | .readReply n vddio => Sys2Proof.Machine.execReadReply n vddio s
  | .readStatus vddio => Sys2Proof.Machine.execReadStatus vddio s
  | .rewind vddio => Sys2Proof.Machine.execRewind vddio s
  | .bulkInvalidInstruction vddio => Sys2Proof.Machine.execBulkInvalidInstruction vddio s
  | .ping port tag bytes => Sys2Proof.Machine.execPing port tag bytes s
  | .readParam port tag addr count => Sys2Proof.Machine.execReadParam port tag addr count s
  | .writeParam port tag addr words => Sys2Proof.Machine.execWriteParam port tag addr words s
  | .modifyParam port tag addr mask value => Sys2Proof.Machine.execModifyParam port tag addr mask value s
  | .readFaults port tag => Sys2Proof.Machine.execReadFaults port tag s
  | .enterShip port tag key waken => Sys2Proof.Machine.execEnterShip port tag key waken s
  | .enterService port tag key => Sys2Proof.Machine.execEnterService port tag key s
  | .leaveService port tag key => Sys2Proof.Machine.execLeaveService port tag key s
  | .endGrace port tag key => Sys2Proof.Machine.execEndGrace port tag key s
  | .queuePop port tag q most => Sys2Proof.Machine.execQueuePop port tag q most s
  | .queuePeek port tag q most => Sys2Proof.Machine.execQueuePeek port tag q most s
  | .queueStatus port tag => Sys2Proof.Machine.execQueueStatus port tag s
  | .journalRead port tag first max_ corr most lost uncorr => Sys2Proof.Machine.execJournalRead port tag first max_ corr most lost uncorr s
  | .journalMark port tag bytes => Sys2Proof.Machine.execJournalMark port tag bytes s
  | .cfgStageWrite port tag flags off data => Sys2Proof.Machine.execCfgStageWrite port tag flags off data s
  | .cfgVerify port tag => Sys2Proof.Machine.execCfgVerify port tag s
  | .cfgCommit port tag flags period key version => Sys2Proof.Machine.execCfgCommit port tag flags period key version s
  | .cfgConfirm port tag => Sys2Proof.Machine.execCfgConfirm port tag s
  | .cfgRevert port tag key => Sys2Proof.Machine.execCfgRevert port tag key s
  | .cfgInfo port tag => Sys2Proof.Machine.execCfgInfo port tag s
  | .wdtCheckin port tag task => Sys2Proof.Machine.execWdtCheckin port tag task s
  | .selftestRun port tag mask => Sys2Proof.Machine.execSelftestRun port tag mask s
  | .selftestStop port tag mask => Sys2Proof.Machine.execSelftestStop port tag mask s
  | .otpProgram port tag key index value => Sys2Proof.Machine.execOtpProgram port tag key index value s
  | .otpProgramDone failed => Sys2Proof.Machine.execOtpProgramDone failed s
  | .ledgerRead port tag => Sys2Proof.Machine.execLedgerRead port tag s
  | .recover port tag key => Sys2Proof.Machine.execRecover port tag key s
  | .deviceRestart port tag key => Sys2Proof.Machine.execDeviceRestart port tag key s
  | .wdtKey key => Sys2Proof.Machine.execWdtKey key s
  | .wdtDisableSequence => Sys2Proof.Machine.execWdtDisableSequence s
  | .wdtEnable => Sys2Proof.Machine.execWdtEnable s
  | .wdtLockSet => Sys2Proof.Machine.execWdtLockSet s
  | .wdtExpire => Sys2Proof.Machine.execWdtExpire s
  | .wdtInternalService => Sys2Proof.Machine.execWdtInternalService s
  | .yellowPulseEnd => Sys2Proof.Machine.execYellowPulseEnd s
  | .sequencerSilent seq => Sys2Proof.Machine.execSequencerSilent seq s
  | .supWarn sys => Sys2Proof.Machine.execSupWarn sys s
  | .rideThroughEnd => Sys2Proof.Machine.execRideThroughEnd s
  | .dieReading t t2 => Sys2Proof.Machine.execDieReading t t2 s
  | .journalPowerOff => Sys2Proof.Machine.execJournalPowerOff s
  | .thermistorReading x k ref => Sys2Proof.Machine.execThermistorReading x k ref s
  | .foldbackUpdate => Sys2Proof.Machine.execFoldbackUpdate s
  | .fbHoldEnd n => Sys2Proof.Machine.execFbHoldEnd n s
  | .fbClear => Sys2Proof.Machine.execFbClear s
  | .bistSliceStart ahead => Sys2Proof.Machine.execBistSliceStart ahead s
  | .bistSliceEnd match_ => Sys2Proof.Machine.execBistSliceEnd match_ s
  | .vaoBelowReset loss => Sys2Proof.Machine.execVaoBelowReset loss s
  | .retainedSramLost => Sys2Proof.Machine.execRetainedSramLost s
  | .presenceDebounceAbort idx => Sys2Proof.Machine.execPresenceDebounceAbort idx s
  | .inputUvClear g => Sys2Proof.Machine.execInputUvClear g s
  | .driveSupplyClear => Sys2Proof.Machine.execDriveSupplyClear s
  | .vauxRetry => Sys2Proof.Machine.execVauxRetry s
  | .vpreOnDelayEnd => Sys2Proof.Machine.execVpreOnDelayEnd s
  | .vpreFail => Sys2Proof.Machine.execVpreFail s
  | .vpreHiccupEnd => Sys2Proof.Machine.execVpreHiccupEnd s
  | .portSettleEnd p => Sys2Proof.Machine.execPortSettleEnd p s
  | .eraseSliceEnd => Sys2Proof.Machine.execEraseSliceEnd s
  | .rclReservedCommand rail cmd data parity => Sys2Proof.Machine.execRclReservedCommand rail cmd data parity s

end Sys2Proof.Machine
end

