-- ==== Sys2Proof/Machine/Step.lean ====
section
/-! DEFINITION. One step: the command at the front of the queue, or one LPO tick where none waits. -/

namespace Sys2Proof.Machine

/-- One step. [DESIGN CHOICE: log 2, 7] -/
def step (s : State) : Host.Outcome State Fault Refusal :=
  match s.pending with
  | c :: rest => exec c { s with pending := rest }
  | [] => .next s.tick

/-- Put the command that a table word spells at the front of the queue; unchanged where the word spells none.
[DEDUCED: log 3] -/
def State.withFetchWord (s : State) (nbits w : Nat) : State :=
  match decodeTableWord nbits w with
  | some c => { s with pending := c :: s.pending }
  | none => s

end Sys2Proof.Machine
end

