-- ==== Sys2Proof/Safety.lean ====
section
/-! DEFINITION. The terms in which claims are stated: the canonical form of the register file and of the staging buffer, the
parts of a state, and what it means that a part is as before. -/

namespace Sys2Proof.Machine

/-- The keys of a register file rise strictly, from above `k` where one is given. -/
def risingFrom : Option Nat → FieldFile → Bool
  | _, [] => true
  | none, (a, _) :: t => risingFrom (some a) t
  | some k, (a, _) :: t => decide (k < a) && risingFrom (some a) t

/-- The canonical form of the register file: keys strictly rising. -/
def FieldFile.wf (f : FieldFile) : Bool := risingFrom none f

/-- The canonical form of the staging buffer, from offset `k` on: offsets strictly rising, no byte 0xFF listed. -/
def stagedFrom : Option Nat → List (Nat × Byte) → Bool
  | _, [] => true
  | none, (a, b) :: t => b != 0xFF && stagedFrom (some a) t
  | some k, (a, b) :: t => decide (k < a) && b != 0xFF && stagedFrom (some a) t

/-- The canonical form of the staging buffer (R389): equal contents are equal lists. -/
def stagingWf (l : List (Nat × Byte)) : Bool := stagedFrom none l

/-- A state in canonical form. -/
def State.wf (s : State) : Bool := FieldFile.wf s.fields && stagingWf s.staging

/-- A command answers a next state of which `P` holds. -/
def Gives (o : Host.Outcome State Fault Refusal) (P : State → Prop) : Prop := ∃ t, o = .next t ∧ P t

/-- A port takes part in transactions (R354, R356, R362). -/
def State.answering (s : State) (p : PortId) : Bool :=
  match p with
  | .tw => s.twLive
  | .qb => s.qbLive

/-- A port takes part in transactions, no request waits, and no mode refuses an opcode as such (R354, R356, R373, R448). -/
def State.free (s : State) (p : PortId) : Bool :=
  s.answering p &&
    s.requests.isEmpty && !s.safeState && !s.on R.MODE_STATUS_THERM_ACTIVE && !s.on R.X_P0_ONLY

/-- The state in which the interpreter finds a request that comes on a free port (R353, R355, R356). -/
def State.heard (s : State) (p : PortId) : State :=
  match p with
  | .tw => s.awake.dropReply .tw
  | .qb => ((s.abortSlice 0x01).awake).dropReply .qb

/-- A port holds the reply with a status, a TAG and data (R369). -/
abbrev State.replied (s : State) (p : PortId) (status : Nat) (tag : Byte) (data : List Byte) : Prop :=
  (s.port p).reply.map Reply.bytes = some (frame status tag.toNat data)

/-! ### Terms of single statements -/

/-- The state in which classification restarts (R79, R83): DISABLED, SETTLE of a present input, else DEBOUNCE or ABSENT. -/
def State.restartState (s : State) (i : Nat) : Nat :=
  if !s.enabled i then 9 else if s.present i then 2 else if s.on R.X_DEBOUNCE i then 1 else 0

/-- The class that an input takes where classification finds `c` (R90, R91): UK for a class that its mask forbids, and for a second
TP. -/
def State.decided (s : State) (i c : Nat) : Nat :=
  if 1 ≤ c ∧ c ≤ 5 ∧ !s.bit R.INn_MASK (c - 1) i then 6
  else if c = 1 ∧ (List.range 4).any (fun j => j != i && s.cls j == 1) then 6
  else c

/-- The state of an input that has just taken class `d` (R78, R92): CLASSIFIED; where it has gone meanwhile, HELD for a class with
a hold. -/
def State.decidedState (s : State) (i d : Nat) : Nat :=
  if s.present i then 7 else if s.holdTicks d = 0 then (if s.on R.X_DEBOUNCE i then 1 else 0) else 8

/-- The class that such an input keeps: none where it has gone and the class has no hold (R92). -/
def State.decidedClass (s : State) (i d : Nat) : Nat := if s.present i ∨ s.holdTicks d ≠ 0 then d else 0

/-- The sum of the currents that a sample gives the active phases of a group (R143, R147). -/
def State.sampledSum (s : State) (g : Nat) (cur : List Int) : Int := ((s.active g).map (fun p => cur.getD p 0)).sum

/-- The counts of consecutive shed evaluations below 15 % and above 30 % with a sample counted in (R147). -/
def State.lowCount (s : State) (g : Nat) (cur : List Int) : Nat :=
  if 100 * s.sampledSum g cur < 15 * (s.get R.CNV_PH_IMAX * (s.active g).length : Nat) then min (s.get R.X_SHED_LOW g + 1) 8 else 0
def State.highCount (s : State) (g : Nat) (cur : List Int) : Nat :=
  if 30 * ((s.get R.CNV_PH_IMAX * (s.active g).length : Nat) : Int) < 100 * s.sampledSum g cur then
    min (s.get R.X_SHED_HIGH g + 1) 2 else 0

/-- Whether the trims of a group are free to move on a sample (R143). -/
def State.trimsFree (s : State) (g : Nat) (cur : List Int) : Bool :=
  s.gstate g == 3 && 2 ≤ (s.active g).length && !s.on R.CNV_Gg_STAT_BURST g && !s.on R.X_TUNING g && s.get R.X_EQ_HOLD g == 0 &&
    decide (((s.get R.CNV_PH_IMAX * (s.active g).length : Nat) : Int) < 5 * s.sampledSum g cur)

/-- The shares of the demand that the groups get, and what is left (R114). -/
def State.shares (s : State) (pin ins : Quad) (vbat ibat : Int) : List (Nat × Nat) × Nat :=
  split (fun i => s.capability i (pin.at i) (ins.at i)) (s.ordered.filter s.allowed) (s.demandD pin vbat ibat).toNat

/-- The step upward of a ceiling in one update (R119, R120). -/
def State.riseStep (s : State) : Nat := if s.supplements then s.edgeStep else 2000

/-- What the samples of a rest give (R170): R_ohm, ρ and V_pol. -/
def State.restFigures (s : State) : Nat × Nat × Nat :=
  restMath (s.get R.X_VON) (s.get R.X_SAMPLE 0) (s.get R.X_SAMPLE 1) (s.get R.X_SAMPLE 2) (s.getS R.X_ION) (s.getS R.X_I1)

/-- Whether a rest that ends is valid (R168): not cut by Ride-Through, in its band, a pulse of 1 A or more, a relaxation. -/
def State.restValid (s : State) (inBand : Bool) : Bool :=
  let v1 : Int := s.get R.X_SAMPLE 0
  let v2 : Int := s.get R.X_SAMPLE 1
  !s.on R.X_REST_RIDE && inBand && decide (40 ≤ s.getS R.X_ION - s.getS R.X_I1) &&
    decide (0 < v1 - v2 + max (v2 - s.get R.X_SAMPLE 2) 0)

/-- The on state and the termination count that a valid rest decides (R171, R176). -/
def State.restDecision (s : State) : Nat × Nat :=
  termination s.chg (s.get R.CHG_TERM_CNT) (decide (s.getS R.X_ION ≤ (s.get R.CHG_I_TERM : Int)))
    (decide (2 * (s.get R.CHG_I_TERM : Int) < s.getS R.X_ION))
    (decide (s.cells * s.get R.CHG_V_FULL_REST ≤ s.get R.X_SAMPLE 2))

/-- The state after an on state is due (R167, R183): the on state, or its rest state while a hold stands. -/
def State.pulseState (s : State) (st : Nat) : Nat := if s.holding then st + 1 else st

/-- The remainder of a bit string, first bit first, on division by x^8 + x^2 + x + 1 (polynomial 0x07 of R370). -/
def polyRem (bits : List Bool) : Nat :=
  bits.foldl (fun r b => if 2 * r + b.toNat < 256 then 2 * r + b.toNat else (2 * r + b.toNat) ^^^ 0x107) 0

/-- The bits of bytes, each byte's most significant bit first. -/
def bitString (bs : List Byte) : List Bool := bs.flatMap (fun b => (List.range 8).map (fun k => b.getLsbD (7 - k)))

/-- The CRC-8 of R370 as long division: the remainder of the bits followed by eight zeros. -/
def longCrc (bs : List Byte) : Nat := polyRem (bitString bs ++ List.replicate 8 false)

/-- The bits of DEV_FAULT_SUM, each with the FAULT registers of its block (R45; R155, R317 and R344 for the second ones). -/
def faultMap : List (Nat × List Nat) :=
  [(0, [0x0200]), (1, [0x0300]), (2, [0x0400, 0x0401]), (3, [0x0500]), (4, [0x0600]), (5, [0x0700]), (6, [0x0800]),
   (7, [0x0900]), (8, [0x0A00]), (9, [0x0B00, 0x0B01]), (10, [0x0C00, 0x0C40]), (11, [0x0D00]), (12, [0x0E02]),
   (13, [0x0F00]), (14, [0x1000])]

/-- The status codes of R374. -/
def statusCodes : List Nat :=
  [0x00, 0x01, 0x02, 0x10, 0x11, 0x12, 0x13, 0x14, 0x15, 0x16, 0x17, 0x18, 0x20, 0x21, 0x30, 0x31, 0x3F]

/-- A held reply carries a status code of R374. -/
def Port.listed (p : Port) : Bool :=
  p.reply.all (fun r => statusCodes.any (fun c => r.bytes.head? == some (BitVec.ofNat 8 c)))

/-- Every held reply carries a status code of R374, and so will the answer of every waiting request that this model answers
without a command of its own. -/
def State.statusesListed (s : State) : Bool :=
  s.tw.listed && s.qb.listed && s.requests.all (fun r => decide (r.opcode < 256) || statusCodes.contains (r.opcode - 256))

/-- The mode and the previous mode are codes of R48. -/
def State.modesLegal (s : State) : Bool := decide (s.get R.MODE_STATUS_MODE ≤ 0xB) && decide (s.get R.MODE_STATUS_PREV ≤ 0xB)

/-- The request that a host command stands for: its port, its opcode with the TAG, and its parameter bytes (R375). -/
def requestOf (c : Instr) : Option Request :=
  match c with
  | .suspend port tag arg => some ⟨port, 0x18, tag.toNat, le 1 1 ++ le 2 arg⟩
  | .resume port tag arg => some ⟨port, 0x18, tag.toNat, le 1 2 ++ le 2 arg⟩
  | .restart port tag arg => some ⟨port, 0x18, tag.toNat, le 1 3 ++ le 2 arg⟩
  | .equalise port tag key => some ⟨port, 0x18, tag.toNat, le 1 4 ++ le 2 key⟩
  | .endEqualise port tag arg => some ⟨port, 0x18, tag.toNat, le 1 5 ++ le 2 arg⟩
  | .serviceGroups port tag arg => some ⟨port, 0x18, tag.toNat, le 1 6 ++ le 2 arg⟩
  | .railControlSetVid port tag rail arg => some ⟨port, 0x1C, tag.toNat, le 1 rail ++ le 1 1 ++ le 2 arg⟩
  | .railControlSetSlew port tag rail arg => some ⟨port, 0x1C, tag.toNat, le 1 rail ++ le 1 2 ++ le 2 arg⟩
  | .railControlSetState port tag rail arg => some ⟨port, 0x1C, tag.toNat, le 1 rail ++ le 1 3 ++ le 2 arg⟩
  | .railControlClearAlert port tag rail arg => some ⟨port, 0x1C, tag.toNat, le 1 rail ++ le 1 4 ++ le 2 arg⟩
  | .railControlSetVidFast port tag rail arg => some ⟨port, 0x1C, tag.toNat, le 1 rail ++ le 1 5 ++ le 2 arg⟩
  | .portOn port tag mask others => some ⟨port, 0x20, tag.toNat, le 1 1 ++ le 1 mask ++ le 3 others⟩
  | .portOff port tag mask others => some ⟨port, 0x20, tag.toNat, le 1 2 ++ le 1 mask ++ le 3 others⟩
  | .enumerate port tag mask others => some ⟨port, 0x20, tag.toNat, le 1 3 ++ le 1 mask ++ le 3 others⟩
  | .releaseSlot port tag slot others => some ⟨port, 0x20, tag.toNat, le 1 4 ++ le 1 slot ++ le 3 others⟩
  | .configNode port tag slot id value => some ⟨port, 0x20, tag.toNat, le 1 5 ++ le 1 slot ++ le 1 id ++ le 2 value⟩
  | .nodeInfo port tag slot => some ⟨port, 0x24, tag.toNat, le 1 slot⟩
  | .ping port tag bytes => some ⟨port, 0x01, tag.toNat, bytes⟩
  | .readParam port tag addr count => some ⟨port, 0x02, tag.toNat, le 2 addr ++ le 1 count⟩
  | .writeParam port tag addr words => some ⟨port, 0x03, tag.toNat, le 2 addr ++ (words.map (fun w => le 2 w.val)).flatten⟩
  | .modifyParam port tag addr mask value => some ⟨port, 0x04, tag.toNat, le 2 addr ++ le 2 mask ++ le 2 value⟩
  | .readFaults port tag => some ⟨port, 0x08, tag.toNat, []⟩
  | .enterShip port tag key _ => some ⟨port, 0x10, tag.toNat, le 1 1 ++ le 2 key⟩
  | .enterService port tag key => some ⟨port, 0x10, tag.toNat, le 1 2 ++ le 2 key⟩
  | .leaveService port tag key => some ⟨port, 0x10, tag.toNat, le 1 3 ++ le 2 key⟩
  | .endGrace port tag key => some ⟨port, 0x10, tag.toNat, le 1 4 ++ le 2 key⟩
  | .queuePop port tag q most => some ⟨port, 0x30, tag.toNat, le 1 q ++ le 1 most⟩
  | .queuePeek port tag q most => some ⟨port, 0x31, tag.toNat, le 1 q ++ le 1 most⟩
  | .queueStatus port tag => some ⟨port, 0x32, tag.toNat, []⟩
  | .journalRead port tag first max_ _ _ _ _ => some ⟨port, 0x38, tag.toNat, le 4 first ++ le 2 max_⟩
  | .journalMark port tag bytes => some ⟨port, 0x39, tag.toNat, bytes⟩
  | .cfgStageWrite port tag flags off data => some ⟨port, 0x40, tag.toNat, le 1 flags ++ le 2 off ++ data⟩
  | .cfgVerify port tag => some ⟨port, 0x41, tag.toNat, []⟩
  | .cfgCommit port tag flags period key version => some ⟨port, 0x42, tag.toNat, le 1 flags ++ le 1 period ++ le 2 key ++ le 4 version⟩
  | .cfgConfirm port tag => some ⟨port, 0x43, tag.toNat, []⟩
  | .cfgRevert port tag key => some ⟨port, 0x44, tag.toNat, le 2 key⟩
  | .cfgInfo port tag => some ⟨port, 0x45, tag.toNat, []⟩
  | .wdtCheckin port tag task => some ⟨port, 0x50, tag.toNat, le 1 task⟩
  | .selftestRun port tag mask => some ⟨port, 0x60, tag.toNat, le 1 1 ++ le 1 mask⟩
  | .selftestStop port tag mask => some ⟨port, 0x60, tag.toNat, le 1 2 ++ le 1 mask⟩
  | .otpProgram port tag key index value => some ⟨port, 0x68, tag.toNat, le 2 key ++ le 1 index ++ le 2 value⟩
  | .ledgerRead port tag => some ⟨port, 0x70, tag.toNat, []⟩
  | .recover port tag key => some ⟨port, 0x7E, tag.toNat, le 2 key⟩
  | .deviceRestart port tag key => some ⟨port, 0x7F, tag.toNat, le 2 key⟩
  | _ => none

/-- The commands that start the device again from its reset values: a power-on reset, and the loss of supply before it. -/
def startsOver (c : Instr) : Bool :=
  match c with
  | .powerOnReset .. | .vaoBelowReset .. => true
  | _ => false

/-- The commands that may change the mode: the evaluation of R49, the Ship sequences, the starts and the loss of supply. -/
def changesMode (c : Instr) : Bool :=
  match c with
  | .modeEvaluate .. | .shipEntryComplete | .shipExit .. | .deviceRestartReset .. => true
  | c => startsOver c

/-- The commands that may change the configuration copies: the end of a program or an erase of a store, or the end of the die's
work that completes one. -/
def writesCopies (c : Instr) : Bool :=
  match c with
  | .eraseComplete .. | .storeProgramComplete .. | .journalPowerOff => true
  | _ => false

/-- The commands that may change the journal ring: the end of a program or an erase, and the sequences that complete one. -/
def writesRing (c : Instr) : Bool :=
  match c with
  | .eraseComplete .. | .sectorProgramComplete .. | .journalPowerOff | .shipEntryComplete | .shipExit .. => true
  | c => startsOver c

/-- The commands that may mark a block of the ring bad. -/
def marksBad (c : Instr) : Bool :=
  match c with
  | .eraseComplete .. | .sectorProgramComplete .. | .storeProgramComplete .. | .journalPowerOff => true
  | .powerOnReset .. | .shipExit .. => true
  | _ => false

/-- The components of a state beside the register file. -/
inductive Comp where
  | slots | held | latched | ring | ahead | grownBad | table6 | table7 | factoryBad | retained | retainedOld | program | erase | copies
  | storeOps | loaded | target | staging | tw | qb | driven | requests | pending
  deriving DecidableEq, Repr

/-- A component is as before. -/
def Comp.same (c : Comp) (s t : State) : Prop :=
  match c with
  | .slots => t.slots = s.slots
  | .held => t.held = s.held
  | .latched => t.latched = s.latched
  | .ring => t.ring = s.ring
  | .ahead => t.ahead = s.ahead
  | .grownBad => t.grownBad = s.grownBad
  | .table6 => t.table6 = s.table6
  | .table7 => t.table7 = s.table7
  | .factoryBad => t.factoryBad = s.factoryBad
  | .retained => t.retained = s.retained
  | .retainedOld => t.retainedOld = s.retainedOld
  | .program => t.program = s.program
  | .erase => t.erase = s.erase
  | .copies => t.copies = s.copies
  | .storeOps => t.storeOps = s.storeOps
  | .loaded => t.loaded = s.loaded
  | .target => t.target = s.target
  | .staging => t.staging = s.staging
  | .tw => t.tw = s.tw
  | .qb => t.qb = s.qb
  | .driven => t.driven = s.driven
  | .requests => t.requests = s.requests
  | .pending => t.pending = s.pending

/-- What can be as before in a state: the value stored under a key of the register file, a component, or that the register file,
or the staging buffer, is in its canonical form. -/
inductive Part where
  | key (k : Nat)
  | comp (c : Comp)
  | fileOrder
  | stageOrder
  deriving DecidableEq, Repr

/-- A part of `s` is as before in `t`; a canonical form is kept. -/
def Part.same (p : Part) (s t : State) : Prop :=
  match p with
  | .key k => lookKey k t.fields = lookKey k s.fields
  | .comp c => c.same s t
  | .fileOrder => FieldFile.wf s.fields = true → FieldFile.wf t.fields = true
  | .stageOrder => stagingWf s.staging = true → stagingWf t.staging = true

/-- Whether no index of a field has the key `k`. -/
def Reg.off (r : Reg) (k : Nat) : Bool :=
  r.count != 0 && (decide (k < r.lo) || (k - r.lo) % 16 != 0 ||
    (let a := (k - r.lo) / 16
     decide (a < r.base) || (a - r.base) % r.stride != 0 || decide (r.count ≤ (a - r.base) / r.stride)))

/-- Stored fields that some operations may change as a whole: those that a loss of supply or a device restart resets, those of
the configuration, of words a host may write, of read-clear words, and of OTP. -/
inductive Scope where
  | cold | restart | image | writes | reads | otp
  deriving DecidableEq, Repr

/-- The fields of more than one word. -/
def wideRegs : List Reg := allRegs.filter (fun r => 16 < r.width)

/-- Whether the field stored under a key may lie in a word that a test accepts: one of more than one word has four at most. -/
def near (f : Nat → Bool) (k : Nat) : Bool :=
  f (k / 16) || (wideRegs.any (fun r => !r.off k) && (List.range 4).any (fun j => f (k / 16 + j)))

/-- The words of a scope. -/
def Scope.word (z : Scope) (a : Nat) : Bool :=
  match z with
  | .cold => false
  | .restart => false
  | .image => imageWord a
  | .writes => defined a && writable a
  | .reads => accessOf a == .rc
  | .otp => decide (0x1100 ≤ a ∧ a < 0x1200)

/-- Whether a scope takes in the field stored under a key. -/
def Scope.has (z : Scope) (k : Nat) : Bool :=
  match z with
  | .cold => !(clsOfKey k == .otp || clsOfKey k == .nv)
  | .restart => !keptAtRestart k
  | .image => clsOfKey k == .cfg || near (Scope.word .image) k
  | z => near z.word k

/-- One thing that an operation may change: a field at any index, a component, or the fields of a scope. -/
inductive Touch where
  | reg (r : Reg)
  | comp (c : Comp)
  | within (z : Scope)
  deriving DecidableEq, Repr

/-- Whether a change leaves a part as before. -/
def Touch.off (w : Touch) (p : Part) : Bool :=
  match w, p with
  | .reg r, .key k => r.off k
  | .within z, .key k => !z.has k
  | .comp c, .comp d => c != d
  | _, _ => true

/-- Whether every change of a list leaves a part as before. -/
def keeps (l : List Touch) (p : Part) : Bool := l.all (fun w => w.off p)

end Sys2Proof.Machine
end

