-- ==== Sys2Proof/Safety/Foot.lean ====
section
/-! DEFINITION. What each operation and each command may change: the fields it writes, the components it updates, and what the
operations that it is written over may change. -/

namespace Sys2Proof.Machine

/-- Changes of fields and of components, and the changes of other operations. -/
def touches (regs : List Reg) (comps : List Comp) (more : List (List Touch)) : List Touch :=
  regs.map Touch.reg ++ comps.map Touch.comp ++ more.flatten

def Foot.sysFollow : List Touch := touches [R.PP_SYS_TARGET, R.CNV_SYS_OV_TRIP] [] []
def Foot.chgTargets : List Touch := touches [R.CHG_STATUS_HOLD, R.CHG_V_LIMIT, R.CHG_STATUS_FOLDBACK, R.CHG_STATUS_WARM_BAND,
    R.CHG_STATUS_COLD_BAND, R.CHG_STATUS_TIMERS_RUN] [] [Foot.sysFollow]
def Foot.abortSlice : List Touch := touches [R.BIST_Pp_PROG_LAST, R.BIST_Pp_ABORTS, R.BIST_STATUS_RUNNING] [] []
def Foot.toOnDelay : List Touch := touches [R.X_BOOT, R.CNV_Gg_STAT_STATE] [] []
def Foot.endP3Window : List Touch := touches [R.BIST_STATUS_P3_WINDOW] [] [Foot.abortSlice, Foot.toOnDelay]
def Foot.needP3 : List Touch := touches [] [] [Foot.endP3Window, Foot.abortSlice]
def Foot.chgSet : List Touch := touches [R.CHG_STATUS_STATE, R.X_PRE_S, R.X_MAINT_LOW, R.X_PULSE_OVER, R.X_TO_IDLE,
    R.X_CHG_WAIT, R.X_PULSE, R.X_CHG_PP] [] [Foot.needP3, Foot.chgTargets]
def Foot.restStore : List Touch := touches [R.CHG_REST_V] [] []
def Foot.cutRest : List Touch := touches [R.CHG_REST_INVALID] [] [Foot.restStore]
def Foot.suspendErase : List Touch := touches [R.JNL_STATUS_SUSPENDED] [.erase] []
def Foot.evict : List Touch := touches [R.Qq_EVICTED] [.slots] []
def Foot.saveRetained : List Touch := touches [] [.retained, .retainedOld] []
def Foot.notify : List Touch := touches [R.X_NOTIFY_TRIES, R.HIF_STATUS_NOTIFY_BUSY, R.X_NOTIFY_RED] [] []
def Foot.cause : List Touch := touches [R.X_CAUSES] [] [Foot.abortSlice]
def Foot.startGrace : List Touch := touches [R.X_GRACE_END, R.MODE_STATUS_GRACE] [] []
def Foot.dieFollow : List Touch := touches [R.JNL_STATUS_DIE_ON] [] []
def Foot.startVpre : List Touch := touches [R.X_VPRE] [] [Foot.dieFollow, Foot.abortSlice]
def Foot.followAlert : List Touch := touches [R.HIF_STATUS_ALERTN_LOW] [] [Foot.notify]
def Foot.accept : List Touch := touches [R.JNL_NEXT_SEQ, R.Q_ALERT] [.slots] [Foot.suspendErase, Foot.evict,
    Foot.saveRetained, Foot.notify, Foot.cause, Foot.startGrace, Foot.startVpre, Foot.followAlert]
def Foot.refuse : List Touch := touches [R.Qq_REFUSED, R.X_RF_FTYPE, R.X_RF_FIRST, R.X_RF_LTYPE, R.X_RF_LAST, R.X_RF_CAUSES,
    R.X_RF_COUNT, R.Q_FAULT] [.latched] [Foot.followAlert]
def Foot.admitTo : List Touch := touches [] [] [Foot.abortSlice, Foot.accept, Foot.refuse]
def Foot.clearGather : List Touch := touches [R.X_RF_LTYPE, R.X_RF_FTYPE, R.X_RF_LAST, R.X_RF_FIRST, R.X_RF_CAUSES,
    R.X_RF_COUNT] [] []
def Foot.offerN : List Touch := touches [] [.latched] [Foot.admitTo, Foot.clearGather]
def Foot.offerB : List Touch := touches [] [.held] [Foot.offerN]
def Foot.offer : List Touch := touches [] [] [Foot.offerB]
def Foot.record : List Touch := touches [] [] [Foot.offer]
def Foot.pulseRecord : List Touch := touches [] [] [Foot.record]
def Foot.chgTo : List Touch := touches [] [] [Foot.chgTargets, Foot.chgSet, Foot.cutRest, Foot.pulseRecord]
def Foot.latchFrom (r : Reg) : List Touch := touches [r] [.held] [Foot.followAlert, Foot.offer]
def Foot.latch (r : Reg) : List Touch := touches [] [] [Foot.latchFrom r]
def Foot.equaliseFollow : List Touch := touches [] [] [Foot.latch R.CHG_FAULT_EQ_ABORT, Foot.chgTo]
def Foot.execEqualiseEnd : List Touch := touches [] [] [Foot.chgTo, Foot.equaliseFollow]
def Foot.frameIdle : List Touch := touches [R.X_TRY, R.X_FRAME] [] []
def Foot.nextSeq : List Touch := touches [R.X_SLOT_SEQ] [] []
def Foot.lineSend : List Touch := touches [R.X_LINE_TXN, R.X_LINE_TX] [] []
def Foot.sendFrame : List Touch := touches [] [] [Foot.lineSend]
def Foot.markPolled : List Touch := touches [R.X_SLOT_POLLED, R.X_SLOT_CYC] [] []
def Foot.nextFrame : List Touch := touches [R.X_TRY, R.X_FRAME, R.X_FRAME_SEQ] [] [Foot.frameIdle, Foot.nextSeq,
    Foot.sendFrame, Foot.markPolled]
def Foot.dropLate : List Touch := touches [R.LINE_STATUS_DEFER, R.X_LINE_LATE] [] []
def Foot.yardCycle : List Touch := touches [R.X_LINE_LATE, R.X_LINE_CYC, R.X_LINE_LEFT] [] [Foot.nextFrame]
def Foot.syncTime : List Touch := touches [R.X_SYNC_AT] [] [Foot.lineSend]
def Foot.startCycle : List Touch := touches [R.X_LINE_LATE, R.X_LINE_LEFT, R.X_LINE_CYC] [] [Foot.syncTime, Foot.nextFrame]
def Foot.cycleDue : List Touch := touches [R.LINE_STATUS_DEFER, R.X_LINE_LATE] [] [Foot.dropLate, Foot.yardCycle,
    Foot.startCycle]
def Foot.lineResume : List Touch := touches [] [] [Foot.nextFrame, Foot.cycleDue]
def Foot.lineGoOn : List Touch := touches [] [] [Foot.lineResume, Foot.frameIdle]
def Foot.rclAnswer : List Touch := touches [R.X_RCL_CLOCKS, R.X_RCL_ACK] [] []
def Foot.railVid : List Touch := touches [R.X_RAIL_FAST, R.RAIL_x_STAT_SETTLED, R.RAIL_x_TARGET, R.RAIL_x_STAT_SLEWING,
    R.X_RAIL_PEND, R.RAIL_x_STAT_SUPERSEDED] [] []
def Foot.setPort : List Touch := touches [R.LINE_STATUS_A_STATE, R.LINE_STATUS_B_STATE] [] []
def Foot.lineIdle : List Touch := touches [R.X_ENUM, R.X_RUN, R.X_TRY, R.X_FRAME, R.X_LINE_LEFT] [] [Foot.dropLate]
def Foot.ledgerAdd : List Touch := touches [R.X_LDG_ACC, R.LDG_COUNTERk] [] []
def Foot.eRemMove : List Touch := touches [R.X_EREM_ACC, R.LDG_E_REM] [] []
def Foot.creditSleep : List Touch := touches [] [] [Foot.ledgerAdd, Foot.eRemMove]
def Foot.sleepCredit : List Touch := touches [R.X_SLEEP_AT] [] [Foot.creditSleep]
def Foot.portDown : List Touch := touches [R.X_KA_POWER, R.X_ENUM, R.X_LINE_UP] [] [Foot.setPort, Foot.lineIdle,
    Foot.abortSlice, Foot.sleepCredit]
def Foot.portOff : List Touch := touches [] [] [Foot.portDown]
def Foot.cutoffPorts : List Touch := touches [] [] [Foot.portOff]
def Foot.railStop : List Touch := touches [R.RAIL_x_STAT_DE, R.RAIL_x_STAT_BURST, R.RAIL_x_STAT_SETTLED,
    R.RAIL_x_STAT_SLEWING, R.RAIL_x_STAT_STATE, R.RAIL_x_POUT, R.RAIL_x_PIN, R.RAIL_x_I, R.RAIL_x_V, R.X_RAIL_PEND,
    R.X_RAIL_OFFDLY, R.X_RAIL_KEEP] [] [Foot.cutoffPorts, Foot.dieFollow]
def Foot.railDown : List Touch := touches [R.X_RAIL_PEND, R.X_RAIL_OFFDLY, R.RAIL_x_STAT_SETTLED, R.RAIL_x_STAT_SLEWING,
    R.RAIL_x_STAT_STATE, R.RAIL_x_STAT_DE, R.RAIL_x_STAT_BURST] [] []
def Foot.railPs3 : List Touch := touches [R.X_RAIL_NAMED, R.X_RAIL_PS3, R.RAIL_x_STAT_PS, R.RAIL_x_STAT_FAILS] []
    [Foot.railStop, Foot.railDown]
def Foot.railSoft : List Touch := touches [R.RAIL_x_TARGET, R.RAIL_x_STAT_BURST, R.X_RAIL_OFFDLY, R.RAIL_x_STAT_SLEWING,
    R.RAIL_x_STAT_SETTLED, R.RAIL_x_STAT_STATE, R.RAIL_x_STAT_DE, R.X_FIRED, R.X_LEAD, R.X_TOKEN] [] []
def Foot.railTurnOn : List Touch := touches [R.RAIL_x_STAT_FAILS, R.RAIL_x_SLEW, R.X_RAIL_NAMED, R.RAIL_x_STAT_PS,
    R.X_RAIL_PS3, R.RAIL_x_STAT_STATE] [] [Foot.railSoft]
def Foot.railSetState : List Touch := touches [R.X_RAIL_NAMED, R.X_RAIL_PS3, R.RAIL_x_STAT_PS, R.RAIL_x_STAT_BURST,
    R.RAIL_x_STAT_STATE, R.RAIL_x_SLEW, R.RAIL_x_STAT_FAILS] [] [Foot.railPs3, Foot.railTurnOn, Foot.railSoft]
def Foot.valtFollow : List Touch := touches [R.RAIL_x_STAT_ALERT, R.RCL_STATUS] [] []
def Foot.railClearAlert : List Touch := touches [R.RAIL_x_STAT_SUPERSEDED, R.X_RAIL_ALERTS] [] [Foot.valtFollow]
def Foot.railApply : List Touch := touches [R.RAIL_x_SLEW] [] [Foot.railVid, Foot.railSetState, Foot.railClearAlert]
def Foot.railCommand : List Touch := touches [] [] [Foot.railApply]
def Foot.rclFrame : List Touch := touches [R.RCL_NAK_CNT_PARITY, R.X_RCL_RP, R.X_RCL_RDATA, R.RCL_ACK_CNT,
    R.RCL_NAK_CNT_OTHER] [] [Foot.rclAnswer, Foot.railCommand, Foot.abortSlice]
def Foot.cfgEventOf : List Touch := touches [] [] [Foot.record]
def Foot.cfgEvent : List Touch := touches [] [] [Foot.cfgEventOf]
def Foot.storeRegs : List Touch := touches [R.CFG_STATUS_NO_PREVIOUS, R.CFG_STATUS_COPY_OK, R.CFG_STATUS_AGREE,
    R.CFG_PREV_VER, R.CFG_STATUS_BUSY, R.CFG_LOADED_LEN, R.CFG_COMMIT_CNT, R.CFG_ACTIVE_VER] [] []
def Foot.stageEmpty : List Touch := touches [R.X_STAGE_TOP, R.X_STAGE] [] []
def Foot.committed : List Touch := touches [R.X_SWITCH] [.target] [Foot.cfgEvent, Foot.storeRegs, Foot.stageEmpty]
def Foot.pushOp : List Touch := touches [] [.storeOps] [Foot.storeRegs, Foot.startVpre]
def Foot.repairsOf : List Touch := touches [] [] [Foot.pushOp]
def Foot.queueRepairs : List Touch := touches [] [] [Foot.repairsOf]
def Foot.headAt : List Touch := touches [R.JNL_LAP, R.JNL_HEAD_PAGE_SECTOR, R.JNL_HEAD_PAGE_PAGE, R.JNL_HEAD_BLOCK] [] []
def Foot.findHead : List Touch := touches [R.X_NEED_BLOCK, R.X_SERIAL] [] [Foot.headAt]
def Foot.editRetained : List Touch := touches [] [.retained, .retainedOld] []
def Foot.growBad : List Touch := touches [R.JNL_BAD_GROWN] [.grownBad, .table6, .table7] [Foot.latch R.JNL_FAULT_WORN,
    Foot.latch R.JNL_FAULT_TABLE_FULL]
def Foot.scanErase : List Touch := touches [] [.ring, .ahead] [Foot.latch R.JNL_FAULT_ERASE_FAIL, Foot.editRetained,
    Foot.growBad]
def Foot.stand : List Touch := touches [R.X_COND] [] []
def Foot.latchStand (r : Reg) : List Touch := touches [] [] [Foot.latch r, Foot.stand]
def Foot.ended : List Touch := touches [R.X_COND] [] []
def Foot.marginFollow : List Touch := touches [R.Q_STATUS_URGENT, R.JNL_ERASED_AHEAD, R.Q_STATUS_STARVED] [] [Foot.latchStand
    R.Q_FAULT_B_STARVED, Foot.ended]
def Foot.takeBlock : List Touch := touches [R.JNL_HEAD_PAGE_SECTOR, R.JNL_HEAD_PAGE_PAGE, R.X_NEED_BLOCK, R.JNL_LAP,
    R.JNL_HEAD_BLOCK] [.ahead] [Foot.marginFollow]
def Foot.nextPage : List Touch := touches [R.JNL_HEAD_PAGE_SECTOR, R.JNL_HEAD_PAGE_PAGE] [] [Foot.takeBlock]
def Foot.ringFollow : List Touch := touches [R.JNL_NEWEST_SEQ, R.JNL_OLDEST_SEQ] [] []
def Foot.scanHead : List Touch := touches [R.X_FIRST_POR] [] [Foot.findHead, Foot.scanErase, Foot.takeBlock, Foot.nextPage,
    Foot.ringFollow, Foot.marginFollow]
def Foot.bootScan : List Touch := touches [R.JNL_STATUS_HINT_USED, R.DEV_CLK_TIME_SEEDED, R.DEV_TIME, R.JNL_STATUS_SCAN_DONE,
    R.JNL_BAD_GROWN, R.JNL_BAD_FACTORY, R.JNL_NEXT_SEQ] [] [Foot.latch R.JNL_FAULT_GAP, Foot.scanHead, Foot.saveRetained]
def Foot.reverted : List Touch := touches [R.X_STORE_VER, R.X_SWITCH] [.target] [Foot.cfgEventOf, Foot.storeRegs]
def Foot.execEraseSliceEnd : List Touch := touches [] [] [Foot.suspendErase]
def Foot.onCopy : List Touch := touches [] [.copies] []
def Foot.copyBlockBad : List Touch := touches [] [] [Foot.latch R.CFG_FAULT_COPY_LOST, Foot.onCopy, Foot.growBad]
def Foot.stepDone : List Touch := touches [] [] [Foot.onCopy]
def Foot.commitAborted : List Touch := touches [] [] [Foot.latch R.CFG_FAULT_COMMIT_ABORT, Foot.cfgEvent, Foot.storeRegs,
    Foot.stageEmpty]
def Foot.trialOver : List Touch := touches [R.X_TRIAL_END, R.CFG_STATUS_TRIAL] [] [Foot.editRetained]
def Foot.opDone : List Touch := touches [] [.storeOps] [Foot.latch R.CFG_FAULT_REPAIRED, Foot.commitAborted, Foot.committed,
    Foot.storeRegs, Foot.reverted, Foot.cfgEvent, Foot.trialOver]
def Foot.storeGo : List Touch := touches [] [.storeOps] [Foot.storeRegs, Foot.opDone]
def Foot.storeSettle : List Touch := touches [] [] [Foot.storeGo]
def Foot.stepEraseFailed : List Touch := touches [] [.storeOps] [Foot.latch R.JNL_FAULT_ERASE_FAIL, Foot.copyBlockBad,
    Foot.stepDone, Foot.storeSettle]
def Foot.stepComplete : List Touch := touches [] [.storeOps] [Foot.stepDone, Foot.storeSettle]
def Foot.storeErased : List Touch := touches [] [] [Foot.stepEraseFailed, Foot.stepComplete]
def Foot.endUvInhibit : List Touch := touches [R.PP_STATUS_UV_INHIBIT] [] [Foot.ended]
def Foot.execUvInhibitEnd : List Touch := touches [] [] [Foot.endUvInhibit]
def Foot.execRclSetVidFast : List Touch := touches [] [] [Foot.rclFrame]
def Foot.execTrkWeak : List Touch := touches [] [] [Foot.latchStand R.TRK_FAULT_WEAK]
def Foot.ledgerFollow : List Touch := touches [R.LDG_STATUS_EREM_VALID, R.LDG_HORIZON, R.LDG_P_YARD, R.LDG_P_SLEEP,
    R.LDG_STATUS_AT_MAX, R.LDG_STATUS_AT_MIN] [] []
def Foot.snapshot : List Touch := touches [R.LDG_SNAP_SEQ] [] [Foot.ledgerFollow, Foot.sleepCredit, Foot.record]
def Foot.owedSnap : List Touch := touches [R.X_HOUR_DUE] [] [Foot.snapshot]
def Foot.hourSnap : List Touch := touches [R.X_HOUR_DUE] [] [Foot.owedSnap]
def Foot.intervalUpdate : List Touch := touches [R.LDG_POLL_INTERVAL, R.LDG_STATUS_SHORT] [] [Foot.latchFrom
    R.MEAS_FAULT_HORIZON_SHORT, Foot.ledgerFollow, Foot.ended, Foot.stand]
def Foot.execHourBoundary : List Touch := touches [R.X_INT_NEW, R.X_HOUR_DUE] [] [Foot.hourSnap, Foot.intervalUpdate]
def Foot.ppFailure : List Touch := touches [R.X_FAILS, R.PP_STATUS_RETRY_WAIT, R.X_LOCKOUT] [] [Foot.latchStand
    R.PP_FAULT_LOCKOUT]
def Foot.execRailFailsReset : List Touch := touches [R.RAIL_x_STAT_FAILS] [] []
def Foot.setFb : List Touch := touches [R.THM_STATUS_FB_ACTIVE, R.THM_FB_FACTOR] [] [Foot.chgTargets]
def Foot.foldback : List Touch := touches [R.X_FB_LOW, R.X_FB_EPISODE] [] [Foot.setFb]
def Foot.fbRelease : List Touch := touches [R.X_FB_WAIT, R.THM_FB_HOLD, R.THM_STATUS_FB_HOLD] [] [Foot.foldback, Foot.ended]
def Foot.fbDone : List Touch := touches [R.X_FB_WAIT] [] [Foot.fbRelease]
def Foot.updateLimit : List Touch := touches [R.INn_LIM_EFF] [] []
def Foot.setInstate : List Touch := touches [R.IN_STATUS_HELD, R.INn_STAT_STATE] [] [Foot.needP3]
def Foot.poStart : List Touch := touches [R.X_PO_VALID, R.TRKn_STAT_RUN, R.TRKn_STAT_DIR_DOWN, R.TRKn_STEP] [] []
def Foot.trackStart : List Touch := touches [R.TRKn_STAT_STYLE, R.X_COUNTED, R.X_SWEPT, R.X_AWAIT, R.X_SWEEP_DUE,
    R.TRKn_VSET] [] [Foot.poStart]
def Foot.setVref : List Touch := touches [R.X_VREF_AT, R.X_VREF, R.TRKn_VSET] [] []
def Foot.sourceEvent : List Touch := touches [] [] [Foot.record]
def Foot.stopGrace : List Touch := touches [R.X_GRACE_END, R.MODE_STATUS_GRACE] [] []
def Foot.couple : List Touch := touches [R.MODE_COUPLE_CNT, R.MODE_STATUS_COUPLED] [] [Foot.cause, Foot.stopGrace]
def Foot.settleGroup : List Touch := touches [R.X_BOOT, R.CNV_Gg_STAT_STATE] [] []
def Foot.noCeiling : List Touch := touches [R.TRKn_CAP, R.TRKn_ALLOC] [] []
def Foot.trackIdle : List Touch := touches [R.X_RETRY, R.X_AWAIT, R.X_DORMANT, R.X_SWEEP_DUE, R.TRK_STATUS_SWEEPING,
    R.TRKn_CAP, R.TRKn_STAT_STYLE] [] []
def Foot.endClass : List Touch := touches [R.INn_STAT_MASKED, R.INn_STAT_CLASS, R.X_RETAKE, R.IN_STATUS_TS_RELEASED] []
    [Foot.trackIdle, Foot.updateLimit, Foot.startGrace, Foot.cause, Foot.abortSlice]
def Foot.gates : List Touch := touches [R.X_GATE_OFF, R.X_GA, R.IN_STATUS_FET_ON] [] []
def Foot.gatesAfterRamp : List Touch := touches [R.X_GATE_OFF] [] [Foot.gates]
def Foot.restartClass : List Touch := touches [R.X_DECODED, R.X_READMIT, R.X_IDDIFF, R.X_WDROPS, R.X_PROBE_FAIL,
    R.INn_RIPPLE, R.INn_SIG_FREQ, R.INn_SIG_DROPOUTS, R.INn_CURV, R.INn_RSRC, R.INn_VOC, R.X_VBUS0, R.X_SETTLE_AT] []
    [Foot.gatesAfterRamp, Foot.setInstate]
def Foot.unmapInput : List Touch := touches [R.X_READMIT] [] [Foot.sourceEvent, Foot.noCeiling, Foot.endClass,
    Foot.setInstate, Foot.gates, Foot.restartClass]
def Foot.inputsFollow : List Touch := touches [] [] [Foot.unmapInput, Foot.setInstate, Foot.restartClass]
def Foot.applyMap : List Touch := touches [R.CNV_PHn_STAT_GROUP, R.X_FSW, R.X_PHASE_OFS, R.CNV_STATUS_CFG_PENDING] []
    [Foot.settleGroup, Foot.inputsFollow]
def Foot.mapCheck : List Touch := touches [] [] [Foot.applyMap]
def Foot.switchPhase : List Touch := touches [R.CNV_STATUS_SWITCHING, R.CNV_PHn_STAT_SWITCHING] [] []
def Foot.respace : List Touch := touches [R.X_PLACE] [] []
def Foot.countActive : List Touch := touches [R.CNV_Gg_STAT_ACTIVE] [] [Foot.respace]
def Foot.phasePeaks : List Touch := touches [R.X_PEAK] [] []
def Foot.idlePhases : List Touch := touches [R.CNV_PHn_STAT_SHED, R.CNV_PHn_I, R.TRKn_STAT_GOVERNED, R.TRKn_STAT_LOOP,
    R.CNV_Gg_IL, R.CNV_Gg_PEAK, R.CNV_Gg_STAT_EQ_ACTIVE, R.CNV_Gg_STAT_PH_LIMIT, R.CNV_Gg_STAT_DE, R.CNV_Gg_STAT_BURST,
    R.CNV_Gg_STAT_REGION, R.X_TUNING, R.X_CTRL_SW, R.X_RAMP] [] [Foot.switchPhase, Foot.countActive, Foot.phasePeaks,
    Foot.gates]
def Foot.stopGroup : List Touch := touches [R.CNV_Gg_STAT_TUNED] [] [Foot.mapCheck, Foot.settleGroup, Foot.idlePhases]
def Foot.endTrip : List Touch := touches [R.X_TRIP] [] [Foot.stopGroup, Foot.toOnDelay]
def Foot.zeroCeiling : List Touch := touches [] [] [Foot.noCeiling, Foot.stopGroup]
def Foot.rampDown : List Touch := touches [R.TRKn_CAP] [] [Foot.zeroCeiling]
def Foot.clearClass : List Touch := touches [] [] [Foot.endTrip, Foot.rampDown, Foot.endClass]
def Foot.freeDup : List Touch := touches [] [] [Foot.restartClass, Foot.sourceEvent, Foot.clearClass]
def Foot.dropClass : List Touch := touches [] [] [Foot.sourceEvent, Foot.clearClass, Foot.freeDup]
def Foot.holdOrDrop : List Touch := touches [] [] [Foot.setInstate, Foot.dropClass, Foot.zeroCeiling]
def Foot.classify : List Touch := touches [R.X_BAND, R.INn_STAT_ISSUE, R.INn_STAT_MASKED, R.INn_STAT_CLASS, R.X_IDDIFF,
    R.X_DECODE_AT, R.X_DORMANT] [] [Foot.latchStand R.IN_FAULT_CLASS, Foot.updateLimit, Foot.setInstate, Foot.ended,
    Foot.cause, Foot.trackStart, Foot.setVref, Foot.sourceEvent, Foot.couple, Foot.stopGrace, Foot.holdOrDrop]
def Foot.execSignatureWatchComplete : List Touch := touches [R.INn_RIPPLE, R.INn_SIG_FREQ, R.INn_SIG_DROPOUTS] []
    [Foot.classify]
def Foot.wdtEventAt : List Touch := touches [] [] [Foot.record]
def Foot.wdtEvent : List Touch := touches [] [] [Foot.wdtEventAt]
def Foot.safeRecord : List Touch := touches [R.Q_STATUS_HOLD] [] [Foot.wdtEventAt, Foot.wdtEvent]
def Foot.chgDrop : List Touch := touches [R.CHG_I_TARGET] [] []
def Foot.chgStopNow : List Touch := touches [R.X_PULSE] [] [Foot.chgDrop, Foot.chgTargets, Foot.chgTo]
def Foot.railsKill : List Touch := touches [R.X_RAIL_NAMED] [] [Foot.railStop]
def Foot.slopeFollow : List Touch := touches [R.X_SLOPE] [] []
def Foot.regionSet : List Touch := touches [R.X_CTRL_SW, R.CNV_Gg_STAT_REGION] [] []
def Foot.regionStart : List Touch := touches [] [] [Foot.slopeFollow, Foot.regionSet]
def Foot.switchOn : List Touch := touches [R.CNV_PHn_STAT_SHED, R.X_RAMP, R.CNV_Gg_PEAK, R.CNV_Gg_STAT_STATE] []
    [Foot.switchPhase, Foot.needP3, Foot.phasePeaks, Foot.regionStart, Foot.countActive]
def Foot.setCeiling : List Touch := touches [R.TRKn_ALLOC] [] [Foot.stopGroup, Foot.toOnDelay, Foot.switchOn]
def Foot.dropCeilings : List Touch := touches [R.TRK_STATUS_SHORTFALL, R.TRK_STATUS_TRIM, R.TRKn_STAT_TRIM, R.X_RAMP] []
    [Foot.setCeiling]
def Foot.endProbe : List Touch := touches [] [] [Foot.stopGroup]
def Foot.abandonProbes : List Touch := touches [] [] [Foot.setInstate, Foot.endProbe]
def Foot.portsDrop : List Touch := touches [R.X_LINE_UP] [] [Foot.setPort, Foot.lineIdle]
def Foot.vauxOutOfReg : List Touch := touches [R.AUX_STATUS_VPRE_HOLD_DRV, R.AUX_STATUS_VAUX_REG] [] [Foot.abandonProbes,
    Foot.portsDrop]
def Foot.stopVaux : List Touch := touches [R.AUX_VAUX_I, R.AUX_VAUX_V, R.AUX_STATUS_VAUX_ILIM, R.AUX_STATUS_VAUX_ON] []
    [Foot.vauxOutOfReg, Foot.abortSlice]
def Foot.safeActions : List Touch := touches [R.Q_STATUS_HOLD] [] [Foot.chgStopNow, Foot.railsKill, Foot.portOff,
    Foot.abortSlice, Foot.dropCeilings, Foot.stopVaux]
def Foot.startSafe : List Touch := touches [] [] [Foot.safeRecord, Foot.safeActions]
def Foot.pulse : List Touch := touches [R.X_PULSE_OVER, R.X_TO_IDLE, R.X_PULSE, R.X_CHG_WAIT, R.X_PULSE_AT, R.X_REST_RIDE] []
    [Foot.chgSet]
def Foot.firstPulse : List Touch := touches [R.CHG_I_PULSE] [] [Foot.pulse, Foot.pulseRecord]
def Foot.programFailed : List Touch := touches [] [.program] [Foot.latch R.JNL_FAULT_PROG_FAIL, Foot.saveRetained,
    Foot.takeBlock, Foot.growBad]
def Foot.setHif : List Touch := touches [] [.tw, .qb] []
def Foot.hold : List Touch := touches [] [] [Foot.setHif]
def Foot.putReply : List Touch := touches [R.HIF_REPLY_LOST_TW, R.HIF_REPLY_LOST_QB] [] [Foot.hold]
def Foot.autoServe : List Touch := touches [] [.requests] [Foot.putReply]
def Foot.interpret : List Touch := touches [] [] [Foot.putReply, Foot.autoServe]
def Foot.dropReply : List Touch := touches [R.HIF_REPLY_LOST_TW, R.HIF_REPLY_LOST_QB] [] [Foot.setHif]
def Foot.arrive : List Touch := touches [] [.requests] [Foot.dropReply, Foot.autoServe]
def Foot.taken : List Touch := touches [] [] [Foot.interpret, Foot.dropReply, Foot.arrive]
def Foot.awake : List Touch := touches [R.HIF_STATUS_AWAKE] [] [Foot.cause]
def Foot.requestFast : List Touch := touches [R.X_FAST_REQ] [] []
def Foot.wake (r : Reg) : List Touch := touches [r] [] [Foot.requestFast]
def Foot.twNack : List Touch := touches [R.HIF_NACK_CNT, R.X_HOLD_DUE] [] [Foot.wake R.MODE_WAKE_SRC_ADDR, Foot.awake,
    Foot.abortSlice, Foot.cause]
def Foot.serve : List Touch := touches [] [.requests] [Foot.interpret, Foot.abortSlice, Foot.taken, Foot.awake, Foot.twNack]
def Foot.okData : List Touch := touches [] [] []
def Foot.execLedgerRead : List Touch := touches [] [] [Foot.serve, Foot.okData]
def Foot.chargeControl : List Touch := touches [] [] [Foot.serve]
def Foot.serviceGroups : List Touch := touches [R.X_SVC_GROUPS] [] []
def Foot.execServiceGroups : List Touch := touches [] [] [Foot.chargeControl, Foot.serviceGroups]
def Foot.busClear : List Touch := touches [] [] [Foot.latch R.HIF_FAULT_BUS_CLEAR_FAIL, Foot.ended]
def Foot.execBusClearRetry : List Touch := touches [] [] [Foot.busClear]
def Foot.onPorts : List Touch := touches [] [] []
def Foot.setHostOff : List Touch := touches [R.LINE_STATUS_A_HOST_OFF, R.LINE_STATUS_B_HOST_OFF] [] []
def Foot.linePortOff : List Touch := touches [R.X_POLL] [] [Foot.onPorts, Foot.portOff, Foot.setHostOff]
def Foot.eraseOver : List Touch := touches [R.JNL_STATUS_SUSPENDED, R.JNL_STATUS_ERASING] [.erase] []
def Foot.abortErase : List Touch := touches [] [] [Foot.eraseOver, Foot.editRetained]
def Foot.execInputConnect : List Touch := touches [R.X_VBUS, R.X_FETBAD, R.INn_STAT_ISSUE] [] [Foot.latchStand
    R.IN_FAULT_FET, Foot.setInstate, Foot.gates]
def Foot.leaveService : List Touch := touches [R.X_SERVICE] [] [Foot.cause]
def Foot.abortSweep : List Touch := touches [R.X_PO_VALID, R.TRKn_STAT_STYLE, R.TRKn_VSET, R.TRK_STATUS_SWEEPING] []
    [Foot.latchStand R.TRK_FAULT_SWEEP_ABORT]
def Foot.abortSweeps : List Touch := touches [] [] [Foot.abortSweep]
def Foot.startProbe : List Touch := touches [] [] [Foot.abortSweeps, Foot.setInstate, Foot.switchOn]
def Foot.coldStartEnd : List Touch := touches [R.PP_STATUS_COLD_START] [] [Foot.mapCheck, Foot.idlePhases]
def Foot.execProbeStart : List Touch := touches [] [] [Foot.startProbe, Foot.coldStartEnd]
def Foot.clearWord : List Touch := touches [] [] [[.within .reads]]
def Foot.timersReset : List Touch := touches [R.CHG_TABS, R.CHG_TCHG_ACC] [] []
def Foot.chgRestart : List Touch := touches [R.CHG_TIMEOUT_CAUSE_FOLDBACK_AT_EXPIRY, R.CHG_TIMEOUT_CAUSE_PRECHARGE,
    R.CHG_TIMEOUT_CAUSE_ABSOLUTE, R.CHG_TIMEOUT_CAUSE_SCALED] [] [Foot.timersReset, Foot.chgTo]
def Foot.readTimeout : List Touch := touches [R.CHG_TIMEOUT_CAUSE_PENDING] [] [Foot.ended, Foot.chgTo, Foot.chgRestart]
def Foot.chgIdle : List Touch := touches [R.X_TO_IDLE] [] [Foot.chgTargets, Foot.chgTo]
def Foot.chgFollow : List Touch := touches [] [] [Foot.chgTargets, Foot.chgTo, Foot.equaliseFollow, Foot.chgIdle]
def Foot.openPair : List Touch := touches [R.PP_STATUS_SUPPL, R.PP_LIN_I, R.PP_STATUS_PLIM, R.PP_STATUS_ROLE] []
    [Foot.sysFollow, Foot.needP3]
def Foot.setBat : List Touch := touches [R.PP_STATUS_BAT] [] [Foot.needP3, Foot.ended, Foot.openPair, Foot.cause]
def Foot.readBatShort : List Touch := touches [] [] [Foot.ended, Foot.setBat]
def Foot.readAction : List Touch := touches [R.SUP_MIN_SYS] [] [Foot.clearWord, Foot.readTimeout, Foot.chgFollow,
    Foot.readBatShort]
def Foot.readClear : List Touch := touches [] [] [Foot.readAction]
def Foot.readWords : List Touch := touches [] [] [Foot.followAlert, Foot.readClear]
def Foot.execZeroCrossUpdate : List Touch := touches [R.CNV_PHn_ZC_OFS] [] []
def Foot.agedFollow : List Touch := touches [R.CHG_STATUS_AGED] [] [Foot.latchStand R.CHG_FAULT_BAT_AGED, Foot.ended]
def Foot.chgHold (r : Reg) : List Touch := touches [r, R.X_REST_RIDE, R.X_PULSE_OVER] [] [Foot.chgTargets]
def Foot.windowFollow : List Touch := touches [R.CHG_T_WARM_NOW, R.CHG_T_COLD_NOW, R.X_TEMP_FORBID, R.X_TEMP_OUT] []
    [Foot.chgHold R.CHG_HOLD_TEMP, Foot.equaliseFollow]
def Foot.curveFollow : List Touch := touches [R.THM_STATUS_CURVE_BAD] [] []
def Foot.judgeOrder : List Touch := touches [R.TRK_STATUS_PRIO_BAD, R.X_PRIO] [] [Foot.latchStand R.TRK_FAULT_PRIO_BAD,
    Foot.ended]
def Foot.hrstnFollow : List Touch := touches [R.HIF_STATUS_HRSTN_LOW, R.HIF_STATUS_HRSTN_DRIVEN] [] []
def Foot.evictTo : List Touch := touches [R.Qq_EVICTED] [.slots] []
def Foot.queuesFollow : List Touch := touches [R.Q_ALERT] [] [Foot.evictTo]
def Foot.deadTimesFollow : List Touch := touches [R.CNV_PHn_DT_D_FALL, R.CNV_PHn_DT_D_RISE, R.CNV_PHn_DT_U_FALL,
    R.CNV_PHn_DT_U_RISE] [] []
def Foot.bootFollow : List Touch := touches [R.AUX_VAUX_SET, R.LDG_POLL_INTERVAL, R.RAIL_x_SLEW, R.RAIL_x_TARGET,
    R.LINE_SLOTs_STAT_MISSED, R.LINE_SLOTs_STAT_STATE] [] [Foot.latchStand R.CHG_FAULT_TIMEOUT, Foot.applyMap,
    Foot.updateLimit, Foot.restartClass, Foot.agedFollow, Foot.sysFollow, Foot.windowFollow, Foot.curveFollow,
    Foot.judgeOrder, Foot.chgSet, Foot.chgFollow, Foot.valtFollow, Foot.ledgerFollow, Foot.followAlert, Foot.hrstnFollow,
    Foot.queuesFollow, Foot.deadTimesFollow]
def Foot.execVauxFail : List Touch := touches [R.X_VAUX_WAIT, R.X_VAUX_FAILS] [] [Foot.latch R.AUX_FAULT_VAUX_SHORT,
    Foot.stopVaux]
def Foot.lockWrite : List Touch := touches [R.WDT_LOCK] [] []
def Foot.storeWord : List Touch := touches [R.X_EPOCH_LOW, R.DEV_EPOCH, R.X_USABLE_LOW, R.LDG_BAT_USABLE, R.X_EREM_LOW,
    R.LDG_E_REM] [] [Foot.lockWrite, [.within .writes]]
def Foot.tuneFail : List Touch := touches [R.X_TUNING, R.X_TUNE, R.CNV_Gg_KI, R.CNV_Gg_KP] [] [Foot.latch
    R.CNV_FAULT_TUNE_FAIL]
def Foot.execTsResume : List Touch := touches [R.IN_STATUS_TS_RELEASED] [] [Foot.endTrip, Foot.setVref, Foot.gates]
def Foot.demandOff : List Touch := touches [R.X_RAIL_NAMED, R.RAIL_x_STAT_FAILS, R.X_RAIL_OFFDLY] [] [Foot.railStop]
def Foot.execSupplement : List Touch := touches [R.X_SUPPL] [] []
def Foot.chgQualify : List Touch := touches [] [] [Foot.chgTargets, Foot.chgTo]
def Foot.limitStep : List Touch := touches [R.DE_Ti_ALARMS_LOW, R.DE_Ti_ALARMS_HIGH] [] []
def Foot.execRetryWaitEnd : List Touch := touches [R.PP_STATUS_RETRY_WAIT] [] []
def Foot.phaseCurrents : List Touch := touches [R.CNV_PHn_I, R.CNV_Gg_IL] [] []
def Foot.joinPhase : List Touch := touches [R.CNV_PHn_STAT_TRIM_SAT, R.CNV_PHn_TRIM, R.CNV_PHn_STAT_SHED, R.X_TUNING,
    R.X_EQ_HOLD] [] [Foot.switchPhase, Foot.phasePeaks, Foot.countActive]
def Foot.addBack : List Touch := touches [R.X_SHED_HIGH] [] [Foot.joinPhase]
def Foot.shedPhase : List Touch := touches [R.X_EQ_HOLD, R.CNV_PHn_STAT_SHED, R.X_SHED_LOW, R.X_TUNING] [] [Foot.countActive,
    Foot.switchPhase, Foot.phasePeaks]
def Foot.execShedEvaluation : List Touch := touches [R.CNV_Gg_STAT_DE, R.X_SHED_HIGH, R.X_SHED_LOW] [] [Foot.phaseCurrents,
    Foot.addBack, Foot.shedPhase]
def Foot.phRetry : List Touch := touches [R.CNV_PHn_STAT_CAUSE, R.CNV_STATUS_EXCLUDED, R.CNV_PHn_STAT_EXCLUDED] []
    [Foot.ended, Foot.settleGroup, Foot.joinPhase]
def Foot.tuneDue : List Touch := touches [R.X_TUNE_AT, R.X_TUNE_N, R.X_TUNING, R.X_TUNE] [] []
def Foot.retune : List Touch := touches [] [] [Foot.tuneDue]
def Foot.converterCommand : List Touch := touches [] [] [Foot.phRetry, Foot.retune]
def Foot.wakeLen : List Touch := touches [R.X_INT_NEW, R.X_WAKE_LEN] [] []
def Foot.wakeRestart : List Touch := touches [R.X_WAKE_AT] [] [Foot.wakeLen]
def Foot.putImage : List Touch := touches [] [] [[.within .image]]
def Foot.pushMark : List Touch := touches [] [] [Foot.pushOp]
def Foot.startRevert : List Touch := touches [R.CFG_STATUS_TRIAL] [] [Foot.pushMark]
def Foot.selfReject : List Touch := touches [] [] [Foot.startRevert]
def Foot.safeCause : List Touch := touches [R.WDT_SAFE_CAUSE] [] [Foot.cause, Foot.selfReject]
def Foot.defaultsMarked : List Touch := touches [R.X_PROFILE_BAD, R.CHG_STATUS_SAFE_PROFILE, R.CFG_STATUS_SELECT] []
    [Foot.latchStand R.CHG_FAULT_PROFILE_BAD, Foot.latch R.CFG_FAULT_DEFAULT, Foot.safeCause]
def Foot.judgeProfile : List Touch := touches [R.X_PROFILE_BAD] [] [Foot.latchStand R.CHG_FAULT_PROFILE_BAD, Foot.ended,
    Foot.selfReject]
def Foot.copyLostCheck : List Touch := touches [] [] [Foot.latch R.CFG_FAULT_COPY_LOST]
def Foot.bootConfig : List Touch := touches [R.X_PROFILE_BAD, R.CFG_STATUS_SELECT, R.CHG_STATUS_SAFE_PROFILE, R.X_SWITCH,
    R.DEV_CFG_DIRTY] [.loaded, .target] [Foot.latch R.CFG_FAULT_CONFLICT, Foot.putImage, Foot.defaultsMarked,
    Foot.judgeProfile, Foot.storeRegs, Foot.copyLostCheck, Foot.queueRepairs]
def Foot.periodNext : List Touch := touches [R.X_WDT_NEW, R.WDT_TASK_SEEN_DUP, R.WDT_TASK_SEEN_SEEN] [] []
def Foot.tripGroup : List Touch := touches [R.X_TRIP] [] [Foot.stopGroup, Foot.needP3, Foot.settleGroup, Foot.idlePhases]
def Foot.refFail : List Touch := touches [R.X_REF_FAIL] [] [Foot.latchStand R.MEAS_FAULT_REF_FAIL, Foot.chgHold
    R.CHG_HOLD_TEMP, Foot.ended]
def Foot.restartDue : List Touch := touches [R.X_RESTART] [] []
def Foot.safeFunction : List Touch := touches [R.X_P0_ONLY, R.Q_STATUS_HOLD] [] [Foot.chgFollow, Foot.gates, Foot.tripGroup,
    Foot.openPair, Foot.railsKill, Foot.portOff, Foot.refFail, Foot.restartDue]
def Foot.startLogic : List Touch := touches [R.X_BATS, R.X_SYSS, R.X_FAST_AT, R.DEV_CLK_FAST_ON, R.WDT_STATUS_INTERNAL,
    R.WDT_STATUS_ENABLED] [] [Foot.wakeRestart, Foot.bootFollow, Foot.bootConfig, Foot.periodNext, Foot.safeFunction]
def Foot.execGraceExpire : List Touch := touches [] [] [Foot.cause, Foot.stopGrace]
def Foot.twTransaction : List Touch := touches [] [] [Foot.ended, Foot.awake, Foot.twNack]
def Foot.rewind : List Touch := touches [] [] [Foot.setHif]
def Foot.execTwPointerReset : List Touch := touches [] [] [Foot.twTransaction, Foot.rewind]
def Foot.coldStartCheck : List Touch := touches [R.X_COLD_FLOOR, R.X_COLD_INPUT, R.PP_STATUS_COLD_START, R.X_RAMP,
    R.CNV_Gg_PEAK] [] [Foot.switchPhase, Foot.regionStart, Foot.countActive]
def Foot.execColdStartRetry : List Touch := touches [R.X_COLD_WAIT] [] [Foot.coldStartCheck]
def Foot.execRecover : List Touch := touches [] [] [Foot.serve, Foot.restartDue]
def Foot.execBootstrapRefresh : List Touch := touches [R.X_BOOT_SIDE, R.X_BOOT_REF] [] []
def Foot.mapWrite : List Touch := touches [R.CNV_STATUS_CFG_PENDING] [] [Foot.applyMap]
def Foot.seqRestart0 : List Touch := touches [R.X_SLOT_SEQ] [] []
def Foot.portRise : List Touch := touches [R.X_LINE_UP, R.X_LINE_BOOT, R.X_ENUM] [] [Foot.setPort, Foot.abortSlice,
    Foot.seqRestart0]
def Foot.portsFollow : List Touch := touches [] [] [Foot.portRise]
def Foot.lineCtrl : List Touch := touches [R.X_POLL] [] [Foot.portsFollow, Foot.portOff]
def Foot.thLatch : List Touch := touches [] [] [Foot.latchStand R.THM_FAULT_TB_INVALID, Foot.latchStand
    R.THM_FAULT_TS_INVALID]
def Foot.setTemp : List Touch := touches [R.THM_TBn_T, R.THM_TSn_T] [] []
def Foot.setJudge : List Touch := touches [R.X_TH_JUDGE, R.THM_STATUS_TB_VALID, R.THM_STATUS_TS_VALID] [] []
def Foot.fbHold : List Touch := touches [R.X_FB_WAIT, R.X_FB_LOW, R.X_FB_EPISODE, R.THM_FB_HOLD, R.THM_STATUS_FB_HOLD] []
    [Foot.latchStand R.THM_FAULT_FB_HELD, Foot.setFb]
def Foot.thBad : List Touch := touches [R.X_TH_BAD, R.X_TH_RUN] [] [Foot.thLatch, Foot.setTemp, Foot.setJudge, Foot.fbHold]
def Foot.stopCommit : List Touch := touches [R.X_ABORT] [.storeOps] []
def Foot.sendWalk : List Touch := touches [] [] [Foot.lineSend]
def Foot.nodeEvent : List Touch := touches [] [] [Foot.offer]
def Foot.slotEvent : List Touch := touches [] [] [Foot.nodeEvent]
def Foot.slotDone : List Touch := touches [R.X_LINE_LEFT] [] [Foot.lineGoOn]
def Foot.configDone : List Touch := touches [R.X_SLOT_CFG] [] [Foot.slotEvent, Foot.slotDone, Foot.lineGoOn]
def Foot.deferPending : List Touch := touches [] [.slots] []
def Foot.rideEnd : List Touch := touches [R.MODE_STATUS_RIDE_ACTIVE, R.SUP_STATUS_RIDE, R.SUP_STATUS_BELOW_WARN,
    R.SUP_RIDE_CNT, R.SUP_RIDE_LAST] [] [Foot.chgHold R.CHG_HOLD_RIDE, Foot.deferPending, Foot.followAlert, Foot.cause,
    Foot.ended]
def Foot.pulseFall : List Touch := touches [] [] [Foot.chgTo, Foot.chgSet]
def Foot.guardTasks : List Touch := touches [R.WDT_STATUS_INTERNAL] [] [Foot.periodNext]
def Foot.execHrstnRelease : List Touch := touches [R.X_HRST_UP] [] [Foot.hrstnFollow, Foot.guardTasks]
def Foot.execDriveSupplyUv : List Touch := touches [] [] [Foot.latchStand R.CNV_FAULT_DRV_UV, Foot.tripGroup]
def Foot.trialTo : List Touch := touches [R.X_TRIAL_END, R.CFG_STATUS_TRIAL] [] []
def Foot.startConfirm : List Touch := touches [] [] [Foot.pushMark]
def Foot.trialLoad : List Touch := touches [] [] [Foot.trialOver, Foot.editRetained, Foot.trialTo, Foot.startConfirm]
def Foot.reportAbort : List Touch := touches [R.X_ABORT] [.storeOps] [Foot.storeRegs, Foot.repairsOf, Foot.committed,
    Foot.commitAborted]
def Foot.selectedRecord : List Touch := touches [] [] [Foot.trialLoad, Foot.reportAbort, Foot.cfgEvent]
def Foot.recovered : List Touch := touches [R.WDT_LADDER_O, R.WDT_LADDER_Y, R.WDT_SAFE_CAUSE] [] []
def Foot.otpFollow : List Touch := touches [R.WDT_OTP_O_MAX, R.WDT_OTP_LOCK_DEFAULT, R.WDT_OTP_FRAC, R.CHG_OTP_VMAX_NMC,
    R.CHG_OTP_VMAX_LFP, R.CHG_OTP_MASK, R.HIF_ADDR_BASE, R.CHG_OTP_VMAX_LA] [] []
def Foot.execOtpProgramDone : List Touch := touches [R.X_OTP_BUSY] [] [Foot.otpFollow, [.within .otp]]
def Foot.refusal : List Touch := touches [] [] []
def Foot.execCfgRevert : List Touch := touches [] [] [Foot.serve, Foot.refusal, Foot.startRevert]
def Foot.capFollow : List Touch := touches [R.Q_STATUS_CAP_PENDING] [] []
def Foot.stopStore : List Touch := touches [R.X_ABORT] [] [Foot.stopCommit]
def Foot.railInit : List Touch := touches [R.RAIL_x_SLEW, R.RAIL_x_STAT_PS] [] []
def Foot.railsGo : List Touch := touches [] [] [Foot.abortSlice, Foot.railTurnOn]
def Foot.startVaux : List Touch := touches [R.AUX_STATUS_VAUX_ON] [] [Foot.abortSlice]
def Foot.demandOn : List Touch := touches [R.X_RAIL_OFFDLY, R.X_RAIL_PS3, R.RAIL_x_STAT_FAILS, R.RAIL_x_STAT_STATE] []
    [Foot.railSoft, Foot.railInit, Foot.railStop, Foot.railsGo, Foot.startVpre, Foot.startVaux]
def Foot.guardInternal : List Touch := touches [R.WDT_STATUS_INTERNAL] [] [Foot.periodNext]
def Foot.demandFollow : List Touch := touches [R.MODE_STATUS_RAIL_DEMAND, R.X_HRST_UP] [] [Foot.hrstnFollow, Foot.demandOn,
    Foot.guardInternal, Foot.demandOff]
def Foot.modeTerms : List Touch := touches [R.MODE_STATUS_HARVEST] [] [Foot.demandFollow]
def Foot.wakeBegin : List Touch := touches [R.X_WAKE_OK, R.X_WAKE_IN, R.X_WAKE_OUT] [] [Foot.sleepCredit]
def Foot.wakeEnd : List Touch := touches [R.X_WAKE_OK, R.X_POLL_EVER, R.LDG_E_POLL] [] []
def Foot.wakeDone : List Touch := touches [] [] [Foot.wakeEnd, Foot.wakeLen]
def Foot.modeEntry : List Touch := touches [R.X_WAKE_OK, R.X_SVC_GROUPS] [] [Foot.safeActions, Foot.wakeBegin,
    Foot.wakeRestart, Foot.intervalUpdate, Foot.wakeDone]
def Foot.deadFollow : List Touch := touches [] [] [Foot.chgQualify]
def Foot.modeSnap : List Touch := touches [R.X_HOUR_DUE, R.X_QUIET_TO, R.X_QUIET_FROM] [] [Foot.snapshot]
def Foot.modeNote : List Touch := touches [] [] [Foot.record]
def Foot.modeWrite : List Touch := touches [] [] [Foot.modeSnap, Foot.modeNote]
def Foot.modeStamp : List Touch := touches [R.MODE_CHANGE_TIME, R.MODE_CAUSE] [] []
def Foot.modeRecord : List Touch := touches [] [] [Foot.modeWrite, Foot.modeStamp]
def Foot.changeMode : List Touch := touches [R.MODE_STATUS_PREV, R.MODE_STATUS_MODE] [] [Foot.modeEntry, Foot.sleepCredit,
    Foot.deadFollow, Foot.modeRecord, Foot.safeRecord]
def Foot.sameMode : List Touch := touches [] [] [Foot.modeNote, Foot.modeStamp]
def Foot.modeFollow : List Touch := touches [] [] [Foot.requestFast, Foot.followAlert, Foot.portsFollow, Foot.startVpre,
    Foot.startVaux, Foot.chgFollow, Foot.lineResume]
def Foot.modeEvaluate : List Touch := touches [R.X_WOKEN, R.X_CAUSES] [] [Foot.modeTerms, Foot.changeMode, Foot.sameMode,
    Foot.modeSnap, Foot.owedSnap, Foot.modeFollow]
def Foot.execModeEvaluate : List Touch := touches [R.X_BATS, R.X_SYSS] [] [Foot.modeEvaluate]
def Foot.linePortOn : List Touch := touches [R.X_SHORTS] [] [Foot.portsFollow, Foot.onPorts, Foot.setHostOff, Foot.setPort]
def Foot.leaveIdle : List Touch := touches [] [] [Foot.chgTo]
def Foot.excludePhase : List Touch := touches [R.CNV_PHn_STAT_CAUSE, R.CNV_STATUS_EXCLUDED, R.CNV_PHn_STAT_EXCLUDED,
    R.CNV_Gg_STAT_STATE, R.X_TUNING, R.X_EQ_HOLD] [] [Foot.switchPhase, Foot.idlePhases, Foot.phasePeaks, Foot.countActive]
def Foot.failPhase (r : Reg) : List Touch := touches [] [] [Foot.latchStand r, Foot.excludePhase]
def Foot.execPhaseShort : List Touch := touches [] [] [Foot.failPhase R.CNV_PH_FAULT_SHORT]
def Foot.execCfgConfirm : List Touch := touches [] [] [Foot.serve, Foot.startConfirm]
def Foot.cancelCutoff : List Touch := touches [R.X_CUTOFF] [] [Foot.portsFollow, Foot.demandOn]
def Foot.chgEndEqualise : List Touch := touches [] [] [Foot.chgTo]
def Foot.execEndEqualise : List Touch := touches [] [] [Foot.chargeControl, Foot.chgEndEqualise]
def Foot.stageWrite : List Touch := touches [R.X_STAGE, R.X_STAGE_TOP] [.staging] []
def Foot.startCommit : List Touch := touches [] [] [Foot.commitAborted, Foot.pushOp]
def Foot.commit : List Touch := touches [R.X_STAGE_LEN, R.X_STAGE_VER, R.X_STAGE] [] [Foot.stageWrite, Foot.startCommit]
def Foot.restartBegin : List Touch := touches [R.MODE_STATUS_RAIL_DEMAND, R.X_FLUSH, R.X_RESTARTING, R.X_HRST_UP] []
    [Foot.requestFast, Foot.hrstnFollow, Foot.guardInternal, Foot.railPs3]
def Foot.chgFaultPp : List Touch := touches [R.X_CHG_PP, R.X_PULSE] [] [Foot.chgDrop, Foot.chgTargets, Foot.chgTo]
def Foot.execBatteryShort : List Touch := touches [] [] [Foot.latchStand R.PP_FAULT_BAT_SHORT, Foot.chgFaultPp, Foot.setBat]
def Foot.execAwakeHoldEnd : List Touch := touches [R.HIF_STATUS_AWAKE] [] []
def Foot.execTuningComplete : List Touch := touches [R.X_TUNING, R.X_TUNE, R.CNV_Gg_STAT_TUNED, R.CNV_Gg_KI, R.CNV_Gg_KP,
    R.X_KI_OK, R.X_KP_OK] [] [Foot.tuneFail]
def Foot.lineControl : List Touch := touches [] [] [Foot.serve]
def Foot.slotsFollow : List Touch := touches [R.LINE_NODES] [] [Foot.stand, Foot.ended]
def Foot.countAlarm : List Touch := touches [R.DE_STATUS] [] []
def Foot.engineRelease : List Touch := touches [R.DE_Ti_LAST, R.DE_Ti_MIN, R.DE_Ti_MAX, R.DE_Ti_MEAN, R.DE_Ti_BASE,
    R.DE_Ti_DEV, R.DE_Ti_SLOPE_NOW, R.DE_Ti_ALARMS_HIGH, R.DE_Ti_ALARMS_LOW, R.DE_Ti_ALARMS_SLOPE, R.DE_Ti_ALARMS_DEV,
    R.DE_Ti_ALARMS_ARMED, R.DE_Ti_ALARMS_VALID, R.X_TR_N, R.X_TR_SUM, R.X_TR_WIN, R.X_TR_K, R.X_TR_BASE, R.X_TR_DEV,
    R.X_TR_COUNT, R.X_TR_REF, R.X_TR_XREF, R.X_TR_TREF] [] [Foot.countAlarm]
def Foot.freeSlot : List Touch := touches [R.X_SLOT_ID, R.X_SLOT_FMT, R.X_SLOT_MASK, R.X_SLOT_MISSES, R.X_SLOT_LAST,
    R.X_SLOT_SEQ, R.X_SLOT_CYC, R.X_SLOT_POLLED, R.X_SLOT_CFG, R.X_SLOT_AMP_OK, R.LINE_SLOTs_STAT_STATE,
    R.LINE_SLOTs_STAT_PORT, R.LINE_SLOTs_STAT_CLASS, R.LINE_SLOTs_STAT_MISSED, R.LINE_SLOTs_STAT_BOUND,
    R.LINE_SLOTs_STAT_AMP] [] [Foot.slotsFollow, Foot.engineRelease]
def Foot.slotCommand : List Touch := touches [] [] [Foot.nextSeq, Foot.lineSend]
def Foot.lineRelease : List Touch := touches [R.X_LINE_LEFT] [] [Foot.freeSlot, Foot.slotCommand, Foot.slotEvent,
    Foot.slotDone]
def Foot.execReleaseSlot : List Touch := touches [] [] [Foot.lineControl, Foot.lineRelease]
def Foot.truncated : List Touch := touches [R.HIF_TRUNC_CNT_TW, R.HIF_TRUNC_CNT_QB] [] [Foot.hold]
def Foot.sliceFail : List Touch := touches [R.X_BIST_MISS, R.BIST_STATUS_RUNNING, R.BIST_STATUS_SAFE] [] [Foot.latchStand
    R.BIST_FAULT_FAILED, Foot.safeFunction]
def Foot.roundDrop : List Touch := touches [R.X_BIST_FIRST, R.X_BIST_MISS, R.BIST_Pp_PROG_PASSED, R.X_BIST_SEEN] [] []
def Foot.roundDone : List Touch := touches [R.BIST_Pp_CNT, R.X_BIST_AT] [] [Foot.ended, Foot.roundDrop]
def Foot.slicePass : List Touch := touches [R.X_BIST_SEEN, R.X_BIST_MISS, R.BIST_Pp_PROG_RETRIES, R.BIST_Pp_PROG_PASSED] []
    [Foot.roundDone, Foot.endP3Window]
def Foot.execHostNotifyAttempt : List Touch := touches [R.X_NOTIFY_TRIES, R.X_NOTIFY_RED, R.HIF_STATUS_NOTIFY_BUSY,
    R.HIF_NOTIFY_CNT_SENT, R.HIF_NOTIFY_CNT_LOST] [.driven] [Foot.latch R.HIF_FAULT_NOTIFY_FAIL, Foot.ended]
def Foot.stepFailed : List Touch := touches [] [.storeOps] [Foot.latch R.JNL_FAULT_PROG_FAIL, Foot.copyBlockBad, Foot.onCopy,
    Foot.storeSettle]
def Foot.storeProgrammed : List Touch := touches [] [.program] [Foot.stepFailed, Foot.stepComplete]
def Foot.railAlert : List Touch := touches [R.X_RAIL_ALERTS] [] [Foot.valtFollow]
def Foot.trend : List Touch := touches [R.CHG_R_TREND_N, R.CHG_R_TREND] [] []
def Foot.coldParts : List Touch := touches [] [.slots, .held, .latched, .program, .erase, .storeOps, .target, .staging, .tw,
    .qb, .driven, .requests] []
def Foot.eRemWrite : List Touch := touches [R.X_EREM_AT, R.LDG_STATUS_EREM_VALID, R.X_EREM_ACC, R.LDG_E_REM] []
    [Foot.ledgerFollow]
def Foot.execERemWrite : List Touch := touches [] [] [Foot.eRemWrite]
def Foot.lineConfig : List Touch := touches [R.X_SLOT_CFG] [] []
def Foot.execConfigNode : List Touch := touches [] [] [Foot.lineControl, Foot.lineConfig]
def Foot.execFrameRetry : List Touch := touches [R.X_TRY] [] [Foot.sendFrame]
def Foot.sendPark : List Touch := touches [] [] [Foot.lineSend]
def Foot.execRclGetStatus : List Touch := touches [] [] [Foot.rclFrame]
def Foot.eRemFull : List Touch := touches [R.LDG_STATUS_EREM_VALID, R.LDG_E_REM] [] []
def Foot.terminate : List Touch := touches [R.CHG_FULL] [] [Foot.eRemFull, Foot.timersReset]
def Foot.execAbsorbEnd : List Touch := touches [] [] [Foot.chgTo, Foot.terminate]
def Foot.yellow : List Touch := touches [R.WDT_LADDER_Y, R.WDT_YELLOW_CNT, R.WDT_STATUS_YELLOW_PULSE] [] [Foot.latch
    R.SUP_FAULT_YELLOW, Foot.wdtEvent, Foot.hrstnFollow, Foot.periodNext, Foot.selfReject]
def Foot.orange : List Touch := touches [R.WDT_LADDER_O, R.WDT_LADDER_Y, R.WDT_ORANGE_CNT] [] [Foot.latch R.SUP_FAULT_ORANGE,
    Foot.wdtEvent, Foot.restartDue, Foot.startRevert]
def Foot.black : List Touch := touches [R.X_BLACK_SUP, R.X_BLACK_CODE, R.X_BLACK_TICK] [] [Foot.latch R.SUP_FAULT_BLACK,
    Foot.safeCause]
def Foot.violation : List Touch := touches [R.WDT_LAST_KIND, R.WDT_LAST_DUP, R.WDT_LAST_MISSING] [] [Foot.yellow,
    Foot.orange, Foot.black]
def Foot.serviced : List Touch := touches [R.WDT_LADDER_O, R.WDT_LADDER_Y] [] [Foot.periodNext]
def Foot.keyWrite : List Touch := touches [] [] [Foot.violation, Foot.serviced]
def Foot.connectRise : List Touch := touches [R.PP_SYS_TARGET, R.X_CONN] [] []
def Foot.execRoleEvaluate : List Touch := touches [R.X_BATS, R.X_SYSS, R.PP_STATUS_VSU_ON, R.PP_STATUS_SUPPL,
    R.PP_STATUS_PLIM, R.PP_LIN_I, R.PP_STATUS_ROLE, R.X_SUPPL] [] [Foot.openPair, Foot.setBat, Foot.needP3, Foot.connectRise,
    Foot.startVpre, Foot.startVaux, Foot.coldStartCheck, Foot.sysFollow]
def Foot.alertFollow : List Touch := touches [R.Q_ALERT] [] [Foot.followAlert]
def Foot.railTuned : List Touch := touches [R.X_RAIL_KEEP, R.RAIL_x_STAT_STATE, R.X_RAIL_NAMED, R.RAIL_x_STAT_PS] [] []
def Foot.batteryLost : List Touch := touches [] [] [Foot.latchStand R.PP_FAULT_BAT_LOST, Foot.chgFaultPp, Foot.setBat]
def Foot.ppTrip (r : Reg) : List Touch := touches [R.PP_TRIP_CNT, R.X_TRIP_AT, R.X_TRIPPED] [] [Foot.latch r,
    Foot.chgFaultPp, Foot.openPair, Foot.ppFailure]
def Foot.execDischargeOvercurrent : List Touch := touches [] [] [Foot.ppTrip R.PP_FAULT_DSG_OC]
def Foot.execVauxInRegulation : List Touch := touches [R.AUX_VAUX_I, R.AUX_VAUX_V, R.AUX_STATUS_VPRE_HOLD_DRV,
    R.AUX_STATUS_VAUX_REG, R.X_VAUX_FAILS] [] [Foot.portsFollow, Foot.startVpre, Foot.coldStartEnd]
def Foot.execPhaseOpen : List Touch := touches [] [] [Foot.failPhase R.CNV_PH_FAULT_OPEN]
def Foot.offerHeld : List Touch := touches [] [.held] [Foot.offer]
def Foot.startRecords : List Touch := touches [R.X_BIST_AT] [] [Foot.bootScan, Foot.record, Foot.modeWrite, Foot.offerHeld,
    Foot.selectedRecord, Foot.modeFollow, Foot.startSafe]
def Foot.startMode : List Touch := touches [R.MODE_STATUS_MODE, R.X_CAUSES] [] [Foot.modeTerms, Foot.modeEntry]
def Foot.execGroupSwitchStart : List Touch := touches [R.CNV_Gg_STAT_TUNED, R.X_BOOT, R.CNV_Gg_KI, R.CNV_Gg_KP] []
    [Foot.tuneDue, Foot.switchOn]
def Foot.execPhRetry : List Touch := touches [] [] [Foot.phRetry]
def Foot.modeRequest : List Touch := touches [] [] [Foot.serve]
def Foot.enterService : List Touch := touches [R.X_SVC_END, R.X_SERVICE] [] [Foot.cause]
def Foot.execEnterService : List Touch := touches [] [] [Foot.modeRequest, Foot.enterService]
def Foot.execCfgStageWrite : List Touch := touches [] [] [Foot.serve, Foot.refusal, Foot.stageWrite]
def Foot.setBand : List Touch := touches [R.X_KBAD, R.INn_STAT_DECLARED, R.INn_STAT_BAND, R.X_DECODE_AT, R.X_DECODED] [] []
def Foot.execIdRedecode : List Touch := touches [R.X_IDDIFF] [] [Foot.setBand, Foot.restartClass, Foot.dropClass]
def Foot.execBatteryRemoval : List Touch := touches [] [] [Foot.setBat, Foot.batteryLost, Foot.tripGroup, Foot.endTrip]
def Foot.execDeadTimeUpdate : List Touch := touches [R.CNV_PHn_DT_U_RISE, R.CNV_PHn_DT_U_FALL, R.CNV_PHn_DT_D_RISE,
    R.CNV_PHn_DT_D_FALL] [] []
def Foot.execWdtInternalService : List Touch := touches [] [] [Foot.periodNext]
def Foot.periodStart : List Touch := touches [R.WDT_WINDOW_AT, R.X_WDT_LEN, R.X_WDT_CODE, R.X_WDT_NEW,
    R.WDT_STATUS_WINDOW_OPEN, R.WDT_POS, R.WDT_STATUS_BOOT] [] []
def Foot.wdtEnable : List Touch := touches [R.X_DIS_ARM, R.WDT_STATUS_ENABLED] [] [Foot.periodStart, Foot.periodNext,
    Foot.wdtEvent]
def Foot.wdtDisable : List Touch := touches [R.X_DIS_ARM, R.WDT_STATUS_ENABLED] [] [Foot.wdtEvent]
def Foot.disableWrite : List Touch := touches [R.X_DIS_AT, R.X_DIS_ARM] [] [Foot.wdtEnable, Foot.wdtDisable]
def Foot.retest : List Touch := touches [R.X_HELD, R.BIST_STATUS_SAFE] [] [Foot.latchStand R.BIST_FAULT_FAILED, Foot.ended,
    Foot.roundDone]
def Foot.execCcResult : List Touch := touches [R.MEAS_STATUS_CC_SAT, R.MEAS_CC_I, R.MEAS_CC_RAW] [] [Foot.latchStand
    R.MEAS_FAULT_CC_SAT, Foot.ended]
def Foot.trackFollow : List Touch := touches [R.TRKn_VSET, R.X_SWEEP_DUE, R.X_RETAKE] [] []
def Foot.trimSat : List Touch := touches [R.X_SAT, R.CNV_PHn_STAT_TRIM_SAT] [] []
def Foot.rideBegin : List Touch := touches [R.MODE_STATUS_RIDE_ACTIVE, R.SUP_STATUS_RIDE, R.SUP_STATUS_BELOW_WARN,
    R.X_RIDE_AT] [] [Foot.chgHold R.CHG_HOLD_RIDE, Foot.latchStand R.SUP_FAULT_SUP_WARN, Foot.wake R.MODE_WAKE_SRC_SUPWARN,
    Foot.suspendErase, Foot.followAlert, Foot.cause]
def Foot.fireStep : List Touch := touches [R.X_FIRED, R.X_LEAD, R.X_TOKEN] [] []
def Foot.execDriveSupplyClear : List Touch := touches [] [] [Foot.ended, Foot.endTrip]
def Foot.execInputOvClear : List Touch := touches [R.X_VBUS, R.X_OV, R.X_DECODED, R.X_READMIT] [] [Foot.endTrip, Foot.ended,
    Foot.restartClass, Foot.setInstate]
def Foot.readmit : List Touch := touches [R.X_DECODED, R.X_READMIT] [] [Foot.setInstate, Foot.restartClass]
def Foot.thermGroupBack : List Touch := touches [R.X_TRIP] [] [Foot.settleGroup, Foot.readmit, Foot.endTrip]
def Foot.execSafetyTimerTick : List Touch := touches [R.X_PRE_S, R.CHG_TABS, R.CHG_TCHG_ACC] [] []
def Foot.addSector : List Touch := touches [R.X_FIRST_POR, R.X_SERIAL] [.ring] []
def Foot.freeSlots : List Touch := touches [] [.slots] []
def Foot.popRecords : List Touch := touches [] [.slots] [Foot.followAlert, Foot.freeSlots, Foot.alertFollow]
def Foot.readOut : List Touch := touches [] [.driven] [Foot.popRecords, Foot.setHif]
def Foot.vauxMove : List Touch := touches [R.AUX_VAUX_SET] [] []
def Foot.reErased : List Touch := touches [] [] [Foot.editRetained]
def Foot.blockErased : List Touch := touches [] [.ring, .ahead] [Foot.marginFollow, Foot.ringFollow, Foot.reErased,
    Foot.saveRetained, Foot.takeBlock]
def Foot.ringErased : List Touch := touches [] [] [Foot.latch R.JNL_FAULT_ERASE_FAIL, Foot.saveRetained, Foot.reErased,
    Foot.growBad, Foot.blockErased]
def Foot.enableInput : List Touch := touches [R.INn_CTRL, R.X_READMIT] [] [Foot.abortSweep, Foot.endProbe, Foot.setInstate,
    Foot.gatesAfterRamp, Foot.rampDown, Foot.dropClass, Foot.restartClass]
def Foot.reclassify : List Touch := touches [R.X_FETBAD] [] [Foot.ended, Foot.abortSweep, Foot.endProbe, Foot.sourceEvent,
    Foot.dropClass, Foot.restartClass]
def Foot.sweepNow : List Touch := touches [R.X_SWEEP_DUE] [] []
def Foot.wroteInput : List Touch := touches [R.INn_CTRL] [] [Foot.enableInput, Foot.reclassify, Foot.sweepNow]
def Foot.profileChanged : List Touch := touches [R.X_PULSE, R.CHG_TERM_CNT, R.CHG_FULL] [] [Foot.chgFollow, Foot.timersReset,
    Foot.cutRest, Foot.chgSet, Foot.pulseRecord]
def Foot.wroteCharge : List Touch := touches [] [] [Foot.chgHold R.CHG_HOLD_BMSOK, Foot.chgFollow, Foot.profileChanged,
    Foot.chgTargets, Foot.windowFollow, Foot.agedFollow]
def Foot.setSlot : List Touch := touches [R.LINE_SLOTs_STAT_STATE] [] [Foot.slotsFollow]
def Foot.slotEnable : List Touch := touches [R.LINE_SLOTs_CFG_EN, R.X_SLOT_SEQ, R.X_LINE_LEFT] [] [Foot.slotCommand,
    Foot.setSlot]
def Foot.capApply : List Touch := touches [R.X_CAP_WAIT, R.Qq_CAP] [] [Foot.capFollow, Foot.alertFollow, Foot.evictTo]
def Foot.capWrite : List Touch := touches [R.X_CAP_WAIT, R.X_CAP_NEW] [] [Foot.capApply, Foot.capFollow]
def Foot.endLockout : List Touch := touches [R.X_FAILS, R.X_LOCKOUT] [] [Foot.ended]
def Foot.ppRetryNow : List Touch := touches [R.PP_STATUS_RETRY_WAIT] [] [Foot.endLockout]
def Foot.probeNow : List Touch := touches [R.X_PROBE_DUE] [] []
def Foot.powerCommand : List Touch := touches [] [] [Foot.ppRetryNow, Foot.probeNow]
def Foot.vpreRetry : List Touch := touches [R.X_VPRE_FAILS, R.X_VPRE] [] [Foot.startVpre]
def Foot.clearCounters : List Touch := touches [R.X_LDG_ACC, R.LDG_COUNTERk] [] []
def Foot.ledgerCommand : List Touch := touches [] [] [Foot.clearCounters, Foot.snapshot]
def Foot.resetBase : List Touch := touches [R.DE_Ti_ALARMS_ARMED, R.DE_Ti_DEV, R.DE_Ti_BASE, R.X_TR_COUNT, R.X_TR_DEV,
    R.X_TR_BASE] [] []
def Foot.resetWindow : List Touch := touches [R.X_TR_SUM, R.X_TR_N] [] []
def Foot.clearAlarms : List Touch := touches [R.DE_Ti_ALARMS_DEV, R.DE_Ti_ALARMS_SLOPE, R.DE_Ti_ALARMS_LOW,
    R.DE_Ti_ALARMS_HIGH] [] [Foot.countAlarm]
def Foot.engineCommand : List Touch := touches [] [] [Foot.resetBase, Foot.resetWindow, Foot.clearAlarms]
def Foot.thEnded : List Touch := touches [] [] [Foot.ended]
def Foot.thRestart : List Touch := touches [R.X_TH_BAD, R.X_TH_RUN] [] [Foot.thEnded, Foot.setTemp, Foot.setJudge]
def Foot.thmCtrl : List Touch := touches [R.THM_STATUS_TS_EXCLUDED] [] [Foot.windowFollow, Foot.thRestart, Foot.fbDone]
def Foot.fbClear : List Touch := touches [R.THM_STATUS_TS_EXCLUDED] [] [Foot.fbRelease]
def Foot.wrote : List Touch := touches [R.LINE_SLOTs_CFG_EN, R.Qq_CAP, R.DEV_CLK_EPOCH_SET] [] [Foot.wroteInput,
    Foot.mapWrite, Foot.wroteCharge, Foot.slotEnable, Foot.capWrite, Foot.curveFollow, Foot.cause, Foot.stopGrace,
    Foot.judgeOrder, Foot.converterCommand, Foot.sysFollow, Foot.powerCommand, Foot.startVpre, Foot.startVaux,
    Foot.vpreRetry, Foot.valtFollow, Foot.ledgerFollow, Foot.eRemWrite, Foot.ledgerCommand, Foot.lineCtrl,
    Foot.engineCommand, Foot.followAlert, Foot.keyWrite, Foot.disableWrite, Foot.thmCtrl, Foot.foldback, Foot.fbClear]
def Foot.switchTo : List Touch := touches [R.DEV_CFG_DIRTY] [] [Foot.putImage, Foot.wrote]
def Foot.switchDefaults : List Touch := touches [R.X_STORE_VER, R.X_SWITCH] [.loaded, .target] [Foot.switchTo,
    Foot.storeRegs, Foot.defaultsMarked, Foot.trialOver, Foot.cfgEventOf]
def Foot.cfgSwitch : List Touch := touches [R.CHG_STATUS_SAFE_PROFILE, R.X_SWITCH, R.X_STORE_VER] [.loaded, .target]
    [Foot.switchTo, Foot.trialOver, Foot.trialTo, Foot.storeRegs, Foot.judgeProfile, Foot.cfgEventOf, Foot.switchDefaults]
def Foot.execPortToKeepAlive : List Touch := touches [R.X_LINE_UP, R.X_POLL, R.X_KA_POWER] [] [Foot.lineIdle,
    Foot.ledgerFollow, Foot.setPort, Foot.portOff]
def Foot.execFastClockStop : List Touch := touches [R.X_SLEEP_AT, R.X_SLEEPING, R.DEV_CLK_FAST_ON] [] [Foot.abortSlice]
def Foot.rampFollow : List Touch := touches [R.X_RAMP] [] []
def Foot.noCeilings : List Touch := touches [R.TRK_STATUS_SHORTFALL, R.TRK_STATUS_TRIM, R.TRKn_STAT_TRIM] []
    [Foot.rampFollow, Foot.setCeiling]
def Foot.sliceStart : List Touch := touches [R.X_BIST_SLICE, R.BIST_STATUS_PART, R.BIST_STATUS_RUNNING] [] []
def Foot.execVauxStop : List Touch := touches [] [] [Foot.stopVaux]
def Foot.minSys : List Touch := touches [R.SUP_MIN_SYS] [] []
def Foot.staleCheck : List Touch := touches [] [] [Foot.latchStand R.MEAS_FAULT_OFS_STALE]
def Foot.ledgerBat : List Touch := touches [R.X_WAKE_OUT, R.X_WAKE_IN] [] [Foot.eRemMove]
def Foot.execLedgerUpdate : List Touch := touches [R.MEAS_VBAT, R.X_SYSS, R.AUX_VAUX_I, R.AUX_VAUX_V, R.MEAS_IBAT, R.INn_I,
    R.INn_V, R.LINE_x_I, R.LINE_x_VMEAS, R.AUX_STATUS_VAUX_ILIM, R.LINE_STATUS_B_ILIM, R.LINE_STATUS_A_ILIM] [] [Foot.minSys,
    Foot.abortSlice, Foot.staleCheck, Foot.vauxMove, Foot.ledgerBat, Foot.ledgerAdd, Foot.ledgerFollow]
def Foot.execInputOvervoltage : List Touch := touches [R.X_OV, R.INn_STAT_ISSUE, R.X_RETAKE, R.X_TRIP,
    R.IN_STATUS_TS_RELEASED, R.X_ABSENT_AT, R.X_READMIT] [] [Foot.latchStand R.IN_FAULT_OV, Foot.tripGroup, Foot.abortSweep,
    Foot.gates, Foot.zeroCeiling, Foot.dropClass, Foot.setInstate]
def Foot.advanceHead : List Touch := touches [R.JNL_HEAD_PAGE_SECTOR] [] [Foot.nextPage]
def Foot.supplyLost : List Touch := touches [R.X_DOWN] [] [Foot.stopCommit, Foot.advanceHead, Foot.addSector,
    Foot.hrstnFollow, Foot.coldParts, [.within .cold]]
def Foot.execVaoBelowReset : List Touch := touches [R.X_PASSIVE] [.retained, .retainedOld] [Foot.supplyLost]
def Foot.alwaysOnReset : List Touch := touches [R.X_TIME_RATE, R.X_WAKE_LEN, R.X_WAKE_AT, R.X_SLOW, R.X_CUT_MODE,
    R.X_CUTOFF_REST, R.X_FAST_AT, R.X_CORR_AT, R.X_TIME_ACC, R.X_PASSIVE, R.X_DOWN] [] []
def Foot.strapFollow : List Touch := touches [R.HIF_ADDR_EFFECTIVE, R.HIF_ADDR_STRAP] [] [Foot.latchStand
    R.HIF_FAULT_ADDR_INVALID, Foot.ended]
def Foot.lbist : List Touch := touches [R.BIST_POR_RESULT, R.BIST_Pp_PROG_LAST, R.X_HELD, R.X_P0_ONLY] [] [Foot.roundDone,
    Foot.safeCause]
def Foot.heldFollow : List Touch := touches [] [] [Foot.followAlert, Foot.hrstnFollow]
def Foot.execPowerOnReset : List Touch := touches [R.WDT_LOCK, R.PP_STATUS_VSU_ON, R.MODE_CHANGE_TIME, R.MODE_CAUSE]
    [.grownBad] [Foot.alwaysOnReset, Foot.supplyLost, Foot.strapFollow, Foot.otpFollow, Foot.lbist, Foot.heldFollow,
    Foot.startLogic, Foot.startMode, Foot.startRecords]
def Foot.execSelftestRun : List Touch := touches [R.X_BIST_FIRST] [] [Foot.serve]
def Foot.holdFollow : List Touch := touches [R.Q_STATUS_HOLD] [] []
def Foot.execRetryNow : List Touch := touches [] [] [Foot.ppRetryNow]
def Foot.execVauxOutOfRegulation : List Touch := touches [] [] [Foot.vauxOutOfReg]
def Foot.weakFollow : List Touch := touches [R.X_UNGOV] [] [Foot.ended]
def Foot.readFaultsP0 : List Touch := touches [] [] [Foot.followAlert, Foot.readAction]
def Foot.readFaults : List Touch := touches [] [] [Foot.followAlert, Foot.readAction]
def Foot.execReadFaults : List Touch := touches [] [] [Foot.serve, Foot.readFaultsP0, Foot.readFaults, Foot.okData]
def Foot.regionFollow : List Touch := touches [] [] [Foot.slopeFollow, Foot.regionSet]
def Foot.cancelShip : List Touch := touches [R.X_SHIP_OFF, R.MODE_STATUS_SHIP_PENDING] [] [Foot.cause]
def Foot.execInputPresent : List Touch := touches [R.X_VBUS, R.IN_STATUS_PRESENT, R.X_DEBOUNCE, R.PP_STATUS_VSU_ON,
    R.X_FAILS, R.X_LOCKOUT, R.X_DECODED, R.X_READMIT] [] [Foot.endTrip, Foot.cancelCutoff, Foot.cancelShip, Foot.ended,
    Foot.gates, Foot.restartClass]
def Foot.enterShip : List Touch := touches [R.MODE_STATUS_SHIP_PENDING] [] []
def Foot.execEnterShip : List Touch := touches [] [] [Foot.modeRequest, Foot.enterShip]
def Foot.execRailHiccupEnd : List Touch := touches [R.RAIL_x_STAT_FAILS] [] [Foot.railSoft, Foot.railStop]
def Foot.execAdcReferenceFail : List Touch := touches [] [] [Foot.refFail]
def Foot.execYellowPulseEnd : List Touch := touches [R.WDT_STATUS_YELLOW_PULSE] [] [Foot.hrstnFollow, Foot.guardTasks]
def Foot.logicReset : List Touch := touches [R.MODE_STATUS_RAIL_DEMAND, R.MODE_STATUS_GRACE, R.MODE_STATUS_COUPLED,
    R.HIF_STATUS_AWAKE, R.MODE_STATUS_HARVEST, R.MODE_STATUS_SHIP_PENDING, R.X_HOLD_AT, R.X_RIDE_AT,
    R.HIF_STATUS_NOTIFY_BUSY] [.latched, .program, .storeOps, .target, .staging, .tw, .qb, .driven, .requests]
    [Foot.abortErase, [.within .restart]]
def Foot.restartEnd : List Touch := touches [R.BIST_Pp_PROG_PASSED, R.Q_STATUS_HOLD, R.X_CAUSES] [] [Foot.chgHold
    R.CHG_HOLD_RIDE, Foot.logicReset, Foot.recovered, Foot.retest, Foot.lbist, Foot.heldFollow, Foot.marginFollow,
    Foot.startLogic, Foot.selectedRecord, Foot.modeTerms, Foot.wdtEvent, Foot.startSafe, Foot.changeMode, Foot.modeFollow]
def Foot.execInputComparatorTrip : List Touch := touches [R.X_DEBOUNCE] [] [Foot.wake R.MODE_WAKE_SRC_INPUT, Foot.ended,
    Foot.setInstate]
def Foot.thermGroup : List Touch := touches [R.X_TRIP] [] [Foot.settleGroup, Foot.gates, Foot.tripGroup]
def Foot.thermStages : List Touch := touches [R.X_HRST_UP, R.MODE_STATUS_RAIL_DEMAND] [] [Foot.dropCeilings,
    Foot.endP3Window, Foot.abortSlice, Foot.thermGroup, Foot.demandOff, Foot.stopVaux, Foot.hrstnFollow, Foot.guardInternal,
    Foot.railsKill, Foot.abortErase, Foot.chgStopNow, Foot.portOff]
def Foot.thermStop : List Touch := touches [R.X_HOLD_AT, R.MODE_STATUS_THERM_ACTIVE, R.THM_STATUS_HOLD, R.THM_SHUT_CNT] []
    [Foot.latchStand R.THM_FAULT_DIE_SHUTDOWN, Foot.cause, Foot.holdFollow, Foot.followAlert, Foot.requestFast,
    Foot.thermStages]
def Foot.railControl : List Touch := touches [] [] [Foot.serve, Foot.railCommand]
def Foot.execRailControlSetVid : List Touch := touches [] [] [Foot.railControl]
def Foot.seqReset : List Touch := touches [R.X_PULSE] [] [Foot.chgTo, Foot.lineIdle, Foot.abortErase]
def Foot.seqRestart : List Touch := touches [R.WDT_SEQ_RESTARTS, R.X_SEQ_N, R.X_SEQ_AT] [] [Foot.latch
    R.SUP_FAULT_SEQ_RESTART, Foot.seqReset, Foot.wdtEvent, Foot.violation]
def Foot.startProgram : List Touch := touches [] [.program] []
def Foot.execGreenFillTimeout : List Touch := touches [] [] [Foot.startProgram]
def Foot.railLatch (r : Reg) : List Touch := touches [] [] [Foot.latch r, Foot.railAlert]
def Foot.execRailOvervoltage : List Touch := touches [] [] [Foot.railLatch R.AUX_FAULT_RAILA_OV, Foot.railLatch
    R.AUX_FAULT_RAILB_OV]
def Foot.learnAmp : List Touch := touches [R.X_SLOT_AMP_OK, R.LINE_SLOTs_STAT_AMP] [] []
def Foot.slotHeard : List Touch := touches [R.X_SLOT_LAST, R.LINE_SLOTs_STAT_CLASS, R.LINE_SLOTs_STAT_MISSED] []
    [Foot.learnAmp, Foot.slotEvent, Foot.setSlot]
def Foot.execConfigReply : List Touch := touches [] [] [Foot.configDone, Foot.slotHeard]
def Foot.execNodeInfo : List Touch := touches [] [] [Foot.serve, Foot.refusal, Foot.okData]
def Foot.execPeakLimit : List Touch := touches [R.X_ON_NS, R.CNV_PHn_PKLIM_CNT] [] [Foot.addBack]
def Foot.exitNacks : List Touch := touches [R.HIF_STATUS_AWAKE, R.HIF_NACK_CNT] [] []
def Foot.thermRelease : List Touch := touches [R.MODE_STATUS_THERM_ACTIVE, R.THM_STATUS_HOLD, R.THM_HOLD_LAST] [.held]
    [Foot.cause, Foot.ended, Foot.holdFollow, Foot.reportAbort, Foot.offer, Foot.startVpre, Foot.startVaux,
    Foot.thermGroupBack, Foot.followAlert, Foot.chgFollow]
def Foot.journalRead : List Touch := touches [R.JNL_ECC_MAX, R.JNL_ECC_CORR, R.JNL_ECC_UNCORR] [] [Foot.latch
    R.JNL_FAULT_UNCORR, Foot.refusal, Foot.abortSlice, Foot.okData]
def Foot.execUvCutoff : List Touch := touches [R.X_CUT_MODE, R.X_CUTOFF] [] [Foot.latch R.PP_FAULT_UV_CUTOFF,
    Foot.cutoffPorts, Foot.railPs3]
def Foot.execInputEnableWrite : List Touch := touches [R.DEV_CFG_DIRTY] [] [Foot.enableInput]
def Foot.modulate : List Touch := touches [R.X_TUNE_EV, R.X_TUNE_LOOP, R.X_TGT_VIN, R.X_TGT_IIN, R.X_TGT_IBAT, R.X_TGT_VBAT,
    R.X_TGT_SYS] [] []
def Foot.execTwReadReply : List Touch := touches [] [] [Foot.twTransaction, Foot.readOut]
def Foot.execVpreInRegulation : List Touch := touches [R.X_VPRE_AT, R.AUX_PRE_V, R.AUX_STATUS_VPRE_REG, R.X_VPRE] []
    [Foot.railsGo, Foot.dieFollow]
def Foot.execPrechargeComplete : List Touch := touches [] [] [Foot.firstPulse]
def Foot.chgEqualise : List Touch := touches [] [] [Foot.chgTo]
def Foot.execEqualise : List Touch := touches [] [] [Foot.chargeControl, Foot.chgEqualise]
def Foot.execResetTrackerAll : List Touch := touches [] [] [Foot.engineCommand]
def Foot.batteryMissing : List Touch := touches [] [] [Foot.latchStand R.PP_FAULT_BAT_MISSING, Foot.openPair, Foot.setBat]
def Foot.execEmptyConnector : List Touch := touches [] [] [Foot.batteryMissing, Foot.openPair]
def Foot.execUvInhibit : List Touch := touches [R.PP_STATUS_UV_INHIBIT] [] [Foot.latchStand R.PP_FAULT_BAT_UV, Foot.needP3]
def Foot.execSweepNow : List Touch := touches [] [] [Foot.sweepNow]
def Foot.execUnsupportedSysFall : List Touch := touches [R.X_PULSE] [] [Foot.setBat, Foot.chgTo]
def Foot.packet : List Touch := touches [] [] [Foot.truncated, Foot.arrive]
def Foot.execTwWriteRequest : List Touch := touches [] [] [Foot.twTransaction, Foot.rewind, Foot.packet]
def Foot.execPortShort : List Touch := touches [R.X_SHORTS, R.X_POLL] [] [Foot.latch R.LINE_FAULT_A_SHORT, Foot.latch
    R.LINE_FAULT_B_SHORT, Foot.nodeEvent, Foot.portDown]
def Foot.execGroupOffDelayEnd : List Touch := touches [] [] [Foot.stopGroup]
def Foot.execSupWarn : List Touch := touches [R.X_SYSS] [] [Foot.rideBegin]
def Foot.execFastClockStart : List Touch := touches [R.X_FAST_AT, R.X_FAST_REQ, R.DEV_CLK_FAST_ON, R.X_SLEEPING,
    R.HIF_STATUS_AWAKE, R.X_HOLD_DUE] [] [Foot.sleepCredit, Foot.hourSnap]
def Foot.execShipDelayExpire : List Touch := touches [R.X_SHIP_OFF] [] [Foot.demandFollow, Foot.cause]
def Foot.commitCount : List Touch := touches [R.Q_WORST, R.Qq_LATE] [] [Foot.latch R.Q_FAULT_B_LATE]
def Foot.commitSector : List Touch := touches [] [.slots, .program] [Foot.addSector, Foot.freeSlots, Foot.ringFollow,
    Foot.advanceHead, Foot.saveRetained, Foot.commitCount]
def Foot.flushAll : List Touch := touches [] [] [Foot.commitSector]
def Foot.journalMark : List Touch := touches [] [] [Foot.offerB, Foot.okData]
def Foot.queueRead : List Touch := touches [] [] [Foot.refusal]
def Foot.execQueuePeek : List Touch := touches [] [] [Foot.serve, Foot.queueRead]
def Foot.chgRamp : List Touch := touches [R.CHG_I_TARGET] [] []
def Foot.execSectorProgramComplete : List Touch := touches [] [] [Foot.dieFollow, Foot.programFailed, Foot.commitSector]
def Foot.baseStep : List Touch := touches [R.DE_Ti_ALARMS_DEV, R.X_TR_DEV, R.X_TR_BASE, R.DE_Ti_ALARMS_ARMED, R.X_TR_COUNT,
    R.DE_Ti_DEV, R.DE_Ti_BASE] [] []
def Foot.railReached : List Touch := touches [R.X_RAIL_FAST, R.RAIL_x_STAT_SLEWING] [] []
def Foot.railSettled : List Touch := touches [R.RAIL_x_STAT_SETTLED] [] [Foot.railReached, Foot.railAlert]
def Foot.execSweepAbort : List Touch := touches [] [] [Foot.abortSweep]
def Foot.execRclFrameAbandon : List Touch := touches [R.RCL_ABORT_CNT] [] [Foot.rclAnswer]
def Foot.execTripCountReset : List Touch := touches [R.X_TRIPPED, R.X_FAILS] [] []
def Foot.hrstnEase : List Touch := touches [R.X_HRST_EXT] [] [Foot.hrstnFollow]
def Foot.timeTick : List Touch := touches [R.DEV_TIME, R.X_TIME_ACC, R.DEV_CLK_CORR_STALE] [] []
def Foot.overdueCheck : List Touch := touches [] [] [Foot.latchStand R.BIST_FAULT_OVERDUE]
def Foot.expire : List Touch := touches [] [] [Foot.violation]
def Foot.wdtTick : List Touch := touches [R.WDT_STATUS_WINDOW_OPEN, R.WDT_POS] [] [Foot.periodStart, Foot.expire,
    Foot.periodNext]
def Foot.startStoreProgram : List Touch := touches [] [.program] []
def Foot.tick : List Touch := touches [R.X_SLOW, R.X_TICKS, R.X_GOOD] [] [Foot.hrstnEase, Foot.timeTick, Foot.overdueCheck,
    Foot.staleCheck, Foot.wdtTick, Foot.startStoreProgram]
def Foot.vpreGood : List Touch := touches [R.X_VPRE_FAILS] [] []
def Foot.stopVpre : List Touch := touches [R.AUX_PRE_V, R.AUX_STATUS_VPRE_HOLD_DRV, R.AUX_STATUS_VPRE_REG,
    R.AUX_STATUS_VPRE_ON, R.X_VPRE] [] [Foot.vpreGood, Foot.abortSlice, Foot.dieFollow]
def Foot.execVpreStop : List Touch := touches [] [] [Foot.stopVpre]
def Foot.execJournalRead : List Touch := touches [] [] [Foot.serve, Foot.journalRead]
def Foot.execHrstnExternalLow : List Touch := touches [R.X_HRST_EXT, R.HIF_HRST_EXT_CNT] [] [Foot.hrstnFollow]
def Foot.qbTransaction : List Touch := touches [R.HIF_STATUS_VDDIO_OK] [.driven] [Foot.awake]
def Foot.execBulkInvalidInstruction : List Touch := touches [] [] [Foot.latch R.HIF_FAULT_BULK_ERR, Foot.qbTransaction]
def Foot.execLineCycleStart : List Touch := touches [] [] [Foot.cycleDue]
def Foot.sendAssign : List Touch := touches [R.X_WALK_HOW, R.X_WALK_SLOT, R.X_WALK_ID, R.X_TRY, R.X_FRAME, R.X_SLOT_SEQ] []
    [Foot.sendFrame]
def Foot.plainTargets : List Touch := touches [R.X_TGT_VBAT, R.X_TGT_IBAT, R.X_TGT_IIN, R.X_TGT_VIN, R.X_TGT_SYS] [] []
def Foot.execReversePolarity : List Touch := touches [R.INn_STAT_ISSUE] [] [Foot.latchStand R.IN_FAULT_REV_POL, Foot.gates,
    Foot.ended]
def Foot.execPortOff : List Touch := touches [] [] [Foot.lineControl, Foot.linePortOff]
def Foot.execBistSliceStart : List Touch := touches [] [] [Foot.sliceStart]
def Foot.startYard : List Touch := touches [] [] [Foot.cycleDue]
def Foot.portActive : List Touch := touches [R.X_SHORTS] [] [Foot.startYard, Foot.setPort]
def Foot.runEnd : List Touch := touches [R.X_RUN] [] [Foot.portActive, Foot.lineGoOn]
def Foot.runStep : List Touch := touches [] [] [Foot.frameIdle, Foot.runEnd, Foot.sendWalk]
def Foot.yardWake : List Touch := touches [R.X_POLL, R.X_RETRY] [] [Foot.portsFollow]
def Foot.execFbClear : List Touch := touches [] [] [Foot.fbClear]
def Foot.execSweepStart : List Touch := touches [R.TRKn_VSET, R.X_VSET_OLD, R.X_SWEEP_DUE, R.TRK_STATUS_SWEEPING,
    R.TRKn_STAT_STYLE] [] [Foot.setCeiling]
def Foot.execServiceTimeout : List Touch := touches [R.X_SERVICE] [] [Foot.cause]
def Foot.overflow : List Touch := touches [R.LINE_OVF_ID, R.LINE_OVF_COUNT] [] [Foot.latch R.LINE_FAULT_OVERFLOW,
    Foot.sendPark, Foot.nodeEvent]
def Foot.readParam : List Touch := touches [] [] [Foot.refusal, Foot.readWords, Foot.okData]
def Foot.chgRestartAction : List Touch := touches [] [] [Foot.chgRestart]
def Foot.execRestart : List Touch := touches [] [] [Foot.chargeControl, Foot.chgRestartAction]
def Foot.windowStep : List Touch := touches [R.X_TR_SUM, R.X_TR_K, R.X_TR_WIN, R.DE_Ti_ALARMS_VALID, R.DE_Ti_LAST,
    R.DE_Ti_MAX, R.DE_Ti_MIN, R.X_TR_N, R.DE_Ti_MEAN] [] []
def Foot.slopeStep : List Touch := touches [R.X_TR_TREF, R.X_TR_XREF, R.X_TR_REF, R.DE_Ti_ALARMS_SLOPE, R.DE_Ti_SLOPE_NOW] []
    []
def Foot.sample : List Touch := touches [] [] [Foot.windowStep, Foot.limitStep, Foot.slopeStep, Foot.baseStep,
    Foot.countAlarm, Foot.offer]
def Foot.derive : List Touch := touches [] [] [Foot.sample]
def Foot.engineReply : List Touch := touches [] [] [Foot.latch R.DE_FAULT_PAYLOAD, Foot.latch R.DE_FAULT_UNSYNCED,
    Foot.sample, Foot.derive]
def Foot.execRetune : List Touch := touches [] [] [Foot.retune]
def Foot.endGrace : List Touch := touches [] [] [Foot.cause, Foot.stopGrace]
def Foot.execEndGrace : List Touch := touches [] [] [Foot.modeRequest, Foot.endGrace]
def Foot.summaryDue : List Touch := touches [] [.latched] [Foot.admitTo, Foot.clearGather, Foot.offerN]
def Foot.execRefusalSummaryDue : List Touch := touches [] [] [Foot.summaryDue]
def Foot.execProbeNow : List Touch := touches [] [] [Foot.probeNow]
def Foot.writeWords : List Touch := touches [R.DEV_CFG_DIRTY] [] [Foot.storeWord, Foot.wrote]
def Foot.writeParam : List Touch := touches [] [] [Foot.refusal, Foot.writeWords]
def Foot.execResetBase : List Touch := touches [] [] [Foot.engineCommand]
def Foot.execBootstrapFault : List Touch := touches [R.X_BOOT_REF] [] [Foot.failPhase R.CNV_FAULT_BOOT]
def Foot.execQueueStatus : List Touch := touches [] [] [Foot.serve, Foot.okData]
def Foot.chgSuspend : List Touch := touches [] [] [Foot.chgHold R.CHG_HOLD_SUSPEND]
def Foot.execSuspend : List Touch := touches [] [] [Foot.chargeControl, Foot.chgSuspend]
def Foot.internalFault : List Touch := touches [] [.requests] [Foot.putReply, Foot.autoServe]
def Foot.execRclGetPower : List Touch := touches [] [] [Foot.rclFrame]
def Foot.tuneFollow : List Touch := touches [R.X_TUNING, R.X_TUNE_LOOP, R.X_TUNE_EV, R.X_TUNE_N, R.X_TUNE_TGT,
    R.X_TUNE_REGION] [] []
def Foot.execWdtKey : List Touch := touches [] [] [Foot.keyWrite]
def Foot.execWriteParam : List Touch := touches [] [] [Foot.serve, Foot.writeParam]
def Foot.execOnPulseEnd : List Touch := touches [R.X_PULSE_OVER, R.X_PULSE, R.X_VON, R.X_ION, R.X_I1, R.X_SAMPLE] []
    [Foot.pulseFall]
def Foot.execChgProfileWrite : List Touch := touches [R.CHG_PROFILE_CELLS, R.CHG_PROFILE_CHEM, R.DEV_CFG_DIRTY] []
    [Foot.profileChanged]
def Foot.execDeviceRestartReset : List Touch := touches [] [] [Foot.restartBegin, Foot.restartEnd]
def Foot.dieJudge : List Touch := touches [R.X_DIE_GOOD, R.X_DIE_BAD] [] [Foot.latchStand R.THM_FAULT_DIE_IMPLAUSIBLE,
    Foot.ended]
def Foot.loopTargets : List Touch := touches [] [] [Foot.modulate, Foot.plainTargets]
def Foot.holdDemands : List Touch := touches [R.X_DEMAND] [] []
def Foot.runFollow : List Touch := touches [R.CNV_Gg_STAT_STATE] [] [Foot.idlePhases]
def Foot.taperCheck : List Touch := touches [] [] [Foot.chgTo]
def Foot.execLoopEvaluation : List Touch := touches [R.X_LVBUS, R.X_LSYS, R.X_VBUS, R.X_SYSS, R.X_BATS,
    R.CNV_Gg_STAT_PH_LIMIT, R.TRKn_STAT_GOVERNED, R.TRKn_STAT_LOOP, R.CNV_Gg_PEAK, R.X_SYNC_OFF] [] [Foot.loopTargets,
    Foot.chgTargets, Foot.holdDemands, Foot.slopeFollow, Foot.phasePeaks, Foot.regionFollow, Foot.addBack, Foot.tuneFollow,
    Foot.runFollow, Foot.taperCheck, Foot.weakFollow]
def Foot.execRclSetVid : List Touch := touches [] [] [Foot.rclFrame]
def Foot.execReclassify : List Touch := touches [] [] [Foot.reclassify]
def Foot.execKeepAliveOverload : List Touch := touches [] [] [Foot.latch R.LINE_FAULT_A_KA_OVLD, Foot.latch
    R.LINE_FAULT_B_KA_OVLD, Foot.nodeEvent, Foot.portOff]
def Foot.execGroupOnDelayEnd : List Touch := touches [R.X_BOOT] [] []
def Foot.chgExpire : List Touch := touches [R.CHG_TIMEOUT_CAUSE_PENDING, R.CHG_TIMEOUT_CAUSE_FOLDBACK_AT_EXPIRY,
    R.CHG_TIMEOUT_CAUSE_PRECHARGE, R.CHG_TIMEOUT_CAUSE_ABSOLUTE, R.CHG_TIMEOUT_CAUSE_SCALED, R.X_PULSE] [] [Foot.latchStand
    R.CHG_FAULT_TIMEOUT, Foot.chgSet, Foot.cutRest, Foot.pulseRecord]
def Foot.execPortSettleEnd : List Touch := touches [R.X_SHORTS] [] [Foot.startYard, Foot.syncTime, Foot.setPort]
def Foot.execInputUndervoltage : List Touch := touches [] [] [Foot.latchStand R.CNV_FAULT_IN_UV, Foot.tripGroup]
def Foot.execInputUvClear : List Touch := touches [] [] [Foot.ended, Foot.endTrip]
def Foot.execSysOvervoltage : List Touch := touches [] [] [Foot.latchStand R.CNV_FAULT_SYS_OV, Foot.tripGroup,
    Foot.batteryLost]
def Foot.execVsuDisable : List Touch := touches [R.PP_STATUS_VSU_ON] [] []
def Foot.execStoreProgramComplete : List Touch := touches [] [] [Foot.startStoreProgram, Foot.dieFollow,
    Foot.storeProgrammed]
def Foot.execReadStatus : List Touch := touches [] [.driven] [Foot.qbTransaction]
def Foot.execTimeRateCorrection : List Touch := touches [R.DEV_CLK_CORR_STALE, R.X_CORR_AT, R.X_TIME_RATE] [] []
def Foot.execFoldbackUpdate : List Touch := touches [] [] [Foot.foldback]
def Foot.execNegativeLimit : List Touch := touches [R.X_SYNC_OFF, R.CNV_Gg_STAT_DE] [] []
def Foot.execWdtEnable : List Touch := touches [] [] [Foot.disableWrite]
def Foot.execShipEntryComplete : List Touch := touches [R.MODE_STATUS_MODE, R.MODE_STATUS_PREV, R.X_FAST_REQ,
    R.DEV_CLK_FAST_ON, R.PP_STATUS_VSU_ON, R.X_CAUSES, R.X_SHIP_OFF, R.MODE_STATUS_SHIP_PENDING] [] [Foot.abortSlice,
    Foot.portOff, Foot.modeRecord, Foot.flushAll, Foot.openPair, Foot.stopVpre, Foot.stopVaux, Foot.followAlert]
def Foot.execWakeCountDue : List Touch := touches [R.X_WOKEN] [] [Foot.wake R.MODE_WAKE_SRC_WDT, Foot.wakeRestart,
    Foot.yardWake, Foot.cause]
def Foot.execCfgCommit : List Touch := touches [] [] [Foot.serve, Foot.refusal, Foot.commit]
def Foot.execRetainedSramLost : List Touch := touches [] [.retained, .retainedOld] []
def Foot.execRclGetVidTarget : List Touch := touches [] [] [Foot.rclFrame]
def Foot.zeroWindow : List Touch := touches [R.X_OFS_AT, R.MEAS_CC_OFS_CNT, R.MEAS_STATUS_OFS_VALID, R.MEAS_CC_OFS,
    R.MEAS_CC_OFS_REJ] [] [Foot.ended]
def Foot.execMaintainCheck : List Touch := touches [R.BIST_STATUS_P3_WINDOW, R.X_MAINT_LOW, R.CHG_FULL] [] [Foot.needP3,
    Foot.stopGroup, Foot.zeroWindow, Foot.firstPulse]
def Foot.execConnectTimeout : List Touch := touches [] [] [Foot.ppFailure, Foot.openPair]
def Foot.execRailControlSetVidFast : List Touch := touches [] [] [Foot.railControl]
def Foot.execSequencerSilent : List Touch := touches [] [] [Foot.seqRestart, Foot.internalFault]
def Foot.uncouple : List Touch := touches [R.MODE_STATUS_COUPLED] [] [Foot.cause, Foot.startGrace]
def Foot.execPortOn : List Touch := touches [] [] [Foot.lineControl, Foot.linePortOn]
def Foot.execReadReply : List Touch := touches [] [] [Foot.qbTransaction, Foot.readOut]
def Foot.epochWrite : List Touch := touches [R.DEV_CLK_EPOCH_SET, R.DEV_EPOCH] [] []
def Foot.execEpochWrite : List Touch := touches [] [] [Foot.epochWrite]
def Foot.verify : List Touch := touches [R.X_STAGE, R.X_STAGE_LEN, R.X_STAGE_VER] [] []
def Foot.execCfgVerify : List Touch := touches [] [] [Foot.serve, Foot.verify]
def Foot.execCnvCfgApply : List Touch := touches [] [] [Foot.mapCheck]
def Foot.execEnumerationRunStart : List Touch := touches [R.X_FAIL_N, R.X_FAIL_ID, R.X_DISC_AT, R.X_WALKS, R.X_ENUM, R.X_RUN]
    [] [Foot.sendWalk, Foot.lineResume]
def Foot.execRailTuneComplete : List Touch := touches [R.X_RAIL_TON, R.RAIL_x_ESR, R.RAIL_x_RINJ, R.X_RAIL_PEND,
    R.RAIL_x_STAT_SLEWING] [] [Foot.railLatch R.AUX_FAULT_TUNE_A, Foot.railLatch R.AUX_FAULT_TUNE_B, Foot.railTuned,
    Foot.railSettled]
def Foot.lineEnumerate : List Touch := touches [R.X_ENUM] [] [Foot.onPorts]
def Foot.execEnumerate : List Touch := touches [] [] [Foot.lineControl, Foot.lineEnumerate]
def Foot.execPollReply : List Touch := touches [R.X_SLOT_MISSES, R.LINE_SLOTs_STAT_MISSED] [] [Foot.slotDone,
    Foot.engineReply, Foot.slotHeard]
def Foot.pollMissed : List Touch := touches [R.X_SLOT_MISSES, R.LINE_SLOTs_STAT_MISSED] [] [Foot.latch
    R.LINE_FAULT_NODE_LOST, Foot.slotEvent, Foot.setSlot]
def Foot.execRclSetSlew : List Touch := touches [] [] [Foot.rclFrame]
def Foot.execRclReservedCommand : List Touch := touches [] [] [Foot.rclFrame]
def Foot.execPortRetryEnd : List Touch := touches [] [] [Foot.portsFollow, Foot.setPort]
def Foot.execQualifyComplete : List Touch := touches [R.CHG_FULL] [] [Foot.chgTo, Foot.firstPulse]
def Foot.execQueueCapApply : List Touch := touches [] [] [Foot.capApply]
def Foot.vpreRamp : List Touch := touches [R.AUX_STATUS_VPRE_HOLD_DRV, R.AUX_STATUS_VPRE_ON, R.X_VPRE] [] []
def Foot.execVpreHiccupEnd : List Touch := touches [R.X_VPRE] [] [Foot.vpreRamp]
def Foot.execRideThroughEnd : List Touch := touches [] [] [Foot.rideEnd]
def Foot.execSysOvClear : List Touch := touches [] [] [Foot.ended, Foot.endTrip]
def Foot.execRailOffDelayEnd : List Touch := touches [] [] [Foot.railDown]
def Foot.execJournalPowerOff : List Touch := touches [] [] [Foot.storeProgrammed, Foot.commitSector, Foot.stopVpre,
    Foot.stopStore]
def Foot.execRailControlSetSlew : List Touch := touches [] [] [Foot.railControl]
def Foot.eraseSlice : List Touch := touches [R.JNL_STATUS_SUSPENDED, R.JNL_STATUS_ERASING] [.erase] [Foot.dieFollow]
def Foot.execEraseSliceStart : List Touch := touches [] [] [Foot.eraseSlice]
def Foot.execRailControlClearAlert : List Touch := touches [] [] [Foot.railControl]
def Foot.execRailStartFail : List Touch := touches [R.RAIL_x_STAT_FAILS, R.X_RAIL_KEEP] [] [Foot.railLatch
    R.AUX_FAULT_RAILA_SHORT, Foot.railLatch R.AUX_FAULT_RAILB_SHORT, Foot.railStop]
def Foot.execFetOpen : List Touch := touches [R.X_FETBAD, R.INn_STAT_ISSUE] [] [Foot.latchStand R.IN_FAULT_FET,
    Foot.gatesAfterRamp, Foot.clearClass, Foot.abortSweep, Foot.setInstate, Foot.freeDup]
def Foot.execVbusReached : List Touch := touches [R.INn_V, R.X_VBUS, R.X_READMIT] [] [Foot.classify, Foot.startProbe,
    Foot.coldStartCheck, Foot.setInstate, Foot.setVref]
def Foot.execOtpProgram : List Touch := touches [R.X_OTP_BITS, R.X_OTP_WORD, R.X_OTP_BUSY] [] [Foot.serve, Foot.refusal]
def Foot.execTsVrefRetake : List Touch := touches [R.X_RAMP, R.X_RETAKE] [] [Foot.zeroCeiling, Foot.setVref]
def Foot.withLow : List Touch := touches [R.X_USABLE_LOW] [] []
def Foot.execFbHoldEnd : List Touch := touches [R.THM_STATUS_TS_EXCLUDED] [] [Foot.fbDone]
def Foot.execPoPeriodEnd : List Touch := touches [R.X_PO_VALID, R.X_PCNT, R.X_COUNTED, R.X_PO_OLD, R.TRKn_STAT_RUN,
    R.TRKn_STEP, R.TRKn_STAT_DIR_DOWN, R.TRKn_VSET] [] []
def Foot.chgResume : List Touch := touches [] [] [Foot.chgHold R.CHG_HOLD_SUSPEND]
def Foot.execResume : List Touch := touches [] [] [Foot.chargeControl, Foot.chgResume]
def Foot.execVpreOnDelayEnd : List Touch := touches [] [] [Foot.vpreRamp]
def Foot.execTsRelease : List Touch := touches [R.IN_STATUS_TS_RELEASED, R.IN_STATUS_FET_ON, R.INn_RELEASES, R.X_RETAKE] []
    [Foot.tripGroup, Foot.abortSweeps, Foot.zeroCeiling]
def Foot.execRailRampDownEnd : List Touch := touches [] [] [Foot.railStop]
def Foot.execClearCounters : List Touch := touches [] [] [Foot.clearCounters]
def Foot.execCfgInfo : List Touch := touches [] [] [Foot.serve, Foot.okData]
def Foot.execRclClearAlert : List Touch := touches [] [] [Foot.rclFrame]
def Foot.execHarvestDormant : List Touch := touches [R.X_PO_VALID, R.TRKn_STAT_STYLE, R.X_DORMANT] [] [Foot.cause,
    Foot.rampDown, Foot.abortSweep]
def Foot.modifyParam : List Touch := touches [] [] [Foot.refusal, Foot.okData, Foot.writeWords]
def Foot.execWritePacket : List Touch := touches [] [] [Foot.qbTransaction, Foot.truncated, Foot.packet, Foot.abortSlice]
def Foot.execSnapshotNow : List Touch := touches [] [] [Foot.snapshot]
def Foot.execPortRiseComplete : List Touch := touches [R.X_LINE_UP] [] []
def Foot.execJournalMark : List Touch := touches [] [] [Foot.serve, Foot.journalMark]
def Foot.execVauxRetry : List Touch := touches [R.X_VAUX_WAIT] [] [Foot.startVaux]
def Foot.execAssignReply : List Touch := touches [R.LINE_SLOTs_STAT_BOUND, R.X_SLOT_ID, R.LINE_SLOTs_STAT_MISSED,
    R.LINE_SLOTs_STAT_CLASS, R.LINE_SLOTs_STAT_PORT, R.X_SLOT_SEQ, R.X_SLOT_MISSES, R.X_SLOT_MASK, R.X_SLOT_FMT,
    R.X_SLOT_LAST, R.X_SLOT_POLLED, R.X_SLOT_AMP_OK] [] [Foot.runStep, Foot.engineRelease, Foot.setSlot, Foot.slotCommand,
    Foot.slotEvent]
def Foot.execColdStartAbandon : List Touch := touches [R.X_COLD_WAIT] [] [Foot.latch R.PP_FAULT_COLD_START,
    Foot.coldStartEnd]
def Foot.execBmsokPermit : List Touch := touches [] [] [Foot.chgHold R.CHG_HOLD_BMSOK]
def Foot.execWakenLow : List Touch := touches [R.X_WOKEN] [] [Foot.wake R.MODE_WAKE_SRC_WAKEN, Foot.cancelShip, Foot.cause,
    Foot.startGrace]
def Foot.execRecordOffer : List Touch := touches [] [] [Foot.offer]
def Foot.execSafetyTimeout : List Touch := touches [] [] [Foot.chgExpire]
def Foot.execSectorProgramStart : List Touch := touches [] [] [Foot.startProgram]
def Foot.thGood : List Touch := touches [R.X_TH_LAST, R.X_TH_RUN, R.X_TH_BAD] [] [Foot.setTemp, Foot.thEnded, Foot.setJudge]
def Foot.execThermistorReading : List Touch := touches [] [] [Foot.thGood, Foot.thBad, Foot.windowFollow]
def Foot.execBistSliceEnd : List Touch := touches [R.BIST_Pp_PROG_LAST, R.BIST_STATUS_RUNNING, R.X_BIST_RETRY, R.X_BIST_MISS]
    [] [Foot.slicePass, Foot.sliceFail]
def Foot.execWdtExpire : List Touch := touches [] [] [Foot.expire]
def Foot.execSlotEnableWrite : List Touch := touches [R.DEV_CFG_DIRTY] [] [Foot.slotEnable]
def Foot.allocate : List Touch := touches [R.TRK_STATUS_TRIM, R.TRK_LOAD, R.TRK_DEMAND, R.TRK_STATUS_FAST_RISE,
    R.TRK_STATUS_SHORTFALL, R.TRKn_STAT_TRIM] [] [Foot.rampFollow, Foot.setCeiling]
def Foot.execSweepComplete : List Touch := touches [R.TRKn_VMP, R.TRKn_STEP, R.TRKn_VSET, R.X_SWEPT, R.X_SWEEP_VOC,
    R.TRKn_PMP, R.X_AWAIT, R.X_PO_VALID, R.X_SWEEP_AT, R.X_SWEEP_EVER, R.TRK_STATUS_SWEEPING, R.TRKn_STAT_STYLE] []
    [Foot.ended]
def Foot.execWdtDisableSequence : List Touch := touches [] [] [Foot.disableWrite]
def Foot.execPresenceDebounceAbort : List Touch := touches [R.X_DEBOUNCE] [] [Foot.setInstate]
def Foot.execCutoffComplete : List Touch := touches [R.X_FAST_REQ, R.DEV_CLK_FAST_ON, R.PP_STATUS_VSU_ON, R.X_CUTOFF_REST,
    R.X_CUTOFF] [] [Foot.openPair, Foot.stopVpre, Foot.stopVaux, Foot.cutoffPorts, Foot.abortSlice, Foot.followAlert]
def Foot.execQueuePop : List Touch := touches [] [] [Foot.serve, Foot.queueRead]
def Foot.capacityFollow : List Touch := touches [R.TRKn_CAP] [] []
def Foot.execAllocatorUpdate : List Touch := touches [R.INn_V, R.TRKn_PIN, R.X_BATS, R.X_SYSS] [] [Foot.updateLimit,
    Foot.trackFollow, Foot.pulseFall, Foot.chgRamp, Foot.leaveIdle, Foot.chgFollow, Foot.capacityFollow, Foot.allocate,
    Foot.noCeilings, Foot.startVaux]
def Foot.execBmsokRefuse : List Touch := touches [] [] [Foot.chgHold R.CHG_HOLD_BMSOK]
def Foot.execRailPowerEstimate : List Touch := touches [R.RAIL_x_STAT_DE, R.RAIL_x_POUT, R.RAIL_x_PIN, R.RAIL_x_I,
    R.RAIL_x_V, R.RAIL_x_STAT_BURST, R.AUX_PRE_EXT_P, R.AUX_PRE_I, R.AUX_PRE_V] [] [Foot.fireStep]
def Foot.execModifyParam : List Touch := touches [] [] [Foot.serve, Foot.modifyParam]
def Foot.execLeaveService : List Touch := touches [] [] [Foot.modeRequest, Foot.leaveService]
def Foot.execTwAddressNack : List Touch := touches [] [] [Foot.twNack]
def Foot.execRailSettle : List Touch := touches [] [] [Foot.railSettled, Foot.railReached]
def Foot.execRestSample : List Touch := touches [R.X_SAMPLE, R.X_I1] [] []
def Foot.execPresenceProbe : List Touch := touches [R.X_PROBE_DUE] [] [Foot.needP3, Foot.batteryMissing, Foot.setBat]
def Foot.execCfgSwitch : List Touch := touches [] [] [Foot.cfgSwitch]
def Foot.assignFailed : List Touch := touches [R.X_FAIL_N, R.X_FAIL_ID] [] [Foot.latch R.LINE_FAULT_ASSIGN_FAIL,
    Foot.runStep, Foot.nodeEvent, Foot.sendPark]
def Foot.leaveDormancy : List Touch := touches [R.TRKn_STAT_STYLE, R.X_AWAIT, R.X_DORMANT, R.X_SWEEP_DUE, R.TRKn_VSET] []
    [Foot.poStart]
def Foot.execReadParam : List Touch := touches [] [] [Foot.serve, Foot.readParam]
def Foot.execBurst : List Touch := touches [R.CNV_Gg_PEAK, R.CNV_Gg_STAT_BURST] [] [Foot.phasePeaks, Foot.countActive,
    Foot.switchPhase, Foot.regionFollow]
def Foot.execRestEnd : List Touch := touches [R.CHG_V_POL, R.CHG_RHO, R.CHG_R_OHM, R.CHG_I_PULSE, R.CHG_REST_INVALID,
    R.CHG_TERM_CNT] [] [Foot.pulse, Foot.pulseRecord, Foot.restStore, Foot.agedFollow, Foot.trend, Foot.zeroWindow,
    Foot.chgSet, Foot.terminate]
def Foot.execRailRampEnd : List Touch := touches [R.X_RAIL_TUNED, R.RAIL_x_STAT_SLEWING, R.RAIL_x_STAT_STATE] [] []
def Foot.execDeviceRestart : List Touch := touches [] [] [Foot.serve, Foot.restartDue]
def Foot.execTrialExpire : List Touch := touches [] [] [Foot.startConfirm]
def Foot.execPing : List Touch := touches [] [] [Foot.serve, Foot.okData]
def Foot.execDieReading : List Touch := touches [R.THM_DIE_MAX, R.THM_DIE_T] [] [Foot.dieJudge, Foot.thermRelease,
    Foot.thermStop]
def Foot.execVpreFail : List Touch := touches [R.X_RAIL_NAMED, R.X_VPRE_FAILS] [] [Foot.latch R.AUX_FAULT_VPRE_SHORT,
    Foot.vpreGood, Foot.stopVpre, Foot.railStop]
def Foot.execRailControlSetState : List Touch := touches [] [] [Foot.railControl]
def Foot.execSelftestStop : List Touch := touches [] [] [Foot.serve, Foot.abortSlice, Foot.roundDrop]
def Foot.execUncouple : List Touch := touches [] [] [Foot.uncouple]
def Foot.execProbeComplete : List Touch := touches [R.INn_CURV, R.INn_RSRC, R.INn_VOC, R.X_PROBE_FAIL, R.INn_STAT_ISSUE] []
    [Foot.latchStand R.IN_FAULT_CLASS, Foot.endProbe, Foot.classify, Foot.setInstate]
def Foot.execSdaStuck : List Touch := touches [] [] [Foot.latchStand R.HIF_FAULT_SDA_STUCK, Foot.busClear]
def Foot.execRclSetState : List Touch := touches [] [] [Foot.rclFrame]
def Foot.execRailOnDelayEnd : List Touch := touches [] [] [Foot.railSoft]
def Foot.execClassHoldExpire : List Touch := touches [] [] [Foot.dropClass, Foot.setInstate, Foot.uncouple]
def Foot.checkIn : List Touch := touches [R.WDT_TASK_SEEN_DUP, R.WDT_TASK_SEEN_SEEN] [] []
def Foot.execWdtCheckin : List Touch := touches [] [] [Foot.serve, Foot.refusal, Foot.checkIn]
def Foot.execEqualisationUpdate : List Touch := touches [R.CNV_Gg_STAT_EQ_ACTIVE, R.X_EQ_HOLD, R.CNV_PHn_TRIM] []
    [Foot.phaseCurrents, Foot.phasePeaks, Foot.trimSat]
def Foot.execClearAlarms : List Touch := touches [] [] [Foot.engineCommand]
def Foot.execFloatRecharge : List Touch := touches [R.CHG_FULL] [] [Foot.firstPulse]
def Foot.execPortBootWaitEnd : List Touch := touches [R.X_ENUM] [] [Foot.syncTime, Foot.setPort]
def Foot.execTuneFail : List Touch := touches [] [] [Foot.tuneFail]
def Foot.execP3WindowEnd : List Touch := touches [] [] [Foot.endP3Window]
def Foot.execRewind : List Touch := touches [] [] [Foot.qbTransaction, Foot.rewind]
def Foot.execIdwalkComplete : List Touch := touches [R.X_WALKS] [] [Foot.runEnd, Foot.runStep, Foot.sendAssign,
    Foot.overflow]
def Foot.execReplyTimeout : List Touch := touches [R.LINE_x_ERR, R.X_TRY] [] [Foot.slotDone, Foot.pollMissed,
    Foot.configDone, Foot.assignFailed]
def Foot.execSclTimeout : List Touch := touches [] [] [Foot.latch R.HIF_FAULT_SCL_TMO, Foot.truncated, Foot.awake]
def Foot.execResetWindow : List Touch := touches [] [] [Foot.engineCommand]
def Foot.execVauxOverload : List Touch := touches [R.AUX_STATUS_VAUX_ILIM] [] [Foot.latch R.AUX_FAULT_VAUX_OVLD]
def Foot.execDiscoveryDue : List Touch := touches [R.X_ENUM] [] []
def Foot.execVpreRetry : List Touch := touches [] [] [Foot.vpreRetry]
def Foot.execShortCircuit : List Touch := touches [] [] [Foot.ppTrip R.PP_FAULT_SHORT_CIRCUIT]
def Foot.execWdtLockSet : List Touch := touches [] [] [Foot.lockWrite]
def Foot.execInputPresenceLost : List Touch := touches [R.IN_STATUS_PRESENT, R.IN_STATUS_TS_RELEASED, R.X_READMIT, R.X_TRIP,
    R.X_RETAKE, R.X_ABSENT_AT, R.X_FETBAD, R.X_WDROPS, R.X_DEBOUNCE] [] [Foot.endUvInhibit, Foot.abortSweep, Foot.gates,
    Foot.ended, Foot.tripGroup, Foot.equaliseFollow, Foot.holdOrDrop, Foot.setInstate]
def Foot.execEraseComplete : List Touch := touches [] [] [Foot.dieFollow, Foot.storeErased, Foot.eraseOver, Foot.ringErased]
def Foot.execRclGetVidActual : List Touch := touches [] [] [Foot.rclFrame]
def Foot.execHarvestRetryEnd : List Touch := touches [R.X_RETRY] [] [Foot.cause, Foot.leaveDormancy, Foot.rampDown]
def Foot.execShipExit : List Touch := touches [R.MODE_STATUS_RIDE_ACTIVE, R.DEV_CLK_EPOCH_SET, R.X_CUTOFF_REST,
    R.SUP_STATUS_RIDE, R.JNL_STATUS_SCAN_DONE, R.MODE_STATUS_MODE, R.PP_STATUS_VSU_ON, R.MODE_CHANGE_TIME, R.MODE_CAUSE,
    R.MODE_STATUS_PREV] [] [Foot.coldParts, Foot.logicReset, Foot.otpFollow, Foot.lbist, Foot.strapFollow, Foot.heldFollow,
    Foot.exitNacks, Foot.startLogic, Foot.startMode, Foot.startRecords]
def Foot.execIdDecode : List Touch := touches [] [] [Foot.setBand, Foot.restartClass, Foot.dropClass]

/-- What a command may change. -/
def footOf (c : Instr) : List Touch :=
  match c with
  | .powerOnReset _ _ _ _ => Foot.execPowerOnReset
  | .deviceRestartReset _ _ _ => Foot.execDeviceRestartReset
  | .hrstnExternalLow => Foot.execHrstnExternalLow
  | .modeEvaluate _ _ => Foot.execModeEvaluate
  | .uncouple => Foot.execUncouple
  | .graceExpire => Foot.execGraceExpire
  | .harvestDormant _ => Foot.execHarvestDormant
  | .harvestRetryEnd _ _ => Foot.execHarvestRetryEnd
  | .serviceTimeout => Foot.execServiceTimeout
  | .shipDelayExpire => Foot.execShipDelayExpire
  | .shipEntryComplete => Foot.execShipEntryComplete
  | .shipExit _ _ _ _ _ => Foot.execShipExit
  | .wakeCountDue => Foot.execWakeCountDue
  | .wakenLow => Foot.execWakenLow
  | .fastClockStart => Foot.execFastClockStart
  | .fastClockStop => Foot.execFastClockStop
  | .timeRateCorrection _ => Foot.execTimeRateCorrection
  | .hourBoundary => Foot.execHourBoundary
  | .awakeHoldEnd => Foot.execAwakeHoldEnd
  | .inputComparatorTrip _ => Foot.execInputComparatorTrip
  | .inputPresent _ _ => Foot.execInputPresent
  | .inputPresenceLost _ => Foot.execInputPresenceLost
  | .idDecode _ _ => Foot.execIdDecode
  | .inputConnect _ _ => Foot.execInputConnect
  | .vbusReached _ _ => Foot.execVbusReached
  | .probeStart _ => Foot.execProbeStart
  | .probeComplete _ _ _ _ _ => Foot.execProbeComplete
  | .signatureWatchComplete _ _ _ _ => Foot.execSignatureWatchComplete
  | .idRedecode _ _ => Foot.execIdRedecode
  | .classHoldExpire _ => Foot.execClassHoldExpire
  | .inputOvervoltage _ => Foot.execInputOvervoltage
  | .inputOvClear _ _ => Foot.execInputOvClear
  | .reversePolarity _ => Foot.execReversePolarity
  | .fetOpen _ => Foot.execFetOpen
  | .tsRelease _ => Foot.execTsRelease
  | .tsResume _ _ => Foot.execTsResume
  | .tsVrefRetake _ _ => Foot.execTsVrefRetake
  | .reclassify _ => Foot.execReclassify
  | .inputEnableWrite _ _ => Foot.execInputEnableWrite
  | .allocatorUpdate _ _ _ _ _ => Foot.execAllocatorUpdate
  | .poPeriodEnd _ _ _ => Foot.execPoPeriodEnd
  | .sweepStart _ => Foot.execSweepStart
  | .sweepComplete _ _ _ => Foot.execSweepComplete
  | .sweepAbort _ => Foot.execSweepAbort
  | .sweepNow _ => Foot.execSweepNow
  | .trkWeak _ => Foot.execTrkWeak
  | .groupOnDelayEnd _ => Foot.execGroupOnDelayEnd
  | .groupSwitchStart _ => Foot.execGroupSwitchStart
  | .groupOffDelayEnd _ => Foot.execGroupOffDelayEnd
  | .loopEvaluation _ _ _ _ _ _ _ _ _ _ _ => Foot.execLoopEvaluation
  | .tuningComplete _ _ _ => Foot.execTuningComplete
  | .tuneFail _ => Foot.execTuneFail
  | .retune _ => Foot.execRetune
  | .equalisationUpdate _ _ => Foot.execEqualisationUpdate
  | .deadTimeUpdate _ _ _ _ _ => Foot.execDeadTimeUpdate
  | .zeroCrossUpdate _ _ _ => Foot.execZeroCrossUpdate
  | .shedEvaluation _ _ _ _ => Foot.execShedEvaluation
  | .burst _ _ => Foot.execBurst
  | .bootstrapRefresh _ _ => Foot.execBootstrapRefresh
  | .peakLimit _ => Foot.execPeakLimit
  | .negativeLimit _ => Foot.execNegativeLimit
  | .phaseShort _ => Foot.execPhaseShort
  | .phaseOpen _ => Foot.execPhaseOpen
  | .bootstrapFault _ => Foot.execBootstrapFault
  | .sysOvervoltage => Foot.execSysOvervoltage
  | .sysOvClear => Foot.execSysOvClear
  | .inputUndervoltage _ => Foot.execInputUndervoltage
  | .driveSupplyUv => Foot.execDriveSupplyUv
  | .phRetry _ => Foot.execPhRetry
  | .cnvCfgApply => Foot.execCnvCfgApply
  | .qualifyComplete _ => Foot.execQualifyComplete
  | .prechargeComplete _ => Foot.execPrechargeComplete
  | .onPulseEnd _ _ => Foot.execOnPulseEnd
  | .restSample _ _ _ => Foot.execRestSample
  | .restEnd _ _ _ _ => Foot.execRestEnd
  | .maintainCheck _ _ _ _ => Foot.execMaintainCheck
  | .p3WindowEnd => Foot.execP3WindowEnd
  | .absorbEnd => Foot.execAbsorbEnd
  | .floatRecharge => Foot.execFloatRecharge
  | .equaliseEnd _ => Foot.execEqualiseEnd
  | .safetyTimerTick _ => Foot.execSafetyTimerTick
  | .safetyTimeout => Foot.execSafetyTimeout
  | .bmsokRefuse => Foot.execBmsokRefuse
  | .bmsokPermit => Foot.execBmsokPermit
  | .chgProfileWrite _ => Foot.execChgProfileWrite
  | .suspend _ _ _ => Foot.execSuspend
  | .resume _ _ _ => Foot.execResume
  | .restart _ _ _ => Foot.execRestart
  | .equalise _ _ _ => Foot.execEqualise
  | .endEqualise _ _ _ => Foot.execEndEqualise
  | .serviceGroups _ _ _ => Foot.execServiceGroups
  | .roleEvaluate _ _ _ _ => Foot.execRoleEvaluate
  | .connectTimeout => Foot.execConnectTimeout
  | .supplement _ _ => Foot.execSupplement
  | .coldStartAbandon => Foot.execColdStartAbandon
  | .coldStartRetry => Foot.execColdStartRetry
  | .vsuDisable => Foot.execVsuDisable
  | .dischargeOvercurrent => Foot.execDischargeOvercurrent
  | .shortCircuit => Foot.execShortCircuit
  | .retryWaitEnd => Foot.execRetryWaitEnd
  | .tripCountReset => Foot.execTripCountReset
  | .retryNow => Foot.execRetryNow
  | .uvInhibit _ => Foot.execUvInhibit
  | .uvInhibitEnd _ => Foot.execUvInhibitEnd
  | .uvCutoff _ => Foot.execUvCutoff
  | .cutoffComplete => Foot.execCutoffComplete
  | .presenceProbe _ _ => Foot.execPresenceProbe
  | .probeNow => Foot.execProbeNow
  | .emptyConnector => Foot.execEmptyConnector
  | .batteryShort _ => Foot.execBatteryShort
  | .batteryRemoval => Foot.execBatteryRemoval
  | .unsupportedSysFall => Foot.execUnsupportedSysFall
  | .vauxInRegulation _ _ => Foot.execVauxInRegulation
  | .vauxOutOfRegulation => Foot.execVauxOutOfRegulation
  | .vauxStop => Foot.execVauxStop
  | .vauxFail => Foot.execVauxFail
  | .vauxOverload => Foot.execVauxOverload
  | .vpreInRegulation _ => Foot.execVpreInRegulation
  | .vpreStop => Foot.execVpreStop
  | .vpreRetry => Foot.execVpreRetry
  | .railOnDelayEnd _ => Foot.execRailOnDelayEnd
  | .railRampEnd _ => Foot.execRailRampEnd
  | .railTuneComplete _ _ _ _ _ => Foot.execRailTuneComplete
  | .railOffDelayEnd _ => Foot.execRailOffDelayEnd
  | .railRampDownEnd _ => Foot.execRailRampDownEnd
  | .railStartFail _ => Foot.execRailStartFail
  | .railHiccupEnd _ => Foot.execRailHiccupEnd
  | .railFailsReset _ => Foot.execRailFailsReset
  | .railOvervoltage _ => Foot.execRailOvervoltage
  | .railSettle _ => Foot.execRailSettle
  | .railPowerEstimate _ _ _ _ _ _ _ _ _ _ => Foot.execRailPowerEstimate
  | .rclSetVid _ _ _ => Foot.execRclSetVid
  | .rclSetSlew _ _ _ => Foot.execRclSetSlew
  | .rclSetState _ _ _ => Foot.execRclSetState
  | .rclGetVidTarget _ _ _ => Foot.execRclGetVidTarget
  | .rclGetVidActual _ _ _ => Foot.execRclGetVidActual
  | .rclGetStatus _ _ _ => Foot.execRclGetStatus
  | .rclGetPower _ _ _ => Foot.execRclGetPower
  | .rclClearAlert _ _ _ => Foot.execRclClearAlert
  | .rclSetVidFast _ _ _ => Foot.execRclSetVidFast
  | .rclFrameAbandon => Foot.execRclFrameAbandon
  | .railControlSetVid _ _ _ _ => Foot.execRailControlSetVid
  | .railControlSetSlew _ _ _ _ => Foot.execRailControlSetSlew
  | .railControlSetState _ _ _ _ => Foot.execRailControlSetState
  | .railControlClearAlert _ _ _ _ => Foot.execRailControlClearAlert
  | .railControlSetVidFast _ _ _ _ => Foot.execRailControlSetVidFast
  | .adcReferenceFail _ => Foot.execAdcReferenceFail
  | .ccResult _ => Foot.execCcResult
  | .ledgerUpdate _ _ _ _ _ _ _ _ => Foot.execLedgerUpdate
  | .clearCounters => Foot.execClearCounters
  | .snapshotNow => Foot.execSnapshotNow
  | .eRemWrite _ => Foot.execERemWrite
  | .epochWrite _ => Foot.execEpochWrite
  | .portRiseComplete _ => Foot.execPortRiseComplete
  | .portBootWaitEnd _ => Foot.execPortBootWaitEnd
  | .portToKeepAlive _ _ => Foot.execPortToKeepAlive
  | .lineCycleStart _ => Foot.execLineCycleStart
  | .pollReply _ _ _ _ _ => Foot.execPollReply
  | .replyTimeout _ => Foot.execReplyTimeout
  | .frameRetry _ => Foot.execFrameRetry
  | .enumerationRunStart _ => Foot.execEnumerationRunStart
  | .idwalkComplete _ _ _ => Foot.execIdwalkComplete
  | .assignReply _ _ _ _ => Foot.execAssignReply
  | .configReply _ _ _ => Foot.execConfigReply
  | .discoveryDue _ => Foot.execDiscoveryDue
  | .portShort _ => Foot.execPortShort
  | .portRetryEnd _ => Foot.execPortRetryEnd
  | .keepAliveOverload _ => Foot.execKeepAliveOverload
  | .slotEnableWrite _ _ => Foot.execSlotEnableWrite
  | .portOn _ _ _ _ => Foot.execPortOn
  | .portOff _ _ _ _ => Foot.execPortOff
  | .enumerate _ _ _ _ => Foot.execEnumerate
  | .releaseSlot _ _ _ _ => Foot.execReleaseSlot
  | .configNode _ _ _ _ _ => Foot.execConfigNode
  | .nodeInfo _ _ _ => Foot.execNodeInfo
  | .recordOffer _ _ _ _ _ _ => Foot.execRecordOffer
  | .refusalSummaryDue _ => Foot.execRefusalSummaryDue
  | .sectorProgramStart => Foot.execSectorProgramStart
  | .sectorProgramComplete _ => Foot.execSectorProgramComplete
  | .greenFillTimeout => Foot.execGreenFillTimeout
  | .eraseSliceStart => Foot.execEraseSliceStart
  | .eraseComplete _ => Foot.execEraseComplete
  | .queueCapApply _ => Foot.execQueueCapApply
  | .resetBase _ => Foot.execResetBase
  | .resetWindow _ => Foot.execResetWindow
  | .clearAlarms _ => Foot.execClearAlarms
  | .resetTrackerAll _ => Foot.execResetTrackerAll
  | .storeProgramComplete _ => Foot.execStoreProgramComplete
  | .cfgSwitch => Foot.execCfgSwitch
  | .trialExpire => Foot.execTrialExpire
  | .twWriteRequest _ => Foot.execTwWriteRequest
  | .twReadReply _ _ => Foot.execTwReadReply
  | .twPointerReset => Foot.execTwPointerReset
  | .twAddressNack => Foot.execTwAddressNack
  | .sclTimeout _ _ => Foot.execSclTimeout
  | .sdaStuck _ => Foot.execSdaStuck
  | .busClearRetry _ => Foot.execBusClearRetry
  | .hostNotifyAttempt _ => Foot.execHostNotifyAttempt
  | .hrstnRelease => Foot.execHrstnRelease
  | .writePacket _ _ _ => Foot.execWritePacket
  | .readReply _ _ => Foot.execReadReply
  | .readStatus _ => Foot.execReadStatus
  | .rewind _ => Foot.execRewind
  | .bulkInvalidInstruction _ => Foot.execBulkInvalidInstruction
  | .ping _ _ _ => Foot.execPing
  | .readParam _ _ _ _ => Foot.execReadParam
  | .writeParam _ _ _ _ => Foot.execWriteParam
  | .modifyParam _ _ _ _ _ => Foot.execModifyParam
  | .readFaults _ _ => Foot.execReadFaults
  | .enterShip _ _ _ _ => Foot.execEnterShip
  | .enterService _ _ _ => Foot.execEnterService
  | .leaveService _ _ _ => Foot.execLeaveService
  | .endGrace _ _ _ => Foot.execEndGrace
  | .queuePop _ _ _ _ => Foot.execQueuePop
  | .queuePeek _ _ _ _ => Foot.execQueuePeek
  | .queueStatus _ _ => Foot.execQueueStatus
  | .journalRead _ _ _ _ _ _ _ _ => Foot.execJournalRead
  | .journalMark _ _ _ => Foot.execJournalMark
  | .cfgStageWrite _ _ _ _ _ => Foot.execCfgStageWrite
  | .cfgVerify _ _ => Foot.execCfgVerify
  | .cfgCommit _ _ _ _ _ _ => Foot.execCfgCommit
  | .cfgConfirm _ _ => Foot.execCfgConfirm
  | .cfgRevert _ _ _ => Foot.execCfgRevert
  | .cfgInfo _ _ => Foot.execCfgInfo
  | .wdtCheckin _ _ _ => Foot.execWdtCheckin
  | .selftestRun _ _ _ => Foot.execSelftestRun
  | .selftestStop _ _ _ => Foot.execSelftestStop
  | .otpProgram _ _ _ _ _ => Foot.execOtpProgram
  | .otpProgramDone _ => Foot.execOtpProgramDone
  | .ledgerRead _ _ => Foot.execLedgerRead
  | .recover _ _ _ => Foot.execRecover
  | .deviceRestart _ _ _ => Foot.execDeviceRestart
  | .wdtKey _ => Foot.execWdtKey
  | .wdtDisableSequence => Foot.execWdtDisableSequence
  | .wdtEnable => Foot.execWdtEnable
  | .wdtLockSet => Foot.execWdtLockSet
  | .wdtExpire => Foot.execWdtExpire
  | .wdtInternalService => Foot.execWdtInternalService
  | .yellowPulseEnd => Foot.execYellowPulseEnd
  | .sequencerSilent _ => Foot.execSequencerSilent
  | .supWarn _ => Foot.execSupWarn
  | .rideThroughEnd => Foot.execRideThroughEnd
  | .dieReading _ _ => Foot.execDieReading
  | .journalPowerOff => Foot.execJournalPowerOff
  | .thermistorReading _ _ _ => Foot.execThermistorReading
  | .foldbackUpdate => Foot.execFoldbackUpdate
  | .fbHoldEnd _ => Foot.execFbHoldEnd
  | .fbClear => Foot.execFbClear
  | .bistSliceStart _ => Foot.execBistSliceStart
  | .bistSliceEnd _ => Foot.execBistSliceEnd
  | .vaoBelowReset _ => Foot.execVaoBelowReset
  | .retainedSramLost => Foot.execRetainedSramLost
  | .presenceDebounceAbort _ => Foot.execPresenceDebounceAbort
  | .inputUvClear _ => Foot.execInputUvClear
  | .driveSupplyClear => Foot.execDriveSupplyClear
  | .vauxRetry => Foot.execVauxRetry
  | .vpreOnDelayEnd => Foot.execVpreOnDelayEnd
  | .vpreFail => Foot.execVpreFail
  | .vpreHiccupEnd => Foot.execVpreHiccupEnd
  | .portSettleEnd _ => Foot.execPortSettleEnd
  | .eraseSliceEnd => Foot.execEraseSliceEnd
  | .rclReservedCommand _ _ _ _ => Foot.execRclReservedCommand

end Sys2Proof.Machine
end

