-- ==== Sys2Proof/Certificates/Slice0/Obligations.lean ====
section
/-! DEFINITION. The statements for the provers. In the statements over a family of commands each clause names, for one command, a
condition on the state and the operands and the effect in the next state that the command then answers. `Gives o P` says that the
outcome `o` is a next state of which `P` holds. -/

open Sys2Proof Sys2Proof.Machine

/-- Presence, loss and connection of an input (R76, R77, R78, R80, R82, R92, R93, R94). Model choices: log 1, 10, 11. -/
def Obligations.InputPresence : Prop :=
  -- INPUT_COMPARATOR_TRIP
  (∀ (s : State) (i : Fin 4), s.asleepDeep = false ∧ s.on R.X_HELD = false ∧ s.present i = false ∧ s.instate i = 0 →
    Gives (exec (.inputComparatorTrip i) s) (fun t =>
      t.on R.X_DEBOUNCE i ∧ t.instate i = 1 ∧ t.stands R.IN_FAULT_REV_POL i = false)) ∧
  -- PRESENCE_DEBOUNCE_ABORT
  (∀ (s : State) (i : Fin 4), s.on R.X_DEBOUNCE i ∧ s.instate i = 1 →
    Gives (exec (.presenceDebounceAbort i) s) (fun t =>
      t.on R.X_DEBOUNCE i = false ∧ t.instate i = 0)) ∧
  -- INPUT_PRESENT
  (∀ (s : State) (i : Fin 4) (vbus : Nat), s.on R.X_DEBOUNCE i ∧ vbus < 65536 ∧ s.on R.CNV_STATUS_CFG_PENDING = false →
    Gives (exec (.inputPresent i vbus) s) (fun t =>
      t.present i ∧ t.on R.X_DEBOUNCE i = false ∧ t.on R.PP_STATUS_VSU_ON ∧ t.get R.X_VBUS i = vbus ∧ t.on
        R.MODE_STATUS_SHIP_PENDING = false ∧ t.on R.X_CUTOFF = false ∧ t.on R.X_LOCKOUT = false ∧ t.stands R.PP_FAULT_LOCKOUT
        = false ∧ t.bit R.X_TRIP 0 i = false ∧ (s.instate i ≠ 6 → s.instate i ≠ 8 → s.instate i ≠ 10 → t.instate i = (if
        s.enabled i then 2 else 9) ∧ (s.enabled i → t.get R.X_SETTLE_AT i = s.now ∧ t.get R.X_VBUS0 i = vbus ∧ t.get R.INn_VOC
        i = 0 ∧ t.get R.INn_RSRC i = 0 ∧ t.get R.INn_SIG_DROPOUTS i = 0)) ∧ (s.instate i = 6 → t.instate i = 6 ∧ t.bit
        R.IN_STATUS_FET_ON i = (!s.bit R.BIST_STATUS_SAFE 3 && !s.stands R.IN_FAULT_REV_POL i && !s.on
        R.MODE_STATUS_THERM_ACTIVE)) ∧ (s.instate i = 8 → t.instate i = 8 ∧ t.on R.X_READMIT i) ∧ (s.instate i = 10 →
        t.instate i = 10))) ∧
  -- INPUT_PRESENCE_LOST
  (∀ (s : State) (i : Fin 4), s.present i ∧ s.on R.CNV_STATUS_CFG_PENDING = false →
    Gives (exec (.inputPresenceLost i) s) (fun t =>
      t.present i = false ∧ t.bit R.IN_STATUS_FET_ON i = false ∧ t.on R.X_GA i = false ∧ t.bit R.IN_STATUS_TS_RELEASED i =
        false ∧ t.on R.X_READMIT i = false ∧ t.on R.X_FETBAD i = false ∧ t.drawing i = false ∧ (s.drawing i → t.get
        R.CNV_Gg_PEAK i = 0 ∧ t.bit R.X_TRIP 0 i) ∧ (s.instate i = 7 → t.cls i = (if s.holdTicks (s.cls i) = 0 then 0 else
        s.cls i) ∧ t.instate i = (if s.holdTicks (s.cls i) = 0 then (if s.on R.X_DEBOUNCE i then 1 else 0) else 8)) ∧
        (s.instate i = 6 → t.instate i = 6 ∧ t.get R.X_WDROPS i = min (s.get R.X_WDROPS i + 1) 255) ∧ (s.instate i ≤ 5 →
        t.instate i = 0) ∧ (s.instate i = 8 ∨ s.instate i = 9 → t.instate i = s.instate i) ∧ (s.instate i = 10 → t.instate i =
        (if s.on R.X_FETBAD i && !s.on R.X_OV i then 0 else 10)) ∧ (s.instate i ≠ 10 → t.get R.X_ABSENT_AT i = s.get
        R.X_TICKS))) ∧
  -- INPUT_PRESENCE_LOST
  (∀ (s : State) (i : Fin 4), s.present i = false ∧ s.on R.X_DEBOUNCE i →
    Gives (exec (.inputPresenceLost i) s) (fun t =>
      t.on R.X_DEBOUNCE i = false ∧ t.present i = false ∧ (s.instate i = 1 → t.instate i = 0) ∧ (s.instate i = 6 → t.get
        R.X_WDROPS i = min (s.get R.X_WDROPS i + 1) 255))) ∧
  -- ID_DECODE
  (∀ (s : State) (i : Fin 4) (k : Nat), s.instate i = 2 ∧ s.on R.CNV_STATUS_CFG_PENDING = false →
    Gives (exec (.idDecode i k) s) (fun t =>
      t.get R.INn_STAT_BAND i = (bandOf k).getD 7 ∧ t.on R.X_KBAD i = (bandOf k).isNone ∧ t.on R.X_DECODED i ∧ t.instate i =
        2)) ∧
  -- ID_DECODE
  (∀ (s : State) (i : Fin 4) (k : Nat), s.instate i = 8 ∧ s.on R.X_READMIT i ∧ s.cls i ≠ 0 ∧ s.on R.CNV_STATUS_CFG_PENDING =
    false →
    Gives (exec (.idDecode i k) s) (fun t =>
      t.get R.INn_STAT_BAND i = (bandOf k).getD 7 ∧ ((bandOf k).getD 7 = s.get R.X_BAND i → t.instate i = 8 ∧ t.cls i = s.cls
        i) ∧ ((bandOf k).getD 7 ≠ s.get R.X_BAND i → t.instate i = s.restartState i ∧ t.cls i = 0))) ∧
  -- INPUT_CONNECT
  (∀ (s : State) (i : Fin 4) (vbus : Nat), ((s.instate i = 2 ∨ s.instate i = 8 ∧ s.on R.X_READMIT i) ∧ vbus < 65536) →
    Gives (exec (.inputConnect i vbus) s) (fun t =>
      t.get R.X_VBUS i = vbus ∧ (s.instate i = 2 → s.get R.X_VBUS0 i + 200 < vbus → t.instate i = 10 ∧ t.get R.INn_STAT_ISSUE
        i = 6 ∧ t.bit R.IN_FAULT_FET i ∧ t.stands R.IN_FAULT_FET i ∧ t.bit R.IN_STATUS_FET_ON i = false) ∧ (s.instate i = 2 →
        vbus ≤ s.get R.X_VBUS0 i + 200 → t.instate i = 3 ∧ t.bit R.IN_STATUS_FET_ON i = (!s.bit R.BIST_STATUS_SAFE 3 &&
        !s.stands R.IN_FAULT_REV_POL i && !s.on R.MODE_STATUS_THERM_ACTIVE)) ∧ (s.instate i = 8 → t.instate i = 8 ∧ t.bit
        R.IN_STATUS_FET_ON i = (!s.bit R.BIST_STATUS_SAFE 3 && !s.stands R.IN_FAULT_REV_POL i && !s.on
        R.MODE_STATUS_THERM_ACTIVE)))) ∧
  -- VBUS_REACHED
  (∀ (s : State) (i : Fin 4) (v : Nat), s.instate i = 3 ∧ v < 65536 ∧ s.on R.CNV_STATUS_CFG_PENDING = false →
    Gives (exec (.vbusReached i v) s) (fun t =>
      t.get R.INn_V i = v ∧ t.get R.X_VBUS i = v ∧ (if s.get R.INn_STAT_BAND i = 0 ∨ s.get R.INn_STAT_BAND i = 6 ∨ s.on
        R.X_KBAD i then t.instate i = s.decidedState i 6 ∧ t.cls i = s.decidedClass i 6 ∧ t.get R.INn_STAT_ISSUE i = (if s.get
        R.INn_STAT_BAND i = 0 then 0 else 1) else t.cls i = s.cls i ∧ t.instate i = (if s.on R.AUX_STATUS_VAUX_REG then 5 else
        4)))) ∧
  -- VBUS_REACHED
  (∀ (s : State) (i : Fin 4) (v : Nat), s.instate i = 8 ∧ s.on R.X_READMIT i ∧ s.bit R.IN_STATUS_FET_ON i ∧ v < 65536 →
    Gives (exec (.vbusReached i v) s) (fun t =>
      t.instate i = 7 ∧ t.on R.X_READMIT i = false ∧ t.cls i = s.cls i ∧ t.get R.INn_V i = v ∧ (s.cls i = 2 → t.get R.X_VREF i
        = v))) ∧
  -- PROBE_START
  (∀ (s : State) (i : Fin 4), s.instate i = 4 ∧ s.on R.AUX_STATUS_VAUX_REG ∧ s.on R.CNV_STATUS_CFG_PENDING = false →
    Gives (exec (.probeStart i) s) (fun t =>
      t.instate i = 5 ∧ t.on R.PP_STATUS_COLD_START = false ∧ t.get R.TRK_STATUS_SWEEPING = 0 ∧ (s.gstate i = 0 → t.gstate i =
        2)))

/-- What classifies an input, and what drops its class (R83, R86, R88, R89, R90, R91, R92, R100, R101). Model choices: log 1, 27,
  28, 29. -/
def Obligations.InputClassification : Prop :=
  -- PROBE_COMPLETE
  (∀ (s : State) (i : Fin 4) (v0 : Nat) (i0 : Int) (steps : List ProbeStep) (lows : List Nat), (s.instate i = 5 ∧ v0 < 65536 ∧
    s.on R.CNV_STATUS_CFG_PENDING = false ∧ (s.get R.INn_STAT_BAND i < 2 ∨ 5 < s.get R.INn_STAT_BAND i)) →
    Gives (exec (.probeComplete i v0 i0 steps lows) s) (fun t =>
      t.instate i = 6 ∧ t.cls i = s.cls i ∧ t.get R.INn_VOC i = v0 ∧ t.get R.INn_RSRC i = (((probeSteps v0 (s.droopOf i)
        probeTargets lows steps).1.map (fun p => probeR v0 i0 p.v p.a)).getLast?.getD (if (probeSteps v0 (s.droopOf i)
        probeTargets lows steps).2 then 0xFFFE else 0xFFFF)) ∧ t.get R.INn_CURV i = probeCurv ((probeSteps v0 (s.droopOf i)
        probeTargets lows steps).1.map (fun p => probeR v0 i0 p.v p.a)))) ∧
  -- PROBE_COMPLETE
  (∀ (s : State) (i : Fin 4) (v0 : Nat) (i0 : Int) (steps : List ProbeStep) (lows : List Nat), s.instate i = 5 ∧ v0 < 65536 ∧
    s.on R.CNV_STATUS_CFG_PENDING = false ∧ 2 ≤ s.get R.INn_STAT_BAND i ∧ s.get R.INn_STAT_BAND i ≤ 5 →
    Gives (exec (.probeComplete i v0 i0 steps lows) s) (fun t =>
      t.get R.INn_VOC i = v0 ∧ t.instate i = s.decidedState i (s.decided i ((declaredClass (s.get R.INn_STAT_BAND i) 0
        v0).getD 6)) ∧ t.cls i = s.decidedClass i (s.decided i ((declaredClass (s.get R.INn_STAT_BAND i) 0 v0).getD 6)) ∧
        (declaredClass (s.get R.INn_STAT_BAND i) 0 v0 = none → t.get R.INn_STAT_ISSUE i = 2 ∧ t.stands R.IN_FAULT_CLASS i))) ∧
  -- SIGNATURE_WATCH_COMPLETE
  (∀ (s : State) (i : Fin 4) (early mid late : List Nat), s.instate i = 6 ∧ s.on R.CNV_STATUS_CFG_PENDING = false →
    Gives (exec (.signatureWatchComplete i early mid late) s) (fun t =>
      t.get R.INn_SIG_DROPOUTS i = min (max (s.get R.X_WDROPS i) (dropouts (early ++ mid ++ late) 0)) 255 ∧ t.get R.INn_RIPPLE
        i = watchRipple (early ++ mid ++ late) % 65536 ∧ t.get R.INn_SIG_FREQ i = min (watchFreq (early ++ mid ++ late)) 255 ∧
        t.instate i = s.decidedState i (s.decided i (if s.get R.INn_STAT_BAND i = 1 then (declaredClass 1 (t.get
        R.INn_SIG_DROPOUTS i) (s.get R.INn_VOC i)).getD 6 else measuredClass t i (s.on R.X_PROBE_FAIL i))) ∧ t.cls i =
        s.decidedClass i (s.decided i (if s.get R.INn_STAT_BAND i = 1 then (declaredClass 1 (t.get R.INn_SIG_DROPOUTS i)
        (s.get R.INn_VOC i)).getD 6 else measuredClass t i (s.on R.X_PROBE_FAIL i))))) ∧
  -- ID_REDECODE
  (∀ (s : State) (i : Fin 4) (k : Nat), ((s.instate i = 7 ∨ s.instate i = 8) ∧ s.on R.CNV_STATUS_CFG_PENDING = false) →
    Gives (exec (.idRedecode i k) s) (fun t =>
      t.get R.INn_STAT_BAND i = (bandOf k).getD 7 ∧ t.get R.X_IDDIFF i = (if (bandOf k).getD 7 = s.get R.X_BAND i ∨ s.get
        R.X_IDDIFF i ≠ 0 then 0 else 1) ∧ (if (bandOf k).getD 7 = s.get R.X_BAND i ∨ s.get R.X_IDDIFF i = 0 then t.cls i =
        s.cls i ∧ t.instate i = s.instate i else t.cls i = 0 ∧ t.instate i = s.restartState i))) ∧
  -- CLASS_HOLD_EXPIRE
  (∀ (s : State) (i : Fin 4), ((s.instate i = 8 ∧ s.present i = false ∨ s.instate i = 10 ∧ s.on R.X_OV i) ∧ s.cls i ≠ 0 ∧ s.on
    R.CNV_STATUS_CFG_PENDING = false) →
    Gives (exec (.classHoldExpire i) s) (fun t =>
      t.cls i = 0 ∧ t.instate i = (if s.instate i = 10 then 10 else if s.on R.X_DEBOUNCE i then 1 else 0) ∧ t.get
        R.INn_LIM_EFF i = 0 ∧ (s.cls i = 1 → (∀ j : Fin 4, j ≠ i → s.cls j ≠ 1) → t.on R.MODE_STATUS_COUPLED = false))) ∧
  -- RECLASSIFY
  (∀ (s : State) (i : Fin 4), s.on R.CNV_STATUS_CFG_PENDING = false →
    Gives (exec (.reclassify i) s) (fun t =>
      t.cls i = 0 ∧ t.on R.X_FETBAD i = false ∧ t.stands R.IN_FAULT_FET i = false ∧ t.instate i = (if s.on R.X_OV i then
        s.instate i else s.restartState i))) ∧
  -- INPUT_ENABLE_WRITE
  (∀ (s : State) (i : Fin 4) (b : Bool), s.on R.CNV_STATUS_CFG_PENDING = false →
    Gives (exec (.inputEnableWrite i b) s) (fun t =>
      t.on R.INn_CTRL i = b ∧ t.on R.DEV_CFG_DIRTY ∧ (b = false → s.on R.INn_CTRL i → t.instate i = 9 ∧ t.cls i = 0) ∧ (b =
        true → s.on R.INn_CTRL i = false → s.phasesOf i ≠ [] → t.instate i = (if s.on R.X_OV i || s.on R.X_FETBAD i then 10
        else if s.present i then 2 else if s.on R.X_DEBOUNCE i then 1 else 0))))

/-- Faults of an input, and the stop-lamp release (R94, R98). Model choices: log 28, 30. -/
def Obligations.InputFaults : Prop :=
  -- INPUT_OVERVOLTAGE
  (∀ (s : State) (i : Fin 4), s.on R.CNV_STATUS_CFG_PENDING = false →
    Gives (exec (.inputOvervoltage i) s) (fun t =>
      t.instate i = (if s.instate i = 9 then 9 else 10) ∧ t.stands R.IN_FAULT_OV i ∧ t.bit R.IN_FAULT_OV i)) ∧
  -- INPUT_OV_CLEAR
  (∀ (s : State) (i : Fin 4) (vbus : Nat), s.on R.X_OV i ∧ s.on R.X_FETBAD i = false ∧ s.on R.CNV_STATUS_CFG_PENDING = false ∧
    vbus < 65536 →
    Gives (exec (.inputOvClear i vbus) s) (fun t =>
      t.on R.X_OV i = false ∧ t.stands R.IN_FAULT_OV i = false ∧ t.get R.X_VBUS i = vbus ∧ t.instate i = (if s.cls i = 0 then
        s.restartState i else 8) ∧ t.on R.X_READMIT i = (decide (s.cls i ≠ 0) && s.present i))) ∧
  -- REVERSE_POLARITY
  (∀ (s : State) (e : PolarityEdge),
    Gives (exec (.reversePolarity e) s) (fun t =>
      t.stands R.IN_FAULT_REV_POL e.input = e.below ∧ (e.below → t.bit R.IN_STATUS_FET_ON e.input = false ∧ t.get
        R.INn_STAT_ISSUE e.input = 9 ∧ t.bit R.IN_FAULT_REV_POL e.input))) ∧
  -- FET_OPEN
  (∀ (s : State) (i : Fin 4), ((s.instate i = 3 ∨ s.instate i = 7) ∧ s.on R.CNV_STATUS_CFG_PENDING = false) →
    Gives (exec (.fetOpen i) s) (fun t =>
      t.instate i = 10 ∧ t.cls i = 0 ∧ t.get R.INn_STAT_ISSUE i = 7 ∧ t.bit R.IN_FAULT_FET i ∧ (s.drawing i = false → t.bit
        R.IN_STATUS_FET_ON i = false))) ∧
  -- TS_RELEASE
  (∀ (s : State) (i : Fin 4), s.instate i = 7 ∧ s.cls i = 2 ∧ s.bit R.IN_STATUS_TS_RELEASED i = false →
    Gives (exec (.tsRelease i) s) (fun t =>
      t.bit R.IN_STATUS_TS_RELEASED i ∧ t.bit R.IN_STATUS_FET_ON i = false ∧ t.get R.TRKn_CAP i = 0 ∧ t.get R.INn_RELEASES i =
        min (s.get R.INn_RELEASES i + 1) 65535)) ∧
  -- TS_RESUME
  (∀ (s : State) (i : Fin 4) (vref : Nat), s.instate i = 7 ∧ s.cls i = 2 ∧ s.bit R.IN_STATUS_TS_RELEASED i ∧ vref < 65536 ∧
    s.on R.CNV_STATUS_CFG_PENDING = false →
    Gives (exec (.tsResume i vref) s) (fun t =>
      t.bit R.IN_STATUS_TS_RELEASED i = false ∧ t.bit R.IN_STATUS_FET_ON i = (!s.bit R.BIST_STATUS_SAFE 3 && !s.stands
        R.IN_FAULT_REV_POL i && !s.on R.MODE_STATUS_THERM_ACTIVE) ∧ t.get R.X_VREF i = vref)) ∧
  -- TS_VREF_RETAKE
  (∀ (s : State) (i : Fin 4) (vref : Nat), (s.instate i = 7 ∧ s.cls i = 2 ∧ s.bit R.IN_STATUS_TS_RELEASED i = false ∧ (s.on
    R.X_RETAKE i ∨ s.get R.TRKn_ALLOC i ≠ 0) ∧ vref < 65536 ∧ s.on R.CNV_STATUS_CFG_PENDING = false) →
    Gives (exec (.tsVrefRetake i vref) s) (fun t =>
      t.get R.X_VREF i = vref ∧ t.on R.X_RETAKE i = false ∧ t.get R.TRKn_ALLOC i = 0 ∧ t.get R.TRKn_VSET i = max (vref - s.get
        R.IN_TS_DROOP) 1820))

/-- The converter group sequence (R129, R149, R151, R152). -/
def Obligations.ConverterSequence : Prop :=
  -- GROUP_ON_DELAY_END
  (∀ (s : State) (g : Fin 4), s.gstate g = 1 ∧ s.on R.AUX_STATUS_VAUX_REG →
    Gives (exec (.groupOnDelayEnd g) s) (fun t =>
      t.on R.X_BOOT g ∧ t.gstate g = 1)) ∧
  -- GROUP_SWITCH_START
  (∀ (s : State) (g : Fin 4), s.gstate g = 1 ∧ s.on R.X_BOOT g →
    Gives (exec (.groupSwitchStart g) s) (fun t =>
      t.gstate g = 2 ∧ (∀ p ∈ s.usable g, t.on R.CNV_PHn_STAT_SWITCHING p) ∧ t.on R.X_TUNE g ∧ t.on R.CNV_Gg_STAT_TUNED g =
        false ∧ t.get R.CNV_Gg_PEAK g = 0 ∧ t.get R.X_RAMP g = 0)) ∧
  -- GROUP_OFF_DELAY_END
  (∀ (s : State) (g : Fin 4), s.gstate g = 4 ∧ s.get R.TRKn_ALLOC g = 0 ∧ s.on R.CNV_STATUS_CFG_PENDING = false →
    Gives (exec (.groupOffDelayEnd g) s) (fun t =>
      t.gstate g = (if s.usable g = [] then 6 else if s.get R.X_TRIP g ≠ 0 then 5 else 0) ∧ t.on R.CNV_Gg_STAT_TUNED g =
        false)) ∧
  -- SYS_OVERVOLTAGE
  (∀ (s : State),
    Gives (exec (.sysOvervoltage) s) (fun t =>
      t.bit R.CNV_FAULT_SYS_OV 0 ∧ t.stands R.CNV_FAULT_SYS_OV ∧ (∀ g : Fin 4, t.active g = [] ∧ t.bit R.X_TRIP 4 g ∧ t.get
        R.CNV_Gg_PEAK g = 0 ∧ t.gstate g = (if s.usable g = [] then 6 else 5)))) ∧
  -- SYS_OV_CLEAR
  (∀ (s : State), s.on R.CNV_STATUS_CFG_PENDING = false →
    Gives (exec (.sysOvClear) s) (fun t =>
      t.stands R.CNV_FAULT_SYS_OV = false ∧ (∀ g : Fin 4, t.bit R.X_TRIP 4 g = false ∧ (s.gstate g = 5 → s.get R.X_TRIP g = 16
        → t.gstate g = (if s.usable g = [] then 6 else if s.get R.TRKn_ALLOC g ≠ 0 ∧ s.on R.AUX_STATUS_VAUX_REG then 1 else
        0))))) ∧
  -- INPUT_UNDERVOLTAGE
  (∀ (s : State) (g : Fin 4), s.active g ≠ [] →
    Gives (exec (.inputUndervoltage g) s) (fun t =>
      t.bit R.CNV_FAULT_IN_UV g ∧ t.stands R.CNV_FAULT_IN_UV g ∧ t.bit R.X_TRIP 3 g ∧ t.active g = [] ∧ t.get R.CNV_Gg_PEAK g
        = 0 ∧ t.gstate g = (if s.usable g = [] then 6 else 5))) ∧
  -- INPUT_UV_CLEAR
  (∀ (s : State) (g : Fin 4), s.on R.CNV_STATUS_CFG_PENDING = false →
    Gives (exec (.inputUvClear g) s) (fun t =>
      t.stands R.CNV_FAULT_IN_UV g = false ∧ t.bit R.X_TRIP 3 g = false ∧ (s.gstate g = 5 → s.get R.X_TRIP g = 8 → t.gstate g
        = (if s.usable g = [] then 6 else if s.get R.TRKn_ALLOC g ≠ 0 ∧ s.on R.AUX_STATUS_VAUX_REG then 1 else 0)))) ∧
  -- DRIVE_SUPPLY_UV
  (∀ (s : State),
    Gives (exec (.driveSupplyUv) s) (fun t =>
      t.bit R.CNV_FAULT_DRV_UV 0 ∧ t.stands R.CNV_FAULT_DRV_UV ∧ (∀ g : Fin 4, t.active g = [] ∧ t.bit R.X_TRIP 5 g ∧ t.get
        R.CNV_Gg_PEAK g = 0 ∧ t.gstate g = (if s.usable g = [] then 6 else 5)))) ∧
  -- DRIVE_SUPPLY_CLEAR
  (∀ (s : State), s.on R.CNV_STATUS_CFG_PENDING = false →
    Gives (exec (.driveSupplyClear) s) (fun t =>
      t.stands R.CNV_FAULT_DRV_UV = false ∧ (∀ g : Fin 4, t.bit R.X_TRIP 5 g = false ∧ (s.gstate g = 5 → s.get R.X_TRIP g = 32
        → t.gstate g = (if s.usable g = [] then 6 else if s.get R.TRKn_ALLOC g ≠ 0 ∧ s.on R.AUX_STATUS_VAUX_REG then 1 else
        0))))) ∧
  -- CNV_CFG_APPLY
  (∀ (s : State), (s.on R.CNV_STATUS_CFG_PENDING ∧ s.allStopped ∧ (∀ p : Fin 6, s.mapNibble p ≤ 4)) →
    Gives (exec (.cnvCfgApply) s) (fun t =>
      t.on R.CNV_STATUS_CFG_PENDING = false ∧ t.get R.X_FSW = s.get R.CNV_FSW ∧ (∀ p : Fin 6, t.get R.CNV_PHn_STAT_GROUP p =
        s.mapNibble p) ∧ (∀ g : Fin 4, t.get R.X_PHASE_OFS g = s.get R.CNV_Gg_PHASE_OFS g ∧ (t.gstate g = 6 ↔ t.usable g = [])
        ∧ (t.phasesOf g = [] → t.instate g = 9 ∧ (s.instate g ≠ 9 → t.cls g = 0 ∧ t.bit R.IN_STATUS_FET_ON g = false)))))

/-- Loop evaluation, tuning, equalisation, dead time and light load (R133, R138, R142, R143, R144, R145, R146, R147, R148). Model
  choices: log 32, 33. -/
def Obligations.ConverterLoops : Prop :=
  -- LOOP_EVALUATION
  (∀ (s : State) (g : Fin 4) (vin iin ibat vbat vsys reduced amps sys vbus bats : Nat), s.gstate g = 3 ∧ s.instate g ≠ 5 ∧
    s.get R.TRKn_ALLOC g ≠ 0 ∧ sys < 65536 ∧ vbus < 65536 →
    Gives (exec (.loopEvaluation g vin iin ibat vbat vsys reduced amps sys vbus bats) s) (fun t =>
      t.get R.TRKn_STAT_LOOP g = governing vin iin ibat vbat vsys ∧ t.on R.TRKn_STAT_GOVERNED g = (governing vin iin ibat vbat
        vsys == 1) ∧ t.get R.CNV_Gg_STAT_REGION g = (if s.on R.CNV_Gg_STAT_BURST g then s.get R.CNV_Gg_STAT_REGION g else
        nextRegion (s.get R.CNV_Gg_STAT_REGION g) sys vbus) ∧ t.get R.X_SYSS = sys ∧ t.get R.X_VBUS g = vbus)) ∧
  -- TUNING_COMPLETE
  (∀ (s : State) (g : Fin 4) (kp ki : Nat), s.on R.X_TUNING g ∧ s.tuneHolds g ∧ 64 ≤ kp ∧ kp ≤ 1024 ∧ 64 ≤ ki ∧ ki ≤ 1024 →
    Gives (exec (.tuningComplete g kp ki) s) (fun t =>
      t.get R.CNV_Gg_KP g = kp ∧ t.get R.CNV_Gg_KI g = ki ∧ t.on R.CNV_Gg_STAT_TUNED g ∧ t.on R.X_TUNE g = false ∧ t.on
        R.X_TUNING g = false)) ∧
  -- TUNE_FAIL
  (∀ (s : State) (g : Fin 4), s.on R.X_TUNE g →
    Gives (exec (.tuneFail g) s) (fun t =>
      t.on R.X_TUNE g = false ∧ t.get R.CNV_Gg_KP g = 256 ∧ t.get R.CNV_Gg_KI g = 256 ∧ t.bit R.CNV_FAULT_TUNE_FAIL g)) ∧
  -- RETUNE
  (∀ (s : State) (g : Fin 4), s.gstate g = 3 →
    Gives (exec (.retune g) s) (fun t =>
      t.on R.X_TUNE g ∧ t.gstate g = 3)) ∧
  -- EQUALISATION_UPDATE
  (∀ (s : State) (g : Fin 4) (cur : List Int), ((∀ c ∈ cur, -4000 ≤ c ∧ c ≤ 4000)) →
    Gives (exec (.equalisationUpdate g cur) s) (fun t =>
      (∀ p ∈ s.phasesOf g, t.getS R.CNV_PHn_I p = (if s.on R.CNV_PHn_STAT_SWITCHING p then cur.getD p 0 else 0)) ∧ t.on
        R.CNV_Gg_STAT_EQ_ACTIVE g = s.trimsFree g cur ∧ t.get R.X_EQ_HOLD g = s.get R.X_EQ_HOLD g - 32 ∧ (∀ p ∈ s.phasesOf g,
        t.getS R.CNV_PHn_TRIM p = (if s.trimsFree g cur && s.on R.CNV_PHn_STAT_SWITCHING p then trimStep (cur.getD p 0)
        (s.sampledSum g cur) (s.active g).length (s.getS R.CNV_PHn_TRIM p) else s.getS R.CNV_PHn_TRIM p)) ∧ (∀ p ∈ s.phasesOf
        g, t.get R.X_SAT p = (if (t.getS R.CNV_PHn_TRIM p).natAbs = 64 then min (s.get R.X_SAT p + 1) 1048575 else 0)))) ∧
  -- DEAD_TIME_UPDATE
  (∀ (s : State) (p : Fin 6) (edge : Fin 4) (diode gate : Bool) (fall : Nat), s.on R.CNV_DT_INIT_LEARN ∧ s.on
    R.CNV_PHn_STAT_SWITCHING p ∧ s.on R.CNV_Gg_STAT_BURST (s.get R.CNV_PHn_STAT_GROUP p - 1) = false ∧ (s.get R.CNV_PH_IMAX :
    Int) ≤ 10 * s.getS R.CNV_PHn_I p →
    Gives (exec (.deadTimeUpdate p edge diode gate fall) s) (fun t =>
      t.get (deadTime edge) p = (if gate then min (s.get (deadTime edge) p + 1) 40 else if diode ∧ max fall 2 < s.get
        (deadTime edge) p then s.get (deadTime edge) p - 1 else s.get (deadTime edge) p))) ∧
  -- ZERO_CROSS_UPDATE
  (∀ (s : State) (p : Fin 6) (diode ring : Bool), s.on R.CNV_LIGHT_DE_EN ∧ s.on R.CNV_PHn_STAT_SWITCHING p ∧ -40 ≤ s.getS
    R.CNV_PHn_ZC_OFS p ∧ s.getS R.CNV_PHn_ZC_OFS p ≤ 40 →
    Gives (exec (.zeroCrossUpdate p diode ring) s) (fun t =>
      t.getS R.CNV_PHn_ZC_OFS p = (if diode = ring then s.getS R.CNV_PHn_ZC_OFS p else if diode then max (s.getS
        R.CNV_PHn_ZC_OFS p - 1) (-40) else min (s.getS R.CNV_PHn_ZC_OFS p + 1) 40))) ∧
  -- SHED_EVALUATION
  (∀ (s : State) (g : Fin 4) (cur : List Int) (de full : Bool), ((s.gstate g = 2 ∨ s.gstate g = 3 ∧ (s.on R.CNV_LIGHT_SHED_EN
    = false ∨ s.on R.CNV_Gg_STAT_BURST g)) ∧ (∀ c ∈ cur, -4000 ≤ c ∧ c ≤ 4000)) →
    Gives (exec (.shedEvaluation g cur de full) s) (fun t =>
      t.on R.CNV_Gg_STAT_DE g = (de && s.diode g) ∧ t.gstate g = s.gstate g ∧ t.active g = s.active g ∧ (∀ p ∈ s.phasesOf g,
        t.getS R.CNV_PHn_I p = (if s.on R.CNV_PHn_STAT_SWITCHING p then cur.getD p 0 else 0)))) ∧
  -- SHED_EVALUATION
  (∀ (s : State) (g : Fin 4) (cur : List Int) (de full : Bool), (s.gstate g = 3 ∧ s.on R.CNV_LIGHT_SHED_EN ∧ s.on
    R.CNV_Gg_STAT_BURST g = false ∧ (∀ c ∈ cur, -4000 ≤ c ∧ c ≤ 4000) ∧ ¬(s.highCount g cur = 2 ∨ full = true ∨ s.active g =
    [] ∨ s.on R.CNV_Gg_STAT_PH_LIMIT g) ∧ ¬(s.lowCount g cur = 8 ∧ 2 ≤ (s.active g).length)) →
    Gives (exec (.shedEvaluation g cur de full) s) (fun t =>
      t.on R.CNV_Gg_STAT_DE g = (de && s.diode g) ∧ t.active g = s.active g ∧ (∀ p ∈ s.phasesOf g, t.getS R.CNV_PHn_I p = (if
        s.on R.CNV_PHn_STAT_SWITCHING p then cur.getD p 0 else 0)) ∧ t.get R.X_SHED_LOW g = s.lowCount g cur ∧ t.get
        R.X_SHED_HIGH g = s.highCount g cur)) ∧
  -- SHED_EVALUATION
  (∀ (s : State) (g : Fin 4) (cur : List Int) (de full : Bool), (s.gstate g = 3 ∧ s.on R.CNV_LIGHT_SHED_EN ∧ s.on
    R.CNV_Gg_STAT_BURST g = false ∧ (∀ c ∈ cur, -4000 ≤ c ∧ c ≤ 4000) ∧ ¬(s.highCount g cur = 2 ∨ full = true ∨ s.active g =
    [] ∨ s.on R.CNV_Gg_STAT_PH_LIMIT g) ∧ s.lowCount g cur = 8 ∧ 2 ≤ (s.active g).length) →
    Gives (exec (.shedEvaluation g cur de full) s) (fun t =>
      t.on R.CNV_Gg_STAT_DE g = (de && s.diode g) ∧ t.get R.X_SHED_LOW g = 0 ∧ t.get R.X_EQ_HOLD g = 256 ∧ t.on R.X_TUNING g =
        false ∧ t.active g = (s.active g).dropLast ∧ (∀ p, (s.active g).getLast? = some p → t.on R.CNV_PHn_STAT_SHED p))) ∧
  -- SHED_EVALUATION
  (∀ (s : State) (g : Fin 4) (cur : List Int) (de full : Bool), (s.gstate g = 3 ∧ s.on R.CNV_LIGHT_SHED_EN ∧ s.on
    R.CNV_Gg_STAT_BURST g = false ∧ (∀ c ∈ cur, -4000 ≤ c ∧ c ≤ 4000) ∧ (s.highCount g cur = 2 ∨ full = true ∨ s.active g = []
    ∨ s.on R.CNV_Gg_STAT_PH_LIMIT g)) →
    Gives (exec (.shedEvaluation g cur de full) s) (fun t =>
      t.on R.CNV_Gg_STAT_DE g = (de && s.diode g) ∧ (∀ p : Fin 6, (s.usable g).find? (fun q => s.on R.CNV_PHn_STAT_SHED q) =
        some p.val → t.on R.CNV_PHn_STAT_SWITCHING p ∧ t.on R.CNV_PHn_STAT_SHED p = false ∧ t.getS R.CNV_PHn_TRIM p = 0 ∧
        t.get R.X_EQ_HOLD g = 256 ∧ t.get R.X_SHED_HIGH g = 0) ∧ ((s.usable g).find? (fun q => s.on R.CNV_PHn_STAT_SHED q) =
        none → t.active g = s.active g))) ∧
  -- BURST
  (∀ (s : State) (g ev : Fin 4), ev = 0 ∧ s.on R.CNV_Gg_STAT_BURST g = false ∧ s.gstate g = 3 ∧ s.on R.CNV_LIGHT_BURST_EN ∧
    (s.active g).length = 1 ∧ s.get R.CNV_Gg_PEAK g * 20 < s.get R.CNV_IPK_LIM →
    Gives (exec (.burst g ev) s) (fun t =>
      t.on R.CNV_Gg_STAT_BURST g ∧ t.get R.CNV_Gg_PEAK g = s.burstFloor ∧ t.active g = s.active g)) ∧
  -- BURST
  (∀ (s : State) (g ev : Fin 4), ev = 1 ∧ s.on R.CNV_Gg_STAT_BURST g →
    Gives (exec (.burst g ev) s) (fun t =>
      t.on R.CNV_Gg_STAT_BURST g ∧ t.get R.CNV_Gg_PEAK g = s.burstFloor ∧ t.get R.CNV_Gg_STAT_REGION g = nextRegion (s.get
        R.CNV_Gg_STAT_REGION g) (s.get R.X_LSYS g) (s.get R.X_LVBUS g) ∧ (∀ p ∈ s.usable g, s.on R.CNV_PHn_STAT_SHED p = false
        → t.on R.CNV_PHn_STAT_SWITCHING p))) ∧
  -- BURST
  (∀ (s : State) (g ev : Fin 4), ev = 2 ∧ s.on R.CNV_Gg_STAT_BURST g →
    Gives (exec (.burst g ev) s) (fun t =>
      t.on R.CNV_Gg_STAT_BURST g ∧ t.gstate g = s.gstate g ∧ t.get R.CNV_Gg_STAT_REGION g = s.get R.CNV_Gg_STAT_REGION g ∧ (∀
        p ∈ s.usable g, s.on R.CNV_PHn_STAT_SHED p = false → t.on R.CNV_PHn_STAT_SWITCHING p = false))) ∧
  -- BURST
  (∀ (s : State) (g ev : Fin 4), ev = 3 ∧ s.on R.CNV_Gg_STAT_BURST g →
    Gives (exec (.burst g ev) s) (fun t =>
      t.on R.CNV_Gg_STAT_BURST g = false ∧ t.gstate g = s.gstate g ∧ t.get R.CNV_Gg_PEAK g = s.burstFloor ∧ (∀ p ∈ s.usable g,
        s.on R.CNV_PHn_STAT_SHED p = false → t.on R.CNV_PHn_STAT_SWITCHING p)))

/-- Phase events of the converter (R152). -/
def Obligations.ConverterPhases : Prop :=
  -- BOOTSTRAP_REFRESH
  (∀ (s : State) (p : Fin 6) (r : RefreshPulse), (s.on R.CNV_PHn_STAT_SWITCHING p ∧ (s.refreshSide (s.get R.CNV_PHn_STAT_GROUP
    p - 1) = 1 ∨ s.refreshSide (s.get R.CNV_PHn_STAT_GROUP p - 1) = 2 ∧ s.getS R.CNV_PHn_ZC_OFS p < r.cur)) →
    Gives (exec (.bootstrapRefresh p r) s) (fun t =>
      t.on R.X_BOOT_REF p = (if r.forced ∨ 4 < r.since then r.forced else s.on R.X_BOOT_REF p) ∧ t.get R.X_BOOT_SIDE p =
        s.refreshSide (s.get R.CNV_PHn_STAT_GROUP p - 1))) ∧
  -- PEAK_LIMIT
  (∀ (s : State) (e : TurnOff), s.on R.CNV_PHn_STAT_SWITCHING e.phase ∧ 60 ≤ e.ns →
    Gives (exec (.peakLimit e) s) (fun t =>
      t.get R.CNV_PHn_PKLIM_CNT e.phase = min (s.get R.CNV_PHn_PKLIM_CNT e.phase + 1) 65535)) ∧
  -- NEGATIVE_LIMIT
  (∀ (s : State) (e : NegativeCurrent), s.on R.CNV_PHn_STAT_SWITCHING e.phase ∧ e.cur < -(s.get R.CNV_INEG_LIM : Int) →
    Gives (exec (.negativeLimit e) s) (fun t =>
      t.on R.X_SYNC_OFF e.phase)) ∧
  -- PHASE_SHORT
  (∀ (s : State) (p : Fin 6), s.get R.CNV_PHn_STAT_GROUP p ≠ 0 ∧ s.on R.CNV_PHn_STAT_EXCLUDED p = false →
    Gives (exec (.phaseShort p) s) (fun t =>
      t.on R.CNV_PHn_STAT_EXCLUDED p ∧ t.get R.CNV_PHn_STAT_CAUSE p = 2 ∧ t.on R.CNV_PHn_STAT_SWITCHING p = false ∧ t.bit
        R.CNV_PH_FAULT_SHORT p)) ∧
  -- PHASE_OPEN
  (∀ (s : State) (p : Fin 6), s.on R.CNV_PHn_STAT_SWITCHING p ∧ s.get R.CNV_PHn_STAT_GROUP p ≠ 0 ∧ s.on
    R.CNV_PHn_STAT_EXCLUDED p = false →
    Gives (exec (.phaseOpen p) s) (fun t =>
      t.on R.CNV_PHn_STAT_EXCLUDED p ∧ t.get R.CNV_PHn_STAT_CAUSE p = 1 ∧ t.on R.CNV_PHn_STAT_SWITCHING p = false ∧ t.bit
        R.CNV_PH_FAULT_OPEN p)) ∧
  -- BOOTSTRAP_FAULT
  (∀ (s : State) (p : Fin 6), s.on R.X_BOOT_REF p ∧ s.get R.CNV_PHn_STAT_GROUP p ≠ 0 ∧ s.on R.CNV_PHn_STAT_EXCLUDED p = false
    →
    Gives (exec (.bootstrapFault p) s) (fun t =>
      t.on R.CNV_PHn_STAT_EXCLUDED p ∧ t.get R.CNV_PHn_STAT_CAUSE p = 3 ∧ t.bit R.CNV_FAULT_BOOT p ∧ t.on R.X_BOOT_REF p =
        false)) ∧
  -- PH_RETRY
  (∀ (s : State) (p : Fin 6), s.on R.CNV_PHn_STAT_EXCLUDED p →
    Gives (exec (.phRetry p) s) (fun t =>
      t.on R.CNV_PHn_STAT_EXCLUDED p = false ∧ t.get R.CNV_PHn_STAT_CAUSE p = 0 ∧ t.stands R.CNV_PH_FAULT_SHORT p = false ∧
        t.stands R.CNV_PH_FAULT_OPEN p = false))

/-- Tracking, allocation and sweeps (R108, R109, R111, R112, R113, R114, R118, R119, R120, R122). Model choices: log 31. -/
def Obligations.Tracking : Prop :=
  -- ALLOCATOR_UPDATE
  (∀ (s : State) (pin ins : Quad) (vbat ibat : Int) (sys : Nat), (sys < 65536 ∧ (∀ i : Fin 4, ins.at i < 65536) ∧ s.on
    R.CNV_STATUS_CFG_PENDING = false) →
    Gives (exec (.allocatorUpdate pin ins vbat ibat sys) s) (fun t =>
      (∀ i : Fin 4, t.get R.TRKn_PIN i = min (pin.at i) 65535 ∧ t.get R.INn_V i = ins.at i ∧ t.get R.INn_LIM_EFF i = s.limEff
        i ∧ t.get R.TRKn_CAP i = min (t.capability i (pin.at i) (ins.at i)) 65535) ∧ t.get R.X_SYSS = sys ∧ (s.allocRuns =
        false → t.get R.TRK_STATUS_TRIM = 0 ∧ t.on R.TRK_STATUS_SHORTFALL = false ∧ ∀ g : Fin 4, t.get R.TRKn_ALLOC g =
        moveCeiling (s.get R.TRKn_ALLOC g) 0 0 s.edgeStep) ∧ (s.allocRuns → t.get R.TRK_DEMAND = min (t.demandD pin vbat
        ibat).toNat 65535 ∧ t.get R.TRK_LOAD = min (t.pLoad pin vbat ibat).toNat 65535 ∧ t.on R.TRK_STATUS_SHORTFALL = decide
        (0 < (t.shares pin ins vbat ibat).2) ∧ ∀ g : Fin 4, t.get R.TRKn_ALLOC g = (if t.probing && t.drawable g then s.get
        R.TRKn_ALLOC g else moveCeiling (s.get R.TRKn_ALLOC g) (t.wanted (t.shares pin ins vbat ibat).1 ins g) t.riseStep
        t.edgeStep)))) ∧
  -- PO_PERIOD_END
  (∀ (s : State) (i : Fin 4) (p : Nat) (counted : Bool), ((s.cls i = 3 ∨ s.cls i = 5) ∧ p < 65536 ∧ 1 ≤ s.get R.TRKn_STEP i ∧
    s.get R.TRKn_STEP i ≤ 100 ∧ s.get R.TRKn_STAT_RUN i < 4) →
    Gives (exec (.poPeriodEnd i p counted) s) (fun t =>
      if counted && s.drawable i && !s.bit R.TRK_STATUS_SWEEPING i && !s.on R.X_AWAIT i then t.on R.X_PO_VALID i ∧ t.get
        R.X_PO_OLD i = p ∧ t.on R.X_COUNTED i ∧ t.get R.X_PCNT i = p ∧ t.get R.TRKn_VSET i = (poMove (s.get R.TRKn_VSET i)
        (s.poBounds i).1 (s.poBounds i).2 (poJudge (if s.on R.X_PO_VALID i then some (s.get R.X_PO_OLD i) else none) p (s.on
        R.TRKn_STAT_DIR_DOWN i) (s.get R.TRKn_STEP i) (s.get R.TRKn_STAT_RUN i)).1 (poJudge (if s.on R.X_PO_VALID i then some
        (s.get R.X_PO_OLD i) else none) p (s.on R.TRKn_STAT_DIR_DOWN i) (s.get R.TRKn_STEP i) (s.get R.TRKn_STAT_RUN i)).2.1
        (poJudge (if s.on R.X_PO_VALID i then some (s.get R.X_PO_OLD i) else none) p (s.on R.TRKn_STAT_DIR_DOWN i) (s.get
        R.TRKn_STEP i) (s.get R.TRKn_STAT_RUN i)).2.2).1 % 65536 ∧ t.on R.TRKn_STAT_DIR_DOWN i = (poMove (s.get R.TRKn_VSET i)
        (s.poBounds i).1 (s.poBounds i).2 (poJudge (if s.on R.X_PO_VALID i then some (s.get R.X_PO_OLD i) else none) p (s.on
        R.TRKn_STAT_DIR_DOWN i) (s.get R.TRKn_STEP i) (s.get R.TRKn_STAT_RUN i)).1 (poJudge (if s.on R.X_PO_VALID i then some
        (s.get R.X_PO_OLD i) else none) p (s.on R.TRKn_STAT_DIR_DOWN i) (s.get R.TRKn_STEP i) (s.get R.TRKn_STAT_RUN i)).2.1
        (poJudge (if s.on R.X_PO_VALID i then some (s.get R.X_PO_OLD i) else none) p (s.on R.TRKn_STAT_DIR_DOWN i) (s.get
        R.TRKn_STEP i) (s.get R.TRKn_STAT_RUN i)).2.2).2.1 ∧ t.get R.TRKn_STEP i = (poMove (s.get R.TRKn_VSET i) (s.poBounds
        i).1 (s.poBounds i).2 (poJudge (if s.on R.X_PO_VALID i then some (s.get R.X_PO_OLD i) else none) p (s.on
        R.TRKn_STAT_DIR_DOWN i) (s.get R.TRKn_STEP i) (s.get R.TRKn_STAT_RUN i)).1 (poJudge (if s.on R.X_PO_VALID i then some
        (s.get R.X_PO_OLD i) else none) p (s.on R.TRKn_STAT_DIR_DOWN i) (s.get R.TRKn_STEP i) (s.get R.TRKn_STAT_RUN i)).2.1
        (poJudge (if s.on R.X_PO_VALID i then some (s.get R.X_PO_OLD i) else none) p (s.on R.TRKn_STAT_DIR_DOWN i) (s.get
        R.TRKn_STEP i) (s.get R.TRKn_STAT_RUN i)).2.2).2.2.1 ∧ t.get R.TRKn_STAT_RUN i = (poMove (s.get R.TRKn_VSET i)
        (s.poBounds i).1 (s.poBounds i).2 (poJudge (if s.on R.X_PO_VALID i then some (s.get R.X_PO_OLD i) else none) p (s.on
        R.TRKn_STAT_DIR_DOWN i) (s.get R.TRKn_STEP i) (s.get R.TRKn_STAT_RUN i)).1 (poJudge (if s.on R.X_PO_VALID i then some
        (s.get R.X_PO_OLD i) else none) p (s.on R.TRKn_STAT_DIR_DOWN i) (s.get R.TRKn_STEP i) (s.get R.TRKn_STAT_RUN i)).2.1
        (poJudge (if s.on R.X_PO_VALID i then some (s.get R.X_PO_OLD i) else none) p (s.on R.TRKn_STAT_DIR_DOWN i) (s.get
        R.TRKn_STEP i) (s.get R.TRKn_STAT_RUN i)).2.2).2.2.2 else t.on R.X_PO_VALID i = false ∧ t.get R.TRKn_VSET i = s.get
        R.TRKn_VSET i ∧ t.get R.TRKn_STEP i = s.get R.TRKn_STEP i)) ∧
  -- SWEEP_START
  (∀ (s : State) (i : Fin 4), s.on R.X_SWEEP_DUE i ∧ s.cls i = 3 ∧ s.drawable i ∧ s.allowed i ∧ s.allocRuns ∧ s.retrying =
    false ∧ s.sweepWaits i = false →
    Gives (exec (.sweepStart i) s) (fun t =>
      t.bit R.TRK_STATUS_SWEEPING i ∧ t.get R.TRKn_STAT_STYLE i = 6 ∧ t.get R.TRKn_VSET i = 6000 ∧ t.get R.X_VSET_OLD i =
        s.get R.TRKn_VSET i ∧ t.get R.TRKn_ALLOC i = s.get R.INn_LIM_EFF i ∧ t.on R.X_SWEEP_DUE i = false)) ∧
  -- SWEEP_COMPLETE
  (∀ (s : State) (i : Fin 4) (voc : Nat) (powers : List Nat), s.bit R.TRK_STATUS_SWEEPING i ∧ voc < 65536 →
    Gives (exec (.sweepComplete i voc powers) s) (fun t =>
      t.bit R.TRK_STATUS_SWEEPING i = false ∧ t.get R.TRKn_STAT_STYLE i = 1 ∧ t.get R.X_SWEEP_VOC i = voc ∧ t.on R.X_SWEPT i ∧
        t.get R.TRKn_STEP i = s.get R.TRK_STEP_INIT)) ∧
  -- SWEEP_ABORT
  (∀ (s : State) (i : Fin 4), s.bit R.TRK_STATUS_SWEEPING i →
    Gives (exec (.sweepAbort i) s) (fun t =>
      t.bit R.TRK_STATUS_SWEEPING i = false ∧ t.get R.TRKn_VSET i = s.get R.X_VSET_OLD i ∧ t.get R.TRKn_STAT_STYLE i = 1 ∧
        t.bit R.TRK_FAULT_SWEEP_ABORT i)) ∧
  -- SWEEP_NOW
  (∀ (s : State) (i : Fin 4), s.cls i = 3 →
    Gives (exec (.sweepNow i) s) (fun t =>
      t.on R.X_SWEEP_DUE i)) ∧
  -- TRK_WEAK
  (∀ (s : State) (i : Fin 4), ((s.cls i = 1 ∨ s.cls i = 4 ∨ s.cls i = 6) ∧ s.on R.TRKn_STAT_GOVERNED i) →
    Gives (exec (.trkWeak i) s) (fun t =>
      t.bit R.TRK_FAULT_WEAK i ∧ t.stands R.TRK_FAULT_WEAK i))

/-- The charge sequencer at the end of a qualification, a pulse and a rest (R165, R166, R167, R168, R170, R171, R176, R177, R178,
  R180, R453). Model choices: log 35, 36. -/
def Obligations.ChargeSequence : Prop :=
  -- QUALIFY_COMPLETE
  (∀ (s : State) (vq : Nat), s.chg = 2 ∧ s.holding = false ∧ s.get R.PP_STATUS_BAT = 1 →
    Gives (exec (.qualifyComplete vq) s) (fun t =>
      if vq < s.cells * s.get R.CHG_V_PRE then t.chg = 3 ∧ t.get R.CHG_FULL = s.get R.CHG_FULL else if s.get
        R.MODE_STATUS_MODE = 7 then t.chg = 2 else if s.on R.CHG_FULL ∧ s.cells * s.get R.CHG_V_RECHARGE ≤ vq then t.chg = (if
        s.leadAcid then 0xC else 0xA) ∧ t.on R.CHG_FULL else if s.cells * s.get R.CHG_V_FULL_REST ≤ vq then t.chg = (if
        s.leadAcid then 0xC else 0xA) ∧ t.on R.CHG_FULL else t.chg = 4 ∧ t.on R.X_PULSE ∧ t.on R.CHG_FULL = false ∧ t.get
        R.CHG_I_PULSE = max (s.get R.CHG_I_SET / 4) (s.get R.CHG_I_TERM))) ∧
  -- PRECHARGE_COMPLETE
  (∀ (s : State) (v : Nat), s.chg = 3 ∧ s.holding = false ∧ s.cells * (s.get R.CHG_V_PRE + 50) ≤ v →
    Gives (exec (.prechargeComplete v) s) (fun t =>
      if s.get R.MODE_STATUS_MODE = 7 then t.chg = 3 else t.chg = 4 ∧ t.on R.X_PULSE ∧ t.get R.CHG_I_PULSE = max (s.get
        R.CHG_I_SET / 4) (s.get R.CHG_I_TERM))) ∧
  -- ON_PULSE_END
  (∀ (s : State) (ion : Int) (von : Nat), onState s.chg ∧ s.on R.X_PULSE →
    Gives (exec (.onPulseEnd ion von) s) (fun t =>
      t.getS R.X_ION = satS16 ion ∧ t.get R.X_VON = min von 65535 ∧ t.on R.X_PULSE = false ∧ t.on R.X_PULSE_OVER = false ∧
        t.get R.CHG_I_TARGET = s.get R.CHG_I_TARGET ∧ t.chg = (if s.get R.CHG_I_TARGET ≠ 0 then s.chg else if s.on R.X_TO_IDLE
        then 1 else s.chg + 1))) ∧
  -- REST_SAMPLE
  (∀ (s : State) (k : Fin 3) (v : Nat) (i1 : Int), restState s.chg ∧ s.on R.X_CHG_WAIT = false →
    Gives (exec (.restSample k v i1) s) (fun t =>
      t.get R.X_SAMPLE k = min v 65535 ∧ (k = 0 → t.getS R.X_I1 = satS16 i1))) ∧
  -- REST_END
  (∀ (s : State) (inBand : Bool) (raw amps : Int) (sat : Bool), restState s.chg ∧ s.on R.X_CHG_WAIT = false →
    Gives (exec (.restEnd inBand raw amps sat) s) (fun t =>
      (∀ k : Fin 3, t.get R.CHG_REST_V k = s.get R.X_SAMPLE k) ∧ (if s.restValid inBand then t.get R.CHG_R_OHM =
        s.restFigures.1 ∧ t.get R.CHG_RHO = s.restFigures.2.1 ∧ t.get R.CHG_V_POL = s.restFigures.2.2 ∧ t.get
        R.CHG_REST_INVALID = s.get R.CHG_REST_INVALID ∧ t.get R.CHG_TERM_CNT = min s.restDecision.2 3 ∧ (s.chg = 5 → t.get
        R.CHG_I_PULSE = s.steer s.restFigures.2.2 % 65536) ∧ (if s.chg = 9 ∧ 3 ≤ s.restDecision.2 then t.chg = 0xA ∧ t.on
        R.CHG_FULL else t.chg = s.pulseState s.restDecision.1 ∧ t.on R.X_PULSE = !s.holding) else t.get R.CHG_REST_INVALID =
        min (s.get R.CHG_REST_INVALID + 1) R.CHG_REST_INVALID.top ∧ t.get R.CHG_I_PULSE = s.get R.CHG_I_PULSE ∧ t.chg =
        s.pulseState (s.chg - 1) ∧ t.on R.X_PULSE = !s.holding))) ∧
  -- REST_END
  (∀ (s : State) (inBand : Bool) (raw amps : Int) (sat : Bool), restState s.chg ∧ s.on R.X_CHG_WAIT ∧ s.holding = false →
    Gives (exec (.restEnd inBand raw amps sat) s) (fun t =>
      t.chg = s.chg - 1 ∧ t.on R.X_PULSE ∧ t.on R.X_CHG_WAIT = false ∧ t.get R.CHG_REST_INVALID = s.get R.CHG_REST_INVALID)) ∧
  -- MAINTAIN_CHECK
  (∀ (s : State) (v : Nat) (amps raw : Int) (sat : Bool), s.chg = 0xA ∧ s.on R.BIST_STATUS_P3_WINDOW = false ∧ s.p3Qualifies =
    false →
    Gives (exec (.maintainCheck v amps raw sat) s) (fun t =>
      if 4 + s.get R.CHG_I_TERM / 10 < amps.natAbs then t.chg = 0xA ∧ t.get R.X_MAINT_LOW = s.get R.X_MAINT_LOW else if
        s.cells * s.get R.CHG_V_RECHARGE ≤ v then t.chg = 0xA ∧ t.get R.X_MAINT_LOW = 0 else if s.get R.X_MAINT_LOW = 0 then
        t.chg = 0xA ∧ t.get R.X_MAINT_LOW = 1 else t.chg = s.pulseState 4 ∧ t.on R.CHG_FULL = false ∧ t.get R.CHG_I_PULSE =
        max (s.get R.CHG_I_SET / 4) (s.get R.CHG_I_TERM))) ∧
  -- MAINTAIN_CHECK
  (∀ (s : State) (v : Nat) (amps raw : Int) (sat : Bool), s.chg = 0xA ∧ s.on R.BIST_STATUS_P3_WINDOW = false ∧ s.p3Qualifies ∧
    s.on R.CNV_STATUS_CFG_PENDING = false →
    Gives (exec (.maintainCheck v amps raw sat) s) (fun t =>
      t.on R.BIST_STATUS_P3_WINDOW ∧ t.chg = 0xA ∧ ∀ g : Fin 4, t.active g = [] ∧ t.gstate g = (if s.usable g = [] then 6 else
        if s.get R.X_TRIP g ≠ 0 then 5 else 0))) ∧
  -- P3_WINDOW_END
  (∀ (s : State), s.on R.BIST_STATUS_P3_WINDOW →
    Gives (exec (.p3WindowEnd) s) (fun t =>
      t.on R.BIST_STATUS_P3_WINDOW = false ∧ ∀ g : Fin 4, t.gstate g = (if s.gstate g = 0 ∧ s.get R.TRKn_ALLOC g ≠ 0 ∧ s.on
        R.AUX_STATUS_VAUX_REG then 1 else s.gstate g))) ∧
  -- ABSORB_END
  (∀ (s : State), s.chg = 0xB →
    Gives (exec (.absorbEnd) s) (fun t =>
      t.chg = 0xC ∧ t.get R.CHG_FULL = 1 ∧ t.get R.CHG_TCHG_ACC = 0 ∧ t.get R.CHG_TABS = 0)) ∧
  -- FLOAT_RECHARGE
  (∀ (s : State), s.chg = 0xC ∧ s.holding = false →
    Gives (exec (.floatRecharge) s) (fun t =>
      t.chg = 4 ∧ t.on R.X_PULSE ∧ t.on R.CHG_FULL = false ∧ t.get R.CHG_I_PULSE = max (s.get R.CHG_I_SET / 4) (s.get
        R.CHG_I_TERM))) ∧
  -- EQUALISE_END
  (∀ (s : State) (why : Fin 3), s.chg = 0xD →
    Gives (exec (.equaliseEnd why) s) (fun t =>
      t.chg = (if why = 0 ∨ s.getS R.CHG_T_WARM_START ≤ s.tWarm ∨ s.hasClass 4 = false ∨ s.get R.MODE_STATUS_MODE ≠ 6 then 0xC
        else 0xD) ∧ (why ≠ 0 → s.getS R.CHG_T_WARM_START ≤ s.tWarm → t.bit R.CHG_FAULT_EQ_ABORT 0)))

/-- Safety timers, BMSOK and the profile (R183, R184, R185, R188). Model choices: log 37. -/
def Obligations.ChargeSupervision : Prop :=
  -- SAFETY_TIMER_TICK
  (∀ (s : State) (amps : Int), timersRun s.chg →
    Gives (exec (.safetyTimerTick amps) s) (fun t =>
      t.get R.CHG_TABS = min (s.get R.CHG_TABS + 1) R.CHG_TABS.top ∧ t.get R.CHG_TCHG_ACC = min (s.get R.CHG_TCHG_ACC + min
        amps.toNat (s.get R.CHG_I_SET)) R.CHG_TCHG_ACC.top)) ∧
  -- SAFETY_TIMEOUT
  (∀ (s : State), timersRun s.chg ∧ 60 * s.get R.CHG_T_ABS ≤ s.get R.CHG_TABS →
    Gives (exec (.safetyTimeout) s) (fun t =>
      t.chg = 0xF ∧ t.on R.CHG_TIMEOUT_CAUSE_ABSOLUTE ∧ t.on R.CHG_TIMEOUT_CAUSE_PENDING ∧ t.bit R.CHG_FAULT_TIMEOUT 0 ∧
        t.stands R.CHG_FAULT_TIMEOUT)) ∧
  -- BMSOK_REFUSE
  (∀ (s : State), s.on R.CHG_CTRL_BMSOK_EN →
    Gives (exec (.bmsokRefuse) s) (fun t =>
      t.on R.CHG_HOLD_BMSOK ∧ t.on R.CHG_STATUS_HOLD ∧ t.chg = s.chg ∧ t.chgAim = 0 ∧ (onState s.chg → s.on R.X_PULSE → t.on
        R.X_PULSE_OVER))) ∧
  -- BMSOK_PERMIT
  (∀ (s : State),
    Gives (exec (.bmsokPermit) s) (fun t =>
      t.on R.CHG_HOLD_BMSOK = false)) ∧
  -- CHG_PROFILE_WRITE
  (∀ (s : State) (word : Nat), word < 256 ∧ cellsAllowed (word % 16) (word / 16) ∧ ((s.set R.CHG_PROFILE_CHEM (word % 16)).set
    R.CHG_PROFILE_CELLS (word / 16)).profileOk →
    Gives (exec (.chgProfileWrite word) s) (fun t =>
      t.chem = word % 16 ∧ t.cells = word / 16 ∧ t.on R.DEV_CFG_DIRTY))

/-- The role of the power path (R196, R199, R200, R201, R202). Model choices: log 39. -/
def Obligations.PowerPathRole : Prop :=
  -- ROLE_EVALUATE
  (∀ (s : State) (sys bats : Nat) (ibat : Int) (high : Bool), s.asleepDeep = false ∧ s.mustOpen bats ∧ s.get R.PP_STATUS_BAT =
    1 ∧ sys < 65536 ∧ bats < 65536 →
    Gives (exec (.roleEvaluate sys bats ibat high) s) (fun t =>
      t.get R.PP_STATUS_ROLE = 0 ∧ t.get R.PP_LIN_I = 0 ∧ t.get R.X_SYSS = sys ∧ t.get R.X_BATS = bats ∧ t.on
        R.PP_STATUS_SUPPL = decide (ibat ≤ -4))) ∧
  -- CONNECT_TIMEOUT
  (∀ (s : State), s.get R.PP_STATUS_ROLE = 4 ∧ s.get R.X_FAILS < 2 →
    Gives (exec (.connectTimeout) s) (fun t =>
      t.get R.PP_STATUS_ROLE = 0 ∧ t.on R.PP_STATUS_RETRY_WAIT ∧ t.get R.X_FAILS = s.get R.X_FAILS + 1)) ∧
  -- SUPPLEMENT
  (∀ (s : State) (sysMv batsMv : Nat), s.get R.PP_STATUS_ROLE = 2 ∧ sysMv + 20 < batsMv ∧ s.get R.X_SUPPL = 0 →
    Gives (exec (.supplement sysMv batsMv) s) (fun t =>
      t.get R.X_SUPPL = (if sysMv + 200 < batsMv then 2 else 1))) ∧
  -- COLD_START_ABANDON
  (∀ (s : State), s.on R.PP_STATUS_COLD_START →
    Gives (exec (.coldStartAbandon) s) (fun t =>
      t.on R.PP_STATUS_COLD_START = false ∧ t.bit R.PP_FAULT_COLD_START 0 ∧ t.on R.X_COLD_WAIT)) ∧
  -- COLD_START_RETRY
  (∀ (s : State), s.on R.X_COLD_WAIT →
    Gives (exec (.coldStartRetry) s) (fun t =>
      t.on R.X_COLD_WAIT = false)) ∧
  -- VSU_DISABLE
  (∀ (s : State), s.on R.AUX_STATUS_VAUX_REG ∧ 450 ≤ s.get R.X_SYSS →
    Gives (exec (.vsuDisable) s) (fun t =>
      t.on R.PP_STATUS_VSU_ON = false))

/-- Trips, lockout, undervoltage and the battery (R203, R204, R205, R207, R208, R209). Model choices: log 38, 40. -/
def Obligations.PowerPathProtection : Prop :=
  -- DISCHARGE_OVERCURRENT
  (∀ (s : State), s.get R.PP_STATUS_ROLE ≠ 0 →
    Gives (exec (.dischargeOvercurrent) s) (fun t =>
      t.bit R.PP_FAULT_DSG_OC 0 ∧ t.get R.PP_STATUS_ROLE = 0 ∧ t.get R.PP_TRIP_CNT = min (s.get R.PP_TRIP_CNT + 1) 65535 ∧
        (s.chg ≠ 0 → t.chg = 15) ∧ t.get R.CHG_I_TARGET = 0 ∧ t.on R.X_TRIPPED ∧ t.get R.X_FAILS = min (s.get R.X_FAILS + (if
        s.on R.X_TRIPPED ∧ s.now - s.get R.X_TRIP_AT ≤ 60000 then 1 else 0)) 3 ∧ (if 3 ≤ (s.get R.X_FAILS + (if s.on
        R.X_TRIPPED ∧ s.now - s.get R.X_TRIP_AT ≤ 60000 then 1 else 0)) then t.on R.X_LOCKOUT ∧ t.bit R.PP_FAULT_LOCKOUT 0
        else t.on R.PP_STATUS_RETRY_WAIT))) ∧
  -- SHORT_CIRCUIT
  (∀ (s : State), s.get R.PP_STATUS_ROLE ≠ 0 →
    Gives (exec (.shortCircuit) s) (fun t =>
      t.bit R.PP_FAULT_SHORT_CIRCUIT 0 ∧ t.get R.PP_STATUS_ROLE = 0 ∧ t.get R.PP_TRIP_CNT = min (s.get R.PP_TRIP_CNT + 1)
        65535 ∧ (s.chg ≠ 0 → t.chg = 15) ∧ t.get R.CHG_I_TARGET = 0 ∧ t.on R.X_TRIPPED ∧ t.get R.X_FAILS = min (s.get
        R.X_FAILS + (if s.on R.X_TRIPPED ∧ s.now - s.get R.X_TRIP_AT ≤ 60000 then 1 else 0)) 3 ∧ (if 3 ≤ (s.get R.X_FAILS +
        (if s.on R.X_TRIPPED ∧ s.now - s.get R.X_TRIP_AT ≤ 60000 then 1 else 0)) then t.on R.X_LOCKOUT ∧ t.bit
        R.PP_FAULT_LOCKOUT 0 else t.on R.PP_STATUS_RETRY_WAIT))) ∧
  -- RETRY_WAIT_END
  (∀ (s : State),
    Gives (exec (.retryWaitEnd) s) (fun t =>
      t.on R.PP_STATUS_RETRY_WAIT = false)) ∧
  -- TRIP_COUNT_RESET
  (∀ (s : State), s.on R.X_LOCKOUT = false ∧ s.get R.PP_STATUS_ROLE ≠ 0 ∧ s.get R.PP_STATUS_ROLE ≠ 4 →
    Gives (exec (.tripCountReset) s) (fun t =>
      t.get R.X_FAILS = 0 ∧ t.on R.X_TRIPPED = false)) ∧
  -- RETRY_NOW
  (∀ (s : State),
    Gives (exec (.retryNow) s) (fun t =>
      t.on R.PP_STATUS_RETRY_WAIT = false ∧ t.on R.X_LOCKOUT = false ∧ (s.on R.X_LOCKOUT → t.get R.X_FAILS = 0 ∧ t.stands
        R.PP_FAULT_LOCKOUT = false))) ∧
  -- UV_INHIBIT
  (∀ (s : State) (batsMv : Nat), s.anyPresent ∧ s.get R.PP_STATUS_BAT = 1 ∧ batsMv < s.cells * s.get R.PP_UV_CELL ∧ s.on
    R.PP_STATUS_UV_INHIBIT = false →
    Gives (exec (.uvInhibit batsMv) s) (fun t =>
      t.on R.PP_STATUS_UV_INHIBIT ∧ t.bit R.PP_FAULT_BAT_UV 0 ∧ t.stands R.PP_FAULT_BAT_UV)) ∧
  -- UV_INHIBIT_END
  (∀ (s : State) (batsMv : Nat), s.cells * (s.get R.PP_UV_CELL + 100) ≤ batsMv →
    Gives (exec (.uvInhibitEnd batsMv) s) (fun t =>
      t.on R.PP_STATUS_UV_INHIBIT = false ∧ t.stands R.PP_FAULT_BAT_UV = false)) ∧
  -- UV_CUTOFF
  (∀ (s : State) (batsMv : Nat), s.anyPresent = false ∧ s.get R.PP_STATUS_BAT = 1 ∧ batsMv < s.cells * s.get R.PP_UV_CELL ∧
    s.on R.X_CUTOFF = false ∧ s.asleepDeep = false →
    Gives (exec (.uvCutoff batsMv) s) (fun t =>
      t.on R.X_CUTOFF ∧ t.get R.X_CUT_MODE = s.get R.MODE_STATUS_MODE ∧ t.bit R.PP_FAULT_UV_CUTOFF 0)) ∧
  -- CUTOFF_COMPLETE
  (∀ (s : State), s.on R.X_CUTOFF ∧ s.railOn 0 = false ∧ s.railOn 1 = false ∧ s.uncommitted = 0 →
    Gives (exec (.cutoffComplete) s) (fun t =>
      t.on R.X_CUTOFF = false ∧ t.on R.X_CUTOFF_REST ∧ t.portState 0 = (if s.portState 0 = 6 then 6 else 0) ∧ t.portState 1 =
        (if s.portState 1 = 6 then 6 else 0) ∧ t.on R.AUX_STATUS_VAUX_ON = false ∧ t.get R.X_VPRE = (if s.get R.X_VPRE = 6
        then 6 else 0) ∧ t.get R.PP_STATUS_ROLE = 0 ∧ t.on R.PP_STATUS_VSU_ON = false ∧ t.on R.DEV_CLK_FAST_ON = false)) ∧
  -- PRESENCE_PROBE
  (∀ (s : State) (v0 v1 : Nat), (s.get R.PP_STATUS_ROLE = 0 ∧ (s.get R.PP_STATUS_BAT = 0 ∨ s.get R.PP_STATUS_BAT = 2 ∨ s.get
    R.PP_STATUS_BAT = 3) ∧ s.asleepDeep = false) →
    Gives (exec (.presenceProbe v0 v1) s) (fun t =>
      t.get R.PP_STATUS_BAT = (if v0 < 200 ∨ s.anyPresent ∧ (v1 < 200 ∨ v1 * 100 < v0 * 80) then (if s.get R.PP_STATUS_BAT = 3
        then 3 else 2) else 1) ∧ t.get R.PP_STATUS_ROLE = 0 ∧ t.on R.X_PROBE_DUE = false ∧ (s.get R.PP_STATUS_BAT = 0 → t.get
        R.PP_STATUS_BAT = 2 → t.bit R.PP_FAULT_BAT_MISSING 0))) ∧
  -- PROBE_NOW
  (∀ (s : State), s.get R.PP_STATUS_ROLE = 0 →
    Gives (exec (.probeNow) s) (fun t =>
      t.on R.X_PROBE_DUE)) ∧
  -- EMPTY_CONNECTOR
  (∀ (s : State), s.get R.PP_STATUS_ROLE = 2 ∧ s.get R.CHG_I_TARGET ≠ 0 ∧ s.get R.PP_STATUS_BAT = 1 →
    Gives (exec (.emptyConnector) s) (fun t =>
      t.get R.PP_STATUS_ROLE = 0 ∧ t.get R.PP_STATUS_BAT = 2 ∧ t.bit R.PP_FAULT_BAT_MISSING 0)) ∧
  -- BATTERY_SHORT
  (∀ (s : State) (batsMv : Nat), s.chg = 3 ∧ s.get R.PP_STATUS_BAT = 1 ∧ batsMv ≤ s.cells * s.get R.PP_V_SHORT * 10 →
    Gives (exec (.batteryShort batsMv) s) (fun t =>
      t.get R.PP_STATUS_BAT = 4 ∧ t.bit R.PP_FAULT_BAT_SHORT 0 ∧ t.chg = 15 ∧ t.get R.PP_STATUS_ROLE = 0)) ∧
  -- BATTERY_REMOVAL
  (∀ (s : State), s.get R.PP_STATUS_ROLE ≠ 0 ∧ s.get R.PP_STATUS_ROLE ≠ 4 →
    Gives (exec (.batteryRemoval) s) (fun t =>
      t.get R.PP_STATUS_BAT = 3 ∧ t.bit R.PP_FAULT_BAT_LOST 0 ∧ t.get R.PP_STATUS_ROLE = 0 ∧ (s.chg ≠ 0 → t.chg = 15))) ∧
  -- UNSUPPORTED_SYS_FALL
  (∀ (s : State), s.get R.PP_STATUS_ROLE ≠ 0 ∧ s.on R.TRK_STATUS_SHORTFALL ∧ s.chg = 4 →
    Gives (exec (.unsupportedSysFall) s) (fun t =>
      t.get R.PP_STATUS_BAT = 0 ∧ t.get R.PP_STATUS_ROLE = 0 ∧ t.chg = 2))

/-- The auxiliary supply VAUX (R217, R218, R233). Model choices: log 41. -/
def Obligations.SupplyVaux : Prop :=
  -- VAUX_IN_REGULATION
  (∀ (s : State) (v a : Nat), s.on R.AUX_STATUS_VAUX_ON ∧ s.on R.AUX_STATUS_VAUX_REG = false ∧ v < 65536 ∧ a < 65536 →
    Gives (exec (.vauxInRegulation v a) s) (fun t =>
      t.on R.AUX_STATUS_VAUX_REG ∧ t.get R.AUX_VAUX_V = v ∧ t.get R.AUX_VAUX_I = a ∧ t.on R.PP_STATUS_COLD_START = false ∧
        t.get R.X_VAUX_FAILS = 0)) ∧
  -- VAUX_OUT_OF_REGULATION
  (∀ (s : State),
    Gives (exec (.vauxOutOfRegulation) s) (fun t =>
      t.on R.AUX_STATUS_VAUX_REG = false ∧ (s.on R.AUX_STATUS_VAUX_REG → ∀ p : Fin 2, s.portHigh p → t.portState p = 1))) ∧
  -- VAUX_STOP
  (∀ (s : State), s.vauxWanted = false →
    Gives (exec (.vauxStop) s) (fun t =>
      if s.bit R.BIST_STATUS_SAFE 4 then t.on R.AUX_STATUS_VAUX_ON = s.on R.AUX_STATUS_VAUX_ON else t.on R.AUX_STATUS_VAUX_ON
        = false ∧ t.on R.AUX_STATUS_VAUX_REG = false ∧ t.get R.AUX_VAUX_V = 0 ∧ t.get R.AUX_VAUX_I = 0)) ∧
  -- VAUX_FAIL
  (∀ (s : State), s.on R.AUX_STATUS_VAUX_ON →
    Gives (exec (.vauxFail) s) (fun t =>
      t.on R.AUX_STATUS_VAUX_ON = false ∧ t.on R.X_VAUX_WAIT ∧ t.get R.X_VAUX_FAILS = min (s.get R.X_VAUX_FAILS + 1) 3 ∧
        (s.get R.X_VAUX_FAILS = 2 → t.bit R.AUX_FAULT_VAUX_SHORT 0))) ∧
  -- VAUX_RETRY
  (∀ (s : State), s.on R.X_VAUX_WAIT →
    Gives (exec (.vauxRetry) s) (fun t =>
      t.on R.X_VAUX_WAIT = false)) ∧
  -- VAUX_OVERLOAD
  (∀ (s : State), s.on R.AUX_STATUS_VAUX_ON →
    Gives (exec (.vauxOverload) s) (fun t =>
      t.on R.AUX_STATUS_VAUX_ILIM ∧ t.bit R.AUX_FAULT_VAUX_OVLD 0))

/-- The pre-regulator VPRE (R221, R228, R229, R232). Model choices: log 41. -/
def Obligations.SupplyVpre : Prop :=
  -- VPRE_ON_DELAY_END
  (∀ (s : State), s.get R.X_VPRE = 1 →
    Gives (exec (.vpreOnDelayEnd) s) (fun t =>
      t.get R.X_VPRE = 2 ∧ t.on R.AUX_STATUS_VPRE_ON ∧ t.on R.AUX_STATUS_VPRE_HOLD_DRV = !s.on R.AUX_STATUS_VAUX_REG)) ∧
  -- VPRE_IN_REGULATION
  (∀ (s : State) (v : Nat), s.get R.X_VPRE = 2 ∧ v < 65536 →
    Gives (exec (.vpreInRegulation v) s) (fun t =>
      t.get R.X_VPRE = 3 ∧ t.on R.AUX_STATUS_VPRE_REG ∧ t.get R.AUX_PRE_V = v)) ∧
  -- VPRE_STOP
  (∀ (s : State), s.vpreWanted = false ∧ 1 ≤ s.get R.X_VPRE ∧ s.get R.X_VPRE ≤ 3 →
    Gives (exec (.vpreStop) s) (fun t =>
      if s.bit R.BIST_STATUS_SAFE 4 then t.get R.X_VPRE = s.get R.X_VPRE ∧ t.on R.AUX_STATUS_VPRE_ON = s.on
        R.AUX_STATUS_VPRE_ON else t.get R.X_VPRE = 0 ∧ t.on R.AUX_STATUS_VPRE_ON = false ∧ t.on R.AUX_STATUS_VPRE_REG = false
        ∧ t.on R.JNL_STATUS_DIE_ON = false)) ∧
  -- VPRE_FAIL
  (∀ (s : State), s.on R.AUX_STATUS_VPRE_ON ∧ s.get R.X_VPRE = 2 →
    Gives (exec (.vpreFail) s) (fun t =>
      t.on R.AUX_STATUS_VPRE_ON = false ∧ t.railState 0 = 0 ∧ t.railState 1 = 0 ∧ t.get R.X_VPRE = (if 2 ≤ s.get
        R.X_VPRE_FAILS then 6 else 5) ∧ (2 ≤ s.get R.X_VPRE_FAILS → t.bit R.AUX_FAULT_VPRE_SHORT 0))) ∧
  -- VPRE_HICCUP_END
  (∀ (s : State), s.get R.X_VPRE = 5 ∧ s.vpreWanted →
    Gives (exec (.vpreHiccupEnd) s) (fun t =>
      t.get R.X_VPRE = 2 ∧ t.on R.AUX_STATUS_VPRE_ON)) ∧
  -- VPRE_RETRY
  (∀ (s : State), s.get R.X_VPRE = 6 ∧ s.vpreWanted = false →
    Gives (exec (.vpreRetry) s) (fun t =>
      t.get R.X_VPRE = 0 ∧ t.get R.X_VPRE_FAILS = 0))

/-- The host rails: start, tune, stop, failure (R225, R228, R229, R230, R234, R235, R239). Model choices: log 8, 42. -/
def Obligations.HostRails : Prop :=
  -- RAIL_ON_DELAY_END
  (∀ (s : State) (x : Fin 2), s.railState x = 1 →
    Gives (exec (.railOnDelayEnd x) s) (fun t =>
      t.railState x = 2 ∧ (s.on R.RAIL_x_CFG_KEEP_VID x = false → s.on R.X_RAIL_KEEP x = false → t.get R.RAIL_x_TARGET x =
        s.get R.RAIL_x_VID_INIT x))) ∧
  -- RAIL_RAMP_END
  (∀ (s : State) (x : Fin 2), s.railState x = 2 →
    Gives (exec (.railRampEnd x) s) (fun t =>
      t.railState x = 3)) ∧
  -- RAIL_TUNE_COMPLETE
  (∀ (s : State) (x : Fin 2) (dv : Nat) (on : RailOnTime) (jitter again : Bool), s.railState x = 3 ∧ 0 < on.vpv →
    Gives (exec (.railTuneComplete x dv on jitter again) s) (fun t =>
      t.railState x = 4 ∧ t.get R.RAIL_x_RINJ x = (if jitter && again then 16 else if jitter then min (injectionCode x dv + 4)
        31 else injectionCode x dv) ∧ (0 < rippleCurrent on.vpv (vidMv x (s.get R.X_RAIL_TUNED x)) (railTon (vidMv x (s.get
        R.X_RAIL_TUNED x)) on.vpv on.trim) (s.get R.RAIL_x_L x) → t.get R.RAIL_x_ESR x = min (dv * 1000 / rippleCurrent on.vpv
        (vidMv x (s.get R.X_RAIL_TUNED x)) (railTon (vidMv x (s.get R.X_RAIL_TUNED x)) on.vpv on.trim) (s.get R.RAIL_x_L x))
        65535) ∧ (if s.on R.X_RAIL_PEND x ∧ s.get R.RAIL_x_TARGET x ≠ s.get R.X_RAIL_TUNED x then t.on R.RAIL_x_STAT_SLEWING x
        else t.on R.RAIL_x_STAT_SETTLED x) ∧ (jitter && again → x = 0 → t.bit R.AUX_FAULT_TUNE_A 0) ∧ (jitter && again → x = 1
        → t.bit R.AUX_FAULT_TUNE_B 0))) ∧
  -- RAIL_OFF_DELAY_END
  (∀ (s : State) (x : Fin 2), s.on R.X_RAIL_OFFDLY x →
    Gives (exec (.railOffDelayEnd x) s) (fun t =>
      t.railState x = 5 ∧ t.on R.X_RAIL_OFFDLY x = false)) ∧
  -- RAIL_RAMP_DOWN_END
  (∀ (s : State) (x : Fin 2), s.railState x = 5 →
    Gives (exec (.railRampDownEnd x) s) (fun t =>
      t.railState x = 0 ∧ t.get R.RAIL_x_V x = 0 ∧ t.get R.RAIL_x_I x = 0)) ∧
  -- RAIL_START_FAIL
  (∀ (s : State) (x : Fin 2), 2 ≤ s.railState x ∧ s.railState x ≤ 5 →
    Gives (exec (.railStartFail x) s) (fun t =>
      t.get R.RAIL_x_STAT_FAILS x = min (s.get R.RAIL_x_STAT_FAILS x + 1) 3 ∧ t.railState x = (if 2 ≤ s.get
        R.RAIL_x_STAT_FAILS x then 7 else 6))) ∧
  -- RAIL_HICCUP_END
  (∀ (s : State) (x : Fin 2), s.railState x = 6 →
    Gives (exec (.railHiccupEnd x) s) (fun t =>
      t.railState x = (if s.on R.MODE_STATUS_RAIL_DEMAND ∧ s.on R.X_RAIL_PS3 x = false then 2 else 0))) ∧
  -- RAIL_FAILS_RESET
  (∀ (s : State) (x : Fin 2), s.railState x = 4 →
    Gives (exec (.railFailsReset x) s) (fun t =>
      t.get R.RAIL_x_STAT_FAILS x = 0)) ∧
  -- RAIL_OVERVOLTAGE
  (∀ (s : State) (x : Fin 2), 2 ≤ s.railState x ∧ s.railState x ≤ 5 →
    Gives (exec (.railOvervoltage x) s) (fun t =>
      t.railState x = s.railState x ∧ (x = 0 → t.bit R.AUX_FAULT_RAILA_OV 0) ∧ (x = 1 → t.bit R.AUX_FAULT_RAILB_OV 0) ∧ t.on
        R.RAIL_x_STAT_ALERT x)) ∧
  -- RAIL_SETTLE
  (∀ (s : State) (e : RailArrival), s.railState e.rail = 4 ∧ s.on R.RAIL_x_STAT_SETTLED e.rail = false →
    Gives (exec (.railSettle e) s) (fun t =>
      t.on R.RAIL_x_STAT_SETTLED e.rail = e.held ∧ t.on R.RAIL_x_STAT_SLEWING e.rail = false)) ∧
  -- RAIL_POWER_ESTIMATE
  (∀ (s : State) (x : Fin 2) (v a vpv : Nat) (cycles : RailCycles) (de burst : Bool) (preV preI hold : Nat), s.railState x = 4
    →
    Gives (exec (.railPowerEstimate x v a vpv cycles de burst preV preI hold) s) (fun t =>
      t.get R.RAIL_x_V x = min v 65535 ∧ t.get R.RAIL_x_I x = min a 65535 ∧ t.get R.RAIL_x_PIN x = min (railInput vpv
        cycles.phases) 65535 ∧ t.get R.RAIL_x_POUT x = min (v * a * 25 / 10000) 65535 ∧ t.on R.RAIL_x_STAT_DE x = (s.railLight
        x de burst).1 ∧ t.on R.RAIL_x_STAT_BURST x = (s.railLight x de burst).2))

/-- The Rail Command Link (R236, R237, R238, R504). Model choices: log 43. -/
def Obligations.RailLink : Prop :=
  -- RCL_SET_VID
  (∀ (s : State) (rail : Fin 4) (data : Fin 256) (p : Bool), s.rclUp ∧ rclEven rail 1 data p ∧ rail.val < 2 ∧ data.val ≤ s.get
    R.RAIL_x_VID_MAX rail ∧ s.railAnswer rail 1 data = 1 →
    Gives (exec (.rclSetVid rail data p) s) (fun t =>
      t.get R.X_RCL_ACK = 1 ∧ t.get R.RCL_ACK_CNT = min (s.get R.RCL_ACK_CNT + 1) R.RCL_ACK_CNT.top ∧ t.get R.RAIL_x_TARGET
        rail = data.val ∧ t.get R.X_RCL_CLOCKS = 22)) ∧
  -- RCL_SET_SLEW
  (∀ (s : State) (rail : Fin 4) (data : Fin 256) (p : Bool), s.rclUp ∧ rclEven rail 2 data p ∧ rail.val < 2 ∧ s.railAnswer
    rail 2 data = 1 →
    Gives (exec (.rclSetSlew rail data p) s) (fun t =>
      t.get R.X_RCL_ACK = 1 ∧ t.get R.RCL_ACK_CNT = min (s.get R.RCL_ACK_CNT + 1) R.RCL_ACK_CNT.top ∧ t.get R.RAIL_x_SLEW rail
        = data.val ∧ t.get R.X_RCL_CLOCKS = 22)) ∧
  -- RCL_SET_STATE
  (∀ (s : State) (rail : Fin 4) (data : Fin 256) (p : Bool), s.rclUp ∧ rclEven rail 3 data p ∧ rail.val < 2 ∧ s.railState rail
    = 4 ∧ data.val < 3 ∧ s.railAnswer rail 3 data = 1 →
    Gives (exec (.rclSetState rail data p) s) (fun t =>
      t.get R.X_RCL_ACK = 1 ∧ t.get R.RCL_ACK_CNT = min (s.get R.RCL_ACK_CNT + 1) R.RCL_ACK_CNT.top ∧ t.get R.RAIL_x_STAT_PS
        rail = data.val ∧ t.get R.X_RCL_CLOCKS = 22)) ∧
  -- RCL_GET_VID_TARGET
  (∀ (s : State) (rail : Fin 4) (data : Fin 256) (p : Bool), s.rclUp ∧ rclEven rail 4 data p ∧ rail.val < 2 ∧ s.railAnswer
    rail 4 data = 1 →
    Gives (exec (.rclGetVidTarget rail data p) s) (fun t =>
      t.get R.X_RCL_ACK = 1 ∧ t.get R.RCL_ACK_CNT = min (s.get R.RCL_ACK_CNT + 1) R.RCL_ACK_CNT.top ∧ t.get R.X_RCL_RDATA =
        s.get R.RAIL_x_TARGET rail ∧ t.get R.RAIL_x_TARGET rail = s.get R.RAIL_x_TARGET rail ∧ t.get R.X_RCL_CLOCKS = 31 ∧
        t.get R.X_RCL_RP = onesIn 8 (t.get R.X_RCL_RDATA) % 2)) ∧
  -- RCL_GET_VID_ACTUAL
  (∀ (s : State) (rail : Fin 4) (data : Fin 256) (p : Bool), s.rclUp ∧ rclEven rail 5 data p ∧ rail.val < 2 ∧ s.railState rail
    = 4 ∧ s.railAnswer rail 5 data = 1 →
    Gives (exec (.rclGetVidActual rail data p) s) (fun t =>
      t.get R.X_RCL_ACK = 1 ∧ t.get R.RCL_ACK_CNT = min (s.get R.RCL_ACK_CNT + 1) R.RCL_ACK_CNT.top ∧ t.get R.X_RCL_RDATA =
        vidCode rail (s.get R.RAIL_x_V rail) ∧ t.get R.X_RCL_CLOCKS = 31 ∧ t.get R.X_RCL_RP = onesIn 8 (t.get R.X_RCL_RDATA) %
        2)) ∧
  -- RCL_GET_STATUS
  (∀ (s : State) (rail : Fin 4) (data : Fin 256) (p : Bool), s.rclUp ∧ rclEven rail 6 data p ∧ rail.val < 2 ∧ s.railAnswer
    rail 6 data = 1 →
    Gives (exec (.rclGetStatus rail data p) s) (fun t =>
      t.get R.X_RCL_ACK = 1 ∧ t.get R.RCL_ACK_CNT = min (s.get R.RCL_ACK_CNT + 1) R.RCL_ACK_CNT.top ∧ t.get R.X_RCL_RDATA =
        s.railStatusByte rail ∧ t.get R.X_RCL_CLOCKS = 31 ∧ t.get R.X_RCL_RP = onesIn 8 (t.get R.X_RCL_RDATA) % 2)) ∧
  -- RCL_GET_POWER
  (∀ (s : State) (rail : Fin 4) (data : Fin 256) (p : Bool), s.rclUp ∧ rclEven rail 7 data p ∧ rail.val < 2 ∧ s.railAnswer
    rail 7 data = 1 →
    Gives (exec (.rclGetPower rail data p) s) (fun t =>
      t.get R.X_RCL_ACK = 1 ∧ t.get R.RCL_ACK_CNT = min (s.get R.RCL_ACK_CNT + 1) R.RCL_ACK_CNT.top ∧ t.get R.X_RCL_RDATA =
        min (s.get R.RAIL_x_PIN rail / 10) 255 ∧ t.get R.X_RCL_CLOCKS = 31 ∧ t.get R.X_RCL_RP = onesIn 8 (t.get R.X_RCL_RDATA)
        % 2)) ∧
  -- RCL_CLEAR_ALERT
  (∀ (s : State) (rail : Fin 4) (data : Fin 256) (p : Bool), s.rclUp ∧ rclEven rail 8 data p ∧ rail.val < 2 ∧ s.railAnswer
    rail 8 data = 1 →
    Gives (exec (.rclClearAlert rail data p) s) (fun t =>
      t.get R.X_RCL_ACK = 1 ∧ t.get R.RCL_ACK_CNT = min (s.get R.RCL_ACK_CNT + 1) R.RCL_ACK_CNT.top ∧ t.get R.X_RAIL_ALERTS
        rail = 0 ∧ t.on R.RAIL_x_STAT_SUPERSEDED rail = false ∧ t.on R.RAIL_x_STAT_ALERT rail = false ∧ t.get R.X_RCL_CLOCKS =
        22)) ∧
  -- RCL_SET_VID_FAST
  (∀ (s : State) (rail : Fin 4) (data : Fin 256) (p : Bool), s.rclUp ∧ rclEven rail 9 data p ∧ rail.val < 2 ∧ s.railState rail
    = 4 ∧ s.railAnswer rail 9 data = 1 →
    Gives (exec (.rclSetVidFast rail data p) s) (fun t =>
      t.get R.X_RCL_ACK = 1 ∧ t.get R.RCL_ACK_CNT = min (s.get R.RCL_ACK_CNT + 1) R.RCL_ACK_CNT.top ∧ t.get R.RAIL_x_TARGET
        rail = data.val ∧ t.on R.X_RAIL_FAST rail ∧ t.get R.X_RCL_CLOCKS = 22)) ∧
  -- RCL_FRAME_ABANDON
  (∀ (s : State), s.asleepDeep = false →
    Gives (exec (.rclFrameAbandon) s) (fun t =>
      t.get R.RCL_ABORT_CNT = min (s.get R.RCL_ABORT_CNT + 1) R.RCL_ABORT_CNT.top ∧ t.get R.X_RCL_ACK = 7)) ∧
  -- RCL_RESERVED_COMMAND
  (∀ (s : State) (rail : Fin 4) (cmd : Fin 16) (data : Fin 256) (p : Bool), (s.rclUp ∧ rclEven rail cmd data p ∧ (rail.val = 2
    ∨ cmd.val = 0 ∨ 9 < cmd.val)) →
    Gives (exec (.rclReservedCommand rail cmd data p) s) (fun t =>
      t.get R.X_RCL_ACK = 3 ∧ t.get R.RCL_NAK_CNT_OTHER = min (s.get R.RCL_NAK_CNT_OTHER + 1) R.RCL_NAK_CNT_OTHER.top))

/-- The line ports (R266, R267, R288, R292). Model choices: log 44. -/
def Obligations.LinePorts : Prop :=
  -- PORT_RISE_COMPLETE
  (∀ (s : State) (p : Fin 2), s.portState p = 2 →
    Gives (exec (.portRiseComplete p) s) (fun t =>
      t.on R.X_LINE_UP p ∧ t.portState p = 2)) ∧
  -- PORT_BOOT_WAIT_END
  (∀ (s : State) (p : Fin 2), s.portState p = 2 ∧ s.on R.X_LINE_UP p ∧ s.on R.X_LINE_BOOT p →
    Gives (exec (.portBootWaitEnd p) s) (fun t =>
      t.portState p = 3 ∧ t.get R.X_ENUM p = 2)) ∧
  -- PORT_SETTLE_END
  (∀ (s : State) (p : Fin 2), s.portState p = 2 ∧ s.on R.X_LINE_UP p ∧ s.on R.X_LINE_BOOT p = false →
    Gives (exec (.portSettleEnd p) s) (fun t =>
      t.portState p = 4 ∧ t.get R.X_SHORTS p = 0)) ∧
  -- PORT_TO_KEEP_ALIVE
  (∀ (s : State) (p : Fin 2) (power : Nat), s.portHigh p ∧ s.portIdle p ∧ s.portKa p ∧ s.portEn p ∧ s.hostOff p = false ∧
    nodeMode (s.get R.MODE_STATUS_MODE) = false ∧ s.on R.MODE_STATUS_RIDE_ACTIVE = false ∧ power < 65536 →
    Gives (exec (.portToKeepAlive p power) s) (fun t =>
      t.portState p = 1 ∧ t.get R.X_KA_POWER p = power ∧ t.bit R.X_POLL p = false)) ∧
  -- PORT_SHORT
  (∀ (s : State) (p : Fin 2), s.portHigh p ∧ s.get R.X_SHORTS p < 3 →
    Gives (exec (.portShort p) s) (fun t =>
      t.portState p = 5 ∧ t.get R.X_SHORTS p = s.get R.X_SHORTS p + 1)) ∧
  -- PORT_RETRY_END
  (∀ (s : State) (p : Fin 2), s.portState p = 5 →
    Gives (exec (.portRetryEnd p) s) (fun t =>
      t.portState p = (if s.on R.AUX_STATUS_VAUX_REG ∧ (s.setPort p 0).portWanted p then 2 else 0))) ∧
  -- KEEP_ALIVE_OVERLOAD
  (∀ (s : State) (p : Fin 2), s.portState p = 1 →
    Gives (exec (.keepAliveOverload p) s) (fun t =>
      t.portState p = 0 ∧ t.get R.X_KA_POWER p = 0 ∧ (p = 0 → t.bit R.LINE_FAULT_A_KA_OVLD 0) ∧ (p = 1 → t.bit
        R.LINE_FAULT_B_KA_OVLD 0)))

/-- Line cycles, polls, configuration and retries (R271, R274, R284, R287). Model choices: log 45, 74. -/
def Obligations.LineFrames : Prop :=
  -- LINE_CYCLE_START
  (∀ (s : State) (p : Fin 2), s.portState p = 4 ∧ nodeMode (s.get R.MODE_STATUS_MODE) →
    Gives (exec (.lineCycleStart p) s) (fun t =>
      t.on R.LINE_STATUS_DEFER = decide (54 < s.get R.AUX_VAUX_I) ∧ t.on R.X_LINE_LATE p = !s.cycleAllowed p ∧ (s.cycleAllowed
        p → t.get R.X_LINE_LEFT p = s.slotMask p s.slotDue ∧ t.get R.X_LINE_CYC p = s.cycleTime + 1))) ∧
  -- POLL_REPLY
  (∀ (s : State) (p : Fin 2) (status : Fin 256) (payload : List Byte) (sync amp : Nat), s.nextSlot p ≠ none ∧ s.get R.X_FRAME
    p = 1 ∧ s.get R.X_TRY p = 0 →
    Gives (exec (.pollReply p status payload sync amp) s) (fun t =>
      ∀ n : Fin 64, s.nextSlot p = some n.val → t.get R.LINE_SLOTs_STAT_CLASS n = status.val % 8 ∧ t.get
        R.LINE_SLOTs_STAT_MISSED n = 0 ∧ t.get R.X_SLOT_MISSES n = 0 ∧ t.get R.X_SLOT_LAST n = s.now % 2 ^ 32)) ∧
  -- REPLY_TIMEOUT
  (∀ (s : State) (p : Fin 2), s.get R.X_FRAME p ≠ 0 ∧ s.get R.X_TRY p = 0 →
    Gives (exec (.replyTimeout p) s) (fun t =>
      t.get R.X_TRY p = 1 ∧ t.get R.LINE_x_ERR p = min (s.get R.LINE_x_ERR p + 1) R.LINE_x_ERR.top)) ∧
  -- FRAME_RETRY
  (∀ (s : State) (p : Fin 2), s.get R.X_FRAME p ≠ 0 ∧ s.get R.X_TRY p = 1 →
    Gives (exec (.frameRetry p) s) (fun t =>
      t.get R.X_TRY p = 2 ∧ t.get R.X_FRAME p = s.get R.X_FRAME p ∧ ∀ n : Fin 64, t.get R.X_SLOT_SEQ n = s.get R.X_SLOT_SEQ
        n)) ∧
  -- CONFIG_REPLY
  (∀ (s : State) (p : Fin 2) (status : Fin 256) (amp : Nat), s.nextSlot p ≠ none ∧ s.get R.X_FRAME p = 2 ∧ s.get R.X_TRY p = 0
    →
    Gives (exec (.configReply p status amp) s) (fun t =>
      ∀ n : Fin 64, s.nextSlot p = some n.val → t.get R.X_SLOT_CFG n = 0))

/-- Enumeration runs and slots (R278, R279, R281, R287, R379). Model choices: log 46. -/
def Obligations.LineEnumeration : Prop :=
  -- ENUMERATION_RUN_START
  (∀ (s : State) (p : Fin 2), ((s.portState p = 3 ∨ s.portState p = 4) ∧ s.lineQuiet p ∧ s.lineSliced = false ∧ s.get R.X_ENUM
    p ≠ 0) →
    Gives (exec (.enumerationRunStart p) s) (fun t =>
      t.get R.X_ENUM p = 0 ∧ (if s.runDue p then t.get R.X_RUN p = s.get R.X_ENUM p ∧ t.get R.X_WALKS p = 0 else t.get R.X_RUN
        p = s.get R.X_RUN p))) ∧
  -- IDWALK_COMPLETE
  (∀ (s : State) (p : Fin 2) (seen : Bool) (id : Nat), s.get R.X_RUN p ≠ 0 ∧ s.get R.X_FRAME p = 0 ∧ s.slotId 0 = id ∧ 0 < id
    ∧ id < 2 ^ 48 - 1 ∧ seen = true →
    Gives (exec (.idwalkComplete p seen id) s) (fun t =>
      t.get R.X_FRAME p = 3 ∧ t.get R.X_WALK_ID p = id ∧ t.get R.X_WALK_SLOT p = 0 ∧ t.get R.X_WALK_HOW p = 1)) ∧
  -- ASSIGN_REPLY
  (∀ (s : State) (p : Fin 2) (status fmt mask : Fin 256), s.get R.X_FRAME p = 3 ∧ s.get R.X_TRY p = 0 ∧ s.get R.X_WALK_HOW p =
    3 →
    Gives (exec (.assignReply p status fmt mask) s) (fun t =>
      ∀ n : Fin 64, s.get R.X_WALK_SLOT p = n.val → t.slotId n = s.get R.X_WALK_ID p ∧ t.slotState n = (if s.on
        R.LINE_SLOTs_CFG_EN n then 1 else 3) ∧ t.get R.LINE_SLOTs_STAT_PORT n = p ∧ t.get R.LINE_SLOTs_STAT_CLASS n =
        status.val % 8 ∧ t.get R.X_SLOT_FMT n = fmt ∧ t.get R.X_SLOT_MASK n = mask)) ∧
  -- DISCOVERY_DUE
  (∀ (s : State) (p : Fin 2), s.on R.LINE_CTRL_DISC_EN ∧ s.portState p = 4 ∧ nodeMode (s.get R.MODE_STATUS_MODE) →
    Gives (exec (.discoveryDue p) s) (fun t =>
      t.get R.X_ENUM p = max (s.get R.X_ENUM p) 1)) ∧
  -- SLOT_ENABLE_WRITE
  (∀ (s : State) (n : Fin 64) (b : Bool), s.slotId n ≠ 0 ∧ s.on R.LINE_SLOTs_CFG_EN n = !b →
    Gives (exec (.slotEnableWrite n b) s) (fun t =>
      t.on R.LINE_SLOTs_CFG_EN n = b ∧ t.slotState n = (if b then 1 else 3) ∧ t.on R.DEV_CFG_DIRTY))

/-- Measurement, the ledger and device time (R44, R248, R249, R256, R260, R264). Model choices: log 47, 76. -/
def Obligations.Measurement : Prop :=
  -- ADC_REFERENCE_FAIL
  (∀ (s : State) (bad : Bool), s.on R.X_TEMP_FORBID = false →
    Gives (exec (.adcReferenceFail bad) s) (fun t =>
      t.on R.X_REF_FAIL = bad ∧ t.on R.CHG_HOLD_TEMP = bad ∧ t.stands R.MEAS_FAULT_REF_FAIL = bad ∧ (bad → t.bit
        R.MEAS_FAULT_REF_FAIL 0))) ∧
  -- CC_RESULT
  (∀ (s : State) (raw : Int), s.on R.DEV_CLK_FAST_ON →
    Gives (exec (.ccResult raw) s) (fun t =>
      t.getS R.MEAS_CC_RAW = clampI (-131072) 131071 raw ∧ t.on R.MEAS_STATUS_CC_SAT = decide (raw ≤ -131072 ∨ 131071 ≤ raw) ∧
        t.stands R.MEAS_FAULT_CC_SAT = decide (raw ≤ -131072 ∨ 131071 ≤ raw))) ∧
  -- LEDGER_UPDATE
  (∀ (s : State) (bus : BusMeans) (ibat : Int) (vin iin lineV lineI : Quad) (auxV auxI : Nat), s.on R.DEV_CLK_FAST_ON →
    Gives (exec (.ledgerUpdate bus ibat vin iin lineV lineI auxV auxI) s) (fun t =>
      t.get R.X_SYSS = bus.sys % 65536 ∧ t.get R.MEAS_VBAT = min bus.bats 65535 ∧ t.getS R.MEAS_IBAT = satS16 ibat ∧ (∀ i :
        Fin 4, t.get R.INn_V i = vin.at i % 65536 ∧ t.get R.INn_I i = iin.at i % 65536) ∧ (s.on R.SUP_STATUS_RIDE → bus.sys <
        65536 → t.get R.SUP_MIN_SYS = min (s.get R.SUP_MIN_SYS) bus.sys))) ∧
  -- CLEAR_COUNTERS
  (∀ (s : State),
    Gives (exec (.clearCounters) s) (fun t =>
      ∀ k : Fin 12, t.get R.LDG_COUNTERk k = 0 ∧ t.get R.X_LDG_ACC k = 0)) ∧
  -- SNAPSHOT_NOW
  (∀ (s : State),
    Gives (exec (.snapshotNow) s) (fun t =>
      t.get R.LDG_SNAP_SEQ = (s.get R.LDG_SNAP_SEQ + 1) % 2 ^ R.LDG_SNAP_SEQ.width)) ∧
  -- E_REM_WRITE
  (∀ (s : State) (v : Nat), v ≤ s.get R.LDG_BAT_USABLE ∧ 0 < s.get R.LDG_BAT_USABLE →
    Gives (exec (.eRemWrite v) s) (fun t =>
      t.get R.LDG_E_REM = v ∧ t.on R.LDG_STATUS_EREM_VALID)) ∧
  -- EPOCH_WRITE
  (∀ (s : State) (v : Nat), v < 2 ^ 64 →
    Gives (exec (.epochWrite v) s) (fun t =>
      t.get R.DEV_EPOCH = v ∧ t.on R.DEV_CLK_EPOCH_SET))

/-- Queues and trackers (R307, R313, R314, R315). Model choices: log 50, 70. -/
def Obligations.QueueCommands : Prop :=
  -- RECORD_OFFER
  (∀ (s : State) (type source time : Nat) (unsynced derived : Bool) (payload : List Byte), reservedSource source = false ∧
    recordTypes.contains type ∧ s.on R.JNL_STATUS_SCAN_DONE ∧ s.on R.X_HELD = false ∧ s.slots = [] ∧ s.held = [] ∧ s.keeps
    (s.offered type source time unsynced derived payload) = false ∧ s.get R.X_RF_COUNT (s.route (s.offered type source time
    unsynced derived payload)) = 0 ∧ s.judge (s.route (s.offered type source time unsynced derived payload)) = none →
    Gives (exec (.recordOffer type source time unsynced derived payload) s) (fun t =>
      t.slots.length = 1 ∧ (∀ x ∈ t.slots, x.record.seq = s.get R.JNL_NEXT_SEQ ∧ x.record.type = type ∧ x.record.source =
        source ∧ x.committed = false) ∧ t.get R.JNL_NEXT_SEQ = (s.get R.JNL_NEXT_SEQ + 1) % 2 ^ 32)) ∧
  -- REFUSAL_SUMMARY_DUE
  (∀ (s : State) (q : Fin 16), s.on R.JNL_STATUS_SCAN_DONE ∧ s.get R.X_RF_COUNT q ≠ 0 ∧ s.slots = [] ∧ s.latched = [] ∧
    s.judge q = none →
    Gives (exec (.refusalSummaryDue q) s) (fun t =>
      t.get R.X_RF_COUNT q = 0 ∧ t.slots.length = 1 ∧ (∀ x ∈ t.slots, x.record.type = 0x3E ∧ x.record.summary = true ∧
        x.record.queue = q ∧ x.record.payload = (s.summaryRec q).payload))) ∧
  -- QUEUE_CAP_APPLY
  (∀ (s : State) (q : Fin 16), s.on R.X_CAP_WAIT q ∧ s.pendingOf q = 0 →
    Gives (exec (.queueCapApply q) s) (fun t =>
      t.get R.Qq_CAP q = s.get R.X_CAP_NEW q % 2 ^ R.Qq_CAP.width ∧ t.on R.X_CAP_WAIT q = false)) ∧
  -- RESET_BASE
  (∀ (s : State) (i : Fin 512),
    Gives (exec (.resetBase i) s) (fun t =>
      t.get R.X_TR_COUNT i = 0 ∧ t.get R.X_TR_BASE i = 0 ∧ t.get R.DE_Ti_BASE i = 0 ∧ t.get R.DE_Ti_DEV i = 0 ∧ t.on
        R.DE_Ti_ALARMS_ARMED i = false)) ∧
  -- RESET_WINDOW
  (∀ (s : State) (i : Fin 512),
    Gives (exec (.resetWindow i) s) (fun t =>
      t.get R.X_TR_N i = 0 ∧ t.get R.X_TR_SUM i = 0)) ∧
  -- CLEAR_ALARMS
  (∀ (s : State) (i : Fin 512),
    Gives (exec (.clearAlarms i) s) (fun t =>
      t.alarmed i = false ∧ t.get R.DE_STATUS = (if s.alarmed i then s.get R.DE_STATUS - 1 else s.get R.DE_STATUS))) ∧
  -- RESET_TRACKER_ALL
  (∀ (s : State) (i : Fin 512),
    Gives (exec (.resetTrackerAll i) s) (fun t =>
      t.get R.X_TR_COUNT i = 0 ∧ t.get R.X_TR_N i = 0 ∧ t.alarmed i = false))

/-- The journal die: programs and erases (R308, R320, R326, R327). Model choices: log 52, 53. -/
def Obligations.JournalDie : Prop :=
  -- SECTOR_PROGRAM_START
  (∀ (s : State), s.flushing ∧ s.dieFree ∧ s.uncommitted ≠ 0 ∧ s.on R.X_NEED_BLOCK = false →
    Gives (exec (.sectorProgramStart) s) (fun t =>
      t.program = some
        { records := min (if s.get R.JNL_HEAD_PAGE_SECTOR = 0 then 31 else 32) s.uncommitted, store := false, tick := s.get R.X_GOOD, time := s.now })) ∧
  -- GREEN_FILL_TIMEOUT
  (∀ (s : State), s.dieFree ∧ s.uncommitted ≠ 0 ∧ s.on R.X_NEED_BLOCK = false →
    Gives (exec (.greenFillTimeout) s) (fun t =>
      t.program = some
        { records := min (if s.get R.JNL_HEAD_PAGE_SECTOR = 0 then 31 else 32) s.uncommitted, store := false, tick := s.get R.X_GOOD, time := s.now })) ∧
  -- SECTOR_PROGRAM_COMPLETE
  (∀ (s : State) (fail : Bool), (s.program.any (fun p => !p.store && decide (p.records ≤ s.uncommitted)) ∧ (∀ x ∈ s.slots,
    x.popped = false)) →
    Gives (exec (.sectorProgramComplete fail) s) (fun t =>
      t.program = none ∧ (fail = false → t.uncommitted = s.uncommitted - (s.program.map (·.records)).getD 0) ∧ (fail →
        s.uncommitted ≤ t.uncommitted ∧ t.bit R.JNL_FAULT_PROG_FAIL 0 ∧ t.grownBad = s.grownBad ++ [s.get R.JNL_HEAD_BLOCK] ∧
        (s.ahead = [] → t.on R.X_NEED_BLOCK) ∧ (s.ahead ≠ [] → t.on R.X_NEED_BLOCK = false ∧ t.ahead = s.ahead.tail)))) ∧
  -- ERASE_SLICE_START
  (∀ (s : State), s.sliceOk ∧ s.erase = none ∧ s.storeOps = [] ∧ s.ahead = [] →
    Gives (exec (.eraseSliceStart) s) (fun t =>
      t.erase = some { block := s.eraseNext, store := false, suspended := false } ∧ t.on R.JNL_STATUS_ERASING ∧ t.on
        R.JNL_STATUS_SUSPENDED = false)) ∧
  -- ERASE_SLICE_END
  (∀ (s : State), s.erase ≠ none →
    Gives (exec (.eraseSliceEnd) s) (fun t =>
      t.erase = s.erase.map (fun e => { e with suspended := true }) ∧ t.on R.JNL_STATUS_SUSPENDED)) ∧
  -- ERASE_COMPLETE
  (∀ (s : State) (fail : Bool), s.erase.any (fun e => !e.store && !e.suspended) ∧ s.on R.X_NEED_BLOCK = false →
    Gives (exec (.eraseComplete fail) s) (fun t =>
      t.erase = none ∧ t.on R.JNL_STATUS_ERASING = false ∧ s.erase.all (fun e => decide (fail = false → t.ahead = s.ahead ++
        [e.block]) && (!fail || t.grownBad.contains e.block && decide (t.ahead = s.ahead)))))

/-- Configuration store operations (R327, R334, R337, R391, R393). Model choices: log 54. -/
def Obligations.ConfigStore : Prop :=
  -- STORE_PROGRAM_COMPLETE
  (∀ (s : State) (fail : Bool), ((s.program.any (fun p => p.store) ∨ s.program = none ∧ s.storeFree) ∧ s.storeStep.any (fun p
    => !p.2.isErase) ∧ s.copies.length = 3 ∧ fail = false) →
    Gives (exec (.storeProgramComplete fail) s) (fun t =>
      t.program = none ∧ s.storeStep.all (fun p => (List.range 3).all (fun j => j == p.2.copy || decide (t.copy j = s.copy j))
        && (match p.2 with
          | .image k 0 => decide ((t.copy k).slots = (s.copy k).slots ++ [CfgSlot.fresh (p.1.image.take 4096)])
          | .image k n => decide ((t.copy k).slots.getLast?.map (fun x => x.image) = (s.copy k).slots.getLast?.map (fun _ =>
            p.1.image.take (4096 * (n + 1))))
          | .slotRecord k => decide ((t.copy k).slots.getLast?.map (fun x => x.slotRec) = (s.copy k).slots.getLast?.map (fun _
            => some { p.1.slotRec with time := (if p.1.written = 0 then s.now else p.1.slotRec.time) }))
          | _ => true)))) ∧
  -- STORE_PROGRAM_COMPLETE
  (∀ (s : State) (fail : Bool), ((s.program.any (fun p => p.store) ∨ s.program = none ∧ s.storeFree) ∧ s.storeStep.any (fun p
    => !p.2.isErase) ∧ s.copies.length = 3 ∧ fail = true) →
    Gives (exec (.storeProgramComplete fail) s) (fun t =>
      t.program = none ∧ t.bit R.JNL_FAULT_PROG_FAIL 0 ∧ s.storeStep.all (fun p => decide ((t.copy p.2.copy).good = (s.copy
        p.2.copy).good - 1) && (List.range 3).all (fun j => j == p.2.copy || decide (t.copy j = s.copy j))))) ∧
  -- TRIAL_EXPIRE
  (∀ (s : State), s.onTrial ∧ s.markSteps StoreStep.confirm ≠ [] →
    Gives (exec (.trialExpire) s) (fun t =>
      t.storeOps.map (·.kind) = (if s.storeOps.any (fun o => o.kind == .confirm) then s.storeOps.map (·.kind) else
        s.storeOps.map (·.kind) ++ [.confirm]) ∧ (s.storeOps.any (fun o => o.kind == .confirm) = false → t.on
        R.CFG_STATUS_BUSY ∧ t.storeOps.getLast?.map (·.steps) = some (((List.range 3).filter (fun k => s.loaded.any (fun x =>
        (s.copy k).holds x))).map StoreStep.confirm)))) ∧
  -- CFG_SWITCH
  (∀ (s : State), s.on R.X_SWITCH ∧ s.safePoint ∧ s.target ≠ none →
    Gives (exec (.cfgSwitch) s) (fun t =>
      t.on R.X_SWITCH = false ∧ t.loaded = s.target ∧ t.target = none ∧ t.get R.CFG_ACTIVE_VER = ((s.target.map
        (·.version)).getD 0) % 2 ^ 32 ∧ t.on R.CFG_STATUS_TRIAL = s.target.any (fun x => (x.slotRec.getD SlotRec.none).trial
        && !s.confirmed x)))

/-- The two-wire port (R350, R351, R352, R354, R357, R358). Model choices: log 61, 62. -/
def Obligations.TwoWirePort : Prop :=
  -- TW_WRITE_REQUEST
  (∀ (s : State) (bytes : List Byte), s.twLive ∧ s.requests = [] ∧ bytes = [0x32, 0x5A, 0x00, 0x00, 0x26] →
    Gives (exec (.twWriteRequest bytes) s) (fun t =>
      t.requests = [{ port := .tw, opcode := 0x32, tag := 0x5A, params := [] }] ∧ t.tw.reply = none)) ∧
  -- TW_WRITE_REQUEST
  (∀ (s : State) (bytes : List Byte), s.twLive ∧ 1 ≤ bytes.length ∧ bytes.length < 4 →
    Gives (exec (.twWriteRequest bytes) s) (fun t =>
      t.replied .tw 0x18 (BitVec.ofNat 8 (field bytes 1 1)) [] ∧ t.get R.HIF_TRUNC_CNT_TW = min (s.get R.HIF_TRUNC_CNT_TW + 1)
        R.HIF_TRUNC_CNT_TW.top)) ∧
  -- TW_READ_REPLY
  (∀ (s : State) (n : Nat) (stop : Bool), s.twLive ∧ n ≠ 0 →
    Gives (exec (.twReadReply n stop) s) (fun t =>
      t.driven = (s.readBytes .tw n))) ∧
  -- TW_POINTER_RESET
  (∀ (s : State), s.twLive →
    Gives (exec (.twPointerReset) s) (fun t =>
      t.tw.ptr = (if s.tw.reply.isSome then 0 else s.tw.ptr) ∧ t.tw.reply = s.tw.reply)) ∧
  -- TW_ADDRESS_NACK
  (∀ (s : State), s.twLive = false ∧ s.busDead = false →
    Gives (exec (.twAddressNack) s) (fun t =>
      t.get R.HIF_NACK_CNT = min (s.get R.HIF_NACK_CNT + 1) R.HIF_NACK_CNT.top)) ∧
  -- SCL_TIMEOUT
  (∀ (s : State) (inRequest : Bool) (tag : Byte), s.busDead = false →
    Gives (exec (.sclTimeout inRequest tag) s) (fun t =>
      t.bit R.HIF_FAULT_SCL_TMO 0 ∧ (inRequest → s.twLive → t.replied .tw 0x18 tag []))) ∧
  -- SDA_STUCK
  (∀ (s : State) (freed : Bool), s.busDead = false →
    Gives (exec (.sdaStuck freed) s) (fun t =>
      t.bit R.HIF_FAULT_SDA_STUCK 0 ∧ t.stands R.HIF_FAULT_SDA_STUCK = !freed ∧ (freed = false → s.on R.HIF_CTRL_BUS_CLEAR →
        t.bit R.HIF_FAULT_BUS_CLEAR_FAIL 0))) ∧
  -- BUS_CLEAR_RETRY
  (∀ (s : State) (freed : Bool), (s.busDead = false ∧ s.stands R.HIF_FAULT_SDA_STUCK ∧ (freed ∨ s.on R.HIF_CTRL_BUS_CLEAR)) →
    Gives (exec (.busClearRetry freed) s) (fun t =>
      (freed → t.stands R.HIF_FAULT_SDA_STUCK = false) ∧ (freed = false → t.bit R.HIF_FAULT_BUS_CLEAR_FAIL 0)))

/-- The bulk port (R350, R351, R356, R362). Model choices: log 61, 62. -/
def Obligations.BulkPort : Prop :=
  -- WRITE_PACKET
  (∀ (s : State) (bytes : List Byte) (odd vddio : Bool), s.qbLive ∧ s.get R.MODE_STATUS_MODE ≠ 1 ∧ vddio = true ∧ s.requests =
    [] ∧ odd = false ∧ bytes = [0x32, 0x5A, 0x00, 0x00, 0x26] →
    Gives (exec (.writePacket bytes odd vddio) s) (fun t =>
      t.requests = [{ port := .qb, opcode := 0x32, tag := 0x5A, params := [] }])) ∧
  -- WRITE_PACKET
  (∀ (s : State) (bytes : List Byte) (odd vddio : Bool), s.qbLive ∧ s.get R.MODE_STATUS_MODE ≠ 1 ∧ vddio = true ∧ odd = true →
    Gives (exec (.writePacket bytes odd vddio) s) (fun t =>
      t.replied .qb 0x18 (BitVec.ofNat 8 (field bytes 1 1)) [] ∧ t.get R.HIF_TRUNC_CNT_QB = min (s.get R.HIF_TRUNC_CNT_QB + 1)
        R.HIF_TRUNC_CNT_QB.top)) ∧
  -- READ_REPLY
  (∀ (s : State) (n : Nat) (vddio : Bool), s.qbLive ∧ s.get R.MODE_STATUS_MODE ≠ 1 ∧ vddio = true →
    Gives (exec (.readReply n vddio) s) (fun t =>
      t.driven = (s.readBytes .qb n))) ∧
  -- READ_REPLY
  (∀ (s : State) (n : Nat) (vddio : Bool), s.on R.DEV_CLK_FAST_ON = false ∧ n ≠ 0 →
    Gives (exec (.readReply n vddio) s) (fun t =>
      t.driven = List.replicate n 0xFF ∧ t.qb = s.qb)) ∧
  -- READ_STATUS
  (∀ (s : State) (vddio : Bool), s.qbLive ∧ s.get R.MODE_STATUS_MODE ≠ 1 ∧ vddio = true ∧ s.requests = [] →
    Gives (exec (.readStatus vddio) s) (fun t =>
      t.driven = le 1 (bitAt 0 s.qb.reply.isSome + bitAt 2 (s.on R.HIF_STATUS_ALERTN_LOW)))) ∧
  -- REWIND
  (∀ (s : State) (vddio : Bool), s.qbLive ∧ s.get R.MODE_STATUS_MODE ≠ 1 ∧ vddio = true →
    Gives (exec (.rewind vddio) s) (fun t =>
      t.qb.ptr = (if s.qb.reply.isSome then 0 else s.qb.ptr) ∧ t.qb.reply = s.qb.reply)) ∧
  -- BULK_INVALID_INSTRUCTION
  (∀ (s : State) (vddio : Bool), s.qbLive ∧ s.get R.MODE_STATUS_MODE ≠ 1 ∧ vddio = true →
    Gives (exec (.bulkInvalidInstruction vddio) s) (fun t =>
      t.bit R.HIF_FAULT_BULK_ERR 0 ∧ t.qb = s.qb))

/-- Host-notify and HRSTN (R359, R360, R365, R366). Model choices: log 62. -/
def Obligations.NotifyAndReset : Prop :=
  -- HOST_NOTIFY_ATTEMPT
  (∀ (s : State) (ok : Bool), s.busDead = false ∧ s.on R.HIF_STATUS_NOTIFY_BUSY →
    Gives (exec (.hostNotifyAttempt ok) s) (fun t =>
      t.stands R.HIF_FAULT_SDA_STUCK = false ∧ t.driven = s.notifyBytes ∧ (ok → t.on R.HIF_STATUS_NOTIFY_BUSY = false ∧ t.get
        R.HIF_NOTIFY_CNT_SENT = min (s.get R.HIF_NOTIFY_CNT_SENT + 1) R.HIF_NOTIFY_CNT_SENT.top) ∧ (ok = false → t.get
        R.HIF_NOTIFY_CNT_LOST = min (s.get R.HIF_NOTIFY_CNT_LOST + 1) R.HIF_NOTIFY_CNT_LOST.top ∧ (s.get R.X_NOTIFY_TRIES = 7
        → t.bit R.HIF_FAULT_NOTIFY_FAIL 0)))) ∧
  -- HRSTN_EXTERNAL_LOW
  (∀ (s : State), s.asleepDeep = false ∧ s.on R.HIF_STATUS_HRSTN_DRIVEN = false →
    Gives (exec (.hrstnExternalLow) s) (fun t =>
      t.get R.HIF_HRST_EXT_CNT = min (s.get R.HIF_HRST_EXT_CNT + 1) R.HIF_HRST_EXT_CNT.top ∧ t.on R.HIF_STATUS_HRSTN_LOW)) ∧
  -- HRSTN_RELEASE
  (∀ (s : State), s.on R.MODE_STATUS_RAIL_DEMAND ∧ s.railState 0 = 4 ∧ s.railState 1 = 4 ∧ s.on R.X_HRST_UP = false ∧ s.on
    R.X_HELD = false →
    Gives (exec (.hrstnRelease) s) (fun t =>
      t.on R.X_HRST_UP ∧ t.on R.HIF_STATUS_HRSTN_LOW = (s.on R.WDT_STATUS_YELLOW_PULSE || s.on R.X_DOWN || s.on R.X_HRST_EXT)
        ∧ (s.on R.WDT_STATUS_YELLOW_PULSE = false → t.on R.WDT_STATUS_INTERNAL = false)))

/-- The CHARGE_CONTROL actions take effect (R189, R180, R183, R186, R369). -/
def Obligations.HostCharge : Prop :=
  -- SUSPEND
  (∀ (s : State) (port : PortId) (tag : Byte) (arg : Fin 65536), s.free port →
    Gives (exec (.suspend port tag arg) s) (fun t =>
      t.replied port 0x00 tag [] ∧ t.on R.CHG_HOLD_SUSPEND ∧ t.on R.CHG_STATUS_HOLD ∧ t.chgAim = 0)) ∧
  -- RESUME
  (∀ (s : State) (port : PortId) (tag : Byte) (arg : Fin 65536), s.free port →
    Gives (exec (.resume port tag arg) s) (fun t =>
      t.replied port 0x00 tag [] ∧ t.on R.CHG_HOLD_SUSPEND = false)) ∧
  -- RESTART
  (∀ (s : State) (port : PortId) (tag : Byte) (arg : Fin 65536), s.free port ∧ s.chg = 0xA →
    Gives (exec (.restart port tag arg) s) (fun t =>
      t.replied port 0x00 tag [] ∧ t.chg = 2 ∧ t.get R.CHG_TABS = 0 ∧ t.get R.CHG_TCHG_ACC = 0)) ∧
  -- EQUALISE
  (∀ (s : State) (port : PortId) (tag : Byte) (key : Fin 65536), (s.free port ∧ key = 0x5EA1 ∧ s.chem = 3 ∧ s.get
    R.MODE_STATUS_MODE = 6 ∧ (s.chg = 0xB ∨ s.chg = 0xC)) →
    Gives (exec (.equalise port tag key) s) (fun t =>
      t.replied port 0x00 tag [] ∧ t.chg = 0xD)) ∧
  -- END_EQUALISE
  (∀ (s : State) (port : PortId) (tag : Byte) (arg : Fin 65536), s.free port ∧ s.chg = 0xD →
    Gives (exec (.endEqualise port tag arg) s) (fun t =>
      t.replied port 0x00 tag [] ∧ t.chg = 0xC)) ∧
  -- SERVICE_GROUPS
  (∀ (s : State) (port : PortId) (tag : Byte) (arg : Fin 65536), s.free port ∧ s.get R.MODE_STATUS_MODE = 0xA →
    Gives (exec (.serviceGroups port tag arg) s) (fun t =>
      t.replied port 0x00 tag [] ∧ t.get R.X_SVC_GROUPS = arg.val % 16))

/-- The RAIL_CONTROL actions take effect as the RCL frames do (R238, R241, R504). -/
def Obligations.HostRailControl : Prop :=
  -- RAIL_CONTROL_SET_VID
  (∀ (s : State) (port : PortId) (tag : Byte) (rail : Fin 256) (arg : Fin 65536), s.free port ∧ rail.val < 2 ∧ s.railAnswer
    rail 1 (arg.val % 256) = 1 →
    Gives (exec (.railControlSetVid port tag rail arg) s) (fun t =>
      t.replied port 0x00 tag [] ∧ t.get R.RAIL_x_TARGET rail = arg.val % 256)) ∧
  -- RAIL_CONTROL_SET_SLEW
  (∀ (s : State) (port : PortId) (tag : Byte) (rail : Fin 256) (arg : Fin 65536), s.free port ∧ rail.val < 2 ∧ s.railAnswer
    rail 2 (arg.val % 256) = 1 →
    Gives (exec (.railControlSetSlew port tag rail arg) s) (fun t =>
      t.replied port 0x00 tag [] ∧ t.get R.RAIL_x_SLEW rail = arg.val % 256)) ∧
  -- RAIL_CONTROL_SET_STATE
  (∀ (s : State) (port : PortId) (tag : Byte) (rail : Fin 256) (arg : Fin 65536), s.free port ∧ rail.val < 2 ∧ s.railAnswer
    rail 3 (arg.val % 256) = 1 →
    Gives (exec (.railControlSetState port tag rail arg) s) (fun t =>
      t.replied port 0x00 tag [] ∧ (s.railState rail = 4 → arg.val % 256 < 3 → t.get R.RAIL_x_STAT_PS rail = arg.val % 256))) ∧
  -- RAIL_CONTROL_CLEAR_ALERT
  (∀ (s : State) (port : PortId) (tag : Byte) (rail : Fin 256) (arg : Fin 65536), s.free port ∧ rail.val < 2 ∧ s.railAnswer
    rail 8 (arg.val % 256) = 1 →
    Gives (exec (.railControlClearAlert port tag rail arg) s) (fun t =>
      t.replied port 0x00 tag [] ∧ t.get R.X_RAIL_ALERTS rail = 0 ∧ t.on R.RAIL_x_STAT_SUPERSEDED rail = false)) ∧
  -- RAIL_CONTROL_SET_VID_FAST
  (∀ (s : State) (port : PortId) (tag : Byte) (rail : Fin 256) (arg : Fin 65536), s.free port ∧ rail.val < 2 ∧ s.railAnswer
    rail 9 (arg.val % 256) = 1 →
    Gives (exec (.railControlSetVidFast port tag rail arg) s) (fun t =>
      t.replied port 0x00 tag [] ∧ t.get R.RAIL_x_TARGET rail = arg.val % 256 ∧ t.on R.X_RAIL_FAST rail))

/-- LINE_CONTROL and NODE_INFO take effect (R281, R290, R291). -/
def Obligations.HostLine : Prop :=
  -- PORT_ON
  (∀ (s : State) (port : PortId) (tag : Byte) (mask : Fin 256) (others : Fin 16777216), s.free port →
    Gives (exec (.portOn port tag mask others) s) (fun t =>
      t.replied port 0x00 tag [] ∧ (∀ p : Fin 2, mask.val.testBit p → t.hostOff p = false))) ∧
  -- PORT_OFF
  (∀ (s : State) (port : PortId) (tag : Byte) (mask : Fin 256) (others : Fin 16777216), s.free port →
    Gives (exec (.portOff port tag mask others) s) (fun t =>
      t.replied port 0x00 tag [] ∧ (∀ p : Fin 2, mask.val.testBit p → t.hostOff p ∧ t.portState p = (if s.portState p = 6 then
        6 else 0) ∧ t.bit R.X_POLL p = false))) ∧
  -- ENUMERATE
  (∀ (s : State) (port : PortId) (tag : Byte) (mask : Fin 256) (others : Fin 16777216), s.free port →
    Gives (exec (.enumerate port tag mask others) s) (fun t =>
      t.replied port 0x00 tag [] ∧ (∀ p : Fin 2, mask.val.testBit p → t.get R.X_ENUM p = 2))) ∧
  -- RELEASE_SLOT
  (∀ (s : State) (port : PortId) (tag : Byte) (slot : Fin 256) (others : Fin 16777216), s.free port ∧ slot = 9 ∧ s.slotId 9 ≠
    0 ∧ s.get R.X_FRAME 0 = 0 ∧ s.get R.X_FRAME 1 = 0 →
    Gives (exec (.releaseSlot port tag slot others) s) (fun t =>
      t.replied port 0x00 tag [] ∧ t.slotId 9 = 0 ∧ t.slotState 9 = 0 ∧ (∀ c : Fin 8, t.get R.X_TR_N (72 + c) = 0))) ∧
  -- CONFIG_NODE
  (∀ (s : State) (port : PortId) (tag : Byte) (slot id : Fin 256) (value : Fin 65536), s.free port ∧ slot.val < 64 ∧ s.slotId
    slot ≠ 0 ∧ (s.get R.X_SLOT_CFG slot).testBit 24 = false →
    Gives (exec (.configNode port tag slot id value) s) (fun t =>
      t.replied port 0x00 tag [] ∧ t.get R.X_SLOT_CFG slot = 2 ^ 24 + id.val * 65536 + value.val)) ∧
  -- NODE_INFO
  (∀ (s : State) (port : PortId) (tag : Byte) (slot : Fin 256), s.free port ∧ slot.val < 64 →
    Gives (exec (.nodeInfo port tag slot) s) (fun t =>
      t.replied port 0x00 tag ((s.heard port).nodeInfo slot) ∧ t.slotId slot = s.slotId slot))

/-- PING, the parameter opcodes and READ_FAULTS answer and take effect (R24, R375, R376, R377, R378, R380). Model choices: log 60,
  64. -/
def Obligations.HostParameters : Prop :=
  -- PING
  (∀ (s : State) (port : PortId) (tag : Byte) (bytes : List Byte), s.free port ∧ bytes.length ≤ 16 →
    Gives (exec (.ping port tag bytes) s) (fun t =>
      t.replied port 0x00 tag (le 2 ((s.heard port).readWord 0x0000) ++ le 2 ((s.heard port).readWord 0x0001) ++ le 2
        ((s.heard port).readWord 0x0100) ++ le 2 (s.heard port).faultSum ++ bytes))) ∧
  -- READ_PARAM
  (∀ (s : State) (port : PortId) (tag : Byte) (addr : Fin 65536) (count : Fin 256), s.free port ∧ 1 ≤ count.val ∧ count.val ≤
    64 ∧ (List.range count.val).all (fun k => defined (addr.val + k) && accessOf (addr.val + k) != .rc) →
    Gives (exec (.readParam port tag addr count) s) (fun t =>
      t.replied port 0x00 tag (((List.range count.val).map (fun k => le 2 ((s.heard port).readWord (addr.val + k)))).flatten)
        ∧ (∀ a : Fin 4096, a.val / 256 ≠ 0x0D → t.rawWord a = (s.heard port).rawWord a))) ∧
  -- READ_PARAM
  (∀ (s : State) (port : PortId) (tag : Byte) (addr : Fin 65536) (count : Fin 256), s.free port ∧ count = 1 ∧ addr.val ∈
    [0x0200, 0x0300, 0x0400, 0x0401, 0x0700, 0x0800, 0x0900, 0x0A00, 0x0C00, 0x0C40, 0x0F00] →
    Gives (exec (.readParam port tag addr count) s) (fun t =>
      t.replied port 0x00 tag (((List.range count.val).map (fun k => le 2 ((s.heard port).readWord (addr.val + k)))).flatten)
        ∧ t.rawWord addr = ((s.heard port).rawWord addr &&& (s.heard port).standing addr))) ∧
  -- WRITE_PARAM
  (∀ (s : State) (port : PortId) (tag : Byte) (addr : Fin 65536) (words : List (Fin 65536)), s.free port ∧ addr.val ∈ [0x0108,
    0x0109, 0x010B, 0x0204, 0x0304, 0x0406, 0x0407] ∧ words.length = 1 ∧ (s.heard port).wordStatus addr (words.headD 0).val =
    0 →
    Gives (exec (.writeParam port tag addr words) s) (fun t =>
      t.replied port 0x00 tag [] ∧ t.rawWord addr = (words.headD 0).val ∧ t.on R.DEV_CFG_DIRTY)) ∧
  -- WRITE_PARAM
  (∀ (s : State) (port : PortId) (tag : Byte) (addr : Fin 65536) (words : List (Fin 65536)), s.free port ∧ 1 ≤ words.length ∧
    words.length ≤ 64 ∧ (s.heard port).judgeWrite ((List.range words.length).zip words |>.map (fun p => (addr.val + p.1,
    p.2.val))) = some (0x15, addr.val) →
    Gives (exec (.writeParam port tag addr words) s) (fun t =>
      t.replied port 0x15 tag (le 2 addr.val) ∧ t.fields = (s.heard port).fields)) ∧
  -- MODIFY_PARAM
  (∀ (s : State) (port : PortId) (tag : Byte) (addr mask value : Fin 65536), s.free port ∧ addr.val ∈ [0x0108, 0x0109, 0x010B,
    0x0204, 0x0304, 0x0406, 0x0407] ∧ (s.heard port).wordStatus addr (((s.heard port).rawWord addr &&& (65535 - mask.val)) |||
    (value.val &&& mask.val)) = 0 →
    Gives (exec (.modifyParam port tag addr mask value) s) (fun t =>
      t.replied port 0x00 tag (le 2 (((s.heard port).rawWord addr &&& (65535 - mask.val)) ||| (value.val &&& mask.val))) ∧
        t.rawWord addr = (((s.heard port).rawWord addr &&& (65535 - mask.val)) ||| (value.val &&& mask.val)) ∧ t.on
        R.DEV_CFG_DIRTY)) ∧
  -- READ_FAULTS
  (∀ (s : State) (port : PortId) (tag : Byte), s.free port →
    Gives (exec (.readFaults port tag) s) (fun t =>
      t.replied port 0x00 tag (s.heard port).readFaults.2 ∧ (∀ a ∈ faultAddrs, t.rawWord a = (faultAddrs.foldl
        State.readAction (s.heard port)).rawWord a)))

/-- The MODE_REQUEST actions take effect (R59, R67, R68). Model choices: log 23. -/
def Obligations.HostModes : Prop :=
  -- ENTER_SHIP
  (∀ (s : State) (port : PortId) (tag : Byte) (key : Fin 65536) (waken : Bool), s.free port ∧ key = 0x69D2 ∧ s.anyPresent =
    false ∧ waken = true ∧ s.get R.PP_STATUS_BAT = 1 ∧ 1 ≤ s.get R.MODE_STATUS_MODE ∧ s.get R.MODE_STATUS_MODE ≤ 5 →
    Gives (exec (.enterShip port tag key waken) s) (fun t =>
      t.replied port 0x01 tag [] ∧ t.on R.MODE_STATUS_SHIP_PENDING)) ∧
  -- ENTER_SHIP
  (∀ (s : State) (port : PortId) (tag : Byte) (key : Fin 65536) (waken : Bool), s.free port ∧ key = 0x69D2 ∧ waken = false →
    Gives (exec (.enterShip port tag key waken) s) (fun t =>
      t.replied port 0x17 tag [] ∧ t.on R.MODE_STATUS_SHIP_PENDING = s.on R.MODE_STATUS_SHIP_PENDING)) ∧
  -- ENTER_SERVICE
  (∀ (s : State) (port : PortId) (tag : Byte) (key : Fin 65536), s.free port ∧ key = 0x3C96 ∧ s.on R.MODE_STATUS_RAIL_DEMAND ∧
    s.on R.MODE_STATUS_RIDE_ACTIVE = false ∧ s.deadBattery = false ∧ s.on R.X_SERVICE = false →
    Gives (exec (.enterService port tag key) s) (fun t =>
      t.replied port 0x00 tag [] ∧ t.on R.X_SERVICE ∧ t.get R.X_SVC_END = (s.now + s.get R.MODE_SVC_TIMEOUT * 60000) % 2 ^
        R.X_SVC_END.width ∧ t.bit R.X_CAUSES 0x12)) ∧
  -- LEAVE_SERVICE
  (∀ (s : State) (port : PortId) (tag : Byte) (key : Fin 65536), s.free port ∧ s.on R.X_SERVICE →
    Gives (exec (.leaveService port tag key) s) (fun t =>
      t.replied port 0x00 tag [] ∧ t.on R.X_SERVICE = false ∧ t.bit R.X_CAUSES 0x12)) ∧
  -- END_GRACE
  (∀ (s : State) (port : PortId) (tag : Byte) (key : Fin 65536), s.free port →
    Gives (exec (.endGrace port tag key) s) (fun t =>
      t.replied port 0x00 tag [] ∧ t.on R.MODE_STATUS_GRACE = false))

/-- The queue opcodes and the journal opcodes answer and take effect (R381, R382, R383, R384). Model choices: log 52, 61. -/
def Obligations.HostQueues : Prop :=
  -- QUEUE_POP
  (∀ (s : State) (port : PortId) (tag : Byte) (q most : Fin 256), s.free port ∧ q.val < 16 ∧ 0 < most.val ∧ s.unpopped q ≠ []
    →
    Gives (exec (.queuePop port tag q most) s) (fun t =>
      t.replied port 0x00 tag (le 1 ((s.unpopped q).take (min most.val (recordLimit port))).length ++ le 2 ((s.unpopped
        q).length - ((s.unpopped q).take (min most.val (recordLimit port))).length) ++ (((s.unpopped q).take (min most.val
        (recordLimit port))).map (fun x => x.record.image)).flatten) ∧ (t.port port).reply.map Reply.popSeqs = some
        (((s.unpopped q).take (min most.val (recordLimit port))).map (·.record.seq)) ∧ t.slots = s.slots)) ∧
  -- QUEUE_POP
  (∀ (s : State) (port : PortId) (tag : Byte) (q most : Fin 256), s.free port ∧ q.val < 16 ∧ 0 < most.val ∧ s.unpopped q = []
    →
    Gives (exec (.queuePop port tag q most) s) (fun t =>
      t.replied port 0x21 tag [] ∧ t.slots = s.slots)) ∧
  -- QUEUE_PEEK
  (∀ (s : State) (port : PortId) (tag : Byte) (q most : Fin 256), s.free port ∧ q.val < 16 ∧ 0 < most.val ∧ s.unpopped q ≠ []
    →
    Gives (exec (.queuePeek port tag q most) s) (fun t =>
      t.replied port 0x00 tag (le 1 ((s.unpopped q).take (min most.val (recordLimit port))).length ++ le 2 ((s.unpopped
        q).length - ((s.unpopped q).take (min most.val (recordLimit port))).length) ++ (((s.unpopped q).take (min most.val
        (recordLimit port))).map (fun x => x.record.image)).flatten) ∧ (t.port port).reply.map Reply.popSeqs = some [] ∧
        t.slots = s.slots)) ∧
  -- QUEUE_STATUS
  (∀ (s : State) (port : PortId) (tag : Byte), s.free port →
    Gives (exec (.queueStatus port tag) s) (fun t =>
      t.replied port 0x00 tag (le 2 ((s.heard port).readWord 0x0B02) ++ le 2 ((s.heard port).readWord 0x0B03) ++ le 2
        ((s.heard port).readWord 0x0B04) ++ ((List.range 16).map (fun q => le 2 (s.unpopped q).length ++ le 2 (s.pendingOf
        q))).flatten))) ∧
  -- JOURNAL_READ
  (∀ (s : State) (port : PortId) (tag : Byte) (first : Fin 4294967296) (max_ : Fin 65536) (corr most : Nat) (lost : List Nat)
    (uncorr : Nat), s.free port ∧ 0 < max_.val ∧ max_.val ≤ 511 ∧ s.ring = [] →
    Gives (exec (.journalRead port tag first max_ corr most lost uncorr) s) (fun t =>
      t.replied port 0x00 tag (le 4 first.val ++ le 4 (s.get R.JNL_OLDEST_SEQ) ++ le 4 (s.get R.JNL_NEWEST_SEQ) ++ le 2 0 ++
        le 2 0) ∧ t.get R.JNL_ECC_CORR = min (s.get R.JNL_ECC_CORR + corr) R.JNL_ECC_CORR.top)) ∧
  -- JOURNAL_MARK
  (∀ (s : State) (port : PortId) (tag : Byte) (bytes : List Byte), s.free port ∧ bytes.length = 16 ∧ s.on
    R.JNL_STATUS_SCAN_DONE ∧ s.on R.X_HELD = false ∧ s.slots = [] ∧ s.get R.X_RF_COUNT (s.route (s.mkRec 0x30 0x90 bytes)) = 0
    ∧ s.judge (s.route (s.mkRec 0x30 0x90 bytes)) = none →
    Gives (exec (.journalMark port tag bytes) s) (fun t =>
      t.replied port 0x00 tag (le 4 (s.get R.JNL_NEXT_SEQ) ++ le 1 (s.route (s.mkRec 0x30 0x90 bytes))) ∧ t.slots.length = 1 ∧
        (∀ x ∈ t.slots, x.record.payload = bytes ∧ x.record.type = 0x30 ∧ x.record.seq = s.get R.JNL_NEXT_SEQ)))

/-- The configuration opcodes answer and take effect (R389, R390, R393, R394, R395). Model choices: log 57, 58, 59. -/
def Obligations.HostConfig : Prop :=
  -- CFG_STAGE_WRITE
  (∀ (s : State) (port : PortId) (tag : Byte) (flags : Fin 256) (off : Fin 65536) (data : List Byte), s.free port ∧ flags.val
    ≤ 1 ∧ off.val + data.length ≤ Config.stagingSize ∧ data.length ≤ 4088 ∧ 1 ≤ data.length ∧ s.get R.X_STAGE ≠ 3 →
    Gives (exec (.cfgStageWrite port tag flags off data) s) (fun t =>
      t.replied port 0x00 tag [] ∧ t.get R.X_STAGE = 1 ∧ t.on R.CFG_STATUS_BUSY = s.on R.CFG_STATUS_BUSY)) ∧
  -- CFG_VERIFY
  (∀ (s : State) (port : PortId) (tag : Byte), (s.free port ∧ (s.get R.X_STAGE = 1 ∨ s.get R.X_STAGE = 2) ∧ (s.heard
    port).imageError = none) →
    Gives (exec (.cfgVerify port tag) s) (fun t =>
      t.replied port 0x00 tag (le 4 (field (s.stageBytes 32) 8 4) ++ le 2 (field (s.stageBytes 32) 12 2) ++ le 2 (wordsOf
        (s.stageBytes (field (s.stageBytes 32) 12 2))).length) ∧ t.get R.X_STAGE = 2 ∧ t.get R.X_STAGE_VER = field
        (s.stageBytes 32) 8 4)) ∧
  -- CFG_COMMIT
  (∀ (s : State) (port : PortId) (tag : Byte) (flags period : Fin 256) (key : Fin 65536) (version : Fin 4294967296), s.free
    port ∧ flags = 0 ∧ period = 0 ∧ s.on R.OTP_LOCK = false ∧ s.storeOps = [] ∧ s.on R.X_SWITCH = false ∧ s.get R.X_STAGE = 2
    →
    Gives (exec (.cfgCommit port tag flags period key version) s) (fun t =>
      t.replied port 0x01 tag (le 4 (field (s.stageBytes 32) 8 4) ++ le 4 (s.topCounter + 1)) ∧ t.get R.X_STAGE = 3 ∧
        t.storeOps.map (·.kind) = [.commit] ∧ t.on R.CFG_STATUS_BUSY)) ∧
  -- CFG_COMMIT
  (∀ (s : State) (port : PortId) (tag : Byte) (flags period : Fin 256) (key : Fin 65536) (version : Fin 4294967296), s.free
    port ∧ flags = 0 ∧ period = 0 ∧ s.on R.OTP_LOCK = false ∧ s.cfgBusy →
    Gives (exec (.cfgCommit port tag flags period key version) s) (fun t =>
      t.replied port 0x02 tag [] ∧ t.storeOps = s.storeOps)) ∧
  -- CFG_CONFIRM
  (∀ (s : State) (port : PortId) (tag : Byte), s.free port ∧ s.onTrial ∧ s.storeOps = [] ∧ s.markSteps StoreStep.confirm ≠ []
    →
    Gives (exec (.cfgConfirm port tag) s) (fun t =>
      t.replied port 0x01 tag [] ∧ t.storeOps.map (·.kind) = [.confirm] ∧ t.on R.CFG_STATUS_BUSY)) ∧
  -- CFG_REVERT
  (∀ (s : State) (port : PortId) (tag : Byte) (key : Fin 65536), s.free port ∧ s.on R.OTP_LOCK = false ∧ s.on
    R.CFG_STATUS_NO_PREVIOUS = false ∧ s.storeOps = [] ∧ s.on R.X_SWITCH = false ∧ s.markSteps StoreStep.revoke ≠ [] →
    Gives (exec (.cfgRevert port tag key) s) (fun t =>
      t.replied port 0x01 tag [] ∧ t.storeOps.map (·.kind) = [.revert 1] ∧ t.on R.CFG_STATUS_TRIAL = false ∧ t.on
        R.CFG_STATUS_BUSY)) ∧
  -- CFG_INFO
  (∀ (s : State) (port : PortId) (tag : Byte), s.free port →
    Gives (exec (.cfgInfo port tag) s) (fun t =>
      t.replied port 0x00 tag (s.heard port).cfgInfo))

/-- Watchdog, self-test, OTP, ledger and restart opcodes answer and take effect (R385, R396, R397, R409, R457). Model choices: log
  66. -/
def Obligations.HostSystem : Prop :=
  -- WDT_CHECKIN
  (∀ (s : State) (port : PortId) (tag : Byte) (task : Fin 256), s.free port ∧ task.val < 8 ∧ s.on R.WDT_STATUS_ENABLED ∧ s.on
    R.WDT_STATUS_INTERNAL = false ∧ s.bit R.WDT_TASK_EN task →
    Gives (exec (.wdtCheckin port tag task) s) (fun t =>
      t.replied port 0x00 tag [] ∧ t.bit R.WDT_TASK_SEEN_SEEN task ∧ t.bit R.WDT_TASK_SEEN_DUP task = (s.bit
        R.WDT_TASK_SEEN_DUP task || s.bit R.WDT_TASK_SEEN_SEEN task))) ∧
  -- SELFTEST_RUN
  (∀ (s : State) (port : PortId) (tag : Byte) (mask : Fin 256), s.free port →
    Gives (exec (.selftestRun port tag mask) s) (fun t =>
      t.replied port 0x00 tag [] ∧ t.get R.X_BIST_FIRST = (s.get R.X_BIST_FIRST ||| mask.val))) ∧
  -- SELFTEST_STOP
  (∀ (s : State) (port : PortId) (tag : Byte) (mask : Fin 256), s.free port →
    Gives (exec (.selftestStop port tag mask) s) (fun t =>
      t.replied port 0x00 tag [] ∧ (∀ p : Fin 8, mask.val.testBit p → t.get R.BIST_Pp_PROG_PASSED p = 0 ∧ t.get R.X_BIST_SEEN
        p = 0 ∧ t.bit R.X_BIST_FIRST p = false))) ∧
  -- OTP_PROGRAM
  (∀ (s : State) (port : PortId) (tag : Byte) (key : Fin 65536) (index : Fin 256) (value : Fin 65536), s.free port ∧ key =
    0x7C3E ∧ index.val ≤ 127 ∧ s.get R.MODE_STATUS_MODE = 0xA ∧ s.on R.OTP_LOCK = false ∧ s.on R.X_OTP_BUSY = false →
    Gives (exec (.otpProgram port tag key index value) s) (fun t =>
      t.replied port 0x01 tag [] ∧ t.on R.X_OTP_BUSY ∧ t.get R.X_OTP_WORD = index.val ∧ t.get R.X_OTP_BITS = value.val)) ∧
  -- OTP_PROGRAM_DONE
  (∀ (s : State) (failed : Fin 65536), s.on R.X_OTP_BUSY ∧ s.get R.X_OTP_WORD = 0 ∧ failed = 0 →
    Gives (exec (.otpProgramDone failed) s) (fun t =>
      t.on R.X_OTP_BUSY = false ∧ t.rawWord 0x1100 = (s.rawWord 0x1100 ||| s.get R.X_OTP_BITS))) ∧
  -- LEDGER_READ
  (∀ (s : State) (port : PortId) (tag : Byte), s.free port →
    Gives (exec (.ledgerRead port tag) s) (fun t =>
      t.replied port 0x00 tag (s.heard port).ledgerRead)) ∧
  -- RECOVER
  (∀ (s : State) (port : PortId) (tag : Byte) (key : Fin 65536), s.answering port ∧ s.requests = [] ∧ s.safeState ∧ s.on
    R.X_P0_ONLY = false ∧ s.on R.MODE_STATUS_THERM_ACTIVE = false ∧ key = 0x52EC ∧ s.get R.X_RESTART = 0 →
    Gives (exec (.recover port tag key) s) (fun t =>
      t.replied port 0x00 tag [] ∧ t.get R.X_RESTART = 0x18)) ∧
  -- DEVICE_RESTART
  (∀ (s : State) (port : PortId) (tag : Byte) (key : Fin 65536), s.free port ∧ key = 0xD1E5 ∧ s.get R.X_RESTART = 0 →
    Gives (exec (.deviceRestart port tag key) s) (fun t =>
      t.replied port 0x00 tag [] ∧ t.get R.X_RESTART = 0x1A))

/-- The mode controller (R49, R51, R52, R55, R68). Model choices: log 13, 14, 24. -/
def Obligations.ModeController : Prop :=
  -- MODE_EVALUATE
  (∀ (s : State) (sys bats : Nat), s.asleepDeep = false ∧ s.on R.X_HELD = false ∧ s.on R.X_RESTARTING = false ∧ sys < 65536 ∧
    bats < 65536 →
    Gives (exec (.modeEvaluate sys bats) s) (fun t =>
      t.get R.MODE_STATUS_MODE = (((s.set R.X_SYSS sys).set R.X_BATS bats).modeTerms).modeNow true ∧ t.get R.X_SYSS = sys ∧
        t.get R.X_BATS = bats ∧ (t.get R.MODE_STATUS_MODE ≠ s.get R.MODE_STATUS_MODE → t.get R.MODE_STATUS_PREV = s.get
        R.MODE_STATUS_MODE ∧ t.get R.MODE_CHANGE_TIME = s.now))) ∧
  -- UNCOUPLE
  (∀ (s : State), s.hasClass 1 = false →
    Gives (exec (.uncouple) s) (fun t =>
      t.on R.MODE_STATUS_COUPLED = false ∧ (s.on R.MODE_STATUS_COUPLED → t.bit R.X_CAUSES 0x08 ∧ (s.get R.MODE_GRACE ≠ 0 →
        t.on R.MODE_STATUS_GRACE)))) ∧
  -- GRACE_EXPIRE
  (∀ (s : State), s.on R.MODE_STATUS_GRACE →
    Gives (exec (.graceExpire) s) (fun t =>
      t.on R.MODE_STATUS_GRACE = false ∧ t.bit R.X_CAUSES 0x09)) ∧
  -- HARVEST_DORMANT
  (∀ (s : State) (i : Fin 4), s.delivering i →
    Gives (exec (.harvestDormant i) s) (fun t =>
      t.on R.X_DORMANT i ∧ t.cls i = s.cls i ∧ t.bit R.X_CAUSES 0x0B)) ∧
  -- HARVEST_RETRY_END
  (∀ (s : State) (i : Fin 4) (reached : Bool), s.bit R.X_RETRY i →
    Gives (exec (.harvestRetryEnd i reached) s) (fun t =>
      t.bit R.X_RETRY i = false ∧ (reached → t.on R.X_DORMANT i = false))) ∧
  -- SERVICE_TIMEOUT
  (∀ (s : State), s.on R.X_SERVICE →
    Gives (exec (.serviceTimeout) s) (fun t =>
      t.on R.X_SERVICE = false ∧ t.bit R.X_CAUSES 0x13)) ∧
  -- WAKE_COUNT_DUE
  (∀ (s : State), s.asleepDeep = false ∧ s.get R.MODE_STATUS_MODE = 1 ∧ s.get R.X_WAKE_AT + s.get R.X_WAKE_LEN ≤ s.get
    R.X_SLOW →
    Gives (exec (.wakeCountDue) s) (fun t =>
      t.on R.MODE_WAKE_SRC_WDT ∧ t.bit R.X_CAUSES 0x04 ∧ t.get R.X_WAKE_AT = s.get R.X_SLOW ∧ t.get R.X_WAKE_LEN = s.get
        R.LDG_POLL_INTERVAL * 327680 % 2 ^ R.X_WAKE_LEN.width)) ∧
  -- WAKEN_LOW
  (∀ (s : State), s.get R.MODE_STATUS_MODE = 1 ∧ s.asleepDeep = false ∧ s.on R.MODE_WAKE_EN_WAKEN →
    Gives (exec (.wakenLow) s) (fun t =>
      t.on R.MODE_WAKE_SRC_WAKEN ∧ t.on R.MODE_STATUS_SHIP_PENDING = false ∧ t.bit R.X_CAUSES 0x14 ∧ (s.on
        R.MODE_POLICY_ON_WAKEN → s.get R.MODE_GRACE ≠ 0 → t.on R.MODE_STATUS_GRACE))) ∧
  -- HOUR_BOUNDARY
  (∀ (s : State), s.asleepDeep = false ∧ s.on R.DEV_CLK_FAST_ON = false →
    Gives (exec (.hourBoundary) s) (fun t =>
      t.on R.X_HOUR_DUE ∧ t.get R.LDG_SNAP_SEQ = s.get R.LDG_SNAP_SEQ)) ∧
  -- HOUR_BOUNDARY
  (∀ (s : State), s.asleepDeep = false ∧ s.on R.DEV_CLK_FAST_ON →
    Gives (exec (.hourBoundary) s) (fun t =>
      t.get R.LDG_POLL_INTERVAL = s.nextInterval ∧ (t.on R.X_HOUR_DUE → t.recordDue ∧ t.get R.LDG_SNAP_SEQ = s.get
        R.LDG_SNAP_SEQ) ∧ (t.on R.X_HOUR_DUE = false → t.get R.LDG_SNAP_SEQ = (s.get R.LDG_SNAP_SEQ + 1) % 2 ^
        R.LDG_SNAP_SEQ.width)))

/-- The fast clock and device time (R40, R41, R255, R355). Model choices: log 26. -/
def Obligations.Clocks : Prop :=
  -- FAST_CLOCK_START
  (∀ (s : State), s.on R.X_FAST_REQ ∧ s.on R.DEV_CLK_FAST_ON = false ∧ s.asleepDeep = false →
    Gives (exec (.fastClockStart) s) (fun t =>
      t.on R.DEV_CLK_FAST_ON ∧ t.on R.X_FAST_REQ = false ∧ t.get R.X_FAST_AT = s.now ∧ t.on R.X_SLEEPING = false)) ∧
  -- FAST_CLOCK_STOP
  (∀ (s : State), s.on R.DEV_CLK_FAST_ON ∧ s.fastHeld = false →
    Gives (exec (.fastClockStop) s) (fun t =>
      t.on R.DEV_CLK_FAST_ON = false ∧ t.on R.X_SLEEPING ∧ t.get R.X_SLEEP_AT = s.now)) ∧
  -- TIME_RATE_CORRECTION
  (∀ (s : State) (cycles : Nat), s.on R.DEV_CLK_FAST_ON ∧ cycles < 2 ^ 24 →
    Gives (exec (.timeRateCorrection cycles) s) (fun t =>
      t.get R.X_TIME_RATE = cycles ∧ t.get R.X_CORR_AT = s.now ∧ t.on R.DEV_CLK_CORR_STALE = false)) ∧
  -- AWAKE_HOLD_END
  (∀ (s : State),
    Gives (exec (.awakeHoldEnd) s) (fun t =>
      t.on R.HIF_STATUS_AWAKE = false))

/-- Reset, restart and Ship (R25, R38, R60, R62, R329, R447). Model choices: log 4, 11, 12, 16, 19, 22. -/
def Obligations.Starts : Prop :=
  -- POWER_ON_RESET
  (∀ (s : State) (run : StartRun) (k sys bats : Nat), run.fail = 0 ∧ s.ring = [] →
    Gives (exec (.powerOnReset run k sys bats) s) (fun t =>
      t.on R.X_DOWN = false ∧ t.get R.BIST_POR_RESULT = 255 ∧ t.on R.WDT_STATUS_ENABLED ∧ t.on R.WDT_STATUS_INTERNAL ∧ t.get
        R.MODE_CAUSE = 1 ∧ t.on R.JNL_STATUS_SCAN_DONE ∧ t.on R.DEV_CLK_FAST_ON ∧ t.tw = Port.empty ∧ t.qb = Port.empty ∧
        t.requests = [] ∧ t.staging = [] ∧ (∀ p : Fin 6, t.get R.CNV_PHn_DT_U_RISE p = t.get R.CNV_DT_INIT_DT ∧ t.get
        R.CNV_PHn_DT_D_FALL p = t.get R.CNV_DT_INIT_DT) ∧ t.get R.HIF_ADDR_STRAP = (strapOf k).getD 0 ∧ t.get
        R.HIF_ADDR_EFFECTIVE = (t.get R.HIF_ADDR_BASE + (strapOf k).getD 0) % 2 ^ R.HIF_ADDR_EFFECTIVE.width)) ∧
  -- POWER_ON_RESET
  (∀ (s : State) (run : StartRun) (k sys bats : Nat), (run.fail.val.testBit 3 ∨ run.fail.val.testBit 4) →
    Gives (exec (.powerOnReset run k sys bats) s) (fun t =>
      t.on R.X_HELD ∧ t.on R.HIF_STATUS_HRSTN_LOW ∧ t.on R.HIF_STATUS_ALERTN_LOW ∧ t.get R.BIST_POR_RESULT = 255 -
        run.fail.val)) ∧
  -- VAO_BELOW_RESET
  (∀ (s : State) (loss : SupplyLoss),
    Gives (exec (.vaoBelowReset loss) s) (fun t =>
      t.on R.X_DOWN ∧ t.slots = [] ∧ t.held = [] ∧ t.program = none ∧ t.requests = [] ∧ t.staging = [] ∧ t.retained = (if
        loss.rewrite then s.retainedOld else s.retained) ∧ t.copies = s.copies ∧ t.grownBad = s.grownBad ∧ t.table6 = s.table6
        ∧ t.table7 = s.table7 ∧ t.on R.X_PASSIVE = loss.passive ∧ t.on R.HIF_STATUS_HRSTN_LOW)) ∧
  -- RETAINED_SRAM_LOST
  (∀ (s : State),
    Gives (exec (.retainedSramLost) s) (fun t =>
      t.retained = none ∧ t.retainedOld = none ∧ t.fields = s.fields ∧ t.ring = s.ring)) ∧
  -- DEVICE_RESTART_RESET
  (∀ (s : State) (fail : Fin 256) (sys bats : Nat), s.get R.X_RESTART ≠ 0 ∧ s.asleepDeep = false ∧ s.on R.X_HELD = false ∧
    s.restartBegin.restartReady = false →
    Gives (exec (.deviceRestartReset fail sys bats) s) (fun t =>
      t.on R.X_RESTARTING ∧ (s.on R.X_RESTARTING = false → t.on R.X_FLUSH ∧ t.on R.MODE_STATUS_RAIL_DEMAND = false))) ∧
  -- DEVICE_RESTART_RESET
  (∀ (s : State) (fail : Fin 256) (sys bats : Nat), s.get R.X_RESTART = 0x1A ∧ s.asleepDeep = false ∧ s.on R.X_HELD = false ∧
    s.restartBegin.restartReady ∧ s.get R.BIST_STATUS_SAFE = 0 →
    Gives (exec (.deviceRestartReset fail sys bats) s) (fun t =>
      t.get R.X_RESTART = 0 ∧ t.on R.X_RESTARTING = false ∧ t.on R.WDT_STATUS_ENABLED ∧ t.on R.WDT_STATUS_INTERNAL ∧ t.tw =
        Port.empty ∧ t.qb = Port.empty ∧ t.requests = [] ∧ t.staging = [] ∧ (∀ p : Fin 6, t.get R.CNV_PHn_DT_U_RISE p = t.get
        R.CNV_DT_INIT_DT ∧ t.get R.CNV_PHn_DT_D_FALL p = t.get R.CNV_DT_INIT_DT))) ∧
  -- SHIP_DELAY_EXPIRE
  (∀ (s : State), s.on R.MODE_STATUS_SHIP_PENDING ∧ s.on R.X_SHIP_OFF = false →
    Gives (exec (.shipDelayExpire) s) (fun t =>
      t.on R.X_SHIP_OFF ∧ t.on R.MODE_STATUS_RAIL_DEMAND = false)) ∧
  -- SHIP_ENTRY_COMPLETE
  (∀ (s : State), s.shipReady →
    Gives (exec (.shipEntryComplete) s) (fun t =>
      t.get R.MODE_STATUS_MODE = 0 ∧ t.get R.MODE_STATUS_PREV = s.get R.MODE_STATUS_MODE ∧ t.get R.MODE_CAUSE = 0x12 ∧ t.on
        R.AUX_STATUS_VAUX_ON = false ∧ t.get R.X_VPRE = (if s.get R.X_VPRE = 6 then 6 else 0) ∧ t.get R.PP_STATUS_ROLE = 0 ∧
        t.on R.DEV_CLK_FAST_ON = false ∧ t.on R.MODE_STATUS_SHIP_PENDING = false ∧ t.on R.X_SHIP_OFF = false)) ∧
  -- SHIP_EXIT
  (∀ (s : State) (byInput : Bool) (exit : ExitRun) (k sys bats : Nat), s.get R.MODE_STATUS_MODE = 0 ∧ s.on R.X_CUTOFF_REST =
    false ∧ s.on R.X_DOWN = false ∧ s.on R.X_HELD = false ∧ exit.run.fail = 0 ∧ s.ring = [] →
    Gives (exec (.shipExit byInput exit k sys bats) s) (fun t =>
      t.get R.HIF_NACK_CNT = min exit.nacks 65535 ∧ t.get R.MODE_CAUSE = (if byInput then 2 else 3) ∧ t.on
        R.WDT_STATUS_ENABLED ∧ t.on R.JNL_STATUS_SCAN_DONE ∧ t.on R.DEV_CLK_EPOCH_SET = false ∧ t.on R.DEV_CLK_FAST_ON ∧
        t.requests = [] ∧ t.get R.HIF_ADDR_STRAP = (strapOf k).getD 0 ∧ t.get R.HIF_ADDR_EFFECTIVE = (t.get R.HIF_ADDR_BASE +
        (strapOf k).getD 0) % 2 ^ R.HIF_ADDR_EFFECTIVE.width))

/-- Watchdog keys, periods and escalation (R404, R406, R407, R408, R412, R413, R414). Model choices: log 65, 66, 67. -/
def Obligations.Watchdog : Prop :=
  -- WDT_KEY
  (∀ (s : State) (key : Fin 256), s.monitored ∧ s.get R.X_WDT_NEW = 0 ∧ s.get R.WDT_POS < s.get R.X_WDT_LEN ∧ s.get
    R.WDT_WINDOW_AT ≤ s.get R.WDT_POS ∧ key = 0xB7 ∧ s.get R.WDT_TASK_EN = 0 ∧ s.get R.WDT_TASK_SEEN_DUP = 0 →
    Gives (exec (.wdtKey key) s) (fun t =>
      t.get R.WDT_LADDER_Y = 0 ∧ t.get R.WDT_LADDER_O = 0 ∧ t.get R.X_WDT_NEW = 1 ∧ t.get R.WDT_YELLOW_CNT = s.get
        R.WDT_YELLOW_CNT)) ∧
  -- WDT_KEY
  (∀ (s : State) (key : Fin 256), s.monitored ∧ s.expired = false ∧ key ≠ 0xB7 ∧ s.get R.WDT_LADDER_Y < s.get R.WDT_CFG_Y_MAX
    →
    Gives (exec (.wdtKey key) s) (fun t =>
      t.get R.WDT_LAST_KIND = 5 ∧ t.on R.WDT_STATUS_YELLOW_PULSE ∧ t.get R.WDT_LADDER_Y = (s.get R.WDT_LADDER_Y + 1) % 2 ^
        R.WDT_LADDER_Y.width ∧ t.bit R.SUP_FAULT_YELLOW 0 ∧ t.on R.HIF_STATUS_HRSTN_LOW)) ∧
  -- WDT_DISABLE_SEQUENCE
  (∀ (s : State), s.on R.WDT_LOCK = false →
    Gives (exec (.wdtDisableSequence) s) (fun t =>
      t.on R.WDT_STATUS_ENABLED = false)) ∧
  -- WDT_ENABLE
  (∀ (s : State), s.on R.WDT_LOCK = false →
    Gives (exec (.wdtEnable) s) (fun t =>
      t.on R.WDT_STATUS_ENABLED ∧ t.on R.X_DIS_ARM = false ∧ (s.on R.WDT_STATUS_ENABLED = false → s.on R.WDT_STATUS_INTERNAL =
        false → t.on R.WDT_STATUS_BOOT))) ∧
  -- WDT_LOCK_SET
  (∀ (s : State),
    Gives (exec (.wdtLockSet) s) (fun t =>
      t.get R.WDT_LOCK = 1)) ∧
  -- WDT_EXPIRE
  (∀ (s : State), s.wdtRuns ∧ s.get R.X_WDT_NEW = 0 ∧ s.get R.X_WDT_LEN ≤ s.get R.WDT_POS + 1 ∧ s.get R.WDT_LADDER_Y < s.get
    R.WDT_CFG_Y_MAX →
    Gives (exec (.wdtExpire) s) (fun t =>
      t.get R.WDT_LAST_KIND = (if s.on R.WDT_STATUS_INTERNAL then 7 else 1) ∧ t.on R.WDT_STATUS_YELLOW_PULSE ∧ t.get
        R.WDT_YELLOW_CNT = min (s.get R.WDT_YELLOW_CNT + 1) R.WDT_YELLOW_CNT.top ∧ t.bit R.SUP_FAULT_YELLOW 0 ∧ t.get
        R.X_WDT_NEW = 2)) ∧
  -- WDT_EXPIRE
  (∀ (s : State), s.wdtRuns ∧ s.get R.X_WDT_NEW = 0 ∧ s.get R.X_WDT_LEN ≤ s.get R.WDT_POS + 1 ∧ s.get R.WDT_CFG_Y_MAX ≤ s.get
    R.WDT_LADDER_Y ∧ s.get R.WDT_OTP_O_MAX ≤ s.get R.WDT_LADDER_O ∧ s.get R.WDT_SAFE_CAUSE = 0 →
    Gives (exec (.wdtExpire) s) (fun t =>
      t.bit R.SUP_FAULT_BLACK 0 ∧ t.get R.WDT_SAFE_CAUSE = 1)) ∧
  -- WDT_INTERNAL_SERVICE
  (∀ (s : State), s.wdtRuns ∧ s.on R.WDT_STATUS_INTERNAL ∧ s.get R.WDT_WINDOW_AT ≤ s.get R.WDT_POS →
    Gives (exec (.wdtInternalService) s) (fun t =>
      t.get R.X_WDT_NEW = 1 ∧ t.get R.WDT_TASK_SEEN_SEEN = 0 ∧ t.get R.WDT_TASK_SEEN_DUP = 0 ∧ t.get R.WDT_LADDER_Y = s.get
        R.WDT_LADDER_Y)) ∧
  -- YELLOW_PULSE_END
  (∀ (s : State), s.on R.WDT_STATUS_YELLOW_PULSE →
    Gives (exec (.yellowPulseEnd) s) (fun t =>
      t.on R.WDT_STATUS_YELLOW_PULSE = false ∧ (s.on R.X_HRST_UP → t.on R.WDT_STATUS_INTERNAL = false))) ∧
  -- SEQUENCER_SILENT
  (∀ (s : State) (seq : Fin 4), s.asleepDeep = false ∧ s.on R.X_HELD = false ∧ s.get R.MODE_STATUS_MODE ≠ 0xB ∧ s.thirdRestart
    = false ∧ s.seqWorks seq →
    Gives (exec (.sequencerSilent seq) s) (fun t =>
      t.get R.WDT_SEQ_RESTARTS = min (s.get R.WDT_SEQ_RESTARTS + 1) R.WDT_SEQ_RESTARTS.top ∧ t.bit R.SUP_FAULT_SEQ_RESTART 0 ∧
        t.get R.X_SEQ_AT 0 = s.now ∧ (seq = 0 → t.chg = 2) ∧ (seq = 1 → t.get R.X_FRAME 0 = 0 ∧ t.get R.X_FRAME 1 = 0) ∧ (seq
        = 3 → t.requests.length < s.requests.length))) ∧
  -- SEQUENCER_SILENT
  (∀ (s : State) (seq : Fin 4), s.seqWorks seq = false →
    Gives (exec (.sequencerSilent seq) s) (fun t =>
      t.fields = s.fields ∧ t.requests = s.requests))

/-- Ride-Through (R421, R422). -/
def Obligations.SupplySupervision : Prop :=
  -- SUP_WARN
  (∀ (s : State) (sys : Nat), s.asleepDeep = false ∧ s.on R.X_HELD = false ∧ s.on R.SUP_STATUS_RIDE = false ∧ sys < 65536 →
    Gives (exec (.supWarn sys) s) (fun t =>
      t.on R.SUP_STATUS_RIDE ∧ t.on R.MODE_STATUS_RIDE_ACTIVE ∧ t.on R.CHG_HOLD_RIDE ∧ t.bit R.SUP_FAULT_SUP_WARN 0 ∧ t.stands
        R.SUP_FAULT_SUP_WARN ∧ t.get R.X_SYSS = sys ∧ t.chgAim = 0)) ∧
  -- RIDE_THROUGH_END
  (∀ (s : State), s.on R.SUP_STATUS_RIDE →
    Gives (exec (.rideThroughEnd) s) (fun t =>
      t.on R.SUP_STATUS_RIDE = false ∧ t.on R.MODE_STATUS_RIDE_ACTIVE = false ∧ t.on R.CHG_HOLD_RIDE = false ∧ t.get
        R.SUP_RIDE_CNT = min (s.get R.SUP_RIDE_CNT + 1) R.SUP_RIDE_CNT.top ∧ t.stands R.SUP_FAULT_SUP_WARN = false))

/-- Die and thermistors, hold and foldback (R428, R430, R431, R433, R436, R438, R439, R440). Model choices: log 68, 69. -/
def Obligations.Thermal : Prop :=
  -- DIE_READING
  (∀ (s : State) (t1 t2 : Int), s.asleepDeep = false ∧ s.on R.X_HELD = false ∧ s.on R.THM_STATUS_HOLD = false ∧ t1 < 1500 ∧
    -32768 ≤ t1 ∧ plausible t1 t2 →
    Gives (exec (.dieReading t1 t2) s) (fun t =>
      t.getS R.THM_DIE_T = t1 ∧ t.getS R.THM_DIE_MAX = max t1 (s.getS R.THM_DIE_MAX) ∧ t.on R.THM_STATUS_HOLD = false)) ∧
  -- DIE_READING
  (∀ (s : State) (t1 t2 : Int), s.asleepDeep = false ∧ s.on R.X_HELD = false ∧ s.on R.THM_STATUS_HOLD = false ∧ 1500 ≤ t1 ∧
    plausible t1 t2 →
    Gives (exec (.dieReading t1 t2) s) (fun t =>
      t.on R.THM_STATUS_HOLD ∧ t.on R.MODE_STATUS_THERM_ACTIVE ∧ t.bit R.THM_FAULT_DIE_SHUTDOWN 0 ∧ t.on
        R.MODE_STATUS_RAIL_DEMAND = false ∧ t.on R.AUX_STATUS_VAUX_ON = false ∧ t.portState 0 = (if s.portState 0 = 6 then 6
        else 0) ∧ t.portState 1 = (if s.portState 1 = 6 then 6 else 0) ∧ t.on R.Q_STATUS_HOLD ∧ t.get R.THM_SHUT_CNT = min
        (s.get R.THM_SHUT_CNT + 1) R.THM_SHUT_CNT.top)) ∧
  -- DIE_READING
  (∀ (s : State) (t1 t2 : Int), s.asleepDeep = false ∧ s.on R.X_HELD = false ∧ s.on R.THM_STATUS_HOLD ∧ t1 ≤ 1300 ∧ plausible
    t1 t2 ∧ s.stands R.THM_FAULT_DIE_IMPLAUSIBLE = false ∧ s.held = [] →
    Gives (exec (.dieReading t1 t2) s) (fun t =>
      t.on R.THM_STATUS_HOLD = false ∧ t.on R.MODE_STATUS_THERM_ACTIVE = false ∧ t.stands R.THM_FAULT_DIE_SHUTDOWN = false)) ∧
  -- JOURNAL_POWER_OFF
  (∀ (s : State), s.on R.THM_STATUS_HOLD ∧ s.program = none →
    Gives (exec (.journalPowerOff) s) (fun t =>
      t.get R.X_VPRE = (if s.get R.X_VPRE = 6 then 6 else 0) ∧ t.on R.AUX_STATUS_VPRE_ON = false ∧ t.on R.JNL_STATUS_DIE_ON =
        false)) ∧
  -- THERMISTOR_READING
  (∀ (s : State) (x : Fin 6) (k : Nat) (ref : Bool), s.thEnabled x ∧ s.on R.DEV_CLK_FAST_ON ∧ s.get R.X_TH_JUDGE x = 1 ∧
    s.tempOf x 2048 = some 250 ∧ k = 2048 ∧ ref = true →
    Gives (exec (.thermistorReading x k ref) s) (fun t =>
      t.getS R.X_TH_LAST x = 250 ∧ (x.val < 4 → t.getS R.THM_TBn_T x = 250) ∧ (4 ≤ x.val → t.getS R.THM_TSn_T (x - 4 : Nat) =
        250) ∧ t.get R.X_TH_BAD x = 0)) ∧
  -- FOLDBACK_UPDATE
  (∀ (s : State), s.on R.THM_STATUS_FB_HOLD = false →
    Gives (exec (.foldbackUpdate) s) (fun t =>
      t.get R.THM_FB_FACTOR = s.fLin % 2 ^ R.THM_FB_FACTOR.width ∧ t.on R.THM_STATUS_FB_ACTIVE = decide (s.fLin < 256))) ∧
  -- FB_HOLD_END
  (∀ (s : State) (n : Fin 2), s.get R.X_TH_JUDGE (4 + n) = 1 ∧ s.on R.THM_STATUS_FB_HOLD ∧ s.get R.X_FB_WAIT = 2 ^ n.val ∧
    s.getS R.X_TH_LAST (4 + n) < s.getS R.THM_TS_FB_START →
    Gives (exec (.fbHoldEnd n) s) (fun t =>
      t.on R.THM_STATUS_FB_HOLD = false ∧ t.get R.THM_FB_HOLD = 256 ∧ t.stands R.THM_FAULT_FB_HELD = false ∧ t.bit
        R.THM_STATUS_TS_EXCLUDED n = false)) ∧
  -- FB_CLEAR
  (∀ (s : State), s.on R.THM_STATUS_FB_HOLD →
    Gives (exec (.fbClear) s) (fun t =>
      t.on R.THM_STATUS_FB_HOLD = false ∧ t.get R.THM_FB_HOLD = 256 ∧ t.stands R.THM_FAULT_FB_HELD = false ∧ t.get R.X_FB_WAIT
        = 0))

/-- Self-test slices in service (R444, R449, R454). Model choices: log 18. -/
def Obligations.SelfTestSlices : Prop :=
  -- BIST_SLICE_START
  (∀ (s : State) (ahead : Fin 256), s.slicesRun ∧ s.on R.BIST_STATUS_RUNNING = false ∧ s.bistNext ahead ≠ none →
    Gives (exec (.bistSliceStart ahead) s) (fun t =>
      t.on R.BIST_STATUS_RUNNING ∧ s.bistNext ahead = some (t.get R.BIST_STATUS_PART) ∧ t.get R.X_BIST_SLICE < 64)) ∧
  -- BIST_SLICE_END
  (∀ (s : State) (match_ : Bool), s.on R.BIST_STATUS_RUNNING ∧ s.on R.X_BIST_MISS (s.get R.BIST_STATUS_PART) = false →
    Gives (exec (.bistSliceEnd match_) s) (fun t =>
      t.on R.BIST_STATUS_RUNNING = !match_ ∧ t.get R.BIST_Pp_PROG_LAST (s.get R.BIST_STATUS_PART) = (if match_ then 1 else 3)
        ∧ (match_ = false → t.on R.X_BIST_MISS (s.get R.BIST_STATUS_PART) ∧ t.get R.X_BIST_RETRY (s.get R.BIST_STATUS_PART) =
        s.get R.X_BIST_SLICE))) ∧
  -- BIST_SLICE_END
  (∀ (s : State) (match_ : Bool), s.on R.BIST_STATUS_RUNNING ∧ s.on R.X_BIST_MISS (s.get R.BIST_STATUS_PART) ∧ match_ = false
    →
    Gives (exec (.bistSliceEnd match_) s) (fun t =>
      t.on R.BIST_STATUS_RUNNING = false ∧ t.bit R.BIST_STATUS_SAFE (s.get R.BIST_STATUS_PART) ∧ t.bit R.BIST_FAULT_FAILED
        (s.get R.BIST_STATUS_PART)))

/-- Host requests that are refused change no register (R369, R370, R382, R389, R396, R397, R448). -/
def Obligations.HostRefusals : Prop :=
  -- OTP_PROGRAM
  (∀ (s : State) (port : PortId) (tag : Byte) (key : Fin 65536) (index : Fin 256) (value : Fin 65536), s.free port ∧ key ≠
    0x7C3E ∧ s.get R.MODE_STATUS_MODE = 0xA →
    Gives (exec (.otpProgram port tag key index value) s) (fun t =>
      t.replied port 0x16 tag [] ∧ t.fields = (s.heard port).fields)) ∧
  -- DEVICE_RESTART
  (∀ (s : State) (port : PortId) (tag : Byte) (key : Fin 65536), s.free port ∧ key ≠ 0xD1E5 →
    Gives (exec (.deviceRestart port tag key) s) (fun t =>
      t.replied port 0x16 tag [] ∧ t.fields = (s.heard port).fields)) ∧
  -- EQUALISE
  (∀ (s : State) (port : PortId) (tag : Byte) (key : Fin 65536), (s.free port ∧ key ≠ 0x5EA1 ∧ s.chem = 3 ∧ s.get
    R.MODE_STATUS_MODE = 6 ∧ (s.chg = 0xB ∨ s.chg = 0xC)) →
    Gives (exec (.equalise port tag key) s) (fun t =>
      t.replied port 0x16 tag [] ∧ t.fields = (s.heard port).fields)) ∧
  -- QUEUE_POP
  (∀ (s : State) (port : PortId) (tag : Byte) (q most : Fin 256), s.free port ∧ 16 ≤ q.val →
    Gives (exec (.queuePop port tag q most) s) (fun t =>
      t.replied port 0x15 tag [] ∧ t.fields = (s.heard port).fields)) ∧
  -- CFG_STAGE_WRITE
  (∀ (s : State) (port : PortId) (tag : Byte) (flags : Fin 256) (off : Fin 65536) (data : List Byte), s.free port ∧ 1 ≤
    data.length ∧ data.length ≤ 4088 ∧ Config.stagingSize < off.val + data.length →
    Gives (exec (.cfgStageWrite port tag flags off data) s) (fun t =>
      t.replied port 0x15 tag [] ∧ t.fields = (s.heard port).fields)) ∧
  -- SUSPEND
  (∀ (s : State) (port : PortId) (tag : Byte) (arg : Fin 65536), True ∧ s.answering port ∧ s.requests = [] ∧ s.safeState ∧
    s.on R.X_P0_ONLY = false ∧ s.on R.MODE_STATUS_THERM_ACTIVE = false →
    Gives (exec (.suspend port tag arg) s) (fun t =>
      t.replied port 0x17 tag [] ∧ t.fields = (s.heard port).fields)) ∧
  -- CFG_COMMIT
  (∀ (s : State) (port : PortId) (tag : Byte) (flags period : Fin 256) (key : Fin 65536) (version : Fin 4294967296), True ∧
    s.answering port ∧ s.requests = [] ∧ s.on R.MODE_STATUS_THERM_ACTIVE ∧ s.safeState = false ∧ s.on R.X_P0_ONLY = false →
    Gives (exec (.cfgCommit port tag flags period key version) s) (fun t =>
      t.replied port 0x17 tag [] ∧ t.fields = (s.heard port).fields))

/-- A step runs the command at the front of the queue on the state with the rest of it. Model choice: log 7. -/
def Obligations.StepFront : Prop :=
  ∀ (s : State) (c : Instr) (rest : List Instr), s.pending = c :: rest → step s = exec c { s with pending := rest }

/-- An idle step is one LPO tick (R40, R41, R42). Model choices: log 2, 26. -/
def Obligations.IdleStep : Prop :=
  ∀ s : State, s.pending = [] → ∃ t, step s = .next t ∧ t.pending = [] ∧
    ((s.asleepDeep || s.on R.X_HELD) = true → t = s) ∧
    ((s.asleepDeep || s.on R.X_HELD) = false →
      t.get R.X_TICKS = (s.get R.X_TICKS + 1) % 2 ^ 64 ∧
      t.get R.X_TIME_ACC = (s.get R.X_TIME_ACC + s.get R.X_TIME_RATE) % 16384000 ∧
      t.now = (s.now + (s.get R.X_TIME_ACC + s.get R.X_TIME_RATE) / 16384000) % 2 ^ 48)

/-- Every fault of the spec is a latch, a record and a response inside the state, so every command answers a next state (R11,
  R94). -/
def Obligations.EveryCommandAnswers : Prop :=
  ∀ (c : Instr) (s : State), ∃ t, exec c s = .next t

/-- The frame of every command, and of the tick: what the footprint leaves as before reads as before. -/
def Obligations.FrameOfCommands : Prop :=
  (∀ (c : Instr) (s t : State), exec c s = .next t →
    (∀ (r : Reg) (i : Nat), keeps (footOf c) (.key (r.key i)) = true → t.get r i = s.get r i) ∧
    (∀ k : Comp, keeps (footOf c) (.comp k) = true → k.same s t)) ∧
  (∀ (s t : State), s.pending = [] → step s = .next t →
    (∀ (r : Reg) (i : Nat), keeps Foot.tick (.key (r.key i)) = true → t.get r i = s.get r i) ∧
    (∀ k : Comp, keeps Foot.tick (.comp k) = true → k.same s t))

/-- The canonical form of the register file and of the staging buffer (R389) is kept by every step. -/
def Obligations.CanonicalKept : Prop :=
  ∀ (s t : State), s.wf = true → step s = .next t → t.wf = true

/-- The mode stays one of the twelve of R48, and so does the previous mode. -/
def Obligations.LegalModeKept : Prop :=
  ∀ (s t : State), s.modesLegal = true → step s = .next t → t.modesLegal = true

/-- No reply carries a status that R374 does not list. -/
def Obligations.StatusCodesKept : Prop :=
  ∀ (s t : State), s.statusesListed = true → step s = .next t → t.statusesListed = true

/-- The invariants hold after reset, and words of every block read their reset values. Model choices: log 4, 5. -/
def Obligations.ResetState : Prop :=
  State.reset.wf = true ∧ State.reset.modesLegal = true ∧ State.reset.statusesListed = true ∧ State.reset.pending = [] ∧
  (∀ p ∈ [(0x0002, 0), (0x0000, 30272), (0x0001, 12354), (0x000C, 8), (0x0101, 1), (0x0107, 7), (0x0108, 300), (0x0203, 50),
    (0x0204, 120), (0x0205, 10), (0x0302, 4691), (0x0303, 100), (0x0304, 2000), (0x0405, 20), (0x0406, 68), (0x0407, 10),
    (0x0504, 13), (0x0505, 128), (0x0506, 3600), (0x0602, 1200), (0x0604, 250), (0x0605, 4000), (0x0704, 1200), (0x0708, 10),
    (0x0709, 50), (0x0807, 65535), (0x080A, 64), (0x0821, 1), (0x0902, 79), (0x0907, 60), (0x0908, 10), (0x0A02, 3), (0x0A03,
    1013), (0x0A04, 600), (0x0D02, 101), (0x0D03, 30), (0x0D04, 100), (0x0E03, 3), (0x0E04, 41623), (0x0E0E, 10), (0x0F0A,
    900), (0x0F0B, 1100), (0x0F0C, 256)], State.reset.readWord p.1 = p.2)

/-- R49: nothing enters or leaves Ship except the Ship entry and exit sequences; a loss of supply starts the device over (R38). -/
def Obligations.ModeChangers : Prop :=
  (∀ (c : Instr) (s t : State), exec c s = .next t →
    (changesMode c = false → t.get R.MODE_STATUS_MODE = s.get R.MODE_STATUS_MODE) ∧
    (s.get R.MODE_STATUS_MODE ≠ 0 → t.get R.MODE_STATUS_MODE = 0 → c = .shipEntryComplete) ∧
    (s.get R.MODE_STATUS_MODE = 0 → t.get R.MODE_STATUS_MODE ≠ 0 →
      startsOver c = true ∨ ∃ b f k x y, c = .shipExit b f k x y)) ∧
  (∀ (s t : State), s.pending = [] → step s = .next t → t.get R.MODE_STATUS_MODE = s.get R.MODE_STATUS_MODE)

/-- R396: bits already 1 stay 1, and no bit returns to 0; R10: class OTP changes by OTP_PROGRAM alone. -/
def Obligations.OtpKept : Prop :=
  ∀ (c : Instr) (s t : State) (w : Fin 128), exec c s = .next t →
    (∀ b, (s.rawWord (0x1100 + w)).testBit b = true → (t.rawWord (0x1100 + w)).testBit b = true) ∧
    ((∀ f, c ≠ .otpProgramDone f) → t.rawWord (0x1100 + w) = s.rawWord (0x1100 + w))

/-- Device time never steps at a command (R41, R42), and the non-volatile parts change only where something is programmed or
  erased. -/
def Obligations.WhatFewCommandsChange : Prop :=
  ∀ (c : Instr) (s t : State), exec c s = .next t →
    t.pending = s.pending ∧ t.factoryBad = s.factoryBad ∧
    (startsOver c = false → t.now = s.now) ∧
    (writesCopies c = false → t.copies = s.copies) ∧
    (writesRing c = false → t.ring = s.ring) ∧
    (marksBad c = false → t.grownBad = s.grownBad ∧ t.table6 = s.table6 ∧ t.table7 = s.table7)

/-- R408, whole. The second clause is the host's write; the fall of VAO below the reset level is the beginning of a power-on reset
  (R38). -/
def Obligations.WatchdogLock : Prop :=
  (∀ s : State, Gives (exec .wdtLockSet s) (fun t => t.get R.WDT_LOCK = 1)) ∧
  (∀ (s : State) (port : PortId) (tag : Byte), s.free port →
    Gives (exec (.writeParam port tag 0x0E0D [1]) s) (fun t => t.replied port 0x00 tag [] ∧ t.get R.WDT_LOCK = 1) ∧
    Gives (exec (.writeParam port tag 0x0E0D [0]) s) (fun t =>
      t.replied port 0x00 tag [] ∧ t.fields = (s.heard port).fields ∧ t.get R.WDT_LOCK = s.get R.WDT_LOCK)) ∧
  (∀ (c : Instr) (s t : State), exec c s = .next t → startsOver c = false → s.get R.WDT_LOCK = 1 → t.get R.WDT_LOCK = 1) ∧
  (∀ (s t : State), s.pending = [] → step s = .next t → t.get R.WDT_LOCK = s.get R.WDT_LOCK) ∧
  (∀ (s : State) (run : StartRun) (k sys bats : Nat), Gives (exec (.powerOnReset run k sys bats) s) (fun t =>
    t.get R.WDT_LOCK = t.get R.WDT_OTP_LOCK_DEFAULT ∧ t.get R.WDT_OTP_LOCK_DEFAULT = s.get R.OTP_WDT_LOCK_DEFAULT))

/-- R401 and R402. An idle step is one tick (log 2). -/
def Obligations.WatchdogPeriods : Prop :=
  ∀ s : State, s.pending = [] → s.asleepDeep = false → s.on R.X_HELD = false → s.on R.WDT_STATUS_ENABLED = true →
    s.get R.MODE_STATUS_MODE ≠ 0xB → s.get R.WDT_SAFE_CAUSE = 0 → (s.get R.X_RESTART = 0 ∨ s.on R.X_RESTARTING = true) →
    let boot := s.get R.X_WDT_NEW = 2 ∧ s.on R.WDT_STATUS_INTERNAL = false
    let c := if s.on R.WDT_STATUS_INTERNAL then s.get R.WDT_CFG_INT_PERIOD
      else if boot then s.get R.WDT_CFG_BOOT_PERIOD else s.get R.WDT_CFG_PERIOD
    let p := 2 ^ (c + 18) / 1000
    let f := [(1, 8), (1, 4), (1, 2), (3, 4)].getD (s.get R.WDT_OTP_FRAC) (3, 4)
    ∃ t, step s = .next t ∧
      (s.get R.X_WDT_NEW ≠ 0 → t.get R.X_WDT_NEW = 0 ∧ t.get R.WDT_POS = 0 ∧ t.get R.X_WDT_CODE = c ∧
        t.get R.X_WDT_LEN = p ∧ t.get R.WDT_WINDOW_AT = if boot then 0 else (p * f.1 + f.2 - 1) / f.2) ∧
      (s.get R.X_WDT_NEW = 0 → s.get R.WDT_POS + 1 < s.get R.X_WDT_LEN → t.get R.WDT_POS = s.get R.WDT_POS + 1 ∧
        t.get R.X_WDT_LEN = s.get R.X_WDT_LEN ∧ t.get R.WDT_WINDOW_AT = s.get R.WDT_WINDOW_AT) ∧
      (s.get R.X_WDT_NEW = 0 → s.get R.X_WDT_LEN ≤ s.get R.WDT_POS + 1 →
        t.get R.WDT_LAST_KIND = if s.on R.WDT_STATUS_INTERNAL then 7 else 1) ∧
      (s.get R.X_WDT_NEW ≠ 0 ∨ s.get R.WDT_POS + 1 < s.get R.X_WDT_LEN →
        t.on R.WDT_STATUS_WINDOW_OPEN = decide (t.get R.WDT_WINDOW_AT ≤ t.get R.WDT_POS))

/-- R404, whole: the state between a valid service and the next tick is the one with X_WDT_NEW = 1. -/
def Obligations.ValidService : Prop :=
  (∀ s : State, s.monitored = true → s.asleepDeep = false → s.on R.X_HELD = false → s.pending = [] →
    s.get R.X_WDT_NEW = 0 → s.get R.WDT_WINDOW_AT ≤ s.get R.WDT_POS → s.get R.WDT_POS < s.get R.X_WDT_LEN →
    (∀ k : Fin 8, s.bit R.WDT_TASK_EN k → s.bit R.WDT_TASK_SEEN_SEEN k) →
    (s.on R.WDT_CFG_STRICT → s.get R.WDT_TASK_SEEN_DUP = 0) →
    ∃ t u, exec (.wdtKey 0xB7) s = .next t ∧ t.get R.WDT_TASK_SEEN_SEEN = 0 ∧ t.get R.WDT_TASK_SEEN_DUP = 0 ∧
      t.get R.WDT_LADDER_Y = 0 ∧ t.get R.WDT_LADDER_O = 0 ∧ step t = .next u ∧ u.get R.WDT_POS = 0 ∧
      u.get R.X_WDT_LEN = 2 ^ (t.get R.WDT_CFG_PERIOD + 18) / 1000) ∧
  (∀ s : State, s.monitored = true → s.expired = false →
    (s.get R.X_WDT_NEW = 1 ∨ (s.get R.X_WDT_NEW = 0 ∧ s.get R.WDT_POS < s.get R.WDT_WINDOW_AT)) →
    Gives (exec (.wdtKey 0xB7) s) (fun t => t.get R.WDT_LAST_KIND = 2)) ∧
  (∀ c f : Nat, c < 16 → 33 ≤ windowTick (periodTicks c) f)

/-- R45 with the table of blocks, as the list faultMap of bits and FAULT registers. -/
def Obligations.FaultSummary : Prop :=
  ∀ (s : State) (b : Nat), (s.readWord 0x0002).testBit b = true ↔
    ∃ p ∈ faultMap, p.1 = b ∧ ∃ a ∈ p.2, s.rawWord a ≠ 0

/-- R370, whole; longCrc is the long division. -/
def Obligations.PacketCrcChecks : Prop :=
  (∀ bs : List Byte, crc8 bs = longCrc bs) ∧
  longCrc [0x31, 0x32, 0x33, 0x34, 0x35, 0x36, 0x37, 0x38, 0x39] = 0xF4 ∧
  (∀ (s : State) (bytes : List Byte), s.twLive = true → s.requests = [] → bytes.length = field bytes 2 2 + 5 →
    bytes.length ≤ 4096 → Gives (exec (.twWriteRequest bytes) s) (fun t =>
      t.replied .tw 0x10 (BitVec.ofNat 8 (field bytes 1 1)) [] ↔
        longCrc (bytes.take (bytes.length - 1)) ≠ field bytes (bytes.length - 1) 1)) ∧
  (∀ (s : State) (bytes : List Byte), s.qbLive = true → s.requests = [] → bytes.length = field bytes 2 2 + 5 →
    bytes.length ≤ 4096 → Gives (exec (.writePacket bytes false true) s) (fun t =>
      t.replied .qb 0x10 (BitVec.ofNat 8 (field bytes 1 1)) [] ↔
        longCrc (bytes.take (bytes.length - 1)) ≠ field bytes (bytes.length - 1) 1)) ∧
  (∀ (status tag : Nat) (data : List Byte), data.length < 65536 →
    (frame status tag data).length = data.length + 5 ∧ field (frame status tag data) 2 2 = data.length ∧
    field (frame status tag data) (data.length + 4) 1 = longCrc ((frame status tag data).take (data.length + 4)))

/-- R373, its three rules; the further rules that it refers to are stated with their opcodes. requestOf gives the request of a
  host command. -/
def Obligations.ModeRefusals : Prop :=
  ∀ (c : Instr) (r : Request) (s : State), requestOf c = some r → s.answering r.port = true → s.requests = [] →
    lengthOk r.opcode r.params.length = true →
    ((s.safeState = true ∧ r.opcode ∉ [0x01, 0x02, 0x08, 0x7E]) ∨
      (s.on R.MODE_STATUS_THERM_ACTIVE = true ∧ r.opcode ∈ [0x42, 0x43, 0x44, 0x68]) ∨
      (r.opcode = 0x68 ∧ s.get R.MODE_STATUS_MODE ≠ 0xA) →
      Gives (exec c s) (fun t => (t.port r.port).reply.map Reply.bytes = some (frame 0x17 r.tag []) ∧
        t.fields = (s.heard r.port).fields)) ∧
    (s.safeState = true → r.opcode ∈ [0x01, 0x02, 0x08, 0x7E] → s.on R.X_P0_ONLY = false →
      Gives (exec c s) (fun t => (t.port r.port).reply.map Reply.bytes ≠ some (frame 0x17 r.tag [])))

/-- R376 and R371 for a refused read, and the undefined ranges of R462. -/
def Obligations.ReadRefusedWhole : Prop :=
  (∀ (s : State) (port : PortId) (tag : Byte) (addr : Fin 65536) (count : Fin 256), s.free port →
    ((count.val = 0 ∨ 64 < count.val) → Gives (exec (.readParam port tag addr count) s) (fun t =>
      t.replied port 0x15 tag (le 2 addr) ∧ t.fields = (s.heard port).fields)) ∧
    (∀ k, 1 ≤ count.val → count.val ≤ 64 → k < count.val → (∀ j, j < k → defined (addr.val + j) = true) →
      defined (addr.val + k) = false → Gives (exec (.readParam port tag addr count) s) (fun t =>
        t.replied port 0x13 tag (le 2 (addr.val + k)) ∧ t.fields = (s.heard port).fields))) ∧
  (∀ a : Nat, (0x1180 ≤ a ∧ a ≤ 0x3FFF) ∨ (0x5000 ≤ a ∧ a ≤ 0x5FFF) ∨ (0x7000 ≤ a ∧ a ≤ 0xFFFF) → defined a = false)
end

