-- ==== Sys2Proof/Machine/Pads.lean ====
section
/-! DEFINITION. What the device drives on its pads, and the JTAG TAP (R3, R346, R485, R486). The pads are a view of State: no
command acts on them but through the blocks that drive them. -/

namespace Sys2Proof.Machine

/-- The pads of R485 that the device drives, pulls or leaves open; inputs and ports by number. -/
inductive Pad where
  | inputGate (n : Fin 4) | phaseGate (n : Fin 6) | fetGate | vpreGate | sense | switchNode | probeSink | id (n : Fin 4)
  | thermistor | tbref | line (p : Fin 2) | lineReturn | scl | sda | alertn | hrstn | waken | addr | bmsok
  | qclk | qcsn | qio | vclk | vdio | valt | tck | tms | tdi | tdo
  deriving DecidableEq, Repr

/-- What the device does to a pad: sinks it, drives it high, leaves it at high impedance, pulls it up or down, does nothing to it
for want of supply, or leaves it to the block that it serves. -/
inductive Drive where
  | low | high | highZ | pullUp | pullDown | passive | block
  deriving DecidableEq, Repr

/-- Whether a pad is a gate output (R485, R486). -/
def Pad.isGate : Pad → Bool
  | .inputGate _ | .phaseGate _ | .fetGate | .vpreGate => true
  | _ => false

/-- The reset state of a pad (R485). [DEDUCED: log 117] -/
def Pad.atReset : Pad → Drive
  | .inputGate _ | .phaseGate _ | .fetGate | .vpreGate | .tbref | .line _ | .lineReturn | .hrstn => .low
  | .qio | .waken | .tms | .tdi => .pullUp
  | .bmsok | .tck => .pullDown
  | .sense | .switchNode | .probeSink | .id _ | .thermistor | .scl | .sda | .alertn | .addr | .qclk | .qcsn | .vclk | .vdio
  | .valt | .tdo => .highZ

/-- Whether the pads are in their reset state (R447, R485): below the reset level, held in reset, or with every block stopped. -/
def State.padsReset (s : State) : Bool := s.on R.X_DOWN || s.on R.X_HELD || s.get R.MODE_STATUS_MODE == 0

/-- What the device does to a pad (R36, R346, R365, R434, R447, R485, R486): below 1.5 V of VAO the gates are passive and nothing is
driven; QIO0 to QIO3 are driven only with VDDIO. [DEDUCED: log 117] -/
def State.pad (s : State) (p : Pad) : Drive :=
  if s.on R.X_PASSIVE then (if p.isGate then .passive else .highZ)
  else if p = .alertn then (if s.on R.HIF_STATUS_ALERTN_LOW then .low else .highZ)
  else if s.padsReset then p.atReset
  else
    match p with
    | .hrstn => if s.on R.HIF_STATUS_HRSTN_DRIVEN then .low else .highZ
    | .valt => if s.on R.RCL_STATUS then .low else .highZ
    | .inputGate n => if s.on R.X_GA n then .high else .low
    | .line q => if s.portState q = 0 ∨ s.portState q = 5 ∨ s.portState q = 6 then .low else .block
    | .tbref => if s.on R.DEV_CLK_FAST_ON then .high else .low
    | .qio => if s.on R.HIF_STATUS_VDDIO_OK then .block else .pullUp
    | .phaseGate _ | .fetGate | .vpreGate | .switchNode | .probeSink | .id _ | .scl | .sda | .vdio => .block
    | .alertn | .sense | .thermistor | .lineReturn | .waken | .addr | .bmsok | .qclk | .qcsn | .vclk | .tck | .tms | .tdi | .tdo =>
      p.atReset

/-! ### The TAP (R3, R486) -/

/-- The state of the TAP after one TCK cycle: 0 Test-Logic-Reset, 1 Run-Test/Idle, 2 to 8 the data register's column from Select
to Update, 9 to 15 the instruction register's. [PRESUMED: log 115] -/
def tapNext (t : Nat) (tms : Bool) : Nat :=
  match t, tms with
  | 0, true => 0
  | 0, false => 1
  | 1, true => 2
  | 1, false => 1
  | 2, true => 9
  | 2, false => 3
  | 3, true => 5
  | 3, false => 4
  | 4, true => 5
  | 4, false => 4
  | 5, true => 8
  | 5, false => 6
  | 6, true => 7
  | 6, false => 6
  | 7, true => 8
  | 7, false => 4
  | 8, true => 2
  | 8, false => 1
  | 9, true => 0
  | 9, false => 10
  | 10, true => 12
  | 10, false => 11
  | 11, true => 12
  | 11, false => 11
  | 12, true => 15
  | 12, false => 13
  | 13, true => 14
  | 13, false => 13
  | 14, true => 15
  | 14, false => 11
  | 15, true => 2
  | 15, false => 1
  | _, _ => 0

/-- One TCK cycle with a level of TMS (R486): JTAG works only while VDDIO is at least 1.5 V, and acts on nothing but the TAP and the
boundary scan (R3). No command of the table clocks TCK. [DESIGN CHOICE: log 116] -/
def State.tckCycle (s : State) (tms : Bool) : State :=
  if s.on R.HIF_STATUS_VDDIO_OK then s.set R.X_TAP (tapNext (s.get R.X_TAP) tms) else s

end Sys2Proof.Machine
end

