-- ==== Sys2Proof/Laws/Pads.lean ====
section
/-! SUPPORT. Laws of the pads and of the TAP (R447, R485, R486). -/

namespace Sys2Proof.Machine

/-- Five TCK cycles with TMS high reset the TAP from every state (R486). -/
theorem tap_reset (t : Fin 16) :
    tapNext (tapNext (tapNext (tapNext (tapNext t true) true) true) true) true = 0 := by
  revert t; decide

/-- Every gate pad is low in the reset state (R485). -/
theorem gate_low_at_reset (p : Pad) (h : p.isGate = true) : p.atReset = .low := by
  cases p <;> simp_all [Pad.isGate, Pad.atReset]

/-- Held in reset every gate pad and HRSTN are low while VAO is at 1.5 V or above (R447). -/
theorem held_pads_low (s : State) (p : Pad) (hp : s.on R.X_PASSIVE = false) (h : s.on R.X_HELD = true)
    (hg : p.isGate = true ∨ p = .hrstn) : s.pad p = .low := by
  have hr : s.padsReset = true := by simp [State.padsReset, h]
  cases p <;> simp_all [State.pad, Pad.isGate, Pad.atReset]

end Sys2Proof.Machine
end

