-- ==== Sys2Proof/Laws/Same.lean ====
section
/-! SUPPORT. Frames of the operations that everything is written over: reading back a register file, and what an update leaves
as before. -/

namespace Sys2Proof.Machine

/-! ### The register file -/

theorem lookKey_putKey_ne {k k' : Nat} (v : Nat) (f : FieldFile) (h : k' ≠ k) : lookKey k' (putKey k v f) = lookKey k' f := by
  induction f with
  | nil => simp [putKey, lookKey, Ne.symm h]
  | cons x t ih =>
    obtain ⟨a, b⟩ := x
    simp only [putKey]
    split
    · simp [lookKey, Ne.symm h]
    · split
      · subst_vars; simp [lookKey, Ne.symm h]
      · simp [lookKey, ih]

theorem lookKey_putKey (k v : Nat) (f : FieldFile) : lookKey k (putKey k v f) = some v := by
  induction f with
  | nil => simp [putKey, lookKey]
  | cons x t ih =>
    obtain ⟨a, b⟩ := x
    simp only [putKey]
    split
    · simp [lookKey]
    · split
      · simp [lookKey]
      · rename_i h1 h2
        simp [lookKey, Ne.symm h2, ih]

theorem lookKey_dropKey_ne {k k' : Nat} (f : FieldFile) (h : k' ≠ k) : lookKey k' (dropKey k f) = lookKey k' f := by
  induction f with
  | nil => rfl
  | cons x t ih =>
    obtain ⟨a, b⟩ := x
    simp only [dropKey]
    split
    · subst_vars; simp [lookKey, Ne.symm h, ih]
    · simp [lookKey, ih]

theorem lookKey_dropKey (k : Nat) (f : FieldFile) : lookKey k (dropKey k f) = none := by
  induction f with
  | nil => rfl
  | cons x t ih =>
    obtain ⟨a, b⟩ := x
    simp only [dropKey]
    split
    · exact ih
    · simp_all [lookKey]

theorem lookKey_writeField_ne {k : Nat} (f : FieldFile) (r : Reg) (i v : Nat) (h : k ≠ r.key i) :
    lookKey k (writeField f r i v) = lookKey k f := by
  unfold writeField
  split
  · exact lookKey_dropKey_ne _ h
  · exact lookKey_putKey_ne _ _ h

theorem risingFrom_weak {k k' : Nat} {f : FieldFile} (h : k' ≤ k) (hf : risingFrom (some k) f = true) :
    risingFrom (some k') f = true := by
  cases f with
  | nil => rfl
  | cons x t =>
    simp only [risingFrom, Bool.and_eq_true, decide_eq_true_eq] at hf ⊢
    exact ⟨Nat.lt_of_le_of_lt h hf.1, hf.2⟩

theorem risingFrom_none {k : Nat} {f : FieldFile} (hf : risingFrom (some k) f = true) : risingFrom none f = true := by
  cases f with
  | nil => rfl
  | cons x t => simp only [risingFrom, Bool.and_eq_true] at hf ⊢; exact hf.2

theorem risingFrom_cons {o : Option Nat} {x : Nat × Nat} {t : FieldFile} (h : risingFrom o (x :: t) = true) :
    risingFrom (some x.1) t = true := by
  cases o <;> simp_all [risingFrom]

theorem risingFrom_putKey {o : Option Nat} {k v : Nat} {f : FieldFile} (ho : ∀ a, o = some a → a < k)
    (hf : risingFrom o f = true) : risingFrom o (putKey k v f) = true := by
  induction f generalizing o with
  | nil => cases o <;> simp_all [putKey, risingFrom]
  | cons x t ih =>
    obtain ⟨a, b⟩ := x
    have hc := risingFrom_cons hf
    simp only [putKey]
    split
    · cases o <;> simp_all [risingFrom]
    · split
      · subst_vars; cases o <;> simp_all [risingFrom]
      · have := ih (o := some a) (by intro _ h; cases h; omega) hc
        cases o <;> simp_all [risingFrom]

theorem risingFrom_sublist {o : Option Nat} {f g : FieldFile} (hs : g.Sublist f) (hf : risingFrom o f = true) :
    risingFrom o g = true := by
  induction hs generalizing o with
  | slnil => rfl
  | cons x _ ih =>
    have hc := risingFrom_cons hf
    cases o with
    | none => exact risingFrom_none (ih hc)
    | some k =>
      refine risingFrom_weak ?_ (ih hc)
      simp only [risingFrom, Bool.and_eq_true, decide_eq_true_eq] at hf
      exact Nat.le_of_lt hf.1
  | cons_cons x _ ih =>
    have := ih (risingFrom_cons hf)
    cases o <;> simp_all [risingFrom]

theorem dropKey_sublist (k : Nat) (f : FieldFile) : (dropKey k f).Sublist f := by
  induction f with
  | nil => exact List.Sublist.slnil
  | cons x t ih =>
    simp only [dropKey]
    split
    · exact ih.cons x
    · exact ih.cons_cons x

theorem wf_writeField {f : FieldFile} (r : Reg) (i v : Nat) (h : FieldFile.wf f = true) :
    FieldFile.wf (writeField f r i v) = true := by
  unfold writeField FieldFile.wf
  split
  · exact risingFrom_sublist (dropKey_sublist _ _) h
  · exact risingFrom_putKey (by intro _ h; cases h) h

/-- No index of a field has a key that the field is off. -/
theorem Reg.off_ne {r : Reg} {k : Nat} (h : r.off k = true) (i : Nat) : k ≠ r.key i := by
  rintro rfl
  simp only [Reg.off, Bool.and_eq_true, Bool.or_eq_true, bne_iff_ne, decide_eq_true_eq] at h
  obtain ⟨h0, h⟩ := h
  simp only [Reg.key] at h
  have hlt : i % r.count < r.count := Nat.mod_lt _ (Nat.pos_of_ne_zero h0)
  simp only [Nat.add_sub_cancel, Nat.mul_mod_left, Nat.mul_div_cancel _ (show 0 < 16 by decide), Nat.add_sub_cancel_left] at h
  rcases h with (h | h) | ((h | h) | h)
  · omega
  · exact h rfl
  · omega
  · exact h rfl
  · rcases Nat.eq_zero_or_pos r.stride with hs | hs
    · rw [hs] at h; simp at h; omega
    · rw [Nat.mul_div_cancel _ hs] at h; omega

theorem lookKey_filter {f : Nat → Bool} {k : Nat} (hk : f k = true) (l : FieldFile) :
    lookKey k (l.filter (fun p => f p.1)) = lookKey k l := by
  induction l with
  | nil => rfl
  | cons x t ih =>
    obtain ⟨a, b⟩ := x
    rw [List.filter_cons]
    by_cases h : a = k
    · subst h; simp [hk, lookKey]
    · split <;> simp [lookKey, h, ih]

/-! ### Words and scopes -/

/-- A field of a parameter word begins in the low 16 bits of its address and has four words at most. -/
theorem blockRegs_small (a : Nat) : ∀ r ∈ blockRegs a, r.lo < 16 ∧ r.words ≤ 4 := by
  unfold blockRegs
  repeat' split
  all_goals decide

theorem blockRegs_all (a : Nat) : ∀ r ∈ blockRegs a, r ∈ allRegs := by
  intro r hr
  unfold blockRegs at hr
  unfold allRegs
  repeat' split at hr
  all_goals (simp only [List.mem_append]; tauto)

/-- A field of a word of a scope lies in the scope. -/
theorem Scope.has_field {z : Scope} {a : Nat} {x : Reg × Nat × Nat} (hx : x ∈ fieldsAt a) (ha : z.word a = true) :
    z.has (x.1.key x.2.1) = true := by
  simp only [fieldsAt, List.mem_filterMap, Option.map_eq_some_iff] at hx
  obtain ⟨r, hr, ⟨i, w⟩, hhit, rfl⟩ := hx
  obtain ⟨hlo, hw⟩ := blockRegs_small a r hr
  have hv : r.words ≤ 1 ∨ r ∈ wideRegs := by
    by_cases h : 16 < r.width
    · exact Or.inr (List.mem_filter.2 ⟨blockRegs_all a r hr, by simpa using h⟩)
    · left; simp only [Reg.words]; omega
  simp only [Reg.hit] at hhit
  split at hhit
  · cases hhit
  split at hhit
  · rename_i hb hc
    cases hhit
    simp only [Bool.and_eq_true, decide_eq_true_eq] at hc
    have hkey : r.key ((a - r.base) / r.stride) / 16 + (a - r.base) % r.stride = a := by
      simp only [Reg.key, Nat.mod_eq_of_lt hc.1]
      have := Nat.div_add_mod (a - r.base) r.stride
      rw [Nat.mul_comm] at this
      omega
    have hn : near z.word (r.key ((a - r.base) / r.stride)) = true := by
      simp only [near, Bool.or_eq_true, Bool.and_eq_true, List.any_eq_true]
      rcases hv with hv | hv
      · left
        rw [show r.key ((a - r.base) / r.stride) / 16 = a by omega]
        exact ha
      · right
        refine ⟨⟨r, hv, ?_⟩, _, List.mem_range.2 (Nat.lt_of_lt_of_le hc.2 hw), by rw [hkey]; exact ha⟩
        cases ho : r.off (r.key ((a - r.base) / r.stride)) with
        | false => rfl
        | true => exact absurd rfl (Reg.off_ne ho _)
    cases z <;> first | (simp [Scope.word] at ha; done) | exact hn | simp [Scope.has, hn]
  · cases hhit

theorem stagedFrom_compress {o : Option Nat} {k : Nat} {l : List Byte} (ho : ∀ a, o = some a → a < k) :
    stagedFrom o (compress k l) = true := by
  induction l generalizing o k with
  | nil => cases o <;> rfl
  | cons b t ih =>
    simp only [compress]
    split
    · exact ih (fun a h => Nat.lt_succ_of_lt (ho a h))
    · rename_i hb
      have := ih (o := some k) (k := k + 1) (by intro a h; cases h; omega)
      cases o <;> simp_all [stagedFrom]

/-- The staging buffer rebuilt from its bytes is in canonical form. -/
theorem stagingWf_compress (l : List Byte) : stagingWf (compress 0 l) = true :=
  stagedFrom_compress (by intro a h; cases h)

/-! ### What is as before -/

@[simp] theorem keeps_nil (p : Part) : keeps [] p = true := rfl
@[simp] theorem keeps_cons (w : Touch) (l : List Touch) (p : Part) : keeps (w :: l) p = (w.off p && keeps l p) := rfl
@[simp] theorem keeps_append (l m : List Touch) (p : Part) : keeps (l ++ m) p = (keeps l p && keeps m p) := by
  simp [keeps]

@[simp] theorem keeps_touches (rs : List Reg) (cs : List Comp) (ms : List (List Touch)) (p : Part) :
    keeps (touches rs cs ms) p =
      (rs.all (fun r => (Touch.reg r).off p) && (cs.all (fun c => (Touch.comp c).off p) && ms.all (fun l => keeps l p))) := by
  simp [keeps, touches, List.all_flatten, Function.comp_def]

namespace Part

variable {p : Part} {s t u : State}

theorem same_refl : p.same s s := by
  rcases p with k | c | _ | _
  · rfl
  · cases c <;> rfl
  · exact id
  · exact id

theorem same_trans (h1 : p.same s t) (h2 : p.same t u) : p.same s u := by
  rcases p with k | c | _ | _
  · exact Eq.trans h2 h1
  · cases c <;> exact Eq.trans h2 h1
  · exact fun h => h2 (h1 h)
  · exact fun h => h2 (h1 h)

theorem same_ite {c : Prop} [Decidable c] {a b : State} (ha : p.same s a) (hb : p.same s b) :
    p.same s (if c then a else b) := by
  split <;> assumption

theorem same_ite_fst {α : Type} {c : Prop} [Decidable c] {a b : State × α} (ha : p.same s a.1) (hb : p.same s b.1) :
    p.same s (if c then a else b).1 := by
  split <;> assumption

theorem same_foldl {α : Type} {f : State → α → State} {l : List α} (hu : p.same s u)
    (hf : ∀ v x, p.same s v → p.same s (f v x)) : p.same s (l.foldl f u) := by
  induction l generalizing u with
  | nil => exact hu
  | cons x t ih => exact ih (hf _ _ hu)

theorem same_foldl_mem {α : Type} {f : State → α → State} {l : List α} (hu : p.same s u)
    (hf : ∀ v, ∀ x ∈ l, p.same s v → p.same s (f v x)) : p.same s (l.foldl f u) := by
  induction l generalizing u with
  | nil => exact hu
  | cons x t ih =>
    exact ih (hf _ x (List.mem_cons_self ..) hu) (fun v y hy => hf v y (List.mem_cons_of_mem _ hy))

theorem same_iff {c : Bool} {f : State → State} (hu : p.same s u) (hf : ∀ v, p.same s v → p.same s (f v)) :
    p.same s (u.iff c f) := by
  unfold State.iff
  split
  · exact hf _ hu
  · exact hu

theorem same_each {n : Nat} {f : Nat → State → State} (hu : p.same s u) (hf : ∀ i v, p.same s v → p.same s (f i v)) :
    p.same s (u.each n f) := same_foldl hu (fun v i => hf i v)

theorem same_fields {f : FieldFile} (hk : ∀ k, p = .key k → lookKey k f = lookKey k u.fields)
    (ho : p = .fileOrder → FieldFile.wf u.fields = true → FieldFile.wf f = true) (hu : p.same s u) :
    p.same s { u with fields := f } := by
  refine same_trans hu ?_
  rcases p with k | c | _ | _
  · exact hk k rfl
  · cases c <;> rfl
  · exact ho rfl
  · exact id

theorem same_set {r : Reg} {v i : Nat} (hu : p.same s u) (h : (Touch.reg r).off p = true) : p.same s (u.set r v i) :=
  same_fields (fun k e => lookKey_writeField_ne _ _ _ _ (by subst e; exact Reg.off_ne h i)) (fun _ => wf_writeField r i v) hu

theorem same_set' {r : Reg} {v i : Nat} (hu : p.same s u) (h : ∀ k, p = .key k → k ≠ r.key i) : p.same s (u.set r v i) :=
  same_fields (fun k e => lookKey_writeField_ne _ _ _ _ (h k e)) (fun _ => wf_writeField r i v) hu

theorem same_flag {r : Reg} {b : Bool} {i : Nat} (hu : p.same s u) (h : (Touch.reg r).off p = true) :
    p.same s (u.flag r b i) := same_set hu h

theorem same_setS {r : Reg} {x : Int} {i : Nat} (hu : p.same s u) (h : (Touch.reg r).off p = true) :
    p.same s (u.setS r x i) := same_set hu h

theorem same_setBit {r : Reg} {b i : Nat} {v : Bool} (hu : p.same s u) (h : (Touch.reg r).off p = true) :
    p.same s (u.setBit r b v i) := same_set hu h

theorem same_add {r : Reg} {n i : Nat} (hu : p.same s u) (h : (Touch.reg r).off p = true) : p.same s (u.add r n i) :=
  same_set hu h

theorem same_inc {r : Reg} {i : Nat} (hu : p.same s u) (h : (Touch.reg r).off p = true) : p.same s (u.inc r i) :=
  same_set hu h

theorem same_clear {r : Reg} {i : Nat} (hu : p.same s u) (h : (Touch.reg r).off p = true) : p.same s (u.clear r i) :=
  same_fields (fun k e => lookKey_dropKey_ne _ (by subst e; exact Reg.off_ne h i))
    (fun _ => risingFrom_sublist (dropKey_sublist _ _)) hu

theorem same_clears {l : List Reg} {i : Nat} (hu : p.same s u) (h : l.all (fun r => (Touch.reg r).off p) = true) :
    p.same s (l.foldl (fun t r => t.clear r i) u) := by
  induction l generalizing u with
  | nil => exact hu
  | cons r l ih =>
    rw [List.all_cons, Bool.and_eq_true] at h
    exact ih (same_clear hu h.1) h.2

theorem same_keepFields {f : Nat → Bool} (hu : p.same s u) (h : ∀ k, p = .key k → f k = true) : p.same s (u.keepFields f) :=
  same_fields (fun k e => lookKey_filter (h k e) _) (fun _ => risingFrom_sublist List.filter_sublist) hu

theorem scope_restart (h : (Touch.within .restart).off p = true) (k : Nat) (e : p = .key k) : keptAtRestart k = true := by
  subst e
  simpa [Touch.off, Scope.has] using h

theorem scope_cold (h : (Touch.within .cold).off p = true) (k : Nat) (e : p = .key k) :
    (clsOfKey k == .otp || clsOfKey k == .nv) = true := by
  subst e
  simpa [Touch.off, Scope.has] using h

/-- A write of a word of a scope changes no field outside the scope. -/
theorem same_putWord (z : Scope) {a v : Nat} (hu : p.same s u) (h : (Touch.within z).off p = true) (ha : z.word a = true) :
    p.same s (u.putWord a v) := by
  unfold State.putWord
  suffices ∀ l : List (Reg × Nat × Nat), (∀ x ∈ l, x ∈ fieldsAt a) → ∀ v', p.same s v' → p.same s (l.foldl (fun t p =>
      if p.1.width ≤ 16 then t.set p.1 (v / 2 ^ p.1.lo % 2 ^ p.1.width) p.2.1
      else t.set p.1 (t.get p.1 p.2.1 - t.get p.1 p.2.1 / 2 ^ (16 * p.2.2) % 65536 * 2 ^ (16 * p.2.2) +
        v % 65536 * 2 ^ (16 * p.2.2)) p.2.1) v') from this _ (fun _ h => h) _ hu
  intro l hl
  induction l with
  | nil => exact fun _ h => h
  | cons x t ih =>
    intro w hw
    refine ih (fun y hy => hl y (List.mem_cons_of_mem _ hy)) _ ?_
    have hx : ∀ k, p = .key k → k ≠ x.1.key x.2.1 := by
      rintro k rfl rfl
      have := Scope.has_field (hl x (List.mem_cons_self ..)) ha
      simp [Touch.off, this] at h
    refine same_ite ?_ ?_ <;> exact same_set' hw hx

theorem same_ite_state {c : Prop} [Decidable c] {a b : Answer} (ha : p.same s a.state) (hb : p.same s b.state) :
    p.same s (if c then a else b).state := by
  split <;> assumption

theorem same_answers {x : State × Nat} (h : p.same s x.1) : p.same s (State.answers x).state := h

/-- An update of components alone. -/
theorem same_all {t : State} (hf : t.fields = u.fields) (hu : p.same s u)
    (hs : p = .stageOrder → stagingWf u.staging = true → stagingWf t.staging = true)
    (h : ∀ c, (Touch.comp c).off p = true ∨ c.same u t) : p.same s t := by
  refine same_trans hu ?_
  rcases p with k | c | _ | _
  · exact congrArg (lookKey k) hf
  · rcases h c with h | h
    · simp [Touch.off] at h
    · exact h
  · exact fun hw => hf ▸ hw
  · exact hs rfl

theorem same_with_slots {x} (hu : p.same s u) (h : (Touch.comp .slots).off p = true) : p.same s { u with slots := x } :=
  same_all (u := u) (t := { u with slots := x }) rfl hu (fun _ => id) (fun c => by cases c <;> first | exact Or.inr rfl | exact Or.inl h)

theorem same_with_held {x} (hu : p.same s u) (h : (Touch.comp .held).off p = true) : p.same s { u with held := x } :=
  same_all (u := u) (t := { u with held := x }) rfl hu (fun _ => id) (fun c => by cases c <;> first | exact Or.inr rfl | exact Or.inl h)

theorem same_with_latched {x} (hu : p.same s u) (h : (Touch.comp .latched).off p = true) : p.same s { u with latched := x } :=
  same_all (u := u) (t := { u with latched := x }) rfl hu (fun _ => id) (fun c => by cases c <;> first | exact Or.inr rfl | exact Or.inl h)

theorem same_with_ring {x} (hu : p.same s u) (h : (Touch.comp .ring).off p = true) : p.same s { u with ring := x } :=
  same_all (u := u) (t := { u with ring := x }) rfl hu (fun _ => id) (fun c => by cases c <;> first | exact Or.inr rfl | exact Or.inl h)

theorem same_with_ahead {x} (hu : p.same s u) (h : (Touch.comp .ahead).off p = true) : p.same s { u with ahead := x } :=
  same_all (u := u) (t := { u with ahead := x }) rfl hu (fun _ => id) (fun c => by cases c <;> first | exact Or.inr rfl | exact Or.inl h)

theorem same_with_grownBad {x} (hu : p.same s u) (h : (Touch.comp .grownBad).off p = true) : p.same s { u with grownBad := x } :=
  same_all (u := u) (t := { u with grownBad := x }) rfl hu (fun _ => id) (fun c => by cases c <;> first | exact Or.inr rfl | exact Or.inl h)

theorem same_with_table6 {x} (hu : p.same s u) (h : (Touch.comp .table6).off p = true) : p.same s { u with table6 := x } :=
  same_all (u := u) (t := { u with table6 := x }) rfl hu (fun _ => id) (fun c => by cases c <;> first | exact Or.inr rfl | exact Or.inl h)

theorem same_with_table7 {x} (hu : p.same s u) (h : (Touch.comp .table7).off p = true) : p.same s { u with table7 := x } :=
  same_all (u := u) (t := { u with table7 := x }) rfl hu (fun _ => id) (fun c => by cases c <;> first | exact Or.inr rfl | exact Or.inl h)

theorem same_with_retained {x} (hu : p.same s u) (h : (Touch.comp .retained).off p = true) : p.same s { u with retained := x } :=
  same_all (u := u) (t := { u with retained := x }) rfl hu (fun _ => id) (fun c => by cases c <;> first | exact Or.inr rfl | exact Or.inl h)

theorem same_with_retainedOld {x} (hu : p.same s u) (h : (Touch.comp .retainedOld).off p = true) : p.same s { u with retainedOld := x } :=
  same_all (u := u) (t := { u with retainedOld := x }) rfl hu (fun _ => id) (fun c => by cases c <;> first | exact Or.inr rfl | exact Or.inl h)

theorem same_with_program {x} (hu : p.same s u) (h : (Touch.comp .program).off p = true) : p.same s { u with program := x } :=
  same_all (u := u) (t := { u with program := x }) rfl hu (fun _ => id) (fun c => by cases c <;> first | exact Or.inr rfl | exact Or.inl h)

theorem same_with_erase {x} (hu : p.same s u) (h : (Touch.comp .erase).off p = true) : p.same s { u with erase := x } :=
  same_all (u := u) (t := { u with erase := x }) rfl hu (fun _ => id) (fun c => by cases c <;> first | exact Or.inr rfl | exact Or.inl h)

theorem same_with_copies {x} (hu : p.same s u) (h : (Touch.comp .copies).off p = true) : p.same s { u with copies := x } :=
  same_all (u := u) (t := { u with copies := x }) rfl hu (fun _ => id) (fun c => by cases c <;> first | exact Or.inr rfl | exact Or.inl h)

theorem same_with_storeOps {x} (hu : p.same s u) (h : (Touch.comp .storeOps).off p = true) : p.same s { u with storeOps := x } :=
  same_all (u := u) (t := { u with storeOps := x }) rfl hu (fun _ => id) (fun c => by cases c <;> first | exact Or.inr rfl | exact Or.inl h)

theorem same_with_loaded {x} (hu : p.same s u) (h : (Touch.comp .loaded).off p = true) : p.same s { u with loaded := x } :=
  same_all (u := u) (t := { u with loaded := x }) rfl hu (fun _ => id) (fun c => by cases c <;> first | exact Or.inr rfl | exact Or.inl h)

theorem same_with_target {x} (hu : p.same s u) (h : (Touch.comp .target).off p = true) : p.same s { u with target := x } :=
  same_all (u := u) (t := { u with target := x }) rfl hu (fun _ => id) (fun c => by cases c <;> first | exact Or.inr rfl | exact Or.inl h)

theorem same_with_staging {x : List (Nat × Byte)} (hu : p.same s u) (h : (Touch.comp .staging).off p = true)
    (hs : stagingWf u.staging = true → stagingWf x = true) : p.same s { u with staging := x } :=
  same_all (u := u) (t := { u with staging := x }) rfl hu (fun _ => hs) (fun c => by cases c <;> first | exact Or.inr rfl | exact Or.inl h)

theorem same_with_tw {x} (hu : p.same s u) (h : (Touch.comp .tw).off p = true) : p.same s { u with tw := x } :=
  same_all (u := u) (t := { u with tw := x }) rfl hu (fun _ => id) (fun c => by cases c <;> first | exact Or.inr rfl | exact Or.inl h)

theorem same_with_qb {x} (hu : p.same s u) (h : (Touch.comp .qb).off p = true) : p.same s { u with qb := x } :=
  same_all (u := u) (t := { u with qb := x }) rfl hu (fun _ => id) (fun c => by cases c <;> first | exact Or.inr rfl | exact Or.inl h)

theorem same_with_driven {x} (hu : p.same s u) (h : (Touch.comp .driven).off p = true) : p.same s { u with driven := x } :=
  same_all (u := u) (t := { u with driven := x }) rfl hu (fun _ => id) (fun c => by cases c <;> first | exact Or.inr rfl | exact Or.inl h)

theorem same_with_requests {x} (hu : p.same s u) (h : (Touch.comp .requests).off p = true) : p.same s { u with requests := x } :=
  same_all (u := u) (t := { u with requests := x }) rfl hu (fun _ => id) (fun c => by cases c <;> first | exact Or.inr rfl | exact Or.inl h)

theorem same_with_retained_retainedOld {x0 x1} (hu : p.same s u) (h0 : (Touch.comp .retained).off p = true) (h1 : (Touch.comp .retainedOld).off p = true) :
    p.same s { u with retained := x0, retainedOld := x1 } :=
  same_all (u := u) (t := { u with retained := x0, retainedOld := x1 }) rfl hu (fun _ => id)
    (fun c => by cases c <;> first | exact Or.inr rfl | exact Or.inl h0 | exact Or.inl h1)

theorem same_with_loaded_target {x0 x1} (hu : p.same s u) (h0 : (Touch.comp .loaded).off p = true) (h1 : (Touch.comp .target).off p = true) :
    p.same s { u with loaded := x0, target := x1 } :=
  same_all (u := u) (t := { u with loaded := x0, target := x1 }) rfl hu (fun _ => id)
    (fun c => by cases c <;> first | exact Or.inr rfl | exact Or.inl h0 | exact Or.inl h1)

theorem same_with_storeOps_target {x0 x1} (hu : p.same s u) (h0 : (Touch.comp .storeOps).off p = true) (h1 : (Touch.comp .target).off p = true) :
    p.same s { u with storeOps := x0, target := x1 } :=
  same_all (u := u) (t := { u with storeOps := x0, target := x1 }) rfl hu (fun _ => id)
    (fun c => by cases c <;> first | exact Or.inr rfl | exact Or.inl h0 | exact Or.inl h1)

theorem same_with_slots_program {x0 x1} (hu : p.same s u) (h0 : (Touch.comp .slots).off p = true) (h1 : (Touch.comp .program).off p = true) :
    p.same s { u with slots := x0, program := x1 } :=
  same_all (u := u) (t := { u with slots := x0, program := x1 }) rfl hu (fun _ => id)
    (fun c => by cases c <;> first | exact Or.inr rfl | exact Or.inl h0 | exact Or.inl h1)

theorem same_with_ring_ahead {x0 x1} (hu : p.same s u) (h0 : (Touch.comp .ring).off p = true) (h1 : (Touch.comp .ahead).off p = true) :
    p.same s { u with ring := x0, ahead := x1 } :=
  same_all (u := u) (t := { u with ring := x0, ahead := x1 }) rfl hu (fun _ => id)
    (fun c => by cases c <;> first | exact Or.inr rfl | exact Or.inl h0 | exact Or.inl h1)

theorem same_with_table6_table7 {x0 x1} (hu : p.same s u) (h0 : (Touch.comp .table6).off p = true) (h1 : (Touch.comp .table7).off p = true) :
    p.same s { u with table6 := x0, table7 := x1 } :=
  same_all (u := u) (t := { u with table6 := x0, table7 := x1 }) rfl hu (fun _ => id)
    (fun c => by cases c <;> first | exact Or.inr rfl | exact Or.inl h0 | exact Or.inl h1)

theorem same_with_grownBad_table6_table7 {x0 x1 x2} (hu : p.same s u) (h0 : (Touch.comp .grownBad).off p = true)
    (h1 : (Touch.comp .table6).off p = true) (h2 : (Touch.comp .table7).off p = true) :
    p.same s { u with grownBad := x0, table6 := x1, table7 := x2 } :=
  same_all (u := u) (t := { u with grownBad := x0, table6 := x1, table7 := x2 }) rfl hu (fun _ => id)
    (fun c => by cases c <;> first | exact Or.inr rfl | exact Or.inl h0 | exact Or.inl h1 | exact Or.inl h2)

theorem off_ite {c : Prop} [Decidable c] {a b : Reg} (ha : (Touch.reg a).off p = true) (hb : (Touch.reg b).off p = true) :
    (Touch.reg (if c then a else b)).off p = true := by
  split <;> assumption

/-- A field that no index of which is touched reads as before. -/
theorem same_get {r : Reg} {i : Nat} (h : (Part.key (r.key i)).same s t) : t.get r i = s.get r i := by
  unfold State.get
  rw [show lookKey (r.key i) t.fields = lookKey (r.key i) s.fields from h]

end Part

end Sys2Proof.Machine
end

