-- ==== Sys2Proof/Laws/SameOps.lean ====
section
/-! SUPPORT. What the operations of Machine/Ops.lean leave as before: one lemma for each. -/

set_option linter.all false

namespace Sys2Proof.Machine.Part

theorem same_abortSlice {p : Part} {s u : State} {a1 : Nat} (hu : p.same s u) (h : keeps Foot.abortSlice p = true) :
    p.same s (State.abortSlice u a1) := by
  simp [Foot.abortSlice, and_assoc] at h
  obtain ⟨h1, h2, h3⟩ := h
  unfold State.abortSlice
  repeat' first
    | with_reducible assumption | intro _ | with_reducible exact same_refl | with_reducible apply same_set
    | with_reducible apply same_inc | with_reducible apply same_flag | with_reducible apply same_ite | dsimp only | split

theorem same_suspendErase {p : Part} {s u : State}  (hu : p.same s u) (h : keeps Foot.suspendErase p = true) :
    p.same s (State.suspendErase u) := by
  simp [Foot.suspendErase, and_assoc] at h
  obtain ⟨h1, h2⟩ := h
  unfold State.suspendErase
  repeat' first
    | with_reducible assumption | intro _ | with_reducible exact same_refl | with_reducible apply same_flag | dsimp only
    | split | with_reducible apply same_with_erase

theorem same_evict {p : Part} {s u : State} {a1 : Nat} (hu : p.same s u) (h : keeps Foot.evict p = true) :
    p.same s (State.evict u a1) := by
  simp [Foot.evict, and_assoc] at h
  obtain ⟨h1, h2⟩ := h
  unfold State.evict
  repeat' first
    | with_reducible assumption | intro _ | with_reducible exact same_refl | with_reducible apply same_inc
    | with_reducible apply same_ite | dsimp only | split | with_reducible apply same_with_slots

theorem same_saveRetained {p : Part} {s u : State}  (hu : p.same s u) (h : keeps Foot.saveRetained p = true) :
    p.same s (State.saveRetained u) := by
  simp [Foot.saveRetained, and_assoc] at h
  obtain ⟨h1, h2⟩ := h
  unfold State.saveRetained
  repeat' first
    | with_reducible assumption | intro _ | with_reducible exact same_refl | dsimp only
    | with_reducible apply same_with_retained | with_reducible apply same_with_retainedOld
    | with_reducible apply same_with_retained_retainedOld

theorem same_notify {p : Part} {s u : State} {a1 : Bool} (hu : p.same s u) (h : keeps Foot.notify p = true) :
    p.same s (State.notify u a1) := by
  simp [Foot.notify, and_assoc] at h
  obtain ⟨h1, h2, h3⟩ := h
  unfold State.notify
  repeat' first
    | with_reducible assumption | intro _ | with_reducible exact same_refl | with_reducible apply same_iff
    | with_reducible apply same_set | with_reducible apply same_flag | with_reducible apply same_ite
    | with_reducible apply same_ite_fst | with_reducible apply same_ite_state | with_reducible apply off_ite | dsimp only
    | split

theorem same_cause {p : Part} {s u : State} {a1 : Nat} (hu : p.same s u) (h : keeps Foot.cause p = true) :
    p.same s (State.cause u a1) := by
  simp [Foot.cause, and_assoc] at h
  obtain ⟨h1, h2⟩ := h
  unfold State.cause
  repeat' first
    | with_reducible assumption | intro _ | with_reducible exact same_refl | with_reducible apply same_setBit
    | with_reducible apply same_abortSlice | dsimp only

theorem same_startGrace {p : Part} {s u : State}  (hu : p.same s u) (h : keeps Foot.startGrace p = true) :
    p.same s (State.startGrace u) := by
  simp [Foot.startGrace, and_assoc] at h
  obtain ⟨h1, h2⟩ := h
  unfold State.startGrace
  repeat' first
    | with_reducible assumption | intro _ | with_reducible exact same_refl | with_reducible apply same_set
    | with_reducible apply same_flag | with_reducible apply same_ite | dsimp only | split

theorem same_dieFollow {p : Part} {s u : State}  (hu : p.same s u) (h : keeps Foot.dieFollow p = true) :
    p.same s (State.dieFollow u) := by
  simp [Foot.dieFollow, and_assoc] at h
  unfold State.dieFollow
  repeat' first
    | with_reducible assumption | intro _ | with_reducible exact same_refl | with_reducible apply same_flag | dsimp only
    | split

theorem same_startVpre {p : Part} {s u : State}  (hu : p.same s u) (h : keeps Foot.startVpre p = true) :
    p.same s (State.startVpre u) := by
  simp [Foot.startVpre, and_assoc] at h
  obtain ⟨h1, h2, h3⟩ := h
  unfold State.startVpre
  repeat' first
    | with_reducible assumption | intro _ | with_reducible exact same_refl | with_reducible apply same_set
    | with_reducible apply same_dieFollow | with_reducible apply same_abortSlice | with_reducible apply same_ite
    | dsimp only | split

theorem same_followAlert {p : Part} {s u : State}  (hu : p.same s u) (h : keeps Foot.followAlert p = true) :
    p.same s (State.followAlert u) := by
  simp [Foot.followAlert, and_assoc] at h
  obtain ⟨h1, h2⟩ := h
  unfold State.followAlert
  repeat' first
    | with_reducible assumption | intro _ | with_reducible exact same_refl | with_reducible apply same_flag
    | with_reducible apply same_notify | with_reducible apply same_ite | with_reducible apply off_ite | dsimp only | split

theorem same_accept {p : Part} {s u : State} {a1 : Nat} {a2 : Rec} (hu : p.same s u) (h : keeps Foot.accept p = true) :
    p.same s (State.accept u a1 a2) := by
  simp [Foot.accept, and_assoc] at h
  obtain ⟨h1, h2, h3, h4, h5, h6, h7, h8, h9, h10, h11⟩ := h
  unfold State.accept
  repeat' first
    | with_reducible assumption | intro _ | with_reducible exact same_refl | with_reducible apply same_set
    | with_reducible apply same_iff | with_reducible apply same_setBit | with_reducible apply same_suspendErase
    | with_reducible apply same_evict | with_reducible apply same_saveRetained | with_reducible apply same_notify
    | with_reducible apply same_cause | with_reducible apply same_startGrace | with_reducible apply same_startVpre
    | with_reducible apply same_followAlert | dsimp only | split | with_reducible apply same_with_slots

theorem same_refuse {p : Part} {s u : State} {a1 : Nat} {a2 : Nat} {a3 : Nat} (hu : p.same s u) (h : keeps Foot.refuse p = true) :
    p.same s (State.refuse u a1 a2 a3) := by
  simp [Foot.refuse, and_assoc] at h
  obtain ⟨h1, h2, h3, h4, h5, h6, h7, h8, h9, h10⟩ := h
  unfold State.refuse
  repeat' first
    | with_reducible assumption | intro _ | with_reducible exact same_refl | with_reducible apply same_inc
    | with_reducible apply same_iff | with_reducible apply same_set | with_reducible apply same_setBit
    | with_reducible apply same_followAlert | with_reducible apply same_ite | with_reducible apply same_ite_fst
    | with_reducible apply same_ite_state | dsimp only | split | with_reducible apply same_with_latched

theorem same_admitTo {p : Part} {s u : State} {a1 : Nat} {a2 : Rec} (hu : p.same s u) (h : keeps Foot.admitTo p = true) :
    p.same s (State.admitTo u a1 a2).1 := by
  simp [Foot.admitTo, and_assoc] at h
  obtain ⟨h1, h2, h3⟩ := h
  unfold State.admitTo
  repeat' first
    | with_reducible assumption | intro _ | with_reducible exact same_refl | with_reducible apply same_abortSlice
    | with_reducible apply same_accept | with_reducible apply same_refuse | dsimp only | split

theorem same_clearGather {p : Part} {s u : State} {a1 : Nat} (hu : p.same s u) (h : keeps Foot.clearGather p = true) :
    p.same s (State.clearGather u a1) := by
  simp [Foot.clearGather, and_assoc] at h
  obtain ⟨h1, h2, h3, h4, h5, h6⟩ := h
  unfold State.clearGather
  repeat' first
    | with_reducible assumption | intro _ | with_reducible exact same_refl | with_reducible apply same_clear | dsimp only

theorem same_offerN {p : Part} {s u : State} {a0 : Nat} {a2 : Rec} (hu : p.same s u) (h : keeps Foot.offerN p = true) :
    p.same s (State.offerN a0 u a2).1 := by
  simp only [Foot.offerN, keeps_touches, keeps_cons, keeps_nil, List.all_cons, List.all_nil, Bool.and_eq_true, Bool.and_true,
    Bool.true_and, and_assoc] at h
  obtain ⟨h1, h2, h3⟩ := h
  induction a0 generalizing u a2 with
  | zero => exact same_admitTo hu h2
  | succ n ih =>
    unfold State.offerN
    dsimp only
    have ha := same_admitTo (a1 := u.route a2) (a2 := u.summaryRec (u.route a2)) hu h2
    split
    · exact same_admitTo hu h2
    · split
      · exact ih (same_foldl (same_with_latched (same_clearGather ha h3) h1) (fun v x hv => ih hv))
      · exact same_admitTo ha h2

theorem same_offerB {p : Part} {s u : State} {a1 : Rec} (hu : p.same s u) (h : keeps Foot.offerB p = true) :
    p.same s (State.offerB u a1).1 := by
  simp [Foot.offerB, and_assoc] at h
  obtain ⟨h1, h2⟩ := h
  unfold State.offerB
  repeat' first
    | with_reducible assumption | intro _ | with_reducible exact same_refl | with_reducible apply same_offerN
    | with_reducible apply same_ite | with_reducible apply same_ite_fst | with_reducible apply same_ite_state | dsimp only
    | split | with_reducible apply same_with_held

theorem same_offer {p : Part} {s u : State} {a1 : Rec} (hu : p.same s u) (h : keeps Foot.offer p = true) :
    p.same s (State.offer u a1) := by
  simp [Foot.offer, and_assoc] at h
  unfold State.offer
  repeat' first
    | with_reducible assumption | intro _ | with_reducible exact same_refl | with_reducible apply same_offerB | dsimp only

theorem same_record {p : Part} {s u : State} {a1 : Nat} {a2 : Nat} {a3 : List Byte} (hu : p.same s u) (h : keeps Foot.record p = true) :
    p.same s (State.record u a1 a2 a3) := by
  simp [Foot.record, and_assoc] at h
  unfold State.record
  repeat' first
    | with_reducible assumption | intro _ | with_reducible exact same_refl | with_reducible apply same_offer | dsimp only

theorem same_latchFrom {p : Part} {s u : State} {a1 : Nat} {a2 : Reg} {a3 : optParam Nat 0} (hu : p.same s u) (h : keeps (Foot.latchFrom a2) p = true) :
    p.same s (State.latchFrom u a1 a2 a3) := by
  simp [Foot.latchFrom, and_assoc] at h
  obtain ⟨h1, h2, h3, h4⟩ := h
  unfold State.latchFrom
  repeat' first
    | with_reducible assumption | intro _ | with_reducible exact same_refl | with_reducible apply same_setBit
    | with_reducible apply same_followAlert | with_reducible apply same_offer | with_reducible apply same_ite
    | with_reducible apply off_ite | dsimp only | split | with_reducible apply same_with_held

theorem same_latch {p : Part} {s u : State} {a1 : Reg} {a2 : optParam Nat 0} (hu : p.same s u) (h : keeps (Foot.latch a1) p = true) :
    p.same s (State.latch u a1 a2) := by
  simp [Foot.latch, and_assoc] at h
  unfold State.latch
  repeat' first
    | with_reducible assumption | intro _ | with_reducible exact same_refl | with_reducible apply same_latchFrom
    | dsimp only

theorem same_editRetained {p : Part} {s u : State} {a1 : Retained → Retained} (hu : p.same s u) (h : keeps Foot.editRetained p = true) :
    p.same s (State.editRetained u a1) := by
  simp [Foot.editRetained, and_assoc] at h
  obtain ⟨h1, h2⟩ := h
  unfold State.editRetained
  repeat' first
    | with_reducible assumption | intro _ | with_reducible exact same_refl | dsimp only
    | with_reducible apply same_with_retained | with_reducible apply same_with_retainedOld
    | with_reducible apply same_with_retained_retainedOld

theorem same_stand {p : Part} {s u : State} {a1 : Reg} {a2 : optParam Nat 0} (hu : p.same s u) (h : keeps Foot.stand p = true) :
    p.same s (State.stand u a1 a2) := by
  simp [Foot.stand, and_assoc] at h
  unfold State.stand
  repeat' first
    | with_reducible assumption | intro _ | with_reducible exact same_refl | with_reducible apply same_setBit | dsimp only

theorem same_latchStand {p : Part} {s u : State} {a1 : Reg} {a2 : optParam Nat 0} (hu : p.same s u) (h : keeps (Foot.latchStand a1) p = true) :
    p.same s (State.latchStand u a1 a2) := by
  simp [Foot.latchStand, and_assoc] at h
  obtain ⟨h1, h2⟩ := h
  unfold State.latchStand
  repeat' first
    | with_reducible assumption | intro _ | with_reducible exact same_refl | with_reducible apply same_latch
    | with_reducible apply same_stand | dsimp only

theorem same_ended {p : Part} {s u : State} {a1 : Reg} {a2 : optParam Nat 0} (hu : p.same s u) (h : keeps Foot.ended p = true) :
    p.same s (State.ended u a1 a2) := by
  simp [Foot.ended, and_assoc] at h
  unfold State.ended
  repeat' first
    | with_reducible assumption | intro _ | with_reducible exact same_refl | with_reducible apply same_setBit | dsimp only

theorem same_stopGrace {p : Part} {s u : State}  (hu : p.same s u) (h : keeps Foot.stopGrace p = true) :
    p.same s (State.stopGrace u) := by
  simp [Foot.stopGrace, and_assoc] at h
  obtain ⟨h1, h2⟩ := h
  unfold State.stopGrace
  repeat' first
    | with_reducible assumption | intro _ | with_reducible exact same_refl | with_reducible apply same_clear
    | with_reducible apply same_flag | dsimp only

end Sys2Proof.Machine.Part
end

