-- ==== Sys2Proof/Laws/SameGroups.lean ====
section
/-! SUPPORT. What the operations of Machine/Groups.lean leave as before: one lemma for each. -/

set_option linter.all false

namespace Sys2Proof.Machine.Part

theorem same_toOnDelay {p : Part} {s u : State} {a1 : Nat} (hu : p.same s u) (h : keeps Foot.toOnDelay p = true) :
    p.same s (State.toOnDelay u a1) := by
  simp [Foot.toOnDelay, and_assoc] at h
  obtain ⟨h1, h2⟩ := h
  unfold State.toOnDelay
  repeat' first
    | with_reducible assumption | intro _ | with_reducible exact same_refl | with_reducible apply same_flag
    | with_reducible apply same_set | dsimp only

theorem same_endP3Window {p : Part} {s u : State}  (hu : p.same s u) (h : keeps Foot.endP3Window p = true) :
    p.same s (State.endP3Window u) := by
  simp [Foot.endP3Window, and_assoc] at h
  obtain ⟨h1, h2, h3⟩ := h
  unfold State.endP3Window
  repeat' first
    | with_reducible assumption | intro _ | with_reducible exact same_refl | with_reducible apply same_each
    | with_reducible apply same_flag | with_reducible apply same_abortSlice | with_reducible apply same_toOnDelay
    | with_reducible apply same_ite | with_reducible apply same_ite_fst | with_reducible apply same_ite_state | dsimp only
    | split

theorem same_needP3 {p : Part} {s u : State}  (hu : p.same s u) (h : keeps Foot.needP3 p = true) :
    p.same s (State.needP3 u) := by
  simp [Foot.needP3, and_assoc] at h
  obtain ⟨h1, h2⟩ := h
  unfold State.needP3
  repeat' first
    | with_reducible assumption | intro _ | with_reducible exact same_refl | with_reducible apply same_endP3Window
    | with_reducible apply same_abortSlice | dsimp only

theorem same_updateLimit {p : Part} {s u : State} {a1 : Nat} (hu : p.same s u) (h : keeps Foot.updateLimit p = true) :
    p.same s (State.updateLimit u a1) := by
  simp [Foot.updateLimit, and_assoc] at h
  unfold State.updateLimit
  repeat' first
    | with_reducible assumption | intro _ | with_reducible exact same_refl | with_reducible apply same_set | dsimp only

theorem same_setInstate {p : Part} {s u : State} {a1 : Nat} {a2 : Nat} (hu : p.same s u) (h : keeps Foot.setInstate p = true) :
    p.same s (State.setInstate u a1 a2) := by
  simp [Foot.setInstate, and_assoc] at h
  obtain ⟨h1, h2, h3⟩ := h
  unfold State.setInstate
  repeat' first
    | with_reducible assumption | intro _ | with_reducible exact same_refl | with_reducible apply same_setBit
    | with_reducible apply same_set | with_reducible apply same_needP3 | dsimp only

theorem same_sourceEvent {p : Part} {s u : State} {a1 : Nat} {a2 : Nat} (hu : p.same s u) (h : keeps Foot.sourceEvent p = true) :
    p.same s (State.sourceEvent u a1 a2) := by
  simp [Foot.sourceEvent, and_assoc] at h
  unfold State.sourceEvent
  repeat' first
    | with_reducible assumption | intro _ | with_reducible exact same_refl | with_reducible apply same_record
    | with_reducible apply same_ite | with_reducible apply off_ite | dsimp only | split

theorem same_settleGroup {p : Part} {s u : State} {a1 : Nat} (hu : p.same s u) (h : keeps Foot.settleGroup p = true) :
    p.same s (State.settleGroup u a1) := by
  simp [Foot.settleGroup, and_assoc] at h
  obtain ⟨h1, h2⟩ := h
  unfold State.settleGroup
  repeat' first
    | with_reducible assumption | intro _ | with_reducible exact same_refl | with_reducible apply same_flag
    | with_reducible apply same_set | with_reducible apply same_ite | with_reducible apply off_ite | dsimp only | split

theorem same_noCeiling {p : Part} {s u : State} {a1 : Nat} (hu : p.same s u) (h : keeps Foot.noCeiling p = true) :
    p.same s (State.noCeiling u a1) := by
  simp [Foot.noCeiling, and_assoc] at h
  obtain ⟨h1, h2⟩ := h
  unfold State.noCeiling
  repeat' first
    | with_reducible assumption | intro _ | with_reducible exact same_refl | with_reducible apply same_set | dsimp only

theorem same_trackIdle {p : Part} {s u : State} {a1 : Nat} (hu : p.same s u) (h : keeps Foot.trackIdle p = true) :
    p.same s (State.trackIdle u a1) := by
  simp [Foot.trackIdle, and_assoc] at h
  obtain ⟨h1, h2, h3, h4, h5, h6, h7⟩ := h
  unfold State.trackIdle
  repeat' first
    | with_reducible assumption | intro _ | with_reducible exact same_refl | with_reducible apply same_setBit
    | with_reducible apply same_flag | with_reducible apply same_clear | with_reducible apply same_set | dsimp only

theorem same_endClass {p : Part} {s u : State} {a1 : Nat} (hu : p.same s u) (h : keeps Foot.endClass p = true) :
    p.same s (State.endClass u a1) := by
  simp [Foot.endClass, and_assoc] at h
  obtain ⟨h1, h2, h3, h4, h5, h6, h7, h8, h9⟩ := h
  unfold State.endClass
  repeat' first
    | with_reducible assumption | intro _ | with_reducible exact same_refl | with_reducible apply same_flag
    | with_reducible apply same_set | with_reducible apply same_setBit | with_reducible apply same_iff
    | with_reducible apply same_trackIdle | with_reducible apply same_updateLimit | with_reducible apply same_startGrace
    | with_reducible apply same_cause | with_reducible apply same_abortSlice | with_reducible apply same_ite
    | with_reducible apply same_ite_fst | with_reducible apply same_ite_state | dsimp only | split

theorem same_gates {p : Part} {s u : State} {a1 : Nat} {a2 : Bool} (hu : p.same s u) (h : keeps Foot.gates p = true) :
    p.same s (State.gates u a1 a2) := by
  simp [Foot.gates, and_assoc] at h
  obtain ⟨h1, h2, h3⟩ := h
  unfold State.gates
  repeat' first
    | with_reducible assumption | intro _ | with_reducible exact same_refl | with_reducible apply same_flag
    | with_reducible apply same_setBit | dsimp only

theorem same_gatesAfterRamp {p : Part} {s u : State} {a1 : Nat} (hu : p.same s u) (h : keeps Foot.gatesAfterRamp p = true) :
    p.same s (State.gatesAfterRamp u a1) := by
  simp [Foot.gatesAfterRamp, and_assoc] at h
  obtain ⟨h1, h2⟩ := h
  unfold State.gatesAfterRamp
  repeat' first
    | with_reducible assumption | intro _ | with_reducible exact same_refl | with_reducible apply same_flag
    | with_reducible apply same_gates | with_reducible apply same_ite | dsimp only | split

theorem same_restartClass {p : Part} {s u : State} {a1 : Nat} (hu : p.same s u) (h : keeps Foot.restartClass p = true) :
    p.same s (State.restartClass u a1) := by
  simp [Foot.restartClass, and_assoc] at h
  obtain ⟨h1, h2, h3, h4, h5, h6, h7, h8, h9, h10, h11, h12, h13, h14, h15⟩ := h
  unfold State.restartClass
  repeat' first
    | with_reducible assumption | intro _ | with_reducible exact same_refl | with_reducible apply same_flag
    | with_reducible apply same_clear | with_reducible apply same_set | with_reducible apply same_gatesAfterRamp
    | with_reducible apply same_setInstate | with_reducible apply same_ite | with_reducible apply off_ite | dsimp only
    | split

theorem same_unmapInput {p : Part} {s u : State} {a1 : Nat} (hu : p.same s u) (h : keeps Foot.unmapInput p = true) :
    p.same s (State.unmapInput u a1) := by
  simp [Foot.unmapInput, and_assoc] at h
  obtain ⟨h1, h2, h3, h4, h5, h6, h7⟩ := h
  unfold State.unmapInput
  repeat' first
    | with_reducible assumption | intro _ | with_reducible exact same_refl | with_reducible apply same_flag
    | with_reducible apply same_iff | with_reducible apply same_each | with_reducible apply same_sourceEvent
    | with_reducible apply same_noCeiling | with_reducible apply same_endClass | with_reducible apply same_setInstate
    | with_reducible apply same_gates | with_reducible apply same_restartClass | with_reducible apply same_ite
    | with_reducible apply same_ite_fst | with_reducible apply same_ite_state | dsimp only | split

theorem same_inputsFollow {p : Part} {s u : State}  (hu : p.same s u) (h : keeps Foot.inputsFollow p = true) :
    p.same s (State.inputsFollow u) := by
  simp [Foot.inputsFollow, and_assoc] at h
  obtain ⟨h1, h2, h3⟩ := h
  unfold State.inputsFollow
  repeat' first
    | with_reducible assumption | intro _ | with_reducible exact same_refl | with_reducible apply same_each
    | with_reducible apply same_unmapInput | with_reducible apply same_setInstate | with_reducible apply same_restartClass
    | with_reducible apply same_ite | with_reducible apply same_ite_fst | with_reducible apply same_ite_state
    | with_reducible apply off_ite | dsimp only | split

theorem same_applyMap {p : Part} {s u : State}  (hu : p.same s u) (h : keeps Foot.applyMap p = true) :
    p.same s (State.applyMap u) := by
  simp [Foot.applyMap, and_assoc] at h
  obtain ⟨h1, h2, h3, h4, h5, h6⟩ := h
  unfold State.applyMap
  repeat' first
    | with_reducible assumption | intro _ | with_reducible exact same_refl | with_reducible apply same_each
    | with_reducible apply same_set | with_reducible apply same_flag | with_reducible apply same_settleGroup
    | with_reducible apply same_inputsFollow | with_reducible apply same_ite | with_reducible apply same_ite_fst
    | with_reducible apply same_ite_state | dsimp only | split

theorem same_mapCheck {p : Part} {s u : State}  (hu : p.same s u) (h : keeps Foot.mapCheck p = true) :
    p.same s (State.mapCheck u) := by
  simp [Foot.mapCheck, and_assoc] at h
  unfold State.mapCheck
  repeat' first
    | with_reducible assumption | intro _ | with_reducible exact same_refl | with_reducible apply same_applyMap
    | with_reducible apply same_ite | dsimp only | split

theorem same_switchPhase {p : Part} {s u : State} {a1 : Nat} {a2 : Bool} (hu : p.same s u) (h : keeps Foot.switchPhase p = true) :
    p.same s (State.switchPhase u a1 a2) := by
  simp [Foot.switchPhase, and_assoc] at h
  obtain ⟨h1, h2⟩ := h
  unfold State.switchPhase
  repeat' first
    | with_reducible assumption | intro _ | with_reducible exact same_refl | with_reducible apply same_setBit
    | with_reducible apply same_flag | dsimp only

theorem same_respace {p : Part} {s u : State} {a1 : Nat} (hu : p.same s u) (h : keeps Foot.respace p = true) :
    p.same s (State.respace u a1) := by
  simp [Foot.respace, and_assoc] at h
  unfold State.respace
  repeat' first
    | with_reducible assumption | intro _ | with_reducible exact same_refl | with_reducible apply same_set
    | with_reducible apply same_foldl | dsimp only

theorem same_countActive {p : Part} {s u : State} {a1 : Nat} (hu : p.same s u) (h : keeps Foot.countActive p = true) :
    p.same s (State.countActive u a1) := by
  simp [Foot.countActive, and_assoc] at h
  obtain ⟨h1, h2⟩ := h
  unfold State.countActive
  repeat' first
    | with_reducible assumption | intro _ | with_reducible exact same_refl | with_reducible apply same_set
    | with_reducible apply same_respace | dsimp only

theorem same_phasePeaks {p : Part} {s u : State} {a1 : Nat} (hu : p.same s u) (h : keeps Foot.phasePeaks p = true) :
    p.same s (State.phasePeaks u a1) := by
  simp [Foot.phasePeaks, and_assoc] at h
  unfold State.phasePeaks
  repeat' first
    | with_reducible assumption | intro _ | with_reducible exact same_refl | with_reducible apply same_set
    | with_reducible apply same_ite | with_reducible apply same_foldl | with_reducible apply same_ite_fst
    | with_reducible apply same_ite_state | with_reducible apply off_ite | dsimp only | split

theorem same_idlePhases {p : Part} {s u : State} {a1 : Nat} (hu : p.same s u) (h : keeps Foot.idlePhases p = true) :
    p.same s (State.idlePhases u a1) := by
  simp [Foot.idlePhases, and_assoc] at h
  obtain ⟨h1, h2, h3, h4, h5, h6, h7, h8, h9, h10, h11, h12, h13, h14, h15, h16, h17, h18⟩ := h
  unfold State.idlePhases
  repeat' first
    | with_reducible assumption | intro _ | with_reducible exact same_refl | with_reducible apply same_flag
    | with_reducible apply same_set | with_reducible apply same_switchPhase | with_reducible apply same_countActive
    | with_reducible apply same_phasePeaks | with_reducible apply same_gates | with_reducible apply same_ite
    | with_reducible apply same_foldl | with_reducible apply same_ite_fst | with_reducible apply same_ite_state | dsimp only
    | split

theorem same_stopGroup {p : Part} {s u : State} {a1 : Nat} (hu : p.same s u) (h : keeps Foot.stopGroup p = true) :
    p.same s (State.stopGroup u a1) := by
  simp [Foot.stopGroup, and_assoc] at h
  obtain ⟨h1, h2, h3, h4⟩ := h
  unfold State.stopGroup
  repeat' first
    | with_reducible assumption | intro _ | with_reducible exact same_refl | with_reducible apply same_flag
    | with_reducible apply same_mapCheck | with_reducible apply same_settleGroup | with_reducible apply same_idlePhases
    | dsimp only

theorem same_endTrip {p : Part} {s u : State} {a1 : Nat} {a2 : Nat} (hu : p.same s u) (h : keeps Foot.endTrip p = true) :
    p.same s (State.endTrip u a1 a2) := by
  simp [Foot.endTrip, and_assoc] at h
  obtain ⟨h1, h2, h3⟩ := h
  unfold State.endTrip
  repeat' first
    | with_reducible assumption | intro _ | with_reducible exact same_refl | with_reducible apply same_setBit
    | with_reducible apply same_stopGroup | with_reducible apply same_toOnDelay | with_reducible apply same_ite | dsimp only
    | split

theorem same_zeroCeiling {p : Part} {s u : State} {a1 : Nat} (hu : p.same s u) (h : keeps Foot.zeroCeiling p = true) :
    p.same s (State.zeroCeiling u a1) := by
  simp [Foot.zeroCeiling, and_assoc] at h
  obtain ⟨h1, h2⟩ := h
  unfold State.zeroCeiling
  repeat' first
    | with_reducible assumption | intro _ | with_reducible exact same_refl | with_reducible apply same_noCeiling
    | with_reducible apply same_stopGroup | with_reducible apply same_ite | dsimp only | split

theorem same_rampDown {p : Part} {s u : State} {a1 : Nat} (hu : p.same s u) (h : keeps Foot.rampDown p = true) :
    p.same s (State.rampDown u a1) := by
  simp [Foot.rampDown, and_assoc] at h
  obtain ⟨h1, h2⟩ := h
  unfold State.rampDown
  repeat' first
    | with_reducible assumption | intro _ | with_reducible exact same_refl | with_reducible apply same_set
    | with_reducible apply same_zeroCeiling | with_reducible apply same_ite | dsimp only | split

theorem same_clearClass {p : Part} {s u : State} {a1 : Nat} (hu : p.same s u) (h : keeps Foot.clearClass p = true) :
    p.same s (State.clearClass u a1) := by
  simp [Foot.clearClass, and_assoc] at h
  obtain ⟨h1, h2, h3⟩ := h
  unfold State.clearClass
  repeat' first
    | with_reducible assumption | intro _ | with_reducible exact same_refl | with_reducible apply same_endTrip
    | with_reducible apply same_rampDown | with_reducible apply same_endClass | dsimp only

theorem same_slopeFollow {p : Part} {s u : State} {a1 : Nat} (hu : p.same s u) (h : keeps Foot.slopeFollow p = true) :
    p.same s (State.slopeFollow u a1) := by
  simp [Foot.slopeFollow, and_assoc] at h
  unfold State.slopeFollow
  repeat' first
    | with_reducible assumption | intro _ | with_reducible exact same_refl | with_reducible apply same_set
    | with_reducible apply same_ite | with_reducible apply off_ite | dsimp only | split

theorem same_regionSet {p : Part} {s u : State} {a1 : Nat} {a2 : Nat} (hu : p.same s u) (h : keeps Foot.regionSet p = true) :
    p.same s (State.regionSet u a1 a2) := by
  simp [Foot.regionSet, and_assoc] at h
  obtain ⟨h1, h2⟩ := h
  unfold State.regionSet
  repeat' first
    | with_reducible assumption | intro _ | with_reducible exact same_refl | with_reducible apply same_set
    | with_reducible apply same_ite | with_reducible apply off_ite | dsimp only | split

theorem same_regionStart {p : Part} {s u : State} {a1 : Nat} (hu : p.same s u) (h : keeps Foot.regionStart p = true) :
    p.same s (State.regionStart u a1) := by
  simp [Foot.regionStart, and_assoc] at h
  obtain ⟨h1, h2⟩ := h
  unfold State.regionStart
  repeat' first
    | with_reducible assumption | intro _ | with_reducible exact same_refl | with_reducible apply same_slopeFollow
    | with_reducible apply same_regionSet | dsimp only

theorem same_switchOn {p : Part} {s u : State} {a1 : Nat} (hu : p.same s u) (h : keeps Foot.switchOn p = true) :
    p.same s (State.switchOn u a1) := by
  simp [Foot.switchOn, and_assoc] at h
  obtain ⟨h1, h2, h3, h4, h5, h6, h7, h8, h9⟩ := h
  unfold State.switchOn
  repeat' first
    | with_reducible assumption | intro _ | with_reducible exact same_refl | with_reducible apply same_flag
    | with_reducible apply same_set | with_reducible apply same_switchPhase | with_reducible apply same_needP3
    | with_reducible apply same_phasePeaks | with_reducible apply same_regionStart | with_reducible apply same_countActive
    | with_reducible apply same_foldl | dsimp only

theorem same_tripGroup {p : Part} {s u : State} {a1 : Nat} {a2 : Nat} (hu : p.same s u) (h : keeps Foot.tripGroup p = true) :
    p.same s (State.tripGroup u a1 a2) := by
  simp [Foot.tripGroup, and_assoc] at h
  obtain ⟨h1, h2, h3, h4, h5⟩ := h
  unfold State.tripGroup
  repeat' first
    | with_reducible assumption | intro _ | with_reducible exact same_refl | with_reducible apply same_setBit
    | with_reducible apply same_stopGroup | with_reducible apply same_needP3 | with_reducible apply same_settleGroup
    | with_reducible apply same_idlePhases | with_reducible apply same_ite | dsimp only | split

theorem same_excludePhase {p : Part} {s u : State} {a1 : Nat} {a2 : Nat} (hu : p.same s u) (h : keeps Foot.excludePhase p = true) :
    p.same s (State.excludePhase u a1 a2) := by
  simp [Foot.excludePhase, and_assoc] at h
  obtain ⟨h1, h2, h3, h4, h5, h6, h7, h8, h9, h10⟩ := h
  unfold State.excludePhase
  repeat' first
    | with_reducible assumption | intro _ | with_reducible exact same_refl | with_reducible apply same_set
    | with_reducible apply same_setBit | with_reducible apply same_flag | with_reducible apply same_switchPhase
    | with_reducible apply same_idlePhases | with_reducible apply same_phasePeaks | with_reducible apply same_countActive
    | with_reducible apply same_ite | dsimp only | split

end Sys2Proof.Machine.Part
end

