-- ==== Sys2Proof/Laws/SameSources.lean ====
section
/-! SUPPORT. What the operations of Machine/Sources.lean leave as before: one lemma for each. -/

set_option linter.all false

namespace Sys2Proof.Machine.Part

theorem same_poStart {p : Part} {s u : State} {a1 : Nat} (hu : p.same s u) (h : keeps Foot.poStart p = true) :
    p.same s (State.poStart u a1) := by
  simp [Foot.poStart, and_assoc] at h
  obtain ⟨h1, h2, h3, h4⟩ := h
  unfold State.poStart
  repeat' first
    | with_reducible assumption | intro _ | with_reducible exact same_refl | with_reducible apply same_flag
    | with_reducible apply same_set | dsimp only

theorem same_trackStart {p : Part} {s u : State} {a1 : Nat} (hu : p.same s u) (h : keeps Foot.trackStart p = true) :
    p.same s (State.trackStart u a1) := by
  simp [Foot.trackStart, and_assoc] at h
  obtain ⟨h1, h2, h3, h4, h5, h6, h7⟩ := h
  unfold State.trackStart
  repeat' first
    | with_reducible assumption | intro _ | with_reducible exact same_refl | with_reducible apply same_set
    | with_reducible apply same_flag | with_reducible apply same_poStart | dsimp only | split

theorem same_setVref {p : Part} {s u : State} {a1 : Nat} {a2 : Nat} (hu : p.same s u) (h : keeps Foot.setVref p = true) :
    p.same s (State.setVref u a1 a2) := by
  simp [Foot.setVref, and_assoc] at h
  obtain ⟨h1, h2, h3⟩ := h
  unfold State.setVref
  repeat' first
    | with_reducible assumption | intro _ | with_reducible exact same_refl | with_reducible apply same_set | dsimp only

theorem same_couple {p : Part} {s u : State}  (hu : p.same s u) (h : keeps Foot.couple p = true) :
    p.same s (State.couple u) := by
  simp [Foot.couple, and_assoc] at h
  obtain ⟨h1, h2, h3, h4⟩ := h
  unfold State.couple
  repeat' first
    | with_reducible assumption | intro _ | with_reducible exact same_refl | with_reducible apply same_inc
    | with_reducible apply same_flag | with_reducible apply same_cause | with_reducible apply same_stopGrace
    | with_reducible apply same_ite | dsimp only | split

theorem same_freeDup {p : Part} {s u : State}  (hu : p.same s u) (h : keeps Foot.freeDup p = true) :
    p.same s (State.freeDup u) := by
  simp [Foot.freeDup, and_assoc] at h
  obtain ⟨h1, h2, h3⟩ := h
  unfold State.freeDup
  repeat' first
    | with_reducible assumption | intro _ | with_reducible exact same_refl | with_reducible apply same_each
    | with_reducible apply same_restartClass | with_reducible apply same_sourceEvent | with_reducible apply same_clearClass
    | with_reducible apply same_ite | with_reducible apply same_ite_fst | with_reducible apply same_ite_state | dsimp only
    | split

theorem same_dropClass {p : Part} {s u : State} {a1 : Nat} {a2 : Nat} (hu : p.same s u) (h : keeps Foot.dropClass p = true) :
    p.same s (State.dropClass u a1 a2) := by
  simp [Foot.dropClass, and_assoc] at h
  obtain ⟨h1, h2, h3⟩ := h
  unfold State.dropClass
  repeat' first
    | with_reducible assumption | intro _ | with_reducible exact same_refl | with_reducible apply same_iff
    | with_reducible apply same_sourceEvent | with_reducible apply same_clearClass | with_reducible apply same_freeDup
    | with_reducible apply same_ite | dsimp only | split

theorem same_holdOrDrop {p : Part} {s u : State} {a1 : Nat} (hu : p.same s u) (h : keeps Foot.holdOrDrop p = true) :
    p.same s (State.holdOrDrop u a1) := by
  simp [Foot.holdOrDrop, and_assoc] at h
  obtain ⟨h1, h2, h3⟩ := h
  unfold State.holdOrDrop
  repeat' first
    | with_reducible assumption | intro _ | with_reducible exact same_refl | with_reducible apply same_setInstate
    | with_reducible apply same_dropClass | with_reducible apply same_zeroCeiling | with_reducible apply same_ite
    | with_reducible apply off_ite | dsimp only | split

theorem same_classify {p : Part} {s u : State} {a1 : Nat} {a2 : Nat} {a3 : Nat} (hu : p.same s u) (h : keeps Foot.classify p = true) :
    p.same s (State.classify u a1 a2 a3) := by
  simp [Foot.classify, and_assoc] at h
  obtain ⟨h1, h2, h3, h4, h5, h6, h7, h8, h9, h10, h11, h12, h13, h14, h15, h16, h17, h18⟩ := h
  unfold State.classify
  repeat' first
    | with_reducible assumption | intro _ | with_reducible exact same_refl | with_reducible apply same_set
    | with_reducible apply same_flag | with_reducible apply same_clear | with_reducible apply same_iff
    | with_reducible apply same_latchStand | with_reducible apply same_updateLimit | with_reducible apply same_setInstate
    | with_reducible apply same_ended | with_reducible apply same_cause | with_reducible apply same_trackStart
    | with_reducible apply same_setVref | with_reducible apply same_sourceEvent | with_reducible apply same_couple
    | with_reducible apply same_stopGrace | with_reducible apply same_holdOrDrop | with_reducible apply same_ite
    | with_reducible apply same_ite_fst | with_reducible apply same_ite_state | dsimp only | split

theorem same_endProbe {p : Part} {s u : State} {a1 : Nat} (hu : p.same s u) (h : keeps Foot.endProbe p = true) :
    p.same s (State.endProbe u a1) := by
  simp [Foot.endProbe, and_assoc] at h
  unfold State.endProbe
  repeat' first
    | with_reducible assumption | intro _ | with_reducible exact same_refl | with_reducible apply same_stopGroup
    | dsimp only

theorem same_abandonProbes {p : Part} {s u : State}  (hu : p.same s u) (h : keeps Foot.abandonProbes p = true) :
    p.same s (State.abandonProbes u) := by
  simp [Foot.abandonProbes, and_assoc] at h
  obtain ⟨h1, h2⟩ := h
  unfold State.abandonProbes
  repeat' first
    | with_reducible assumption | intro _ | with_reducible exact same_refl | with_reducible apply same_each
    | with_reducible apply same_setInstate | with_reducible apply same_endProbe | with_reducible apply same_ite
    | with_reducible apply same_ite_fst | with_reducible apply same_ite_state | dsimp only | split

theorem same_requestFast {p : Part} {s u : State}  (hu : p.same s u) (h : keeps Foot.requestFast p = true) :
    p.same s (State.requestFast u) := by
  simp [Foot.requestFast, and_assoc] at h
  unfold State.requestFast
  repeat' first
    | with_reducible assumption | intro _ | with_reducible exact same_refl | with_reducible apply same_flag
    | with_reducible apply same_ite | dsimp only | split

theorem same_wake {p : Part} {s u : State} {a1 : Reg} (hu : p.same s u) (h : keeps (Foot.wake a1) p = true) :
    p.same s (State.wake u a1) := by
  simp [Foot.wake, and_assoc] at h
  obtain ⟨h1, h2⟩ := h
  unfold State.wake
  repeat' first
    | with_reducible assumption | intro _ | with_reducible exact same_refl | with_reducible apply same_iff
    | with_reducible apply same_flag | with_reducible apply same_requestFast | dsimp only

theorem same_abortSweep {p : Part} {s u : State} {a1 : Nat} (hu : p.same s u) (h : keeps Foot.abortSweep p = true) :
    p.same s (State.abortSweep u a1) := by
  simp [Foot.abortSweep, and_assoc] at h
  obtain ⟨h1, h2, h3, h4, h5⟩ := h
  unfold State.abortSweep
  repeat' first
    | with_reducible assumption | intro _ | with_reducible exact same_refl | with_reducible apply same_flag
    | with_reducible apply same_set | with_reducible apply same_setBit | with_reducible apply same_latchStand
    | with_reducible apply same_ite | dsimp only | split

theorem same_abortSweeps {p : Part} {s u : State}  (hu : p.same s u) (h : keeps Foot.abortSweeps p = true) :
    p.same s (State.abortSweeps u) := by
  simp [Foot.abortSweeps, and_assoc] at h
  unfold State.abortSweeps
  repeat' first
    | with_reducible assumption | intro _ | with_reducible exact same_refl | with_reducible apply same_each
    | with_reducible apply same_abortSweep | dsimp only

theorem same_startProbe {p : Part} {s u : State} {a1 : Nat} (hu : p.same s u) (h : keeps Foot.startProbe p = true) :
    p.same s (State.startProbe u a1) := by
  simp [Foot.startProbe, and_assoc] at h
  obtain ⟨h1, h2, h3⟩ := h
  unfold State.startProbe
  repeat' first
    | with_reducible assumption | intro _ | with_reducible exact same_refl | with_reducible apply same_abortSweeps
    | with_reducible apply same_setInstate | with_reducible apply same_switchOn | with_reducible apply same_ite | dsimp only
    | split

theorem same_coldStartEnd {p : Part} {s u : State}  (hu : p.same s u) (h : keeps Foot.coldStartEnd p = true) :
    p.same s (State.coldStartEnd u) := by
  simp [Foot.coldStartEnd, and_assoc] at h
  obtain ⟨h1, h2, h3⟩ := h
  unfold State.coldStartEnd
  repeat' first
    | with_reducible assumption | intro _ | with_reducible exact same_refl | with_reducible apply same_flag
    | with_reducible apply same_mapCheck | with_reducible apply same_idlePhases | with_reducible apply same_ite | dsimp only
    | split

theorem same_coldStartCheck {p : Part} {s u : State}  (hu : p.same s u) (h : keeps Foot.coldStartCheck p = true) :
    p.same s (State.coldStartCheck u) := by
  simp [Foot.coldStartCheck, and_assoc] at h
  obtain ⟨h1, h2, h3, h4, h5, h6, h7, h8⟩ := h
  unfold State.coldStartCheck
  repeat' first
    | with_reducible assumption | intro _ | with_reducible exact same_refl | with_reducible apply same_set
    | with_reducible apply same_flag | with_reducible apply same_switchPhase | with_reducible apply same_regionStart
    | with_reducible apply same_countActive | with_reducible apply same_ite | dsimp only | split

theorem same_cancelShip {p : Part} {s u : State}  (hu : p.same s u) (h : keeps Foot.cancelShip p = true) :
    p.same s (State.cancelShip u) := by
  simp [Foot.cancelShip, and_assoc] at h
  obtain ⟨h1, h2, h3⟩ := h
  unfold State.cancelShip
  repeat' first
    | with_reducible assumption | intro _ | with_reducible exact same_refl | with_reducible apply same_flag
    | with_reducible apply same_cause | with_reducible apply same_ite | dsimp only | split

theorem same_uncouple {p : Part} {s u : State}  (hu : p.same s u) (h : keeps Foot.uncouple p = true) :
    p.same s (State.uncouple u) := by
  simp [Foot.uncouple, and_assoc] at h
  obtain ⟨h1, h2, h3⟩ := h
  unfold State.uncouple
  repeat' first
    | with_reducible assumption | intro _ | with_reducible exact same_refl | with_reducible apply same_flag
    | with_reducible apply same_cause | with_reducible apply same_startGrace | with_reducible apply same_ite | dsimp only
    | split

theorem same_leaveDormancy {p : Part} {s u : State} {a1 : Nat} (hu : p.same s u) (h : keeps Foot.leaveDormancy p = true) :
    p.same s (State.leaveDormancy u a1) := by
  simp [Foot.leaveDormancy, and_assoc] at h
  obtain ⟨h1, h2, h3, h4, h5, h6⟩ := h
  unfold State.leaveDormancy
  repeat' first
    | with_reducible assumption | intro _ | with_reducible exact same_refl | with_reducible apply same_set
    | with_reducible apply same_flag | with_reducible apply same_clear | with_reducible apply same_poStart | dsimp only
    | split

end Sys2Proof.Machine.Part
end

