-- ==== Sys2Proof/Laws/SameBattery.lean ====
section
/-! SUPPORT. What the operations of Machine/Battery.lean leave as before: one lemma for each. -/

set_option linter.all false

namespace Sys2Proof.Machine.Part

theorem same_sysFollow {p : Part} {s u : State}  (hu : p.same s u) (h : keeps Foot.sysFollow p = true) :
    p.same s (State.sysFollow u) := by
  simp [Foot.sysFollow, and_assoc] at h
  obtain ⟨h1, h2⟩ := h
  unfold State.sysFollow
  repeat' first
    | with_reducible assumption | intro _ | with_reducible exact same_refl | with_reducible apply same_set | dsimp only

theorem same_chgTargets {p : Part} {s u : State}  (hu : p.same s u) (h : keeps Foot.chgTargets p = true) :
    p.same s (State.chgTargets u) := by
  simp [Foot.chgTargets, and_assoc] at h
  obtain ⟨h1, h2, h3, h4, h5, h6, h7⟩ := h
  unfold State.chgTargets
  repeat' first
    | with_reducible assumption | intro _ | with_reducible exact same_refl | with_reducible apply same_flag
    | with_reducible apply same_set | with_reducible apply same_sysFollow | dsimp only

theorem same_chgSet {p : Part} {s u : State} {a1 : Nat} (hu : p.same s u) (h : keeps Foot.chgSet p = true) :
    p.same s (State.chgSet u a1) := by
  simp [Foot.chgSet, and_assoc] at h
  obtain ⟨h1, h2, h3, h4, h5, h6, h7, h8, h9, h10⟩ := h
  unfold State.chgSet
  repeat' first
    | with_reducible assumption | intro _ | with_reducible exact same_refl | with_reducible apply same_set
    | with_reducible apply same_iff | with_reducible apply same_clear | with_reducible apply same_flag
    | with_reducible apply same_needP3 | with_reducible apply same_chgTargets | dsimp only

theorem same_restStore {p : Part} {s u : State}  (hu : p.same s u) (h : keeps Foot.restStore p = true) :
    p.same s (State.restStore u) := by
  simp [Foot.restStore, and_assoc] at h
  unfold State.restStore
  repeat' first
    | with_reducible assumption | intro _ | with_reducible exact same_refl | with_reducible apply same_each
    | with_reducible apply same_set | dsimp only

theorem same_cutRest {p : Part} {s u : State}  (hu : p.same s u) (h : keeps Foot.cutRest p = true) :
    p.same s (State.cutRest u) := by
  simp [Foot.cutRest, and_assoc] at h
  obtain ⟨h1, h2⟩ := h
  unfold State.cutRest
  repeat' first
    | with_reducible assumption | intro _ | with_reducible exact same_refl | with_reducible apply same_iff
    | with_reducible apply same_inc | with_reducible apply same_restStore | dsimp only

theorem same_pulseRecord {p : Part} {s u : State} {a1 : Nat} {a2 : Bool} (hu : p.same s u) (h : keeps Foot.pulseRecord p = true) :
    p.same s (State.pulseRecord u a1 a2) := by
  simp [Foot.pulseRecord, and_assoc] at h
  unfold State.pulseRecord
  repeat' first
    | with_reducible assumption | intro _ | with_reducible exact same_refl | with_reducible apply same_record
    | with_reducible apply same_ite | with_reducible apply same_ite_fst | with_reducible apply same_ite_state
    | with_reducible apply off_ite | dsimp only | split

theorem same_chgTo {p : Part} {s u : State} {a1 : Nat} (hu : p.same s u) (h : keeps Foot.chgTo p = true) :
    p.same s (State.chgTo u a1) := by
  simp [Foot.chgTo, and_assoc] at h
  obtain ⟨h1, h2, h3, h4⟩ := h
  unfold State.chgTo
  repeat' first
    | with_reducible assumption | intro _ | with_reducible exact same_refl | with_reducible apply same_chgTargets
    | with_reducible apply same_chgSet | with_reducible apply same_cutRest | with_reducible apply same_pulseRecord
    | with_reducible apply same_ite | dsimp only | split

theorem same_equaliseFollow {p : Part} {s u : State}  (hu : p.same s u) (h : keeps Foot.equaliseFollow p = true) :
    p.same s (State.equaliseFollow u) := by
  simp [Foot.equaliseFollow, and_assoc] at h
  obtain ⟨h1, h2⟩ := h
  unfold State.equaliseFollow
  repeat' first
    | with_reducible assumption | intro _ | with_reducible exact same_refl | with_reducible apply same_latch
    | with_reducible apply same_chgTo | with_reducible apply same_ite | dsimp only | split

theorem same_endUvInhibit {p : Part} {s u : State}  (hu : p.same s u) (h : keeps Foot.endUvInhibit p = true) :
    p.same s (State.endUvInhibit u) := by
  simp [Foot.endUvInhibit, and_assoc] at h
  obtain ⟨h1, h2⟩ := h
  unfold State.endUvInhibit
  repeat' first
    | with_reducible assumption | intro _ | with_reducible exact same_refl | with_reducible apply same_flag
    | with_reducible apply same_ended | dsimp only

theorem same_ppFailure {p : Part} {s u : State} {a1 : Bool} (hu : p.same s u) (h : keeps Foot.ppFailure p = true) :
    p.same s (State.ppFailure u a1) := by
  simp [Foot.ppFailure, and_assoc] at h
  obtain ⟨h1, h2, h3, h4⟩ := h
  unfold State.ppFailure
  repeat' first
    | with_reducible assumption | intro _ | with_reducible exact same_refl | with_reducible apply same_set
    | with_reducible apply same_flag | with_reducible apply same_latchStand | with_reducible apply same_ite | dsimp only
    | split

theorem same_chgDrop {p : Part} {s u : State}  (hu : p.same s u) (h : keeps Foot.chgDrop p = true) :
    p.same s (State.chgDrop u) := by
  simp [Foot.chgDrop, and_assoc] at h
  unfold State.chgDrop
  repeat' first
    | with_reducible assumption | intro _ | with_reducible exact same_refl | with_reducible apply same_set | dsimp only

theorem same_chgStopNow {p : Part} {s u : State}  (hu : p.same s u) (h : keeps Foot.chgStopNow p = true) :
    p.same s (State.chgStopNow u) := by
  simp [Foot.chgStopNow, and_assoc] at h
  obtain ⟨h1, h2, h3, h4⟩ := h
  unfold State.chgStopNow
  repeat' first
    | with_reducible assumption | intro _ | with_reducible exact same_refl | with_reducible apply same_flag
    | with_reducible apply same_chgDrop | with_reducible apply same_chgTargets | with_reducible apply same_chgTo
    | with_reducible apply same_ite | with_reducible apply off_ite | dsimp only | split

theorem same_pulse {p : Part} {s u : State} {a1 : Nat} (hu : p.same s u) (h : keeps Foot.pulse p = true) :
    p.same s (State.pulse u a1) := by
  simp [Foot.pulse, and_assoc] at h
  obtain ⟨h1, h2, h3, h4, h5, h6, h7⟩ := h
  unfold State.pulse
  repeat' first
    | with_reducible assumption | intro _ | with_reducible exact same_refl | with_reducible apply same_flag
    | with_reducible apply same_set | with_reducible apply same_chgSet | with_reducible apply same_ite | dsimp only | split

theorem same_firstPulse {p : Part} {s u : State}  (hu : p.same s u) (h : keeps Foot.firstPulse p = true) :
    p.same s (State.firstPulse u) := by
  simp [Foot.firstPulse, and_assoc] at h
  obtain ⟨h1, h2, h3⟩ := h
  unfold State.firstPulse
  repeat' first
    | with_reducible assumption | intro _ | with_reducible exact same_refl | with_reducible apply same_set
    | with_reducible apply same_pulse | with_reducible apply same_pulseRecord | dsimp only

theorem same_timersReset {p : Part} {s u : State}  (hu : p.same s u) (h : keeps Foot.timersReset p = true) :
    p.same s (State.timersReset u) := by
  simp [Foot.timersReset, and_assoc] at h
  obtain ⟨h1, h2⟩ := h
  unfold State.timersReset
  repeat' first
    | with_reducible assumption | intro _ | with_reducible exact same_refl | with_reducible apply same_clear | dsimp only

theorem same_chgRestart {p : Part} {s u : State}  (hu : p.same s u) (h : keeps Foot.chgRestart p = true) :
    p.same s (State.chgRestart u) := by
  simp [Foot.chgRestart, and_assoc] at h
  obtain ⟨h1, h2, h3, h4, h5, h6⟩ := h
  unfold State.chgRestart
  repeat' first
    | with_reducible assumption | intro _ | with_reducible exact same_refl | with_reducible apply same_flag
    | with_reducible apply same_timersReset | with_reducible apply same_chgTo | dsimp only

theorem same_readTimeout {p : Part} {s u : State}  (hu : p.same s u) (h : keeps Foot.readTimeout p = true) :
    p.same s (State.readTimeout u) := by
  simp [Foot.readTimeout, and_assoc] at h
  obtain ⟨h1, h2, h3, h4⟩ := h
  unfold State.readTimeout
  repeat' first
    | with_reducible assumption | intro _ | with_reducible exact same_refl | with_reducible apply same_flag
    | with_reducible apply same_ended | with_reducible apply same_chgTo | with_reducible apply same_chgRestart
    | with_reducible apply same_ite | dsimp only | split

theorem same_chgIdle {p : Part} {s u : State}  (hu : p.same s u) (h : keeps Foot.chgIdle p = true) :
    p.same s (State.chgIdle u) := by
  simp [Foot.chgIdle, and_assoc] at h
  obtain ⟨h1, h2, h3⟩ := h
  unfold State.chgIdle
  repeat' first
    | with_reducible assumption | intro _ | with_reducible exact same_refl | with_reducible apply same_flag
    | with_reducible apply same_chgTargets | with_reducible apply same_chgTo | with_reducible apply same_ite | dsimp only
    | split

theorem same_chgFollow {p : Part} {s u : State}  (hu : p.same s u) (h : keeps Foot.chgFollow p = true) :
    p.same s (State.chgFollow u) := by
  simp [Foot.chgFollow, and_assoc] at h
  obtain ⟨h1, h2, h3, h4⟩ := h
  unfold State.chgFollow
  repeat' first
    | with_reducible assumption | intro _ | with_reducible exact same_refl | with_reducible apply same_chgTargets
    | with_reducible apply same_chgTo | with_reducible apply same_equaliseFollow | with_reducible apply same_chgIdle
    | with_reducible apply same_ite | dsimp only | split

theorem same_openPair {p : Part} {s u : State}  (hu : p.same s u) (h : keeps Foot.openPair p = true) :
    p.same s (State.openPair u) := by
  simp [Foot.openPair, and_assoc] at h
  obtain ⟨h1, h2, h3, h4, h5, h6⟩ := h
  unfold State.openPair
  repeat' first
    | with_reducible assumption | intro _ | with_reducible exact same_refl | with_reducible apply same_flag
    | with_reducible apply same_set | with_reducible apply same_sysFollow | with_reducible apply same_needP3 | dsimp only

theorem same_setBat {p : Part} {s u : State} {a1 : Nat} (hu : p.same s u) (h : keeps Foot.setBat p = true) :
    p.same s (State.setBat u a1) := by
  simp [Foot.setBat, and_assoc] at h
  obtain ⟨h1, h2, h3, h4, h5⟩ := h
  unfold State.setBat
  repeat' first
    | with_reducible assumption | intro _ | with_reducible exact same_refl | with_reducible apply same_set
    | with_reducible apply same_iff | with_reducible apply same_needP3 | with_reducible apply same_ended
    | with_reducible apply same_openPair | with_reducible apply same_cause | with_reducible apply same_ite
    | with_reducible apply same_ite_fst | with_reducible apply same_ite_state | dsimp only | split

theorem same_readBatShort {p : Part} {s u : State}  (hu : p.same s u) (h : keeps Foot.readBatShort p = true) :
    p.same s (State.readBatShort u) := by
  simp [Foot.readBatShort, and_assoc] at h
  obtain ⟨h1, h2⟩ := h
  unfold State.readBatShort
  repeat' first
    | with_reducible assumption | intro _ | with_reducible exact same_refl | with_reducible apply same_iff
    | with_reducible apply same_ended | with_reducible apply same_setBat | with_reducible apply same_ite
    | with_reducible apply same_ite_fst | with_reducible apply same_ite_state | dsimp only | split

theorem same_agedFollow {p : Part} {s u : State}  (hu : p.same s u) (h : keeps Foot.agedFollow p = true) :
    p.same s (State.agedFollow u) := by
  simp [Foot.agedFollow, and_assoc] at h
  obtain ⟨h1, h2, h3⟩ := h
  unfold State.agedFollow
  repeat' first
    | with_reducible assumption | intro _ | with_reducible exact same_refl | with_reducible apply same_flag
    | with_reducible apply same_latchStand | with_reducible apply same_ended | with_reducible apply same_ite | dsimp only
    | split

theorem same_chgHold {p : Part} {s u : State} {a1 : Reg} {a2 : Bool} (hu : p.same s u) (h : keeps (Foot.chgHold a1) p = true) :
    p.same s (State.chgHold u a1 a2) := by
  simp [Foot.chgHold, and_assoc] at h
  obtain ⟨h1, h2, h3, h4⟩ := h
  unfold State.chgHold
  repeat' first
    | with_reducible assumption | intro _ | with_reducible exact same_refl | with_reducible apply same_iff
    | with_reducible apply same_flag | with_reducible apply same_chgTargets | dsimp only | split

theorem same_chgQualify {p : Part} {s u : State}  (hu : p.same s u) (h : keeps Foot.chgQualify p = true) :
    p.same s (State.chgQualify u) := by
  simp [Foot.chgQualify, and_assoc] at h
  obtain ⟨h1, h2⟩ := h
  unfold State.chgQualify
  repeat' first
    | with_reducible assumption | intro _ | with_reducible exact same_refl | with_reducible apply same_chgTargets
    | with_reducible apply same_chgTo | with_reducible apply same_ite | dsimp only | split

theorem same_pulseFall {p : Part} {s u : State}  (hu : p.same s u) (h : keeps Foot.pulseFall p = true) :
    p.same s (State.pulseFall u) := by
  simp [Foot.pulseFall, and_assoc] at h
  obtain ⟨h1, h2⟩ := h
  unfold State.pulseFall
  repeat' first
    | with_reducible assumption | intro _ | with_reducible exact same_refl | with_reducible apply same_chgTo
    | with_reducible apply same_chgSet | with_reducible apply same_ite | dsimp only | split

theorem same_leaveIdle {p : Part} {s u : State}  (hu : p.same s u) (h : keeps Foot.leaveIdle p = true) :
    p.same s (State.leaveIdle u) := by
  simp [Foot.leaveIdle, and_assoc] at h
  unfold State.leaveIdle
  repeat' first
    | with_reducible assumption | intro _ | with_reducible exact same_refl | with_reducible apply same_chgTo
    | with_reducible apply same_ite | dsimp only | split

theorem same_chgFaultPp {p : Part} {s u : State}  (hu : p.same s u) (h : keeps Foot.chgFaultPp p = true) :
    p.same s (State.chgFaultPp u) := by
  simp [Foot.chgFaultPp, and_assoc] at h
  obtain ⟨h1, h2, h3, h4, h5⟩ := h
  unfold State.chgFaultPp
  repeat' first
    | with_reducible assumption | intro _ | with_reducible exact same_refl | with_reducible apply same_flag
    | with_reducible apply same_chgDrop | with_reducible apply same_chgTargets | with_reducible apply same_chgTo
    | with_reducible apply same_ite | dsimp only | split

theorem same_eRemFull {p : Part} {s u : State}  (hu : p.same s u) (h : keeps Foot.eRemFull p = true) :
    p.same s (State.eRemFull u) := by
  simp [Foot.eRemFull, and_assoc] at h
  obtain ⟨h1, h2⟩ := h
  unfold State.eRemFull
  repeat' first
    | with_reducible assumption | intro _ | with_reducible exact same_refl | with_reducible apply same_flag
    | with_reducible apply same_set | with_reducible apply same_ite | dsimp only | split

theorem same_terminate {p : Part} {s u : State}  (hu : p.same s u) (h : keeps Foot.terminate p = true) :
    p.same s (State.terminate u) := by
  simp [Foot.terminate, and_assoc] at h
  obtain ⟨h1, h2, h3⟩ := h
  unfold State.terminate
  repeat' first
    | with_reducible assumption | intro _ | with_reducible exact same_refl | with_reducible apply same_set
    | with_reducible apply same_eRemFull | with_reducible apply same_timersReset | dsimp only

theorem same_batteryLost {p : Part} {s u : State}  (hu : p.same s u) (h : keeps Foot.batteryLost p = true) :
    p.same s (State.batteryLost u) := by
  simp [Foot.batteryLost, and_assoc] at h
  obtain ⟨h1, h2, h3⟩ := h
  unfold State.batteryLost
  repeat' first
    | with_reducible assumption | intro _ | with_reducible exact same_refl | with_reducible apply same_latchStand
    | with_reducible apply same_chgFaultPp | with_reducible apply same_setBat | dsimp only

theorem same_ppTrip {p : Part} {s u : State} {a1 : Reg} (hu : p.same s u) (h : keeps (Foot.ppTrip a1) p = true) :
    p.same s (State.ppTrip u a1) := by
  simp [Foot.ppTrip, and_assoc] at h
  obtain ⟨h1, h2, h3, h4, h5, h6, h7⟩ := h
  unfold State.ppTrip
  repeat' first
    | with_reducible assumption | intro _ | with_reducible exact same_refl | with_reducible apply same_inc
    | with_reducible apply same_set | with_reducible apply same_flag | with_reducible apply same_latch
    | with_reducible apply same_chgFaultPp | with_reducible apply same_openPair | with_reducible apply same_ppFailure
    | dsimp only

theorem same_endLockout {p : Part} {s u : State}  (hu : p.same s u) (h : keeps Foot.endLockout p = true) :
    p.same s (State.endLockout u) := by
  simp [Foot.endLockout, and_assoc] at h
  obtain ⟨h1, h2, h3⟩ := h
  unfold State.endLockout
  repeat' first
    | with_reducible assumption | intro _ | with_reducible exact same_refl | with_reducible apply same_clear
    | with_reducible apply same_flag | with_reducible apply same_ended | with_reducible apply same_ite | dsimp only | split

theorem same_minSys {p : Part} {s u : State} {a1 : Nat} (hu : p.same s u) (h : keeps Foot.minSys p = true) :
    p.same s (State.minSys u a1) := by
  simp [Foot.minSys, and_assoc] at h
  unfold State.minSys
  repeat' first
    | with_reducible assumption | intro _ | with_reducible exact same_refl | with_reducible apply same_set
    | with_reducible apply same_ite | dsimp only | split

theorem same_batteryMissing {p : Part} {s u : State}  (hu : p.same s u) (h : keeps Foot.batteryMissing p = true) :
    p.same s (State.batteryMissing u) := by
  simp [Foot.batteryMissing, and_assoc] at h
  obtain ⟨h1, h2, h3⟩ := h
  unfold State.batteryMissing
  repeat' first
    | with_reducible assumption | intro _ | with_reducible exact same_refl | with_reducible apply same_latchStand
    | with_reducible apply same_openPair | with_reducible apply same_setBat | with_reducible apply same_ite | dsimp only
    | split

theorem same_chgRamp {p : Part} {s u : State}  (hu : p.same s u) (h : keeps Foot.chgRamp p = true) :
    p.same s (State.chgRamp u) := by
  simp [Foot.chgRamp, and_assoc] at h
  unfold State.chgRamp
  repeat' first
    | with_reducible assumption | intro _ | with_reducible exact same_refl | with_reducible apply same_set | dsimp only

theorem same_chgExpire {p : Part} {s u : State} {a1 : Bool} {a2 : Bool} {a3 : Bool} (hu : p.same s u) (h : keeps Foot.chgExpire p = true) :
    p.same s (State.chgExpire u a1 a2 a3) := by
  simp [Foot.chgExpire, and_assoc] at h
  obtain ⟨h1, h2, h3, h4, h5, h6, h7, h8, h9, h10⟩ := h
  unfold State.chgExpire
  repeat' first
    | with_reducible assumption | intro _ | with_reducible exact same_refl | with_reducible apply same_flag
    | with_reducible apply same_latchStand | with_reducible apply same_chgSet | with_reducible apply same_cutRest
    | with_reducible apply same_pulseRecord | with_reducible apply same_ite | with_reducible apply off_ite | dsimp only
    | split

end Sys2Proof.Machine.Part
end

