-- ==== Sys2Proof/Laws/SameMeter.lean ====
section
/-! SUPPORT. What the operations of Machine/Meter.lean leave as before: one lemma for each. -/

set_option linter.all false

namespace Sys2Proof.Machine.Part

theorem same_ledgerAdd {p : Part} {s u : State} {a1 : Nat} {a2 : Nat} (hu : p.same s u) (h : keeps Foot.ledgerAdd p = true) :
    p.same s (State.ledgerAdd u a1 a2) := by
  simp [Foot.ledgerAdd, and_assoc] at h
  obtain ⟨h1, h2⟩ := h
  unfold State.ledgerAdd
  repeat' first
    | with_reducible assumption | intro _ | with_reducible exact same_refl | with_reducible apply same_set | dsimp only

theorem same_eRemMove {p : Part} {s u : State} {a1 : Nat} {a2 : Nat} (hu : p.same s u) (h : keeps Foot.eRemMove p = true) :
    p.same s (State.eRemMove u a1 a2) := by
  simp [Foot.eRemMove, and_assoc] at h
  obtain ⟨h1, h2⟩ := h
  unfold State.eRemMove
  repeat' first
    | with_reducible assumption | intro _ | with_reducible exact same_refl | with_reducible apply same_set | dsimp only

theorem same_creditSleep {p : Part} {s u : State} {a1 : Nat} (hu : p.same s u) (h : keeps Foot.creditSleep p = true) :
    p.same s (State.creditSleep u a1) := by
  simp [Foot.creditSleep, and_assoc] at h
  obtain ⟨h1, h2⟩ := h
  unfold State.creditSleep
  repeat' first
    | with_reducible assumption | intro _ | with_reducible exact same_refl | with_reducible apply same_ledgerAdd
    | with_reducible apply same_eRemMove | dsimp only

theorem same_sleepCredit {p : Part} {s u : State}  (hu : p.same s u) (h : keeps Foot.sleepCredit p = true) :
    p.same s (State.sleepCredit u) := by
  simp [Foot.sleepCredit, and_assoc] at h
  obtain ⟨h1, h2⟩ := h
  unfold State.sleepCredit
  repeat' first
    | with_reducible assumption | intro _ | with_reducible exact same_refl | with_reducible apply same_set
    | with_reducible apply same_iff | with_reducible apply same_creditSleep | with_reducible apply same_ite
    | with_reducible apply same_ite_fst | with_reducible apply same_ite_state | dsimp only | split

theorem same_ledgerFollow {p : Part} {s u : State}  (hu : p.same s u) (h : keeps Foot.ledgerFollow p = true) :
    p.same s (State.ledgerFollow u) := by
  simp [Foot.ledgerFollow, and_assoc] at h
  obtain ⟨h1, h2, h3, h4, h5, h6⟩ := h
  unfold State.ledgerFollow
  repeat' first
    | with_reducible assumption | intro _ | with_reducible exact same_refl | with_reducible apply same_iff
    | with_reducible apply same_flag | with_reducible apply same_set | dsimp only

theorem same_snapshot {p : Part} {s u : State} {a1 : Nat} (hu : p.same s u) (h : keeps Foot.snapshot p = true) :
    p.same s (State.snapshot u a1) := by
  simp [Foot.snapshot, and_assoc] at h
  obtain ⟨h1, h2, h3, h4⟩ := h
  unfold State.snapshot
  repeat' first
    | with_reducible assumption | intro _ | with_reducible exact same_refl | with_reducible apply same_set
    | with_reducible apply same_each | with_reducible apply same_ledgerFollow | with_reducible apply same_sleepCredit
    | with_reducible apply same_record | dsimp only

theorem same_intervalUpdate {p : Part} {s u : State}  (hu : p.same s u) (h : keeps Foot.intervalUpdate p = true) :
    p.same s (State.intervalUpdate u) := by
  simp [Foot.intervalUpdate, and_assoc] at h
  obtain ⟨h1, h2, h3, h4, h5, h6⟩ := h
  unfold State.intervalUpdate
  repeat' first
    | with_reducible assumption | intro _ | with_reducible exact same_refl | with_reducible apply same_set
    | with_reducible apply same_flag | with_reducible apply same_latchFrom | with_reducible apply same_ledgerFollow
    | with_reducible apply same_ended | with_reducible apply same_stand | with_reducible apply same_ite | dsimp only | split

theorem same_refFail {p : Part} {s u : State} {a1 : Bool} (hu : p.same s u) (h : keeps Foot.refFail p = true) :
    p.same s (State.refFail u a1) := by
  simp [Foot.refFail, and_assoc] at h
  obtain ⟨h1, h2, h3, h4⟩ := h
  unfold State.refFail
  repeat' first
    | with_reducible assumption | intro _ | with_reducible exact same_refl | with_reducible apply same_flag
    | with_reducible apply same_latchStand | with_reducible apply same_chgHold | with_reducible apply same_ended
    | with_reducible apply same_ite | dsimp only | split

theorem same_wakeBegin {p : Part} {s u : State}  (hu : p.same s u) (h : keeps Foot.wakeBegin p = true) :
    p.same s (State.wakeBegin u) := by
  simp [Foot.wakeBegin, and_assoc] at h
  obtain ⟨h1, h2, h3, h4⟩ := h
  unfold State.wakeBegin
  repeat' first
    | with_reducible assumption | intro _ | with_reducible exact same_refl | with_reducible apply same_flag
    | with_reducible apply same_set | with_reducible apply same_sleepCredit | dsimp only

theorem same_wakeEnd {p : Part} {s u : State}  (hu : p.same s u) (h : keeps Foot.wakeEnd p = true) :
    p.same s (State.wakeEnd u) := by
  simp [Foot.wakeEnd, and_assoc] at h
  obtain ⟨h1, h2, h3⟩ := h
  unfold State.wakeEnd
  repeat' first
    | with_reducible assumption | intro _ | with_reducible exact same_refl | with_reducible apply same_flag
    | with_reducible apply same_set | with_reducible apply same_ite | dsimp only | split

theorem same_eRemWrite {p : Part} {s u : State} {a1 : Nat} (hu : p.same s u) (h : keeps Foot.eRemWrite p = true) :
    p.same s (State.eRemWrite u a1) := by
  simp [Foot.eRemWrite, and_assoc] at h
  obtain ⟨h1, h2, h3, h4, h5⟩ := h
  unfold State.eRemWrite
  repeat' first
    | with_reducible assumption | intro _ | with_reducible exact same_refl | with_reducible apply same_set
    | with_reducible apply same_flag | with_reducible apply same_ledgerFollow | with_reducible apply same_ite | dsimp only
    | split

theorem same_clearCounters {p : Part} {s u : State}  (hu : p.same s u) (h : keeps Foot.clearCounters p = true) :
    p.same s (State.clearCounters u) := by
  simp [Foot.clearCounters, and_assoc] at h
  obtain ⟨h1, h2⟩ := h
  unfold State.clearCounters
  repeat' first
    | with_reducible assumption | intro _ | with_reducible exact same_refl | with_reducible apply same_each
    | with_reducible apply same_set | dsimp only

theorem same_staleCheck {p : Part} {s u : State}  (hu : p.same s u) (h : keeps Foot.staleCheck p = true) :
    p.same s (State.staleCheck u) := by
  simp [Foot.staleCheck, and_assoc] at h
  unfold State.staleCheck
  repeat' first
    | with_reducible assumption | intro _ | with_reducible exact same_refl | with_reducible apply same_latchStand
    | with_reducible apply same_ite | dsimp only | split

theorem same_ledgerBat {p : Part} {s u : State} {a1 : Nat} {a2 : Nat} (hu : p.same s u) (h : keeps Foot.ledgerBat p = true) :
    p.same s (State.ledgerBat u a1 a2) := by
  simp [Foot.ledgerBat, and_assoc] at h
  obtain ⟨h1, h2, h3⟩ := h
  unfold State.ledgerBat
  repeat' first
    | with_reducible assumption | intro _ | with_reducible exact same_refl | with_reducible apply same_add
    | with_reducible apply same_eRemMove | dsimp only

theorem same_zeroWindow {p : Part} {s u : State} {a1 : Int} {a2 : Int} (hu : p.same s u) (h : keeps Foot.zeroWindow p = true) :
    p.same s (State.zeroWindow u a1 a2) := by
  simp [Foot.zeroWindow, and_assoc] at h
  obtain ⟨h1, h2, h3, h4, h5, h6⟩ := h
  unfold State.zeroWindow
  repeat' first
    | with_reducible assumption | intro _ | with_reducible exact same_refl | with_reducible apply same_set
    | with_reducible apply same_inc | with_reducible apply same_flag | with_reducible apply same_setS
    | with_reducible apply same_ended | with_reducible apply same_ite | with_reducible apply same_ite_fst
    | with_reducible apply same_ite_state | dsimp only | split

theorem same_epochWrite {p : Part} {s u : State} {a1 : Nat} (hu : p.same s u) (h : keeps Foot.epochWrite p = true) :
    p.same s (State.epochWrite u a1) := by
  simp [Foot.epochWrite, and_assoc] at h
  obtain ⟨h1, h2⟩ := h
  unfold State.epochWrite
  repeat' first
    | with_reducible assumption | intro _ | with_reducible exact same_refl | with_reducible apply same_flag
    | with_reducible apply same_set | dsimp only

end Sys2Proof.Machine.Part
end

