-- ==== Sys2Proof/Laws/SameSupply.lean ====
section
/-! SUPPORT. What the operations of Machine/Supply.lean leave as before: one lemma for each. -/

set_option linter.all false

namespace Sys2Proof.Machine.Part

theorem same_dropLate {p : Part} {s u : State} {a1 : Nat} (hu : p.same s u) (h : keeps Foot.dropLate p = true) :
    p.same s (State.dropLate u a1) := by
  simp [Foot.dropLate, and_assoc] at h
  obtain ⟨h1, h2⟩ := h
  unfold State.dropLate
  repeat' first
    | with_reducible assumption | intro _ | with_reducible exact same_refl | with_reducible apply same_flag | dsimp only

theorem same_setPort {p : Part} {s u : State} {a1 : Nat} {a2 : Nat} (hu : p.same s u) (h : keeps Foot.setPort p = true) :
    p.same s (State.setPort u a1 a2) := by
  simp [Foot.setPort, and_assoc] at h
  obtain ⟨h1, h2⟩ := h
  unfold State.setPort
  repeat' first
    | with_reducible assumption | intro _ | with_reducible exact same_refl | with_reducible apply same_set
    | with_reducible apply same_ite | dsimp only | split

theorem same_lineIdle {p : Part} {s u : State} {a1 : Nat} (hu : p.same s u) (h : keeps Foot.lineIdle p = true) :
    p.same s (State.lineIdle u a1) := by
  simp [Foot.lineIdle, and_assoc] at h
  obtain ⟨h1, h2, h3, h4, h5, h6⟩ := h
  unfold State.lineIdle
  repeat' first
    | with_reducible assumption | intro _ | with_reducible exact same_refl | with_reducible apply same_set
    | with_reducible apply same_dropLate | with_reducible apply same_ite | with_reducible apply off_ite | dsimp only | split

theorem same_portDown {p : Part} {s u : State} {a1 : Nat} {a2 : Nat} (hu : p.same s u) (h : keeps Foot.portDown p = true) :
    p.same s (State.portDown u a1 a2) := by
  simp [Foot.portDown, and_assoc] at h
  obtain ⟨h1, h2, h3, h4, h5, h6, h7⟩ := h
  unfold State.portDown
  repeat' first
    | with_reducible assumption | intro _ | with_reducible exact same_refl | with_reducible apply same_set
    | with_reducible apply same_flag | with_reducible apply same_setPort | with_reducible apply same_lineIdle
    | with_reducible apply same_abortSlice | with_reducible apply same_sleepCredit | dsimp only

theorem same_portOff {p : Part} {s u : State} {a1 : Nat} (hu : p.same s u) (h : keeps Foot.portOff p = true) :
    p.same s (State.portOff u a1) := by
  simp [Foot.portOff, and_assoc] at h
  unfold State.portOff
  repeat' first
    | with_reducible assumption | intro _ | with_reducible exact same_refl | with_reducible apply same_portDown
    | with_reducible apply same_ite | with_reducible apply off_ite | dsimp only | split

theorem same_cutoffPorts {p : Part} {s u : State}  (hu : p.same s u) (h : keeps Foot.cutoffPorts p = true) :
    p.same s (State.cutoffPorts u) := by
  simp [Foot.cutoffPorts, and_assoc] at h
  unfold State.cutoffPorts
  repeat' first
    | with_reducible assumption | intro _ | with_reducible exact same_refl | with_reducible apply same_each
    | with_reducible apply same_portOff | with_reducible apply same_ite | with_reducible apply same_ite_fst
    | with_reducible apply same_ite_state | dsimp only | split

theorem same_railStop {p : Part} {s u : State} {a1 : Nat} {a2 : Nat} (hu : p.same s u) (h : keeps Foot.railStop p = true) :
    p.same s (State.railStop u a1 a2) := by
  simp [Foot.railStop, and_assoc] at h
  obtain ⟨h1, h2, h3, h4, h5, h6, h7, h8, h9, h10, h11, h12, h13, h14⟩ := h
  unfold State.railStop
  repeat' first
    | with_reducible assumption | intro _ | with_reducible exact same_refl | with_reducible apply same_flag
    | with_reducible apply same_set | with_reducible apply same_iff | with_reducible apply same_cutoffPorts
    | with_reducible apply same_dieFollow | dsimp only

theorem same_railDown {p : Part} {s u : State} {a1 : Nat} (hu : p.same s u) (h : keeps Foot.railDown p = true) :
    p.same s (State.railDown u a1) := by
  simp [Foot.railDown, and_assoc] at h
  obtain ⟨h1, h2, h3, h4, h5, h6, h7⟩ := h
  unfold State.railDown
  repeat' first
    | with_reducible assumption | intro _ | with_reducible exact same_refl | with_reducible apply same_flag
    | with_reducible apply same_set | dsimp only

theorem same_railPs3 {p : Part} {s u : State} {a1 : Nat} (hu : p.same s u) (h : keeps Foot.railPs3 p = true) :
    p.same s (State.railPs3 u a1) := by
  simp [Foot.railPs3, and_assoc] at h
  obtain ⟨h1, h2, h3, h4, h5, h6⟩ := h
  unfold State.railPs3
  repeat' first
    | with_reducible assumption | intro _ | with_reducible exact same_refl | with_reducible apply same_clear
    | with_reducible apply same_flag | with_reducible apply same_set | with_reducible apply same_railStop
    | with_reducible apply same_railDown | dsimp only | split

theorem same_railSoft {p : Part} {s u : State} {a1 : Nat} (hu : p.same s u) (h : keeps Foot.railSoft p = true) :
    p.same s (State.railSoft u a1) := by
  simp [Foot.railSoft, and_assoc] at h
  obtain ⟨h1, h2, h3, h4, h5, h6, h7, h8, h9, h10⟩ := h
  unfold State.railSoft
  repeat' first
    | with_reducible assumption | intro _ | with_reducible exact same_refl | with_reducible apply same_set
    | with_reducible apply same_flag | with_reducible apply same_iff | with_reducible apply same_ite
    | with_reducible apply same_ite_fst | with_reducible apply same_ite_state | dsimp only | split

theorem same_railTurnOn {p : Part} {s u : State} {a1 : Nat} (hu : p.same s u) (h : keeps Foot.railTurnOn p = true) :
    p.same s (State.railTurnOn u a1) := by
  simp [Foot.railTurnOn, and_assoc] at h
  obtain ⟨h1, h2, h3, h4, h5, h6, h7⟩ := h
  unfold State.railTurnOn
  repeat' first
    | with_reducible assumption | intro _ | with_reducible exact same_refl | with_reducible apply same_set
    | with_reducible apply same_clear | with_reducible apply same_flag | with_reducible apply same_railSoft
    | with_reducible apply same_ite | dsimp only | split

theorem same_valtFollow {p : Part} {s u : State}  (hu : p.same s u) (h : keeps Foot.valtFollow p = true) :
    p.same s (State.valtFollow u) := by
  simp [Foot.valtFollow, and_assoc] at h
  obtain ⟨h1, h2⟩ := h
  unfold State.valtFollow
  repeat' first
    | with_reducible assumption | intro _ | with_reducible exact same_refl | with_reducible apply same_each
    | with_reducible apply same_flag | dsimp only | split

theorem same_railsKill {p : Part} {s u : State}  (hu : p.same s u) (h : keeps Foot.railsKill p = true) :
    p.same s (State.railsKill u) := by
  simp [Foot.railsKill, and_assoc] at h
  obtain ⟨h1, h2⟩ := h
  unfold State.railsKill
  repeat' first
    | with_reducible assumption | intro _ | with_reducible exact same_refl | with_reducible apply same_each
    | with_reducible apply same_clear | with_reducible apply same_railStop | with_reducible apply same_ite
    | with_reducible apply same_ite_fst | with_reducible apply same_ite_state | dsimp only | split

theorem same_portsDrop {p : Part} {s u : State}  (hu : p.same s u) (h : keeps Foot.portsDrop p = true) :
    p.same s (State.portsDrop u) := by
  simp [Foot.portsDrop, and_assoc] at h
  obtain ⟨h1, h2, h3⟩ := h
  unfold State.portsDrop
  repeat' first
    | with_reducible assumption | intro _ | with_reducible exact same_refl | with_reducible apply same_each
    | with_reducible apply same_flag | with_reducible apply same_setPort | with_reducible apply same_lineIdle
    | with_reducible apply same_ite | with_reducible apply same_ite_fst | with_reducible apply same_ite_state | dsimp only
    | split

theorem same_vauxOutOfReg {p : Part} {s u : State}  (hu : p.same s u) (h : keeps Foot.vauxOutOfReg p = true) :
    p.same s (State.vauxOutOfReg u) := by
  simp [Foot.vauxOutOfReg, and_assoc] at h
  obtain ⟨h1, h2, h3, h4⟩ := h
  unfold State.vauxOutOfReg
  repeat' first
    | with_reducible assumption | intro _ | with_reducible exact same_refl | with_reducible apply same_flag
    | with_reducible apply same_abandonProbes | with_reducible apply same_portsDrop | with_reducible apply same_ite
    | dsimp only | split

theorem same_stopVaux {p : Part} {s u : State}  (hu : p.same s u) (h : keeps Foot.stopVaux p = true) :
    p.same s (State.stopVaux u) := by
  simp [Foot.stopVaux, and_assoc] at h
  obtain ⟨h1, h2, h3, h4, h5, h6⟩ := h
  unfold State.stopVaux
  repeat' first
    | with_reducible assumption | intro _ | with_reducible exact same_refl | with_reducible apply same_set
    | with_reducible apply same_flag | with_reducible apply same_vauxOutOfReg | with_reducible apply same_abortSlice
    | dsimp only

theorem same_demandOff {p : Part} {s u : State}  (hu : p.same s u) (h : keeps Foot.demandOff p = true) :
    p.same s (State.demandOff u) := by
  simp [Foot.demandOff, and_assoc] at h
  obtain ⟨h1, h2, h3, h4⟩ := h
  unfold State.demandOff
  repeat' first
    | with_reducible assumption | intro _ | with_reducible exact same_refl | with_reducible apply same_each
    | with_reducible apply same_clear | with_reducible apply same_set | with_reducible apply same_flag
    | with_reducible apply same_railStop | dsimp only | split

theorem same_seqRestart0 {p : Part} {s u : State} {a1 : Nat} (hu : p.same s u) (h : keeps Foot.seqRestart0 p = true) :
    p.same s (State.seqRestart0 u a1) := by
  simp [Foot.seqRestart0, and_assoc] at h
  unfold State.seqRestart0
  repeat' first
    | with_reducible assumption | intro _ | with_reducible exact same_refl | with_reducible apply same_each
    | with_reducible apply same_set | with_reducible apply same_ite | with_reducible apply same_ite_fst
    | with_reducible apply same_ite_state | dsimp only | split

theorem same_portRise {p : Part} {s u : State} {a1 : Nat} (hu : p.same s u) (h : keeps Foot.portRise p = true) :
    p.same s (State.portRise u a1) := by
  simp [Foot.portRise, and_assoc] at h
  obtain ⟨h1, h2, h3, h4, h5, h6⟩ := h
  unfold State.portRise
  repeat' first
    | with_reducible assumption | intro _ | with_reducible exact same_refl | with_reducible apply same_flag
    | with_reducible apply same_set | with_reducible apply same_setPort | with_reducible apply same_abortSlice
    | with_reducible apply same_seqRestart0 | with_reducible apply same_ite | dsimp only | split

theorem same_portsFollow {p : Part} {s u : State}  (hu : p.same s u) (h : keeps Foot.portsFollow p = true) :
    p.same s (State.portsFollow u) := by
  simp [Foot.portsFollow, and_assoc] at h
  unfold State.portsFollow
  repeat' first
    | with_reducible assumption | intro _ | with_reducible exact same_refl | with_reducible apply same_each
    | with_reducible apply same_portRise | with_reducible apply same_ite | with_reducible apply same_ite_fst
    | with_reducible apply same_ite_state | dsimp only | split

theorem same_railInit {p : Part} {s u : State} {a1 : Nat} (hu : p.same s u) (h : keeps Foot.railInit p = true) :
    p.same s (State.railInit u a1) := by
  simp [Foot.railInit, and_assoc] at h
  obtain ⟨h1, h2⟩ := h
  unfold State.railInit
  repeat' first
    | with_reducible assumption | intro _ | with_reducible exact same_refl | with_reducible apply same_set | dsimp only

theorem same_railsGo {p : Part} {s u : State}  (hu : p.same s u) (h : keeps Foot.railsGo p = true) :
    p.same s (State.railsGo u) := by
  simp [Foot.railsGo, and_assoc] at h
  obtain ⟨h1, h2⟩ := h
  unfold State.railsGo
  repeat' first
    | with_reducible assumption | intro _ | with_reducible exact same_refl | with_reducible apply same_each
    | with_reducible apply same_abortSlice | with_reducible apply same_railTurnOn | with_reducible apply same_ite
    | with_reducible apply same_ite_fst | with_reducible apply same_ite_state | dsimp only | split

theorem same_startVaux {p : Part} {s u : State}  (hu : p.same s u) (h : keeps Foot.startVaux p = true) :
    p.same s (State.startVaux u) := by
  simp [Foot.startVaux, and_assoc] at h
  obtain ⟨h1, h2⟩ := h
  unfold State.startVaux
  repeat' first
    | with_reducible assumption | intro _ | with_reducible exact same_refl | with_reducible apply same_flag
    | with_reducible apply same_abortSlice | with_reducible apply same_ite | dsimp only | split

theorem same_demandOn {p : Part} {s u : State}  (hu : p.same s u) (h : keeps Foot.demandOn p = true) :
    p.same s (State.demandOn u) := by
  simp [Foot.demandOn, and_assoc] at h
  obtain ⟨h1, h2, h3, h4, h5, h6, h7, h8, h9, h10⟩ := h
  unfold State.demandOn
  repeat' first
    | with_reducible assumption | intro _ | with_reducible exact same_refl | with_reducible apply same_each
    | with_reducible apply same_flag | with_reducible apply same_set | with_reducible apply same_railSoft
    | with_reducible apply same_railInit | with_reducible apply same_railStop | with_reducible apply same_railsGo
    | with_reducible apply same_startVpre | with_reducible apply same_startVaux | with_reducible apply same_ite
    | with_reducible apply same_ite_fst | with_reducible apply same_ite_state | with_reducible apply off_ite | dsimp only
    | split

theorem same_cancelCutoff {p : Part} {s u : State}  (hu : p.same s u) (h : keeps Foot.cancelCutoff p = true) :
    p.same s (State.cancelCutoff u) := by
  simp [Foot.cancelCutoff, and_assoc] at h
  obtain ⟨h1, h2, h3⟩ := h
  unfold State.cancelCutoff
  repeat' first
    | with_reducible assumption | intro _ | with_reducible exact same_refl | with_reducible apply same_iff
    | with_reducible apply same_flag | with_reducible apply same_portsFollow | with_reducible apply same_demandOn
    | with_reducible apply same_ite | dsimp only | split

theorem same_vauxMove {p : Part} {s u : State}  (hu : p.same s u) (h : keeps Foot.vauxMove p = true) :
    p.same s (State.vauxMove u) := by
  simp [Foot.vauxMove, and_assoc] at h
  unfold State.vauxMove
  repeat' first
    | with_reducible assumption | intro _ | with_reducible exact same_refl | with_reducible apply same_set
    | with_reducible apply same_ite | with_reducible apply off_ite | dsimp only | split

theorem same_vpreGood {p : Part} {s u : State}  (hu : p.same s u) (h : keeps Foot.vpreGood p = true) :
    p.same s (State.vpreGood u) := by
  simp [Foot.vpreGood, and_assoc] at h
  unfold State.vpreGood
  repeat' first
    | with_reducible assumption | intro _ | with_reducible exact same_refl | with_reducible apply same_iff
    | with_reducible apply same_clear | dsimp only

theorem same_stopVpre {p : Part} {s u : State} {a1 : Nat} (hu : p.same s u) (h : keeps Foot.stopVpre p = true) :
    p.same s (State.stopVpre u a1) := by
  simp [Foot.stopVpre, and_assoc] at h
  obtain ⟨h1, h2, h3, h4, h5, h6, h7, h8⟩ := h
  unfold State.stopVpre
  repeat' first
    | with_reducible assumption | intro _ | with_reducible exact same_refl | with_reducible apply same_set
    | with_reducible apply same_flag | with_reducible apply same_vpreGood | with_reducible apply same_abortSlice
    | with_reducible apply same_dieFollow | with_reducible apply same_ite | with_reducible apply off_ite | dsimp only
    | split

end Sys2Proof.Machine.Part
end

