-- ==== Sys2Proof/Laws/SameRing.lean ====
section
/-! SUPPORT. What the operations of Machine/Ring.lean leave as before: one lemma for each. -/

set_option linter.all false

namespace Sys2Proof.Machine.Part

theorem same_headAt {p : Part} {s u : State} {a1 : Nat} {a2 : Nat} {a3 : Nat} {a4 : Nat} (hu : p.same s u) (h : keeps Foot.headAt p = true) :
    p.same s (State.headAt u a1 a2 a3 a4) := by
  simp [Foot.headAt, and_assoc] at h
  obtain ⟨h1, h2, h3, h4⟩ := h
  unfold State.headAt
  repeat' first
    | with_reducible assumption | intro _ | with_reducible exact same_refl | with_reducible apply same_set | dsimp only

theorem same_findHead {p : Part} {s u : State} {a1 : Bool} (hu : p.same s u) (h : keeps Foot.findHead p = true) :
    p.same s (State.findHead u a1).1 := by
  simp [Foot.findHead, and_assoc] at h
  obtain ⟨h1, h2, h3⟩ := h
  unfold State.findHead
  repeat' first
    | with_reducible assumption | intro _ | with_reducible exact same_refl | with_reducible apply same_flag
    | with_reducible apply same_iff | with_reducible apply same_set | with_reducible apply same_headAt | dsimp only | split

theorem same_growBad {p : Part} {s u : State} {a1 : Nat} (hu : p.same s u) (h : keeps Foot.growBad p = true) :
    p.same s (State.growBad u a1) := by
  simp [Foot.growBad, and_assoc] at h
  obtain ⟨h1, h2, h3, h4, h5, h6⟩ := h
  unfold State.growBad
  repeat' first
    | with_reducible assumption | intro _ | with_reducible exact same_refl | with_reducible apply same_set
    | with_reducible apply same_iff | with_reducible apply same_latch | with_reducible apply same_ite
    | with_reducible apply same_ite_fst | with_reducible apply same_ite_state | dsimp only | split
    | with_reducible apply same_with_grownBad | with_reducible apply same_with_table6
    | with_reducible apply same_with_table7 | with_reducible apply same_with_table6_table7
    | with_reducible apply same_with_grownBad_table6_table7

theorem same_scanErase {p : Part} {s u : State} {a1 : List Nat} (hu : p.same s u) (h : keeps Foot.scanErase p = true) :
    p.same s (State.scanErase u a1) := by
  simp [Foot.scanErase, and_assoc] at h
  obtain ⟨h1, h2, h3, h4, h5⟩ := h
  unfold State.scanErase
  repeat' first
    | with_reducible assumption | intro _ | with_reducible exact same_refl | with_reducible apply same_latch
    | with_reducible apply same_editRetained | with_reducible apply same_growBad | with_reducible apply same_ite
    | with_reducible apply same_foldl | with_reducible apply same_ite_fst | with_reducible apply same_ite_state | dsimp only
    | split | with_reducible apply same_with_ring | with_reducible apply same_with_ahead
    | with_reducible apply same_with_ring_ahead

theorem same_marginFollow {p : Part} {s u : State}  (hu : p.same s u) (h : keeps Foot.marginFollow p = true) :
    p.same s (State.marginFollow u) := by
  simp [Foot.marginFollow, and_assoc] at h
  obtain ⟨h1, h2, h3, h4, h5⟩ := h
  unfold State.marginFollow
  repeat' first
    | with_reducible assumption | intro _ | with_reducible exact same_refl | with_reducible apply same_flag
    | with_reducible apply same_set | with_reducible apply same_latchStand | with_reducible apply same_ended
    | with_reducible apply same_ite | dsimp only | split

theorem same_takeBlock {p : Part} {s u : State}  (hu : p.same s u) (h : keeps Foot.takeBlock p = true) :
    p.same s (State.takeBlock u) := by
  simp [Foot.takeBlock, and_assoc] at h
  obtain ⟨h1, h2, h3, h4, h5, h6, h7⟩ := h
  unfold State.takeBlock
  repeat' first
    | with_reducible assumption | intro _ | with_reducible exact same_refl | with_reducible apply same_set
    | with_reducible apply same_flag | with_reducible apply same_marginFollow | with_reducible apply same_ite | dsimp only
    | split | with_reducible apply same_with_ahead

theorem same_nextPage {p : Part} {s u : State}  (hu : p.same s u) (h : keeps Foot.nextPage p = true) :
    p.same s (State.nextPage u) := by
  simp [Foot.nextPage, and_assoc] at h
  obtain ⟨h1, h2, h3⟩ := h
  unfold State.nextPage
  repeat' first
    | with_reducible assumption | intro _ | with_reducible exact same_refl | with_reducible apply same_set
    | with_reducible apply same_takeBlock | with_reducible apply same_ite | dsimp only | split

theorem same_ringFollow {p : Part} {s u : State}  (hu : p.same s u) (h : keeps Foot.ringFollow p = true) :
    p.same s (State.ringFollow u) := by
  simp [Foot.ringFollow, and_assoc] at h
  obtain ⟨h1, h2⟩ := h
  unfold State.ringFollow
  repeat' first
    | with_reducible assumption | intro _ | with_reducible exact same_refl | with_reducible apply same_set | dsimp only

theorem same_scanHead {p : Part} {s u : State} {a1 : Bool} {a2 : List Nat} (hu : p.same s u) (h : keeps Foot.scanHead p = true) :
    p.same s (State.scanHead u a1 a2) := by
  simp [Foot.scanHead, and_assoc] at h
  obtain ⟨h1, h2, h3, h4, h5, h6, h7⟩ := h
  unfold State.scanHead
  repeat' first
    | with_reducible assumption | intro _ | with_reducible exact same_refl | with_reducible apply same_flag
    | with_reducible apply same_findHead | with_reducible apply same_scanErase | with_reducible apply same_takeBlock
    | with_reducible apply same_nextPage | with_reducible apply same_ringFollow | with_reducible apply same_marginFollow
    | with_reducible apply same_ite | with_reducible apply same_ite_fst | with_reducible apply same_ite_state | dsimp only
    | split

theorem same_bootScan {p : Part} {s u : State} {a1 : Bool} {a2 : List Nat} (hu : p.same s u) (h : keeps Foot.bootScan p = true) :
    p.same s (State.bootScan u a1 a2).1 := by
  simp [Foot.bootScan, and_assoc] at h
  obtain ⟨h1, h2, h3, h4, h5, h6, h7, h8, h9, h10⟩ := h
  unfold State.bootScan
  repeat' first
    | with_reducible assumption | intro _ | with_reducible exact same_refl | with_reducible apply same_flag
    | with_reducible apply same_set | with_reducible apply same_latch | with_reducible apply same_scanHead
    | with_reducible apply same_saveRetained | with_reducible apply same_ite | with_reducible apply same_ite_fst
    | with_reducible apply same_ite_state | dsimp only | split

theorem same_eraseOver {p : Part} {s u : State}  (hu : p.same s u) (h : keeps Foot.eraseOver p = true) :
    p.same s (State.eraseOver u) := by
  simp [Foot.eraseOver, and_assoc] at h
  obtain ⟨h1, h2, h3⟩ := h
  unfold State.eraseOver
  repeat' first
    | with_reducible assumption | intro _ | with_reducible exact same_refl | with_reducible apply same_flag | dsimp only
    | with_reducible apply same_with_erase

theorem same_abortErase {p : Part} {s u : State}  (hu : p.same s u) (h : keeps Foot.abortErase p = true) :
    p.same s (State.abortErase u) := by
  simp [Foot.abortErase, and_assoc] at h
  obtain ⟨h1, h2⟩ := h
  unfold State.abortErase
  repeat' first
    | with_reducible assumption | intro _ | with_reducible exact same_refl | with_reducible apply same_eraseOver
    | with_reducible apply same_editRetained | with_reducible apply same_ite | with_reducible apply same_ite_fst
    | with_reducible apply same_ite_state | dsimp only | split

theorem same_deferPending {p : Part} {s u : State}  (hu : p.same s u) (h : keeps Foot.deferPending p = true) :
    p.same s (State.deferPending u) := by
  simp [Foot.deferPending, and_assoc] at h
  unfold State.deferPending
  repeat' first
    | with_reducible assumption | intro _ | with_reducible exact same_refl | with_reducible apply same_ite
    | with_reducible apply same_ite_fst | with_reducible apply same_ite_state | dsimp only | split
    | with_reducible apply same_with_slots

theorem same_addSector {p : Part} {s u : State} {a1 : List Rec} {a2 : Bool} {a3 : Nat} (hu : p.same s u) (h : keeps Foot.addSector p = true) :
    p.same s (State.addSector u a1 a2 a3) := by
  simp [Foot.addSector, and_assoc] at h
  obtain ⟨h1, h2, h3⟩ := h
  unfold State.addSector
  repeat' first
    | with_reducible assumption | intro _ | with_reducible exact same_refl | with_reducible apply same_flag
    | with_reducible apply same_set | with_reducible apply same_ite | dsimp only | split
    | with_reducible apply same_with_ring

theorem same_freeSlots {p : Part} {s u : State}  (hu : p.same s u) (h : keeps Foot.freeSlots p = true) :
    p.same s (State.freeSlots u) := by
  simp [Foot.freeSlots, and_assoc] at h
  unfold State.freeSlots
  repeat' first
    | with_reducible assumption | intro _ | with_reducible exact same_refl | dsimp only
    | with_reducible apply same_with_slots

theorem same_reErased {p : Part} {s u : State} {a1 : Nat} (hu : p.same s u) (h : keeps Foot.reErased p = true) :
    p.same s (State.reErased u a1) := by
  simp [Foot.reErased, and_assoc] at h
  unfold State.reErased
  repeat' first
    | with_reducible assumption | intro _ | with_reducible exact same_refl | with_reducible apply same_editRetained
    | dsimp only

theorem same_blockErased {p : Part} {s u : State} {a1 : Nat} (hu : p.same s u) (h : keeps Foot.blockErased p = true) :
    p.same s (State.blockErased u a1) := by
  simp [Foot.blockErased, and_assoc] at h
  obtain ⟨h1, h2, h3, h4, h5, h6, h7⟩ := h
  unfold State.blockErased
  repeat' first
    | with_reducible assumption | intro _ | with_reducible exact same_refl | with_reducible apply same_marginFollow
    | with_reducible apply same_ringFollow | with_reducible apply same_reErased | with_reducible apply same_saveRetained
    | with_reducible apply same_takeBlock | with_reducible apply same_ite | with_reducible apply same_ite_fst
    | with_reducible apply same_ite_state | with_reducible apply off_ite | dsimp only | split
    | with_reducible apply same_with_ring | with_reducible apply same_with_ahead | with_reducible apply same_with_ring_ahead

theorem same_advanceHead {p : Part} {s u : State}  (hu : p.same s u) (h : keeps Foot.advanceHead p = true) :
    p.same s (State.advanceHead u) := by
  simp [Foot.advanceHead, and_assoc] at h
  obtain ⟨h1, h2⟩ := h
  unfold State.advanceHead
  repeat' first
    | with_reducible assumption | intro _ | with_reducible exact same_refl | with_reducible apply same_set
    | with_reducible apply same_nextPage | with_reducible apply same_ite | dsimp only | split

theorem same_startProgram {p : Part} {s u : State}  (hu : p.same s u) (h : keeps Foot.startProgram p = true) :
    p.same s (State.startProgram u) := by
  simp [Foot.startProgram, and_assoc] at h
  unfold State.startProgram
  repeat' first
    | with_reducible assumption | intro _ | with_reducible exact same_refl | with_reducible apply same_ite | dsimp only
    | split | with_reducible apply same_with_program

theorem same_commitCount {p : Part} {s u : State} {a1 : QSlot} (hu : p.same s u) (h : keeps Foot.commitCount p = true) :
    p.same s (State.commitCount u a1) := by
  simp [Foot.commitCount, and_assoc] at h
  obtain ⟨h1, h2, h3⟩ := h
  unfold State.commitCount
  repeat' first
    | with_reducible assumption | intro _ | with_reducible exact same_refl | with_reducible apply same_set
    | with_reducible apply same_inc | with_reducible apply same_latch | with_reducible apply same_ite | dsimp only | split

theorem same_commitSector {p : Part} {s u : State} {a1 : Program} (hu : p.same s u) (h : keeps Foot.commitSector p = true) :
    p.same s (State.commitSector u a1) := by
  simp [Foot.commitSector, and_assoc] at h
  obtain ⟨h1, h2, h3, h4, h5, h6, h7, h8⟩ := h
  unfold State.commitSector
  repeat' first
    | with_reducible assumption | intro _ | with_reducible exact same_refl | with_reducible apply same_addSector
    | with_reducible apply same_freeSlots | with_reducible apply same_ringFollow | with_reducible apply same_advanceHead
    | with_reducible apply same_saveRetained | with_reducible apply same_commitCount | with_reducible apply same_foldl
    | dsimp only | with_reducible apply same_with_slots | with_reducible apply same_with_program
    | with_reducible apply same_with_slots_program

end Sys2Proof.Machine.Part
end

