-- ==== Sys2Proof/Laws/SameStore.lean ====
section
/-! SUPPORT. What the operations of Machine/Store.lean leave as before: one lemma for each. -/

set_option linter.all false

namespace Sys2Proof.Machine.Part

theorem same_cfgEventOf {p : Part} {s u : State} {a1 : Nat} {a2 : Nat} {a3 : Option CfgSlot} {a4 : Nat} (hu : p.same s u) (h : keeps Foot.cfgEventOf p = true) :
    p.same s (State.cfgEventOf u a1 a2 a3 a4) := by
  simp [Foot.cfgEventOf, and_assoc] at h
  unfold State.cfgEventOf
  repeat' first
    | with_reducible assumption | intro _ | with_reducible exact same_refl | with_reducible apply same_record | dsimp only
    | split

theorem same_cfgEvent {p : Part} {s u : State} {a1 : Nat} {a2 : Nat} (hu : p.same s u) (h : keeps Foot.cfgEvent p = true) :
    p.same s (State.cfgEvent u a1 a2) := by
  simp [Foot.cfgEvent, and_assoc] at h
  unfold State.cfgEvent
  repeat' first
    | with_reducible assumption | intro _ | with_reducible exact same_refl | with_reducible apply same_cfgEventOf
    | dsimp only

theorem same_storeRegs {p : Part} {s u : State}  (hu : p.same s u) (h : keeps Foot.storeRegs p = true) :
    p.same s (State.storeRegs u) := by
  simp [Foot.storeRegs, and_assoc] at h
  obtain ⟨h1, h2, h3, h4, h5, h6, h7, h8⟩ := h
  unfold State.storeRegs
  repeat' first
    | with_reducible assumption | intro _ | with_reducible exact same_refl | with_reducible apply same_flag
    | with_reducible apply same_set | dsimp only

theorem same_stageEmpty {p : Part} {s u : State}  (hu : p.same s u) (h : keeps Foot.stageEmpty p = true) :
    p.same s (State.stageEmpty u) := by
  simp [Foot.stageEmpty, and_assoc] at h
  obtain ⟨h1, h2⟩ := h
  unfold State.stageEmpty
  repeat' first
    | with_reducible assumption | intro _ | with_reducible exact same_refl | with_reducible apply same_set | dsimp only

theorem same_committed {p : Part} {s u : State} {a1 : StoreOp} (hu : p.same s u) (h : keeps Foot.committed p = true) :
    p.same s (State.committed u a1) := by
  simp [Foot.committed, and_assoc] at h
  obtain ⟨h1, h2, h3, h4, h5⟩ := h
  unfold State.committed
  repeat' first
    | with_reducible assumption | intro _ | with_reducible exact same_refl | with_reducible apply same_flag
    | with_reducible apply same_cfgEvent | with_reducible apply same_storeRegs | with_reducible apply same_stageEmpty
    | dsimp only | with_reducible apply same_with_target

theorem same_pushOp {p : Part} {s u : State} {a1 : StoreKind} {a2 : List Byte} {a3 : SlotRec} {a4 : List StoreStep} (hu : p.same s u) (h : keeps Foot.pushOp p = true) :
    p.same s (State.pushOp u a1 a2 a3 a4) := by
  simp [Foot.pushOp, and_assoc] at h
  obtain ⟨h1, h2, h3⟩ := h
  unfold State.pushOp
  repeat' first
    | with_reducible assumption | intro _ | with_reducible exact same_refl | with_reducible apply same_storeRegs
    | with_reducible apply same_startVpre | with_reducible apply same_ite | dsimp only | split
    | with_reducible apply same_with_storeOps

theorem same_repairsOf {p : Part} {s u : State} {a1 : CfgSlot} (hu : p.same s u) (h : keeps Foot.repairsOf p = true) :
    p.same s (State.repairsOf u a1) := by
  simp [Foot.repairsOf, and_assoc] at h
  unfold State.repairsOf
  repeat' first
    | with_reducible assumption | intro _ | with_reducible exact same_refl | with_reducible apply same_each
    | with_reducible apply same_pushOp | with_reducible apply same_ite | with_reducible apply same_ite_fst
    | with_reducible apply same_ite_state | dsimp only | split

theorem same_queueRepairs {p : Part} {s u : State}  (hu : p.same s u) (h : keeps Foot.queueRepairs p = true) :
    p.same s (State.queueRepairs u) := by
  simp [Foot.queueRepairs, and_assoc] at h
  unfold State.queueRepairs
  repeat' first
    | with_reducible assumption | intro _ | with_reducible exact same_refl | with_reducible apply same_repairsOf
    | dsimp only | split

theorem same_reverted {p : Part} {s u : State} {a1 : StoreOp} {a2 : Nat} (hu : p.same s u) (h : keeps Foot.reverted p = true) :
    p.same s (State.reverted u a1 a2) := by
  simp [Foot.reverted, and_assoc] at h
  obtain ⟨h1, h2, h3, h4, h5⟩ := h
  unfold State.reverted
  repeat' first
    | with_reducible assumption | intro _ | with_reducible exact same_refl | with_reducible apply same_set
    | with_reducible apply same_flag | with_reducible apply same_cfgEventOf | with_reducible apply same_storeRegs
    | with_reducible apply same_ite | dsimp only | split | with_reducible apply same_with_target

theorem same_onCopy {p : Part} {s u : State} {a1 : Nat} {a2 : CfgCopy → CfgCopy} (hu : p.same s u) (h : keeps Foot.onCopy p = true) :
    p.same s (State.onCopy u a1 a2) := by
  simp [Foot.onCopy, and_assoc] at h
  unfold State.onCopy
  repeat' first
    | with_reducible assumption | intro _ | with_reducible exact same_refl | with_reducible apply same_ite
    | with_reducible apply same_ite_fst | with_reducible apply same_ite_state | dsimp only | split
    | with_reducible apply same_with_copies

theorem same_copyBlockBad {p : Part} {s u : State} {a1 : Nat} (hu : p.same s u) (h : keeps Foot.copyBlockBad p = true) :
    p.same s (State.copyBlockBad u a1) := by
  simp [Foot.copyBlockBad, and_assoc] at h
  obtain ⟨h1, h2, h3⟩ := h
  unfold State.copyBlockBad
  repeat' first
    | with_reducible assumption | intro _ | with_reducible exact same_refl | with_reducible apply same_latch
    | with_reducible apply same_onCopy | with_reducible apply same_growBad | with_reducible apply same_ite
    | with_reducible apply same_ite_fst | with_reducible apply same_ite_state | dsimp only | split

theorem same_stepDone {p : Part} {s u : State} {a1 : StoreOp} {a2 : StoreStep} (hu : p.same s u) (h : keeps Foot.stepDone p = true) :
    p.same s (State.stepDone u a1 a2) := by
  simp [Foot.stepDone, and_assoc] at h
  unfold State.stepDone
  repeat' first
    | with_reducible assumption | intro _ | with_reducible exact same_refl | with_reducible apply same_onCopy
    | with_reducible apply same_ite | with_reducible apply same_ite_fst | with_reducible apply same_ite_state | dsimp only
    | split

theorem same_commitAborted {p : Part} {s u : State} {a1 : Nat} (hu : p.same s u) (h : keeps Foot.commitAborted p = true) :
    p.same s (State.commitAborted u a1) := by
  simp [Foot.commitAborted, and_assoc] at h
  obtain ⟨h1, h2, h3, h4⟩ := h
  unfold State.commitAborted
  repeat' first
    | with_reducible assumption | intro _ | with_reducible exact same_refl | with_reducible apply same_latch
    | with_reducible apply same_cfgEvent | with_reducible apply same_storeRegs | with_reducible apply same_stageEmpty
    | dsimp only

theorem same_trialOver {p : Part} {s u : State}  (hu : p.same s u) (h : keeps Foot.trialOver p = true) :
    p.same s (State.trialOver u) := by
  simp [Foot.trialOver, and_assoc] at h
  obtain ⟨h1, h2, h3⟩ := h
  unfold State.trialOver
  repeat' first
    | with_reducible assumption | intro _ | with_reducible exact same_refl | with_reducible apply same_clear
    | with_reducible apply same_flag | with_reducible apply same_editRetained | dsimp only

theorem same_opDone {p : Part} {s u : State} {a1 : StoreOp} (hu : p.same s u) (h : keeps Foot.opDone p = true) :
    p.same s (State.opDone u a1) := by
  simp [Foot.opDone, and_assoc] at h
  obtain ⟨h1, h2, h3, h4, h5, h6, h7, h8⟩ := h
  unfold State.opDone
  repeat' first
    | with_reducible assumption | intro _ | with_reducible exact same_refl | with_reducible apply same_iff
    | with_reducible apply same_latch | with_reducible apply same_commitAborted | with_reducible apply same_committed
    | with_reducible apply same_storeRegs | with_reducible apply same_reverted | with_reducible apply same_cfgEvent
    | with_reducible apply same_trialOver | with_reducible apply same_ite | dsimp only | split
    | with_reducible apply same_with_storeOps

theorem same_storeGo {p : Part} {s u : State} {a0 : Nat} (hu : p.same s u) (h : keeps Foot.storeGo p = true) :
    p.same s (State.storeGo a0 u) := by
  simp [Foot.storeGo, and_assoc] at h
  obtain ⟨h1, h2, h3⟩ := h
  induction a0 generalizing u with
  | zero => exact same_storeRegs hu (by assumption)
  | succ n ih =>
    unfold State.storeGo
    repeat' first
      | with_reducible assumption
      | with_reducible exact same_refl
      | with_reducible apply same_storeRegs
      | with_reducible apply ih
      | with_reducible apply same_opDone
      | split
      | with_reducible apply same_with_storeOps

theorem same_storeSettle {p : Part} {s u : State}  (hu : p.same s u) (h : keeps Foot.storeSettle p = true) :
    p.same s (State.storeSettle u) := by
  simp [Foot.storeSettle, and_assoc] at h
  unfold State.storeSettle
  repeat' first
    | with_reducible assumption | intro _ | with_reducible exact same_refl | with_reducible apply same_storeGo | dsimp only

theorem same_stepEraseFailed {p : Part} {s u : State} {a1 : StoreOp} {a2 : StoreStep} (hu : p.same s u) (h : keeps Foot.stepEraseFailed p = true) :
    p.same s (State.stepEraseFailed u a1 a2) := by
  simp [Foot.stepEraseFailed, and_assoc] at h
  obtain ⟨h1, h2, h3, h4, h5⟩ := h
  unfold State.stepEraseFailed
  repeat' first
    | with_reducible assumption | intro _ | with_reducible exact same_refl | with_reducible apply same_latch
    | with_reducible apply same_copyBlockBad | with_reducible apply same_stepDone | with_reducible apply same_storeSettle
    | dsimp only | with_reducible apply same_with_storeOps

theorem same_stepComplete {p : Part} {s u : State} {a1 : StoreOp} {a2 : StoreStep} (hu : p.same s u) (h : keeps Foot.stepComplete p = true) :
    p.same s (State.stepComplete u a1 a2) := by
  simp [Foot.stepComplete, and_assoc] at h
  obtain ⟨h1, h2, h3⟩ := h
  unfold State.stepComplete
  repeat' first
    | with_reducible assumption | intro _ | with_reducible exact same_refl | with_reducible apply same_stepDone
    | with_reducible apply same_storeSettle | with_reducible apply same_ite | dsimp only | split
    | with_reducible apply same_with_storeOps

theorem same_pushMark {p : Part} {s u : State} {a1 : StoreKind} {a2 : Nat → StoreStep} (hu : p.same s u) (h : keeps Foot.pushMark p = true) :
    p.same s (State.pushMark u a1 a2) := by
  simp [Foot.pushMark, and_assoc] at h
  unfold State.pushMark
  repeat' first
    | with_reducible assumption | intro _ | with_reducible exact same_refl | with_reducible apply same_pushOp | dsimp only
    | split

theorem same_startRevert {p : Part} {s u : State} {a1 : Nat} (hu : p.same s u) (h : keeps Foot.startRevert p = true) :
    p.same s (State.startRevert u a1) := by
  simp [Foot.startRevert, and_assoc] at h
  obtain ⟨h1, h2⟩ := h
  unfold State.startRevert
  repeat' first
    | with_reducible assumption | intro _ | with_reducible exact same_refl | with_reducible apply same_flag
    | with_reducible apply same_pushMark | dsimp only

theorem same_selfReject {p : Part} {s u : State}  (hu : p.same s u) (h : keeps Foot.selfReject p = true) :
    p.same s (State.selfReject u) := by
  simp [Foot.selfReject, and_assoc] at h
  unfold State.selfReject
  repeat' first
    | with_reducible assumption | intro _ | with_reducible exact same_refl | with_reducible apply same_startRevert
    | with_reducible apply same_ite | dsimp only | split

theorem same_stopCommit {p : Part} {s u : State} {a1 : Nat} (hu : p.same s u) (h : keeps Foot.stopCommit p = true) :
    p.same s (State.stopCommit u a1) := by
  simp [Foot.stopCommit, and_assoc] at h
  obtain ⟨h1, h2⟩ := h
  unfold State.stopCommit
  repeat' first
    | with_reducible assumption | intro _ | with_reducible exact same_refl | with_reducible apply same_set
    | with_reducible apply same_ite | dsimp only | split | with_reducible apply same_with_storeOps

theorem same_startConfirm {p : Part} {s u : State}  (hu : p.same s u) (h : keeps Foot.startConfirm p = true) :
    p.same s (State.startConfirm u) := by
  simp [Foot.startConfirm, and_assoc] at h
  unfold State.startConfirm
  repeat' first
    | with_reducible assumption | intro _ | with_reducible exact same_refl | with_reducible apply same_pushMark
    | with_reducible apply same_ite | with_reducible apply same_ite_fst | with_reducible apply same_ite_state | dsimp only
    | split

theorem same_reportAbort {p : Part} {s u : State}  (hu : p.same s u) (h : keeps Foot.reportAbort p = true) :
    p.same s (State.reportAbort u) := by
  simp [Foot.reportAbort, and_assoc] at h
  obtain ⟨h1, h2, h3, h4, h5, h6⟩ := h
  unfold State.reportAbort
  repeat' first
    | with_reducible assumption | intro _ | with_reducible exact same_refl | with_reducible apply same_set
    | with_reducible apply same_storeRegs | with_reducible apply same_repairsOf | with_reducible apply same_committed
    | with_reducible apply same_commitAborted | with_reducible apply same_ite | dsimp only | split
    | with_reducible apply same_with_storeOps

theorem same_stopStore {p : Part} {s u : State}  (hu : p.same s u) (h : keeps Foot.stopStore p = true) :
    p.same s (State.stopStore u) := by
  simp [Foot.stopStore, and_assoc] at h
  obtain ⟨h1, h2⟩ := h
  unfold State.stopStore
  repeat' first
    | with_reducible assumption | intro _ | with_reducible exact same_refl | with_reducible apply same_set
    | with_reducible apply same_stopCommit | with_reducible apply same_ite | dsimp only | split

theorem same_startCommit {p : Part} {s u : State} {a1 : List Byte} {a2 : Nat} {a3 : Nat} {a4 : Bool} (hu : p.same s u) (h : keeps Foot.startCommit p = true) :
    p.same s (State.startCommit u a1 a2 a3 a4) := by
  simp [Foot.startCommit, and_assoc] at h
  obtain ⟨h1, h2⟩ := h
  unfold State.startCommit
  repeat' first
    | with_reducible assumption | intro _ | with_reducible exact same_refl | with_reducible apply same_commitAborted
    | with_reducible apply same_pushOp | with_reducible apply same_ite | dsimp only | split

theorem same_stepFailed {p : Part} {s u : State} {a1 : StoreOp} {a2 : StoreStep} (hu : p.same s u) (h : keeps Foot.stepFailed p = true) :
    p.same s (State.stepFailed u a1 a2) := by
  simp [Foot.stepFailed, and_assoc] at h
  obtain ⟨h1, h2, h3, h4, h5⟩ := h
  unfold State.stepFailed
  repeat' first
    | with_reducible assumption | intro _ | with_reducible exact same_refl | with_reducible apply same_latch
    | with_reducible apply same_copyBlockBad | with_reducible apply same_onCopy | with_reducible apply same_storeSettle
    | with_reducible apply same_ite | with_reducible apply same_ite_fst | with_reducible apply same_ite_state | dsimp only
    | split | with_reducible apply same_with_storeOps

theorem same_startStoreProgram {p : Part} {s u : State}  (hu : p.same s u) (h : keeps Foot.startStoreProgram p = true) :
    p.same s (State.startStoreProgram u) := by
  simp [Foot.startStoreProgram, and_assoc] at h
  unfold State.startStoreProgram
  repeat' first
    | with_reducible assumption | intro _ | with_reducible exact same_refl | with_reducible apply same_ite | dsimp only
    | split | with_reducible apply same_with_program

end Sys2Proof.Machine.Part
end

