-- ==== Sys2Proof/Laws/SameEngine.lean ====
section
/-! SUPPORT. What the operations of Machine/Engine.lean leave as before: one lemma for each. -/

set_option linter.all false

namespace Sys2Proof.Machine.Part

theorem same_evictTo {p : Part} {s u : State} {a0 : Nat} {a2 : Nat} (hu : p.same s u) (h : keeps Foot.evictTo p = true) :
    p.same s (State.evictTo a0 u a2) := by
  simp [Foot.evictTo, and_assoc] at h
  obtain ⟨h1, h2⟩ := h
  induction a0 generalizing u with
  | zero => exact hu
  | succ n ih =>
    unfold State.evictTo
    repeat' first
      | with_reducible assumption
      | with_reducible exact same_refl
      | with_reducible apply ih
      | with_reducible apply same_inc
      | with_reducible apply same_ite
      | split
      | with_reducible apply same_with_slots

theorem same_limitStep {p : Part} {s u : State} {a1 : Nat} {a2 : Bool} {a3 : Int} (hu : p.same s u) (h : keeps Foot.limitStep p = true) :
    p.same s (State.limitStep u a1 a2 a3).1 := by
  simp [Foot.limitStep, and_assoc] at h
  obtain ⟨h1, h2⟩ := h
  unfold State.limitStep
  repeat' first
    | with_reducible assumption | intro _ | with_reducible exact same_refl | with_reducible apply same_flag | dsimp only

theorem same_capFollow {p : Part} {s u : State}  (hu : p.same s u) (h : keeps Foot.capFollow p = true) :
    p.same s (State.capFollow u) := by
  simp [Foot.capFollow, and_assoc] at h
  unfold State.capFollow
  repeat' first
    | with_reducible assumption | intro _ | with_reducible exact same_refl | with_reducible apply same_flag | dsimp only

theorem same_countAlarm {p : Part} {s u : State} {a1 : Nat} {a2 : Bool} (hu : p.same s u) (h : keeps Foot.countAlarm p = true) :
    p.same s (State.countAlarm u a1 a2) := by
  simp [Foot.countAlarm, and_assoc] at h
  unfold State.countAlarm
  repeat' first
    | with_reducible assumption | intro _ | with_reducible exact same_refl | with_reducible apply same_set
    | with_reducible apply same_ite | dsimp only | split

theorem same_engineRelease {p : Part} {s u : State} {a1 : Nat} (hu : p.same s u) (h : keeps Foot.engineRelease p = true) :
    p.same s (State.engineRelease u a1) := by
  simp [Foot.engineRelease, and_assoc] at h
  obtain ⟨h1, h2, h3, h4, h5, h6, h7, h8, h9, h10, h11, h12, h13, h14, h15, h16, h17, h18, h19, h20, h21, h22, h23, h24⟩ := h
  unfold State.engineRelease
  repeat' first
    | with_reducible apply same_clears | (with_reducible apply same_countAlarm)
    | (simp only [trackerRegs, List.cons_append, List.nil_append, List.all_cons, List.all_nil, Bool.and_eq_true, and_true, *]; done)
    | with_reducible assumption | intro _ | with_reducible exact same_refl | with_reducible apply same_each
    | with_reducible apply same_clear | with_reducible apply same_countAlarm | with_reducible apply same_foldl | dsimp only

theorem same_alertFollow {p : Part} {s u : State} {a1 : Nat} (hu : p.same s u) (h : keeps Foot.alertFollow p = true) :
    p.same s (State.alertFollow u a1) := by
  simp [Foot.alertFollow, and_assoc] at h
  obtain ⟨h1, h2⟩ := h
  unfold State.alertFollow
  repeat' first
    | with_reducible assumption | intro _ | with_reducible exact same_refl | with_reducible apply same_iff
    | with_reducible apply same_setBit | with_reducible apply same_followAlert | dsimp only

theorem same_capApply {p : Part} {s u : State} {a1 : Nat} {a2 : Nat} (hu : p.same s u) (h : keeps Foot.capApply p = true) :
    p.same s (State.capApply u a1 a2) := by
  simp [Foot.capApply, and_assoc] at h
  obtain ⟨h1, h2, h3, h4, h5⟩ := h
  unfold State.capApply
  repeat' first
    | with_reducible assumption | intro _ | with_reducible exact same_refl | with_reducible apply same_flag
    | with_reducible apply same_set | with_reducible apply same_capFollow | with_reducible apply same_alertFollow
    | with_reducible apply same_evictTo | dsimp only

theorem same_capWrite {p : Part} {s u : State} {a1 : Nat} {a2 : Nat} (hu : p.same s u) (h : keeps Foot.capWrite p = true) :
    p.same s (State.capWrite u a1 a2) := by
  simp [Foot.capWrite, and_assoc] at h
  obtain ⟨h1, h2, h3, h4⟩ := h
  unfold State.capWrite
  repeat' first
    | with_reducible assumption | intro _ | with_reducible exact same_refl | with_reducible apply same_flag
    | with_reducible apply same_set | with_reducible apply same_capApply | with_reducible apply same_capFollow
    | with_reducible apply same_ite | dsimp only | split

theorem same_resetBase {p : Part} {s u : State} {a1 : Nat} (hu : p.same s u) (h : keeps Foot.resetBase p = true) :
    p.same s (State.resetBase u a1) := by
  simp [Foot.resetBase, and_assoc] at h
  obtain ⟨h1, h2, h3, h4, h5, h6⟩ := h
  unfold State.resetBase
  repeat' first
    | with_reducible assumption | intro _ | with_reducible exact same_refl | with_reducible apply same_flag
    | with_reducible apply same_set | dsimp only

theorem same_resetWindow {p : Part} {s u : State} {a1 : Nat} (hu : p.same s u) (h : keeps Foot.resetWindow p = true) :
    p.same s (State.resetWindow u a1) := by
  simp [Foot.resetWindow, and_assoc] at h
  obtain ⟨h1, h2⟩ := h
  unfold State.resetWindow
  repeat' first
    | with_reducible assumption | intro _ | with_reducible exact same_refl | with_reducible apply same_set | dsimp only

theorem same_clearAlarms {p : Part} {s u : State} {a1 : Nat} (hu : p.same s u) (h : keeps Foot.clearAlarms p = true) :
    p.same s (State.clearAlarms u a1) := by
  simp [Foot.clearAlarms, and_assoc] at h
  obtain ⟨h1, h2, h3, h4, h5⟩ := h
  unfold State.clearAlarms
  repeat' first
    | with_reducible assumption | intro _ | with_reducible exact same_refl | with_reducible apply same_flag
    | with_reducible apply same_countAlarm | dsimp only

theorem same_engineCommand {p : Part} {s u : State} {a1 : Nat} {a2 : Nat} (hu : p.same s u) (h : keeps Foot.engineCommand p = true) :
    p.same s (State.engineCommand u a1 a2) := by
  simp [Foot.engineCommand, and_assoc] at h
  obtain ⟨h1, h2, h3⟩ := h
  unfold State.engineCommand
  repeat' first
    | with_reducible assumption | intro _ | with_reducible exact same_refl | with_reducible apply same_resetBase
    | with_reducible apply same_resetWindow | with_reducible apply same_clearAlarms | dsimp only | split

theorem same_baseStep {p : Part} {s u : State} {a1 : Nat} {a2 : Int} (hu : p.same s u) (h : keeps Foot.baseStep p = true) :
    p.same s (State.baseStep u a1 a2).1 := by
  simp [Foot.baseStep, and_assoc] at h
  obtain ⟨h1, h2, h3, h4, h5, h6, h7⟩ := h
  unfold State.baseStep
  repeat' first
    | with_reducible assumption | intro _ | with_reducible exact same_refl | with_reducible apply same_flag
    | with_reducible apply same_set | with_reducible apply same_setS | with_reducible apply same_ite
    | with_reducible apply same_ite_fst | with_reducible apply same_ite_state | dsimp only | split

theorem same_windowStep {p : Part} {s u : State} {a1 : Nat} {a2 : Bool} {a3 : Int} (hu : p.same s u) (h : keeps Foot.windowStep p = true) :
    p.same s (State.windowStep u a1 a2 a3).1 := by
  simp [Foot.windowStep, and_assoc] at h
  obtain ⟨h1, h2, h3, h4, h5, h6, h7, h8, h9⟩ := h
  unfold State.windowStep
  repeat' first
    | with_reducible assumption | intro _ | with_reducible exact same_refl | with_reducible apply same_set
    | with_reducible apply same_flag | with_reducible apply same_setS | with_reducible apply same_ite
    | with_reducible apply same_ite_fst | with_reducible apply same_ite_state | dsimp only | split

theorem same_slopeStep {p : Part} {s u : State} {a1 : Nat} {a2 : Int} {a3 : Nat} (hu : p.same s u) (h : keeps Foot.slopeStep p = true) :
    p.same s (State.slopeStep u a1 a2 a3).1 := by
  simp [Foot.slopeStep, and_assoc] at h
  obtain ⟨h1, h2, h3, h4, h5⟩ := h
  unfold State.slopeStep
  repeat' first
    | with_reducible assumption | intro _ | with_reducible exact same_refl | with_reducible apply same_set
    | with_reducible apply same_setS | with_reducible apply same_flag | with_reducible apply same_ite
    | with_reducible apply same_ite_fst | with_reducible apply same_ite_state | dsimp only | split

theorem same_sample {p : Part} {s u : State} {a1 : Nat} {a2 : Nat} {a3 : Nat} {a4 : Int} {a5 : Nat} {a6 : Nat} {a7 : Bool} {a8 : Bool} (hu : p.same s u) (h : keeps Foot.sample p = true) :
    p.same s (State.sample u a1 a2 a3 a4 a5 a6 a7 a8).1 := by
  simp [Foot.sample, and_assoc] at h
  obtain ⟨h1, h2, h3, h4, h5, h6⟩ := h
  unfold State.sample
  repeat' first
    | with_reducible assumption | intro _ | with_reducible exact same_refl | with_reducible apply same_iff
    | with_reducible apply same_windowStep | with_reducible apply same_limitStep | with_reducible apply same_slopeStep
    | with_reducible apply same_baseStep | with_reducible apply same_countAlarm | with_reducible apply same_offer
    | with_reducible apply same_ite | with_reducible apply same_foldl | with_reducible apply same_ite_fst
    | with_reducible apply same_ite_state | with_reducible apply off_ite | dsimp only | split

theorem same_derive {p : Part} {s u : State} {a1 : Nat} {a2 : Nat} {a3 : List Byte} {a4 : Nat} {a5 : Nat} {a6 : Bool} (hu : p.same s u) (h : keeps Foot.derive p = true) :
    p.same s (State.derive u a1 a2 a3 a4 a5 a6) := by
  simp [Foot.derive, and_assoc] at h
  unfold State.derive
  repeat' first
    | with_reducible assumption | intro _ | with_reducible exact same_refl | with_reducible apply same_sample
    | with_reducible apply same_ite | with_reducible apply same_ite_fst | with_reducible apply same_ite_state | dsimp only
    | split

theorem same_engineReply {p : Part} {s u : State} {a1 : Nat} {a2 : Nat} {a3 : List Byte} {a4 : Nat} (hu : p.same s u) (h : keeps Foot.engineReply p = true) :
    p.same s (State.engineReply u a1 a2 a3 a4) := by
  simp [Foot.engineReply, and_assoc] at h
  obtain ⟨h1, h2, h3, h4⟩ := h
  unfold State.engineReply
  repeat' first
    | with_reducible assumption | intro _ | with_reducible exact same_refl | with_reducible apply same_iff
    | with_reducible apply same_each | with_reducible apply same_latch | with_reducible apply same_sample
    | with_reducible apply same_derive | with_reducible apply same_ite | with_reducible apply same_ite_fst
    | with_reducible apply same_ite_state | dsimp only | split

theorem same_summaryDue {p : Part} {s u : State} {a1 : Nat} (hu : p.same s u) (h : keeps Foot.summaryDue p = true) :
    p.same s (State.summaryDue u a1) := by
  simp [Foot.summaryDue, and_assoc] at h
  obtain ⟨h1, h2, h3, h4⟩ := h
  unfold State.summaryDue
  repeat' first
    | with_reducible assumption | intro _ | with_reducible exact same_refl | with_reducible apply same_admitTo
    | with_reducible apply same_clearGather | with_reducible apply same_offerN | with_reducible apply same_ite
    | with_reducible apply same_foldl | with_reducible apply same_ite_fst | with_reducible apply same_ite_state | dsimp only
    | split | with_reducible apply same_with_latched

end Sys2Proof.Machine.Part
end

