-- ==== Sys2Proof/Laws/SameGuard.lean ====
section
/-! SUPPORT. What the operations of Machine/Guard.lean leave as before: one lemma for each. -/

set_option linter.all false

namespace Sys2Proof.Machine.Part

theorem same_wdtEventAt {p : Part} {s u : State} {a1 : Nat} {a2 : Nat} {a3 : Nat} {a4 : Nat} {a5 : Nat} {a6 : Nat} (hu : p.same s u) (h : keeps Foot.wdtEventAt p = true) :
    p.same s (State.wdtEventAt u a1 a2 a3 a4 a5 a6) := by
  simp [Foot.wdtEventAt, and_assoc] at h
  unfold State.wdtEventAt
  repeat' first
    | with_reducible assumption | intro _ | with_reducible exact same_refl | with_reducible apply same_record | dsimp only

theorem same_wdtEvent {p : Part} {s u : State} {a1 : Nat} {a2 : Nat} {a3 : Nat} {a4 : Nat} (hu : p.same s u) (h : keeps Foot.wdtEvent p = true) :
    p.same s (State.wdtEvent u a1 a2 a3 a4) := by
  simp [Foot.wdtEvent, and_assoc] at h
  unfold State.wdtEvent
  repeat' first
    | with_reducible assumption | intro _ | with_reducible exact same_refl | with_reducible apply same_wdtEventAt
    | dsimp only

theorem same_hrstnFollow {p : Part} {s u : State}  (hu : p.same s u) (h : keeps Foot.hrstnFollow p = true) :
    p.same s (State.hrstnFollow u) := by
  simp [Foot.hrstnFollow, and_assoc] at h
  obtain ⟨h1, h2⟩ := h
  unfold State.hrstnFollow
  repeat' first
    | with_reducible assumption | intro _ | with_reducible exact same_refl | with_reducible apply same_flag | dsimp only
    | split

theorem same_lockWrite {p : Part} {s u : State} {a1 : Nat} (hu : p.same s u) (h : keeps Foot.lockWrite p = true) :
    p.same s (State.lockWrite u a1) := by
  simp [Foot.lockWrite, and_assoc] at h
  unfold State.lockWrite
  repeat' first
    | with_reducible assumption | intro _ | with_reducible exact same_refl | with_reducible apply same_set
    | with_reducible apply same_ite | dsimp only | split

theorem same_safeCause {p : Part} {s u : State} {a1 : Nat} (hu : p.same s u) (h : keeps Foot.safeCause p = true) :
    p.same s (State.safeCause u a1) := by
  simp [Foot.safeCause, and_assoc] at h
  obtain ⟨h1, h2, h3⟩ := h
  unfold State.safeCause
  repeat' first
    | with_reducible assumption | intro _ | with_reducible exact same_refl | with_reducible apply same_set
    | with_reducible apply same_cause | with_reducible apply same_selfReject | with_reducible apply same_ite | dsimp only
    | split

theorem same_periodNext {p : Part} {s u : State} {a1 : Bool} (hu : p.same s u) (h : keeps Foot.periodNext p = true) :
    p.same s (State.periodNext u a1) := by
  simp [Foot.periodNext, and_assoc] at h
  obtain ⟨h1, h2, h3⟩ := h
  unfold State.periodNext
  repeat' first
    | with_reducible assumption | intro _ | with_reducible exact same_refl | with_reducible apply same_set
    | with_reducible apply same_ite | with_reducible apply off_ite | dsimp only | split

theorem same_restartDue {p : Part} {s u : State} {a1 : Nat} (hu : p.same s u) (h : keeps Foot.restartDue p = true) :
    p.same s (State.restartDue u a1) := by
  simp [Foot.restartDue, and_assoc] at h
  unfold State.restartDue
  repeat' first
    | with_reducible assumption | intro _ | with_reducible exact same_refl | with_reducible apply same_set
    | with_reducible apply same_ite | dsimp only | split

theorem same_rideEnd {p : Part} {s u : State}  (hu : p.same s u) (h : keeps Foot.rideEnd p = true) :
    p.same s (State.rideEnd u) := by
  simp [Foot.rideEnd, and_assoc] at h
  obtain ⟨h1, h2, h3, h4, h5, h6, h7, h8, h9, h10⟩ := h
  unfold State.rideEnd
  repeat' first
    | with_reducible assumption | intro _ | with_reducible exact same_refl | with_reducible apply same_flag
    | with_reducible apply same_inc | with_reducible apply same_set | with_reducible apply same_chgHold
    | with_reducible apply same_deferPending | with_reducible apply same_followAlert | with_reducible apply same_cause
    | with_reducible apply same_ended | dsimp only

theorem same_guardTasks {p : Part} {s u : State}  (hu : p.same s u) (h : keeps Foot.guardTasks p = true) :
    p.same s (State.guardTasks u) := by
  simp [Foot.guardTasks, and_assoc] at h
  obtain ⟨h1, h2⟩ := h
  unfold State.guardTasks
  repeat' first
    | with_reducible assumption | intro _ | with_reducible exact same_refl | with_reducible apply same_flag
    | with_reducible apply same_periodNext | dsimp only

theorem same_guardInternal {p : Part} {s u : State}  (hu : p.same s u) (h : keeps Foot.guardInternal p = true) :
    p.same s (State.guardInternal u) := by
  simp [Foot.guardInternal, and_assoc] at h
  obtain ⟨h1, h2⟩ := h
  unfold State.guardInternal
  repeat' first
    | with_reducible assumption | intro _ | with_reducible exact same_refl | with_reducible apply same_flag
    | with_reducible apply same_periodNext | with_reducible apply same_ite | dsimp only | split

theorem same_yellow {p : Part} {s u : State} {a1 : Nat} {a2 : Nat} (hu : p.same s u) (h : keeps Foot.yellow p = true) :
    p.same s (State.yellow u a1 a2) := by
  simp [Foot.yellow, and_assoc] at h
  obtain ⟨h1, h2, h3, h4, h5, h6, h7, h8⟩ := h
  unfold State.yellow
  repeat' first
    | with_reducible assumption | intro _ | with_reducible exact same_refl | with_reducible apply same_set
    | with_reducible apply same_inc | with_reducible apply same_flag | with_reducible apply same_latch
    | with_reducible apply same_wdtEvent | with_reducible apply same_hrstnFollow | with_reducible apply same_periodNext
    | with_reducible apply same_selfReject | dsimp only

theorem same_orange {p : Part} {s u : State} {a1 : Nat} {a2 : Nat} (hu : p.same s u) (h : keeps Foot.orange p = true) :
    p.same s (State.orange u a1 a2) := by
  simp [Foot.orange, and_assoc] at h
  obtain ⟨h1, h2, h3, h4, h5, h6, h7⟩ := h
  unfold State.orange
  repeat' first
    | with_reducible assumption | intro _ | with_reducible exact same_refl | with_reducible apply same_set
    | with_reducible apply same_inc | with_reducible apply same_iff | with_reducible apply same_latch
    | with_reducible apply same_wdtEvent | with_reducible apply same_restartDue | with_reducible apply same_startRevert
    | dsimp only

theorem same_black {p : Part} {s u : State} {a1 : Nat} (hu : p.same s u) (h : keeps Foot.black p = true) :
    p.same s (State.black u a1) := by
  simp [Foot.black, and_assoc] at h
  obtain ⟨h1, h2, h3, h4, h5⟩ := h
  unfold State.black
  repeat' first
    | with_reducible assumption | intro _ | with_reducible exact same_refl | with_reducible apply same_set
    | with_reducible apply same_latch | with_reducible apply same_safeCause | dsimp only

theorem same_violation {p : Part} {s u : State} {a1 : Nat} {a2 : Nat} (hu : p.same s u) (h : keeps Foot.violation p = true) :
    p.same s (State.violation u a1 a2) := by
  simp [Foot.violation, and_assoc] at h
  obtain ⟨h1, h2, h3, h4, h5, h6⟩ := h
  unfold State.violation
  repeat' first
    | with_reducible assumption | intro _ | with_reducible exact same_refl | with_reducible apply same_set
    | with_reducible apply same_yellow | with_reducible apply same_orange | with_reducible apply same_black
    | with_reducible apply same_ite | with_reducible apply same_foldl | with_reducible apply same_ite_fst
    | with_reducible apply same_ite_state | dsimp only | split

theorem same_serviced {p : Part} {s u : State}  (hu : p.same s u) (h : keeps Foot.serviced p = true) :
    p.same s (State.serviced u) := by
  simp [Foot.serviced, and_assoc] at h
  obtain ⟨h1, h2, h3⟩ := h
  unfold State.serviced
  repeat' first
    | with_reducible assumption | intro _ | with_reducible exact same_refl | with_reducible apply same_set
    | with_reducible apply same_periodNext | dsimp only

theorem same_keyWrite {p : Part} {s u : State} {a1 : Nat} (hu : p.same s u) (h : keeps Foot.keyWrite p = true) :
    p.same s (State.keyWrite u a1) := by
  simp [Foot.keyWrite, and_assoc] at h
  obtain ⟨h1, h2⟩ := h
  unfold State.keyWrite
  repeat' first
    | with_reducible assumption | intro _ | with_reducible exact same_refl | with_reducible apply same_violation
    | with_reducible apply same_serviced | with_reducible apply same_ite | with_reducible apply same_ite_fst
    | with_reducible apply same_ite_state | dsimp only | split

theorem same_periodStart {p : Part} {s u : State} {a1 : Bool} (hu : p.same s u) (h : keeps Foot.periodStart p = true) :
    p.same s (State.periodStart u a1) := by
  simp [Foot.periodStart, and_assoc] at h
  obtain ⟨h1, h2, h3, h4, h5, h6, h7⟩ := h
  unfold State.periodStart
  repeat' first
    | with_reducible assumption | intro _ | with_reducible exact same_refl | with_reducible apply same_set
    | with_reducible apply same_flag | with_reducible apply same_ite | dsimp only | split

theorem same_wdtEnable {p : Part} {s u : State}  (hu : p.same s u) (h : keeps Foot.wdtEnable p = true) :
    p.same s (State.wdtEnable u) := by
  simp [Foot.wdtEnable, and_assoc] at h
  obtain ⟨h1, h2, h3, h4, h5⟩ := h
  unfold State.wdtEnable
  repeat' first
    | with_reducible assumption | intro _ | with_reducible exact same_refl | with_reducible apply same_flag
    | with_reducible apply same_periodStart | with_reducible apply same_periodNext | with_reducible apply same_wdtEvent
    | with_reducible apply same_ite | dsimp only | split

theorem same_wdtDisable {p : Part} {s u : State}  (hu : p.same s u) (h : keeps Foot.wdtDisable p = true) :
    p.same s (State.wdtDisable u) := by
  simp [Foot.wdtDisable, and_assoc] at h
  obtain ⟨h1, h2, h3⟩ := h
  unfold State.wdtDisable
  repeat' first
    | with_reducible assumption | intro _ | with_reducible exact same_refl | with_reducible apply same_flag
    | with_reducible apply same_wdtEvent | with_reducible apply same_ite | dsimp only | split

theorem same_disableWrite {p : Part} {s u : State} {a1 : Nat} (hu : p.same s u) (h : keeps Foot.disableWrite p = true) :
    p.same s (State.disableWrite u a1) := by
  simp [Foot.disableWrite, and_assoc] at h
  obtain ⟨h1, h2, h3, h4⟩ := h
  unfold State.disableWrite
  repeat' first
    | with_reducible assumption | intro _ | with_reducible exact same_refl | with_reducible apply same_set
    | with_reducible apply same_flag | with_reducible apply same_wdtEnable | with_reducible apply same_wdtDisable
    | with_reducible apply same_ite | dsimp only | split

theorem same_rideBegin {p : Part} {s u : State}  (hu : p.same s u) (h : keeps Foot.rideBegin p = true) :
    p.same s (State.rideBegin u) := by
  simp [Foot.rideBegin, and_assoc] at h
  obtain ⟨h1, h2, h3, h4, h5, h6, h7, h8, h9, h10⟩ := h
  unfold State.rideBegin
  repeat' first
    | with_reducible assumption | intro _ | with_reducible exact same_refl | with_reducible apply same_flag
    | with_reducible apply same_set | with_reducible apply same_chgHold | with_reducible apply same_latchStand
    | with_reducible apply same_wake | with_reducible apply same_suspendErase | with_reducible apply same_followAlert
    | with_reducible apply same_cause | dsimp only

theorem same_seqReset {p : Part} {s u : State} {a1 : Nat} (hu : p.same s u) (h : keeps Foot.seqReset p = true) :
    p.same s (State.seqReset u a1) := by
  simp [Foot.seqReset, and_assoc] at h
  obtain ⟨h1, h2, h3, h4⟩ := h
  unfold State.seqReset
  repeat' first
    | with_reducible assumption | intro _ | with_reducible exact same_refl | with_reducible apply same_flag
    | with_reducible apply same_each | with_reducible apply same_chgTo | with_reducible apply same_lineIdle
    | with_reducible apply same_abortErase | with_reducible apply same_ite | with_reducible apply same_ite_fst
    | with_reducible apply same_ite_state | dsimp only | split

theorem same_seqRestart {p : Part} {s u : State} {a1 : Nat} (hu : p.same s u) (h : keeps Foot.seqRestart p = true) :
    p.same s (State.seqRestart u a1) := by
  simp [Foot.seqRestart, and_assoc] at h
  obtain ⟨h1, h2, h3, h4, h5, h6, h7⟩ := h
  unfold State.seqRestart
  repeat' first
    | with_reducible assumption | intro _ | with_reducible exact same_refl | with_reducible apply same_inc
    | with_reducible apply same_set | with_reducible apply same_latch | with_reducible apply same_seqReset
    | with_reducible apply same_wdtEvent | with_reducible apply same_violation | with_reducible apply same_ite | dsimp only
    | split

theorem same_hrstnEase {p : Part} {s u : State}  (hu : p.same s u) (h : keeps Foot.hrstnEase p = true) :
    p.same s (State.hrstnEase u) := by
  simp [Foot.hrstnEase, and_assoc] at h
  obtain ⟨h1, h2⟩ := h
  unfold State.hrstnEase
  repeat' first
    | with_reducible assumption | intro _ | with_reducible exact same_refl | with_reducible apply same_flag
    | with_reducible apply same_hrstnFollow | with_reducible apply same_ite | dsimp only | split

theorem same_expire {p : Part} {s u : State}  (hu : p.same s u) (h : keeps Foot.expire p = true) :
    p.same s (State.expire u) := by
  simp [Foot.expire, and_assoc] at h
  unfold State.expire
  repeat' first
    | with_reducible assumption | intro _ | with_reducible exact same_refl | with_reducible apply same_violation
    | with_reducible apply same_ite | with_reducible apply off_ite | dsimp only | split

theorem same_wdtTick {p : Part} {s u : State}  (hu : p.same s u) (h : keeps Foot.wdtTick p = true) :
    p.same s (State.wdtTick u) := by
  simp [Foot.wdtTick, and_assoc] at h
  obtain ⟨h1, h2, h3, h4, h5⟩ := h
  unfold State.wdtTick
  repeat' first
    | with_reducible assumption | intro _ | with_reducible exact same_refl | with_reducible apply same_flag
    | with_reducible apply same_set | with_reducible apply same_iff | with_reducible apply same_periodStart
    | with_reducible apply same_expire | with_reducible apply same_periodNext | with_reducible apply same_ite
    | with_reducible apply same_ite_fst | with_reducible apply same_ite_state | dsimp only | split

theorem same_checkIn {p : Part} {s u : State} {a1 : Nat} (hu : p.same s u) (h : keeps Foot.checkIn p = true) :
    p.same s (State.checkIn u a1) := by
  simp [Foot.checkIn, and_assoc] at h
  obtain ⟨h1, h2⟩ := h
  unfold State.checkIn
  repeat' first
    | with_reducible assumption | intro _ | with_reducible exact same_refl | with_reducible apply same_setBit
    | with_reducible apply same_ite | dsimp only | split

end Sys2Proof.Machine.Part
end

