-- ==== Sys2Proof/Laws/SameHeat.lean ====
section
/-! SUPPORT. What the operations of Machine/Heat.lean leave as before: one lemma for each. -/

set_option linter.all false

namespace Sys2Proof.Machine.Part

theorem same_setFb {p : Part} {s u : State} {a1 : Nat} (hu : p.same s u) (h : keeps Foot.setFb p = true) :
    p.same s (State.setFb u a1) := by
  simp [Foot.setFb, and_assoc] at h
  obtain ⟨h1, h2, h3⟩ := h
  unfold State.setFb
  repeat' first
    | with_reducible assumption | intro _ | with_reducible exact same_refl | with_reducible apply same_flag
    | with_reducible apply same_set | with_reducible apply same_chgTargets | dsimp only

theorem same_foldback {p : Part} {s u : State}  (hu : p.same s u) (h : keeps Foot.foldback p = true) :
    p.same s (State.foldback u) := by
  simp [Foot.foldback, and_assoc] at h
  obtain ⟨h1, h2, h3⟩ := h
  unfold State.foldback
  repeat' first
    | with_reducible assumption | intro _ | with_reducible exact same_refl | with_reducible apply same_iff
    | with_reducible apply same_set | with_reducible apply same_flag | with_reducible apply same_setFb
    | with_reducible apply same_ite | with_reducible apply same_ite_fst | with_reducible apply same_ite_state | dsimp only
    | split

theorem same_fbRelease {p : Part} {s u : State}  (hu : p.same s u) (h : keeps Foot.fbRelease p = true) :
    p.same s (State.fbRelease u) := by
  simp [Foot.fbRelease, and_assoc] at h
  obtain ⟨h1, h2, h3, h4, h5⟩ := h
  unfold State.fbRelease
  repeat' first
    | with_reducible assumption | intro _ | with_reducible exact same_refl | with_reducible apply same_set
    | with_reducible apply same_flag | with_reducible apply same_foldback | with_reducible apply same_ended | dsimp only

theorem same_fbDone {p : Part} {s u : State} {a1 : Nat} (hu : p.same s u) (h : keeps Foot.fbDone p = true) :
    p.same s (State.fbDone u a1) := by
  simp [Foot.fbDone, and_assoc] at h
  obtain ⟨h1, h2⟩ := h
  unfold State.fbDone
  repeat' first
    | with_reducible assumption | intro _ | with_reducible exact same_refl | with_reducible apply same_setBit
    | with_reducible apply same_fbRelease | with_reducible apply same_ite | dsimp only | split

theorem same_windowFollow {p : Part} {s u : State}  (hu : p.same s u) (h : keeps Foot.windowFollow p = true) :
    p.same s (State.windowFollow u) := by
  simp [Foot.windowFollow, and_assoc] at h
  obtain ⟨h1, h2, h3, h4, h5, h6⟩ := h
  unfold State.windowFollow
  repeat' first
    | with_reducible assumption | intro _ | with_reducible exact same_refl | with_reducible apply same_setS
    | with_reducible apply same_flag | with_reducible apply same_chgHold | with_reducible apply same_equaliseFollow
    | with_reducible apply same_ite | with_reducible apply same_foldl | with_reducible apply same_ite_fst
    | with_reducible apply same_ite_state | dsimp only | split

theorem same_curveFollow {p : Part} {s u : State}  (hu : p.same s u) (h : keeps Foot.curveFollow p = true) :
    p.same s (State.curveFollow u) := by
  simp [Foot.curveFollow, and_assoc] at h
  unfold State.curveFollow
  repeat' first
    | with_reducible assumption | intro _ | with_reducible exact same_refl | with_reducible apply same_flag | dsimp only

theorem same_thLatch {p : Part} {s u : State} {a1 : Nat} (hu : p.same s u) (h : keeps Foot.thLatch p = true) :
    p.same s (State.thLatch u a1) := by
  simp [Foot.thLatch, and_assoc] at h
  obtain ⟨h1, h2⟩ := h
  unfold State.thLatch
  repeat' first
    | with_reducible assumption | intro _ | with_reducible exact same_refl | with_reducible apply same_latchStand
    | with_reducible apply same_ite | dsimp only | split

theorem same_setTemp {p : Part} {s u : State} {a1 : Nat} {a2 : Nat} (hu : p.same s u) (h : keeps Foot.setTemp p = true) :
    p.same s (State.setTemp u a1 a2) := by
  simp [Foot.setTemp, and_assoc] at h
  obtain ⟨h1, h2⟩ := h
  unfold State.setTemp
  repeat' first
    | with_reducible assumption | intro _ | with_reducible exact same_refl | with_reducible apply same_set
    | with_reducible apply same_ite | dsimp only | split

theorem same_setJudge {p : Part} {s u : State} {a1 : Nat} {a2 : Nat} (hu : p.same s u) (h : keeps Foot.setJudge p = true) :
    p.same s (State.setJudge u a1 a2) := by
  simp [Foot.setJudge, and_assoc] at h
  obtain ⟨h1, h2, h3⟩ := h
  unfold State.setJudge
  repeat' first
    | with_reducible assumption | intro _ | with_reducible exact same_refl | with_reducible apply same_set
    | with_reducible apply same_setBit | with_reducible apply same_ite | dsimp only | split

theorem same_fbHold {p : Part} {s u : State} {a1 : Nat} {a2 : Nat} (hu : p.same s u) (h : keeps Foot.fbHold p = true) :
    p.same s (State.fbHold u a1 a2) := by
  simp [Foot.fbHold, and_assoc] at h
  obtain ⟨h1, h2, h3, h4, h5, h6, h7⟩ := h
  unfold State.fbHold
  repeat' first
    | with_reducible assumption | intro _ | with_reducible exact same_refl | with_reducible apply same_setBit
    | with_reducible apply same_set | with_reducible apply same_flag | with_reducible apply same_latchStand
    | with_reducible apply same_setFb | with_reducible apply same_ite | with_reducible apply off_ite | dsimp only | split

theorem same_thEnded {p : Part} {s u : State} {a1 : Nat} (hu : p.same s u) (h : keeps Foot.thEnded p = true) :
    p.same s (State.thEnded u a1) := by
  simp [Foot.thEnded, and_assoc] at h
  unfold State.thEnded
  repeat' first
    | with_reducible assumption | intro _ | with_reducible exact same_refl | with_reducible apply same_ended
    | with_reducible apply same_ite | dsimp only | split

theorem same_thRestart {p : Part} {s u : State} {a1 : Nat} (hu : p.same s u) (h : keeps Foot.thRestart p = true) :
    p.same s (State.thRestart u a1) := by
  simp [Foot.thRestart, and_assoc] at h
  obtain ⟨h1, h2, h3, h4, h5⟩ := h
  unfold State.thRestart
  repeat' first
    | with_reducible assumption | intro _ | with_reducible exact same_refl | with_reducible apply same_set
    | with_reducible apply same_thEnded | with_reducible apply same_setTemp | with_reducible apply same_setJudge
    | dsimp only

theorem same_thmCtrl {p : Part} {s u : State} {a1 : State} (hu : p.same s u) (h : keeps Foot.thmCtrl p = true) :
    p.same s (State.thmCtrl u a1) := by
  simp [Foot.thmCtrl, and_assoc] at h
  obtain ⟨h1, h2, h3, h4⟩ := h
  unfold State.thmCtrl
  repeat' first
    | with_reducible assumption | intro _ | with_reducible exact same_refl | with_reducible apply same_each
    | with_reducible apply same_setBit | with_reducible apply same_windowFollow | with_reducible apply same_thRestart
    | with_reducible apply same_fbDone | with_reducible apply same_ite | with_reducible apply same_ite_fst
    | with_reducible apply same_ite_state | dsimp only | split

theorem same_fbClear {p : Part} {s u : State}  (hu : p.same s u) (h : keeps Foot.fbClear p = true) :
    p.same s (State.fbClear u) := by
  simp [Foot.fbClear, and_assoc] at h
  obtain ⟨h1, h2⟩ := h
  unfold State.fbClear
  repeat' first
    | with_reducible assumption | intro _ | with_reducible exact same_refl | with_reducible apply same_each
    | with_reducible apply same_setBit | with_reducible apply same_fbRelease | with_reducible apply same_ite
    | with_reducible apply same_ite_fst | with_reducible apply same_ite_state | dsimp only | split

end Sys2Proof.Machine.Part
end

