-- ==== Sys2Proof/Laws/SameFlags.lean ====
section
/-! SUPPORT. What the operations of Machine/Flags.lean leave as before: one lemma for each. -/

set_option linter.all false

namespace Sys2Proof.Machine.Part

theorem faultAddrs_rc : ∀ a ∈ faultAddrs, Scope.word .reads a = true := by decide

theorem same_clearWord {p : Part} {s u : State} {a1 : Nat} (hu : p.same s u) (h : keeps Foot.clearWord p = true) (ha : Scope.word .reads a1 = true) :
    p.same s (State.clearWord u a1) := by
  simp [Foot.clearWord, and_assoc] at h
  exact same_putWord .reads hu h ha

theorem same_readAction {p : Part} {s u : State} {a1 : Nat} (hu : p.same s u) (h : keeps Foot.readAction p = true) (ha : Scope.word .reads a1 = true) :
    p.same s (State.readAction u a1) := by
  simp [Foot.readAction, and_assoc] at h
  obtain ⟨h1, h2, h3, h4, h5⟩ := h
  unfold State.readAction
  repeat' first
    | with_reducible assumption | intro _ | with_reducible exact same_refl | with_reducible apply same_clear
    | with_reducible apply same_clearWord | with_reducible apply same_readTimeout | with_reducible apply same_chgFollow
    | with_reducible apply same_readBatShort | with_reducible apply same_ite | dsimp only | split

theorem same_readClear {p : Part} {s u : State} {a1 : Nat} (hu : p.same s u) (h : keeps Foot.readClear p = true) :
    p.same s (State.readClear u a1) := by
  simp [Foot.readClear, and_assoc] at h
  unfold State.readClear
  split
  · exact same_readAction hu h (by simp [Scope.word, *])
  · exact hu

theorem same_readWords {p : Part} {s u : State} {a1 : List Nat} (hu : p.same s u) (h : keeps Foot.readWords p = true) :
    p.same s (State.readWords u a1).1 := by
  simp [Foot.readWords, and_assoc] at h
  obtain ⟨h1, h2⟩ := h
  unfold State.readWords
  repeat' first
    | with_reducible assumption | intro _ | with_reducible exact same_refl | with_reducible apply same_followAlert
    | with_reducible apply same_readClear | with_reducible apply same_foldl | dsimp only

theorem same_readFaults {p : Part} {s u : State}  (hu : p.same s u) (h : keeps Foot.readFaults p = true) :
    p.same s (State.readFaults u).1 := by
  simp [Foot.readFaults, and_assoc] at h
  obtain ⟨h1, h2⟩ := h
  unfold State.readFaults
  repeat' first
    | refine same_foldl_mem ?_ (fun w x hx hw => same_readAction hw (by assumption) (faultAddrs_rc x hx))
    | with_reducible assumption | intro _ | with_reducible exact same_refl | with_reducible apply same_followAlert
    | with_reducible apply same_readAction | with_reducible apply same_foldl | dsimp only

end Sys2Proof.Machine.Part
end

