-- ==== Sys2Proof/Laws/SameInputs.lean ====
section
/-! SUPPORT. What the operations of Machine/Inputs.lean leave as before: one lemma for each. -/

set_option linter.all false

namespace Sys2Proof.Machine.Part

theorem same_execSignatureWatchComplete {p : Part} {s u : State} {a0 : Fin 4} {a1 : List Nat} {a2 : List Nat} {a3 : List Nat} (hu : p.same s u) (h : keeps Foot.execSignatureWatchComplete p = true) :
    ∃ t, execSignatureWatchComplete a0 a1 a2 a3 u = .next t ∧ p.same s t := by
  simp [Foot.execSignatureWatchComplete, and_assoc] at h
  obtain ⟨h1, h2, h3, h4⟩ := h
  refine ⟨_, rfl, ?_⟩
  repeat' first
    | with_reducible assumption | intro _ | with_reducible exact same_refl | with_reducible apply same_set
    | with_reducible apply same_classify | with_reducible apply same_ite | with_reducible apply off_ite | dsimp only | split

theorem same_execInputConnect {p : Part} {s u : State} {a0 : Fin 4} {a1 : Nat} (hu : p.same s u) (h : keeps Foot.execInputConnect p = true) :
    ∃ t, execInputConnect a0 a1 u = .next t ∧ p.same s t := by
  simp [Foot.execInputConnect, and_assoc] at h
  obtain ⟨h1, h2, h3, h4, h5, h6⟩ := h
  refine ⟨_, rfl, ?_⟩
  repeat' first
    | with_reducible assumption | intro _ | with_reducible exact same_refl | with_reducible apply same_set
    | with_reducible apply same_flag | with_reducible apply same_latchStand | with_reducible apply same_setInstate
    | with_reducible apply same_gates | with_reducible apply same_ite | dsimp only | split

theorem same_execProbeStart {p : Part} {s u : State} {a0 : Fin 4} (hu : p.same s u) (h : keeps Foot.execProbeStart p = true) :
    ∃ t, execProbeStart a0 u = .next t ∧ p.same s t := by
  simp [Foot.execProbeStart, and_assoc] at h
  obtain ⟨h1, h2⟩ := h
  refine ⟨_, rfl, ?_⟩
  repeat' first
    | with_reducible assumption | intro _ | with_reducible exact same_refl | with_reducible apply same_startProbe
    | with_reducible apply same_coldStartEnd | with_reducible apply same_ite | with_reducible apply off_ite | dsimp only
    | split

theorem same_execTsResume {p : Part} {s u : State} {a0 : Fin 4} {a1 : Nat} (hu : p.same s u) (h : keeps Foot.execTsResume p = true) :
    ∃ t, execTsResume a0 a1 u = .next t ∧ p.same s t := by
  simp [Foot.execTsResume, and_assoc] at h
  obtain ⟨h1, h2, h3, h4⟩ := h
  refine ⟨_, rfl, ?_⟩
  repeat' first
    | with_reducible assumption | intro _ | with_reducible exact same_refl | with_reducible apply same_setBit
    | with_reducible apply same_endTrip | with_reducible apply same_setVref | with_reducible apply same_gates
    | with_reducible apply same_ite | with_reducible apply off_ite | dsimp only | split

theorem same_setBand {p : Part} {s u : State} {a1 : Nat} {a2 : Nat} (hu : p.same s u) (h : keeps Foot.setBand p = true) :
    p.same s (State.setBand u a1 a2) := by
  simp [Foot.setBand, and_assoc] at h
  obtain ⟨h1, h2, h3, h4, h5⟩ := h
  unfold State.setBand
  repeat' first
    | with_reducible assumption | intro _ | with_reducible exact same_refl | with_reducible apply same_flag
    | with_reducible apply same_set | dsimp only

theorem same_execIdRedecode {p : Part} {s u : State} {a0 : Fin 4} {a1 : Nat} (hu : p.same s u) (h : keeps Foot.execIdRedecode p = true) :
    ∃ t, execIdRedecode a0 a1 u = .next t ∧ p.same s t := by
  simp [Foot.execIdRedecode, and_assoc] at h
  obtain ⟨h1, h2, h3, h4⟩ := h
  refine ⟨_, rfl, ?_⟩
  repeat' first
    | with_reducible assumption | intro _ | with_reducible exact same_refl | with_reducible apply same_clear
    | with_reducible apply same_set | with_reducible apply same_setBand | with_reducible apply same_restartClass
    | with_reducible apply same_dropClass | with_reducible apply same_ite | with_reducible apply off_ite | dsimp only
    | split

theorem same_execInputOvClear {p : Part} {s u : State} {a0 : Fin 4} {a1 : Nat} (hu : p.same s u) (h : keeps Foot.execInputOvClear p = true) :
    ∃ t, execInputOvClear a0 a1 u = .next t ∧ p.same s t := by
  simp [Foot.execInputOvClear, and_assoc] at h
  obtain ⟨h1, h2, h3, h4, h5, h6, h7, h8⟩ := h
  refine ⟨_, rfl, ?_⟩
  repeat' first
    | with_reducible assumption | intro _ | with_reducible exact same_refl | with_reducible apply same_set
    | with_reducible apply same_flag | with_reducible apply same_endTrip | with_reducible apply same_ended
    | with_reducible apply same_restartClass | with_reducible apply same_setInstate | with_reducible apply same_ite
    | with_reducible apply off_ite | dsimp only | split

theorem same_enableInput {p : Part} {s u : State} {a1 : Nat} {a2 : Bool} (hu : p.same s u) (h : keeps Foot.enableInput p = true) :
    p.same s (State.enableInput u a1 a2) := by
  simp [Foot.enableInput, and_assoc] at h
  obtain ⟨h1, h2, h3, h4, h5, h6, h7, h8, h9⟩ := h
  unfold State.enableInput
  repeat' first
    | with_reducible assumption | intro _ | with_reducible exact same_refl | with_reducible apply same_flag
    | with_reducible apply same_iff | with_reducible apply same_abortSweep | with_reducible apply same_endProbe
    | with_reducible apply same_setInstate | with_reducible apply same_gatesAfterRamp | with_reducible apply same_rampDown
    | with_reducible apply same_dropClass | with_reducible apply same_restartClass | with_reducible apply same_ite
    | with_reducible apply same_ite_fst | with_reducible apply same_ite_state | dsimp only | split

theorem same_reclassify {p : Part} {s u : State} {a1 : Nat} (hu : p.same s u) (h : keeps Foot.reclassify p = true) :
    p.same s (State.reclassify u a1) := by
  simp [Foot.reclassify, and_assoc] at h
  obtain ⟨h1, h2, h3, h4, h5, h6, h7⟩ := h
  unfold State.reclassify
  repeat' first
    | with_reducible assumption | intro _ | with_reducible exact same_refl | with_reducible apply same_flag
    | with_reducible apply same_ended | with_reducible apply same_abortSweep | with_reducible apply same_endProbe
    | with_reducible apply same_sourceEvent | with_reducible apply same_dropClass | with_reducible apply same_restartClass
    | with_reducible apply same_ite | dsimp only | split

theorem same_execInputOvervoltage {p : Part} {s u : State} {a0 : Fin 4} (hu : p.same s u) (h : keeps Foot.execInputOvervoltage p = true) :
    ∃ t, execInputOvervoltage a0 u = .next t ∧ p.same s t := by
  simp [Foot.execInputOvervoltage, and_assoc] at h
  obtain ⟨h1, h2, h3, h4, h5, h6, h7, h8, h9, h10, h11, h12, h13, h14⟩ := h
  refine ⟨_, rfl, ?_⟩
  repeat' first
    | with_reducible assumption | intro _ | with_reducible exact same_refl | with_reducible apply same_flag
    | with_reducible apply same_set | with_reducible apply same_setBit | with_reducible apply same_iff
    | with_reducible apply same_latchStand | with_reducible apply same_tripGroup | with_reducible apply same_abortSweep
    | with_reducible apply same_gates | with_reducible apply same_zeroCeiling | with_reducible apply same_dropClass
    | with_reducible apply same_setInstate | with_reducible apply same_ite | with_reducible apply same_ite_fst
    | with_reducible apply same_ite_state | dsimp only | split

theorem same_execInputPresent {p : Part} {s u : State} {a0 : Fin 4} {a1 : Nat} (hu : p.same s u) (h : keeps Foot.execInputPresent p = true) :
    ∃ t, execInputPresent a0 a1 u = .next t ∧ p.same s t := by
  simp [Foot.execInputPresent, and_assoc] at h
  obtain ⟨h1, h2, h3, h4, h5, h6, h7, h8, h9, h10, h11, h12, h13, h14⟩ := h
  refine ⟨_, rfl, ?_⟩
  repeat' first
    | with_reducible assumption | intro _ | with_reducible exact same_refl | with_reducible apply same_set
    | with_reducible apply same_setBit | with_reducible apply same_flag | with_reducible apply same_iff
    | with_reducible apply same_clear | with_reducible apply same_endTrip | with_reducible apply same_cancelCutoff
    | with_reducible apply same_cancelShip | with_reducible apply same_ended | with_reducible apply same_gates
    | with_reducible apply same_restartClass | with_reducible apply same_ite | with_reducible apply same_ite_fst
    | with_reducible apply same_ite_state | with_reducible apply off_ite | dsimp only | split

theorem same_execInputComparatorTrip {p : Part} {s u : State} {a0 : Fin 4} (hu : p.same s u) (h : keeps Foot.execInputComparatorTrip p = true) :
    ∃ t, execInputComparatorTrip a0 u = .next t ∧ p.same s t := by
  simp [Foot.execInputComparatorTrip, and_assoc] at h
  obtain ⟨h1, h2, h3, h4⟩ := h
  refine ⟨_, rfl, ?_⟩
  repeat' first
    | with_reducible assumption | intro _ | with_reducible exact same_refl | with_reducible apply same_flag
    | with_reducible apply same_wake | with_reducible apply same_ended | with_reducible apply same_setInstate
    | with_reducible apply same_ite | with_reducible apply off_ite | dsimp only | split

theorem same_execInputEnableWrite {p : Part} {s u : State} {a0 : Fin 4} {a1 : Bool} (hu : p.same s u) (h : keeps Foot.execInputEnableWrite p = true) :
    ∃ t, execInputEnableWrite a0 a1 u = .next t ∧ p.same s t := by
  simp [Foot.execInputEnableWrite, and_assoc] at h
  obtain ⟨h1, h2⟩ := h
  refine ⟨_, rfl, ?_⟩
  repeat' first
    | with_reducible assumption | intro _ | with_reducible exact same_refl | with_reducible apply same_flag
    | with_reducible apply same_enableInput | dsimp only

theorem same_execReversePolarity {p : Part} {s u : State} {a0 : PolarityEdge} (hu : p.same s u) (h : keeps Foot.execReversePolarity p = true) :
    ∃ t, execReversePolarity a0 u = .next t ∧ p.same s t := by
  simp [Foot.execReversePolarity, and_assoc] at h
  obtain ⟨h1, h2, h3, h4⟩ := h
  refine ⟨_, rfl, ?_⟩
  repeat' first
    | with_reducible assumption | intro _ | with_reducible exact same_refl | with_reducible apply same_set
    | with_reducible apply same_latchStand | with_reducible apply same_gates | with_reducible apply same_ended
    | with_reducible apply same_ite | with_reducible apply off_ite | dsimp only | split

theorem same_execReclassify {p : Part} {s u : State} {a0 : Fin 4} (hu : p.same s u) (h : keeps Foot.execReclassify p = true) :
    ∃ t, execReclassify a0 u = .next t ∧ p.same s t := by
  simp [Foot.execReclassify, and_assoc] at h
  refine ⟨_, rfl, ?_⟩
  repeat' first
    | with_reducible assumption | intro _ | with_reducible exact same_refl | with_reducible apply same_reclassify
    | dsimp only

theorem same_execFetOpen {p : Part} {s u : State} {a0 : Fin 4} (hu : p.same s u) (h : keeps Foot.execFetOpen p = true) :
    ∃ t, execFetOpen a0 u = .next t ∧ p.same s t := by
  simp [Foot.execFetOpen, and_assoc] at h
  obtain ⟨h1, h2, h3, h4, h5, h6, h7, h8⟩ := h
  refine ⟨_, rfl, ?_⟩
  repeat' first
    | with_reducible assumption | intro _ | with_reducible exact same_refl | with_reducible apply same_flag
    | with_reducible apply same_set | with_reducible apply same_iff | with_reducible apply same_latchStand
    | with_reducible apply same_gatesAfterRamp | with_reducible apply same_clearClass | with_reducible apply same_abortSweep
    | with_reducible apply same_setInstate | with_reducible apply same_freeDup | with_reducible apply same_ite
    | with_reducible apply off_ite | dsimp only | split

theorem same_execVbusReached {p : Part} {s u : State} {a0 : Fin 4} {a1 : Nat} (hu : p.same s u) (h : keeps Foot.execVbusReached p = true) :
    ∃ t, execVbusReached a0 a1 u = .next t ∧ p.same s t := by
  simp [Foot.execVbusReached, and_assoc] at h
  obtain ⟨h1, h2, h3, h4, h5, h6, h7, h8⟩ := h
  refine ⟨_, rfl, ?_⟩
  repeat' first
    | with_reducible assumption | intro _ | with_reducible exact same_refl | with_reducible apply same_set
    | with_reducible apply same_flag | with_reducible apply same_iff | with_reducible apply same_classify
    | with_reducible apply same_startProbe | with_reducible apply same_coldStartCheck | with_reducible apply same_setInstate
    | with_reducible apply same_setVref | with_reducible apply same_ite | with_reducible apply same_ite_fst
    | with_reducible apply same_ite_state | with_reducible apply off_ite | dsimp only | split

theorem same_execTsVrefRetake {p : Part} {s u : State} {a0 : Fin 4} {a1 : Nat} (hu : p.same s u) (h : keeps Foot.execTsVrefRetake p = true) :
    ∃ t, execTsVrefRetake a0 a1 u = .next t ∧ p.same s t := by
  simp [Foot.execTsVrefRetake, and_assoc] at h
  obtain ⟨h1, h2, h3, h4⟩ := h
  refine ⟨_, rfl, ?_⟩
  repeat' first
    | with_reducible assumption | intro _ | with_reducible exact same_refl | with_reducible apply same_set
    | with_reducible apply same_flag | with_reducible apply same_zeroCeiling | with_reducible apply same_setVref
    | with_reducible apply same_ite | with_reducible apply off_ite | dsimp only | split

theorem same_execTsRelease {p : Part} {s u : State} {a0 : Fin 4} (hu : p.same s u) (h : keeps Foot.execTsRelease p = true) :
    ∃ t, execTsRelease a0 u = .next t ∧ p.same s t := by
  simp [Foot.execTsRelease, and_assoc] at h
  obtain ⟨h1, h2, h3, h4, h5, h6, h7⟩ := h
  refine ⟨_, rfl, ?_⟩
  repeat' first
    | with_reducible assumption | intro _ | with_reducible exact same_refl | with_reducible apply same_setBit
    | with_reducible apply same_inc | with_reducible apply same_flag | with_reducible apply same_tripGroup
    | with_reducible apply same_abortSweeps | with_reducible apply same_zeroCeiling | with_reducible apply same_ite
    | with_reducible apply off_ite | dsimp only | split

theorem same_execPresenceDebounceAbort {p : Part} {s u : State} {a0 : Fin 4} (hu : p.same s u) (h : keeps Foot.execPresenceDebounceAbort p = true) :
    ∃ t, execPresenceDebounceAbort a0 u = .next t ∧ p.same s t := by
  simp [Foot.execPresenceDebounceAbort, and_assoc] at h
  obtain ⟨h1, h2⟩ := h
  refine ⟨_, rfl, ?_⟩
  repeat' first
    | with_reducible assumption | intro _ | with_reducible exact same_refl | with_reducible apply same_flag
    | with_reducible apply same_setInstate | with_reducible apply same_ite | with_reducible apply off_ite | dsimp only
    | split

theorem same_execProbeComplete {p : Part} {s u : State} {a0 : Fin 4} {a1 : Nat} {a2 : Int} {a3 : List ProbeStep} {a4 : List Nat} (hu : p.same s u) (h : keeps Foot.execProbeComplete p = true) :
    ∃ t, execProbeComplete a0 a1 a2 a3 a4 u = .next t ∧ p.same s t := by
  simp [Foot.execProbeComplete, and_assoc] at h
  obtain ⟨h1, h2, h3, h4, h5, h6, h7, h8, h9⟩ := h
  refine ⟨_, rfl, ?_⟩
  repeat' first
    | with_reducible assumption | intro _ | with_reducible exact same_refl | with_reducible apply same_set
    | with_reducible apply same_iff | with_reducible apply same_flag | with_reducible apply same_latchStand
    | with_reducible apply same_endProbe | with_reducible apply same_classify | with_reducible apply same_setInstate
    | with_reducible apply same_ite | with_reducible apply same_ite_fst | with_reducible apply same_ite_state
    | with_reducible apply off_ite | dsimp only | split

theorem same_execClassHoldExpire {p : Part} {s u : State} {a0 : Fin 4} (hu : p.same s u) (h : keeps Foot.execClassHoldExpire p = true) :
    ∃ t, execClassHoldExpire a0 u = .next t ∧ p.same s t := by
  simp [Foot.execClassHoldExpire, and_assoc] at h
  obtain ⟨h1, h2, h3⟩ := h
  refine ⟨_, rfl, ?_⟩
  repeat' first
    | with_reducible assumption | intro _ | with_reducible exact same_refl | with_reducible apply same_iff
    | with_reducible apply same_dropClass | with_reducible apply same_setInstate | with_reducible apply same_uncouple
    | with_reducible apply same_ite | with_reducible apply same_ite_fst | with_reducible apply same_ite_state
    | with_reducible apply off_ite | dsimp only | split

theorem same_execInputPresenceLost {p : Part} {s u : State} {a0 : Fin 4} (hu : p.same s u) (h : keeps Foot.execInputPresenceLost p = true) :
    ∃ t, execInputPresenceLost a0 u = .next t ∧ p.same s t := by
  simp [Foot.execInputPresenceLost, and_assoc] at h
  obtain ⟨h1, h2, h3, h4, h5, h6, h7, h8, h9, h10, h11, h12, h13, h14, h15, h16, h17⟩ := h
  refine ⟨_, rfl, ?_⟩
  repeat' first
    | with_reducible assumption | intro _ | with_reducible exact same_refl | with_reducible apply same_iff
    | with_reducible apply same_setBit | with_reducible apply same_flag | with_reducible apply same_set
    | with_reducible apply same_inc | with_reducible apply same_endUvInhibit | with_reducible apply same_abortSweep
    | with_reducible apply same_gates | with_reducible apply same_ended | with_reducible apply same_tripGroup
    | with_reducible apply same_equaliseFollow | with_reducible apply same_holdOrDrop | with_reducible apply same_setInstate
    | with_reducible apply same_ite | with_reducible apply same_ite_fst | with_reducible apply same_ite_state
    | with_reducible apply off_ite | dsimp only | split

theorem same_execIdDecode {p : Part} {s u : State} {a0 : Fin 4} {a1 : Nat} (hu : p.same s u) (h : keeps Foot.execIdDecode p = true) :
    ∃ t, execIdDecode a0 a1 u = .next t ∧ p.same s t := by
  simp [Foot.execIdDecode, and_assoc] at h
  obtain ⟨h1, h2, h3⟩ := h
  refine ⟨_, rfl, ?_⟩
  repeat' first
    | with_reducible assumption | intro _ | with_reducible exact same_refl | with_reducible apply same_setBand
    | with_reducible apply same_restartClass | with_reducible apply same_dropClass | with_reducible apply same_ite
    | with_reducible apply off_ite | dsimp only | split

end Sys2Proof.Machine.Part
end

