-- ==== Sys2Proof/Laws/SameTracking.lean ====
section
/-! SUPPORT. What the operations of Machine/Tracking.lean leave as before: one lemma for each. -/

set_option linter.all false

namespace Sys2Proof.Machine.Part

theorem same_execTrkWeak {p : Part} {s u : State} {a0 : Fin 4} (hu : p.same s u) (h : keeps Foot.execTrkWeak p = true) :
    ∃ t, execTrkWeak a0 u = .next t ∧ p.same s t := by
  simp [Foot.execTrkWeak, and_assoc] at h
  refine ⟨_, rfl, ?_⟩
  repeat' first
    | with_reducible assumption | intro _ | with_reducible exact same_refl | with_reducible apply same_latchStand
    | with_reducible apply same_ite | with_reducible apply off_ite | dsimp only | split

theorem same_setCeiling {p : Part} {s u : State} {a1 : Nat} {a2 : Nat} (hu : p.same s u) (h : keeps Foot.setCeiling p = true) :
    p.same s (State.setCeiling u a1 a2) := by
  simp [Foot.setCeiling, and_assoc] at h
  obtain ⟨h1, h2, h3, h4⟩ := h
  unfold State.setCeiling
  repeat' first
    | with_reducible assumption | intro _ | with_reducible exact same_refl | with_reducible apply same_set
    | with_reducible apply same_stopGroup | with_reducible apply same_toOnDelay | with_reducible apply same_switchOn
    | with_reducible apply same_ite | with_reducible apply off_ite | dsimp only | split

theorem same_dropCeilings {p : Part} {s u : State}  (hu : p.same s u) (h : keeps Foot.dropCeilings p = true) :
    p.same s (State.dropCeilings u) := by
  simp [Foot.dropCeilings, and_assoc] at h
  obtain ⟨h1, h2, h3, h4, h5⟩ := h
  unfold State.dropCeilings
  repeat' first
    | with_reducible assumption | intro _ | with_reducible exact same_refl | with_reducible apply same_flag
    | with_reducible apply same_set | with_reducible apply same_each | with_reducible apply same_iff
    | with_reducible apply same_setCeiling | dsimp only

theorem same_judgeOrder {p : Part} {s u : State}  (hu : p.same s u) (h : keeps Foot.judgeOrder p = true) :
    p.same s (State.judgeOrder u) := by
  simp [Foot.judgeOrder, and_assoc] at h
  obtain ⟨h1, h2, h3, h4⟩ := h
  unfold State.judgeOrder
  repeat' first
    | with_reducible assumption | intro _ | with_reducible exact same_refl | with_reducible apply same_flag
    | with_reducible apply same_set | with_reducible apply same_latchStand | with_reducible apply same_ended
    | with_reducible apply same_ite | dsimp only | split

theorem same_trackFollow {p : Part} {s u : State}  (hu : p.same s u) (h : keeps Foot.trackFollow p = true) :
    p.same s (State.trackFollow u) := by
  simp [Foot.trackFollow, and_assoc] at h
  obtain ⟨h1, h2, h3⟩ := h
  unfold State.trackFollow
  repeat' first
    | with_reducible assumption | intro _ | with_reducible exact same_refl | with_reducible apply same_each
    | with_reducible apply same_iff | with_reducible apply same_set | with_reducible apply same_flag | dsimp only

theorem same_sweepNow {p : Part} {s u : State} {a1 : Nat} (hu : p.same s u) (h : keeps Foot.sweepNow p = true) :
    p.same s (State.sweepNow u a1) := by
  simp [Foot.sweepNow, and_assoc] at h
  unfold State.sweepNow
  repeat' first
    | with_reducible assumption | intro _ | with_reducible exact same_refl | with_reducible apply same_flag
    | with_reducible apply same_ite | dsimp only | split

theorem same_rampFollow {p : Part} {s u : State} {a1 : Nat} (hu : p.same s u) (h : keeps Foot.rampFollow p = true) :
    p.same s (State.rampFollow u a1) := by
  simp [Foot.rampFollow, and_assoc] at h
  unfold State.rampFollow
  repeat' first
    | with_reducible assumption | intro _ | with_reducible exact same_refl | with_reducible apply same_set
    | with_reducible apply same_ite | with_reducible apply off_ite | dsimp only | split

theorem same_noCeilings {p : Part} {s u : State}  (hu : p.same s u) (h : keeps Foot.noCeilings p = true) :
    p.same s (State.noCeilings u) := by
  simp [Foot.noCeilings, and_assoc] at h
  obtain ⟨h1, h2, h3, h4, h5⟩ := h
  unfold State.noCeilings
  repeat' first
    | with_reducible assumption | intro _ | with_reducible exact same_refl | with_reducible apply same_flag
    | with_reducible apply same_set | with_reducible apply same_each | with_reducible apply same_rampFollow
    | with_reducible apply same_setCeiling | dsimp only

theorem same_execSweepNow {p : Part} {s u : State} {a0 : Fin 4} (hu : p.same s u) (h : keeps Foot.execSweepNow p = true) :
    ∃ t, execSweepNow a0 u = .next t ∧ p.same s t := by
  simp [Foot.execSweepNow, and_assoc] at h
  refine ⟨_, rfl, ?_⟩
  repeat' first
    | with_reducible assumption | intro _ | with_reducible exact same_refl | with_reducible apply same_sweepNow | dsimp only

theorem same_execSweepAbort {p : Part} {s u : State} {a0 : Fin 4} (hu : p.same s u) (h : keeps Foot.execSweepAbort p = true) :
    ∃ t, execSweepAbort a0 u = .next t ∧ p.same s t := by
  simp [Foot.execSweepAbort, and_assoc] at h
  refine ⟨_, rfl, ?_⟩
  repeat' first
    | with_reducible assumption | intro _ | with_reducible exact same_refl | with_reducible apply same_abortSweep
    | dsimp only

theorem same_execSweepStart {p : Part} {s u : State} {a0 : Fin 4} (hu : p.same s u) (h : keeps Foot.execSweepStart p = true) :
    ∃ t, execSweepStart a0 u = .next t ∧ p.same s t := by
  simp [Foot.execSweepStart, and_assoc] at h
  obtain ⟨h1, h2, h3, h4, h5, h6⟩ := h
  refine ⟨_, rfl, ?_⟩
  repeat' first
    | with_reducible assumption | intro _ | with_reducible exact same_refl | with_reducible apply same_set
    | with_reducible apply same_flag | with_reducible apply same_setBit | with_reducible apply same_setCeiling
    | with_reducible apply same_ite | with_reducible apply off_ite | dsimp only | split

theorem same_execPoPeriodEnd {p : Part} {s u : State} {a0 : Fin 4} {a1 : Nat} {a2 : Bool} (hu : p.same s u) (h : keeps Foot.execPoPeriodEnd p = true) :
    ∃ t, execPoPeriodEnd a0 a1 a2 u = .next t ∧ p.same s t := by
  simp [Foot.execPoPeriodEnd, and_assoc] at h
  obtain ⟨h1, h2, h3, h4, h5, h6, h7, h8⟩ := h
  refine ⟨_, rfl, ?_⟩
  repeat' first
    | with_reducible assumption | intro _ | with_reducible exact same_refl | with_reducible apply same_flag
    | with_reducible apply same_set | with_reducible apply same_ite | with_reducible apply same_ite_fst
    | with_reducible apply same_ite_state | with_reducible apply off_ite | dsimp only | split

theorem same_allocate {p : Part} {s u : State} {a1 : Quad} {a2 : Quad} {a3 : Int} {a4 : Int} (hu : p.same s u) (h : keeps Foot.allocate p = true) :
    p.same s (State.allocate u a1 a2 a3 a4) := by
  simp [Foot.allocate, and_assoc] at h
  obtain ⟨h1, h2, h3, h4, h5, h6, h7, h8⟩ := h
  unfold State.allocate
  repeat' first
    | with_reducible assumption | intro _ | with_reducible exact same_refl | with_reducible apply same_set
    | with_reducible apply same_flag | with_reducible apply same_each | with_reducible apply same_rampFollow
    | with_reducible apply same_setCeiling | with_reducible apply same_ite | with_reducible apply same_ite_fst
    | with_reducible apply same_ite_state | dsimp only | split

theorem same_execSweepComplete {p : Part} {s u : State} {a0 : Fin 4} {a1 : Nat} {a2 : List Nat} (hu : p.same s u) (h : keeps Foot.execSweepComplete p = true) :
    ∃ t, execSweepComplete a0 a1 a2 u = .next t ∧ p.same s t := by
  simp [Foot.execSweepComplete, and_assoc] at h
  obtain ⟨h1, h2, h3, h4, h5, h6, h7, h8, h9, h10, h11, h12, h13⟩ := h
  refine ⟨_, rfl, ?_⟩
  repeat' first
    | with_reducible assumption | intro _ | with_reducible exact same_refl | with_reducible apply same_set
    | with_reducible apply same_flag | with_reducible apply same_setBit | with_reducible apply same_ended
    | with_reducible apply same_ite | with_reducible apply same_ite_fst | with_reducible apply same_ite_state
    | with_reducible apply off_ite | dsimp only | split

theorem same_capacityFollow {p : Part} {s u : State} {a1 : Quad} {a2 : Quad} (hu : p.same s u) (h : keeps Foot.capacityFollow p = true) :
    p.same s (State.capacityFollow u a1 a2) := by
  simp [Foot.capacityFollow, and_assoc] at h
  unfold State.capacityFollow
  repeat' first
    | with_reducible assumption | intro _ | with_reducible exact same_refl | with_reducible apply same_each
    | with_reducible apply same_set | dsimp only

theorem same_execAllocatorUpdate {p : Part} {s u : State} {a0 : Quad} {a1 : Quad} {a2 : Int} {a3 : Int} {a4 : Nat} (hu : p.same s u) (h : keeps Foot.execAllocatorUpdate p = true) :
    ∃ t, execAllocatorUpdate a0 a1 a2 a3 a4 u = .next t ∧ p.same s t := by
  simp [Foot.execAllocatorUpdate, and_assoc] at h
  obtain ⟨h1, h2, h3, h4, h5, h6, h7, h8, h9, h10, h11, h12, h13, h14⟩ := h
  refine ⟨_, rfl, ?_⟩
  repeat' first
    | with_reducible assumption | intro _ | with_reducible exact same_refl | with_reducible apply same_each
    | with_reducible apply same_set | with_reducible apply same_updateLimit | with_reducible apply same_trackFollow
    | with_reducible apply same_pulseFall | with_reducible apply same_chgRamp | with_reducible apply same_leaveIdle
    | with_reducible apply same_chgFollow | with_reducible apply same_capacityFollow | with_reducible apply same_allocate
    | with_reducible apply same_noCeilings | with_reducible apply same_startVaux | with_reducible apply same_ite
    | with_reducible apply same_ite_fst | with_reducible apply same_ite_state | dsimp only | split

end Sys2Proof.Machine.Part
end

