-- ==== Sys2Proof/Laws/SameConverter.lean ====
section
/-! SUPPORT. What the operations of Machine/Converter.lean leave as before: one lemma for each. -/

set_option linter.all false

namespace Sys2Proof.Machine.Part

theorem same_execZeroCrossUpdate {p : Part} {s u : State} {a0 : Fin 6} {a1 : Bool} {a2 : Bool} (hu : p.same s u) (h : keeps Foot.execZeroCrossUpdate p = true) :
    ∃ t, execZeroCrossUpdate a0 a1 a2 u = .next t ∧ p.same s t := by
  simp [Foot.execZeroCrossUpdate, and_assoc] at h
  refine ⟨_, rfl, ?_⟩
  repeat' first
    | with_reducible assumption | intro _ | with_reducible exact same_refl | with_reducible apply same_setS
    | with_reducible apply same_ite | with_reducible apply off_ite | dsimp only | split

theorem same_tuneFail {p : Part} {s u : State} {a1 : Nat} (hu : p.same s u) (h : keeps Foot.tuneFail p = true) :
    p.same s (State.tuneFail u a1) := by
  simp [Foot.tuneFail, and_assoc] at h
  obtain ⟨h1, h2, h3, h4, h5⟩ := h
  unfold State.tuneFail
  repeat' first
    | with_reducible assumption | intro _ | with_reducible exact same_refl | with_reducible apply same_flag
    | with_reducible apply same_set | with_reducible apply same_latch | dsimp only

theorem same_phaseCurrents {p : Part} {s u : State} {a1 : Nat} {a2 : List Int} (hu : p.same s u) (h : keeps Foot.phaseCurrents p = true) :
    p.same s (State.phaseCurrents u a1 a2) := by
  simp [Foot.phaseCurrents, and_assoc] at h
  obtain ⟨h1, h2⟩ := h
  unfold State.phaseCurrents
  repeat' first
    | with_reducible assumption | intro _ | with_reducible exact same_refl | with_reducible apply same_setS
    | with_reducible apply same_ite | with_reducible apply same_foldl | with_reducible apply same_ite_fst
    | with_reducible apply same_ite_state | with_reducible apply off_ite | dsimp only | split

theorem same_joinPhase {p : Part} {s u : State} {a1 : Nat} {a2 : Nat} (hu : p.same s u) (h : keeps Foot.joinPhase p = true) :
    p.same s (State.joinPhase u a1 a2) := by
  simp [Foot.joinPhase, and_assoc] at h
  obtain ⟨h1, h2, h3, h4, h5, h6, h7, h8⟩ := h
  unfold State.joinPhase
  repeat' first
    | with_reducible assumption | intro _ | with_reducible exact same_refl | with_reducible apply same_flag
    | with_reducible apply same_setS | with_reducible apply same_set | with_reducible apply same_switchPhase
    | with_reducible apply same_phasePeaks | with_reducible apply same_countActive | dsimp only

theorem same_addBack {p : Part} {s u : State} {a1 : Nat} (hu : p.same s u) (h : keeps Foot.addBack p = true) :
    p.same s (State.addBack u a1) := by
  simp [Foot.addBack, and_assoc] at h
  obtain ⟨h1, h2⟩ := h
  unfold State.addBack
  repeat' first
    | with_reducible assumption | intro _ | with_reducible exact same_refl | with_reducible apply same_clear
    | with_reducible apply same_joinPhase | with_reducible apply same_ite | with_reducible apply same_ite_fst
    | with_reducible apply same_ite_state | dsimp only | split

theorem same_shedPhase {p : Part} {s u : State} {a1 : Nat} {a2 : Nat} (hu : p.same s u) (h : keeps Foot.shedPhase p = true) :
    p.same s (State.shedPhase u a1 a2) := by
  simp [Foot.shedPhase, and_assoc] at h
  obtain ⟨h1, h2, h3, h4, h5, h6, h7⟩ := h
  unfold State.shedPhase
  repeat' first
    | with_reducible assumption | intro _ | with_reducible exact same_refl | with_reducible apply same_set
    | with_reducible apply same_flag | with_reducible apply same_clear | with_reducible apply same_countActive
    | with_reducible apply same_switchPhase | with_reducible apply same_phasePeaks | dsimp only

theorem same_execShedEvaluation {p : Part} {s u : State} {a0 : Fin 4} {a1 : List Int} {a2 : Bool} {a3 : Bool} (hu : p.same s u) (h : keeps Foot.execShedEvaluation p = true) :
    ∃ t, execShedEvaluation a0 a1 a2 a3 u = .next t ∧ p.same s t := by
  simp [Foot.execShedEvaluation, and_assoc] at h
  obtain ⟨h1, h2, h3, h4, h5, h6⟩ := h
  refine ⟨_, rfl, ?_⟩
  repeat' first
    | with_reducible assumption | intro _ | with_reducible exact same_refl | with_reducible apply same_flag
    | with_reducible apply same_set | with_reducible apply same_phaseCurrents | with_reducible apply same_addBack
    | with_reducible apply same_shedPhase | with_reducible apply same_ite | with_reducible apply off_ite | dsimp only
    | split

theorem same_phRetry {p : Part} {s u : State} {a1 : Nat} (hu : p.same s u) (h : keeps Foot.phRetry p = true) :
    p.same s (State.phRetry u a1) := by
  simp [Foot.phRetry, and_assoc] at h
  obtain ⟨h1, h2, h3, h4, h5, h6⟩ := h
  unfold State.phRetry
  repeat' first
    | with_reducible assumption | intro _ | with_reducible exact same_refl | with_reducible apply same_set
    | with_reducible apply same_setBit | with_reducible apply same_flag | with_reducible apply same_ended
    | with_reducible apply same_settleGroup | with_reducible apply same_joinPhase | with_reducible apply same_ite
    | dsimp only | split

theorem same_tuneDue {p : Part} {s u : State} {a1 : Nat} (hu : p.same s u) (h : keeps Foot.tuneDue p = true) :
    p.same s (State.tuneDue u a1) := by
  simp [Foot.tuneDue, and_assoc] at h
  obtain ⟨h1, h2, h3, h4⟩ := h
  unfold State.tuneDue
  repeat' first
    | with_reducible assumption | intro _ | with_reducible exact same_refl | with_reducible apply same_set
    | with_reducible apply same_flag | dsimp only

theorem same_retune {p : Part} {s u : State} {a1 : Nat} (hu : p.same s u) (h : keeps Foot.retune p = true) :
    p.same s (State.retune u a1) := by
  simp [Foot.retune, and_assoc] at h
  unfold State.retune
  repeat' first
    | with_reducible assumption | intro _ | with_reducible exact same_refl | with_reducible apply same_tuneDue
    | with_reducible apply same_ite | dsimp only | split

theorem same_execBootstrapRefresh {p : Part} {s u : State} {a0 : Fin 6} {a1 : RefreshPulse} (hu : p.same s u) (h : keeps Foot.execBootstrapRefresh p = true) :
    ∃ t, execBootstrapRefresh a0 a1 u = .next t ∧ p.same s t := by
  simp [Foot.execBootstrapRefresh, and_assoc] at h
  obtain ⟨h1, h2⟩ := h
  refine ⟨_, rfl, ?_⟩
  repeat' first
    | with_reducible assumption | intro _ | with_reducible exact same_refl | with_reducible apply same_set
    | with_reducible apply same_iff | with_reducible apply same_flag | with_reducible apply same_ite
    | with_reducible apply same_ite_fst | with_reducible apply same_ite_state | dsimp only | split

theorem same_execDriveSupplyUv {p : Part} {s u : State}  (hu : p.same s u) (h : keeps Foot.execDriveSupplyUv p = true) :
    ∃ t, execDriveSupplyUv u = .next t ∧ p.same s t := by
  simp [Foot.execDriveSupplyUv, and_assoc] at h
  obtain ⟨h1, h2⟩ := h
  refine ⟨_, rfl, ?_⟩
  repeat' first
    | with_reducible assumption | intro _ | with_reducible exact same_refl | with_reducible apply same_each
    | with_reducible apply same_latchStand | with_reducible apply same_tripGroup | dsimp only

theorem same_failPhase {p : Part} {s u : State} {a1 : Nat} {a2 : Nat} {a3 : Reg} (hu : p.same s u) (h : keeps (Foot.failPhase a3) p = true) :
    p.same s (State.failPhase u a1 a2 a3) := by
  simp [Foot.failPhase, and_assoc] at h
  obtain ⟨h1, h2⟩ := h
  unfold State.failPhase
  repeat' first
    | with_reducible assumption | intro _ | with_reducible exact same_refl | with_reducible apply same_latchStand
    | with_reducible apply same_excludePhase | with_reducible apply same_ite | dsimp only | split

theorem same_execPhaseShort {p : Part} {s u : State} {a0 : Fin 6} (hu : p.same s u) (h : keeps Foot.execPhaseShort p = true) :
    ∃ t, execPhaseShort a0 u = .next t ∧ p.same s t := by
  simp [Foot.execPhaseShort, and_assoc] at h
  refine ⟨_, rfl, ?_⟩
  repeat' first
    | with_reducible assumption | intro _ | with_reducible exact same_refl | with_reducible apply same_failPhase
    | dsimp only

theorem same_execTuningComplete {p : Part} {s u : State} {a0 : Fin 4} {a1 : Nat} {a2 : Nat} (hu : p.same s u) (h : keeps Foot.execTuningComplete p = true) :
    ∃ t, execTuningComplete a0 a1 a2 u = .next t ∧ p.same s t := by
  simp [Foot.execTuningComplete, and_assoc] at h
  obtain ⟨h1, h2, h3, h4, h5, h6, h7, h8⟩ := h
  refine ⟨_, rfl, ?_⟩
  repeat' first
    | with_reducible assumption | intro _ | with_reducible exact same_refl | with_reducible apply same_flag
    | with_reducible apply same_set | with_reducible apply same_tuneFail | with_reducible apply same_ite
    | with_reducible apply off_ite | dsimp only | split

theorem same_execPhaseOpen {p : Part} {s u : State} {a0 : Fin 6} (hu : p.same s u) (h : keeps Foot.execPhaseOpen p = true) :
    ∃ t, execPhaseOpen a0 u = .next t ∧ p.same s t := by
  simp [Foot.execPhaseOpen, and_assoc] at h
  refine ⟨_, rfl, ?_⟩
  repeat' first
    | with_reducible assumption | intro _ | with_reducible exact same_refl | with_reducible apply same_failPhase
    | with_reducible apply same_ite | with_reducible apply off_ite | dsimp only | split

theorem same_execGroupSwitchStart {p : Part} {s u : State} {a0 : Fin 4} (hu : p.same s u) (h : keeps Foot.execGroupSwitchStart p = true) :
    ∃ t, execGroupSwitchStart a0 u = .next t ∧ p.same s t := by
  simp [Foot.execGroupSwitchStart, and_assoc] at h
  obtain ⟨h1, h2, h3, h4, h5, h6⟩ := h
  refine ⟨_, rfl, ?_⟩
  repeat' first
    | with_reducible assumption | intro _ | with_reducible exact same_refl | with_reducible apply same_flag
    | with_reducible apply same_set | with_reducible apply same_tuneDue | with_reducible apply same_switchOn
    | with_reducible apply same_ite | with_reducible apply off_ite | dsimp only | split

theorem same_execPhRetry {p : Part} {s u : State} {a0 : Fin 6} (hu : p.same s u) (h : keeps Foot.execPhRetry p = true) :
    ∃ t, execPhRetry a0 u = .next t ∧ p.same s t := by
  simp [Foot.execPhRetry, and_assoc] at h
  refine ⟨_, rfl, ?_⟩
  repeat' first
    | with_reducible assumption | intro _ | with_reducible exact same_refl | with_reducible apply same_phRetry | dsimp only

theorem same_execDeadTimeUpdate {p : Part} {s u : State} {a0 : Fin 6} {a1 : Fin 4} {a2 : Bool} {a3 : Bool} {a4 : Nat} (hu : p.same s u) (h : keeps Foot.execDeadTimeUpdate p = true) :
    ∃ t, execDeadTimeUpdate a0 a1 a2 a3 a4 u = .next t ∧ p.same s t := by
  simp [Foot.execDeadTimeUpdate, and_assoc] at h
  obtain ⟨h1, h2, h3, h4⟩ := h
  refine ⟨_, rfl, ?_⟩
  repeat' first
    | (unfold deadTime; split <;> assumption) | with_reducible assumption | intro _ | with_reducible exact same_refl
    | with_reducible apply same_set | with_reducible apply same_ite | dsimp only | split

theorem same_trimSat {p : Part} {s u : State} {a1 : Nat} (hu : p.same s u) (h : keeps Foot.trimSat p = true) :
    p.same s (State.trimSat u a1) := by
  simp [Foot.trimSat, and_assoc] at h
  obtain ⟨h1, h2⟩ := h
  unfold State.trimSat
  repeat' first
    | with_reducible assumption | intro _ | with_reducible exact same_refl | with_reducible apply same_inc
    | with_reducible apply same_flag | with_reducible apply same_clear | with_reducible apply same_ite | dsimp only | split

theorem same_execDriveSupplyClear {p : Part} {s u : State}  (hu : p.same s u) (h : keeps Foot.execDriveSupplyClear p = true) :
    ∃ t, execDriveSupplyClear u = .next t ∧ p.same s t := by
  simp [Foot.execDriveSupplyClear, and_assoc] at h
  obtain ⟨h1, h2⟩ := h
  refine ⟨_, rfl, ?_⟩
  repeat' first
    | with_reducible assumption | intro _ | with_reducible exact same_refl | with_reducible apply same_each
    | with_reducible apply same_ended | with_reducible apply same_endTrip | dsimp only

theorem same_weakFollow {p : Part} {s u : State} {a1 : Nat} (hu : p.same s u) (h : keeps Foot.weakFollow p = true) :
    p.same s (State.weakFollow u a1) := by
  simp [Foot.weakFollow, and_assoc] at h
  obtain ⟨h1, h2⟩ := h
  unfold State.weakFollow
  repeat' first
    | with_reducible assumption | intro _ | with_reducible exact same_refl | with_reducible apply same_clear
    | with_reducible apply same_set | with_reducible apply same_ended | with_reducible apply same_ite | dsimp only | split

theorem same_regionFollow {p : Part} {s u : State} {a1 : Nat} (hu : p.same s u) (h : keeps Foot.regionFollow p = true) :
    p.same s (State.regionFollow u a1) := by
  simp [Foot.regionFollow, and_assoc] at h
  obtain ⟨h1, h2⟩ := h
  unfold State.regionFollow
  repeat' first
    | with_reducible assumption | intro _ | with_reducible exact same_refl | with_reducible apply same_slopeFollow
    | with_reducible apply same_regionSet | dsimp only

theorem same_execPeakLimit {p : Part} {s u : State} {a0 : TurnOff} (hu : p.same s u) (h : keeps Foot.execPeakLimit p = true) :
    ∃ t, execPeakLimit a0 u = .next t ∧ p.same s t := by
  simp [Foot.execPeakLimit, and_assoc] at h
  obtain ⟨h1, h2, h3⟩ := h
  refine ⟨_, rfl, ?_⟩
  repeat' first
    | with_reducible assumption | intro _ | with_reducible exact same_refl | with_reducible apply same_set
    | with_reducible apply same_inc | with_reducible apply same_addBack | with_reducible apply same_ite
    | with_reducible apply off_ite | dsimp only | split

theorem same_modulate {p : Part} {s u : State} {a1 : Nat} (hu : p.same s u) (h : keeps Foot.modulate p = true) :
    p.same s (State.modulate u a1) := by
  simp [Foot.modulate, and_assoc] at h
  obtain ⟨h1, h2, h3, h4, h5, h6, h7⟩ := h
  unfold State.modulate
  repeat' first
    | (unfold loopReg; split <;> assumption) | with_reducible assumption | intro _ | with_reducible exact same_refl
    | with_reducible apply same_inc | with_reducible apply same_set | with_reducible apply same_ite
    | with_reducible apply off_ite | dsimp only | split

theorem same_execGroupOffDelayEnd {p : Part} {s u : State} {a0 : Fin 4} (hu : p.same s u) (h : keeps Foot.execGroupOffDelayEnd p = true) :
    ∃ t, execGroupOffDelayEnd a0 u = .next t ∧ p.same s t := by
  simp [Foot.execGroupOffDelayEnd, and_assoc] at h
  refine ⟨_, rfl, ?_⟩
  repeat' first
    | with_reducible assumption | intro _ | with_reducible exact same_refl | with_reducible apply same_stopGroup
    | with_reducible apply same_ite | with_reducible apply off_ite | dsimp only | split

theorem same_plainTargets {p : Part} {s u : State} {a1 : Nat} (hu : p.same s u) (h : keeps Foot.plainTargets p = true) :
    p.same s (State.plainTargets u a1) := by
  simp [Foot.plainTargets, and_assoc] at h
  obtain ⟨h1, h2, h3, h4, h5⟩ := h
  unfold State.plainTargets
  repeat' first
    | with_reducible assumption | intro _ | with_reducible exact same_refl | with_reducible apply same_set
    | with_reducible apply same_ite | with_reducible apply off_ite | dsimp only | split

theorem same_execRetune {p : Part} {s u : State} {a0 : Fin 4} (hu : p.same s u) (h : keeps Foot.execRetune p = true) :
    ∃ t, execRetune a0 u = .next t ∧ p.same s t := by
  simp [Foot.execRetune, and_assoc] at h
  refine ⟨_, rfl, ?_⟩
  repeat' first
    | with_reducible assumption | intro _ | with_reducible exact same_refl | with_reducible apply same_retune | dsimp only

theorem same_execBootstrapFault {p : Part} {s u : State} {a0 : Fin 6} (hu : p.same s u) (h : keeps Foot.execBootstrapFault p = true) :
    ∃ t, execBootstrapFault a0 u = .next t ∧ p.same s t := by
  simp [Foot.execBootstrapFault, and_assoc] at h
  obtain ⟨h1, h2⟩ := h
  refine ⟨_, rfl, ?_⟩
  repeat' first
    | with_reducible assumption | intro _ | with_reducible exact same_refl | with_reducible apply same_flag
    | with_reducible apply same_failPhase | with_reducible apply same_ite | with_reducible apply off_ite | dsimp only
    | split

theorem same_tuneFollow {p : Part} {s u : State} {a1 : Nat} (hu : p.same s u) (h : keeps Foot.tuneFollow p = true) :
    p.same s (State.tuneFollow u a1) := by
  simp [Foot.tuneFollow, and_assoc] at h
  obtain ⟨h1, h2, h3, h4, h5, h6⟩ := h
  unfold State.tuneFollow
  repeat' first
    | with_reducible assumption | intro _ | with_reducible exact same_refl | with_reducible apply same_flag
    | with_reducible apply same_set | with_reducible apply same_inc | with_reducible apply same_ite
    | with_reducible apply off_ite | dsimp only | split

theorem same_loopTargets {p : Part} {s u : State} {a1 : Nat} (hu : p.same s u) (h : keeps Foot.loopTargets p = true) :
    p.same s (State.loopTargets u a1) := by
  simp [Foot.loopTargets, and_assoc] at h
  obtain ⟨h1, h2⟩ := h
  unfold State.loopTargets
  repeat' first
    | with_reducible assumption | intro _ | with_reducible exact same_refl | with_reducible apply same_modulate
    | with_reducible apply same_plainTargets | dsimp only

theorem same_holdDemands {p : Part} {s u : State} {a1 : Nat} {a2 : Nat} {a3 : List Nat} (hu : p.same s u) (h : keeps Foot.holdDemands p = true) :
    p.same s (State.holdDemands u a1 a2 a3) := by
  simp [Foot.holdDemands, and_assoc] at h
  unfold State.holdDemands
  repeat' first
    | with_reducible assumption | intro _ | with_reducible exact same_refl | with_reducible apply same_set
    | with_reducible apply same_foldl | dsimp only

theorem same_runFollow {p : Part} {s u : State} {a1 : Nat} {a2 : Nat} (hu : p.same s u) (h : keeps Foot.runFollow p = true) :
    p.same s (State.runFollow u a1 a2) := by
  simp [Foot.runFollow, and_assoc] at h
  obtain ⟨h1, h2⟩ := h
  unfold State.runFollow
  repeat' first
    | with_reducible assumption | intro _ | with_reducible exact same_refl | with_reducible apply same_set
    | with_reducible apply same_idlePhases | with_reducible apply same_ite | dsimp only | split

theorem same_taperCheck {p : Part} {s u : State} {a1 : Nat} (hu : p.same s u) (h : keeps Foot.taperCheck p = true) :
    p.same s (State.taperCheck u a1) := by
  simp [Foot.taperCheck, and_assoc] at h
  unfold State.taperCheck
  repeat' first
    | with_reducible assumption | intro _ | with_reducible exact same_refl | with_reducible apply same_chgTo
    | with_reducible apply same_ite | dsimp only | split

theorem same_execLoopEvaluation {p : Part} {s u : State} {a0 : Fin 4} {a1 : Nat} {a2 : Nat} {a3 : Nat} {a4 : Nat} {a5 : Nat} {a6 : Nat} {a7 : Nat} {a8 : Nat} {a9 : Nat} {a10 : Nat} (hu : p.same s u) (h : keeps Foot.execLoopEvaluation p = true) :
    ∃ t, execLoopEvaluation a0 a1 a2 a3 a4 a5 a6 a7 a8 a9 a10 u = .next t ∧ p.same s t := by
  simp [Foot.execLoopEvaluation, and_assoc] at h
  obtain ⟨h1, h2, h3, h4, h5, h6, h7, h8, h9, h10, h11, h12, h13, h14, h15, h16, h17, h18, h19, h20, h21⟩ := h
  refine ⟨_, rfl, ?_⟩
  repeat' first
    | with_reducible assumption | intro _ | with_reducible exact same_refl | with_reducible apply same_set
    | with_reducible apply same_flag | with_reducible apply same_iff | with_reducible apply same_loopTargets
    | with_reducible apply same_chgTargets | with_reducible apply same_holdDemands | with_reducible apply same_slopeFollow
    | with_reducible apply same_phasePeaks | with_reducible apply same_regionFollow | with_reducible apply same_addBack
    | with_reducible apply same_tuneFollow | with_reducible apply same_runFollow | with_reducible apply same_taperCheck
    | with_reducible apply same_weakFollow | with_reducible apply same_ite | with_reducible apply same_foldl
    | with_reducible apply same_ite_fst | with_reducible apply same_ite_state | with_reducible apply off_ite | dsimp only
    | split

theorem same_execGroupOnDelayEnd {p : Part} {s u : State} {a0 : Fin 4} (hu : p.same s u) (h : keeps Foot.execGroupOnDelayEnd p = true) :
    ∃ t, execGroupOnDelayEnd a0 u = .next t ∧ p.same s t := by
  simp [Foot.execGroupOnDelayEnd, and_assoc] at h
  refine ⟨_, rfl, ?_⟩
  repeat' first
    | with_reducible assumption | intro _ | with_reducible exact same_refl | with_reducible apply same_flag
    | with_reducible apply same_ite | with_reducible apply off_ite | dsimp only | split

theorem same_execInputUndervoltage {p : Part} {s u : State} {a0 : Fin 4} (hu : p.same s u) (h : keeps Foot.execInputUndervoltage p = true) :
    ∃ t, execInputUndervoltage a0 u = .next t ∧ p.same s t := by
  simp [Foot.execInputUndervoltage, and_assoc] at h
  obtain ⟨h1, h2⟩ := h
  refine ⟨_, rfl, ?_⟩
  repeat' first
    | with_reducible assumption | intro _ | with_reducible exact same_refl | with_reducible apply same_latchStand
    | with_reducible apply same_tripGroup | with_reducible apply same_ite | with_reducible apply off_ite | dsimp only
    | split

theorem same_execInputUvClear {p : Part} {s u : State} {a0 : Fin 4} (hu : p.same s u) (h : keeps Foot.execInputUvClear p = true) :
    ∃ t, execInputUvClear a0 u = .next t ∧ p.same s t := by
  simp [Foot.execInputUvClear, and_assoc] at h
  obtain ⟨h1, h2⟩ := h
  refine ⟨_, rfl, ?_⟩
  repeat' first
    | with_reducible assumption | intro _ | with_reducible exact same_refl | with_reducible apply same_ended
    | with_reducible apply same_endTrip | dsimp only

theorem same_execSysOvervoltage {p : Part} {s u : State}  (hu : p.same s u) (h : keeps Foot.execSysOvervoltage p = true) :
    ∃ t, execSysOvervoltage u = .next t ∧ p.same s t := by
  simp [Foot.execSysOvervoltage, and_assoc] at h
  obtain ⟨h1, h2, h3⟩ := h
  refine ⟨_, rfl, ?_⟩
  repeat' first
    | with_reducible assumption | intro _ | with_reducible exact same_refl | with_reducible apply same_each
    | with_reducible apply same_latchStand | with_reducible apply same_tripGroup | with_reducible apply same_batteryLost
    | with_reducible apply same_ite | with_reducible apply same_ite_fst | with_reducible apply same_ite_state | dsimp only
    | split

theorem same_execNegativeLimit {p : Part} {s u : State} {a0 : NegativeCurrent} (hu : p.same s u) (h : keeps Foot.execNegativeLimit p = true) :
    ∃ t, execNegativeLimit a0 u = .next t ∧ p.same s t := by
  simp [Foot.execNegativeLimit, and_assoc] at h
  obtain ⟨h1, h2⟩ := h
  refine ⟨_, rfl, ?_⟩
  repeat' first
    | with_reducible assumption | intro _ | with_reducible exact same_refl | with_reducible apply same_iff
    | with_reducible apply same_flag | with_reducible apply same_ite | with_reducible apply same_ite_fst
    | with_reducible apply same_ite_state | dsimp only | split

theorem same_execCnvCfgApply {p : Part} {s u : State}  (hu : p.same s u) (h : keeps Foot.execCnvCfgApply p = true) :
    ∃ t, execCnvCfgApply u = .next t ∧ p.same s t := by
  simp [Foot.execCnvCfgApply, and_assoc] at h
  refine ⟨_, rfl, ?_⟩
  repeat' first
    | with_reducible assumption | intro _ | with_reducible exact same_refl | with_reducible apply same_mapCheck | dsimp only

theorem same_execSysOvClear {p : Part} {s u : State}  (hu : p.same s u) (h : keeps Foot.execSysOvClear p = true) :
    ∃ t, execSysOvClear u = .next t ∧ p.same s t := by
  simp [Foot.execSysOvClear, and_assoc] at h
  obtain ⟨h1, h2⟩ := h
  refine ⟨_, rfl, ?_⟩
  repeat' first
    | with_reducible assumption | intro _ | with_reducible exact same_refl | with_reducible apply same_each
    | with_reducible apply same_ended | with_reducible apply same_endTrip | dsimp only

theorem same_execBurst {p : Part} {s u : State} {a0 : Fin 4} {a1 : Fin 4} (hu : p.same s u) (h : keeps Foot.execBurst p = true) :
    ∃ t, execBurst a0 a1 u = .next t ∧ p.same s t := by
  simp [Foot.execBurst, and_assoc] at h
  obtain ⟨h1, h2, h3, h4, h5, h6⟩ := h
  refine ⟨_, rfl, ?_⟩
  repeat' first
    | with_reducible assumption | intro _ | with_reducible exact same_refl | with_reducible apply same_set
    | with_reducible apply same_flag | with_reducible apply same_phasePeaks | with_reducible apply same_countActive
    | with_reducible apply same_switchPhase | with_reducible apply same_regionFollow | with_reducible apply same_ite
    | with_reducible apply same_foldl | with_reducible apply same_ite_fst | with_reducible apply same_ite_state | dsimp only
    | split

theorem same_execEqualisationUpdate {p : Part} {s u : State} {a0 : Fin 4} {a1 : List Int} (hu : p.same s u) (h : keeps Foot.execEqualisationUpdate p = true) :
    ∃ t, execEqualisationUpdate a0 a1 u = .next t ∧ p.same s t := by
  simp [Foot.execEqualisationUpdate, and_assoc] at h
  obtain ⟨h1, h2, h3, h4, h5, h6⟩ := h
  refine ⟨_, rfl, ?_⟩
  repeat' first
    | with_reducible assumption | intro _ | with_reducible exact same_refl | with_reducible apply same_flag
    | with_reducible apply same_set | with_reducible apply same_setS | with_reducible apply same_phaseCurrents
    | with_reducible apply same_phasePeaks | with_reducible apply same_trimSat | with_reducible apply same_ite
    | with_reducible apply same_foldl | with_reducible apply same_ite_fst | with_reducible apply same_ite_state | dsimp only
    | split

theorem same_execTuneFail {p : Part} {s u : State} {a0 : Fin 4} (hu : p.same s u) (h : keeps Foot.execTuneFail p = true) :
    ∃ t, execTuneFail a0 u = .next t ∧ p.same s t := by
  simp [Foot.execTuneFail, and_assoc] at h
  refine ⟨_, rfl, ?_⟩
  repeat' first
    | with_reducible assumption | intro _ | with_reducible exact same_refl | with_reducible apply same_tuneFail
    | with_reducible apply same_ite | with_reducible apply off_ite | dsimp only | split

end Sys2Proof.Machine.Part
end

