-- ==== Sys2Proof/Laws/SameCharge.lean ====
section
/-! SUPPORT. What the operations of Machine/Charge.lean leave as before: one lemma for each. -/

set_option linter.all false

namespace Sys2Proof.Machine.Part

theorem same_execEqualiseEnd {p : Part} {s u : State} {a0 : Fin 3} (hu : p.same s u) (h : keeps Foot.execEqualiseEnd p = true) :
    ∃ t, execEqualiseEnd a0 u = .next t ∧ p.same s t := by
  simp [Foot.execEqualiseEnd, and_assoc] at h
  obtain ⟨h1, h2⟩ := h
  refine ⟨_, rfl, ?_⟩
  repeat' first
    | with_reducible assumption | intro _ | with_reducible exact same_refl | with_reducible apply same_chgTo
    | with_reducible apply same_equaliseFollow | with_reducible apply same_ite | with_reducible apply off_ite | dsimp only
    | split

theorem same_serviceGroups {p : Part} {s u : State} {a1 : Nat} (hu : p.same s u) (h : keeps Foot.serviceGroups p = true) :
    p.same s (State.serviceGroups u a1).1 := by
  simp [Foot.serviceGroups, and_assoc] at h
  unfold State.serviceGroups
  repeat' first
    | with_reducible assumption | intro _ | with_reducible exact same_refl | with_reducible apply same_set
    | with_reducible apply same_ite | with_reducible apply same_ite_fst | with_reducible apply same_ite_state | dsimp only
    | split

theorem same_chgEndEqualise {p : Part} {s u : State}  (hu : p.same s u) (h : keeps Foot.chgEndEqualise p = true) :
    p.same s (State.chgEndEqualise u).1 := by
  simp [Foot.chgEndEqualise, and_assoc] at h
  unfold State.chgEndEqualise
  repeat' first
    | with_reducible assumption | intro _ | with_reducible exact same_refl | with_reducible apply same_chgTo
    | with_reducible apply same_ite | with_reducible apply same_ite_fst | with_reducible apply same_ite_state | dsimp only
    | split

theorem same_trend {p : Part} {s u : State} {a1 : Nat} (hu : p.same s u) (h : keeps Foot.trend p = true) :
    p.same s (State.trend u a1) := by
  simp [Foot.trend, and_assoc] at h
  obtain ⟨h1, h2⟩ := h
  unfold State.trend
  repeat' first
    | with_reducible assumption | intro _ | with_reducible exact same_refl | with_reducible apply same_inc
    | with_reducible apply same_set | with_reducible apply same_ite | dsimp only | split

theorem same_execAbsorbEnd {p : Part} {s u : State}  (hu : p.same s u) (h : keeps Foot.execAbsorbEnd p = true) :
    ∃ t, execAbsorbEnd u = .next t ∧ p.same s t := by
  simp [Foot.execAbsorbEnd, and_assoc] at h
  obtain ⟨h1, h2⟩ := h
  refine ⟨_, rfl, ?_⟩
  repeat' first
    | with_reducible assumption | intro _ | with_reducible exact same_refl | with_reducible apply same_chgTo
    | with_reducible apply same_terminate | with_reducible apply same_ite | with_reducible apply off_ite | dsimp only
    | split

theorem same_execSafetyTimerTick {p : Part} {s u : State} {a0 : Int} (hu : p.same s u) (h : keeps Foot.execSafetyTimerTick p = true) :
    ∃ t, execSafetyTimerTick a0 u = .next t ∧ p.same s t := by
  simp [Foot.execSafetyTimerTick, and_assoc] at h
  obtain ⟨h1, h2, h3⟩ := h
  refine ⟨_, rfl, ?_⟩
  repeat' first
    | with_reducible assumption | intro _ | with_reducible exact same_refl | with_reducible apply same_inc
    | with_reducible apply same_add | with_reducible apply same_ite | with_reducible apply off_ite | dsimp only | split

theorem same_profileChanged {p : Part} {s u : State}  (hu : p.same s u) (h : keeps Foot.profileChanged p = true) :
    p.same s (State.profileChanged u) := by
  simp [Foot.profileChanged, and_assoc] at h
  obtain ⟨h1, h2, h3, h4, h5, h6, h7, h8⟩ := h
  unfold State.profileChanged
  repeat' first
    | with_reducible assumption | intro _ | with_reducible exact same_refl | with_reducible apply same_flag
    | with_reducible apply same_set | with_reducible apply same_iff | with_reducible apply same_chgFollow
    | with_reducible apply same_timersReset | with_reducible apply same_cutRest | with_reducible apply same_chgSet
    | with_reducible apply same_pulseRecord | with_reducible apply same_ite | dsimp only | split

theorem same_execPrechargeComplete {p : Part} {s u : State} {a0 : Nat} (hu : p.same s u) (h : keeps Foot.execPrechargeComplete p = true) :
    ∃ t, execPrechargeComplete a0 u = .next t ∧ p.same s t := by
  simp [Foot.execPrechargeComplete, and_assoc] at h
  refine ⟨_, rfl, ?_⟩
  repeat' first
    | with_reducible assumption | intro _ | with_reducible exact same_refl | with_reducible apply same_firstPulse
    | with_reducible apply same_ite | with_reducible apply off_ite | dsimp only | split

theorem same_chgEqualise {p : Part} {s u : State} {a1 : Nat} (hu : p.same s u) (h : keeps Foot.chgEqualise p = true) :
    p.same s (State.chgEqualise u a1).1 := by
  simp [Foot.chgEqualise, and_assoc] at h
  unfold State.chgEqualise
  repeat' first
    | with_reducible assumption | intro _ | with_reducible exact same_refl | with_reducible apply same_chgTo
    | with_reducible apply same_ite | with_reducible apply same_ite_fst | with_reducible apply same_ite_state | dsimp only
    | split

theorem same_chgRestartAction {p : Part} {s u : State}  (hu : p.same s u) (h : keeps Foot.chgRestartAction p = true) :
    p.same s (State.chgRestartAction u).1 := by
  simp [Foot.chgRestartAction, and_assoc] at h
  unfold State.chgRestartAction
  repeat' first
    | with_reducible assumption | intro _ | with_reducible exact same_refl | with_reducible apply same_chgRestart
    | with_reducible apply same_ite | with_reducible apply same_ite_fst | with_reducible apply same_ite_state | dsimp only
    | split

theorem same_chgSuspend {p : Part} {s u : State}  (hu : p.same s u) (h : keeps Foot.chgSuspend p = true) :
    p.same s (State.chgSuspend u).1 := by
  simp [Foot.chgSuspend, and_assoc] at h
  unfold State.chgSuspend
  repeat' first
    | with_reducible assumption | intro _ | with_reducible exact same_refl | with_reducible apply same_chgHold | dsimp only

theorem same_execOnPulseEnd {p : Part} {s u : State} {a0 : Int} {a1 : Nat} (hu : p.same s u) (h : keeps Foot.execOnPulseEnd p = true) :
    ∃ t, execOnPulseEnd a0 a1 u = .next t ∧ p.same s t := by
  simp [Foot.execOnPulseEnd, and_assoc] at h
  obtain ⟨h1, h2, h3, h4, h5, h6, h7⟩ := h
  refine ⟨_, rfl, ?_⟩
  repeat' first
    | with_reducible assumption | intro _ | with_reducible exact same_refl | with_reducible apply same_flag
    | with_reducible apply same_set | with_reducible apply same_setS | with_reducible apply same_clear
    | with_reducible apply same_pulseFall | with_reducible apply same_ite | with_reducible apply off_ite | dsimp only
    | split

theorem same_execChgProfileWrite {p : Part} {s u : State} {a0 : Nat} (hu : p.same s u) (h : keeps Foot.execChgProfileWrite p = true) :
    ∃ t, execChgProfileWrite a0 u = .next t ∧ p.same s t := by
  simp [Foot.execChgProfileWrite, and_assoc] at h
  obtain ⟨h1, h2, h3, h4⟩ := h
  refine ⟨_, rfl, ?_⟩
  repeat' first
    | with_reducible assumption | intro _ | with_reducible exact same_refl | with_reducible apply same_set
    | with_reducible apply same_flag | with_reducible apply same_profileChanged | with_reducible apply same_ite | dsimp only
    | split

theorem same_execMaintainCheck {p : Part} {s u : State} {a0 : Nat} {a1 : Int} {a2 : Int} {a3 : Bool} (hu : p.same s u) (h : keeps Foot.execMaintainCheck p = true) :
    ∃ t, execMaintainCheck a0 a1 a2 a3 u = .next t ∧ p.same s t := by
  simp [Foot.execMaintainCheck, and_assoc] at h
  obtain ⟨h1, h2, h3, h4, h5, h6, h7⟩ := h
  refine ⟨_, rfl, ?_⟩
  repeat' first
    | with_reducible assumption | intro _ | with_reducible exact same_refl | with_reducible apply same_flag
    | with_reducible apply same_each | with_reducible apply same_iff | with_reducible apply same_set
    | with_reducible apply same_needP3 | with_reducible apply same_stopGroup | with_reducible apply same_zeroWindow
    | with_reducible apply same_firstPulse | with_reducible apply same_ite | with_reducible apply same_ite_fst
    | with_reducible apply same_ite_state | with_reducible apply off_ite | dsimp only | split

theorem same_execQualifyComplete {p : Part} {s u : State} {a0 : Nat} (hu : p.same s u) (h : keeps Foot.execQualifyComplete p = true) :
    ∃ t, execQualifyComplete a0 u = .next t ∧ p.same s t := by
  simp [Foot.execQualifyComplete, and_assoc] at h
  obtain ⟨h1, h2, h3⟩ := h
  refine ⟨_, rfl, ?_⟩
  repeat' first
    | with_reducible assumption | intro _ | with_reducible exact same_refl | with_reducible apply same_set
    | with_reducible apply same_chgTo | with_reducible apply same_firstPulse | with_reducible apply same_ite
    | with_reducible apply off_ite | dsimp only | split

theorem same_chgResume {p : Part} {s u : State}  (hu : p.same s u) (h : keeps Foot.chgResume p = true) :
    p.same s (State.chgResume u).1 := by
  simp [Foot.chgResume, and_assoc] at h
  unfold State.chgResume
  repeat' first
    | with_reducible assumption | intro _ | with_reducible exact same_refl | with_reducible apply same_chgHold | dsimp only

theorem same_execBmsokPermit {p : Part} {s u : State}  (hu : p.same s u) (h : keeps Foot.execBmsokPermit p = true) :
    ∃ t, execBmsokPermit u = .next t ∧ p.same s t := by
  simp [Foot.execBmsokPermit, and_assoc] at h
  refine ⟨_, rfl, ?_⟩
  repeat' first
    | with_reducible assumption | intro _ | with_reducible exact same_refl | with_reducible apply same_chgHold | dsimp only

theorem same_execSafetyTimeout {p : Part} {s u : State}  (hu : p.same s u) (h : keeps Foot.execSafetyTimeout p = true) :
    ∃ t, execSafetyTimeout u = .next t ∧ p.same s t := by
  simp [Foot.execSafetyTimeout, and_assoc] at h
  refine ⟨_, rfl, ?_⟩
  repeat' first
    | with_reducible assumption | intro _ | with_reducible exact same_refl | with_reducible apply same_chgExpire
    | with_reducible apply same_ite | dsimp only | split

theorem same_execBmsokRefuse {p : Part} {s u : State}  (hu : p.same s u) (h : keeps Foot.execBmsokRefuse p = true) :
    ∃ t, execBmsokRefuse u = .next t ∧ p.same s t := by
  simp [Foot.execBmsokRefuse, and_assoc] at h
  refine ⟨_, rfl, ?_⟩
  repeat' first
    | with_reducible assumption | intro _ | with_reducible exact same_refl | with_reducible apply same_chgHold
    | with_reducible apply same_ite | with_reducible apply off_ite | dsimp only | split

theorem same_execRestSample {p : Part} {s u : State} {a0 : Fin 3} {a1 : Nat} {a2 : Int} (hu : p.same s u) (h : keeps Foot.execRestSample p = true) :
    ∃ t, execRestSample a0 a1 a2 u = .next t ∧ p.same s t := by
  simp [Foot.execRestSample, and_assoc] at h
  obtain ⟨h1, h2⟩ := h
  refine ⟨_, rfl, ?_⟩
  repeat' first
    | with_reducible assumption | intro _ | with_reducible exact same_refl | with_reducible apply same_iff
    | with_reducible apply same_set | with_reducible apply same_setS | with_reducible apply same_ite
    | with_reducible apply same_ite_fst | with_reducible apply same_ite_state | with_reducible apply off_ite | dsimp only
    | split

theorem same_execRestEnd {p : Part} {s u : State} {a0 : Bool} {a1 : Int} {a2 : Int} {a3 : Bool} (hu : p.same s u) (h : keeps Foot.execRestEnd p = true) :
    ∃ t, execRestEnd a0 a1 a2 a3 u = .next t ∧ p.same s t := by
  simp [Foot.execRestEnd, and_assoc] at h
  obtain ⟨h1, h2, h3, h4, h5, h6, h7, h8, h9, h10, h11, h12, h13, h14⟩ := h
  refine ⟨_, rfl, ?_⟩
  repeat' first
    | with_reducible assumption | intro _ | with_reducible exact same_refl | with_reducible apply same_set
    | with_reducible apply same_iff | with_reducible apply same_inc | with_reducible apply same_pulse
    | with_reducible apply same_pulseRecord | with_reducible apply same_restStore | with_reducible apply same_agedFollow
    | with_reducible apply same_trend | with_reducible apply same_zeroWindow | with_reducible apply same_chgSet
    | with_reducible apply same_terminate | with_reducible apply same_ite | with_reducible apply same_ite_fst
    | with_reducible apply same_ite_state | with_reducible apply off_ite | dsimp only | split

theorem same_execFloatRecharge {p : Part} {s u : State}  (hu : p.same s u) (h : keeps Foot.execFloatRecharge p = true) :
    ∃ t, execFloatRecharge u = .next t ∧ p.same s t := by
  simp [Foot.execFloatRecharge, and_assoc] at h
  obtain ⟨h1, h2⟩ := h
  refine ⟨_, rfl, ?_⟩
  repeat' first
    | with_reducible assumption | intro _ | with_reducible exact same_refl | with_reducible apply same_set
    | with_reducible apply same_firstPulse | with_reducible apply same_ite | with_reducible apply off_ite | dsimp only
    | split

theorem same_execP3WindowEnd {p : Part} {s u : State}  (hu : p.same s u) (h : keeps Foot.execP3WindowEnd p = true) :
    ∃ t, execP3WindowEnd u = .next t ∧ p.same s t := by
  simp [Foot.execP3WindowEnd, and_assoc] at h
  refine ⟨_, rfl, ?_⟩
  repeat' first
    | with_reducible assumption | intro _ | with_reducible exact same_refl | with_reducible apply same_endP3Window
    | dsimp only

end Sys2Proof.Machine.Part
end

