-- ==== Sys2Proof/Laws/SamePowerPath.lean ====
section
/-! SUPPORT. What the operations of Machine/PowerPath.lean leave as before: one lemma for each. -/

set_option linter.all false

namespace Sys2Proof.Machine.Part

theorem same_execUvInhibitEnd {p : Part} {s u : State} {a0 : Nat} (hu : p.same s u) (h : keeps Foot.execUvInhibitEnd p = true) :
    ∃ t, execUvInhibitEnd a0 u = .next t ∧ p.same s t := by
  simp [Foot.execUvInhibitEnd, and_assoc] at h
  refine ⟨_, rfl, ?_⟩
  repeat' first
    | with_reducible assumption | intro _ | with_reducible exact same_refl | with_reducible apply same_endUvInhibit
    | with_reducible apply same_ite | with_reducible apply off_ite | dsimp only | split

theorem same_execSupplement {p : Part} {s u : State} {a0 : Nat} {a1 : Nat} (hu : p.same s u) (h : keeps Foot.execSupplement p = true) :
    ∃ t, execSupplement a0 a1 u = .next t ∧ p.same s t := by
  simp [Foot.execSupplement, and_assoc] at h
  refine ⟨_, rfl, ?_⟩
  repeat' first
    | with_reducible assumption | intro _ | with_reducible exact same_refl | with_reducible apply same_set
    | with_reducible apply same_ite | with_reducible apply off_ite | dsimp only | split

theorem same_execRetryWaitEnd {p : Part} {s u : State}  (hu : p.same s u) (h : keeps Foot.execRetryWaitEnd p = true) :
    ∃ t, execRetryWaitEnd u = .next t ∧ p.same s t := by
  simp [Foot.execRetryWaitEnd, and_assoc] at h
  refine ⟨_, rfl, ?_⟩
  repeat' first
    | with_reducible assumption | intro _ | with_reducible exact same_refl | with_reducible apply same_flag | dsimp only

theorem same_execColdStartRetry {p : Part} {s u : State}  (hu : p.same s u) (h : keeps Foot.execColdStartRetry p = true) :
    ∃ t, execColdStartRetry u = .next t ∧ p.same s t := by
  simp [Foot.execColdStartRetry, and_assoc] at h
  obtain ⟨h1, h2⟩ := h
  refine ⟨_, rfl, ?_⟩
  repeat' first
    | with_reducible assumption | intro _ | with_reducible exact same_refl | with_reducible apply same_flag
    | with_reducible apply same_coldStartCheck | with_reducible apply same_ite | with_reducible apply off_ite | dsimp only
    | split

theorem same_execBatteryShort {p : Part} {s u : State} {a0 : Nat} (hu : p.same s u) (h : keeps Foot.execBatteryShort p = true) :
    ∃ t, execBatteryShort a0 u = .next t ∧ p.same s t := by
  simp [Foot.execBatteryShort, and_assoc] at h
  obtain ⟨h1, h2, h3⟩ := h
  refine ⟨_, rfl, ?_⟩
  repeat' first
    | with_reducible assumption | intro _ | with_reducible exact same_refl | with_reducible apply same_latchStand
    | with_reducible apply same_chgFaultPp | with_reducible apply same_setBat | with_reducible apply same_ite
    | with_reducible apply off_ite | dsimp only | split

theorem same_connectRise {p : Part} {s u : State} {a1 : Nat} {a2 : Nat} {a3 : Nat} (hu : p.same s u) (h : keeps Foot.connectRise p = true) :
    p.same s (State.connectRise u a1 a2 a3) := by
  simp [Foot.connectRise, and_assoc] at h
  obtain ⟨h1, h2⟩ := h
  unfold State.connectRise
  repeat' first
    | with_reducible assumption | intro _ | with_reducible exact same_refl | with_reducible apply same_set
    | with_reducible apply same_ite | dsimp only | split

theorem same_execRoleEvaluate {p : Part} {s u : State} {a0 : Nat} {a1 : Nat} {a2 : Int} {a3 : Bool} (hu : p.same s u) (h : keeps Foot.execRoleEvaluate p = true) :
    ∃ t, execRoleEvaluate a0 a1 a2 a3 u = .next t ∧ p.same s t := by
  simp [Foot.execRoleEvaluate, and_assoc] at h
  obtain ⟨h1, h2, h3, h4, h5, h6, h7, h8, h9, h10, h11, h12, h13, h14, h15, h16⟩ := h
  refine ⟨_, rfl, ?_⟩
  repeat' first
    | with_reducible assumption | intro _ | with_reducible exact same_refl | with_reducible apply same_iff
    | with_reducible apply same_set | with_reducible apply same_flag | with_reducible apply same_openPair
    | with_reducible apply same_setBat | with_reducible apply same_needP3 | with_reducible apply same_connectRise
    | with_reducible apply same_startVpre | with_reducible apply same_startVaux | with_reducible apply same_coldStartCheck
    | with_reducible apply same_sysFollow | with_reducible apply same_ite | with_reducible apply same_ite_fst
    | with_reducible apply same_ite_state | with_reducible apply off_ite | dsimp only | split

theorem same_execDischargeOvercurrent {p : Part} {s u : State}  (hu : p.same s u) (h : keeps Foot.execDischargeOvercurrent p = true) :
    ∃ t, execDischargeOvercurrent u = .next t ∧ p.same s t := by
  simp [Foot.execDischargeOvercurrent, and_assoc] at h
  refine ⟨_, rfl, ?_⟩
  repeat' first
    | with_reducible assumption | intro _ | with_reducible exact same_refl | with_reducible apply same_ppTrip
    | with_reducible apply same_ite | with_reducible apply off_ite | dsimp only | split

theorem same_execBatteryRemoval {p : Part} {s u : State}  (hu : p.same s u) (h : keeps Foot.execBatteryRemoval p = true) :
    ∃ t, execBatteryRemoval u = .next t ∧ p.same s t := by
  simp [Foot.execBatteryRemoval, and_assoc] at h
  obtain ⟨h1, h2, h3, h4⟩ := h
  refine ⟨_, rfl, ?_⟩
  repeat' first
    | with_reducible assumption | intro _ | with_reducible exact same_refl | with_reducible apply same_each
    | with_reducible apply same_setBat | with_reducible apply same_batteryLost | with_reducible apply same_tripGroup
    | with_reducible apply same_endTrip | with_reducible apply same_ite | with_reducible apply same_ite_fst
    | with_reducible apply same_ite_state | dsimp only | split

theorem same_ppRetryNow {p : Part} {s u : State}  (hu : p.same s u) (h : keeps Foot.ppRetryNow p = true) :
    p.same s (State.ppRetryNow u) := by
  simp [Foot.ppRetryNow, and_assoc] at h
  obtain ⟨h1, h2⟩ := h
  unfold State.ppRetryNow
  repeat' first
    | with_reducible assumption | intro _ | with_reducible exact same_refl | with_reducible apply same_flag
    | with_reducible apply same_endLockout | dsimp only

theorem same_probeNow {p : Part} {s u : State}  (hu : p.same s u) (h : keeps Foot.probeNow p = true) :
    p.same s (State.probeNow u) := by
  simp [Foot.probeNow, and_assoc] at h
  unfold State.probeNow
  repeat' first
    | with_reducible assumption | intro _ | with_reducible exact same_refl | with_reducible apply same_flag
    | with_reducible apply same_ite | dsimp only | split

theorem same_execRetryNow {p : Part} {s u : State}  (hu : p.same s u) (h : keeps Foot.execRetryNow p = true) :
    ∃ t, execRetryNow u = .next t ∧ p.same s t := by
  simp [Foot.execRetryNow, and_assoc] at h
  refine ⟨_, rfl, ?_⟩
  repeat' first
    | with_reducible assumption | intro _ | with_reducible exact same_refl | with_reducible apply same_ppRetryNow
    | dsimp only

theorem same_execUvCutoff {p : Part} {s u : State} {a0 : Nat} (hu : p.same s u) (h : keeps Foot.execUvCutoff p = true) :
    ∃ t, execUvCutoff a0 u = .next t ∧ p.same s t := by
  simp [Foot.execUvCutoff, and_assoc] at h
  obtain ⟨h1, h2, h3, h4, h5⟩ := h
  refine ⟨_, rfl, ?_⟩
  repeat' first
    | with_reducible assumption | intro _ | with_reducible exact same_refl | with_reducible apply same_set
    | with_reducible apply same_flag | with_reducible apply same_each | with_reducible apply same_latch
    | with_reducible apply same_cutoffPorts | with_reducible apply same_railPs3 | with_reducible apply same_ite
    | with_reducible apply same_ite_fst | with_reducible apply same_ite_state | with_reducible apply off_ite | dsimp only
    | split

theorem same_execEmptyConnector {p : Part} {s u : State}  (hu : p.same s u) (h : keeps Foot.execEmptyConnector p = true) :
    ∃ t, execEmptyConnector u = .next t ∧ p.same s t := by
  simp [Foot.execEmptyConnector, and_assoc] at h
  obtain ⟨h1, h2⟩ := h
  refine ⟨_, rfl, ?_⟩
  repeat' first
    | with_reducible assumption | intro _ | with_reducible exact same_refl | with_reducible apply same_batteryMissing
    | with_reducible apply same_openPair | with_reducible apply same_ite | with_reducible apply off_ite | dsimp only | split

theorem same_execUvInhibit {p : Part} {s u : State} {a0 : Nat} (hu : p.same s u) (h : keeps Foot.execUvInhibit p = true) :
    ∃ t, execUvInhibit a0 u = .next t ∧ p.same s t := by
  simp [Foot.execUvInhibit, and_assoc] at h
  obtain ⟨h1, h2, h3⟩ := h
  refine ⟨_, rfl, ?_⟩
  repeat' first
    | with_reducible assumption | intro _ | with_reducible exact same_refl | with_reducible apply same_flag
    | with_reducible apply same_latchStand | with_reducible apply same_needP3 | with_reducible apply same_ite
    | with_reducible apply off_ite | dsimp only | split

theorem same_execUnsupportedSysFall {p : Part} {s u : State}  (hu : p.same s u) (h : keeps Foot.execUnsupportedSysFall p = true) :
    ∃ t, execUnsupportedSysFall u = .next t ∧ p.same s t := by
  simp [Foot.execUnsupportedSysFall, and_assoc] at h
  obtain ⟨h1, h2, h3⟩ := h
  refine ⟨_, rfl, ?_⟩
  repeat' first
    | with_reducible assumption | intro _ | with_reducible exact same_refl | with_reducible apply same_flag
    | with_reducible apply same_setBat | with_reducible apply same_chgTo | with_reducible apply same_ite
    | with_reducible apply off_ite | dsimp only | split

theorem same_execTripCountReset {p : Part} {s u : State}  (hu : p.same s u) (h : keeps Foot.execTripCountReset p = true) :
    ∃ t, execTripCountReset u = .next t ∧ p.same s t := by
  simp [Foot.execTripCountReset, and_assoc] at h
  obtain ⟨h1, h2⟩ := h
  refine ⟨_, rfl, ?_⟩
  repeat' first
    | with_reducible assumption | intro _ | with_reducible exact same_refl | with_reducible apply same_flag
    | with_reducible apply same_clear | with_reducible apply same_ite | with_reducible apply off_ite | dsimp only | split

theorem same_execProbeNow {p : Part} {s u : State}  (hu : p.same s u) (h : keeps Foot.execProbeNow p = true) :
    ∃ t, execProbeNow u = .next t ∧ p.same s t := by
  simp [Foot.execProbeNow, and_assoc] at h
  refine ⟨_, rfl, ?_⟩
  repeat' first
    | with_reducible assumption | intro _ | with_reducible exact same_refl | with_reducible apply same_probeNow | dsimp only

theorem same_execVsuDisable {p : Part} {s u : State}  (hu : p.same s u) (h : keeps Foot.execVsuDisable p = true) :
    ∃ t, execVsuDisable u = .next t ∧ p.same s t := by
  simp [Foot.execVsuDisable, and_assoc] at h
  refine ⟨_, rfl, ?_⟩
  repeat' first
    | with_reducible assumption | intro _ | with_reducible exact same_refl | with_reducible apply same_flag
    | with_reducible apply same_ite | with_reducible apply off_ite | dsimp only | split

theorem same_execConnectTimeout {p : Part} {s u : State}  (hu : p.same s u) (h : keeps Foot.execConnectTimeout p = true) :
    ∃ t, execConnectTimeout u = .next t ∧ p.same s t := by
  simp [Foot.execConnectTimeout, and_assoc] at h
  obtain ⟨h1, h2⟩ := h
  refine ⟨_, rfl, ?_⟩
  repeat' first
    | with_reducible assumption | intro _ | with_reducible exact same_refl | with_reducible apply same_ppFailure
    | with_reducible apply same_openPair | with_reducible apply same_ite | with_reducible apply off_ite | dsimp only | split

theorem same_execColdStartAbandon {p : Part} {s u : State}  (hu : p.same s u) (h : keeps Foot.execColdStartAbandon p = true) :
    ∃ t, execColdStartAbandon u = .next t ∧ p.same s t := by
  simp [Foot.execColdStartAbandon, and_assoc] at h
  obtain ⟨h1, h2, h3⟩ := h
  refine ⟨_, rfl, ?_⟩
  repeat' first
    | with_reducible assumption | intro _ | with_reducible exact same_refl | with_reducible apply same_flag
    | with_reducible apply same_latch | with_reducible apply same_coldStartEnd | with_reducible apply same_ite
    | with_reducible apply off_ite | dsimp only | split

theorem same_execCutoffComplete {p : Part} {s u : State}  (hu : p.same s u) (h : keeps Foot.execCutoffComplete p = true) :
    ∃ t, execCutoffComplete u = .next t ∧ p.same s t := by
  simp [Foot.execCutoffComplete, and_assoc] at h
  obtain ⟨h1, h2, h3, h4, h5, h6, h7, h8, h9, h10, h11⟩ := h
  refine ⟨_, rfl, ?_⟩
  repeat' first
    | with_reducible assumption | intro _ | with_reducible exact same_refl | with_reducible apply same_flag
    | with_reducible apply same_openPair | with_reducible apply same_stopVpre | with_reducible apply same_stopVaux
    | with_reducible apply same_cutoffPorts | with_reducible apply same_abortSlice | with_reducible apply same_followAlert
    | with_reducible apply same_ite | with_reducible apply off_ite | dsimp only | split

theorem same_execPresenceProbe {p : Part} {s u : State} {a0 : Nat} {a1 : Nat} (hu : p.same s u) (h : keeps Foot.execPresenceProbe p = true) :
    ∃ t, execPresenceProbe a0 a1 u = .next t ∧ p.same s t := by
  simp [Foot.execPresenceProbe, and_assoc] at h
  obtain ⟨h1, h2, h3, h4⟩ := h
  refine ⟨_, rfl, ?_⟩
  repeat' first
    | with_reducible assumption | intro _ | with_reducible exact same_refl | with_reducible apply same_flag
    | with_reducible apply same_needP3 | with_reducible apply same_batteryMissing | with_reducible apply same_setBat
    | with_reducible apply same_ite | dsimp only | split

theorem same_execShortCircuit {p : Part} {s u : State}  (hu : p.same s u) (h : keeps Foot.execShortCircuit p = true) :
    ∃ t, execShortCircuit u = .next t ∧ p.same s t := by
  simp [Foot.execShortCircuit, and_assoc] at h
  refine ⟨_, rfl, ?_⟩
  repeat' first
    | with_reducible assumption | intro _ | with_reducible exact same_refl | with_reducible apply same_ppTrip
    | with_reducible apply same_ite | with_reducible apply off_ite | dsimp only | split

end Sys2Proof.Machine.Part
end

