-- ==== Sys2Proof/Laws/SameRails.lean ====
section
/-! SUPPORT. What the operations of Machine/Rails.lean leave as before: one lemma for each. -/

set_option linter.all false

namespace Sys2Proof.Machine.Part

theorem same_rclAnswer {p : Part} {s u : State} {a1 : Nat} {a2 : Nat} (hu : p.same s u) (h : keeps Foot.rclAnswer p = true) :
    p.same s (State.rclAnswer u a1 a2) := by
  simp [Foot.rclAnswer, and_assoc] at h
  obtain ⟨h1, h2⟩ := h
  unfold State.rclAnswer
  repeat' first
    | with_reducible assumption | intro _ | with_reducible exact same_refl | with_reducible apply same_set | dsimp only

theorem same_railVid {p : Part} {s u : State} {a1 : Nat} {a2 : Nat} {a3 : Bool} (hu : p.same s u) (h : keeps Foot.railVid p = true) :
    p.same s (State.railVid u a1 a2 a3) := by
  simp [Foot.railVid, and_assoc] at h
  obtain ⟨h1, h2, h3, h4, h5, h6⟩ := h
  unfold State.railVid
  repeat' first
    | with_reducible assumption | intro _ | with_reducible exact same_refl | with_reducible apply same_flag
    | with_reducible apply same_set | with_reducible apply same_iff | with_reducible apply same_ite
    | with_reducible apply same_ite_fst | with_reducible apply same_ite_state | dsimp only | split

theorem same_railSetState {p : Part} {s u : State} {a1 : Nat} {a2 : Nat} (hu : p.same s u) (h : keeps Foot.railSetState p = true) :
    p.same s (State.railSetState u a1 a2) := by
  simp [Foot.railSetState, and_assoc] at h
  obtain ⟨h1, h2, h3, h4, h5, h6, h7, h8, h9, h10⟩ := h
  unfold State.railSetState
  repeat' first
    | with_reducible assumption | intro _ | with_reducible exact same_refl | with_reducible apply same_set
    | with_reducible apply same_flag | with_reducible apply same_iff | with_reducible apply same_clear
    | with_reducible apply same_railPs3 | with_reducible apply same_railTurnOn | with_reducible apply same_railSoft
    | with_reducible apply same_ite | with_reducible apply same_ite_fst | with_reducible apply same_ite_state | dsimp only
    | split

theorem same_railClearAlert {p : Part} {s u : State} {a1 : Nat} (hu : p.same s u) (h : keeps Foot.railClearAlert p = true) :
    p.same s (State.railClearAlert u a1) := by
  simp [Foot.railClearAlert, and_assoc] at h
  obtain ⟨h1, h2, h3⟩ := h
  unfold State.railClearAlert
  repeat' first
    | with_reducible assumption | intro _ | with_reducible exact same_refl | with_reducible apply same_flag
    | with_reducible apply same_set | with_reducible apply same_valtFollow | dsimp only

theorem same_railApply {p : Part} {s u : State} {a1 : Nat} {a2 : Nat} {a3 : Nat} (hu : p.same s u) (h : keeps Foot.railApply p = true) :
    p.same s (State.railApply u a1 a2 a3) := by
  simp [Foot.railApply, and_assoc] at h
  obtain ⟨h1, h2, h3, h4⟩ := h
  unfold State.railApply
  repeat' first
    | with_reducible assumption | intro _ | with_reducible exact same_refl | with_reducible apply same_set
    | with_reducible apply same_railVid | with_reducible apply same_railSetState | with_reducible apply same_railClearAlert
    | dsimp only | split

theorem same_railCommand {p : Part} {s u : State} {a1 : Nat} {a2 : Nat} {a3 : Nat} (hu : p.same s u) (h : keeps Foot.railCommand p = true) :
    p.same s (State.railCommand u a1 a2 a3).1 := by
  simp [Foot.railCommand, and_assoc] at h
  unfold State.railCommand
  repeat' first
    | with_reducible assumption | intro _ | with_reducible exact same_refl | with_reducible apply same_railApply
    | with_reducible apply same_ite | with_reducible apply same_foldl | with_reducible apply same_ite_fst
    | with_reducible apply same_ite_state | with_reducible apply same_answers | with_reducible apply off_ite | dsimp only
    | split

theorem same_rclFrame {p : Part} {s u : State} {a1 : Nat} {a2 : Nat} {a3 : Nat} {a4 : Bool} (hu : p.same s u) (h : keeps Foot.rclFrame p = true) :
    p.same s (State.rclFrame u a1 a2 a3 a4) := by
  simp [Foot.rclFrame, and_assoc] at h
  obtain ⟨h1, h2, h3, h4, h5, h6, h7, h8⟩ := h
  unfold State.rclFrame
  repeat' first
    | with_reducible assumption | intro _ | with_reducible exact same_refl | with_reducible apply same_inc
    | with_reducible apply same_set | with_reducible apply same_rclAnswer | with_reducible apply same_railCommand
    | with_reducible apply same_abortSlice | with_reducible apply same_ite | with_reducible apply same_ite_fst
    | with_reducible apply same_ite_state | with_reducible apply same_answers | with_reducible apply off_ite | dsimp only
    | split

theorem same_execRclSetVidFast {p : Part} {s u : State} {a0 : Fin 4} {a1 : Fin 256} {a2 : Bool} (hu : p.same s u) (h : keeps Foot.execRclSetVidFast p = true) :
    ∃ t, execRclSetVidFast a0 a1 a2 u = .next t ∧ p.same s t := by
  simp [Foot.execRclSetVidFast, and_assoc] at h
  refine ⟨_, rfl, ?_⟩
  repeat' first
    | with_reducible assumption | intro _ | with_reducible exact same_refl | with_reducible apply same_rclFrame | dsimp only

theorem same_execRailFailsReset {p : Part} {s u : State} {a0 : Fin 2} (hu : p.same s u) (h : keeps Foot.execRailFailsReset p = true) :
    ∃ t, execRailFailsReset a0 u = .next t ∧ p.same s t := by
  simp [Foot.execRailFailsReset, and_assoc] at h
  refine ⟨_, rfl, ?_⟩
  repeat' first
    | with_reducible assumption | intro _ | with_reducible exact same_refl | with_reducible apply same_set
    | with_reducible apply same_ite | with_reducible apply off_ite | dsimp only | split

theorem same_execVauxFail {p : Part} {s u : State}  (hu : p.same s u) (h : keeps Foot.execVauxFail p = true) :
    ∃ t, execVauxFail u = .next t ∧ p.same s t := by
  simp [Foot.execVauxFail, and_assoc] at h
  obtain ⟨h1, h2, h3, h4⟩ := h
  refine ⟨_, rfl, ?_⟩
  repeat' first
    | with_reducible assumption | intro _ | with_reducible exact same_refl | with_reducible apply same_flag
    | with_reducible apply same_set | with_reducible apply same_latch | with_reducible apply same_stopVaux
    | with_reducible apply same_ite | with_reducible apply off_ite | dsimp only | split

theorem same_railAlert {p : Part} {s u : State} {a1 : Nat} {a2 : Nat} (hu : p.same s u) (h : keeps Foot.railAlert p = true) :
    p.same s (State.railAlert u a1 a2) := by
  simp [Foot.railAlert, and_assoc] at h
  obtain ⟨h1, h2⟩ := h
  unfold State.railAlert
  repeat' first
    | with_reducible assumption | intro _ | with_reducible exact same_refl | with_reducible apply same_setBit
    | with_reducible apply same_valtFollow | dsimp only

theorem same_execRclGetStatus {p : Part} {s u : State} {a0 : Fin 4} {a1 : Fin 256} {a2 : Bool} (hu : p.same s u) (h : keeps Foot.execRclGetStatus p = true) :
    ∃ t, execRclGetStatus a0 a1 a2 u = .next t ∧ p.same s t := by
  simp [Foot.execRclGetStatus, and_assoc] at h
  refine ⟨_, rfl, ?_⟩
  repeat' first
    | with_reducible assumption | intro _ | with_reducible exact same_refl | with_reducible apply same_rclFrame | dsimp only

theorem same_railTuned {p : Part} {s u : State} {a1 : Nat} (hu : p.same s u) (h : keeps Foot.railTuned p = true) :
    p.same s (State.railTuned u a1) := by
  simp [Foot.railTuned, and_assoc] at h
  obtain ⟨h1, h2, h3, h4⟩ := h
  unfold State.railTuned
  repeat' first
    | with_reducible assumption | intro _ | with_reducible exact same_refl | with_reducible apply same_iff
    | with_reducible apply same_flag | with_reducible apply same_set | with_reducible apply same_clear | dsimp only

theorem same_execVauxInRegulation {p : Part} {s u : State} {a0 : Nat} {a1 : Nat} (hu : p.same s u) (h : keeps Foot.execVauxInRegulation p = true) :
    ∃ t, execVauxInRegulation a0 a1 u = .next t ∧ p.same s t := by
  simp [Foot.execVauxInRegulation, and_assoc] at h
  obtain ⟨h1, h2, h3, h4, h5, h6, h7, h8⟩ := h
  refine ⟨_, rfl, ?_⟩
  repeat' first
    | with_reducible assumption | intro _ | with_reducible exact same_refl | with_reducible apply same_set
    | with_reducible apply same_flag | with_reducible apply same_clear | with_reducible apply same_portsFollow
    | with_reducible apply same_startVpre | with_reducible apply same_coldStartEnd | with_reducible apply same_ite
    | with_reducible apply off_ite | dsimp only | split

theorem same_fireStep {p : Part} {s u : State} {a1 : Firing} (hu : p.same s u) (h : keeps Foot.fireStep p = true) :
    p.same s (State.fireStep u a1) := by
  simp [Foot.fireStep, and_assoc] at h
  obtain ⟨h1, h2, h3⟩ := h
  unfold State.fireStep
  repeat' first
    | with_reducible assumption | intro _ | with_reducible exact same_refl | with_reducible apply same_set
    | with_reducible apply same_ite | with_reducible apply same_ite_fst | with_reducible apply same_ite_state | dsimp only
    | split

theorem same_vpreRetry {p : Part} {s u : State}  (hu : p.same s u) (h : keeps Foot.vpreRetry p = true) :
    p.same s (State.vpreRetry u) := by
  simp [Foot.vpreRetry, and_assoc] at h
  obtain ⟨h1, h2, h3⟩ := h
  unfold State.vpreRetry
  repeat' first
    | with_reducible assumption | intro _ | with_reducible exact same_refl | with_reducible apply same_clear
    | with_reducible apply same_set | with_reducible apply same_startVpre | with_reducible apply same_ite | dsimp only
    | split

theorem same_execVauxStop {p : Part} {s u : State}  (hu : p.same s u) (h : keeps Foot.execVauxStop p = true) :
    ∃ t, execVauxStop u = .next t ∧ p.same s t := by
  simp [Foot.execVauxStop, and_assoc] at h
  refine ⟨_, rfl, ?_⟩
  repeat' first
    | with_reducible assumption | intro _ | with_reducible exact same_refl | with_reducible apply same_stopVaux
    | with_reducible apply same_ite | with_reducible apply off_ite | dsimp only | split

theorem same_execVauxOutOfRegulation {p : Part} {s u : State}  (hu : p.same s u) (h : keeps Foot.execVauxOutOfRegulation p = true) :
    ∃ t, execVauxOutOfRegulation u = .next t ∧ p.same s t := by
  simp [Foot.execVauxOutOfRegulation, and_assoc] at h
  refine ⟨_, rfl, ?_⟩
  repeat' first
    | with_reducible assumption | intro _ | with_reducible exact same_refl | with_reducible apply same_vauxOutOfReg
    | dsimp only

theorem same_execRailHiccupEnd {p : Part} {s u : State} {a0 : Fin 2} (hu : p.same s u) (h : keeps Foot.execRailHiccupEnd p = true) :
    ∃ t, execRailHiccupEnd a0 u = .next t ∧ p.same s t := by
  simp [Foot.execRailHiccupEnd, and_assoc] at h
  obtain ⟨h1, h2, h3⟩ := h
  refine ⟨_, rfl, ?_⟩
  repeat' first
    | with_reducible assumption | intro _ | with_reducible exact same_refl | with_reducible apply same_set
    | with_reducible apply same_railSoft | with_reducible apply same_railStop | with_reducible apply same_ite
    | with_reducible apply off_ite | dsimp only | split

theorem same_railLatch {p : Part} {s u : State} {a1 : Nat} {a2 : Reg} {a3 : Reg} (hu : p.same s u) (h : keeps (Foot.railLatch a2) p = true) (h2 : keeps (Foot.railLatch a3) p = true) :
    p.same s (State.railLatch u a1 a2 a3) := by
  simp [Foot.railLatch, and_assoc] at h
  simp [Foot.railLatch, and_assoc] at h2
  unfold State.railLatch
  exact same_railAlert (same_latch hu (by split; exacts [h.1, h2.1])) h.2

theorem same_execRailOvervoltage {p : Part} {s u : State} {a0 : Fin 2} (hu : p.same s u) (h : keeps Foot.execRailOvervoltage p = true) :
    ∃ t, execRailOvervoltage a0 u = .next t ∧ p.same s t := by
  simp [Foot.execRailOvervoltage, and_assoc] at h
  obtain ⟨h1, h2⟩ := h
  refine ⟨_, rfl, ?_⟩
  repeat' first
    | with_reducible assumption | intro _ | with_reducible exact same_refl | with_reducible apply same_railLatch
    | with_reducible apply same_ite | with_reducible apply off_ite | dsimp only | split

theorem same_execVpreInRegulation {p : Part} {s u : State} {a0 : Nat} (hu : p.same s u) (h : keeps Foot.execVpreInRegulation p = true) :
    ∃ t, execVpreInRegulation a0 u = .next t ∧ p.same s t := by
  simp [Foot.execVpreInRegulation, and_assoc] at h
  obtain ⟨h1, h2, h3, h4, h5, h6⟩ := h
  refine ⟨_, rfl, ?_⟩
  repeat' first
    | with_reducible assumption | intro _ | with_reducible exact same_refl | with_reducible apply same_set
    | with_reducible apply same_flag | with_reducible apply same_railsGo | with_reducible apply same_dieFollow
    | with_reducible apply same_ite | with_reducible apply off_ite | dsimp only | split

theorem same_railReached {p : Part} {s u : State} {a1 : Nat} (hu : p.same s u) (h : keeps Foot.railReached p = true) :
    p.same s (State.railReached u a1) := by
  simp [Foot.railReached, and_assoc] at h
  obtain ⟨h1, h2⟩ := h
  unfold State.railReached
  repeat' first
    | with_reducible assumption | intro _ | with_reducible exact same_refl | with_reducible apply same_flag | dsimp only

theorem same_railSettled {p : Part} {s u : State} {a1 : Nat} (hu : p.same s u) (h : keeps Foot.railSettled p = true) :
    p.same s (State.railSettled u a1) := by
  simp [Foot.railSettled, and_assoc] at h
  obtain ⟨h1, h2, h3⟩ := h
  unfold State.railSettled
  repeat' first
    | with_reducible assumption | intro _ | with_reducible exact same_refl | with_reducible apply same_iff
    | with_reducible apply same_flag | with_reducible apply same_railReached | with_reducible apply same_railAlert
    | dsimp only

theorem same_execRclFrameAbandon {p : Part} {s u : State}  (hu : p.same s u) (h : keeps Foot.execRclFrameAbandon p = true) :
    ∃ t, execRclFrameAbandon u = .next t ∧ p.same s t := by
  simp [Foot.execRclFrameAbandon, and_assoc] at h
  obtain ⟨h1, h2⟩ := h
  refine ⟨_, rfl, ?_⟩
  repeat' first
    | with_reducible assumption | intro _ | with_reducible exact same_refl | with_reducible apply same_inc
    | with_reducible apply same_rclAnswer | with_reducible apply same_ite | with_reducible apply same_answers
    | with_reducible apply off_ite | dsimp only | split

theorem same_execVpreStop {p : Part} {s u : State}  (hu : p.same s u) (h : keeps Foot.execVpreStop p = true) :
    ∃ t, execVpreStop u = .next t ∧ p.same s t := by
  simp [Foot.execVpreStop, and_assoc] at h
  refine ⟨_, rfl, ?_⟩
  repeat' first
    | with_reducible assumption | intro _ | with_reducible exact same_refl | with_reducible apply same_stopVpre
    | with_reducible apply same_ite | with_reducible apply off_ite | dsimp only | split

theorem same_execRclGetPower {p : Part} {s u : State} {a0 : Fin 4} {a1 : Fin 256} {a2 : Bool} (hu : p.same s u) (h : keeps Foot.execRclGetPower p = true) :
    ∃ t, execRclGetPower a0 a1 a2 u = .next t ∧ p.same s t := by
  simp [Foot.execRclGetPower, and_assoc] at h
  refine ⟨_, rfl, ?_⟩
  repeat' first
    | with_reducible assumption | intro _ | with_reducible exact same_refl | with_reducible apply same_rclFrame | dsimp only

theorem same_execRclSetVid {p : Part} {s u : State} {a0 : Fin 4} {a1 : Fin 256} {a2 : Bool} (hu : p.same s u) (h : keeps Foot.execRclSetVid p = true) :
    ∃ t, execRclSetVid a0 a1 a2 u = .next t ∧ p.same s t := by
  simp [Foot.execRclSetVid, and_assoc] at h
  refine ⟨_, rfl, ?_⟩
  repeat' first
    | with_reducible assumption | intro _ | with_reducible exact same_refl | with_reducible apply same_rclFrame | dsimp only

theorem same_execRclGetVidTarget {p : Part} {s u : State} {a0 : Fin 4} {a1 : Fin 256} {a2 : Bool} (hu : p.same s u) (h : keeps Foot.execRclGetVidTarget p = true) :
    ∃ t, execRclGetVidTarget a0 a1 a2 u = .next t ∧ p.same s t := by
  simp [Foot.execRclGetVidTarget, and_assoc] at h
  refine ⟨_, rfl, ?_⟩
  repeat' first
    | with_reducible assumption | intro _ | with_reducible exact same_refl | with_reducible apply same_rclFrame | dsimp only

theorem same_execRailTuneComplete {p : Part} {s u : State} {a0 : Fin 2} {a1 : Nat} {a2 : RailOnTime} {a3 : Bool} {a4 : Bool} (hu : p.same s u) (h : keeps Foot.execRailTuneComplete p = true) :
    ∃ t, execRailTuneComplete a0 a1 a2 a3 a4 u = .next t ∧ p.same s t := by
  simp [Foot.execRailTuneComplete, and_assoc] at h
  obtain ⟨h1, h2, h3, h4, h5, h6, h7, h8, h9⟩ := h
  refine ⟨_, rfl, ?_⟩
  repeat' first
    | with_reducible assumption | intro _ | with_reducible exact same_refl | with_reducible apply same_iff
    | with_reducible apply same_set | with_reducible apply same_flag | with_reducible apply same_railLatch
    | with_reducible apply same_railTuned | with_reducible apply same_railSettled | with_reducible apply same_ite
    | with_reducible apply same_ite_fst | with_reducible apply same_ite_state | with_reducible apply off_ite | dsimp only
    | split

theorem same_execRclSetSlew {p : Part} {s u : State} {a0 : Fin 4} {a1 : Fin 256} {a2 : Bool} (hu : p.same s u) (h : keeps Foot.execRclSetSlew p = true) :
    ∃ t, execRclSetSlew a0 a1 a2 u = .next t ∧ p.same s t := by
  simp [Foot.execRclSetSlew, and_assoc] at h
  refine ⟨_, rfl, ?_⟩
  repeat' first
    | with_reducible assumption | intro _ | with_reducible exact same_refl | with_reducible apply same_rclFrame | dsimp only

theorem same_execRclReservedCommand {p : Part} {s u : State} {a0 : Fin 4} {a1 : Fin 16} {a2 : Fin 256} {a3 : Bool} (hu : p.same s u) (h : keeps Foot.execRclReservedCommand p = true) :
    ∃ t, execRclReservedCommand a0 a1 a2 a3 u = .next t ∧ p.same s t := by
  simp [Foot.execRclReservedCommand, and_assoc] at h
  refine ⟨_, rfl, ?_⟩
  repeat' first
    | with_reducible assumption | intro _ | with_reducible exact same_refl | with_reducible apply same_rclFrame
    | with_reducible apply same_ite | with_reducible apply off_ite | dsimp only | split

theorem same_vpreRamp {p : Part} {s u : State}  (hu : p.same s u) (h : keeps Foot.vpreRamp p = true) :
    p.same s (State.vpreRamp u) := by
  simp [Foot.vpreRamp, and_assoc] at h
  obtain ⟨h1, h2, h3⟩ := h
  unfold State.vpreRamp
  repeat' first
    | with_reducible assumption | intro _ | with_reducible exact same_refl | with_reducible apply same_flag
    | with_reducible apply same_set | dsimp only

theorem same_execVpreHiccupEnd {p : Part} {s u : State}  (hu : p.same s u) (h : keeps Foot.execVpreHiccupEnd p = true) :
    ∃ t, execVpreHiccupEnd u = .next t ∧ p.same s t := by
  simp [Foot.execVpreHiccupEnd, and_assoc] at h
  obtain ⟨h1, h2⟩ := h
  refine ⟨_, rfl, ?_⟩
  repeat' first
    | with_reducible assumption | intro _ | with_reducible exact same_refl | with_reducible apply same_set
    | with_reducible apply same_vpreRamp | with_reducible apply same_ite | with_reducible apply off_ite | dsimp only | split

theorem same_execRailOffDelayEnd {p : Part} {s u : State} {a0 : Fin 2} (hu : p.same s u) (h : keeps Foot.execRailOffDelayEnd p = true) :
    ∃ t, execRailOffDelayEnd a0 u = .next t ∧ p.same s t := by
  simp [Foot.execRailOffDelayEnd, and_assoc] at h
  refine ⟨_, rfl, ?_⟩
  repeat' first
    | with_reducible assumption | intro _ | with_reducible exact same_refl | with_reducible apply same_railDown
    | with_reducible apply same_ite | with_reducible apply off_ite | dsimp only | split

theorem same_execRailStartFail {p : Part} {s u : State} {a0 : Fin 2} (hu : p.same s u) (h : keeps Foot.execRailStartFail p = true) :
    ∃ t, execRailStartFail a0 u = .next t ∧ p.same s t := by
  simp [Foot.execRailStartFail, and_assoc] at h
  obtain ⟨h1, h2, h3, h4, h5⟩ := h
  refine ⟨_, rfl, ?_⟩
  repeat' first
    | with_reducible assumption | intro _ | with_reducible exact same_refl | with_reducible apply same_set
    | with_reducible apply same_flag | with_reducible apply same_railLatch | with_reducible apply same_railStop
    | with_reducible apply same_ite | with_reducible apply off_ite | dsimp only | split

theorem same_execVpreOnDelayEnd {p : Part} {s u : State}  (hu : p.same s u) (h : keeps Foot.execVpreOnDelayEnd p = true) :
    ∃ t, execVpreOnDelayEnd u = .next t ∧ p.same s t := by
  simp [Foot.execVpreOnDelayEnd, and_assoc] at h
  refine ⟨_, rfl, ?_⟩
  repeat' first
    | with_reducible assumption | intro _ | with_reducible exact same_refl | with_reducible apply same_vpreRamp
    | with_reducible apply same_ite | with_reducible apply off_ite | dsimp only | split

theorem same_execRailRampDownEnd {p : Part} {s u : State} {a0 : Fin 2} (hu : p.same s u) (h : keeps Foot.execRailRampDownEnd p = true) :
    ∃ t, execRailRampDownEnd a0 u = .next t ∧ p.same s t := by
  simp [Foot.execRailRampDownEnd, and_assoc] at h
  refine ⟨_, rfl, ?_⟩
  repeat' first
    | with_reducible assumption | intro _ | with_reducible exact same_refl | with_reducible apply same_railStop
    | with_reducible apply same_ite | with_reducible apply off_ite | dsimp only | split

theorem same_execRclClearAlert {p : Part} {s u : State} {a0 : Fin 4} {a1 : Fin 256} {a2 : Bool} (hu : p.same s u) (h : keeps Foot.execRclClearAlert p = true) :
    ∃ t, execRclClearAlert a0 a1 a2 u = .next t ∧ p.same s t := by
  simp [Foot.execRclClearAlert, and_assoc] at h
  refine ⟨_, rfl, ?_⟩
  repeat' first
    | with_reducible assumption | intro _ | with_reducible exact same_refl | with_reducible apply same_rclFrame | dsimp only

theorem same_execVauxRetry {p : Part} {s u : State}  (hu : p.same s u) (h : keeps Foot.execVauxRetry p = true) :
    ∃ t, execVauxRetry u = .next t ∧ p.same s t := by
  simp [Foot.execVauxRetry, and_assoc] at h
  obtain ⟨h1, h2⟩ := h
  refine ⟨_, rfl, ?_⟩
  repeat' first
    | with_reducible assumption | intro _ | with_reducible exact same_refl | with_reducible apply same_flag
    | with_reducible apply same_startVaux | with_reducible apply same_ite | with_reducible apply off_ite | dsimp only
    | split

theorem same_execRailPowerEstimate {p : Part} {s u : State} {a0 : Fin 2} {a1 : Nat} {a2 : Nat} {a3 : Nat} {a4 : RailCycles} {a5 : Bool} {a6 : Bool} {a7 : Nat} {a8 : Nat} {a9 : Nat} (hu : p.same s u) (h : keeps Foot.execRailPowerEstimate p = true) :
    ∃ t, execRailPowerEstimate a0 a1 a2 a3 a4 a5 a6 a7 a8 a9 u = .next t ∧ p.same s t := by
  simp [Foot.execRailPowerEstimate, and_assoc] at h
  obtain ⟨h1, h2, h3, h4, h5, h6, h7, h8, h9, h10⟩ := h
  refine ⟨_, rfl, ?_⟩
  repeat' first
    | with_reducible assumption | intro _ | with_reducible exact same_refl | with_reducible apply same_flag
    | with_reducible apply same_set | with_reducible apply same_iff | with_reducible apply same_fireStep
    | with_reducible apply same_ite | with_reducible apply same_foldl | with_reducible apply same_ite_fst
    | with_reducible apply same_ite_state | with_reducible apply off_ite | dsimp only | split

theorem same_execRailSettle {p : Part} {s u : State} {a0 : RailArrival} (hu : p.same s u) (h : keeps Foot.execRailSettle p = true) :
    ∃ t, execRailSettle a0 u = .next t ∧ p.same s t := by
  simp [Foot.execRailSettle, and_assoc] at h
  obtain ⟨h1, h2⟩ := h
  refine ⟨_, rfl, ?_⟩
  repeat' first
    | with_reducible assumption | intro _ | with_reducible exact same_refl | with_reducible apply same_railSettled
    | with_reducible apply same_railReached | with_reducible apply same_ite | with_reducible apply off_ite | dsimp only
    | split

theorem same_execRailRampEnd {p : Part} {s u : State} {a0 : Fin 2} (hu : p.same s u) (h : keeps Foot.execRailRampEnd p = true) :
    ∃ t, execRailRampEnd a0 u = .next t ∧ p.same s t := by
  simp [Foot.execRailRampEnd, and_assoc] at h
  obtain ⟨h1, h2, h3⟩ := h
  refine ⟨_, rfl, ?_⟩
  repeat' first
    | with_reducible assumption | intro _ | with_reducible exact same_refl | with_reducible apply same_set
    | with_reducible apply same_flag | with_reducible apply same_ite | with_reducible apply off_ite | dsimp only | split

theorem same_execVpreFail {p : Part} {s u : State}  (hu : p.same s u) (h : keeps Foot.execVpreFail p = true) :
    ∃ t, execVpreFail u = .next t ∧ p.same s t := by
  simp [Foot.execVpreFail, and_assoc] at h
  obtain ⟨h1, h2, h3, h4, h5, h6⟩ := h
  refine ⟨_, rfl, ?_⟩
  repeat' first
    | with_reducible assumption | intro _ | with_reducible exact same_refl | with_reducible apply same_each
    | with_reducible apply same_clear | with_reducible apply same_iff | with_reducible apply same_set
    | with_reducible apply same_latch | with_reducible apply same_vpreGood | with_reducible apply same_stopVpre
    | with_reducible apply same_railStop | with_reducible apply same_ite | with_reducible apply same_ite_fst
    | with_reducible apply same_ite_state | with_reducible apply off_ite | dsimp only | split

theorem same_execRclSetState {p : Part} {s u : State} {a0 : Fin 4} {a1 : Fin 256} {a2 : Bool} (hu : p.same s u) (h : keeps Foot.execRclSetState p = true) :
    ∃ t, execRclSetState a0 a1 a2 u = .next t ∧ p.same s t := by
  simp [Foot.execRclSetState, and_assoc] at h
  refine ⟨_, rfl, ?_⟩
  repeat' first
    | with_reducible assumption | intro _ | with_reducible exact same_refl | with_reducible apply same_rclFrame | dsimp only

theorem same_execRailOnDelayEnd {p : Part} {s u : State} {a0 : Fin 2} (hu : p.same s u) (h : keeps Foot.execRailOnDelayEnd p = true) :
    ∃ t, execRailOnDelayEnd a0 u = .next t ∧ p.same s t := by
  simp [Foot.execRailOnDelayEnd, and_assoc] at h
  refine ⟨_, rfl, ?_⟩
  repeat' first
    | with_reducible assumption | intro _ | with_reducible exact same_refl | with_reducible apply same_railSoft
    | with_reducible apply same_ite | with_reducible apply off_ite | dsimp only | split

theorem same_execVauxOverload {p : Part} {s u : State}  (hu : p.same s u) (h : keeps Foot.execVauxOverload p = true) :
    ∃ t, execVauxOverload u = .next t ∧ p.same s t := by
  simp [Foot.execVauxOverload, and_assoc] at h
  obtain ⟨h1, h2⟩ := h
  refine ⟨_, rfl, ?_⟩
  repeat' first
    | with_reducible assumption | intro _ | with_reducible exact same_refl | with_reducible apply same_flag
    | with_reducible apply same_latch | with_reducible apply same_ite | with_reducible apply off_ite | dsimp only | split

theorem same_execVpreRetry {p : Part} {s u : State}  (hu : p.same s u) (h : keeps Foot.execVpreRetry p = true) :
    ∃ t, execVpreRetry u = .next t ∧ p.same s t := by
  simp [Foot.execVpreRetry, and_assoc] at h
  refine ⟨_, rfl, ?_⟩
  repeat' first
    | with_reducible assumption | intro _ | with_reducible exact same_refl | with_reducible apply same_vpreRetry
    | dsimp only

theorem same_execRclGetVidActual {p : Part} {s u : State} {a0 : Fin 4} {a1 : Fin 256} {a2 : Bool} (hu : p.same s u) (h : keeps Foot.execRclGetVidActual p = true) :
    ∃ t, execRclGetVidActual a0 a1 a2 u = .next t ∧ p.same s t := by
  simp [Foot.execRclGetVidActual, and_assoc] at h
  refine ⟨_, rfl, ?_⟩
  repeat' first
    | with_reducible assumption | intro _ | with_reducible exact same_refl | with_reducible apply same_rclFrame | dsimp only

end Sys2Proof.Machine.Part
end

