-- ==== Sys2Proof/Laws/SameLine.lean ====
section
/-! SUPPORT. What the operations of Machine/Line.lean leave as before: one lemma for each. -/

set_option linter.all false

namespace Sys2Proof.Machine.Part

theorem same_frameIdle {p : Part} {s u : State} {a1 : Nat} (hu : p.same s u) (h : keeps Foot.frameIdle p = true) :
    p.same s (State.frameIdle u a1) := by
  simp [Foot.frameIdle, and_assoc] at h
  obtain ⟨h1, h2⟩ := h
  unfold State.frameIdle
  repeat' first
    | with_reducible assumption | intro _ | with_reducible exact same_refl | with_reducible apply same_set | dsimp only

theorem same_nextSeq {p : Part} {s u : State} {a1 : Nat} (hu : p.same s u) (h : keeps Foot.nextSeq p = true) :
    p.same s (State.nextSeq u a1) := by
  simp [Foot.nextSeq, and_assoc] at h
  unfold State.nextSeq
  repeat' first
    | with_reducible assumption | intro _ | with_reducible exact same_refl | with_reducible apply same_set
    | with_reducible apply same_ite | with_reducible apply off_ite | dsimp only | split

theorem same_lineSend {p : Part} {s u : State} {a1 : Nat} {a2 : List Byte} (hu : p.same s u) (h : keeps Foot.lineSend p = true) :
    p.same s (State.lineSend u a1 a2) := by
  simp [Foot.lineSend, and_assoc] at h
  obtain ⟨h1, h2⟩ := h
  unfold State.lineSend
  repeat' first
    | with_reducible assumption | intro _ | with_reducible exact same_refl | with_reducible apply same_set
    | with_reducible apply same_each | with_reducible apply same_ite | with_reducible apply same_ite_fst
    | with_reducible apply same_ite_state | dsimp only | split

theorem same_sendFrame {p : Part} {s u : State} {a1 : Nat} (hu : p.same s u) (h : keeps Foot.sendFrame p = true) :
    p.same s (State.sendFrame u a1) := by
  simp [Foot.sendFrame, and_assoc] at h
  unfold State.sendFrame
  repeat' first
    | with_reducible assumption | intro _ | with_reducible exact same_refl | with_reducible apply same_lineSend | dsimp only
    | split

theorem same_markPolled {p : Part} {s u : State} {a1 : Nat} {a2 : Nat} (hu : p.same s u) (h : keeps Foot.markPolled p = true) :
    p.same s (State.markPolled u a1 a2) := by
  simp [Foot.markPolled, and_assoc] at h
  obtain ⟨h1, h2⟩ := h
  unfold State.markPolled
  repeat' first
    | with_reducible assumption | intro _ | with_reducible exact same_refl | with_reducible apply same_flag
    | with_reducible apply same_set | with_reducible apply same_ite | dsimp only | split

theorem same_nextFrame {p : Part} {s u : State} {a1 : Nat} (hu : p.same s u) (h : keeps Foot.nextFrame p = true) :
    p.same s (State.nextFrame u a1) := by
  simp [Foot.nextFrame, and_assoc] at h
  obtain ⟨h1, h2, h3, h4, h5, h6, h7⟩ := h
  unfold State.nextFrame
  repeat' first
    | with_reducible assumption | intro _ | with_reducible exact same_refl | with_reducible apply same_set
    | with_reducible apply same_frameIdle | with_reducible apply same_nextSeq | with_reducible apply same_sendFrame
    | with_reducible apply same_markPolled | with_reducible apply same_ite | with_reducible apply off_ite | dsimp only
    | split

theorem same_yardCycle {p : Part} {s u : State} {a1 : Nat} (hu : p.same s u) (h : keeps Foot.yardCycle p = true) :
    p.same s (State.yardCycle u a1) := by
  simp [Foot.yardCycle, and_assoc] at h
  obtain ⟨h1, h2, h3, h4⟩ := h
  unfold State.yardCycle
  repeat' first
    | with_reducible assumption | intro _ | with_reducible exact same_refl | with_reducible apply same_flag
    | with_reducible apply same_set | with_reducible apply same_nextFrame | dsimp only

theorem same_syncTime {p : Part} {s u : State} {a1 : Nat} (hu : p.same s u) (h : keeps Foot.syncTime p = true) :
    p.same s (State.syncTime u a1) := by
  simp [Foot.syncTime, and_assoc] at h
  obtain ⟨h1, h2⟩ := h
  unfold State.syncTime
  repeat' first
    | with_reducible assumption | intro _ | with_reducible exact same_refl | with_reducible apply same_set
    | with_reducible apply same_lineSend | dsimp only

theorem same_startCycle {p : Part} {s u : State} {a1 : Nat} (hu : p.same s u) (h : keeps Foot.startCycle p = true) :
    p.same s (State.startCycle u a1) := by
  simp [Foot.startCycle, and_assoc] at h
  obtain ⟨h1, h2, h3, h4, h5⟩ := h
  unfold State.startCycle
  repeat' first
    | with_reducible assumption | intro _ | with_reducible exact same_refl | with_reducible apply same_iff
    | with_reducible apply same_flag | with_reducible apply same_set | with_reducible apply same_syncTime
    | with_reducible apply same_nextFrame | dsimp only

theorem same_cycleDue {p : Part} {s u : State} {a1 : Nat} (hu : p.same s u) (h : keeps Foot.cycleDue p = true) :
    p.same s (State.cycleDue u a1) := by
  simp [Foot.cycleDue, and_assoc] at h
  obtain ⟨h1, h2, h3, h4, h5⟩ := h
  unfold State.cycleDue
  repeat' first
    | with_reducible assumption | intro _ | with_reducible exact same_refl | with_reducible apply same_flag
    | with_reducible apply same_dropLate | with_reducible apply same_yardCycle | with_reducible apply same_startCycle
    | with_reducible apply same_ite | with_reducible apply off_ite | dsimp only | split

theorem same_lineResume {p : Part} {s u : State} {a1 : Nat} (hu : p.same s u) (h : keeps Foot.lineResume p = true) :
    p.same s (State.lineResume u a1) := by
  simp [Foot.lineResume, and_assoc] at h
  obtain ⟨h1, h2⟩ := h
  unfold State.lineResume
  repeat' first
    | with_reducible assumption | intro _ | with_reducible exact same_refl | with_reducible apply same_nextFrame
    | with_reducible apply same_cycleDue | with_reducible apply same_ite | dsimp only | split

theorem same_lineGoOn {p : Part} {s u : State} {a1 : Nat} (hu : p.same s u) (h : keeps Foot.lineGoOn p = true) :
    p.same s (State.lineGoOn u a1) := by
  simp [Foot.lineGoOn, and_assoc] at h
  obtain ⟨h1, h2⟩ := h
  unfold State.lineGoOn
  repeat' first
    | with_reducible assumption | intro _ | with_reducible exact same_refl | with_reducible apply same_lineResume
    | with_reducible apply same_frameIdle | dsimp only

theorem same_onPorts {p : Part} {s u : State} {a1 : Nat} {a2 : Nat → State → State} (hu : p.same s u) (h : keeps Foot.onPorts p = true) (hf : ∀ i v, p.same s v → p.same s (a2 i v)) :
    p.same s (State.onPorts u a1 a2) := by
  simp [Foot.onPorts, and_assoc] at h
  unfold State.onPorts
  repeat' first
    | with_reducible apply hf | with_reducible assumption | intro _ | with_reducible exact same_refl
    | with_reducible apply same_each | with_reducible apply same_ite | with_reducible apply same_ite_fst
    | with_reducible apply same_ite_state | dsimp only | split

theorem same_setHostOff {p : Part} {s u : State} {a1 : Nat} {a2 : Bool} (hu : p.same s u) (h : keeps Foot.setHostOff p = true) :
    p.same s (State.setHostOff u a1 a2) := by
  simp [Foot.setHostOff, and_assoc] at h
  obtain ⟨h1, h2⟩ := h
  unfold State.setHostOff
  repeat' first
    | with_reducible assumption | intro _ | with_reducible exact same_refl | with_reducible apply same_flag
    | with_reducible apply same_ite | dsimp only | split

theorem same_linePortOff {p : Part} {s u : State} {a1 : Nat} (hu : p.same s u) (h : keeps Foot.linePortOff p = true) :
    p.same s (State.linePortOff u a1) := by
  simp [Foot.linePortOff, and_assoc] at h
  obtain ⟨h1, h2, h3, h4⟩ := h
  unfold State.linePortOff
  repeat' first
    | with_reducible assumption | intro _ | with_reducible exact same_refl | with_reducible apply same_setBit
    | with_reducible apply same_onPorts | with_reducible apply same_portOff | with_reducible apply same_setHostOff
    | dsimp only

theorem same_sendWalk {p : Part} {s u : State} {a1 : Nat} {a2 : Nat} (hu : p.same s u) (h : keeps Foot.sendWalk p = true) :
    p.same s (State.sendWalk u a1 a2) := by
  simp [Foot.sendWalk, and_assoc] at h
  unfold State.sendWalk
  repeat' first
    | with_reducible assumption | intro _ | with_reducible exact same_refl | with_reducible apply same_lineSend | dsimp only

theorem same_nodeEvent {p : Part} {s u : State} {a1 : Nat} {a2 : Nat} {a3 : Nat} {a4 : Nat} {a5 : Nat} {a6 : Nat} (hu : p.same s u) (h : keeps Foot.nodeEvent p = true) :
    p.same s (State.nodeEvent u a1 a2 a3 a4 a5 a6) := by
  simp [Foot.nodeEvent, and_assoc] at h
  unfold State.nodeEvent
  repeat' first
    | with_reducible assumption | intro _ | with_reducible exact same_refl | with_reducible apply same_offer
    | with_reducible apply same_ite | dsimp only | split

theorem same_slotEvent {p : Part} {s u : State} {a1 : Nat} {a2 : Nat} {a3 : Nat} {a4 : Nat} (hu : p.same s u) (h : keeps Foot.slotEvent p = true) :
    p.same s (State.slotEvent u a1 a2 a3 a4) := by
  simp [Foot.slotEvent, and_assoc] at h
  unfold State.slotEvent
  repeat' first
    | with_reducible assumption | intro _ | with_reducible exact same_refl | with_reducible apply same_nodeEvent
    | dsimp only

theorem same_slotDone {p : Part} {s u : State} {a1 : Nat} {a2 : Nat} (hu : p.same s u) (h : keeps Foot.slotDone p = true) :
    p.same s (State.slotDone u a1 a2) := by
  simp [Foot.slotDone, and_assoc] at h
  obtain ⟨h1, h2⟩ := h
  unfold State.slotDone
  repeat' first
    | with_reducible assumption | intro _ | with_reducible exact same_refl | with_reducible apply same_setBit
    | with_reducible apply same_lineGoOn | dsimp only

theorem same_configDone {p : Part} {s u : State} {a1 : Nat} {a2 : Nat} {a3 : Bool} {a4 : Nat} (hu : p.same s u) (h : keeps Foot.configDone p = true) :
    p.same s (State.configDone u a1 a2 a3 a4) := by
  simp [Foot.configDone, and_assoc] at h
  obtain ⟨h1, h2, h3, h4⟩ := h
  unfold State.configDone
  repeat' first
    | with_reducible assumption | intro _ | with_reducible exact same_refl | with_reducible apply same_set
    | with_reducible apply same_slotEvent | with_reducible apply same_slotDone | with_reducible apply same_lineGoOn
    | with_reducible apply same_ite | with_reducible apply off_ite | dsimp only | split

theorem same_linePortOn {p : Part} {s u : State} {a1 : Nat} (hu : p.same s u) (h : keeps Foot.linePortOn p = true) :
    p.same s (State.linePortOn u a1) := by
  simp [Foot.linePortOn, and_assoc] at h
  obtain ⟨h1, h2, h3, h4, h5⟩ := h
  unfold State.linePortOn
  repeat' first
    | with_reducible assumption | intro _ | with_reducible exact same_refl | with_reducible apply same_set
    | with_reducible apply same_portsFollow | with_reducible apply same_onPorts | with_reducible apply same_setHostOff
    | with_reducible apply same_setPort | with_reducible apply same_ite | with_reducible apply same_ite_fst
    | with_reducible apply same_ite_state | dsimp only | split

theorem same_slotsFollow {p : Part} {s u : State}  (hu : p.same s u) (h : keeps Foot.slotsFollow p = true) :
    p.same s (State.slotsFollow u) := by
  simp [Foot.slotsFollow, and_assoc] at h
  obtain ⟨h1, h2, h3⟩ := h
  unfold State.slotsFollow
  repeat' first
    | with_reducible assumption | intro _ | with_reducible exact same_refl | with_reducible apply same_set
    | with_reducible apply same_stand | with_reducible apply same_ended | with_reducible apply same_ite
    | with_reducible apply same_ite_fst | with_reducible apply same_ite_state | dsimp only | split

theorem same_freeSlot {p : Part} {s u : State} {a1 : Nat} (hu : p.same s u) (h : keeps Foot.freeSlot p = true) :
    p.same s (State.freeSlot u a1) := by
  simp [Foot.freeSlot, and_assoc] at h
  obtain ⟨h1, h2, h3, h4, h5, h6, h7, h8, h9, h10, h11, h12, h13, h14, h15, h16, h17, h18⟩ := h
  unfold State.freeSlot
  repeat' first
    | with_reducible apply same_slotsFollow | with_reducible apply same_clears
    | (simp only [List.all_cons, List.all_nil, Bool.and_eq_true, and_true, *]; done) | with_reducible assumption | intro _
    | with_reducible exact same_refl | with_reducible apply same_clear | with_reducible apply same_slotsFollow
    | with_reducible apply same_engineRelease | with_reducible apply same_foldl | dsimp only

theorem same_slotCommand {p : Part} {s u : State} {a1 : Nat} {a2 : Nat} {a3 : Nat} (hu : p.same s u) (h : keeps Foot.slotCommand p = true) :
    p.same s (State.slotCommand u a1 a2 a3) := by
  simp [Foot.slotCommand, and_assoc] at h
  obtain ⟨h1, h2⟩ := h
  unfold State.slotCommand
  repeat' first
    | with_reducible assumption | intro _ | with_reducible exact same_refl | with_reducible apply same_nextSeq
    | with_reducible apply same_lineSend | with_reducible apply same_ite | dsimp only | split

theorem same_lineRelease {p : Part} {s u : State} {a1 : Nat} (hu : p.same s u) (h : keeps Foot.lineRelease p = true) :
    p.same s (State.lineRelease u a1) := by
  simp [Foot.lineRelease, and_assoc] at h
  obtain ⟨h1, h2, h3, h4, h5⟩ := h
  unfold State.lineRelease
  repeat' first
    | with_reducible assumption | intro _ | with_reducible exact same_refl | with_reducible apply same_setBit
    | with_reducible apply same_freeSlot | with_reducible apply same_slotCommand | with_reducible apply same_slotEvent
    | with_reducible apply same_slotDone | with_reducible apply same_ite | dsimp only | split

theorem same_lineConfig {p : Part} {s u : State} {a1 : Nat} {a2 : Nat} {a3 : Nat} (hu : p.same s u) (h : keeps Foot.lineConfig p = true) :
    p.same s (State.lineConfig u a1 a2 a3).1 := by
  simp [Foot.lineConfig, and_assoc] at h
  unfold State.lineConfig
  repeat' first
    | with_reducible assumption | intro _ | with_reducible exact same_refl | with_reducible apply same_set
    | with_reducible apply same_ite | with_reducible apply same_ite_fst | with_reducible apply same_ite_state | dsimp only
    | split

theorem same_execFrameRetry {p : Part} {s u : State} {a0 : Fin 2} (hu : p.same s u) (h : keeps Foot.execFrameRetry p = true) :
    ∃ t, execFrameRetry a0 u = .next t ∧ p.same s t := by
  simp [Foot.execFrameRetry, and_assoc] at h
  obtain ⟨h1, h2⟩ := h
  refine ⟨_, rfl, ?_⟩
  repeat' first
    | with_reducible assumption | intro _ | with_reducible exact same_refl | with_reducible apply same_set
    | with_reducible apply same_sendFrame | with_reducible apply same_ite | with_reducible apply off_ite | dsimp only
    | split

theorem same_sendPark {p : Part} {s u : State} {a1 : Nat} {a2 : Nat} (hu : p.same s u) (h : keeps Foot.sendPark p = true) :
    p.same s (State.sendPark u a1 a2) := by
  simp [Foot.sendPark, and_assoc] at h
  unfold State.sendPark
  repeat' first
    | with_reducible assumption | intro _ | with_reducible exact same_refl | with_reducible apply same_lineSend | dsimp only

theorem same_setSlot {p : Part} {s u : State} {a1 : Nat} {a2 : Nat} (hu : p.same s u) (h : keeps Foot.setSlot p = true) :
    p.same s (State.setSlot u a1 a2) := by
  simp [Foot.setSlot, and_assoc] at h
  obtain ⟨h1, h2⟩ := h
  unfold State.setSlot
  repeat' first
    | with_reducible assumption | intro _ | with_reducible exact same_refl | with_reducible apply same_set
    | with_reducible apply same_slotsFollow | dsimp only

theorem same_slotEnable {p : Part} {s u : State} {a1 : Nat} {a2 : Bool} (hu : p.same s u) (h : keeps Foot.slotEnable p = true) :
    p.same s (State.slotEnable u a1 a2) := by
  simp [Foot.slotEnable, and_assoc] at h
  obtain ⟨h1, h2, h3, h4, h5⟩ := h
  unfold State.slotEnable
  repeat' first
    | with_reducible assumption | intro _ | with_reducible exact same_refl | with_reducible apply same_flag
    | with_reducible apply same_set | with_reducible apply same_iff | with_reducible apply same_setBit
    | with_reducible apply same_slotCommand | with_reducible apply same_setSlot | with_reducible apply same_ite
    | with_reducible apply same_ite_fst | with_reducible apply same_ite_state | dsimp only | split

theorem same_execPortToKeepAlive {p : Part} {s u : State} {a0 : Fin 2} {a1 : Nat} (hu : p.same s u) (h : keeps Foot.execPortToKeepAlive p = true) :
    ∃ t, execPortToKeepAlive a0 a1 u = .next t ∧ p.same s t := by
  simp [Foot.execPortToKeepAlive, and_assoc] at h
  obtain ⟨h1, h2, h3, h4, h5, h6, h7⟩ := h
  refine ⟨_, rfl, ?_⟩
  repeat' first
    | with_reducible assumption | intro _ | with_reducible exact same_refl | with_reducible apply same_flag
    | with_reducible apply same_setBit | with_reducible apply same_set | with_reducible apply same_lineIdle
    | with_reducible apply same_ledgerFollow | with_reducible apply same_setPort | with_reducible apply same_portOff
    | with_reducible apply same_ite | dsimp only | split

theorem same_learnAmp {p : Part} {s u : State} {a1 : Nat} {a2 : Nat} (hu : p.same s u) (h : keeps Foot.learnAmp p = true) :
    p.same s (State.learnAmp u a1 a2) := by
  simp [Foot.learnAmp, and_assoc] at h
  obtain ⟨h1, h2⟩ := h
  unfold State.learnAmp
  repeat' first
    | with_reducible assumption | intro _ | with_reducible exact same_refl | with_reducible apply same_flag
    | with_reducible apply same_set | with_reducible apply same_ite | dsimp only | split

theorem same_slotHeard {p : Part} {s u : State} {a1 : Nat} {a2 : Nat} {a3 : Nat} {a4 : Nat} (hu : p.same s u) (h : keeps Foot.slotHeard p = true) :
    p.same s (State.slotHeard u a1 a2 a3 a4) := by
  simp [Foot.slotHeard, and_assoc] at h
  obtain ⟨h1, h2, h3, h4, h5, h6⟩ := h
  unfold State.slotHeard
  repeat' first
    | with_reducible assumption | intro _ | with_reducible exact same_refl | with_reducible apply same_set
    | with_reducible apply same_learnAmp | with_reducible apply same_slotEvent | with_reducible apply same_setSlot
    | with_reducible apply same_ite | dsimp only | split

theorem same_execConfigReply {p : Part} {s u : State} {a0 : Fin 2} {a1 : Fin 256} {a2 : Nat} (hu : p.same s u) (h : keeps Foot.execConfigReply p = true) :
    ∃ t, execConfigReply a0 a1 a2 u = .next t ∧ p.same s t := by
  simp [Foot.execConfigReply, and_assoc] at h
  obtain ⟨h1, h2⟩ := h
  refine ⟨_, rfl, ?_⟩
  repeat' first
    | with_reducible assumption | intro _ | with_reducible exact same_refl | with_reducible apply same_configDone
    | with_reducible apply same_slotHeard | with_reducible apply same_ite | dsimp only | split

theorem same_execPortShort {p : Part} {s u : State} {a0 : Fin 2} (hu : p.same s u) (h : keeps Foot.execPortShort p = true) :
    ∃ t, execPortShort a0 u = .next t ∧ p.same s t := by
  simp [Foot.execPortShort, and_assoc] at h
  obtain ⟨h1, h2, h3, h4, h5, h6⟩ := h
  refine ⟨_, rfl, ?_⟩
  repeat' first
    | with_reducible assumption | intro _ | with_reducible exact same_refl | with_reducible apply same_set
    | with_reducible apply same_setBit | with_reducible apply same_latch | with_reducible apply same_nodeEvent
    | with_reducible apply same_portDown | with_reducible apply same_ite | with_reducible apply off_ite | dsimp only | split

theorem same_execLineCycleStart {p : Part} {s u : State} {a0 : Fin 2} (hu : p.same s u) (h : keeps Foot.execLineCycleStart p = true) :
    ∃ t, execLineCycleStart a0 u = .next t ∧ p.same s t := by
  simp [Foot.execLineCycleStart, and_assoc] at h
  refine ⟨_, rfl, ?_⟩
  repeat' first
    | with_reducible assumption | intro _ | with_reducible exact same_refl | with_reducible apply same_cycleDue
    | with_reducible apply same_ite | with_reducible apply off_ite | dsimp only | split

theorem same_sendAssign {p : Part} {s u : State} {a1 : Nat} {a2 : Nat} {a3 : Nat} {a4 : Nat} (hu : p.same s u) (h : keeps Foot.sendAssign p = true) :
    p.same s (State.sendAssign u a1 a2 a3 a4) := by
  simp [Foot.sendAssign, and_assoc] at h
  obtain ⟨h1, h2, h3, h4, h5, h6, h7⟩ := h
  unfold State.sendAssign
  repeat' first
    | with_reducible assumption | intro _ | with_reducible exact same_refl | with_reducible apply same_set
    | with_reducible apply same_iff | with_reducible apply same_sendFrame | dsimp only

theorem same_startYard {p : Part} {s u : State} {a1 : Nat} (hu : p.same s u) (h : keeps Foot.startYard p = true) :
    p.same s (State.startYard u a1) := by
  simp [Foot.startYard, and_assoc] at h
  unfold State.startYard
  repeat' first
    | with_reducible assumption | intro _ | with_reducible exact same_refl | with_reducible apply same_cycleDue
    | with_reducible apply same_ite | dsimp only | split

theorem same_portActive {p : Part} {s u : State} {a1 : Nat} (hu : p.same s u) (h : keeps Foot.portActive p = true) :
    p.same s (State.portActive u a1) := by
  simp [Foot.portActive, and_assoc] at h
  obtain ⟨h1, h2, h3⟩ := h
  unfold State.portActive
  repeat' first
    | with_reducible assumption | intro _ | with_reducible exact same_refl | with_reducible apply same_set
    | with_reducible apply same_startYard | with_reducible apply same_setPort | dsimp only

theorem same_runEnd {p : Part} {s u : State} {a1 : Nat} (hu : p.same s u) (h : keeps Foot.runEnd p = true) :
    p.same s (State.runEnd u a1) := by
  simp [Foot.runEnd, and_assoc] at h
  obtain ⟨h1, h2, h3⟩ := h
  unfold State.runEnd
  repeat' first
    | with_reducible assumption | intro _ | with_reducible exact same_refl | with_reducible apply same_set
    | with_reducible apply same_portActive | with_reducible apply same_lineGoOn | with_reducible apply same_ite | dsimp only
    | split

theorem same_runStep {p : Part} {s u : State} {a1 : Nat} (hu : p.same s u) (h : keeps Foot.runStep p = true) :
    p.same s (State.runStep u a1) := by
  simp [Foot.runStep, and_assoc] at h
  obtain ⟨h1, h2, h3⟩ := h
  unfold State.runStep
  repeat' first
    | with_reducible assumption | intro _ | with_reducible exact same_refl | with_reducible apply same_frameIdle
    | with_reducible apply same_runEnd | with_reducible apply same_sendWalk | with_reducible apply same_ite | dsimp only
    | split

theorem same_overflow {p : Part} {s u : State} {a1 : Nat} {a2 : Nat} (hu : p.same s u) (h : keeps Foot.overflow p = true) :
    p.same s (State.overflow u a1 a2) := by
  simp [Foot.overflow, and_assoc] at h
  obtain ⟨h1, h2, h3, h4, h5⟩ := h
  unfold State.overflow
  repeat' first
    | with_reducible assumption | intro _ | with_reducible exact same_refl | with_reducible apply same_set
    | with_reducible apply same_inc | with_reducible apply same_latch | with_reducible apply same_sendPark
    | with_reducible apply same_nodeEvent | dsimp only

theorem same_execKeepAliveOverload {p : Part} {s u : State} {a0 : Fin 2} (hu : p.same s u) (h : keeps Foot.execKeepAliveOverload p = true) :
    ∃ t, execKeepAliveOverload a0 u = .next t ∧ p.same s t := by
  simp [Foot.execKeepAliveOverload, and_assoc] at h
  obtain ⟨h1, h2, h3, h4⟩ := h
  refine ⟨_, rfl, ?_⟩
  repeat' first
    | with_reducible assumption | intro _ | with_reducible exact same_refl | with_reducible apply same_latch
    | with_reducible apply same_nodeEvent | with_reducible apply same_portOff | with_reducible apply same_ite
    | with_reducible apply off_ite | dsimp only | split

theorem same_execPortSettleEnd {p : Part} {s u : State} {a0 : Fin 2} (hu : p.same s u) (h : keeps Foot.execPortSettleEnd p = true) :
    ∃ t, execPortSettleEnd a0 u = .next t ∧ p.same s t := by
  simp [Foot.execPortSettleEnd, and_assoc] at h
  obtain ⟨h1, h2, h3, h4⟩ := h
  refine ⟨_, rfl, ?_⟩
  repeat' first
    | with_reducible assumption | intro _ | with_reducible exact same_refl | with_reducible apply same_set
    | with_reducible apply same_startYard | with_reducible apply same_syncTime | with_reducible apply same_setPort
    | with_reducible apply same_ite | with_reducible apply off_ite | dsimp only | split

theorem same_execEnumerationRunStart {p : Part} {s u : State} {a0 : Fin 2} (hu : p.same s u) (h : keeps Foot.execEnumerationRunStart p = true) :
    ∃ t, execEnumerationRunStart a0 u = .next t ∧ p.same s t := by
  simp [Foot.execEnumerationRunStart, and_assoc] at h
  obtain ⟨h1, h2, h3, h4, h5, h6, h7, h8⟩ := h
  refine ⟨_, rfl, ?_⟩
  repeat' first
    | with_reducible assumption | intro _ | with_reducible exact same_refl | with_reducible apply same_each
    | with_reducible apply same_set | with_reducible apply same_sendWalk | with_reducible apply same_lineResume
    | with_reducible apply same_ite | with_reducible apply same_ite_fst | with_reducible apply same_ite_state
    | with_reducible apply off_ite | dsimp only | split

theorem same_lineEnumerate {p : Part} {s u : State} {a1 : Nat} (hu : p.same s u) (h : keeps Foot.lineEnumerate p = true) :
    p.same s (State.lineEnumerate u a1) := by
  simp [Foot.lineEnumerate, and_assoc] at h
  obtain ⟨h1, h2⟩ := h
  unfold State.lineEnumerate
  repeat' first
    | with_reducible assumption | intro _ | with_reducible exact same_refl | with_reducible apply same_set
    | with_reducible apply same_onPorts | dsimp only

theorem same_execPollReply {p : Part} {s u : State} {a0 : Fin 2} {a1 : Fin 256} {a2 : List Byte} {a3 : Nat} {a4 : Nat} (hu : p.same s u) (h : keeps Foot.execPollReply p = true) :
    ∃ t, execPollReply a0 a1 a2 a3 a4 u = .next t ∧ p.same s t := by
  simp [Foot.execPollReply, and_assoc] at h
  obtain ⟨h1, h2, h3, h4, h5⟩ := h
  refine ⟨_, rfl, ?_⟩
  repeat' first
    | with_reducible assumption | intro _ | with_reducible exact same_refl | with_reducible apply same_set
    | with_reducible apply same_slotDone | with_reducible apply same_engineReply | with_reducible apply same_slotHeard
    | with_reducible apply same_ite | dsimp only | split

theorem same_pollMissed {p : Part} {s u : State} {a1 : Nat} {a2 : Nat} (hu : p.same s u) (h : keeps Foot.pollMissed p = true) :
    p.same s (State.pollMissed u a1 a2) := by
  simp [Foot.pollMissed, and_assoc] at h
  obtain ⟨h1, h2, h3, h4, h5⟩ := h
  unfold State.pollMissed
  repeat' first
    | with_reducible assumption | intro _ | with_reducible exact same_refl | with_reducible apply same_inc
    | with_reducible apply same_set | with_reducible apply same_latch | with_reducible apply same_slotEvent
    | with_reducible apply same_setSlot | with_reducible apply same_ite | dsimp only | split

theorem same_execPortRetryEnd {p : Part} {s u : State} {a0 : Fin 2} (hu : p.same s u) (h : keeps Foot.execPortRetryEnd p = true) :
    ∃ t, execPortRetryEnd a0 u = .next t ∧ p.same s t := by
  simp [Foot.execPortRetryEnd, and_assoc] at h
  obtain ⟨h1, h2⟩ := h
  refine ⟨_, rfl, ?_⟩
  repeat' first
    | with_reducible assumption | intro _ | with_reducible exact same_refl | with_reducible apply same_portsFollow
    | with_reducible apply same_setPort | with_reducible apply same_ite | with_reducible apply off_ite | dsimp only | split

theorem same_execPortRiseComplete {p : Part} {s u : State} {a0 : Fin 2} (hu : p.same s u) (h : keeps Foot.execPortRiseComplete p = true) :
    ∃ t, execPortRiseComplete a0 u = .next t ∧ p.same s t := by
  simp [Foot.execPortRiseComplete, and_assoc] at h
  refine ⟨_, rfl, ?_⟩
  repeat' first
    | with_reducible assumption | intro _ | with_reducible exact same_refl | with_reducible apply same_flag
    | with_reducible apply same_ite | with_reducible apply off_ite | dsimp only | split

theorem same_execAssignReply {p : Part} {s u : State} {a0 : Fin 2} {a1 : Fin 256} {a2 : Fin 256} {a3 : Fin 256} (hu : p.same s u) (h : keeps Foot.execAssignReply p = true) :
    ∃ t, execAssignReply a0 a1 a2 a3 u = .next t ∧ p.same s t := by
  simp [Foot.execAssignReply, and_assoc] at h
  obtain ⟨h1, h2, h3, h4, h5, h6, h7, h8, h9, h10, h11, h12, h13, h14, h15, h16, h17⟩ := h
  refine ⟨_, rfl, ?_⟩
  repeat' first
    | with_reducible assumption | intro _ | with_reducible exact same_refl | with_reducible apply same_flag
    | with_reducible apply same_set | with_reducible apply same_iff | with_reducible apply same_runStep
    | with_reducible apply same_engineRelease | with_reducible apply same_setSlot | with_reducible apply same_slotCommand
    | with_reducible apply same_slotEvent | with_reducible apply same_ite | with_reducible apply same_ite_fst
    | with_reducible apply same_ite_state | with_reducible apply off_ite | dsimp only | split

theorem same_execSlotEnableWrite {p : Part} {s u : State} {a0 : Fin 64} {a1 : Bool} (hu : p.same s u) (h : keeps Foot.execSlotEnableWrite p = true) :
    ∃ t, execSlotEnableWrite a0 a1 u = .next t ∧ p.same s t := by
  simp [Foot.execSlotEnableWrite, and_assoc] at h
  obtain ⟨h1, h2⟩ := h
  refine ⟨_, rfl, ?_⟩
  repeat' first
    | with_reducible assumption | intro _ | with_reducible exact same_refl | with_reducible apply same_flag
    | with_reducible apply same_slotEnable | dsimp only

theorem same_assignFailed {p : Part} {s u : State} {a1 : Nat} (hu : p.same s u) (h : keeps Foot.assignFailed p = true) :
    p.same s (State.assignFailed u a1) := by
  simp [Foot.assignFailed, and_assoc] at h
  obtain ⟨h1, h2, h3, h4, h5, h6⟩ := h
  unfold State.assignFailed
  repeat' first
    | with_reducible assumption | intro _ | with_reducible exact same_refl | with_reducible apply same_set
    | with_reducible apply same_iff | with_reducible apply same_latch | with_reducible apply same_runStep
    | with_reducible apply same_nodeEvent | with_reducible apply same_sendPark | with_reducible apply same_ite
    | with_reducible apply same_ite_fst | with_reducible apply same_ite_state | dsimp only | split

theorem same_execPortBootWaitEnd {p : Part} {s u : State} {a0 : Fin 2} (hu : p.same s u) (h : keeps Foot.execPortBootWaitEnd p = true) :
    ∃ t, execPortBootWaitEnd a0 u = .next t ∧ p.same s t := by
  simp [Foot.execPortBootWaitEnd, and_assoc] at h
  obtain ⟨h1, h2, h3⟩ := h
  refine ⟨_, rfl, ?_⟩
  repeat' first
    | with_reducible assumption | intro _ | with_reducible exact same_refl | with_reducible apply same_set
    | with_reducible apply same_syncTime | with_reducible apply same_setPort | with_reducible apply same_ite
    | with_reducible apply off_ite | dsimp only | split

theorem same_execIdwalkComplete {p : Part} {s u : State} {a0 : Fin 2} {a1 : Bool} {a2 : Nat} (hu : p.same s u) (h : keeps Foot.execIdwalkComplete p = true) :
    ∃ t, execIdwalkComplete a0 a1 a2 u = .next t ∧ p.same s t := by
  simp [Foot.execIdwalkComplete, and_assoc] at h
  obtain ⟨h1, h2, h3, h4, h5⟩ := h
  refine ⟨_, rfl, ?_⟩
  repeat' first
    | with_reducible assumption | intro _ | with_reducible exact same_refl | with_reducible apply same_set
    | with_reducible apply same_runEnd | with_reducible apply same_runStep | with_reducible apply same_sendAssign
    | with_reducible apply same_overflow | with_reducible apply same_ite | with_reducible apply off_ite | dsimp only | split

theorem same_execReplyTimeout {p : Part} {s u : State} {a0 : Fin 2} (hu : p.same s u) (h : keeps Foot.execReplyTimeout p = true) :
    ∃ t, execReplyTimeout a0 u = .next t ∧ p.same s t := by
  simp [Foot.execReplyTimeout, and_assoc] at h
  obtain ⟨h1, h2, h3, h4, h5, h6⟩ := h
  refine ⟨_, rfl, ?_⟩
  repeat' first
    | with_reducible assumption | intro _ | with_reducible exact same_refl | with_reducible apply same_inc
    | with_reducible apply same_set | with_reducible apply same_slotDone | with_reducible apply same_pollMissed
    | with_reducible apply same_configDone | with_reducible apply same_assignFailed | with_reducible apply same_ite
    | with_reducible apply off_ite | dsimp only | split

theorem same_execDiscoveryDue {p : Part} {s u : State} {a0 : Fin 2} (hu : p.same s u) (h : keeps Foot.execDiscoveryDue p = true) :
    ∃ t, execDiscoveryDue a0 u = .next t ∧ p.same s t := by
  simp [Foot.execDiscoveryDue, and_assoc] at h
  refine ⟨_, rfl, ?_⟩
  repeat' first
    | with_reducible assumption | intro _ | with_reducible exact same_refl | with_reducible apply same_set
    | with_reducible apply same_ite | with_reducible apply off_ite | dsimp only | split

end Sys2Proof.Machine.Part
end

