-- ==== Sys2Proof/Laws/SameLedger.lean ====
section
/-! SUPPORT. What the operations of Machine/Ledger.lean leave as before: one lemma for each. -/

set_option linter.all false

namespace Sys2Proof.Machine.Part

theorem same_execERemWrite {p : Part} {s u : State} {a0 : Nat} (hu : p.same s u) (h : keeps Foot.execERemWrite p = true) :
    ∃ t, execERemWrite a0 u = .next t ∧ p.same s t := by
  simp [Foot.execERemWrite, and_assoc] at h
  refine ⟨_, rfl, ?_⟩
  repeat' first
    | with_reducible assumption | intro _ | with_reducible exact same_refl | with_reducible apply same_eRemWrite
    | dsimp only

theorem same_execCcResult {p : Part} {s u : State} {a0 : Int} (hu : p.same s u) (h : keeps Foot.execCcResult p = true) :
    ∃ t, execCcResult a0 u = .next t ∧ p.same s t := by
  simp [Foot.execCcResult, and_assoc] at h
  obtain ⟨h1, h2, h3, h4, h5⟩ := h
  refine ⟨_, rfl, ?_⟩
  repeat' first
    | with_reducible assumption | intro _ | with_reducible exact same_refl | with_reducible apply same_flag
    | with_reducible apply same_setS | with_reducible apply same_latchStand | with_reducible apply same_ended
    | with_reducible apply same_ite | with_reducible apply off_ite | dsimp only | split

theorem same_execLedgerUpdate {p : Part} {s u : State} {a0 : BusMeans} {a1 : Int} {a2 : Quad} {a3 : Quad} {a4 : Quad} {a5 : Quad} {a6 : Nat} {a7 : Nat} (hu : p.same s u) (h : keeps Foot.execLedgerUpdate p = true) :
    ∃ t, execLedgerUpdate a0 a1 a2 a3 a4 a5 a6 a7 u = .next t ∧ p.same s t := by
  simp [Foot.execLedgerUpdate, and_assoc] at h
  obtain ⟨h1, h2, h3, h4, h5, h6, h7, h8, h9, h10, h11, h12, h13, h14, h15, h16, h17, h18, h19⟩ := h
  refine ⟨_, rfl, ?_⟩
  repeat' first
    | with_reducible assumption | intro _ | with_reducible exact same_refl | with_reducible apply same_set
    | with_reducible apply same_setS | with_reducible apply same_each | with_reducible apply same_flag
    | with_reducible apply same_minSys | with_reducible apply same_abortSlice | with_reducible apply same_staleCheck
    | with_reducible apply same_vauxMove | with_reducible apply same_ledgerBat | with_reducible apply same_ledgerAdd
    | with_reducible apply same_ledgerFollow | with_reducible apply same_ite | with_reducible apply same_ite_fst
    | with_reducible apply same_ite_state | with_reducible apply off_ite | dsimp only | split

theorem same_execAdcReferenceFail {p : Part} {s u : State} {a0 : Bool} (hu : p.same s u) (h : keeps Foot.execAdcReferenceFail p = true) :
    ∃ t, execAdcReferenceFail a0 u = .next t ∧ p.same s t := by
  simp [Foot.execAdcReferenceFail, and_assoc] at h
  refine ⟨_, rfl, ?_⟩
  repeat' first
    | with_reducible assumption | intro _ | with_reducible exact same_refl | with_reducible apply same_refFail | dsimp only

theorem same_execEpochWrite {p : Part} {s u : State} {a0 : Nat} (hu : p.same s u) (h : keeps Foot.execEpochWrite p = true) :
    ∃ t, execEpochWrite a0 u = .next t ∧ p.same s t := by
  simp [Foot.execEpochWrite, and_assoc] at h
  refine ⟨_, rfl, ?_⟩
  repeat' first
    | with_reducible assumption | intro _ | with_reducible exact same_refl | with_reducible apply same_epochWrite
    | dsimp only

theorem same_execClearCounters {p : Part} {s u : State}  (hu : p.same s u) (h : keeps Foot.execClearCounters p = true) :
    ∃ t, execClearCounters u = .next t ∧ p.same s t := by
  simp [Foot.execClearCounters, and_assoc] at h
  refine ⟨_, rfl, ?_⟩
  repeat' first
    | with_reducible assumption | intro _ | with_reducible exact same_refl | with_reducible apply same_clearCounters
    | dsimp only

theorem same_execSnapshotNow {p : Part} {s u : State}  (hu : p.same s u) (h : keeps Foot.execSnapshotNow p = true) :
    ∃ t, execSnapshotNow u = .next t ∧ p.same s t := by
  simp [Foot.execSnapshotNow, and_assoc] at h
  refine ⟨_, rfl, ?_⟩
  repeat' first
    | with_reducible assumption | intro _ | with_reducible exact same_refl | with_reducible apply same_snapshot | dsimp only

end Sys2Proof.Machine.Part
end

