-- ==== Sys2Proof/Laws/SameDataEngine.lean ====
section
/-! SUPPORT. What the operations of Machine/DataEngine.lean leave as before: one lemma for each. -/

set_option linter.all false

namespace Sys2Proof.Machine.Part

theorem same_execResetTrackerAll {p : Part} {s u : State} {a0 : Fin 512} (hu : p.same s u) (h : keeps Foot.execResetTrackerAll p = true) :
    ∃ t, execResetTrackerAll a0 u = .next t ∧ p.same s t := by
  simp [Foot.execResetTrackerAll, and_assoc] at h
  refine ⟨_, rfl, ?_⟩
  repeat' first
    | with_reducible assumption | intro _ | with_reducible exact same_refl | with_reducible apply same_engineCommand
    | dsimp only

theorem same_execRefusalSummaryDue {p : Part} {s u : State} {a0 : Fin 16} (hu : p.same s u) (h : keeps Foot.execRefusalSummaryDue p = true) :
    ∃ t, execRefusalSummaryDue a0 u = .next t ∧ p.same s t := by
  simp [Foot.execRefusalSummaryDue, and_assoc] at h
  refine ⟨_, rfl, ?_⟩
  repeat' first
    | with_reducible assumption | intro _ | with_reducible exact same_refl | with_reducible apply same_summaryDue
    | with_reducible apply same_ite | with_reducible apply off_ite | dsimp only | split

theorem same_execResetBase {p : Part} {s u : State} {a0 : Fin 512} (hu : p.same s u) (h : keeps Foot.execResetBase p = true) :
    ∃ t, execResetBase a0 u = .next t ∧ p.same s t := by
  simp [Foot.execResetBase, and_assoc] at h
  refine ⟨_, rfl, ?_⟩
  repeat' first
    | with_reducible assumption | intro _ | with_reducible exact same_refl | with_reducible apply same_engineCommand
    | dsimp only

theorem same_execQueueCapApply {p : Part} {s u : State} {a0 : Fin 16} (hu : p.same s u) (h : keeps Foot.execQueueCapApply p = true) :
    ∃ t, execQueueCapApply a0 u = .next t ∧ p.same s t := by
  simp [Foot.execQueueCapApply, and_assoc] at h
  refine ⟨_, rfl, ?_⟩
  repeat' first
    | with_reducible assumption | intro _ | with_reducible exact same_refl | with_reducible apply same_capApply
    | with_reducible apply same_ite | with_reducible apply off_ite | dsimp only | split

theorem same_execRecordOffer {p : Part} {s u : State} {a0 : Nat} {a1 : Nat} {a2 : Nat} {a3 : Bool} {a4 : Bool} {a5 : List Byte} (hu : p.same s u) (h : keeps Foot.execRecordOffer p = true) :
    ∃ t, execRecordOffer a0 a1 a2 a3 a4 a5 u = .next t ∧ p.same s t := by
  simp [Foot.execRecordOffer, and_assoc] at h
  refine ⟨_, rfl, ?_⟩
  repeat' first
    | with_reducible assumption | intro _ | with_reducible exact same_refl | with_reducible apply same_offer
    | with_reducible apply same_ite | with_reducible apply off_ite | dsimp only | split

theorem same_execClearAlarms {p : Part} {s u : State} {a0 : Fin 512} (hu : p.same s u) (h : keeps Foot.execClearAlarms p = true) :
    ∃ t, execClearAlarms a0 u = .next t ∧ p.same s t := by
  simp [Foot.execClearAlarms, and_assoc] at h
  refine ⟨_, rfl, ?_⟩
  repeat' first
    | with_reducible assumption | intro _ | with_reducible exact same_refl | with_reducible apply same_engineCommand
    | dsimp only

theorem same_execResetWindow {p : Part} {s u : State} {a0 : Fin 512} (hu : p.same s u) (h : keeps Foot.execResetWindow p = true) :
    ∃ t, execResetWindow a0 u = .next t ∧ p.same s t := by
  simp [Foot.execResetWindow, and_assoc] at h
  refine ⟨_, rfl, ?_⟩
  repeat' first
    | with_reducible assumption | intro _ | with_reducible exact same_refl | with_reducible apply same_engineCommand
    | dsimp only

end Sys2Proof.Machine.Part
end

