-- ==== Sys2Proof/Laws/SameOperands.lean ====
section
/-! SUPPORT. What the operations of Machine/Operands.lean leave as before: one lemma for each. -/

set_option linter.all false

namespace Sys2Proof.Machine.Part

theorem judged_writes {s : State} {ws : List (Nat × Nat)} (h : s.judgeWrite ws = none) :
    ∀ w ∈ ws, Scope.word .writes w.1 = true := by
  unfold State.judgeWrite at h
  dsimp only at h
  cases hf : ws.find? (fun w => (s.withLow ws (s.get R.X_USABLE_LOW)).wordStatus w.1 w.2 != 0) with
  | some w => rw [hf] at h; cases h
  | none =>
    intro w hw
    have := List.find?_eq_none.1 hf w hw
    simp only [bne_iff_ne, ne_eq, Decidable.not_not, State.wordStatus] at this
    simp only [Scope.word, Bool.and_eq_true]
    split at this
    · cases this
    split at this
    · cases this
    simp_all

theorem same_storeWord {p : Part} {s u : State} {a1 : Nat} {a2 : Nat} (hu : p.same s u) (h : keeps Foot.storeWord p = true) (ha : Scope.word .writes a1 = true) :
    p.same s (State.storeWord u a1 a2) := by
  simp [Foot.storeWord, and_assoc] at h
  obtain ⟨h1, h2, h3, h4, h5, h6, h7, h8⟩ := h
  unfold State.storeWord
  repeat' first
    | exact same_putWord .writes (by assumption) (by assumption) (by assumption) | with_reducible assumption | intro _
    | with_reducible exact same_refl | with_reducible apply same_set | with_reducible apply same_lockWrite
    | with_reducible apply same_ite | dsimp only | split

theorem same_converterCommand {p : Part} {s u : State} {a1 : Nat} (hu : p.same s u) (h : keeps Foot.converterCommand p = true) :
    p.same s (State.converterCommand u a1) := by
  simp [Foot.converterCommand, and_assoc] at h
  obtain ⟨h1, h2⟩ := h
  unfold State.converterCommand
  repeat' first
    | with_reducible assumption | intro _ | with_reducible exact same_refl | with_reducible apply same_each
    | with_reducible apply same_phRetry | with_reducible apply same_retune | with_reducible apply same_ite
    | with_reducible apply same_ite_fst | with_reducible apply same_ite_state | dsimp only | split

theorem same_putImage {p : Part} {s u : State} {a1 : List (Nat × Nat)} (hu : p.same s u) (h : keeps Foot.putImage p = true) :
    p.same s (State.putImage u a1) := by
  simp [Foot.putImage, and_assoc] at h
  unfold State.putImage
  refine same_foldl_mem (same_keepFields hu ?_) (fun w x hx hw => same_putWord .image hw h (List.mem_filter.1 hx).2)
  rintro k rfl
  simp only [Touch.off, Scope.has] at h
  simp_all

theorem same_mapWrite {p : Part} {s u : State}  (hu : p.same s u) (h : keeps Foot.mapWrite p = true) :
    p.same s (State.mapWrite u) := by
  simp [Foot.mapWrite, and_assoc] at h
  obtain ⟨h1, h2⟩ := h
  unfold State.mapWrite
  repeat' first
    | with_reducible assumption | intro _ | with_reducible exact same_refl | with_reducible apply same_flag
    | with_reducible apply same_applyMap | with_reducible apply same_ite | dsimp only | split

theorem same_lineCtrl {p : Part} {s u : State}  (hu : p.same s u) (h : keeps Foot.lineCtrl p = true) :
    p.same s (State.lineCtrl u) := by
  simp [Foot.lineCtrl, and_assoc] at h
  obtain ⟨h1, h2, h3⟩ := h
  unfold State.lineCtrl
  repeat' first
    | with_reducible assumption | intro _ | with_reducible exact same_refl | with_reducible apply same_each
    | with_reducible apply same_setBit | with_reducible apply same_portsFollow | with_reducible apply same_portOff
    | with_reducible apply same_ite | with_reducible apply same_ite_fst | with_reducible apply same_ite_state | dsimp only
    | split

theorem same_wroteInput {p : Part} {s u : State} {a1 : State} {a2 : Nat} {a3 : Nat} (hu : p.same s u) (h : keeps Foot.wroteInput p = true) :
    p.same s (State.wroteInput u a1 a2 a3) := by
  simp [Foot.wroteInput, and_assoc] at h
  obtain ⟨h1, h2, h3, h4⟩ := h
  unfold State.wroteInput
  repeat' first
    | with_reducible assumption | intro _ | with_reducible exact same_refl | with_reducible apply same_set
    | with_reducible apply same_enableInput | with_reducible apply same_reclassify | with_reducible apply same_sweepNow
    | with_reducible apply same_ite | dsimp only | split

theorem same_wroteCharge {p : Part} {s u : State} {a1 : State} {a2 : Nat} (hu : p.same s u) (h : keeps Foot.wroteCharge p = true) :
    p.same s (State.wroteCharge u a1 a2) := by
  simp [Foot.wroteCharge, and_assoc] at h
  obtain ⟨h1, h2, h3, h4, h5, h6⟩ := h
  unfold State.wroteCharge
  repeat' first
    | with_reducible assumption | intro _ | with_reducible exact same_refl | with_reducible apply same_iff
    | with_reducible apply same_chgHold | with_reducible apply same_chgFollow | with_reducible apply same_profileChanged
    | with_reducible apply same_chgTargets | with_reducible apply same_windowFollow | with_reducible apply same_agedFollow
    | with_reducible apply same_ite | with_reducible apply same_ite_fst | with_reducible apply same_ite_state | dsimp only
    | split

theorem same_powerCommand {p : Part} {s u : State} {a1 : Nat} (hu : p.same s u) (h : keeps Foot.powerCommand p = true) :
    p.same s (State.powerCommand u a1) := by
  simp [Foot.powerCommand, and_assoc] at h
  obtain ⟨h1, h2⟩ := h
  unfold State.powerCommand
  repeat' first
    | with_reducible assumption | intro _ | with_reducible exact same_refl | with_reducible apply same_iff
    | with_reducible apply same_ppRetryNow | with_reducible apply same_probeNow | dsimp only

theorem same_ledgerCommand {p : Part} {s u : State} {a1 : Nat} (hu : p.same s u) (h : keeps Foot.ledgerCommand p = true) :
    p.same s (State.ledgerCommand u a1) := by
  simp [Foot.ledgerCommand, and_assoc] at h
  obtain ⟨h1, h2⟩ := h
  unfold State.ledgerCommand
  repeat' first
    | with_reducible assumption | intro _ | with_reducible exact same_refl | with_reducible apply same_iff
    | with_reducible apply same_clearCounters | with_reducible apply same_snapshot | dsimp only

theorem same_wrote {p : Part} {s u : State} {a1 : State} {a2 : Nat} {a3 : Nat} (hu : p.same s u) (h : keeps Foot.wrote p = true) :
    p.same s (State.wrote u a1 a2 a3) := by
  simp [Foot.wrote, and_assoc] at h
  obtain ⟨h1, h2, h3, h4, h5, h6, h7, h8, h9, h10, h11, h12, h13, h14, h15, h16, h17, h18, h19, h20, h21, h22, h23, h24, h25, h26, h27, h28, h29, h30⟩ := h
  unfold State.wrote
  repeat' first
    | with_reducible assumption | intro _ | with_reducible exact same_refl | with_reducible apply same_set
    | with_reducible apply same_flag | with_reducible apply same_iff | with_reducible apply same_wroteInput
    | with_reducible apply same_mapWrite | with_reducible apply same_wroteCharge | with_reducible apply same_slotEnable
    | with_reducible apply same_capWrite | with_reducible apply same_curveFollow | with_reducible apply same_cause
    | with_reducible apply same_stopGrace | with_reducible apply same_judgeOrder
    | with_reducible apply same_converterCommand | with_reducible apply same_sysFollow
    | with_reducible apply same_powerCommand | with_reducible apply same_startVpre | with_reducible apply same_startVaux
    | with_reducible apply same_vpreRetry | with_reducible apply same_valtFollow | with_reducible apply same_ledgerFollow
    | with_reducible apply same_eRemWrite | with_reducible apply same_ledgerCommand | with_reducible apply same_lineCtrl
    | with_reducible apply same_engineCommand | with_reducible apply same_followAlert | with_reducible apply same_keyWrite
    | with_reducible apply same_disableWrite | with_reducible apply same_thmCtrl | with_reducible apply same_foldback
    | with_reducible apply same_fbClear | with_reducible apply same_ite | with_reducible apply same_ite_fst
    | with_reducible apply same_ite_state | with_reducible apply off_ite | dsimp only | split

theorem same_switchTo {p : Part} {s u : State} {a1 : List (Nat × Nat)} (hu : p.same s u) (h : keeps Foot.switchTo p = true) :
    p.same s (State.switchTo u a1) := by
  simp [Foot.switchTo, and_assoc] at h
  obtain ⟨h1, h2, h3⟩ := h
  unfold State.switchTo
  repeat' first
    | with_reducible assumption | intro _ | with_reducible exact same_refl | with_reducible apply same_flag
    | with_reducible apply same_putImage | with_reducible apply same_wrote | with_reducible apply same_ite
    | with_reducible apply same_foldl | with_reducible apply same_ite_fst | with_reducible apply same_ite_state | dsimp only
    | split

theorem same_writeWords {p : Part} {s u : State} {a1 : List (Nat × Nat)} (hu : p.same s u) (h : keeps Foot.writeWords p = true) (ha : ∀ w ∈ a1, Scope.word .writes w.1 = true) :
    p.same s (State.writeWords u a1) := by
  simp [Foot.writeWords, and_assoc] at h
  obtain ⟨h1, h2, h3⟩ := h
  unfold State.writeWords
  repeat' first
    | refine same_foldl_mem ?_ (fun w x hx hw => same_storeWord hw (by assumption) (ha x hx)) | with_reducible assumption
    | intro _ | with_reducible exact same_refl | with_reducible apply same_iff | with_reducible apply same_flag
    | with_reducible apply same_storeWord | with_reducible apply same_wrote | with_reducible apply same_foldl | dsimp only

theorem same_withLow {p : Part} {s u : State} {a1 : List (Nat × Nat)} {a2 : Nat} (hu : p.same s u) (h : keeps Foot.withLow p = true) :
    p.same s (State.withLow u a1 a2) := by
  simp [Foot.withLow, and_assoc] at h
  unfold State.withLow
  repeat' first
    | with_reducible assumption | intro _ | with_reducible exact same_refl | with_reducible apply same_set | dsimp only

end Sys2Proof.Machine.Part
end

