-- ==== Sys2Proof/Laws/SameLive.lean ====
section
/-! SUPPORT. What the operations of Machine/Live.lean leave as before: one lemma for each. -/

set_option linter.all false

namespace Sys2Proof.Machine.Part

theorem safeWords_image (s : State) : ∀ w ∈ s.safeWords, Scope.word .image w.1 = true := by
  intro w hw
  simp only [State.safeWords, List.mem_map] at hw
  obtain ⟨q, hq, rfl⟩ := hw
  have h : ∀ q ∈ [0x0505, 0x0506, 0x0507, 0x0508, 0x0509, 0x050A, 0x050B, 0x050C, 0x0513, 0x0514].zip (List.range 10),
      Scope.word .image q.1 = true := by decide
  exact h q hq

theorem same_defaultsMarked {p : Part} {s u : State} {a1 : Bool} (hu : p.same s u) (h : keeps Foot.defaultsMarked p = true) :
    p.same s (State.defaultsMarked u a1) := by
  simp [Foot.defaultsMarked, and_assoc] at h
  obtain ⟨h1, h2, h3, h4, h5, h6⟩ := h
  unfold State.defaultsMarked
  repeat' first
    | with_reducible assumption | intro _ | with_reducible exact same_refl | with_reducible apply same_iff
    | with_reducible apply same_flag | with_reducible apply same_set | with_reducible apply same_latchStand
    | with_reducible apply same_latch | with_reducible apply same_safeCause | dsimp only

theorem same_judgeProfile {p : Part} {s u : State}  (hu : p.same s u) (h : keeps Foot.judgeProfile p = true) :
    p.same s (State.judgeProfile u) := by
  simp [Foot.judgeProfile, and_assoc] at h
  obtain ⟨h1, h2, h3, h4⟩ := h
  unfold State.judgeProfile
  repeat' first
    | with_reducible assumption | intro _ | with_reducible exact same_refl | with_reducible apply same_flag
    | with_reducible apply same_latchStand | with_reducible apply same_ended | with_reducible apply same_selfReject
    | with_reducible apply same_ite | dsimp only | split

theorem same_copyLostCheck {p : Part} {s u : State}  (hu : p.same s u) (h : keeps Foot.copyLostCheck p = true) :
    p.same s (State.copyLostCheck u) := by
  simp [Foot.copyLostCheck, and_assoc] at h
  unfold State.copyLostCheck
  repeat' first
    | with_reducible assumption | intro _ | with_reducible exact same_refl | with_reducible apply same_latch
    | with_reducible apply same_ite | dsimp only | split

theorem same_bootConfig {p : Part} {s u : State}  (hu : p.same s u) (h : keeps Foot.bootConfig p = true) :
    p.same s (State.bootConfig u) := by
  simp [Foot.bootConfig, and_assoc] at h
  obtain ⟨h1, h2, h3, h4, h5, h6, h7, h8, h9, h10, h11, h12, h13, h14⟩ := h
  unfold State.bootConfig
  repeat' first
    | with_reducible assumption | intro _ | with_reducible exact same_refl | with_reducible apply same_flag
    | with_reducible apply same_set | with_reducible apply same_iff | with_reducible apply same_latch
    | with_reducible apply same_putImage | with_reducible apply same_defaultsMarked | with_reducible apply same_judgeProfile
    | with_reducible apply same_storeRegs | with_reducible apply same_copyLostCheck | with_reducible apply same_queueRepairs
    | with_reducible apply same_ite | with_reducible apply same_ite_fst | with_reducible apply same_ite_state | dsimp only
    | split | with_reducible apply same_with_loaded | with_reducible apply same_with_target
    | with_reducible apply same_with_loaded_target

theorem same_trialTo {p : Part} {s u : State} {a1 : Nat} (hu : p.same s u) (h : keeps Foot.trialTo p = true) :
    p.same s (State.trialTo u a1) := by
  simp [Foot.trialTo, and_assoc] at h
  obtain ⟨h1, h2⟩ := h
  unfold State.trialTo
  repeat' first
    | with_reducible assumption | intro _ | with_reducible exact same_refl | with_reducible apply same_set
    | with_reducible apply same_flag | dsimp only

theorem same_trialLoad {p : Part} {s u : State} {a1 : Bool} (hu : p.same s u) (h : keeps Foot.trialLoad p = true) :
    p.same s (State.trialLoad u a1) := by
  simp [Foot.trialLoad, and_assoc] at h
  obtain ⟨h1, h2, h3, h4⟩ := h
  unfold State.trialLoad
  repeat' first
    | with_reducible assumption | intro _ | with_reducible exact same_refl | with_reducible apply same_trialOver
    | with_reducible apply same_editRetained | with_reducible apply same_trialTo | with_reducible apply same_startConfirm
    | with_reducible apply same_ite | with_reducible apply same_ite_fst | with_reducible apply same_ite_state | dsimp only
    | split

theorem same_stageWrite {p : Part} {s u : State} {a1 : Bool} {a2 : Nat} {a3 : List Byte} (hu : p.same s u) (h : keeps Foot.stageWrite p = true) :
    p.same s (State.stageWrite u a1 a2 a3) := by
  simp [Foot.stageWrite, and_assoc] at h
  obtain ⟨h1, h2, h3⟩ := h
  unfold State.stageWrite
  repeat' first
    | exact stagingWf_compress _ | with_reducible assumption | intro _ | with_reducible exact same_refl
    | with_reducible apply same_set | with_reducible apply same_ite | with_reducible apply off_ite | dsimp only | split
    | with_reducible apply same_with_staging

theorem same_commit {p : Part} {s u : State} {a1 : Bool} {a2 : Bool} {a3 : Nat} {a4 : Nat} (hu : p.same s u) (h : keeps Foot.commit p = true) :
    p.same s (State.commit u a1 a2 a3 a4).1 := by
  simp [Foot.commit, and_assoc] at h
  obtain ⟨h1, h2, h3, h4, h5⟩ := h
  unfold State.commit
  repeat' first
    | with_reducible assumption | intro _ | with_reducible exact same_refl | with_reducible apply same_set
    | with_reducible apply same_stageWrite | with_reducible apply same_startCommit | with_reducible apply same_ite
    | with_reducible apply same_ite_fst | with_reducible apply same_ite_state | dsimp only | split

theorem same_switchDefaults {p : Part} {s u : State}  (hu : p.same s u) (h : keeps Foot.switchDefaults p = true) :
    p.same s (State.switchDefaults u) := by
  simp [Foot.switchDefaults, and_assoc] at h
  obtain ⟨h1, h2, h3, h4, h5, h6, h7, h8, h9⟩ := h
  unfold State.switchDefaults
  repeat' first
    | with_reducible assumption | intro _ | with_reducible exact same_refl | with_reducible apply same_set
    | with_reducible apply same_flag | with_reducible apply same_switchTo | with_reducible apply same_storeRegs
    | with_reducible apply same_defaultsMarked | with_reducible apply same_trialOver | with_reducible apply same_cfgEventOf
    | dsimp only | with_reducible apply same_with_loaded | with_reducible apply same_with_target
    | with_reducible apply same_with_loaded_target

theorem same_cfgSwitch {p : Part} {s u : State}  (hu : p.same s u) (h : keeps Foot.cfgSwitch p = true) :
    p.same s (State.cfgSwitch u) := by
  simp [Foot.cfgSwitch, and_assoc] at h
  obtain ⟨h1, h2, h3, h4, h5, h6, h7, h8, h9, h10, h11, h12⟩ := h
  unfold State.cfgSwitch
  repeat' first
    | with_reducible assumption | intro _ | with_reducible exact same_refl | with_reducible apply same_flag
    | with_reducible apply same_iff | with_reducible apply same_set | with_reducible apply same_switchTo
    | with_reducible apply same_trialOver | with_reducible apply same_trialTo | with_reducible apply same_storeRegs
    | with_reducible apply same_judgeProfile | with_reducible apply same_cfgEventOf
    | with_reducible apply same_switchDefaults | with_reducible apply same_ite | with_reducible apply same_ite_fst
    | with_reducible apply same_ite_state | dsimp only | split | with_reducible apply same_with_loaded
    | with_reducible apply same_with_target | with_reducible apply same_with_loaded_target

theorem same_verify {p : Part} {s u : State}  (hu : p.same s u) (h : keeps Foot.verify p = true) :
    p.same s (State.verify u).1 := by
  simp [Foot.verify, and_assoc] at h
  obtain ⟨h1, h2, h3⟩ := h
  unfold State.verify
  repeat' first
    | with_reducible assumption | intro _ | with_reducible exact same_refl | with_reducible apply same_set
    | with_reducible apply same_ite | with_reducible apply same_ite_fst | with_reducible apply same_ite_state | dsimp only
    | split

end Sys2Proof.Machine.Part
end

