-- ==== Sys2Proof/Laws/SamePorts.lean ====
section
/-! SUPPORT. What the operations of Machine/Ports.lean leave as before: one lemma for each. -/

set_option linter.all false

namespace Sys2Proof.Machine.Part

theorem same_setHif {p : Part} {s u : State} {a1 : PortId} {a2 : Port} (hu : p.same s u) (h : keeps Foot.setHif p = true) :
    p.same s (State.setHif u a1 a2) := by
  simp [Foot.setHif, and_assoc] at h
  obtain ⟨h1, h2⟩ := h
  unfold State.setHif
  repeat' first
    | with_reducible assumption | intro _ | with_reducible exact same_refl | dsimp only | split
    | with_reducible apply same_with_tw | with_reducible apply same_with_qb

theorem same_hold {p : Part} {s u : State} {a1 : PortId} {a2 : List Byte} {a3 : List Nat} (hu : p.same s u) (h : keeps Foot.hold p = true) :
    p.same s (State.hold u a1 a2 a3) := by
  simp [Foot.hold, and_assoc] at h
  unfold State.hold
  repeat' first
    | with_reducible assumption | intro _ | with_reducible exact same_refl | with_reducible apply same_setHif | dsimp only

theorem same_putReply {p : Part} {s u : State} {a1 : PortId} {a2 : List Byte} {a3 : List Nat} (hu : p.same s u) (h : keeps Foot.putReply p = true) :
    p.same s (State.putReply u a1 a2 a3) := by
  simp [Foot.putReply, and_assoc] at h
  obtain ⟨h1, h2, h3⟩ := h
  unfold State.putReply
  repeat' first
    | (unfold lostReg; split <;> assumption) | (unfold truncReg; split <;> assumption) | with_reducible assumption | intro _
    | with_reducible exact same_refl | with_reducible apply same_inc | with_reducible apply same_hold
    | with_reducible apply same_ite | dsimp only | split

theorem same_autoServe {p : Part} {s u : State} {a0 : Nat} (hu : p.same s u) (h : keeps Foot.autoServe p = true) :
    p.same s (State.autoServe a0 u) := by
  simp [Foot.autoServe, and_assoc] at h
  obtain ⟨h1, h2⟩ := h
  induction a0 generalizing u with
  | zero => exact hu
  | succ n ih =>
    unfold State.autoServe
    repeat' first
      | with_reducible assumption
      | with_reducible exact same_refl
      | with_reducible apply ih
      | with_reducible apply same_putReply
      | split
      | with_reducible apply same_with_requests

theorem same_interpret {p : Part} {s u : State} {a1 : Request} {a2 : State → Answer} (hu : p.same s u) (h : keeps Foot.interpret p = true) (hf : ∀ v, p.same s v → p.same s (a2 v).state) :
    p.same s (State.interpret u a1 a2) := by
  simp [Foot.interpret, and_assoc] at h
  obtain ⟨h1, h2⟩ := h
  unfold State.interpret
  repeat' first
    | with_reducible apply hf | with_reducible assumption | intro _ | with_reducible exact same_refl
    | with_reducible apply same_putReply | with_reducible apply same_autoServe | with_reducible apply same_ite
    | with_reducible apply same_answers | dsimp only | split

theorem same_dropReply {p : Part} {s u : State} {a1 : PortId} (hu : p.same s u) (h : keeps Foot.dropReply p = true) :
    p.same s (State.dropReply u a1) := by
  simp [Foot.dropReply, and_assoc] at h
  obtain ⟨h1, h2, h3⟩ := h
  unfold State.dropReply
  repeat' first
    | (unfold lostReg; split <;> assumption) | (unfold truncReg; split <;> assumption) | with_reducible assumption | intro _
    | with_reducible exact same_refl | with_reducible apply same_inc | with_reducible apply same_setHif
    | with_reducible apply same_ite | dsimp only | split

theorem same_arrive {p : Part} {s u : State} {a1 : Request} (hu : p.same s u) (h : keeps Foot.arrive p = true) :
    p.same s (State.arrive u a1) := by
  simp [Foot.arrive, and_assoc] at h
  obtain ⟨h1, h2, h3⟩ := h
  unfold State.arrive
  repeat' first
    | with_reducible assumption | intro _ | with_reducible exact same_refl | with_reducible apply same_dropReply
    | with_reducible apply same_autoServe | dsimp only | with_reducible apply same_with_requests

theorem same_taken {p : Part} {s u : State} {a1 : Request} {a2 : State → Answer} (hu : p.same s u) (h : keeps Foot.taken p = true) (hf : ∀ v, p.same s v → p.same s (a2 v).state) :
    p.same s (State.taken u a1 a2) := by
  simp [Foot.taken, and_assoc] at h
  obtain ⟨h1, h2, h3⟩ := h
  unfold State.taken
  repeat' first
    | with_reducible apply hf | with_reducible assumption | intro _ | with_reducible exact same_refl
    | with_reducible apply same_interpret | with_reducible apply same_dropReply | with_reducible apply same_arrive
    | with_reducible apply same_ite | with_reducible apply same_answers | dsimp only | split

theorem same_awake {p : Part} {s u : State}  (hu : p.same s u) (h : keeps Foot.awake p = true) :
    p.same s (State.awake u) := by
  simp [Foot.awake, and_assoc] at h
  obtain ⟨h1, h2⟩ := h
  unfold State.awake
  repeat' first
    | with_reducible assumption | intro _ | with_reducible exact same_refl | with_reducible apply same_iff
    | with_reducible apply same_flag | with_reducible apply same_cause | dsimp only

theorem same_twNack {p : Part} {s u : State}  (hu : p.same s u) (h : keeps Foot.twNack p = true) :
    p.same s (State.twNack u) := by
  simp [Foot.twNack, and_assoc] at h
  obtain ⟨h1, h2, h3, h4, h5, h6⟩ := h
  unfold State.twNack
  repeat' first
    | with_reducible assumption | intro _ | with_reducible exact same_refl | with_reducible apply same_inc
    | with_reducible apply same_flag | with_reducible apply same_wake | with_reducible apply same_awake
    | with_reducible apply same_abortSlice | with_reducible apply same_cause | with_reducible apply same_ite
    | with_reducible apply off_ite | dsimp only | split

theorem same_serve {p : Part} {s u : State} {a1 : PortId} {a2 : Nat} {a3 : Byte} {a4 : List Byte} {a5 : State → Answer} (hu : p.same s u) (h : keeps Foot.serve p = true) (hf : ∀ v, p.same s v → p.same s (a5 v).state) :
    p.same s (State.serve u a1 a2 a3 a4 a5) := by
  simp [Foot.serve, and_assoc] at h
  obtain ⟨h1, h2, h3, h4, h5, h6⟩ := h
  unfold State.serve
  repeat' first
    | with_reducible apply hf | with_reducible assumption | intro _ | with_reducible exact same_refl
    | with_reducible apply same_interpret | with_reducible apply same_abortSlice | with_reducible apply same_taken
    | with_reducible apply same_awake | with_reducible apply same_twNack | with_reducible apply same_ite
    | with_reducible apply same_answers | dsimp only | split | with_reducible apply same_with_requests

theorem same_rewind {p : Part} {s u : State} {a1 : PortId} (hu : p.same s u) (h : keeps Foot.rewind p = true) :
    p.same s (State.rewind u a1) := by
  simp [Foot.rewind, and_assoc] at h
  unfold State.rewind
  repeat' first
    | with_reducible assumption | intro _ | with_reducible exact same_refl | with_reducible apply same_setHif
    | with_reducible apply same_ite | dsimp only | split

theorem same_truncated {p : Part} {s u : State} {a1 : PortId} {a2 : Nat} (hu : p.same s u) (h : keeps Foot.truncated p = true) :
    p.same s (State.truncated u a1 a2) := by
  simp [Foot.truncated, and_assoc] at h
  obtain ⟨h1, h2, h3⟩ := h
  unfold State.truncated
  repeat' first
    | (unfold lostReg; split <;> assumption) | (unfold truncReg; split <;> assumption) | with_reducible assumption | intro _
    | with_reducible exact same_refl | with_reducible apply same_inc | with_reducible apply same_hold | dsimp only

theorem same_popRecords {p : Part} {s u : State} {a1 : List Nat} (hu : p.same s u) (h : keeps Foot.popRecords p = true) :
    p.same s (State.popRecords u a1) := by
  simp [Foot.popRecords, and_assoc] at h
  obtain ⟨h1, h2, h3, h4⟩ := h
  unfold State.popRecords
  repeat' first
    | with_reducible assumption | intro _ | with_reducible exact same_refl | with_reducible apply same_each
    | with_reducible apply same_followAlert | with_reducible apply same_freeSlots | with_reducible apply same_alertFollow
    | with_reducible apply same_ite | with_reducible apply same_ite_fst | with_reducible apply same_ite_state
    | with_reducible apply off_ite | dsimp only | split | with_reducible apply same_with_slots

theorem same_readOut {p : Part} {s u : State} {a1 : PortId} {a2 : Nat} {a3 : Nat} (hu : p.same s u) (h : keeps Foot.readOut p = true) :
    p.same s (State.readOut u a1 a2 a3) := by
  simp [Foot.readOut, and_assoc] at h
  obtain ⟨h1, h2, h3⟩ := h
  unfold State.readOut
  repeat' first
    | with_reducible assumption | intro _ | with_reducible exact same_refl | with_reducible apply same_popRecords
    | with_reducible apply same_setHif | with_reducible apply same_ite | dsimp only | split
    | with_reducible apply same_with_driven

theorem same_packet {p : Part} {s u : State} {a1 : PortId} {a2 : List Byte} (hu : p.same s u) (h : keeps Foot.packet p = true) :
    p.same s (State.packet u a1 a2) := by
  simp [Foot.packet, and_assoc] at h
  obtain ⟨h1, h2⟩ := h
  unfold State.packet
  repeat' first
    | with_reducible assumption | intro _ | with_reducible exact same_refl | with_reducible apply same_truncated
    | with_reducible apply same_arrive | with_reducible apply same_ite | with_reducible apply off_ite | dsimp only | split

end Sys2Proof.Machine.Part
end

