-- ==== Sys2Proof/Laws/SameJournal.lean ====
section
/-! SUPPORT. What the operations of Machine/Journal.lean leave as before: one lemma for each. -/

set_option linter.all false

namespace Sys2Proof.Machine.Part

theorem same_execEraseSliceEnd {p : Part} {s u : State}  (hu : p.same s u) (h : keeps Foot.execEraseSliceEnd p = true) :
    ∃ t, execEraseSliceEnd u = .next t ∧ p.same s t := by
  simp [Foot.execEraseSliceEnd, and_assoc] at h
  refine ⟨_, rfl, ?_⟩
  repeat' first
    | with_reducible assumption | intro _ | with_reducible exact same_refl | with_reducible apply same_suspendErase
    | dsimp only

theorem same_storeErased {p : Part} {s u : State} {a1 : Bool} (hu : p.same s u) (h : keeps Foot.storeErased p = true) :
    p.same s (State.storeErased u a1) := by
  simp [Foot.storeErased, and_assoc] at h
  obtain ⟨h1, h2⟩ := h
  unfold State.storeErased
  repeat' first
    | with_reducible assumption | intro _ | with_reducible exact same_refl | with_reducible apply same_stepEraseFailed
    | with_reducible apply same_stepComplete | with_reducible apply same_ite | with_reducible apply off_ite | dsimp only
    | split

theorem same_programFailed {p : Part} {s u : State}  (hu : p.same s u) (h : keeps Foot.programFailed p = true) :
    p.same s (State.programFailed u) := by
  simp [Foot.programFailed, and_assoc] at h
  obtain ⟨h1, h2, h3, h4, h5⟩ := h
  unfold State.programFailed
  repeat' first
    | with_reducible assumption | intro _ | with_reducible exact same_refl | with_reducible apply same_latch
    | with_reducible apply same_saveRetained | with_reducible apply same_takeBlock | with_reducible apply same_growBad
    | dsimp only | with_reducible apply same_with_program

theorem same_storeProgrammed {p : Part} {s u : State} {a1 : Bool} (hu : p.same s u) (h : keeps Foot.storeProgrammed p = true) :
    p.same s (State.storeProgrammed u a1) := by
  simp [Foot.storeProgrammed, and_assoc] at h
  obtain ⟨h1, h2, h3⟩ := h
  unfold State.storeProgrammed
  repeat' first
    | with_reducible assumption | intro _ | with_reducible exact same_refl | with_reducible apply same_stepFailed
    | with_reducible apply same_stepComplete | with_reducible apply same_ite | dsimp only | split
    | with_reducible apply same_with_program

theorem same_ringErased {p : Part} {s u : State} {a1 : Nat} {a2 : Bool} (hu : p.same s u) (h : keeps Foot.ringErased p = true) :
    p.same s (State.ringErased u a1 a2) := by
  simp [Foot.ringErased, and_assoc] at h
  obtain ⟨h1, h2, h3, h4, h5⟩ := h
  unfold State.ringErased
  repeat' first
    | with_reducible assumption | intro _ | with_reducible exact same_refl | with_reducible apply same_latch
    | with_reducible apply same_saveRetained | with_reducible apply same_reErased | with_reducible apply same_growBad
    | with_reducible apply same_blockErased | with_reducible apply same_ite | dsimp only | split

theorem same_execGreenFillTimeout {p : Part} {s u : State}  (hu : p.same s u) (h : keeps Foot.execGreenFillTimeout p = true) :
    ∃ t, execGreenFillTimeout u = .next t ∧ p.same s t := by
  simp [Foot.execGreenFillTimeout, and_assoc] at h
  refine ⟨_, rfl, ?_⟩
  repeat' first
    | with_reducible assumption | intro _ | with_reducible exact same_refl | with_reducible apply same_startProgram
    | dsimp only

theorem same_execSectorProgramComplete {p : Part} {s u : State} {a0 : Bool} (hu : p.same s u) (h : keeps Foot.execSectorProgramComplete p = true) :
    ∃ t, execSectorProgramComplete a0 u = .next t ∧ p.same s t := by
  simp [Foot.execSectorProgramComplete, and_assoc] at h
  obtain ⟨h1, h2, h3⟩ := h
  refine ⟨_, rfl, ?_⟩
  repeat' first
    | with_reducible assumption | intro _ | with_reducible exact same_refl | with_reducible apply same_dieFollow
    | with_reducible apply same_programFailed | with_reducible apply same_commitSector | with_reducible apply same_ite
    | with_reducible apply off_ite | dsimp only | split

theorem same_execStoreProgramComplete {p : Part} {s u : State} {a0 : Bool} (hu : p.same s u) (h : keeps Foot.execStoreProgramComplete p = true) :
    ∃ t, execStoreProgramComplete a0 u = .next t ∧ p.same s t := by
  simp [Foot.execStoreProgramComplete, and_assoc] at h
  obtain ⟨h1, h2, h3⟩ := h
  refine ⟨_, rfl, ?_⟩
  repeat' first
    | with_reducible assumption | intro _ | with_reducible exact same_refl | with_reducible apply same_startStoreProgram
    | with_reducible apply same_dieFollow | with_reducible apply same_storeProgrammed | with_reducible apply same_ite
    | dsimp only | split

theorem same_eraseSlice {p : Part} {s u : State}  (hu : p.same s u) (h : keeps Foot.eraseSlice p = true) :
    p.same s (State.eraseSlice u) := by
  simp [Foot.eraseSlice, and_assoc] at h
  obtain ⟨h1, h2, h3, h4⟩ := h
  unfold State.eraseSlice
  repeat' first
    | with_reducible assumption | intro _ | with_reducible exact same_refl | with_reducible apply same_flag
    | with_reducible apply same_dieFollow | with_reducible apply same_ite | with_reducible apply same_ite_fst
    | with_reducible apply same_ite_state | dsimp only | split | with_reducible apply same_with_erase

theorem same_execEraseSliceStart {p : Part} {s u : State}  (hu : p.same s u) (h : keeps Foot.execEraseSliceStart p = true) :
    ∃ t, execEraseSliceStart u = .next t ∧ p.same s t := by
  simp [Foot.execEraseSliceStart, and_assoc] at h
  refine ⟨_, rfl, ?_⟩
  repeat' first
    | with_reducible assumption | intro _ | with_reducible exact same_refl | with_reducible apply same_eraseSlice
    | with_reducible apply same_ite | with_reducible apply off_ite | dsimp only | split

theorem same_execSectorProgramStart {p : Part} {s u : State}  (hu : p.same s u) (h : keeps Foot.execSectorProgramStart p = true) :
    ∃ t, execSectorProgramStart u = .next t ∧ p.same s t := by
  simp [Foot.execSectorProgramStart, and_assoc] at h
  refine ⟨_, rfl, ?_⟩
  repeat' first
    | with_reducible assumption | intro _ | with_reducible exact same_refl | with_reducible apply same_startProgram
    | with_reducible apply same_ite | with_reducible apply off_ite | dsimp only | split

theorem same_execCfgSwitch {p : Part} {s u : State}  (hu : p.same s u) (h : keeps Foot.execCfgSwitch p = true) :
    ∃ t, execCfgSwitch u = .next t ∧ p.same s t := by
  simp [Foot.execCfgSwitch, and_assoc] at h
  refine ⟨_, rfl, ?_⟩
  repeat' first
    | with_reducible assumption | intro _ | with_reducible exact same_refl | with_reducible apply same_cfgSwitch
    | with_reducible apply same_ite | with_reducible apply off_ite | dsimp only | split

theorem same_execTrialExpire {p : Part} {s u : State}  (hu : p.same s u) (h : keeps Foot.execTrialExpire p = true) :
    ∃ t, execTrialExpire u = .next t ∧ p.same s t := by
  simp [Foot.execTrialExpire, and_assoc] at h
  refine ⟨_, rfl, ?_⟩
  repeat' first
    | with_reducible assumption | intro _ | with_reducible exact same_refl | with_reducible apply same_startConfirm
    | with_reducible apply same_ite | with_reducible apply off_ite | dsimp only | split

theorem same_execEraseComplete {p : Part} {s u : State} {a0 : Bool} (hu : p.same s u) (h : keeps Foot.execEraseComplete p = true) :
    ∃ t, execEraseComplete a0 u = .next t ∧ p.same s t := by
  simp [Foot.execEraseComplete, and_assoc] at h
  obtain ⟨h1, h2, h3, h4⟩ := h
  refine ⟨_, rfl, ?_⟩
  repeat' first
    | with_reducible assumption | intro _ | with_reducible exact same_refl | with_reducible apply same_dieFollow
    | with_reducible apply same_storeErased | with_reducible apply same_eraseOver | with_reducible apply same_ringErased
    | with_reducible apply same_ite | with_reducible apply off_ite | dsimp only | split

end Sys2Proof.Machine.Part
end

