-- ==== Sys2Proof/Laws/SameHostPorts.lean ====
section
/-! SUPPORT. What the operations of Machine/HostPorts.lean leave as before: one lemma for each. -/

set_option linter.all false

namespace Sys2Proof.Machine.Part

theorem same_busClear {p : Part} {s u : State} {a1 : Bool} (hu : p.same s u) (h : keeps Foot.busClear p = true) :
    p.same s (State.busClear u a1) := by
  simp [Foot.busClear, and_assoc] at h
  obtain ⟨h1, h2⟩ := h
  unfold State.busClear
  repeat' first
    | with_reducible assumption | intro _ | with_reducible exact same_refl | with_reducible apply same_iff
    | with_reducible apply same_latch | with_reducible apply same_ended | with_reducible apply same_ite
    | with_reducible apply same_ite_fst | with_reducible apply same_ite_state | dsimp only | split

theorem same_execBusClearRetry {p : Part} {s u : State} {a0 : Bool} (hu : p.same s u) (h : keeps Foot.execBusClearRetry p = true) :
    ∃ t, execBusClearRetry a0 u = .next t ∧ p.same s t := by
  simp [Foot.execBusClearRetry, and_assoc] at h
  refine ⟨_, rfl, ?_⟩
  repeat' first
    | with_reducible assumption | intro _ | with_reducible exact same_refl | with_reducible apply same_busClear
    | with_reducible apply same_ite | with_reducible apply off_ite | dsimp only | split

theorem same_twTransaction {p : Part} {s u : State} {a1 : State → State} (hu : p.same s u) (h : keeps Foot.twTransaction p = true) (hf : ∀ v, p.same s v → p.same s (a1 v)) :
    p.same s (State.twTransaction u a1) := by
  simp [Foot.twTransaction, and_assoc] at h
  obtain ⟨h1, h2, h3⟩ := h
  unfold State.twTransaction
  repeat' first
    | with_reducible apply hf | with_reducible assumption | intro _ | with_reducible exact same_refl
    | with_reducible apply same_ended | with_reducible apply same_awake | with_reducible apply same_twNack
    | with_reducible apply same_ite | dsimp only | split

theorem same_execTwPointerReset {p : Part} {s u : State}  (hu : p.same s u) (h : keeps Foot.execTwPointerReset p = true) :
    ∃ t, execTwPointerReset u = .next t ∧ p.same s t := by
  simp [Foot.execTwPointerReset, and_assoc] at h
  obtain ⟨h1, h2⟩ := h
  refine ⟨_, rfl, ?_⟩
  repeat' first
    | with_reducible assumption | intro _ | with_reducible exact same_refl | with_reducible apply same_twTransaction
    | with_reducible apply same_rewind | dsimp only

theorem same_execHrstnRelease {p : Part} {s u : State}  (hu : p.same s u) (h : keeps Foot.execHrstnRelease p = true) :
    ∃ t, execHrstnRelease u = .next t ∧ p.same s t := by
  simp [Foot.execHrstnRelease, and_assoc] at h
  obtain ⟨h1, h2, h3⟩ := h
  refine ⟨_, rfl, ?_⟩
  repeat' first
    | with_reducible assumption | intro _ | with_reducible exact same_refl | with_reducible apply same_flag
    | with_reducible apply same_hrstnFollow | with_reducible apply same_guardTasks | with_reducible apply same_ite
    | with_reducible apply same_ite_fst | with_reducible apply same_ite_state | with_reducible apply off_ite | dsimp only
    | split

theorem same_execHostNotifyAttempt {p : Part} {s u : State} {a0 : Bool} (hu : p.same s u) (h : keeps Foot.execHostNotifyAttempt p = true) :
    ∃ t, execHostNotifyAttempt a0 u = .next t ∧ p.same s t := by
  simp [Foot.execHostNotifyAttempt, and_assoc] at h
  obtain ⟨h1, h2, h3, h4, h5, h6, h7, h8⟩ := h
  refine ⟨_, rfl, ?_⟩
  repeat' first
    | with_reducible assumption | intro _ | with_reducible exact same_refl | with_reducible apply same_clear
    | with_reducible apply same_flag | with_reducible apply same_inc | with_reducible apply same_set
    | with_reducible apply same_latch | with_reducible apply same_ended | with_reducible apply same_ite
    | with_reducible apply same_ite_fst | with_reducible apply same_ite_state | with_reducible apply off_ite | dsimp only
    | split | with_reducible apply same_with_driven

theorem same_execTwReadReply {p : Part} {s u : State} {a0 : Nat} {a1 : Bool} (hu : p.same s u) (h : keeps Foot.execTwReadReply p = true) :
    ∃ t, execTwReadReply a0 a1 u = .next t ∧ p.same s t := by
  simp [Foot.execTwReadReply, and_assoc] at h
  obtain ⟨h1, h2⟩ := h
  refine ⟨_, rfl, ?_⟩
  repeat' first
    | with_reducible assumption | intro _ | with_reducible exact same_refl | with_reducible apply same_twTransaction
    | with_reducible apply same_readOut | with_reducible apply same_ite | with_reducible apply same_ite_fst
    | with_reducible apply same_ite_state | dsimp only | split

theorem same_execTwWriteRequest {p : Part} {s u : State} {a0 : List Byte} (hu : p.same s u) (h : keeps Foot.execTwWriteRequest p = true) :
    ∃ t, execTwWriteRequest a0 u = .next t ∧ p.same s t := by
  simp [Foot.execTwWriteRequest, and_assoc] at h
  obtain ⟨h1, h2, h3⟩ := h
  refine ⟨_, rfl, ?_⟩
  repeat' first
    | with_reducible assumption | intro _ | with_reducible exact same_refl | with_reducible apply same_twTransaction
    | with_reducible apply same_rewind | with_reducible apply same_packet | with_reducible apply same_ite
    | with_reducible apply same_ite_fst | with_reducible apply same_ite_state | dsimp only | split

theorem same_execHrstnExternalLow {p : Part} {s u : State}  (hu : p.same s u) (h : keeps Foot.execHrstnExternalLow p = true) :
    ∃ t, execHrstnExternalLow u = .next t ∧ p.same s t := by
  simp [Foot.execHrstnExternalLow, and_assoc] at h
  obtain ⟨h1, h2, h3⟩ := h
  refine ⟨_, rfl, ?_⟩
  repeat' first
    | with_reducible assumption | intro _ | with_reducible exact same_refl | with_reducible apply same_flag
    | with_reducible apply same_inc | with_reducible apply same_hrstnFollow | with_reducible apply same_ite
    | with_reducible apply off_ite | dsimp only | split

theorem same_qbTransaction {p : Part} {s u : State} {a1 : Bool} {a2 : Nat} {a3 : State → State} (hu : p.same s u) (h : keeps Foot.qbTransaction p = true) (hf : ∀ v, p.same s v → p.same s (a3 v)) :
    p.same s (State.qbTransaction u a1 a2 a3) := by
  simp [Foot.qbTransaction, and_assoc] at h
  obtain ⟨h1, h2, h3⟩ := h
  unfold State.qbTransaction
  repeat' first
    | with_reducible apply hf | with_reducible assumption | intro _ | with_reducible exact same_refl
    | with_reducible apply same_flag | with_reducible apply same_awake | with_reducible apply same_ite | dsimp only | split
    | with_reducible apply same_with_driven

theorem same_execBulkInvalidInstruction {p : Part} {s u : State} {a0 : Bool} (hu : p.same s u) (h : keeps Foot.execBulkInvalidInstruction p = true) :
    ∃ t, execBulkInvalidInstruction a0 u = .next t ∧ p.same s t := by
  simp [Foot.execBulkInvalidInstruction, and_assoc] at h
  obtain ⟨h1, h2⟩ := h
  refine ⟨_, rfl, ?_⟩
  repeat' first
    | with_reducible assumption | intro _ | with_reducible exact same_refl | with_reducible apply same_latch
    | with_reducible apply same_qbTransaction | dsimp only

theorem same_execReadStatus {p : Part} {s u : State} {a0 : Bool} (hu : p.same s u) (h : keeps Foot.execReadStatus p = true) :
    ∃ t, execReadStatus a0 u = .next t ∧ p.same s t := by
  simp [Foot.execReadStatus, and_assoc] at h
  obtain ⟨h1, h2⟩ := h
  refine ⟨_, rfl, ?_⟩
  repeat' first
    | with_reducible assumption | intro _ | with_reducible exact same_refl | with_reducible apply same_qbTransaction
    | dsimp only | with_reducible apply same_with_driven

theorem same_execReadReply {p : Part} {s u : State} {a0 : Nat} {a1 : Bool} (hu : p.same s u) (h : keeps Foot.execReadReply p = true) :
    ∃ t, execReadReply a0 a1 u = .next t ∧ p.same s t := by
  simp [Foot.execReadReply, and_assoc] at h
  obtain ⟨h1, h2⟩ := h
  refine ⟨_, rfl, ?_⟩
  repeat' first
    | with_reducible assumption | intro _ | with_reducible exact same_refl | with_reducible apply same_qbTransaction
    | with_reducible apply same_readOut | dsimp only

theorem same_execWritePacket {p : Part} {s u : State} {a0 : List Byte} {a1 : Bool} {a2 : Bool} (hu : p.same s u) (h : keeps Foot.execWritePacket p = true) :
    ∃ t, execWritePacket a0 a1 a2 u = .next t ∧ p.same s t := by
  simp [Foot.execWritePacket, and_assoc] at h
  obtain ⟨h1, h2, h3, h4⟩ := h
  refine ⟨_, rfl, ?_⟩
  repeat' first
    | with_reducible assumption | intro _ | with_reducible exact same_refl | with_reducible apply same_qbTransaction
    | with_reducible apply same_truncated | with_reducible apply same_packet | with_reducible apply same_abortSlice
    | with_reducible apply same_ite | with_reducible apply same_ite_fst | with_reducible apply same_ite_state | dsimp only
    | split

theorem same_execTwAddressNack {p : Part} {s u : State}  (hu : p.same s u) (h : keeps Foot.execTwAddressNack p = true) :
    ∃ t, execTwAddressNack u = .next t ∧ p.same s t := by
  simp [Foot.execTwAddressNack, and_assoc] at h
  refine ⟨_, rfl, ?_⟩
  repeat' first
    | with_reducible assumption | intro _ | with_reducible exact same_refl | with_reducible apply same_twNack
    | with_reducible apply same_ite | with_reducible apply off_ite | dsimp only | split

theorem same_execSdaStuck {p : Part} {s u : State} {a0 : Bool} (hu : p.same s u) (h : keeps Foot.execSdaStuck p = true) :
    ∃ t, execSdaStuck a0 u = .next t ∧ p.same s t := by
  simp [Foot.execSdaStuck, and_assoc] at h
  obtain ⟨h1, h2⟩ := h
  refine ⟨_, rfl, ?_⟩
  repeat' first
    | with_reducible assumption | intro _ | with_reducible exact same_refl | with_reducible apply same_latchStand
    | with_reducible apply same_busClear | with_reducible apply same_ite | with_reducible apply off_ite | dsimp only | split

theorem same_execRewind {p : Part} {s u : State} {a0 : Bool} (hu : p.same s u) (h : keeps Foot.execRewind p = true) :
    ∃ t, execRewind a0 u = .next t ∧ p.same s t := by
  simp [Foot.execRewind, and_assoc] at h
  obtain ⟨h1, h2⟩ := h
  refine ⟨_, rfl, ?_⟩
  repeat' first
    | with_reducible assumption | intro _ | with_reducible exact same_refl | with_reducible apply same_qbTransaction
    | with_reducible apply same_rewind | dsimp only

theorem same_execSclTimeout {p : Part} {s u : State} {a0 : Bool} {a1 : Byte} (hu : p.same s u) (h : keeps Foot.execSclTimeout p = true) :
    ∃ t, execSclTimeout a0 a1 u = .next t ∧ p.same s t := by
  simp [Foot.execSclTimeout, and_assoc] at h
  obtain ⟨h1, h2, h3⟩ := h
  refine ⟨_, rfl, ?_⟩
  repeat' first
    | with_reducible assumption | intro _ | with_reducible exact same_refl | with_reducible apply same_iff
    | with_reducible apply same_latch | with_reducible apply same_truncated | with_reducible apply same_awake
    | with_reducible apply same_ite | with_reducible apply same_ite_fst | with_reducible apply same_ite_state
    | with_reducible apply off_ite | dsimp only | split

end Sys2Proof.Machine.Part
end

