-- ==== Sys2Proof/Laws/SameModes.lean ====
section
/-! SUPPORT. What the operations of Machine/Modes.lean leave as before: one lemma for each. -/

set_option linter.all false

namespace Sys2Proof.Machine.Part

theorem same_owedSnap {p : Part} {s u : State}  (hu : p.same s u) (h : keeps Foot.owedSnap p = true) :
    p.same s (State.owedSnap u) := by
  simp [Foot.owedSnap, and_assoc] at h
  obtain ⟨h1, h2⟩ := h
  unfold State.owedSnap
  repeat' first
    | with_reducible assumption | intro _ | with_reducible exact same_refl | with_reducible apply same_flag
    | with_reducible apply same_snapshot | with_reducible apply same_ite | dsimp only | split

theorem same_hourSnap {p : Part} {s u : State}  (hu : p.same s u) (h : keeps Foot.hourSnap p = true) :
    p.same s (State.hourSnap u) := by
  simp [Foot.hourSnap, and_assoc] at h
  obtain ⟨h1, h2⟩ := h
  unfold State.hourSnap
  repeat' first
    | with_reducible assumption | intro _ | with_reducible exact same_refl | with_reducible apply same_flag
    | with_reducible apply same_owedSnap | with_reducible apply same_ite | dsimp only | split

theorem same_execHourBoundary {p : Part} {s u : State}  (hu : p.same s u) (h : keeps Foot.execHourBoundary p = true) :
    ∃ t, execHourBoundary u = .next t ∧ p.same s t := by
  simp [Foot.execHourBoundary, and_assoc] at h
  obtain ⟨h1, h2, h3, h4⟩ := h
  refine ⟨_, rfl, ?_⟩
  repeat' first
    | with_reducible assumption | intro _ | with_reducible exact same_refl | with_reducible apply same_flag
    | with_reducible apply same_hourSnap | with_reducible apply same_intervalUpdate | with_reducible apply same_ite
    | with_reducible apply off_ite | dsimp only | split

theorem same_safeRecord {p : Part} {s u : State}  (hu : p.same s u) (h : keeps Foot.safeRecord p = true) :
    p.same s (State.safeRecord u) := by
  simp [Foot.safeRecord, and_assoc] at h
  obtain ⟨h1, h2, h3⟩ := h
  unfold State.safeRecord
  repeat' first
    | with_reducible assumption | intro _ | with_reducible exact same_refl | with_reducible apply same_flag
    | with_reducible apply same_wdtEventAt | with_reducible apply same_wdtEvent | with_reducible apply same_ite
    | with_reducible apply off_ite | dsimp only | split

theorem same_safeActions {p : Part} {s u : State}  (hu : p.same s u) (h : keeps Foot.safeActions p = true) :
    p.same s (State.safeActions u) := by
  simp [Foot.safeActions, and_assoc] at h
  obtain ⟨h1, h2, h3, h4, h5, h6, h7⟩ := h
  unfold State.safeActions
  repeat' first
    | with_reducible assumption | intro _ | with_reducible exact same_refl | with_reducible apply same_each
    | with_reducible apply same_flag | with_reducible apply same_chgStopNow | with_reducible apply same_railsKill
    | with_reducible apply same_portOff | with_reducible apply same_abortSlice | with_reducible apply same_dropCeilings
    | with_reducible apply same_stopVaux | dsimp only

theorem same_leaveService {p : Part} {s u : State}  (hu : p.same s u) (h : keeps Foot.leaveService p = true) :
    p.same s (State.leaveService u).1 := by
  simp [Foot.leaveService, and_assoc] at h
  obtain ⟨h1, h2⟩ := h
  unfold State.leaveService
  repeat' first
    | with_reducible assumption | intro _ | with_reducible exact same_refl | with_reducible apply same_flag
    | with_reducible apply same_cause | with_reducible apply same_ite | with_reducible apply same_ite_fst
    | with_reducible apply same_ite_state | dsimp only | split

theorem same_wakeLen {p : Part} {s u : State}  (hu : p.same s u) (h : keeps Foot.wakeLen p = true) :
    p.same s (State.wakeLen u) := by
  simp [Foot.wakeLen, and_assoc] at h
  obtain ⟨h1, h2⟩ := h
  unfold State.wakeLen
  repeat' first
    | with_reducible assumption | intro _ | with_reducible exact same_refl | with_reducible apply same_flag
    | with_reducible apply same_set | dsimp only

theorem same_wakeRestart {p : Part} {s u : State}  (hu : p.same s u) (h : keeps Foot.wakeRestart p = true) :
    p.same s (State.wakeRestart u) := by
  simp [Foot.wakeRestart, and_assoc] at h
  obtain ⟨h1, h2⟩ := h
  unfold State.wakeRestart
  repeat' first
    | with_reducible assumption | intro _ | with_reducible exact same_refl | with_reducible apply same_set
    | with_reducible apply same_wakeLen | dsimp only

theorem same_execGraceExpire {p : Part} {s u : State}  (hu : p.same s u) (h : keeps Foot.execGraceExpire p = true) :
    ∃ t, execGraceExpire u = .next t ∧ p.same s t := by
  simp [Foot.execGraceExpire, and_assoc] at h
  obtain ⟨h1, h2⟩ := h
  refine ⟨_, rfl, ?_⟩
  repeat' first
    | with_reducible assumption | intro _ | with_reducible exact same_refl | with_reducible apply same_cause
    | with_reducible apply same_stopGrace | with_reducible apply same_ite | with_reducible apply off_ite | dsimp only
    | split

theorem same_demandFollow {p : Part} {s u : State}  (hu : p.same s u) (h : keeps Foot.demandFollow p = true) :
    p.same s (State.demandFollow u) := by
  simp [Foot.demandFollow, and_assoc] at h
  obtain ⟨h1, h2, h3, h4, h5, h6⟩ := h
  unfold State.demandFollow
  repeat' first
    | with_reducible assumption | intro _ | with_reducible exact same_refl | with_reducible apply same_flag
    | with_reducible apply same_hrstnFollow | with_reducible apply same_demandOn | with_reducible apply same_guardInternal
    | with_reducible apply same_demandOff | with_reducible apply same_ite | dsimp only | split

theorem same_modeTerms {p : Part} {s u : State}  (hu : p.same s u) (h : keeps Foot.modeTerms p = true) :
    p.same s (State.modeTerms u) := by
  simp [Foot.modeTerms, and_assoc] at h
  obtain ⟨h1, h2⟩ := h
  unfold State.modeTerms
  repeat' first
    | with_reducible assumption | intro _ | with_reducible exact same_refl | with_reducible apply same_flag
    | with_reducible apply same_demandFollow | dsimp only

theorem same_wakeDone {p : Part} {s u : State}  (hu : p.same s u) (h : keeps Foot.wakeDone p = true) :
    p.same s (State.wakeDone u) := by
  simp [Foot.wakeDone, and_assoc] at h
  obtain ⟨h1, h2⟩ := h
  unfold State.wakeDone
  repeat' first
    | with_reducible assumption | intro _ | with_reducible exact same_refl | with_reducible apply same_iff
    | with_reducible apply same_wakeEnd | with_reducible apply same_wakeLen | dsimp only

theorem same_modeEntry {p : Part} {s u : State} {a1 : Nat} {a2 : Nat} (hu : p.same s u) (h : keeps Foot.modeEntry p = true) :
    p.same s (State.modeEntry u a1 a2) := by
  simp [Foot.modeEntry, and_assoc] at h
  obtain ⟨h1, h2, h3, h4, h5, h6, h7⟩ := h
  unfold State.modeEntry
  repeat' first
    | with_reducible assumption | intro _ | with_reducible exact same_refl | with_reducible apply same_iff
    | with_reducible apply same_flag | with_reducible apply same_set | with_reducible apply same_safeActions
    | with_reducible apply same_wakeBegin | with_reducible apply same_wakeRestart | with_reducible apply same_intervalUpdate
    | with_reducible apply same_wakeDone | dsimp only | split

theorem same_deadFollow {p : Part} {s u : State} {a1 : Nat} {a2 : Nat} (hu : p.same s u) (h : keeps Foot.deadFollow p = true) :
    p.same s (State.deadFollow u a1 a2) := by
  simp [Foot.deadFollow, and_assoc] at h
  unfold State.deadFollow
  repeat' first
    | with_reducible assumption | intro _ | with_reducible exact same_refl | with_reducible apply same_iff
    | with_reducible apply same_chgQualify | dsimp only | split

theorem same_modeSnap {p : Part} {s u : State} {a1 : Nat} (hu : p.same s u) (h : keeps Foot.modeSnap p = true) :
    p.same s (State.modeSnap u a1) := by
  simp [Foot.modeSnap, and_assoc] at h
  obtain ⟨h1, h2, h3, h4⟩ := h
  unfold State.modeSnap
  repeat' first
    | with_reducible assumption | intro _ | with_reducible exact same_refl | with_reducible apply same_flag
    | with_reducible apply same_set | with_reducible apply same_snapshot | with_reducible apply same_ite
    | with_reducible apply off_ite | dsimp only | split

theorem same_modeNote {p : Part} {s u : State} {a1 : Nat} {a2 : Nat} {a3 : Nat} (hu : p.same s u) (h : keeps Foot.modeNote p = true) :
    p.same s (State.modeNote u a1 a2 a3) := by
  simp [Foot.modeNote, and_assoc] at h
  unfold State.modeNote
  repeat' first
    | with_reducible assumption | intro _ | with_reducible exact same_refl | with_reducible apply same_record | dsimp only

theorem same_modeWrite {p : Part} {s u : State} {a1 : Nat} {a2 : Nat} {a3 : Nat} (hu : p.same s u) (h : keeps Foot.modeWrite p = true) :
    p.same s (State.modeWrite u a1 a2 a3) := by
  simp [Foot.modeWrite, and_assoc] at h
  obtain ⟨h1, h2⟩ := h
  unfold State.modeWrite
  repeat' first
    | with_reducible assumption | intro _ | with_reducible exact same_refl | with_reducible apply same_modeSnap
    | with_reducible apply same_modeNote | dsimp only

theorem same_modeStamp {p : Part} {s u : State} {a1 : Nat} (hu : p.same s u) (h : keeps Foot.modeStamp p = true) :
    p.same s (State.modeStamp u a1) := by
  simp [Foot.modeStamp, and_assoc] at h
  obtain ⟨h1, h2⟩ := h
  unfold State.modeStamp
  repeat' first
    | with_reducible assumption | intro _ | with_reducible exact same_refl | with_reducible apply same_set | dsimp only

theorem same_modeRecord {p : Part} {s u : State} {a1 : Nat} {a2 : Nat} {a3 : Nat} (hu : p.same s u) (h : keeps Foot.modeRecord p = true) :
    p.same s (State.modeRecord u a1 a2 a3) := by
  simp [Foot.modeRecord, and_assoc] at h
  obtain ⟨h1, h2⟩ := h
  unfold State.modeRecord
  repeat' first
    | with_reducible assumption | intro _ | with_reducible exact same_refl | with_reducible apply same_modeWrite
    | with_reducible apply same_modeStamp | dsimp only

theorem same_changeMode {p : Part} {s u : State} {a1 : Nat} {a2 : Nat} (hu : p.same s u) (h : keeps Foot.changeMode p = true) :
    p.same s (State.changeMode u a1 a2) := by
  simp [Foot.changeMode, and_assoc] at h
  obtain ⟨h1, h2, h3, h4, h5, h6, h7⟩ := h
  unfold State.changeMode
  repeat' first
    | with_reducible assumption | intro _ | with_reducible exact same_refl | with_reducible apply same_set
    | with_reducible apply same_iff | with_reducible apply same_modeEntry | with_reducible apply same_sleepCredit
    | with_reducible apply same_deadFollow | with_reducible apply same_modeRecord | with_reducible apply same_safeRecord
    | dsimp only

theorem same_sameMode {p : Part} {s u : State} {a1 : List Nat} (hu : p.same s u) (h : keeps Foot.sameMode p = true) :
    p.same s (State.sameMode u a1) := by
  simp [Foot.sameMode, and_assoc] at h
  obtain ⟨h1, h2⟩ := h
  unfold State.sameMode
  repeat' first
    | with_reducible assumption | intro _ | with_reducible exact same_refl | with_reducible apply same_modeNote
    | with_reducible apply same_modeStamp | with_reducible apply same_ite | with_reducible apply same_foldl
    | with_reducible apply same_ite_fst | with_reducible apply same_ite_state | dsimp only | split

theorem same_modeFollow {p : Part} {s u : State}  (hu : p.same s u) (h : keeps Foot.modeFollow p = true) :
    p.same s (State.modeFollow u) := by
  simp [Foot.modeFollow, and_assoc] at h
  obtain ⟨h1, h2, h3, h4, h5, h6, h7⟩ := h
  unfold State.modeFollow
  repeat' first
    | with_reducible assumption | intro _ | with_reducible exact same_refl | with_reducible apply same_iff
    | with_reducible apply same_each | with_reducible apply same_requestFast | with_reducible apply same_followAlert
    | with_reducible apply same_portsFollow | with_reducible apply same_startVpre | with_reducible apply same_startVaux
    | with_reducible apply same_chgFollow | with_reducible apply same_lineResume | dsimp only | split

theorem same_modeEvaluate {p : Part} {s u : State}  (hu : p.same s u) (h : keeps Foot.modeEvaluate p = true) :
    p.same s (State.modeEvaluate u) := by
  simp [Foot.modeEvaluate, and_assoc] at h
  obtain ⟨h1, h2, h3, h4, h5, h6, h7, h8⟩ := h
  unfold State.modeEvaluate
  repeat' first
    | with_reducible assumption | intro _ | with_reducible exact same_refl | with_reducible apply same_flag
    | with_reducible apply same_set | with_reducible apply same_modeTerms | with_reducible apply same_changeMode
    | with_reducible apply same_sameMode | with_reducible apply same_modeSnap | with_reducible apply same_owedSnap
    | with_reducible apply same_modeFollow | with_reducible apply same_ite | dsimp only | split

theorem same_execModeEvaluate {p : Part} {s u : State} {a0 : Nat} {a1 : Nat} (hu : p.same s u) (h : keeps Foot.execModeEvaluate p = true) :
    ∃ t, execModeEvaluate a0 a1 u = .next t ∧ p.same s t := by
  simp [Foot.execModeEvaluate, and_assoc] at h
  obtain ⟨h1, h2, h3⟩ := h
  refine ⟨_, rfl, ?_⟩
  repeat' first
    | with_reducible assumption | intro _ | with_reducible exact same_refl | with_reducible apply same_set
    | with_reducible apply same_modeEvaluate | with_reducible apply same_ite | with_reducible apply off_ite | dsimp only
    | split

theorem same_execAwakeHoldEnd {p : Part} {s u : State}  (hu : p.same s u) (h : keeps Foot.execAwakeHoldEnd p = true) :
    ∃ t, execAwakeHoldEnd u = .next t ∧ p.same s t := by
  simp [Foot.execAwakeHoldEnd, and_assoc] at h
  refine ⟨_, rfl, ?_⟩
  repeat' first
    | with_reducible assumption | intro _ | with_reducible exact same_refl | with_reducible apply same_flag | dsimp only

theorem same_enterService {p : Part} {s u : State} {a1 : Nat} (hu : p.same s u) (h : keeps Foot.enterService p = true) :
    p.same s (State.enterService u a1).1 := by
  simp [Foot.enterService, and_assoc] at h
  obtain ⟨h1, h2, h3⟩ := h
  unfold State.enterService
  repeat' first
    | with_reducible assumption | intro _ | with_reducible exact same_refl | with_reducible apply same_set
    | with_reducible apply same_flag | with_reducible apply same_cause | with_reducible apply same_ite
    | with_reducible apply same_ite_fst | with_reducible apply same_ite_state | with_reducible apply off_ite | dsimp only
    | split

theorem same_execFastClockStop {p : Part} {s u : State}  (hu : p.same s u) (h : keeps Foot.execFastClockStop p = true) :
    ∃ t, execFastClockStop u = .next t ∧ p.same s t := by
  simp [Foot.execFastClockStop, and_assoc] at h
  obtain ⟨h1, h2, h3, h4⟩ := h
  refine ⟨_, rfl, ?_⟩
  repeat' first
    | with_reducible assumption | intro _ | with_reducible exact same_refl | with_reducible apply same_set
    | with_reducible apply same_flag | with_reducible apply same_abortSlice | with_reducible apply same_ite
    | with_reducible apply off_ite | dsimp only | split

theorem same_enterShip {p : Part} {s u : State} {a1 : Nat} {a2 : Bool} (hu : p.same s u) (h : keeps Foot.enterShip p = true) :
    p.same s (State.enterShip u a1 a2).1 := by
  simp [Foot.enterShip, and_assoc] at h
  unfold State.enterShip
  repeat' first
    | with_reducible assumption | intro _ | with_reducible exact same_refl | with_reducible apply same_flag
    | with_reducible apply same_ite | with_reducible apply same_ite_fst | with_reducible apply same_ite_state | dsimp only
    | split

theorem same_execFastClockStart {p : Part} {s u : State}  (hu : p.same s u) (h : keeps Foot.execFastClockStart p = true) :
    ∃ t, execFastClockStart u = .next t ∧ p.same s t := by
  simp [Foot.execFastClockStart, and_assoc] at h
  obtain ⟨h1, h2, h3, h4, h5, h6, h7, h8⟩ := h
  refine ⟨_, rfl, ?_⟩
  repeat' first
    | with_reducible assumption | intro _ | with_reducible exact same_refl | with_reducible apply same_set
    | with_reducible apply same_flag | with_reducible apply same_iff | with_reducible apply same_sleepCredit
    | with_reducible apply same_hourSnap | with_reducible apply same_ite | with_reducible apply same_ite_fst
    | with_reducible apply same_ite_state | with_reducible apply off_ite | dsimp only | split

theorem same_yardWake {p : Part} {s u : State}  (hu : p.same s u) (h : keeps Foot.yardWake p = true) :
    p.same s (State.yardWake u) := by
  simp [Foot.yardWake, and_assoc] at h
  obtain ⟨h1, h2, h3⟩ := h
  unfold State.yardWake
  repeat' first
    | with_reducible assumption | intro _ | with_reducible exact same_refl | with_reducible apply same_each
    | with_reducible apply same_setBit | with_reducible apply same_portsFollow | with_reducible apply same_ite
    | with_reducible apply same_ite_fst | with_reducible apply same_ite_state | dsimp only | split

theorem same_execServiceTimeout {p : Part} {s u : State}  (hu : p.same s u) (h : keeps Foot.execServiceTimeout p = true) :
    ∃ t, execServiceTimeout u = .next t ∧ p.same s t := by
  simp [Foot.execServiceTimeout, and_assoc] at h
  obtain ⟨h1, h2⟩ := h
  refine ⟨_, rfl, ?_⟩
  repeat' first
    | with_reducible assumption | intro _ | with_reducible exact same_refl | with_reducible apply same_flag
    | with_reducible apply same_cause | with_reducible apply same_ite | with_reducible apply off_ite | dsimp only | split

theorem same_endGrace {p : Part} {s u : State}  (hu : p.same s u) (h : keeps Foot.endGrace p = true) :
    p.same s (State.endGrace u).1 := by
  simp [Foot.endGrace, and_assoc] at h
  obtain ⟨h1, h2⟩ := h
  unfold State.endGrace
  repeat' first
    | with_reducible assumption | intro _ | with_reducible exact same_refl | with_reducible apply same_cause
    | with_reducible apply same_stopGrace | with_reducible apply same_ite | with_reducible apply same_ite_fst
    | with_reducible apply same_ite_state | with_reducible apply off_ite | dsimp only | split

theorem same_execTimeRateCorrection {p : Part} {s u : State} {a0 : Nat} (hu : p.same s u) (h : keeps Foot.execTimeRateCorrection p = true) :
    ∃ t, execTimeRateCorrection a0 u = .next t ∧ p.same s t := by
  simp [Foot.execTimeRateCorrection, and_assoc] at h
  obtain ⟨h1, h2, h3⟩ := h
  refine ⟨_, rfl, ?_⟩
  repeat' first
    | with_reducible assumption | intro _ | with_reducible exact same_refl | with_reducible apply same_flag
    | with_reducible apply same_set | with_reducible apply same_ite | with_reducible apply off_ite | dsimp only | split

theorem same_execWakeCountDue {p : Part} {s u : State}  (hu : p.same s u) (h : keeps Foot.execWakeCountDue p = true) :
    ∃ t, execWakeCountDue u = .next t ∧ p.same s t := by
  simp [Foot.execWakeCountDue, and_assoc] at h
  obtain ⟨h1, h2, h3, h4, h5⟩ := h
  refine ⟨_, rfl, ?_⟩
  repeat' first
    | with_reducible assumption | intro _ | with_reducible exact same_refl | with_reducible apply same_flag
    | with_reducible apply same_wake | with_reducible apply same_wakeRestart | with_reducible apply same_yardWake
    | with_reducible apply same_cause | with_reducible apply same_ite | with_reducible apply off_ite | dsimp only | split

theorem same_execHarvestDormant {p : Part} {s u : State} {a0 : Fin 4} (hu : p.same s u) (h : keeps Foot.execHarvestDormant p = true) :
    ∃ t, execHarvestDormant a0 u = .next t ∧ p.same s t := by
  simp [Foot.execHarvestDormant, and_assoc] at h
  obtain ⟨h1, h2, h3, h4, h5, h6⟩ := h
  refine ⟨_, rfl, ?_⟩
  repeat' first
    | with_reducible assumption | intro _ | with_reducible exact same_refl | with_reducible apply same_flag
    | with_reducible apply same_set | with_reducible apply same_cause | with_reducible apply same_rampDown
    | with_reducible apply same_abortSweep | with_reducible apply same_ite | with_reducible apply off_ite | dsimp only
    | split

theorem same_execWakenLow {p : Part} {s u : State}  (hu : p.same s u) (h : keeps Foot.execWakenLow p = true) :
    ∃ t, execWakenLow u = .next t ∧ p.same s t := by
  simp [Foot.execWakenLow, and_assoc] at h
  obtain ⟨h1, h2, h3, h4, h5⟩ := h
  refine ⟨_, rfl, ?_⟩
  repeat' first
    | with_reducible assumption | intro _ | with_reducible exact same_refl | with_reducible apply same_flag
    | with_reducible apply same_iff | with_reducible apply same_wake | with_reducible apply same_cancelShip
    | with_reducible apply same_cause | with_reducible apply same_startGrace | with_reducible apply same_ite
    | with_reducible apply off_ite | dsimp only | split

theorem same_execUncouple {p : Part} {s u : State}  (hu : p.same s u) (h : keeps Foot.execUncouple p = true) :
    ∃ t, execUncouple u = .next t ∧ p.same s t := by
  simp [Foot.execUncouple, and_assoc] at h
  refine ⟨_, rfl, ?_⟩
  repeat' first
    | with_reducible assumption | intro _ | with_reducible exact same_refl | with_reducible apply same_uncouple
    | with_reducible apply same_ite | with_reducible apply off_ite | dsimp only | split

theorem same_execHarvestRetryEnd {p : Part} {s u : State} {a0 : Fin 4} {a1 : Bool} (hu : p.same s u) (h : keeps Foot.execHarvestRetryEnd p = true) :
    ∃ t, execHarvestRetryEnd a0 a1 u = .next t ∧ p.same s t := by
  simp [Foot.execHarvestRetryEnd, and_assoc] at h
  obtain ⟨h1, h2, h3, h4⟩ := h
  refine ⟨_, rfl, ?_⟩
  repeat' first
    | with_reducible assumption | intro _ | with_reducible exact same_refl | with_reducible apply same_setBit
    | with_reducible apply same_cause | with_reducible apply same_leaveDormancy | with_reducible apply same_rampDown
    | with_reducible apply same_ite | with_reducible apply off_ite | dsimp only | split

end Sys2Proof.Machine.Part
end

