-- ==== Sys2Proof/Laws/SameBoot.lean ====
section
/-! SUPPORT. What the operations of Machine/Boot.lean leave as before: one lemma for each. -/

set_option linter.all false

namespace Sys2Proof.Machine.Part

theorem same_queuesFollow {p : Part} {s u : State}  (hu : p.same s u) (h : keeps Foot.queuesFollow p = true) :
    p.same s (State.queuesFollow u) := by
  simp [Foot.queuesFollow, and_assoc] at h
  obtain ⟨h1, h2⟩ := h
  unfold State.queuesFollow
  repeat' first
    | with_reducible assumption | intro _ | with_reducible exact same_refl | with_reducible apply same_each
    | with_reducible apply same_setBit | with_reducible apply same_evictTo | dsimp only | split

theorem same_deadTimesFollow {p : Part} {s u : State}  (hu : p.same s u) (h : keeps Foot.deadTimesFollow p = true) :
    p.same s (State.deadTimesFollow u) := by
  simp [Foot.deadTimesFollow, and_assoc] at h
  obtain ⟨h1, h2, h3, h4⟩ := h
  unfold State.deadTimesFollow
  repeat' first
    | with_reducible assumption | intro _ | with_reducible exact same_refl | with_reducible apply same_each
    | with_reducible apply same_set | dsimp only

theorem same_bootFollow {p : Part} {s u : State}  (hu : p.same s u) (h : keeps Foot.bootFollow p = true) :
    p.same s (State.bootFollow u) := by
  simp [Foot.bootFollow, and_assoc] at h
  obtain ⟨h1, h2, h3, h4, h5, h6, h7, h8, h9, h10, h11, h12, h13, h14, h15, h16, h17, h18, h19, h20, h21, h22, h23⟩ := h
  unfold State.bootFollow
  repeat' first
    | with_reducible assumption | intro _ | with_reducible exact same_refl | with_reducible apply same_each
    | with_reducible apply same_set | with_reducible apply same_latchStand | with_reducible apply same_applyMap
    | with_reducible apply same_updateLimit | with_reducible apply same_restartClass | with_reducible apply same_agedFollow
    | with_reducible apply same_sysFollow | with_reducible apply same_windowFollow | with_reducible apply same_curveFollow
    | with_reducible apply same_judgeOrder | with_reducible apply same_chgSet | with_reducible apply same_chgFollow
    | with_reducible apply same_valtFollow | with_reducible apply same_ledgerFollow | with_reducible apply same_followAlert
    | with_reducible apply same_hrstnFollow | with_reducible apply same_queuesFollow
    | with_reducible apply same_deadTimesFollow | with_reducible apply same_ite | with_reducible apply same_ite_fst
    | with_reducible apply same_ite_state | with_reducible apply off_ite | dsimp only | split

theorem same_otpFollow {p : Part} {s u : State}  (hu : p.same s u) (h : keeps Foot.otpFollow p = true) :
    p.same s (State.otpFollow u) := by
  simp [Foot.otpFollow, and_assoc] at h
  obtain ⟨h1, h2, h3, h4, h5, h6, h7, h8⟩ := h
  unfold State.otpFollow
  repeat' first
    | with_reducible assumption | intro _ | with_reducible exact same_refl | with_reducible apply same_set
    | with_reducible apply same_ite | with_reducible apply off_ite | dsimp only | split

theorem same_strapFollow {p : Part} {s u : State} {a1 : Nat} (hu : p.same s u) (h : keeps Foot.strapFollow p = true) :
    p.same s (State.strapFollow u a1) := by
  simp [Foot.strapFollow, and_assoc] at h
  obtain ⟨h1, h2, h3, h4⟩ := h
  unfold State.strapFollow
  repeat' first
    | with_reducible assumption | intro _ | with_reducible exact same_refl | with_reducible apply same_set
    | with_reducible apply same_latchStand | with_reducible apply same_ended | with_reducible apply same_ite | dsimp only
    | split

end Sys2Proof.Machine.Part
end

