-- ==== Sys2Proof/Laws/SameCommands.lean ====
section
/-! SUPPORT. What the operations of Machine/Commands.lean leave as before: one lemma for each. -/

set_option linter.all false

namespace Sys2Proof.Machine.Part

theorem otp_word (s : State) : Scope.word .otp (0x1100 + s.get R.X_OTP_WORD) = true := by
  have : s.get R.X_OTP_WORD < 128 := Nat.mod_lt _ (by decide)
  simp [Scope.word]
  omega

theorem same_okData {p : Part} {s u : State} {a1 : List Byte} (hu : p.same s u) (h : keeps Foot.okData p = true) :
    p.same s (State.okData u a1).state := by
  simp [Foot.okData, and_assoc] at h
  unfold State.okData
  repeat' first
    | with_reducible assumption | intro _ | with_reducible exact same_refl | with_reducible apply same_answers | dsimp only

theorem same_execLedgerRead {p : Part} {s u : State} {a0 : PortId} {a1 : Byte} (hu : p.same s u) (h : keeps Foot.execLedgerRead p = true) :
    ∃ t, execLedgerRead a0 a1 u = .next t ∧ p.same s t := by
  simp [Foot.execLedgerRead, and_assoc] at h
  obtain ⟨h1, h2⟩ := h
  refine ⟨_, rfl, ?_⟩
  repeat' first
    | with_reducible assumption | intro _ | with_reducible exact same_refl | with_reducible apply same_serve
    | with_reducible apply same_okData | dsimp only

theorem same_chargeControl {p : Part} {s u : State} {a1 : PortId} {a2 : Byte} {a3 : Nat} {a4 : Nat} {a5 : State → State × Nat} (hu : p.same s u) (h : keeps Foot.chargeControl p = true) (hf : ∀ v, p.same s v → p.same s (a5 v).1) :
    p.same s (State.chargeControl u a1 a2 a3 a4 a5) := by
  simp [Foot.chargeControl, and_assoc] at h
  unfold State.chargeControl
  repeat' first
    | with_reducible apply hf | with_reducible assumption | intro _ | with_reducible exact same_refl
    | with_reducible apply same_serve | with_reducible apply same_answers | dsimp only

theorem same_execServiceGroups {p : Part} {s u : State} {a0 : PortId} {a1 : Byte} {a2 : Fin 65536} (hu : p.same s u) (h : keeps Foot.execServiceGroups p = true) :
    ∃ t, execServiceGroups a0 a1 a2 u = .next t ∧ p.same s t := by
  simp [Foot.execServiceGroups, and_assoc] at h
  obtain ⟨h1, h2⟩ := h
  refine ⟨_, rfl, ?_⟩
  repeat' first
    | with_reducible assumption | intro _ | with_reducible exact same_refl | with_reducible apply same_chargeControl
    | with_reducible apply same_serviceGroups | with_reducible apply same_answers | dsimp only

theorem same_execRecover {p : Part} {s u : State} {a0 : PortId} {a1 : Byte} {a2 : Fin 65536} (hu : p.same s u) (h : keeps Foot.execRecover p = true) :
    ∃ t, execRecover a0 a1 a2 u = .next t ∧ p.same s t := by
  simp [Foot.execRecover, and_assoc] at h
  obtain ⟨h1, h2⟩ := h
  refine ⟨_, rfl, ?_⟩
  repeat' first
    | with_reducible assumption | intro _ | with_reducible exact same_refl | with_reducible apply same_serve
    | with_reducible apply same_restartDue | dsimp only

theorem same_execOtpProgramDone {p : Part} {s u : State} {a0 : Fin 65536} (hu : p.same s u) (h : keeps Foot.execOtpProgramDone p = true) :
    ∃ t, execOtpProgramDone a0 u = .next t ∧ p.same s t := by
  simp [Foot.execOtpProgramDone, and_assoc] at h
  obtain ⟨h1, h2, h3⟩ := h
  refine ⟨_, rfl, ?_⟩
  repeat' first
    | exact same_putWord .otp (by assumption) (by assumption) (otp_word _) | with_reducible assumption | intro _
    | with_reducible exact same_refl | with_reducible apply same_flag | with_reducible apply same_otpFollow
    | with_reducible apply same_ite | with_reducible apply off_ite | dsimp only | split

theorem same_refusal {p : Part} {s u : State} {a1 : Nat} {a2 : optParam (List Byte) []} (hu : p.same s u) (h : keeps Foot.refusal p = true) :
    p.same s (State.refusal u a1 a2).state := by
  simp [Foot.refusal, and_assoc] at h
  unfold State.refusal
  repeat' first
    | with_reducible assumption | intro _ | with_reducible exact same_refl | with_reducible apply same_answers | dsimp only

theorem same_execCfgRevert {p : Part} {s u : State} {a0 : PortId} {a1 : Byte} {a2 : Fin 65536} (hu : p.same s u) (h : keeps Foot.execCfgRevert p = true) :
    ∃ t, execCfgRevert a0 a1 a2 u = .next t ∧ p.same s t := by
  simp [Foot.execCfgRevert, and_assoc] at h
  obtain ⟨h1, h2, h3⟩ := h
  refine ⟨_, rfl, ?_⟩
  repeat' first
    | with_reducible assumption | intro _ | with_reducible exact same_refl | with_reducible apply same_serve
    | with_reducible apply same_refusal | with_reducible apply same_startRevert | with_reducible apply same_ite
    | with_reducible apply same_ite_fst | with_reducible apply same_ite_state | with_reducible apply same_answers
    | dsimp only | split

theorem same_execCfgConfirm {p : Part} {s u : State} {a0 : PortId} {a1 : Byte} (hu : p.same s u) (h : keeps Foot.execCfgConfirm p = true) :
    ∃ t, execCfgConfirm a0 a1 u = .next t ∧ p.same s t := by
  simp [Foot.execCfgConfirm, and_assoc] at h
  obtain ⟨h1, h2⟩ := h
  refine ⟨_, rfl, ?_⟩
  repeat' first
    | with_reducible assumption | intro _ | with_reducible exact same_refl | with_reducible apply same_serve
    | with_reducible apply same_startConfirm | with_reducible apply same_ite | with_reducible apply same_ite_fst
    | with_reducible apply same_ite_state | with_reducible apply same_answers | with_reducible apply off_ite | dsimp only
    | split

theorem same_execEndEqualise {p : Part} {s u : State} {a0 : PortId} {a1 : Byte} {a2 : Fin 65536} (hu : p.same s u) (h : keeps Foot.execEndEqualise p = true) :
    ∃ t, execEndEqualise a0 a1 a2 u = .next t ∧ p.same s t := by
  simp [Foot.execEndEqualise, and_assoc] at h
  obtain ⟨h1, h2⟩ := h
  refine ⟨_, rfl, ?_⟩
  repeat' first
    | with_reducible assumption | intro _ | with_reducible exact same_refl | with_reducible apply same_chargeControl
    | with_reducible apply same_chgEndEqualise | with_reducible apply same_answers | dsimp only

theorem same_lineControl {p : Part} {s u : State} {a1 : PortId} {a2 : Byte} {a3 : Nat} {a4 : List Byte} {a5 : State → State × Nat} (hu : p.same s u) (h : keeps Foot.lineControl p = true) (hf : ∀ v, p.same s v → p.same s (a5 v).1) :
    p.same s (State.lineControl u a1 a2 a3 a4 a5) := by
  simp [Foot.lineControl, and_assoc] at h
  unfold State.lineControl
  repeat' first
    | with_reducible apply hf | with_reducible assumption | intro _ | with_reducible exact same_refl
    | with_reducible apply same_serve | with_reducible apply same_answers | dsimp only

theorem same_execReleaseSlot {p : Part} {s u : State} {a0 : PortId} {a1 : Byte} {a2 : Fin 256} {a3 : Fin 16777216} (hu : p.same s u) (h : keeps Foot.execReleaseSlot p = true) :
    ∃ t, execReleaseSlot a0 a1 a2 a3 u = .next t ∧ p.same s t := by
  simp [Foot.execReleaseSlot, and_assoc] at h
  obtain ⟨h1, h2⟩ := h
  refine ⟨_, rfl, ?_⟩
  repeat' first
    | with_reducible assumption | intro _ | with_reducible exact same_refl | with_reducible apply same_lineControl
    | with_reducible apply same_lineRelease | with_reducible apply same_ite | with_reducible apply same_ite_fst
    | with_reducible apply same_ite_state | with_reducible apply same_answers | dsimp only | split

theorem same_roundDrop {p : Part} {s u : State} {a1 : Nat} (hu : p.same s u) (h : keeps Foot.roundDrop p = true) :
    p.same s (State.roundDrop u a1) := by
  simp [Foot.roundDrop, and_assoc] at h
  obtain ⟨h1, h2, h3, h4⟩ := h
  unfold State.roundDrop
  repeat' first
    | with_reducible assumption | intro _ | with_reducible exact same_refl | with_reducible apply same_setBit
    | with_reducible apply same_clear | with_reducible apply same_set | dsimp only

theorem same_execConfigNode {p : Part} {s u : State} {a0 : PortId} {a1 : Byte} {a2 : Fin 256} {a3 : Fin 256} {a4 : Fin 65536} (hu : p.same s u) (h : keeps Foot.execConfigNode p = true) :
    ∃ t, execConfigNode a0 a1 a2 a3 a4 u = .next t ∧ p.same s t := by
  simp [Foot.execConfigNode, and_assoc] at h
  obtain ⟨h1, h2⟩ := h
  refine ⟨_, rfl, ?_⟩
  repeat' first
    | with_reducible assumption | intro _ | with_reducible exact same_refl | with_reducible apply same_lineControl
    | with_reducible apply same_lineConfig | with_reducible apply same_answers | dsimp only

theorem same_modeRequest {p : Part} {s u : State} {a1 : PortId} {a2 : Byte} {a3 : Nat} {a4 : Nat} {a5 : State → State × Nat} (hu : p.same s u) (h : keeps Foot.modeRequest p = true) (hf : ∀ v, p.same s v → p.same s (a5 v).1) :
    p.same s (State.modeRequest u a1 a2 a3 a4 a5) := by
  simp [Foot.modeRequest, and_assoc] at h
  unfold State.modeRequest
  repeat' first
    | with_reducible apply hf | with_reducible assumption | intro _ | with_reducible exact same_refl
    | with_reducible apply same_serve | with_reducible apply same_answers | dsimp only

theorem same_execEnterService {p : Part} {s u : State} {a0 : PortId} {a1 : Byte} {a2 : Fin 65536} (hu : p.same s u) (h : keeps Foot.execEnterService p = true) :
    ∃ t, execEnterService a0 a1 a2 u = .next t ∧ p.same s t := by
  simp [Foot.execEnterService, and_assoc] at h
  obtain ⟨h1, h2⟩ := h
  refine ⟨_, rfl, ?_⟩
  repeat' first
    | with_reducible assumption | intro _ | with_reducible exact same_refl | with_reducible apply same_modeRequest
    | with_reducible apply same_enterService | with_reducible apply same_answers | dsimp only

theorem same_execCfgStageWrite {p : Part} {s u : State} {a0 : PortId} {a1 : Byte} {a2 : Fin 256} {a3 : Fin 65536} {a4 : List Byte} (hu : p.same s u) (h : keeps Foot.execCfgStageWrite p = true) :
    ∃ t, execCfgStageWrite a0 a1 a2 a3 a4 u = .next t ∧ p.same s t := by
  simp [Foot.execCfgStageWrite, and_assoc] at h
  obtain ⟨h1, h2, h3⟩ := h
  refine ⟨_, rfl, ?_⟩
  repeat' first
    | with_reducible assumption | intro _ | with_reducible exact same_refl | with_reducible apply same_serve
    | with_reducible apply same_refusal | with_reducible apply same_stageWrite | with_reducible apply same_ite
    | with_reducible apply same_ite_fst | with_reducible apply same_ite_state | dsimp only | split

theorem same_execSelftestRun {p : Part} {s u : State} {a0 : PortId} {a1 : Byte} {a2 : Fin 256} (hu : p.same s u) (h : keeps Foot.execSelftestRun p = true) :
    ∃ t, execSelftestRun a0 a1 a2 u = .next t ∧ p.same s t := by
  simp [Foot.execSelftestRun, and_assoc] at h
  obtain ⟨h1, h2⟩ := h
  refine ⟨_, rfl, ?_⟩
  repeat' first
    | with_reducible assumption | intro _ | with_reducible exact same_refl | with_reducible apply same_set
    | with_reducible apply same_serve | dsimp only | split

theorem same_readFaultsP0 {p : Part} {s u : State}  (hu : p.same s u) (h : keeps Foot.readFaultsP0 p = true) :
    p.same s (State.readFaultsP0 u).1 := by
  simp [Foot.readFaultsP0, and_assoc] at h
  obtain ⟨h1, h2⟩ := h
  unfold State.readFaultsP0
  repeat' first
    | exact same_readAction (by assumption) (by assumption) (by decide) | with_reducible assumption | intro _
    | with_reducible exact same_refl | with_reducible apply same_followAlert | with_reducible apply same_readAction
    | with_reducible apply same_ite | with_reducible apply same_ite_fst | with_reducible apply same_ite_state
    | with_reducible apply off_ite | dsimp only | split

theorem same_execReadFaults {p : Part} {s u : State} {a0 : PortId} {a1 : Byte} (hu : p.same s u) (h : keeps Foot.execReadFaults p = true) :
    ∃ t, execReadFaults a0 a1 u = .next t ∧ p.same s t := by
  simp [Foot.execReadFaults, and_assoc] at h
  obtain ⟨h1, h2, h3, h4⟩ := h
  refine ⟨_, rfl, ?_⟩
  repeat' first
    | with_reducible assumption | intro _ | with_reducible exact same_refl | with_reducible apply same_serve
    | with_reducible apply same_readFaultsP0 | with_reducible apply same_readFaults | with_reducible apply same_okData
    | with_reducible apply same_ite | with_reducible apply same_ite_fst | with_reducible apply same_ite_state | dsimp only
    | split

theorem same_execEnterShip {p : Part} {s u : State} {a0 : PortId} {a1 : Byte} {a2 : Fin 65536} {a3 : Bool} (hu : p.same s u) (h : keeps Foot.execEnterShip p = true) :
    ∃ t, execEnterShip a0 a1 a2 a3 u = .next t ∧ p.same s t := by
  simp [Foot.execEnterShip, and_assoc] at h
  obtain ⟨h1, h2⟩ := h
  refine ⟨_, rfl, ?_⟩
  repeat' first
    | with_reducible assumption | intro _ | with_reducible exact same_refl | with_reducible apply same_modeRequest
    | with_reducible apply same_enterShip | with_reducible apply same_answers | dsimp only

theorem same_railControl {p : Part} {s u : State} {a1 : PortId} {a2 : Byte} {a3 : Nat} {a4 : Nat} {a5 : Nat} {a6 : Nat} (hu : p.same s u) (h : keeps Foot.railControl p = true) :
    p.same s (State.railControl u a1 a2 a3 a4 a5 a6) := by
  simp [Foot.railControl, and_assoc] at h
  obtain ⟨h1, h2⟩ := h
  unfold State.railControl
  repeat' first
    | with_reducible assumption | intro _ | with_reducible exact same_refl | with_reducible apply same_serve
    | with_reducible apply same_railCommand | with_reducible apply same_ite | with_reducible apply same_ite_fst
    | with_reducible apply same_ite_state | with_reducible apply same_answers | dsimp only | split

theorem same_execRailControlSetVid {p : Part} {s u : State} {a0 : PortId} {a1 : Byte} {a2 : Fin 256} {a3 : Fin 65536} (hu : p.same s u) (h : keeps Foot.execRailControlSetVid p = true) :
    ∃ t, execRailControlSetVid a0 a1 a2 a3 u = .next t ∧ p.same s t := by
  simp [Foot.execRailControlSetVid, and_assoc] at h
  refine ⟨_, rfl, ?_⟩
  repeat' first
    | with_reducible assumption | intro _ | with_reducible exact same_refl | with_reducible apply same_railControl
    | with_reducible apply same_answers | dsimp only

theorem same_execNodeInfo {p : Part} {s u : State} {a0 : PortId} {a1 : Byte} {a2 : Fin 256} (hu : p.same s u) (h : keeps Foot.execNodeInfo p = true) :
    ∃ t, execNodeInfo a0 a1 a2 u = .next t ∧ p.same s t := by
  simp [Foot.execNodeInfo, and_assoc] at h
  obtain ⟨h1, h2, h3⟩ := h
  refine ⟨_, rfl, ?_⟩
  repeat' first
    | with_reducible assumption | intro _ | with_reducible exact same_refl | with_reducible apply same_serve
    | with_reducible apply same_refusal | with_reducible apply same_okData | with_reducible apply same_ite
    | with_reducible apply same_ite_fst | with_reducible apply same_ite_state | dsimp only | split

theorem same_journalRead {p : Part} {s u : State} {a1 : PortId} {a2 : Nat} {a3 : Nat} {a4 : Nat} {a5 : Nat} {a6 : List Nat} {a7 : Nat} (hu : p.same s u) (h : keeps Foot.journalRead p = true) :
    p.same s (State.journalRead u a1 a2 a3 a4 a5 a6 a7).state := by
  simp [Foot.journalRead, and_assoc] at h
  obtain ⟨h1, h2, h3, h4, h5, h6, h7⟩ := h
  unfold State.journalRead
  repeat' first
    | with_reducible assumption | intro _ | with_reducible exact same_refl | with_reducible apply same_set
    | with_reducible apply same_add | with_reducible apply same_iff | with_reducible apply same_latch
    | with_reducible apply same_refusal | with_reducible apply same_abortSlice | with_reducible apply same_okData
    | with_reducible apply same_ite | with_reducible apply same_ite_fst | with_reducible apply same_ite_state
    | with_reducible apply same_answers | dsimp only | split

theorem same_execEqualise {p : Part} {s u : State} {a0 : PortId} {a1 : Byte} {a2 : Fin 65536} (hu : p.same s u) (h : keeps Foot.execEqualise p = true) :
    ∃ t, execEqualise a0 a1 a2 u = .next t ∧ p.same s t := by
  simp [Foot.execEqualise, and_assoc] at h
  obtain ⟨h1, h2⟩ := h
  refine ⟨_, rfl, ?_⟩
  repeat' first
    | with_reducible assumption | intro _ | with_reducible exact same_refl | with_reducible apply same_chargeControl
    | with_reducible apply same_chgEqualise | with_reducible apply same_answers | dsimp only

theorem same_journalMark {p : Part} {s u : State} {a1 : List Byte} (hu : p.same s u) (h : keeps Foot.journalMark p = true) :
    p.same s (State.journalMark u a1).state := by
  simp [Foot.journalMark, and_assoc] at h
  obtain ⟨h1, h2⟩ := h
  unfold State.journalMark
  repeat' first
    | with_reducible assumption | intro _ | with_reducible exact same_refl | with_reducible apply same_offerB
    | with_reducible apply same_okData | with_reducible apply same_ite | with_reducible apply same_ite_fst
    | with_reducible apply same_ite_state | with_reducible apply same_answers | dsimp only | split

theorem same_queueRead {p : Part} {s u : State} {a1 : PortId} {a2 : Nat} {a3 : Nat} {a4 : Bool} (hu : p.same s u) (h : keeps Foot.queueRead p = true) :
    p.same s (State.queueRead u a1 a2 a3 a4).state := by
  simp [Foot.queueRead, and_assoc] at h
  unfold State.queueRead
  repeat' first
    | with_reducible assumption | intro _ | with_reducible exact same_refl | with_reducible apply same_refusal
    | with_reducible apply same_ite | with_reducible apply same_ite_fst | with_reducible apply same_ite_state
    | with_reducible apply same_answers | dsimp only | split

theorem same_execQueuePeek {p : Part} {s u : State} {a0 : PortId} {a1 : Byte} {a2 : Fin 256} {a3 : Fin 256} (hu : p.same s u) (h : keeps Foot.execQueuePeek p = true) :
    ∃ t, execQueuePeek a0 a1 a2 a3 u = .next t ∧ p.same s t := by
  simp [Foot.execQueuePeek, and_assoc] at h
  obtain ⟨h1, h2⟩ := h
  refine ⟨_, rfl, ?_⟩
  repeat' first
    | with_reducible assumption | intro _ | with_reducible exact same_refl | with_reducible apply same_serve
    | with_reducible apply same_queueRead | dsimp only

theorem same_execJournalRead {p : Part} {s u : State} {a0 : PortId} {a1 : Byte} {a2 : Fin 4294967296} {a3 : Fin 65536} {a4 : Nat} {a5 : Nat} {a6 : List Nat} {a7 : Nat} (hu : p.same s u) (h : keeps Foot.execJournalRead p = true) :
    ∃ t, execJournalRead a0 a1 a2 a3 a4 a5 a6 a7 u = .next t ∧ p.same s t := by
  simp [Foot.execJournalRead, and_assoc] at h
  obtain ⟨h1, h2⟩ := h
  refine ⟨_, rfl, ?_⟩
  repeat' first
    | with_reducible assumption | intro _ | with_reducible exact same_refl | with_reducible apply same_serve
    | with_reducible apply same_journalRead | dsimp only

theorem same_execPortOff {p : Part} {s u : State} {a0 : PortId} {a1 : Byte} {a2 : Fin 256} {a3 : Fin 16777216} (hu : p.same s u) (h : keeps Foot.execPortOff p = true) :
    ∃ t, execPortOff a0 a1 a2 a3 u = .next t ∧ p.same s t := by
  simp [Foot.execPortOff, and_assoc] at h
  obtain ⟨h1, h2⟩ := h
  refine ⟨_, rfl, ?_⟩
  repeat' first
    | with_reducible assumption | intro _ | with_reducible exact same_refl | with_reducible apply same_lineControl
    | with_reducible apply same_linePortOff | with_reducible apply same_answers | dsimp only

theorem same_readParam {p : Part} {s u : State} {a1 : Nat} {a2 : Nat} (hu : p.same s u) (h : keeps Foot.readParam p = true) :
    p.same s (State.readParam u a1 a2).state := by
  simp [Foot.readParam, and_assoc] at h
  obtain ⟨h1, h2, h3⟩ := h
  unfold State.readParam
  repeat' first
    | with_reducible assumption | intro _ | with_reducible exact same_refl | with_reducible apply same_refusal
    | with_reducible apply same_readWords | with_reducible apply same_okData | with_reducible apply same_ite
    | with_reducible apply same_ite_fst | with_reducible apply same_ite_state | with_reducible apply same_answers
    | dsimp only | split

theorem same_execRestart {p : Part} {s u : State} {a0 : PortId} {a1 : Byte} {a2 : Fin 65536} (hu : p.same s u) (h : keeps Foot.execRestart p = true) :
    ∃ t, execRestart a0 a1 a2 u = .next t ∧ p.same s t := by
  simp [Foot.execRestart, and_assoc] at h
  obtain ⟨h1, h2⟩ := h
  refine ⟨_, rfl, ?_⟩
  repeat' first
    | with_reducible assumption | intro _ | with_reducible exact same_refl | with_reducible apply same_chargeControl
    | with_reducible apply same_chgRestartAction | with_reducible apply same_answers | dsimp only

theorem same_execEndGrace {p : Part} {s u : State} {a0 : PortId} {a1 : Byte} {a2 : Fin 65536} (hu : p.same s u) (h : keeps Foot.execEndGrace p = true) :
    ∃ t, execEndGrace a0 a1 a2 u = .next t ∧ p.same s t := by
  simp [Foot.execEndGrace, and_assoc] at h
  obtain ⟨h1, h2⟩ := h
  refine ⟨_, rfl, ?_⟩
  repeat' first
    | with_reducible assumption | intro _ | with_reducible exact same_refl | with_reducible apply same_modeRequest
    | with_reducible apply same_endGrace | with_reducible apply same_answers | dsimp only

theorem same_writeParam {p : Part} {s u : State} {a1 : List (Nat × Nat)} (hu : p.same s u) (h : keeps Foot.writeParam p = true) :
    p.same s (State.writeParam u a1).state := by
  simp [Foot.writeParam, and_assoc] at h
  unfold State.writeParam
  split
  · exact hu
  · exact same_writeWords hu h.2 (judged_writes (by assumption))

theorem same_execQueueStatus {p : Part} {s u : State} {a0 : PortId} {a1 : Byte} (hu : p.same s u) (h : keeps Foot.execQueueStatus p = true) :
    ∃ t, execQueueStatus a0 a1 u = .next t ∧ p.same s t := by
  simp [Foot.execQueueStatus, and_assoc] at h
  obtain ⟨h1, h2⟩ := h
  refine ⟨_, rfl, ?_⟩
  repeat' first
    | with_reducible assumption | intro _ | with_reducible exact same_refl | with_reducible apply same_serve
    | with_reducible apply same_okData | dsimp only

theorem same_execSuspend {p : Part} {s u : State} {a0 : PortId} {a1 : Byte} {a2 : Fin 65536} (hu : p.same s u) (h : keeps Foot.execSuspend p = true) :
    ∃ t, execSuspend a0 a1 a2 u = .next t ∧ p.same s t := by
  simp [Foot.execSuspend, and_assoc] at h
  obtain ⟨h1, h2⟩ := h
  refine ⟨_, rfl, ?_⟩
  repeat' first
    | with_reducible assumption | intro _ | with_reducible exact same_refl | with_reducible apply same_chargeControl
    | with_reducible apply same_chgSuspend | with_reducible apply same_answers | dsimp only

theorem same_execWriteParam {p : Part} {s u : State} {a0 : PortId} {a1 : Byte} {a2 : Fin 65536} {a3 : List (Fin 65536)} (hu : p.same s u) (h : keeps Foot.execWriteParam p = true) :
    ∃ t, execWriteParam a0 a1 a2 a3 u = .next t ∧ p.same s t := by
  simp [Foot.execWriteParam, and_assoc] at h
  obtain ⟨h1, h2⟩ := h
  refine ⟨_, rfl, ?_⟩
  repeat' first
    | with_reducible assumption | intro _ | with_reducible exact same_refl | with_reducible apply same_serve
    | with_reducible apply same_writeParam | dsimp only

theorem same_execCfgCommit {p : Part} {s u : State} {a0 : PortId} {a1 : Byte} {a2 : Fin 256} {a3 : Fin 256} {a4 : Fin 65536} {a5 : Fin 4294967296} (hu : p.same s u) (h : keeps Foot.execCfgCommit p = true) :
    ∃ t, execCfgCommit a0 a1 a2 a3 a4 a5 u = .next t ∧ p.same s t := by
  simp [Foot.execCfgCommit, and_assoc] at h
  obtain ⟨h1, h2, h3⟩ := h
  refine ⟨_, rfl, ?_⟩
  repeat' first
    | with_reducible assumption | intro _ | with_reducible exact same_refl | with_reducible apply same_serve
    | with_reducible apply same_refusal | with_reducible apply same_commit | with_reducible apply same_ite
    | with_reducible apply same_ite_fst | with_reducible apply same_ite_state | dsimp only | split

theorem same_execRailControlSetVidFast {p : Part} {s u : State} {a0 : PortId} {a1 : Byte} {a2 : Fin 256} {a3 : Fin 65536} (hu : p.same s u) (h : keeps Foot.execRailControlSetVidFast p = true) :
    ∃ t, execRailControlSetVidFast a0 a1 a2 a3 u = .next t ∧ p.same s t := by
  simp [Foot.execRailControlSetVidFast, and_assoc] at h
  refine ⟨_, rfl, ?_⟩
  repeat' first
    | with_reducible assumption | intro _ | with_reducible exact same_refl | with_reducible apply same_railControl
    | with_reducible apply same_answers | dsimp only

theorem same_execPortOn {p : Part} {s u : State} {a0 : PortId} {a1 : Byte} {a2 : Fin 256} {a3 : Fin 16777216} (hu : p.same s u) (h : keeps Foot.execPortOn p = true) :
    ∃ t, execPortOn a0 a1 a2 a3 u = .next t ∧ p.same s t := by
  simp [Foot.execPortOn, and_assoc] at h
  obtain ⟨h1, h2⟩ := h
  refine ⟨_, rfl, ?_⟩
  repeat' first
    | with_reducible assumption | intro _ | with_reducible exact same_refl | with_reducible apply same_lineControl
    | with_reducible apply same_linePortOn | with_reducible apply same_answers | dsimp only

theorem same_execCfgVerify {p : Part} {s u : State} {a0 : PortId} {a1 : Byte} (hu : p.same s u) (h : keeps Foot.execCfgVerify p = true) :
    ∃ t, execCfgVerify a0 a1 u = .next t ∧ p.same s t := by
  simp [Foot.execCfgVerify, and_assoc] at h
  obtain ⟨h1, h2⟩ := h
  refine ⟨_, rfl, ?_⟩
  repeat' first
    | with_reducible assumption | intro _ | with_reducible exact same_refl | with_reducible apply same_serve
    | with_reducible apply same_verify | dsimp only

theorem same_execEnumerate {p : Part} {s u : State} {a0 : PortId} {a1 : Byte} {a2 : Fin 256} {a3 : Fin 16777216} (hu : p.same s u) (h : keeps Foot.execEnumerate p = true) :
    ∃ t, execEnumerate a0 a1 a2 a3 u = .next t ∧ p.same s t := by
  simp [Foot.execEnumerate, and_assoc] at h
  obtain ⟨h1, h2⟩ := h
  refine ⟨_, rfl, ?_⟩
  repeat' first
    | with_reducible assumption | intro _ | with_reducible exact same_refl | with_reducible apply same_lineControl
    | with_reducible apply same_lineEnumerate | with_reducible apply same_answers | dsimp only

theorem same_execRailControlSetSlew {p : Part} {s u : State} {a0 : PortId} {a1 : Byte} {a2 : Fin 256} {a3 : Fin 65536} (hu : p.same s u) (h : keeps Foot.execRailControlSetSlew p = true) :
    ∃ t, execRailControlSetSlew a0 a1 a2 a3 u = .next t ∧ p.same s t := by
  simp [Foot.execRailControlSetSlew, and_assoc] at h
  refine ⟨_, rfl, ?_⟩
  repeat' first
    | with_reducible assumption | intro _ | with_reducible exact same_refl | with_reducible apply same_railControl
    | with_reducible apply same_answers | dsimp only

theorem same_execRailControlClearAlert {p : Part} {s u : State} {a0 : PortId} {a1 : Byte} {a2 : Fin 256} {a3 : Fin 65536} (hu : p.same s u) (h : keeps Foot.execRailControlClearAlert p = true) :
    ∃ t, execRailControlClearAlert a0 a1 a2 a3 u = .next t ∧ p.same s t := by
  simp [Foot.execRailControlClearAlert, and_assoc] at h
  refine ⟨_, rfl, ?_⟩
  repeat' first
    | with_reducible assumption | intro _ | with_reducible exact same_refl | with_reducible apply same_railControl
    | with_reducible apply same_answers | dsimp only

theorem same_execOtpProgram {p : Part} {s u : State} {a0 : PortId} {a1 : Byte} {a2 : Fin 65536} {a3 : Fin 256} {a4 : Fin 65536} (hu : p.same s u) (h : keeps Foot.execOtpProgram p = true) :
    ∃ t, execOtpProgram a0 a1 a2 a3 a4 u = .next t ∧ p.same s t := by
  simp [Foot.execOtpProgram, and_assoc] at h
  obtain ⟨h1, h2, h3, h4, h5⟩ := h
  refine ⟨_, rfl, ?_⟩
  repeat' first
    | with_reducible assumption | intro _ | with_reducible exact same_refl | with_reducible apply same_set
    | with_reducible apply same_flag | with_reducible apply same_serve | with_reducible apply same_refusal
    | with_reducible apply same_ite | with_reducible apply same_ite_fst | with_reducible apply same_ite_state
    | with_reducible apply same_answers | dsimp only | split

theorem same_execResume {p : Part} {s u : State} {a0 : PortId} {a1 : Byte} {a2 : Fin 65536} (hu : p.same s u) (h : keeps Foot.execResume p = true) :
    ∃ t, execResume a0 a1 a2 u = .next t ∧ p.same s t := by
  simp [Foot.execResume, and_assoc] at h
  obtain ⟨h1, h2⟩ := h
  refine ⟨_, rfl, ?_⟩
  repeat' first
    | with_reducible assumption | intro _ | with_reducible exact same_refl | with_reducible apply same_chargeControl
    | with_reducible apply same_chgResume | with_reducible apply same_answers | dsimp only

theorem same_execCfgInfo {p : Part} {s u : State} {a0 : PortId} {a1 : Byte} (hu : p.same s u) (h : keeps Foot.execCfgInfo p = true) :
    ∃ t, execCfgInfo a0 a1 u = .next t ∧ p.same s t := by
  simp [Foot.execCfgInfo, and_assoc] at h
  obtain ⟨h1, h2⟩ := h
  refine ⟨_, rfl, ?_⟩
  repeat' first
    | with_reducible assumption | intro _ | with_reducible exact same_refl | with_reducible apply same_serve
    | with_reducible apply same_okData | dsimp only

theorem same_modifyParam {p : Part} {s u : State} {a1 : Nat} {a2 : Nat} {a3 : Nat} (hu : p.same s u) (h : keeps Foot.modifyParam p = true) :
    p.same s (State.modifyParam u a1 a2 a3).state := by
  simp [Foot.modifyParam, and_assoc] at h
  obtain ⟨h1, h2, h3⟩ := h
  unfold State.modifyParam
  repeat' first
    | exact same_writeWords (by assumption) (by assumption) (judged_writes (by assumption)) | with_reducible assumption
    | intro _ | with_reducible exact same_refl | with_reducible apply same_refusal | with_reducible apply same_okData
    | with_reducible apply same_writeWords | with_reducible apply same_ite | with_reducible apply same_ite_fst
    | with_reducible apply same_ite_state | with_reducible apply same_answers | dsimp only | split

theorem same_execJournalMark {p : Part} {s u : State} {a0 : PortId} {a1 : Byte} {a2 : List Byte} (hu : p.same s u) (h : keeps Foot.execJournalMark p = true) :
    ∃ t, execJournalMark a0 a1 a2 u = .next t ∧ p.same s t := by
  simp [Foot.execJournalMark, and_assoc] at h
  obtain ⟨h1, h2⟩ := h
  refine ⟨_, rfl, ?_⟩
  repeat' first
    | with_reducible assumption | intro _ | with_reducible exact same_refl | with_reducible apply same_serve
    | with_reducible apply same_journalMark | dsimp only

theorem same_execQueuePop {p : Part} {s u : State} {a0 : PortId} {a1 : Byte} {a2 : Fin 256} {a3 : Fin 256} (hu : p.same s u) (h : keeps Foot.execQueuePop p = true) :
    ∃ t, execQueuePop a0 a1 a2 a3 u = .next t ∧ p.same s t := by
  simp [Foot.execQueuePop, and_assoc] at h
  obtain ⟨h1, h2⟩ := h
  refine ⟨_, rfl, ?_⟩
  repeat' first
    | with_reducible assumption | intro _ | with_reducible exact same_refl | with_reducible apply same_serve
    | with_reducible apply same_queueRead | dsimp only

theorem same_execModifyParam {p : Part} {s u : State} {a0 : PortId} {a1 : Byte} {a2 : Fin 65536} {a3 : Fin 65536} {a4 : Fin 65536} (hu : p.same s u) (h : keeps Foot.execModifyParam p = true) :
    ∃ t, execModifyParam a0 a1 a2 a3 a4 u = .next t ∧ p.same s t := by
  simp [Foot.execModifyParam, and_assoc] at h
  obtain ⟨h1, h2⟩ := h
  refine ⟨_, rfl, ?_⟩
  repeat' first
    | with_reducible assumption | intro _ | with_reducible exact same_refl | with_reducible apply same_serve
    | with_reducible apply same_modifyParam | dsimp only

theorem same_execLeaveService {p : Part} {s u : State} {a0 : PortId} {a1 : Byte} {a2 : Fin 65536} (hu : p.same s u) (h : keeps Foot.execLeaveService p = true) :
    ∃ t, execLeaveService a0 a1 a2 u = .next t ∧ p.same s t := by
  simp [Foot.execLeaveService, and_assoc] at h
  obtain ⟨h1, h2⟩ := h
  refine ⟨_, rfl, ?_⟩
  repeat' first
    | with_reducible assumption | intro _ | with_reducible exact same_refl | with_reducible apply same_modeRequest
    | with_reducible apply same_leaveService | with_reducible apply same_answers | dsimp only

theorem same_execReadParam {p : Part} {s u : State} {a0 : PortId} {a1 : Byte} {a2 : Fin 65536} {a3 : Fin 256} (hu : p.same s u) (h : keeps Foot.execReadParam p = true) :
    ∃ t, execReadParam a0 a1 a2 a3 u = .next t ∧ p.same s t := by
  simp [Foot.execReadParam, and_assoc] at h
  obtain ⟨h1, h2⟩ := h
  refine ⟨_, rfl, ?_⟩
  repeat' first
    | with_reducible assumption | intro _ | with_reducible exact same_refl | with_reducible apply same_serve
    | with_reducible apply same_readParam | dsimp only

theorem same_execDeviceRestart {p : Part} {s u : State} {a0 : PortId} {a1 : Byte} {a2 : Fin 65536} (hu : p.same s u) (h : keeps Foot.execDeviceRestart p = true) :
    ∃ t, execDeviceRestart a0 a1 a2 u = .next t ∧ p.same s t := by
  simp [Foot.execDeviceRestart, and_assoc] at h
  obtain ⟨h1, h2⟩ := h
  refine ⟨_, rfl, ?_⟩
  repeat' first
    | with_reducible assumption | intro _ | with_reducible exact same_refl | with_reducible apply same_serve
    | with_reducible apply same_restartDue | dsimp only

theorem same_execPing {p : Part} {s u : State} {a0 : PortId} {a1 : Byte} {a2 : List Byte} (hu : p.same s u) (h : keeps Foot.execPing p = true) :
    ∃ t, execPing a0 a1 a2 u = .next t ∧ p.same s t := by
  simp [Foot.execPing, and_assoc] at h
  obtain ⟨h1, h2⟩ := h
  refine ⟨_, rfl, ?_⟩
  repeat' first
    | with_reducible assumption | intro _ | with_reducible exact same_refl | with_reducible apply same_serve
    | with_reducible apply same_okData | dsimp only

theorem same_execRailControlSetState {p : Part} {s u : State} {a0 : PortId} {a1 : Byte} {a2 : Fin 256} {a3 : Fin 65536} (hu : p.same s u) (h : keeps Foot.execRailControlSetState p = true) :
    ∃ t, execRailControlSetState a0 a1 a2 a3 u = .next t ∧ p.same s t := by
  simp [Foot.execRailControlSetState, and_assoc] at h
  refine ⟨_, rfl, ?_⟩
  repeat' first
    | with_reducible assumption | intro _ | with_reducible exact same_refl | with_reducible apply same_railControl
    | with_reducible apply same_answers | dsimp only

theorem same_execSelftestStop {p : Part} {s u : State} {a0 : PortId} {a1 : Byte} {a2 : Fin 256} (hu : p.same s u) (h : keeps Foot.execSelftestStop p = true) :
    ∃ t, execSelftestStop a0 a1 a2 u = .next t ∧ p.same s t := by
  simp [Foot.execSelftestStop, and_assoc] at h
  obtain ⟨h1, h2, h3⟩ := h
  refine ⟨_, rfl, ?_⟩
  repeat' first
    | with_reducible assumption | intro _ | with_reducible exact same_refl | with_reducible apply same_each
    | with_reducible apply same_serve | with_reducible apply same_abortSlice | with_reducible apply same_roundDrop
    | with_reducible apply same_ite | with_reducible apply same_ite_fst | with_reducible apply same_ite_state | dsimp only
    | split

theorem same_execWdtCheckin {p : Part} {s u : State} {a0 : PortId} {a1 : Byte} {a2 : Fin 256} (hu : p.same s u) (h : keeps Foot.execWdtCheckin p = true) :
    ∃ t, execWdtCheckin a0 a1 a2 u = .next t ∧ p.same s t := by
  simp [Foot.execWdtCheckin, and_assoc] at h
  obtain ⟨h1, h2, h3⟩ := h
  refine ⟨_, rfl, ?_⟩
  repeat' first
    | with_reducible assumption | intro _ | with_reducible exact same_refl | with_reducible apply same_serve
    | with_reducible apply same_refusal | with_reducible apply same_checkIn | with_reducible apply same_ite
    | with_reducible apply same_ite_fst | with_reducible apply same_ite_state | dsimp only | split

end Sys2Proof.Machine.Part
end

