-- ==== Sys2Proof/Laws/SameSystem.lean ====
section
/-! SUPPORT. What the operations of Machine/System.lean leave as before: one lemma for each. -/

set_option linter.all false

namespace Sys2Proof.Machine.Part

theorem same_startSafe {p : Part} {s u : State}  (hu : p.same s u) (h : keeps Foot.startSafe p = true) :
    p.same s (State.startSafe u) := by
  simp [Foot.startSafe, and_assoc] at h
  obtain ⟨h1, h2⟩ := h
  unfold State.startSafe
  repeat' first
    | with_reducible assumption | intro _ | with_reducible exact same_refl | with_reducible apply same_safeRecord
    | with_reducible apply same_safeActions | with_reducible apply same_ite | dsimp only | split

theorem same_safeFunction {p : Part} {s u : State} {a1 : Nat} (hu : p.same s u) (h : keeps Foot.safeFunction p = true) :
    p.same s (State.safeFunction u a1) := by
  simp [Foot.safeFunction, and_assoc] at h
  obtain ⟨h1, h2, h3, h4, h5, h6, h7, h8, h9, h10⟩ := h
  unfold State.safeFunction
  repeat' first
    | with_reducible assumption | intro _ | with_reducible exact same_refl | with_reducible apply same_flag
    | with_reducible apply same_iff | with_reducible apply same_each | with_reducible apply same_chgFollow
    | with_reducible apply same_gates | with_reducible apply same_tripGroup | with_reducible apply same_openPair
    | with_reducible apply same_railsKill | with_reducible apply same_portOff | with_reducible apply same_refFail
    | with_reducible apply same_restartDue | dsimp only | split

theorem same_startLogic {p : Part} {s u : State} {a1 : Nat} {a2 : Nat} (hu : p.same s u) (h : keeps Foot.startLogic p = true) :
    p.same s (State.startLogic u a1 a2) := by
  simp [Foot.startLogic, and_assoc] at h
  obtain ⟨h1, h2, h3, h4, h5, h6, h7, h8, h9, h10, h11⟩ := h
  unfold State.startLogic
  repeat' first
    | with_reducible assumption | intro _ | with_reducible exact same_refl | with_reducible apply same_set
    | with_reducible apply same_flag | with_reducible apply same_each | with_reducible apply same_wakeRestart
    | with_reducible apply same_bootFollow | with_reducible apply same_bootConfig | with_reducible apply same_periodNext
    | with_reducible apply same_safeFunction | with_reducible apply same_ite | with_reducible apply same_ite_fst
    | with_reducible apply same_ite_state | dsimp only | split

theorem same_selectedRecord {p : Part} {s u : State} {a1 : Bool} (hu : p.same s u) (h : keeps Foot.selectedRecord p = true) :
    p.same s (State.selectedRecord u a1) := by
  simp [Foot.selectedRecord, and_assoc] at h
  obtain ⟨h1, h2, h3⟩ := h
  unfold State.selectedRecord
  repeat' first
    | with_reducible assumption | intro _ | with_reducible exact same_refl | with_reducible apply same_trialLoad
    | with_reducible apply same_reportAbort | with_reducible apply same_cfgEvent | dsimp only

theorem same_recovered {p : Part} {s u : State}  (hu : p.same s u) (h : keeps Foot.recovered p = true) :
    p.same s (State.recovered u) := by
  simp [Foot.recovered, and_assoc] at h
  obtain ⟨h1, h2, h3⟩ := h
  unfold State.recovered
  repeat' first
    | with_reducible assumption | intro _ | with_reducible exact same_refl | with_reducible apply same_set | dsimp only

theorem same_restartBegin {p : Part} {s u : State}  (hu : p.same s u) (h : keeps Foot.restartBegin p = true) :
    p.same s (State.restartBegin u) := by
  simp [Foot.restartBegin, and_assoc] at h
  obtain ⟨h1, h2, h3, h4, h5, h6, h7, h8⟩ := h
  unfold State.restartBegin
  repeat' first
    | with_reducible assumption | intro _ | with_reducible exact same_refl | with_reducible apply same_flag
    | with_reducible apply same_each | with_reducible apply same_requestFast | with_reducible apply same_hrstnFollow
    | with_reducible apply same_guardInternal | with_reducible apply same_railPs3 | with_reducible apply same_ite
    | with_reducible apply same_ite_fst | with_reducible apply same_ite_state | dsimp only | split

theorem same_roundDone {p : Part} {s u : State} {a1 : Nat} (hu : p.same s u) (h : keeps Foot.roundDone p = true) :
    p.same s (State.roundDone u a1) := by
  simp [Foot.roundDone, and_assoc] at h
  obtain ⟨h1, h2, h3, h4⟩ := h
  unfold State.roundDone
  repeat' first
    | with_reducible assumption | intro _ | with_reducible exact same_refl | with_reducible apply same_inc
    | with_reducible apply same_set | with_reducible apply same_ended | with_reducible apply same_roundDrop | dsimp only

theorem same_coldParts {p : Part} {s u : State}  (hu : p.same s u) (h : keeps Foot.coldParts p = true) :
    p.same s (State.coldParts u) := by
  simp [Foot.coldParts, and_assoc] at h
  obtain ⟨h1, h2, h3, h4, h5, h6, h7, h8, h9, h10, h11, h12⟩ := h
  exact same_all (u := u) rfl hu (fun _ _ => rfl) (fun c => by cases c <;> first | exact Or.inr rfl | exact Or.inl (by assumption))

theorem same_offerHeld {p : Part} {s u : State}  (hu : p.same s u) (h : keeps Foot.offerHeld p = true) :
    p.same s (State.offerHeld u) := by
  simp [Foot.offerHeld, and_assoc] at h
  obtain ⟨h1, h2⟩ := h
  unfold State.offerHeld
  repeat' first
    | with_reducible assumption | intro _ | with_reducible exact same_refl | with_reducible apply same_offer
    | with_reducible apply same_ite | with_reducible apply same_foldl | with_reducible apply same_ite_fst
    | with_reducible apply same_ite_state | dsimp only | split | with_reducible apply same_with_held

theorem same_startRecords {p : Part} {s u : State} {a1 : Bool} {a2 : List Nat} {a3 : Nat} {a4 : Nat} (hu : p.same s u) (h : keeps Foot.startRecords p = true) :
    p.same s (State.startRecords u a1 a2 a3 a4) := by
  simp [Foot.startRecords, and_assoc] at h
  obtain ⟨h1, h2, h3, h4, h5, h6, h7, h8⟩ := h
  unfold State.startRecords
  repeat' first
    | with_reducible assumption | intro _ | with_reducible exact same_refl | with_reducible apply same_each
    | with_reducible apply same_set | with_reducible apply same_bootScan | with_reducible apply same_record
    | with_reducible apply same_modeWrite | with_reducible apply same_offerHeld | with_reducible apply same_selectedRecord
    | with_reducible apply same_modeFollow | with_reducible apply same_startSafe | dsimp only | split

theorem same_startMode {p : Part} {s u : State} {a1 : Nat} (hu : p.same s u) (h : keeps Foot.startMode p = true) :
    p.same s (State.startMode u a1) := by
  simp [Foot.startMode, and_assoc] at h
  obtain ⟨h1, h2, h3, h4⟩ := h
  unfold State.startMode
  repeat' first
    | with_reducible assumption | intro _ | with_reducible exact same_refl | with_reducible apply same_set
    | with_reducible apply same_iff | with_reducible apply same_modeTerms | with_reducible apply same_modeEntry | dsimp only

theorem same_retest {p : Part} {s u : State} {a1 : Nat} (hu : p.same s u) (h : keeps Foot.retest p = true) :
    p.same s (State.retest u a1) := by
  simp [Foot.retest, and_assoc] at h
  obtain ⟨h1, h2, h3, h4, h5⟩ := h
  unfold State.retest
  repeat' first
    | with_reducible assumption | intro _ | with_reducible exact same_refl | with_reducible apply same_each
    | with_reducible apply same_iff | with_reducible apply same_flag | with_reducible apply same_setBit
    | with_reducible apply same_latchStand | with_reducible apply same_ended | with_reducible apply same_roundDone
    | with_reducible apply same_ite | with_reducible apply same_ite_fst | with_reducible apply same_ite_state | dsimp only
    | split

theorem same_supplyLost {p : Part} {s u : State} {a1 : Bool} (hu : p.same s u) (h : keeps Foot.supplyLost p = true) :
    p.same s (State.supplyLost u a1) := by
  simp [Foot.supplyLost, and_assoc] at h
  obtain ⟨h1, h2, h3, h4, h5, h6, h7⟩ := h
  unfold State.supplyLost
  repeat' first
    | exact same_keepFields (by assumption) (scope_cold (by assumption))
    | refine same_keepFields ?_ (scope_cold (by assumption)) | with_reducible assumption | intro _
    | with_reducible exact same_refl | with_reducible apply same_flag | with_reducible apply same_keepFields
    | with_reducible apply same_stopCommit | with_reducible apply same_advanceHead | with_reducible apply same_addSector
    | with_reducible apply same_hrstnFollow | with_reducible apply same_coldParts | with_reducible apply same_ite
    | with_reducible apply same_ite_fst | with_reducible apply same_ite_state | dsimp only | split

theorem same_execVaoBelowReset {p : Part} {s u : State} {a0 : SupplyLoss} (hu : p.same s u) (h : keeps Foot.execVaoBelowReset p = true) :
    ∃ t, execVaoBelowReset a0 u = .next t ∧ p.same s t := by
  simp [Foot.execVaoBelowReset, and_assoc] at h
  obtain ⟨h1, h2, h3, h4⟩ := h
  refine ⟨_, rfl, ?_⟩
  repeat' first
    | with_reducible assumption | intro _ | with_reducible exact same_refl | with_reducible apply same_flag
    | with_reducible apply same_supplyLost | with_reducible apply same_ite | with_reducible apply off_ite | dsimp only
    | split | with_reducible apply same_with_retained | with_reducible apply same_with_retainedOld
    | with_reducible apply same_with_retained_retainedOld

theorem same_alwaysOnReset {p : Part} {s u : State}  (hu : p.same s u) (h : keeps Foot.alwaysOnReset p = true) :
    p.same s (State.alwaysOnReset u) := by
  simp [Foot.alwaysOnReset, and_assoc] at h
  obtain ⟨h1, h2, h3, h4, h5, h6, h7, h8, h9, h10, h11⟩ := h
  unfold State.alwaysOnReset
  repeat' first
    | with_reducible assumption | intro _ | with_reducible exact same_refl | with_reducible apply same_clear
    | with_reducible apply same_flag | dsimp only

theorem same_lbist {p : Part} {s u : State} {a1 : Nat} (hu : p.same s u) (h : keeps Foot.lbist p = true) :
    p.same s (State.lbist u a1) := by
  simp [Foot.lbist, and_assoc] at h
  obtain ⟨h1, h2, h3, h4, h5, h6⟩ := h
  unfold State.lbist
  repeat' first
    | with_reducible assumption | intro _ | with_reducible exact same_refl | with_reducible apply same_each
    | with_reducible apply same_set | with_reducible apply same_flag | with_reducible apply same_roundDone
    | with_reducible apply same_safeCause | with_reducible apply same_ite | with_reducible apply same_ite_fst
    | with_reducible apply same_ite_state | with_reducible apply off_ite | dsimp only | split

theorem same_heldFollow {p : Part} {s u : State}  (hu : p.same s u) (h : keeps Foot.heldFollow p = true) :
    p.same s (State.heldFollow u) := by
  simp [Foot.heldFollow, and_assoc] at h
  obtain ⟨h1, h2⟩ := h
  unfold State.heldFollow
  repeat' first
    | with_reducible assumption | intro _ | with_reducible exact same_refl | with_reducible apply same_followAlert
    | with_reducible apply same_hrstnFollow | dsimp only

theorem same_execPowerOnReset {p : Part} {s u : State} {a0 : StartRun} {a1 : Nat} {a2 : Nat} {a3 : Nat} (hu : p.same s u) (h : keeps Foot.execPowerOnReset p = true) :
    ∃ t, execPowerOnReset a0 a1 a2 a3 u = .next t ∧ p.same s t := by
  simp [Foot.execPowerOnReset, and_assoc] at h
  obtain ⟨h1, h2, h3, h4, h5, h6, h7, h8, h9, h10, h11, h12, h13, h14⟩ := h
  refine ⟨_, rfl, ?_⟩
  repeat' first
    | with_reducible assumption | intro _ | with_reducible exact same_refl | with_reducible apply same_set
    | with_reducible apply same_flag | with_reducible apply same_alwaysOnReset | with_reducible apply same_supplyLost
    | with_reducible apply same_strapFollow | with_reducible apply same_otpFollow | with_reducible apply same_lbist
    | with_reducible apply same_heldFollow | with_reducible apply same_startLogic | with_reducible apply same_startMode
    | with_reducible apply same_startRecords | with_reducible apply same_ite | dsimp only | split
    | with_reducible apply same_with_grownBad

theorem same_logicReset {p : Part} {s u : State}  (hu : p.same s u) (h : keeps Foot.logicReset p = true) :
    p.same s (State.logicReset u) := by
  simp [Foot.logicReset, and_assoc] at h
  obtain ⟨h1, h2, h3, h4, h5, h6, h7, h8, h9, h10, h11, h12, h13, h14, h15, h16, h17, h18, h19, h20⟩ := h
  unfold State.logicReset
  repeat' first
    | with_reducible assumption | intro _ | with_reducible exact same_refl | with_reducible apply same_keepFields
    | with_reducible apply same_flag | with_reducible apply same_set | with_reducible apply same_abortErase | dsimp only
    | with_reducible apply same_with_latched | refine same_keepFields ?_ (scope_restart (by assumption))
    | exact scope_restart (by assumption) _ (by assumption)
    | exact same_keepFields (by assumption) (scope_restart (by assumption))
    | refine same_all (u := (u.abortErase.keepFields keptAtRestart)) rfl ?_ (fun _ _ => rfl) (fun c => by cases c <;> first | exact Or.inr rfl | exact Or.inl (by assumption))

theorem same_restartEnd {p : Part} {s u : State} {a1 : Nat} {a2 : Nat} {a3 : Nat} (hu : p.same s u) (h : keeps Foot.restartEnd p = true) :
    p.same s (State.restartEnd u a1 a2 a3) := by
  simp [Foot.restartEnd, and_assoc] at h
  obtain ⟨h1, h2, h3, h4, h5, h6, h7, h8, h9, h10, h11, h12, h13, h14, h15, h16, h17⟩ := h
  unfold State.restartEnd
  repeat' first
    | with_reducible assumption | intro _ | with_reducible exact same_refl | with_reducible apply same_each
    | with_reducible apply same_set | with_reducible apply same_iff | with_reducible apply same_flag
    | with_reducible apply same_chgHold | with_reducible apply same_logicReset | with_reducible apply same_recovered
    | with_reducible apply same_retest | with_reducible apply same_lbist | with_reducible apply same_heldFollow
    | with_reducible apply same_marginFollow | with_reducible apply same_startLogic
    | with_reducible apply same_selectedRecord | with_reducible apply same_modeTerms | with_reducible apply same_wdtEvent
    | with_reducible apply same_startSafe | with_reducible apply same_changeMode | with_reducible apply same_modeFollow
    | with_reducible apply same_ite | with_reducible apply same_ite_fst | with_reducible apply same_ite_state
    | with_reducible apply off_ite | dsimp only | split

theorem same_exitNacks {p : Part} {s u : State} {a1 : Nat} (hu : p.same s u) (h : keeps Foot.exitNacks p = true) :
    p.same s (State.exitNacks u a1) := by
  simp [Foot.exitNacks, and_assoc] at h
  obtain ⟨h1, h2⟩ := h
  unfold State.exitNacks
  repeat' first
    | with_reducible assumption | intro _ | with_reducible exact same_refl | with_reducible apply same_flag
    | with_reducible apply same_set | with_reducible apply same_ite | dsimp only | split

theorem same_execShipDelayExpire {p : Part} {s u : State}  (hu : p.same s u) (h : keeps Foot.execShipDelayExpire p = true) :
    ∃ t, execShipDelayExpire u = .next t ∧ p.same s t := by
  simp [Foot.execShipDelayExpire, and_assoc] at h
  obtain ⟨h1, h2, h3⟩ := h
  refine ⟨_, rfl, ?_⟩
  repeat' first
    | with_reducible assumption | intro _ | with_reducible exact same_refl | with_reducible apply same_flag
    | with_reducible apply same_demandFollow | with_reducible apply same_cause | with_reducible apply same_ite
    | with_reducible apply off_ite | dsimp only | split

theorem same_flushAll {p : Part} {s u : State} {a0 : Nat} (hu : p.same s u) (h : keeps Foot.flushAll p = true) :
    p.same s (State.flushAll a0 u) := by
  simp [Foot.flushAll, and_assoc] at h
  induction a0 generalizing u with
  | zero => exact hu
  | succ n ih =>
    unfold State.flushAll
    repeat' first
      | with_reducible assumption
      | with_reducible exact same_refl
      | with_reducible apply ih
      | with_reducible apply same_commitSector
      | with_reducible apply same_ite
      | dsimp only

theorem same_timeTick {p : Part} {s u : State}  (hu : p.same s u) (h : keeps Foot.timeTick p = true) :
    p.same s (State.timeTick u) := by
  simp [Foot.timeTick, and_assoc] at h
  obtain ⟨h1, h2, h3⟩ := h
  unfold State.timeTick
  repeat' first
    | with_reducible assumption | intro _ | with_reducible exact same_refl | with_reducible apply same_set
    | with_reducible apply same_iff | with_reducible apply same_flag | dsimp only

theorem same_overdueCheck {p : Part} {s u : State}  (hu : p.same s u) (h : keeps Foot.overdueCheck p = true) :
    p.same s (State.overdueCheck u) := by
  simp [Foot.overdueCheck, and_assoc] at h
  unfold State.overdueCheck
  repeat' first
    | with_reducible assumption | intro _ | with_reducible exact same_refl | with_reducible apply same_each
    | with_reducible apply same_latchStand | with_reducible apply same_ite | with_reducible apply same_ite_fst
    | with_reducible apply same_ite_state | dsimp only | split

theorem same_tick {p : Part} {s u : State}  (hu : p.same s u) (h : keeps Foot.tick p = true) :
    p.same s (State.tick u) := by
  simp [Foot.tick, and_assoc] at h
  obtain ⟨h1, h2, h3, h4, h5, h6, h7, h8, h9⟩ := h
  unfold State.tick
  repeat' first
    | with_reducible assumption | intro _ | with_reducible exact same_refl | with_reducible apply same_set
    | with_reducible apply same_iff | with_reducible apply same_hrstnEase | with_reducible apply same_timeTick
    | with_reducible apply same_overdueCheck | with_reducible apply same_staleCheck | with_reducible apply same_wdtTick
    | with_reducible apply same_startStoreProgram | with_reducible apply same_ite | with_reducible apply same_ite_fst
    | with_reducible apply same_ite_state | dsimp only | split

theorem same_execDeviceRestartReset {p : Part} {s u : State} {a0 : Fin 256} {a1 : Nat} {a2 : Nat} (hu : p.same s u) (h : keeps Foot.execDeviceRestartReset p = true) :
    ∃ t, execDeviceRestartReset a0 a1 a2 u = .next t ∧ p.same s t := by
  simp [Foot.execDeviceRestartReset, and_assoc] at h
  obtain ⟨h1, h2⟩ := h
  refine ⟨_, rfl, ?_⟩
  repeat' first
    | with_reducible assumption | intro _ | with_reducible exact same_refl | with_reducible apply same_restartBegin
    | with_reducible apply same_restartEnd | with_reducible apply same_ite | with_reducible apply off_ite | dsimp only
    | split

theorem same_execShipEntryComplete {p : Part} {s u : State}  (hu : p.same s u) (h : keeps Foot.execShipEntryComplete p = true) :
    ∃ t, execShipEntryComplete u = .next t ∧ p.same s t := by
  simp [Foot.execShipEntryComplete, and_assoc] at h
  obtain ⟨h1, h2, h3, h4, h5, h6, h7, h8, h9, h10, h11, h12, h13, h14, h15, h16⟩ := h
  refine ⟨_, rfl, ?_⟩
  repeat' first
    | with_reducible assumption | intro _ | with_reducible exact same_refl | with_reducible apply same_each
    | with_reducible apply same_set | with_reducible apply same_flag | with_reducible apply same_abortSlice
    | with_reducible apply same_portOff | with_reducible apply same_modeRecord | with_reducible apply same_flushAll
    | with_reducible apply same_openPair | with_reducible apply same_stopVpre | with_reducible apply same_stopVaux
    | with_reducible apply same_followAlert | with_reducible apply same_ite | with_reducible apply same_ite_fst
    | with_reducible apply same_ite_state | with_reducible apply off_ite | dsimp only | split

theorem same_execRetainedSramLost {p : Part} {s u : State}  (hu : p.same s u) (h : keeps Foot.execRetainedSramLost p = true) :
    ∃ t, execRetainedSramLost u = .next t ∧ p.same s t := by
  simp [Foot.execRetainedSramLost, and_assoc] at h
  obtain ⟨h1, h2⟩ := h
  refine ⟨_, rfl, ?_⟩
  repeat' first
    | with_reducible assumption | intro _ | with_reducible exact same_refl | dsimp only
    | with_reducible apply same_with_retained | with_reducible apply same_with_retainedOld
    | with_reducible apply same_with_retained_retainedOld

theorem same_execShipExit {p : Part} {s u : State} {a0 : Bool} {a1 : ExitRun} {a2 : Nat} {a3 : Nat} {a4 : Nat} (hu : p.same s u) (h : keeps Foot.execShipExit p = true) :
    ∃ t, execShipExit a0 a1 a2 a3 a4 u = .next t ∧ p.same s t := by
  simp [Foot.execShipExit, and_assoc] at h
  obtain ⟨h1, h2, h3, h4, h5, h6, h7, h8, h9, h10, h11, h12, h13, h14, h15, h16, h17, h18, h19, h20⟩ := h
  refine ⟨_, rfl, ?_⟩
  repeat' first
    | with_reducible assumption | intro _ | with_reducible exact same_refl | with_reducible apply same_flag
    | with_reducible apply same_set | with_reducible apply same_coldParts | with_reducible apply same_logicReset
    | with_reducible apply same_otpFollow | with_reducible apply same_lbist | with_reducible apply same_strapFollow
    | with_reducible apply same_heldFollow | with_reducible apply same_exitNacks | with_reducible apply same_startLogic
    | with_reducible apply same_startMode | with_reducible apply same_startRecords | with_reducible apply same_ite
    | dsimp only | split

end Sys2Proof.Machine.Part
end

