-- ==== Sys2Proof/Laws/SameWatchdog.lean ====
section
/-! SUPPORT. What the operations of Machine/Watchdog.lean leave as before: one lemma for each. -/

set_option linter.all false

namespace Sys2Proof.Machine.Part

theorem same_execWdtInternalService {p : Part} {s u : State}  (hu : p.same s u) (h : keeps Foot.execWdtInternalService p = true) :
    ∃ t, execWdtInternalService u = .next t ∧ p.same s t := by
  simp [Foot.execWdtInternalService, and_assoc] at h
  refine ⟨_, rfl, ?_⟩
  repeat' first
    | with_reducible assumption | intro _ | with_reducible exact same_refl | with_reducible apply same_periodNext
    | with_reducible apply same_ite | with_reducible apply off_ite | dsimp only | split

theorem same_execYellowPulseEnd {p : Part} {s u : State}  (hu : p.same s u) (h : keeps Foot.execYellowPulseEnd p = true) :
    ∃ t, execYellowPulseEnd u = .next t ∧ p.same s t := by
  simp [Foot.execYellowPulseEnd, and_assoc] at h
  obtain ⟨h1, h2, h3⟩ := h
  refine ⟨_, rfl, ?_⟩
  repeat' first
    | with_reducible assumption | intro _ | with_reducible exact same_refl | with_reducible apply same_flag
    | with_reducible apply same_iff | with_reducible apply same_hrstnFollow | with_reducible apply same_guardTasks
    | with_reducible apply same_ite | with_reducible apply off_ite | dsimp only | split

theorem same_execSupWarn {p : Part} {s u : State} {a0 : Nat} (hu : p.same s u) (h : keeps Foot.execSupWarn p = true) :
    ∃ t, execSupWarn a0 u = .next t ∧ p.same s t := by
  simp [Foot.execSupWarn, and_assoc] at h
  obtain ⟨h1, h2⟩ := h
  refine ⟨_, rfl, ?_⟩
  repeat' first
    | with_reducible assumption | intro _ | with_reducible exact same_refl | with_reducible apply same_set
    | with_reducible apply same_rideBegin | with_reducible apply same_ite | with_reducible apply off_ite | dsimp only
    | split

theorem same_internalFault {p : Part} {s u : State}  (hu : p.same s u) (h : keeps Foot.internalFault p = true) :
    p.same s (State.internalFault u) := by
  simp [Foot.internalFault, and_assoc] at h
  obtain ⟨h1, h2, h3⟩ := h
  unfold State.internalFault
  repeat' first
    | with_reducible assumption | intro _ | with_reducible exact same_refl | with_reducible apply same_putReply
    | with_reducible apply same_autoServe | dsimp only | split | with_reducible apply same_with_requests

theorem same_execWdtKey {p : Part} {s u : State} {a0 : Fin 256} (hu : p.same s u) (h : keeps Foot.execWdtKey p = true) :
    ∃ t, execWdtKey a0 u = .next t ∧ p.same s t := by
  simp [Foot.execWdtKey, and_assoc] at h
  refine ⟨_, rfl, ?_⟩
  repeat' first
    | with_reducible assumption | intro _ | with_reducible exact same_refl | with_reducible apply same_keyWrite | dsimp only

theorem same_execWdtEnable {p : Part} {s u : State}  (hu : p.same s u) (h : keeps Foot.execWdtEnable p = true) :
    ∃ t, execWdtEnable u = .next t ∧ p.same s t := by
  simp [Foot.execWdtEnable, and_assoc] at h
  refine ⟨_, rfl, ?_⟩
  repeat' first
    | with_reducible assumption | intro _ | with_reducible exact same_refl | with_reducible apply same_disableWrite
    | with_reducible apply same_ite | with_reducible apply off_ite | dsimp only | split

theorem same_execSequencerSilent {p : Part} {s u : State} {a0 : Fin 4} (hu : p.same s u) (h : keeps Foot.execSequencerSilent p = true) :
    ∃ t, execSequencerSilent a0 u = .next t ∧ p.same s t := by
  simp [Foot.execSequencerSilent, and_assoc] at h
  obtain ⟨h1, h2⟩ := h
  refine ⟨_, rfl, ?_⟩
  repeat' first
    | with_reducible assumption | intro _ | with_reducible exact same_refl | with_reducible apply same_iff
    | with_reducible apply same_seqRestart | with_reducible apply same_internalFault | with_reducible apply same_ite
    | with_reducible apply off_ite | dsimp only | split

theorem same_execRideThroughEnd {p : Part} {s u : State}  (hu : p.same s u) (h : keeps Foot.execRideThroughEnd p = true) :
    ∃ t, execRideThroughEnd u = .next t ∧ p.same s t := by
  simp [Foot.execRideThroughEnd, and_assoc] at h
  refine ⟨_, rfl, ?_⟩
  repeat' first
    | with_reducible assumption | intro _ | with_reducible exact same_refl | with_reducible apply same_rideEnd
    | with_reducible apply same_ite | with_reducible apply off_ite | dsimp only | split

theorem same_execWdtExpire {p : Part} {s u : State}  (hu : p.same s u) (h : keeps Foot.execWdtExpire p = true) :
    ∃ t, execWdtExpire u = .next t ∧ p.same s t := by
  simp [Foot.execWdtExpire, and_assoc] at h
  refine ⟨_, rfl, ?_⟩
  repeat' first
    | with_reducible assumption | intro _ | with_reducible exact same_refl | with_reducible apply same_expire
    | with_reducible apply same_ite | with_reducible apply off_ite | dsimp only | split

theorem same_execWdtDisableSequence {p : Part} {s u : State}  (hu : p.same s u) (h : keeps Foot.execWdtDisableSequence p = true) :
    ∃ t, execWdtDisableSequence u = .next t ∧ p.same s t := by
  simp [Foot.execWdtDisableSequence, and_assoc] at h
  refine ⟨_, rfl, ?_⟩
  repeat' first
    | with_reducible assumption | intro _ | with_reducible exact same_refl | with_reducible apply same_disableWrite
    | with_reducible apply same_ite | with_reducible apply off_ite | dsimp only | split

theorem same_execWdtLockSet {p : Part} {s u : State}  (hu : p.same s u) (h : keeps Foot.execWdtLockSet p = true) :
    ∃ t, execWdtLockSet u = .next t ∧ p.same s t := by
  simp [Foot.execWdtLockSet, and_assoc] at h
  refine ⟨_, rfl, ?_⟩
  repeat' first
    | with_reducible assumption | intro _ | with_reducible exact same_refl | with_reducible apply same_lockWrite
    | dsimp only

end Sys2Proof.Machine.Part
end

