-- ==== Sys2Proof/Laws/SameThermal.lean ====
section
/-! SUPPORT. What the operations of Machine/Thermal.lean leave as before: one lemma for each. -/

set_option linter.all false

namespace Sys2Proof.Machine.Part

theorem same_thBad {p : Part} {s u : State} {a1 : Nat} (hu : p.same s u) (h : keeps Foot.thBad p = true) :
    p.same s (State.thBad u a1) := by
  simp [Foot.thBad, and_assoc] at h
  obtain ⟨h1, h2, h3, h4, h5, h6⟩ := h
  unfold State.thBad
  repeat' first
    | with_reducible assumption | intro _ | with_reducible exact same_refl | with_reducible apply same_set
    | with_reducible apply same_iff | with_reducible apply same_thLatch | with_reducible apply same_setTemp
    | with_reducible apply same_setJudge | with_reducible apply same_fbHold | with_reducible apply same_ite
    | with_reducible apply same_ite_fst | with_reducible apply same_ite_state | dsimp only | split

theorem same_readmit {p : Part} {s u : State} {a1 : Nat} (hu : p.same s u) (h : keeps Foot.readmit p = true) :
    p.same s (State.readmit u a1) := by
  simp [Foot.readmit, and_assoc] at h
  obtain ⟨h1, h2, h3, h4⟩ := h
  unfold State.readmit
  repeat' first
    | with_reducible assumption | intro _ | with_reducible exact same_refl | with_reducible apply same_flag
    | with_reducible apply same_setInstate | with_reducible apply same_restartClass | with_reducible apply same_ite
    | dsimp only | split

theorem same_thermGroupBack {p : Part} {s u : State} {a1 : Nat} (hu : p.same s u) (h : keeps Foot.thermGroupBack p = true) :
    p.same s (State.thermGroupBack u a1) := by
  simp [Foot.thermGroupBack, and_assoc] at h
  obtain ⟨h1, h2, h3, h4⟩ := h
  unfold State.thermGroupBack
  repeat' first
    | with_reducible assumption | intro _ | with_reducible exact same_refl | with_reducible apply same_setBit
    | with_reducible apply same_settleGroup | with_reducible apply same_readmit | with_reducible apply same_endTrip
    | with_reducible apply same_ite | dsimp only | split

theorem same_holdFollow {p : Part} {s u : State}  (hu : p.same s u) (h : keeps Foot.holdFollow p = true) :
    p.same s (State.holdFollow u) := by
  simp [Foot.holdFollow, and_assoc] at h
  unfold State.holdFollow
  repeat' first
    | with_reducible assumption | intro _ | with_reducible exact same_refl | with_reducible apply same_flag | dsimp only
    | split

theorem same_thermGroup {p : Part} {s u : State} {a1 : Nat} (hu : p.same s u) (h : keeps Foot.thermGroup p = true) :
    p.same s (State.thermGroup u a1) := by
  simp [Foot.thermGroup, and_assoc] at h
  obtain ⟨h1, h2, h3, h4⟩ := h
  unfold State.thermGroup
  repeat' first
    | with_reducible assumption | intro _ | with_reducible exact same_refl | with_reducible apply same_setBit
    | with_reducible apply same_settleGroup | with_reducible apply same_gates | with_reducible apply same_tripGroup
    | with_reducible apply same_ite | dsimp only | split

theorem same_thermStages {p : Part} {s u : State}  (hu : p.same s u) (h : keeps Foot.thermStages p = true) :
    p.same s (State.thermStages u) := by
  simp [Foot.thermStages, and_assoc] at h
  obtain ⟨h1, h2, h3, h4, h5, h6, h7, h8, h9, h10, h11, h12, h13, h14⟩ := h
  unfold State.thermStages
  repeat' first
    | with_reducible assumption | intro _ | with_reducible exact same_refl | with_reducible apply same_each
    | with_reducible apply same_flag | with_reducible apply same_dropCeilings | with_reducible apply same_endP3Window
    | with_reducible apply same_abortSlice | with_reducible apply same_thermGroup | with_reducible apply same_demandOff
    | with_reducible apply same_stopVaux | with_reducible apply same_hrstnFollow | with_reducible apply same_guardInternal
    | with_reducible apply same_railsKill | with_reducible apply same_abortErase | with_reducible apply same_chgStopNow
    | with_reducible apply same_portOff | dsimp only

theorem same_thermStop {p : Part} {s u : State}  (hu : p.same s u) (h : keeps Foot.thermStop p = true) :
    p.same s (State.thermStop u) := by
  simp [Foot.thermStop, and_assoc] at h
  obtain ⟨h1, h2, h3, h4, h5, h6, h7, h8, h9, h10⟩ := h
  unfold State.thermStop
  repeat' first
    | with_reducible assumption | intro _ | with_reducible exact same_refl | with_reducible apply same_set
    | with_reducible apply same_flag | with_reducible apply same_inc | with_reducible apply same_latchStand
    | with_reducible apply same_cause | with_reducible apply same_holdFollow | with_reducible apply same_followAlert
    | with_reducible apply same_requestFast | with_reducible apply same_thermStages | dsimp only

theorem same_thermRelease {p : Part} {s u : State}  (hu : p.same s u) (h : keeps Foot.thermRelease p = true) :
    p.same s (State.thermRelease u) := by
  simp [Foot.thermRelease, and_assoc] at h
  obtain ⟨h1, h2, h3, h4, h5, h6, h7, h8, h9, h10, h11, h12, h13, h14⟩ := h
  unfold State.thermRelease
  repeat' first
    | with_reducible assumption | intro _ | with_reducible exact same_refl | with_reducible apply same_flag
    | with_reducible apply same_set | with_reducible apply same_each | with_reducible apply same_cause
    | with_reducible apply same_ended | with_reducible apply same_holdFollow | with_reducible apply same_reportAbort
    | with_reducible apply same_offer | with_reducible apply same_startVpre | with_reducible apply same_startVaux
    | with_reducible apply same_thermGroupBack | with_reducible apply same_followAlert | with_reducible apply same_chgFollow
    | with_reducible apply same_foldl | dsimp only | with_reducible apply same_with_held

theorem same_execFbClear {p : Part} {s u : State}  (hu : p.same s u) (h : keeps Foot.execFbClear p = true) :
    ∃ t, execFbClear u = .next t ∧ p.same s t := by
  simp [Foot.execFbClear, and_assoc] at h
  refine ⟨_, rfl, ?_⟩
  repeat' first
    | with_reducible assumption | intro _ | with_reducible exact same_refl | with_reducible apply same_fbClear | dsimp only

theorem same_dieJudge {p : Part} {s u : State} {a1 : Bool} (hu : p.same s u) (h : keeps Foot.dieJudge p = true) :
    p.same s (State.dieJudge u a1) := by
  simp [Foot.dieJudge, and_assoc] at h
  obtain ⟨h1, h2, h3, h4⟩ := h
  unfold State.dieJudge
  repeat' first
    | with_reducible assumption | intro _ | with_reducible exact same_refl | with_reducible apply same_iff
    | with_reducible apply same_set | with_reducible apply same_latchStand | with_reducible apply same_ended
    | with_reducible apply same_ite | with_reducible apply same_ite_fst | with_reducible apply same_ite_state | dsimp only
    | split

theorem same_execFoldbackUpdate {p : Part} {s u : State}  (hu : p.same s u) (h : keeps Foot.execFoldbackUpdate p = true) :
    ∃ t, execFoldbackUpdate u = .next t ∧ p.same s t := by
  simp [Foot.execFoldbackUpdate, and_assoc] at h
  refine ⟨_, rfl, ?_⟩
  repeat' first
    | with_reducible assumption | intro _ | with_reducible exact same_refl | with_reducible apply same_foldback | dsimp only

theorem same_execJournalPowerOff {p : Part} {s u : State}  (hu : p.same s u) (h : keeps Foot.execJournalPowerOff p = true) :
    ∃ t, execJournalPowerOff u = .next t ∧ p.same s t := by
  simp [Foot.execJournalPowerOff, and_assoc] at h
  obtain ⟨h1, h2, h3, h4⟩ := h
  refine ⟨_, rfl, ?_⟩
  repeat' first
    | with_reducible assumption | intro _ | with_reducible exact same_refl | with_reducible apply same_storeProgrammed
    | with_reducible apply same_commitSector | with_reducible apply same_stopVpre | with_reducible apply same_stopStore
    | with_reducible apply same_ite | with_reducible apply off_ite | dsimp only | split

theorem same_execFbHoldEnd {p : Part} {s u : State} {a0 : Fin 2} (hu : p.same s u) (h : keeps Foot.execFbHoldEnd p = true) :
    ∃ t, execFbHoldEnd a0 u = .next t ∧ p.same s t := by
  simp [Foot.execFbHoldEnd, and_assoc] at h
  obtain ⟨h1, h2⟩ := h
  refine ⟨_, rfl, ?_⟩
  repeat' first
    | with_reducible assumption | intro _ | with_reducible exact same_refl | with_reducible apply same_iff
    | with_reducible apply same_setBit | with_reducible apply same_fbDone | with_reducible apply same_ite
    | with_reducible apply same_ite_fst | with_reducible apply same_ite_state | with_reducible apply off_ite | dsimp only
    | split

theorem same_thGood {p : Part} {s u : State} {a1 : Nat} {a2 : Int} (hu : p.same s u) (h : keeps Foot.thGood p = true) :
    p.same s (State.thGood u a1 a2) := by
  simp [Foot.thGood, and_assoc] at h
  obtain ⟨h1, h2, h3, h4, h5, h6⟩ := h
  unfold State.thGood
  repeat' first
    | with_reducible assumption | intro _ | with_reducible exact same_refl | with_reducible apply same_setS
    | with_reducible apply same_set | with_reducible apply same_setTemp | with_reducible apply same_thEnded
    | with_reducible apply same_setJudge | with_reducible apply same_ite | dsimp only | split

theorem same_execThermistorReading {p : Part} {s u : State} {a0 : Fin 6} {a1 : Nat} {a2 : Bool} (hu : p.same s u) (h : keeps Foot.execThermistorReading p = true) :
    ∃ t, execThermistorReading a0 a1 a2 u = .next t ∧ p.same s t := by
  simp [Foot.execThermistorReading, and_assoc] at h
  obtain ⟨h1, h2, h3⟩ := h
  refine ⟨_, rfl, ?_⟩
  repeat' first
    | with_reducible assumption | intro _ | with_reducible exact same_refl | with_reducible apply same_thGood
    | with_reducible apply same_thBad | with_reducible apply same_windowFollow | with_reducible apply same_ite
    | with_reducible apply off_ite | dsimp only | split

theorem same_execDieReading {p : Part} {s u : State} {a0 : Int} {a1 : Int} (hu : p.same s u) (h : keeps Foot.execDieReading p = true) :
    ∃ t, execDieReading a0 a1 u = .next t ∧ p.same s t := by
  simp [Foot.execDieReading, and_assoc] at h
  obtain ⟨h1, h2, h3, h4, h5⟩ := h
  refine ⟨_, rfl, ?_⟩
  repeat' first
    | with_reducible assumption | intro _ | with_reducible exact same_refl | with_reducible apply same_setS
    | with_reducible apply same_dieJudge | with_reducible apply same_thermRelease | with_reducible apply same_thermStop
    | with_reducible apply same_ite | with_reducible apply off_ite | dsimp only | split

end Sys2Proof.Machine.Part
end

