-- ==== Sys2Proof/Laws/SameSelfTest.lean ====
section
/-! SUPPORT. What the operations of Machine/SelfTest.lean leave as before: one lemma for each. -/

set_option linter.all false

namespace Sys2Proof.Machine.Part

theorem same_sliceFail {p : Part} {s u : State} {a1 : Nat} (hu : p.same s u) (h : keeps Foot.sliceFail p = true) :
    p.same s (State.sliceFail u a1) := by
  simp [Foot.sliceFail, and_assoc] at h
  obtain ⟨h1, h2, h3, h4, h5⟩ := h
  unfold State.sliceFail
  repeat' first
    | with_reducible assumption | intro _ | with_reducible exact same_refl | with_reducible apply same_flag
    | with_reducible apply same_setBit | with_reducible apply same_latchStand | with_reducible apply same_safeFunction
    | dsimp only

theorem same_slicePass {p : Part} {s u : State} {a1 : Nat} {a2 : Nat} (hu : p.same s u) (h : keeps Foot.slicePass p = true) :
    p.same s (State.slicePass u a1 a2) := by
  simp [Foot.slicePass, and_assoc] at h
  obtain ⟨h1, h2, h3, h4, h5, h6⟩ := h
  unfold State.slicePass
  repeat' first
    | with_reducible assumption | intro _ | with_reducible exact same_refl | with_reducible apply same_iff
    | with_reducible apply same_setBit | with_reducible apply same_flag | with_reducible apply same_inc
    | with_reducible apply same_set | with_reducible apply same_roundDone | with_reducible apply same_endP3Window
    | with_reducible apply same_ite | with_reducible apply same_ite_fst | with_reducible apply same_ite_state | dsimp only
    | split

theorem same_sliceStart {p : Part} {s u : State} {a1 : Nat} (hu : p.same s u) (h : keeps Foot.sliceStart p = true) :
    p.same s (State.sliceStart u a1) := by
  simp [Foot.sliceStart, and_assoc] at h
  obtain ⟨h1, h2, h3⟩ := h
  unfold State.sliceStart
  repeat' first
    | with_reducible assumption | intro _ | with_reducible exact same_refl | with_reducible apply same_set
    | with_reducible apply same_flag | with_reducible apply same_ite | dsimp only | split

theorem same_execBistSliceStart {p : Part} {s u : State} {a0 : Fin 256} (hu : p.same s u) (h : keeps Foot.execBistSliceStart p = true) :
    ∃ t, execBistSliceStart a0 u = .next t ∧ p.same s t := by
  simp [Foot.execBistSliceStart, and_assoc] at h
  refine ⟨_, rfl, ?_⟩
  repeat' first
    | with_reducible assumption | intro _ | with_reducible exact same_refl | with_reducible apply same_sliceStart
    | with_reducible apply same_ite | with_reducible apply off_ite | dsimp only | split

theorem same_execBistSliceEnd {p : Part} {s u : State} {a0 : Bool} (hu : p.same s u) (h : keeps Foot.execBistSliceEnd p = true) :
    ∃ t, execBistSliceEnd a0 u = .next t ∧ p.same s t := by
  simp [Foot.execBistSliceEnd, and_assoc] at h
  obtain ⟨h1, h2, h3, h4, h5, h6⟩ := h
  refine ⟨_, rfl, ?_⟩
  repeat' first
    | with_reducible assumption | intro _ | with_reducible exact same_refl | with_reducible apply same_set
    | with_reducible apply same_flag | with_reducible apply same_slicePass | with_reducible apply same_sliceFail
    | with_reducible apply same_ite | with_reducible apply off_ite | dsimp only | split

end Sys2Proof.Machine.Part
end

