-- ==== Sys2Proof/Laws/State.lean ====
section
/-! SUPPORT. Reading a field or a component of a state after an update: of a field that was written, of another field, and of what
the update does not concern. -/

namespace Sys2Proof.Machine.State

variable {s : State}

/-! ### The field that was written -/

theorem get_lt (s : State) (r : Reg) (i : Nat) : s.get r i < 2 ^ r.width := Nat.mod_lt _ (Nat.two_pow_pos _)

@[simp] theorem get_set_self (s : State) (r : Reg) (v i : Nat) : (s.set r v i).get r i = v % 2 ^ r.width := by
  simp only [State.get, State.set, writeField]
  split
  · rename_i h
    rw [lookKey_dropKey]
    simp [← h]
  · rw [lookKey_putKey]
    simp

@[simp] theorem get_clear_self (s : State) (r : Reg) (i : Nat) : (s.clear r i).get r i = r.resetAt i % 2 ^ r.width := by
  simp [State.get, State.clear, lookKey_dropKey]

/-- A field holds what it was set to where that fits. -/
theorem get_set_fit {r : Reg} {v : Nat} (i : Nat) (h : v < 2 ^ r.width) : (s.set r v i).get r i = v := by
  rw [get_set_self, Nat.mod_eq_of_lt h]

theorem on_flag_self (s : State) (r : Reg) (b : Bool) (i : Nat) (h : r.width ≠ 0) : (s.flag r b i).on r i = b := by
  have h2 : 1 < 2 ^ r.width := Nat.one_lt_two_pow h
  cases b <;> simp [State.on, State.flag, Nat.mod_eq_of_lt h2]

theorem get_add_self (s : State) (r : Reg) (n i : Nat) : (s.add r n i).get r i = min (s.get r i + n) r.top := by
  rw [State.add, get_set_fit]
  have := Nat.two_pow_pos r.width
  simp only [Reg.top]
  omega

/-! ### Another field -/

theorem get_set_ne {r q : Reg} {i j : Nat} (v : Nat) (h : q.key j ≠ r.key i) : (s.set r v i).get q j = s.get q j := by
  simp only [State.get, State.set, lookKey_writeField_ne _ _ _ _ h]

theorem get_clear_ne {r q : Reg} {i j : Nat} (h : q.key j ≠ r.key i) : (s.clear r i).get q j = s.get q j := by
  simp only [State.get, State.clear, lookKey_dropKey_ne _ h]

/-- Two indices of a field have two keys. -/
theorem key_ne {r : Reg} {i j : Nat} (hs : r.stride ≠ 0) (h : i % r.count ≠ j % r.count) : r.key i ≠ r.key j := by
  intro e
  apply h
  have : i % r.count * r.stride = j % r.count * r.stride := by simp only [Reg.key] at e; omega
  exact Nat.eq_of_mul_eq_mul_right (Nat.pos_of_ne_zero hs) this

/-- A field that is off a key at each of its indices, judged index by index. -/
theorem apart {w : Touch} {q : Reg} (hc : q.count ≠ 0) (h : (List.range q.count).all (fun i => w.off (.key (q.key i))) = true)
    (j : Nat) : w.off (.key (q.key j)) = true := by
  rw [List.all_eq_true] at h
  have := h (j % q.count) (List.mem_range.2 (Nat.mod_lt _ (Nat.pos_of_ne_zero hc)))
  simpa only [Reg.key, Nat.mod_mod] using this

/-- The same for a whole footprint. -/
theorem apart_keeps {l : List Touch} {q : Reg} (hc : q.count ≠ 0)
    (h : (List.range q.count).all (fun i => Sys2Proof.Machine.keeps l (Part.key (q.key i))) = true) (j : Nat) :
    Sys2Proof.Machine.keeps l (Part.key (q.key j)) = true := by
  rw [List.all_eq_true] at h
  have := h (j % q.count) (List.mem_range.2 (Nat.mod_lt _ (Nat.pos_of_ne_zero hc)))
  simpa only [Reg.key, Nat.mod_mod] using this

theorem get_set_off {r q : Reg} {i j : Nat} (v : Nat) (h : r.off (q.key j) = true) : (s.set r v i).get q j = s.get q j :=
  get_set_ne v (Reg.off_ne h i)

/-- What a state as before under a key means for the field, its truth value, its signed value and its bits. -/
theorem on_same {t : State} {r : Reg} {i : Nat} (h : (Part.key (r.key i)).same s t) : t.on r i = s.on r i := by
  simp only [State.on, Part.same_get h]

theorem getS_same {t : State} {r : Reg} {i : Nat} (h : (Part.key (r.key i)).same s t) : t.getS r i = s.getS r i := by
  simp only [State.getS, Part.same_get h]

theorem bit_same {t : State} {r : Reg} {b i : Nat} (h : (Part.key (r.key i)).same s t) : t.bit r b i = s.bit r b i := by
  simp only [State.bit, Part.same_get h]

/-! ### Components after an update of a field -/

@[simp] theorem slots_set (s : State) (r : Reg) (v i : Nat) : (s.set r v i).slots = s.slots := rfl
@[simp] theorem held_set (s : State) (r : Reg) (v i : Nat) : (s.set r v i).held = s.held := rfl
@[simp] theorem latched_set (s : State) (r : Reg) (v i : Nat) : (s.set r v i).latched = s.latched := rfl
@[simp] theorem ring_set (s : State) (r : Reg) (v i : Nat) : (s.set r v i).ring = s.ring := rfl
@[simp] theorem ahead_set (s : State) (r : Reg) (v i : Nat) : (s.set r v i).ahead = s.ahead := rfl
@[simp] theorem grownBad_set (s : State) (r : Reg) (v i : Nat) : (s.set r v i).grownBad = s.grownBad := rfl
@[simp] theorem table6_set (s : State) (r : Reg) (v i : Nat) : (s.set r v i).table6 = s.table6 := rfl
@[simp] theorem table7_set (s : State) (r : Reg) (v i : Nat) : (s.set r v i).table7 = s.table7 := rfl
@[simp] theorem factoryBad_set (s : State) (r : Reg) (v i : Nat) : (s.set r v i).factoryBad = s.factoryBad := rfl
@[simp] theorem retained_set (s : State) (r : Reg) (v i : Nat) : (s.set r v i).retained = s.retained := rfl
@[simp] theorem retainedOld_set (s : State) (r : Reg) (v i : Nat) : (s.set r v i).retainedOld = s.retainedOld := rfl
@[simp] theorem program_set (s : State) (r : Reg) (v i : Nat) : (s.set r v i).program = s.program := rfl
@[simp] theorem erase_set (s : State) (r : Reg) (v i : Nat) : (s.set r v i).erase = s.erase := rfl
@[simp] theorem copies_set (s : State) (r : Reg) (v i : Nat) : (s.set r v i).copies = s.copies := rfl
@[simp] theorem storeOps_set (s : State) (r : Reg) (v i : Nat) : (s.set r v i).storeOps = s.storeOps := rfl
@[simp] theorem loaded_set (s : State) (r : Reg) (v i : Nat) : (s.set r v i).loaded = s.loaded := rfl
@[simp] theorem target_set (s : State) (r : Reg) (v i : Nat) : (s.set r v i).target = s.target := rfl
@[simp] theorem staging_set (s : State) (r : Reg) (v i : Nat) : (s.set r v i).staging = s.staging := rfl
@[simp] theorem tw_set (s : State) (r : Reg) (v i : Nat) : (s.set r v i).tw = s.tw := rfl
@[simp] theorem qb_set (s : State) (r : Reg) (v i : Nat) : (s.set r v i).qb = s.qb := rfl
@[simp] theorem driven_set (s : State) (r : Reg) (v i : Nat) : (s.set r v i).driven = s.driven := rfl
@[simp] theorem requests_set (s : State) (r : Reg) (v i : Nat) : (s.set r v i).requests = s.requests := rfl
@[simp] theorem pending_set (s : State) (r : Reg) (v i : Nat) : (s.set r v i).pending = s.pending := rfl

@[simp] theorem slots_flag (s : State) (r : Reg) (b : Bool) (i : Nat) : (s.flag r b i).slots = s.slots := rfl
@[simp] theorem held_flag (s : State) (r : Reg) (b : Bool) (i : Nat) : (s.flag r b i).held = s.held := rfl
@[simp] theorem latched_flag (s : State) (r : Reg) (b : Bool) (i : Nat) : (s.flag r b i).latched = s.latched := rfl
@[simp] theorem ring_flag (s : State) (r : Reg) (b : Bool) (i : Nat) : (s.flag r b i).ring = s.ring := rfl
@[simp] theorem ahead_flag (s : State) (r : Reg) (b : Bool) (i : Nat) : (s.flag r b i).ahead = s.ahead := rfl
@[simp] theorem grownBad_flag (s : State) (r : Reg) (b : Bool) (i : Nat) : (s.flag r b i).grownBad = s.grownBad := rfl
@[simp] theorem table6_flag (s : State) (r : Reg) (b : Bool) (i : Nat) : (s.flag r b i).table6 = s.table6 := rfl
@[simp] theorem table7_flag (s : State) (r : Reg) (b : Bool) (i : Nat) : (s.flag r b i).table7 = s.table7 := rfl
@[simp] theorem factoryBad_flag (s : State) (r : Reg) (b : Bool) (i : Nat) : (s.flag r b i).factoryBad = s.factoryBad := rfl
@[simp] theorem retained_flag (s : State) (r : Reg) (b : Bool) (i : Nat) : (s.flag r b i).retained = s.retained := rfl
@[simp] theorem retainedOld_flag (s : State) (r : Reg) (b : Bool) (i : Nat) : (s.flag r b i).retainedOld = s.retainedOld := rfl
@[simp] theorem program_flag (s : State) (r : Reg) (b : Bool) (i : Nat) : (s.flag r b i).program = s.program := rfl
@[simp] theorem erase_flag (s : State) (r : Reg) (b : Bool) (i : Nat) : (s.flag r b i).erase = s.erase := rfl
@[simp] theorem copies_flag (s : State) (r : Reg) (b : Bool) (i : Nat) : (s.flag r b i).copies = s.copies := rfl
@[simp] theorem storeOps_flag (s : State) (r : Reg) (b : Bool) (i : Nat) : (s.flag r b i).storeOps = s.storeOps := rfl
@[simp] theorem loaded_flag (s : State) (r : Reg) (b : Bool) (i : Nat) : (s.flag r b i).loaded = s.loaded := rfl
@[simp] theorem target_flag (s : State) (r : Reg) (b : Bool) (i : Nat) : (s.flag r b i).target = s.target := rfl
@[simp] theorem staging_flag (s : State) (r : Reg) (b : Bool) (i : Nat) : (s.flag r b i).staging = s.staging := rfl
@[simp] theorem tw_flag (s : State) (r : Reg) (b : Bool) (i : Nat) : (s.flag r b i).tw = s.tw := rfl
@[simp] theorem qb_flag (s : State) (r : Reg) (b : Bool) (i : Nat) : (s.flag r b i).qb = s.qb := rfl
@[simp] theorem driven_flag (s : State) (r : Reg) (b : Bool) (i : Nat) : (s.flag r b i).driven = s.driven := rfl
@[simp] theorem requests_flag (s : State) (r : Reg) (b : Bool) (i : Nat) : (s.flag r b i).requests = s.requests := rfl
@[simp] theorem pending_flag (s : State) (r : Reg) (b : Bool) (i : Nat) : (s.flag r b i).pending = s.pending := rfl

@[simp] theorem slots_setS (s : State) (r : Reg) (x : Int) (i : Nat) : (s.setS r x i).slots = s.slots := rfl
@[simp] theorem held_setS (s : State) (r : Reg) (x : Int) (i : Nat) : (s.setS r x i).held = s.held := rfl
@[simp] theorem latched_setS (s : State) (r : Reg) (x : Int) (i : Nat) : (s.setS r x i).latched = s.latched := rfl
@[simp] theorem ring_setS (s : State) (r : Reg) (x : Int) (i : Nat) : (s.setS r x i).ring = s.ring := rfl
@[simp] theorem ahead_setS (s : State) (r : Reg) (x : Int) (i : Nat) : (s.setS r x i).ahead = s.ahead := rfl
@[simp] theorem grownBad_setS (s : State) (r : Reg) (x : Int) (i : Nat) : (s.setS r x i).grownBad = s.grownBad := rfl
@[simp] theorem table6_setS (s : State) (r : Reg) (x : Int) (i : Nat) : (s.setS r x i).table6 = s.table6 := rfl
@[simp] theorem table7_setS (s : State) (r : Reg) (x : Int) (i : Nat) : (s.setS r x i).table7 = s.table7 := rfl
@[simp] theorem factoryBad_setS (s : State) (r : Reg) (x : Int) (i : Nat) : (s.setS r x i).factoryBad = s.factoryBad := rfl
@[simp] theorem retained_setS (s : State) (r : Reg) (x : Int) (i : Nat) : (s.setS r x i).retained = s.retained := rfl
@[simp] theorem retainedOld_setS (s : State) (r : Reg) (x : Int) (i : Nat) : (s.setS r x i).retainedOld = s.retainedOld := rfl
@[simp] theorem program_setS (s : State) (r : Reg) (x : Int) (i : Nat) : (s.setS r x i).program = s.program := rfl
@[simp] theorem erase_setS (s : State) (r : Reg) (x : Int) (i : Nat) : (s.setS r x i).erase = s.erase := rfl
@[simp] theorem copies_setS (s : State) (r : Reg) (x : Int) (i : Nat) : (s.setS r x i).copies = s.copies := rfl
@[simp] theorem storeOps_setS (s : State) (r : Reg) (x : Int) (i : Nat) : (s.setS r x i).storeOps = s.storeOps := rfl
@[simp] theorem loaded_setS (s : State) (r : Reg) (x : Int) (i : Nat) : (s.setS r x i).loaded = s.loaded := rfl
@[simp] theorem target_setS (s : State) (r : Reg) (x : Int) (i : Nat) : (s.setS r x i).target = s.target := rfl
@[simp] theorem staging_setS (s : State) (r : Reg) (x : Int) (i : Nat) : (s.setS r x i).staging = s.staging := rfl
@[simp] theorem tw_setS (s : State) (r : Reg) (x : Int) (i : Nat) : (s.setS r x i).tw = s.tw := rfl
@[simp] theorem qb_setS (s : State) (r : Reg) (x : Int) (i : Nat) : (s.setS r x i).qb = s.qb := rfl
@[simp] theorem driven_setS (s : State) (r : Reg) (x : Int) (i : Nat) : (s.setS r x i).driven = s.driven := rfl
@[simp] theorem requests_setS (s : State) (r : Reg) (x : Int) (i : Nat) : (s.setS r x i).requests = s.requests := rfl
@[simp] theorem pending_setS (s : State) (r : Reg) (x : Int) (i : Nat) : (s.setS r x i).pending = s.pending := rfl

@[simp] theorem slots_setBit (s : State) (r : Reg) (b : Nat) (v : Bool) (i : Nat) : (s.setBit r b v i).slots = s.slots := rfl
@[simp] theorem held_setBit (s : State) (r : Reg) (b : Nat) (v : Bool) (i : Nat) : (s.setBit r b v i).held = s.held := rfl
@[simp] theorem latched_setBit (s : State) (r : Reg) (b : Nat) (v : Bool) (i : Nat) : (s.setBit r b v i).latched = s.latched := rfl
@[simp] theorem ring_setBit (s : State) (r : Reg) (b : Nat) (v : Bool) (i : Nat) : (s.setBit r b v i).ring = s.ring := rfl
@[simp] theorem ahead_setBit (s : State) (r : Reg) (b : Nat) (v : Bool) (i : Nat) : (s.setBit r b v i).ahead = s.ahead := rfl
@[simp] theorem grownBad_setBit (s : State) (r : Reg) (b : Nat) (v : Bool) (i : Nat) : (s.setBit r b v i).grownBad = s.grownBad := rfl
@[simp] theorem table6_setBit (s : State) (r : Reg) (b : Nat) (v : Bool) (i : Nat) : (s.setBit r b v i).table6 = s.table6 := rfl
@[simp] theorem table7_setBit (s : State) (r : Reg) (b : Nat) (v : Bool) (i : Nat) : (s.setBit r b v i).table7 = s.table7 := rfl
@[simp] theorem factoryBad_setBit (s : State) (r : Reg) (b : Nat) (v : Bool) (i : Nat) : (s.setBit r b v i).factoryBad = s.factoryBad := rfl
@[simp] theorem retained_setBit (s : State) (r : Reg) (b : Nat) (v : Bool) (i : Nat) : (s.setBit r b v i).retained = s.retained := rfl
@[simp] theorem retainedOld_setBit (s : State) (r : Reg) (b : Nat) (v : Bool) (i : Nat) : (s.setBit r b v i).retainedOld = s.retainedOld := rfl
@[simp] theorem program_setBit (s : State) (r : Reg) (b : Nat) (v : Bool) (i : Nat) : (s.setBit r b v i).program = s.program := rfl
@[simp] theorem erase_setBit (s : State) (r : Reg) (b : Nat) (v : Bool) (i : Nat) : (s.setBit r b v i).erase = s.erase := rfl
@[simp] theorem copies_setBit (s : State) (r : Reg) (b : Nat) (v : Bool) (i : Nat) : (s.setBit r b v i).copies = s.copies := rfl
@[simp] theorem storeOps_setBit (s : State) (r : Reg) (b : Nat) (v : Bool) (i : Nat) : (s.setBit r b v i).storeOps = s.storeOps := rfl
@[simp] theorem loaded_setBit (s : State) (r : Reg) (b : Nat) (v : Bool) (i : Nat) : (s.setBit r b v i).loaded = s.loaded := rfl
@[simp] theorem target_setBit (s : State) (r : Reg) (b : Nat) (v : Bool) (i : Nat) : (s.setBit r b v i).target = s.target := rfl
@[simp] theorem staging_setBit (s : State) (r : Reg) (b : Nat) (v : Bool) (i : Nat) : (s.setBit r b v i).staging = s.staging := rfl
@[simp] theorem tw_setBit (s : State) (r : Reg) (b : Nat) (v : Bool) (i : Nat) : (s.setBit r b v i).tw = s.tw := rfl
@[simp] theorem qb_setBit (s : State) (r : Reg) (b : Nat) (v : Bool) (i : Nat) : (s.setBit r b v i).qb = s.qb := rfl
@[simp] theorem driven_setBit (s : State) (r : Reg) (b : Nat) (v : Bool) (i : Nat) : (s.setBit r b v i).driven = s.driven := rfl
@[simp] theorem requests_setBit (s : State) (r : Reg) (b : Nat) (v : Bool) (i : Nat) : (s.setBit r b v i).requests = s.requests := rfl
@[simp] theorem pending_setBit (s : State) (r : Reg) (b : Nat) (v : Bool) (i : Nat) : (s.setBit r b v i).pending = s.pending := rfl

@[simp] theorem slots_add (s : State) (r : Reg) (n i : Nat) : (s.add r n i).slots = s.slots := rfl
@[simp] theorem held_add (s : State) (r : Reg) (n i : Nat) : (s.add r n i).held = s.held := rfl
@[simp] theorem latched_add (s : State) (r : Reg) (n i : Nat) : (s.add r n i).latched = s.latched := rfl
@[simp] theorem ring_add (s : State) (r : Reg) (n i : Nat) : (s.add r n i).ring = s.ring := rfl
@[simp] theorem ahead_add (s : State) (r : Reg) (n i : Nat) : (s.add r n i).ahead = s.ahead := rfl
@[simp] theorem grownBad_add (s : State) (r : Reg) (n i : Nat) : (s.add r n i).grownBad = s.grownBad := rfl
@[simp] theorem table6_add (s : State) (r : Reg) (n i : Nat) : (s.add r n i).table6 = s.table6 := rfl
@[simp] theorem table7_add (s : State) (r : Reg) (n i : Nat) : (s.add r n i).table7 = s.table7 := rfl
@[simp] theorem factoryBad_add (s : State) (r : Reg) (n i : Nat) : (s.add r n i).factoryBad = s.factoryBad := rfl
@[simp] theorem retained_add (s : State) (r : Reg) (n i : Nat) : (s.add r n i).retained = s.retained := rfl
@[simp] theorem retainedOld_add (s : State) (r : Reg) (n i : Nat) : (s.add r n i).retainedOld = s.retainedOld := rfl
@[simp] theorem program_add (s : State) (r : Reg) (n i : Nat) : (s.add r n i).program = s.program := rfl
@[simp] theorem erase_add (s : State) (r : Reg) (n i : Nat) : (s.add r n i).erase = s.erase := rfl
@[simp] theorem copies_add (s : State) (r : Reg) (n i : Nat) : (s.add r n i).copies = s.copies := rfl
@[simp] theorem storeOps_add (s : State) (r : Reg) (n i : Nat) : (s.add r n i).storeOps = s.storeOps := rfl
@[simp] theorem loaded_add (s : State) (r : Reg) (n i : Nat) : (s.add r n i).loaded = s.loaded := rfl
@[simp] theorem target_add (s : State) (r : Reg) (n i : Nat) : (s.add r n i).target = s.target := rfl
@[simp] theorem staging_add (s : State) (r : Reg) (n i : Nat) : (s.add r n i).staging = s.staging := rfl
@[simp] theorem tw_add (s : State) (r : Reg) (n i : Nat) : (s.add r n i).tw = s.tw := rfl
@[simp] theorem qb_add (s : State) (r : Reg) (n i : Nat) : (s.add r n i).qb = s.qb := rfl
@[simp] theorem driven_add (s : State) (r : Reg) (n i : Nat) : (s.add r n i).driven = s.driven := rfl
@[simp] theorem requests_add (s : State) (r : Reg) (n i : Nat) : (s.add r n i).requests = s.requests := rfl
@[simp] theorem pending_add (s : State) (r : Reg) (n i : Nat) : (s.add r n i).pending = s.pending := rfl

@[simp] theorem slots_inc (s : State) (r : Reg) (i : Nat) : (s.inc r i).slots = s.slots := rfl
@[simp] theorem held_inc (s : State) (r : Reg) (i : Nat) : (s.inc r i).held = s.held := rfl
@[simp] theorem latched_inc (s : State) (r : Reg) (i : Nat) : (s.inc r i).latched = s.latched := rfl
@[simp] theorem ring_inc (s : State) (r : Reg) (i : Nat) : (s.inc r i).ring = s.ring := rfl
@[simp] theorem ahead_inc (s : State) (r : Reg) (i : Nat) : (s.inc r i).ahead = s.ahead := rfl
@[simp] theorem grownBad_inc (s : State) (r : Reg) (i : Nat) : (s.inc r i).grownBad = s.grownBad := rfl
@[simp] theorem table6_inc (s : State) (r : Reg) (i : Nat) : (s.inc r i).table6 = s.table6 := rfl
@[simp] theorem table7_inc (s : State) (r : Reg) (i : Nat) : (s.inc r i).table7 = s.table7 := rfl
@[simp] theorem factoryBad_inc (s : State) (r : Reg) (i : Nat) : (s.inc r i).factoryBad = s.factoryBad := rfl
@[simp] theorem retained_inc (s : State) (r : Reg) (i : Nat) : (s.inc r i).retained = s.retained := rfl
@[simp] theorem retainedOld_inc (s : State) (r : Reg) (i : Nat) : (s.inc r i).retainedOld = s.retainedOld := rfl
@[simp] theorem program_inc (s : State) (r : Reg) (i : Nat) : (s.inc r i).program = s.program := rfl
@[simp] theorem erase_inc (s : State) (r : Reg) (i : Nat) : (s.inc r i).erase = s.erase := rfl
@[simp] theorem copies_inc (s : State) (r : Reg) (i : Nat) : (s.inc r i).copies = s.copies := rfl
@[simp] theorem storeOps_inc (s : State) (r : Reg) (i : Nat) : (s.inc r i).storeOps = s.storeOps := rfl
@[simp] theorem loaded_inc (s : State) (r : Reg) (i : Nat) : (s.inc r i).loaded = s.loaded := rfl
@[simp] theorem target_inc (s : State) (r : Reg) (i : Nat) : (s.inc r i).target = s.target := rfl
@[simp] theorem staging_inc (s : State) (r : Reg) (i : Nat) : (s.inc r i).staging = s.staging := rfl
@[simp] theorem tw_inc (s : State) (r : Reg) (i : Nat) : (s.inc r i).tw = s.tw := rfl
@[simp] theorem qb_inc (s : State) (r : Reg) (i : Nat) : (s.inc r i).qb = s.qb := rfl
@[simp] theorem driven_inc (s : State) (r : Reg) (i : Nat) : (s.inc r i).driven = s.driven := rfl
@[simp] theorem requests_inc (s : State) (r : Reg) (i : Nat) : (s.inc r i).requests = s.requests := rfl
@[simp] theorem pending_inc (s : State) (r : Reg) (i : Nat) : (s.inc r i).pending = s.pending := rfl

@[simp] theorem slots_clear (s : State) (r : Reg) (i : Nat) : (s.clear r i).slots = s.slots := rfl
@[simp] theorem held_clear (s : State) (r : Reg) (i : Nat) : (s.clear r i).held = s.held := rfl
@[simp] theorem latched_clear (s : State) (r : Reg) (i : Nat) : (s.clear r i).latched = s.latched := rfl
@[simp] theorem ring_clear (s : State) (r : Reg) (i : Nat) : (s.clear r i).ring = s.ring := rfl
@[simp] theorem ahead_clear (s : State) (r : Reg) (i : Nat) : (s.clear r i).ahead = s.ahead := rfl
@[simp] theorem grownBad_clear (s : State) (r : Reg) (i : Nat) : (s.clear r i).grownBad = s.grownBad := rfl
@[simp] theorem table6_clear (s : State) (r : Reg) (i : Nat) : (s.clear r i).table6 = s.table6 := rfl
@[simp] theorem table7_clear (s : State) (r : Reg) (i : Nat) : (s.clear r i).table7 = s.table7 := rfl
@[simp] theorem factoryBad_clear (s : State) (r : Reg) (i : Nat) : (s.clear r i).factoryBad = s.factoryBad := rfl
@[simp] theorem retained_clear (s : State) (r : Reg) (i : Nat) : (s.clear r i).retained = s.retained := rfl
@[simp] theorem retainedOld_clear (s : State) (r : Reg) (i : Nat) : (s.clear r i).retainedOld = s.retainedOld := rfl
@[simp] theorem program_clear (s : State) (r : Reg) (i : Nat) : (s.clear r i).program = s.program := rfl
@[simp] theorem erase_clear (s : State) (r : Reg) (i : Nat) : (s.clear r i).erase = s.erase := rfl
@[simp] theorem copies_clear (s : State) (r : Reg) (i : Nat) : (s.clear r i).copies = s.copies := rfl
@[simp] theorem storeOps_clear (s : State) (r : Reg) (i : Nat) : (s.clear r i).storeOps = s.storeOps := rfl
@[simp] theorem loaded_clear (s : State) (r : Reg) (i : Nat) : (s.clear r i).loaded = s.loaded := rfl
@[simp] theorem target_clear (s : State) (r : Reg) (i : Nat) : (s.clear r i).target = s.target := rfl
@[simp] theorem staging_clear (s : State) (r : Reg) (i : Nat) : (s.clear r i).staging = s.staging := rfl
@[simp] theorem tw_clear (s : State) (r : Reg) (i : Nat) : (s.clear r i).tw = s.tw := rfl
@[simp] theorem qb_clear (s : State) (r : Reg) (i : Nat) : (s.clear r i).qb = s.qb := rfl
@[simp] theorem driven_clear (s : State) (r : Reg) (i : Nat) : (s.clear r i).driven = s.driven := rfl
@[simp] theorem requests_clear (s : State) (r : Reg) (i : Nat) : (s.clear r i).requests = s.requests := rfl
@[simp] theorem pending_clear (s : State) (r : Reg) (i : Nat) : (s.clear r i).pending = s.pending := rfl

/-! ### Fields after an update of a component -/

@[simp] theorem get_with_slots (s : State) (x) (r : Reg) (i : Nat) : ({ s with slots := x } : State).get r i = s.get r i := rfl
@[simp] theorem get_with_held (s : State) (x) (r : Reg) (i : Nat) : ({ s with held := x } : State).get r i = s.get r i := rfl
@[simp] theorem get_with_latched (s : State) (x) (r : Reg) (i : Nat) : ({ s with latched := x } : State).get r i = s.get r i := rfl
@[simp] theorem get_with_ring (s : State) (x) (r : Reg) (i : Nat) : ({ s with ring := x } : State).get r i = s.get r i := rfl
@[simp] theorem get_with_ahead (s : State) (x) (r : Reg) (i : Nat) : ({ s with ahead := x } : State).get r i = s.get r i := rfl
@[simp] theorem get_with_grownBad (s : State) (x) (r : Reg) (i : Nat) : ({ s with grownBad := x } : State).get r i = s.get r i := rfl
@[simp] theorem get_with_table6 (s : State) (x) (r : Reg) (i : Nat) : ({ s with table6 := x } : State).get r i = s.get r i := rfl
@[simp] theorem get_with_table7 (s : State) (x) (r : Reg) (i : Nat) : ({ s with table7 := x } : State).get r i = s.get r i := rfl
@[simp] theorem get_with_factoryBad (s : State) (x) (r : Reg) (i : Nat) : ({ s with factoryBad := x } : State).get r i = s.get r i := rfl
@[simp] theorem get_with_retained (s : State) (x) (r : Reg) (i : Nat) : ({ s with retained := x } : State).get r i = s.get r i := rfl
@[simp] theorem get_with_retainedOld (s : State) (x) (r : Reg) (i : Nat) : ({ s with retainedOld := x } : State).get r i = s.get r i := rfl
@[simp] theorem get_with_program (s : State) (x) (r : Reg) (i : Nat) : ({ s with program := x } : State).get r i = s.get r i := rfl
@[simp] theorem get_with_erase (s : State) (x) (r : Reg) (i : Nat) : ({ s with erase := x } : State).get r i = s.get r i := rfl
@[simp] theorem get_with_copies (s : State) (x) (r : Reg) (i : Nat) : ({ s with copies := x } : State).get r i = s.get r i := rfl
@[simp] theorem get_with_storeOps (s : State) (x) (r : Reg) (i : Nat) : ({ s with storeOps := x } : State).get r i = s.get r i := rfl
@[simp] theorem get_with_loaded (s : State) (x) (r : Reg) (i : Nat) : ({ s with loaded := x } : State).get r i = s.get r i := rfl
@[simp] theorem get_with_target (s : State) (x) (r : Reg) (i : Nat) : ({ s with target := x } : State).get r i = s.get r i := rfl
@[simp] theorem get_with_staging (s : State) (x) (r : Reg) (i : Nat) : ({ s with staging := x } : State).get r i = s.get r i := rfl
@[simp] theorem get_with_tw (s : State) (x) (r : Reg) (i : Nat) : ({ s with tw := x } : State).get r i = s.get r i := rfl
@[simp] theorem get_with_qb (s : State) (x) (r : Reg) (i : Nat) : ({ s with qb := x } : State).get r i = s.get r i := rfl
@[simp] theorem get_with_driven (s : State) (x) (r : Reg) (i : Nat) : ({ s with driven := x } : State).get r i = s.get r i := rfl
@[simp] theorem get_with_requests (s : State) (x) (r : Reg) (i : Nat) : ({ s with requests := x } : State).get r i = s.get r i := rfl
@[simp] theorem get_with_pending (s : State) (x) (r : Reg) (i : Nat) : ({ s with pending := x } : State).get r i = s.get r i := rfl

end Sys2Proof.Machine.State
end

