-- ==== Sys2Proof/Laws/Serve.lean ====
section
/-! SUPPORT. A request of the host on a free port: which state the interpreter finds, and what the port holds after the answer. -/

namespace Sys2Proof.Machine.State

variable {s : State}

/-- What a free port says of the checks of mode. -/
theorem free_iff {p : PortId} : s.free p = true ↔ s.answering p = true ∧ s.requests = [] ∧ s.safeState = false ∧
    s.on R.MODE_STATUS_THERM_ACTIVE = false ∧ s.on R.X_P0_ONLY = false := by
  simp [State.free, and_assoc]

/-- Waking or a cut slice leaves the requests as they are. -/
theorem woken_requests (p : PortId) :
    (match p with | .tw => s.awake | .qb => (s.abortSlice 0x01).awake).requests = s.requests := by
  have h : (Part.comp .requests).same s (match p with | .tw => s.awake | .qb => (s.abortSlice 0x01).awake) := by
    cases p
    · exact Part.same_awake Part.same_refl (by decide +kernel)
    · exact Part.same_awake (Part.same_abortSlice Part.same_refl (by decide +kernel)) (by decide +kernel)
  exact h

theorem dropReply_requests (p : PortId) : (s.dropReply p).requests = s.requests := by
  cases p <;> (simp only [State.dropReply]; split <;> rfl)

/-- A port whose reply was dropped holds none. -/
theorem dropReply_reply (p : PortId) : ((s.dropReply p).port p).reply = none := by
  simp only [State.dropReply]
  split
  · cases p <;> rfl
  · rename_i h; simpa using h

/-- Being heard leaves no request where none waited. -/
theorem heard_requests {p : PortId} (hr : s.requests = []) : (s.heard p).requests = [] := by
  have h := woken_requests (s := s) p
  cases p <;> simp only [State.heard, dropReply_requests] <;> exact h.trans hr

/-- A port that is heard holds no reply. -/
theorem heard_reply {p : PortId} : ((s.heard p).port p).reply = none := by
  cases p <;> exact dropReply_reply _

/-- A request on a port that answers, with no other one waiting, is interpreted at once. -/
theorem serve_answering {p : PortId} {op : Nat} {tag : Byte} {params : List Byte} {body : State → Answer}
    (h : s.answering p = true) (hr : s.requests = []) : s.serve p op tag params body =
      (s.heard p).interpret { port := p, opcode := op, tag := tag.toNat, params := params } body := by
  have hw := (woken_requests (s := s) p).trans hr
  cases p <;>
    simp_all [State.serve, State.answering, State.heard, State.taken]

/-- A port with a reply where none was held and no request of it waits. -/
theorem putReply_port {p : PortId} {bytes : List Byte} {pops : List Nat} (hr : s.requests = [])
    (hn : (s.port p).reply = none) : ((s.putReply p bytes pops).port p).reply = some { bytes := bytes, popSeqs := pops } := by
  cases p <;> simp_all [State.putReply, State.waiting, State.hold, State.setHif, State.port]

theorem autoServe_nil (n : Nat) (hr : s.requests = []) : State.autoServe n s = s := by
  cases n <;> simp [State.autoServe, hr]

theorem setHif_requests (p : PortId) (x : Port) : (s.setHif p x).requests = s.requests := by cases p <;> rfl

theorem putReply_requests (p : PortId) (bytes : List Byte) (pops : List Nat) : (s.putReply p bytes pops).requests = s.requests := by
  simp only [State.putReply, State.hold]
  split
  · rfl
  · exact setHif_requests p _

/-- An interpreted request that its checks let through, where the meaning leaves no request waiting: the meaning's state, its
reply at the port. -/
theorem interpret_pass {r : Request} {body : State → Answer} (h : s.preCheck r.opcode r.params = 0)
    (hr : (body s).state.requests = []) : s.interpret r body =
      (body s).state.putReply r.port (frame (body s).status r.tag (body s).data) (body s).pops := by
  have h2 := putReply_requests (s := (body s).state) r.port (frame (body s).status r.tag (body s).data) (body s).pops
  rw [hr] at h2
  simp only [State.interpret, h, ne_eq, not_true_eq_false, if_false]
  exact autoServe_nil _ h2

/-- An interpreted request that a check refuses: nothing but the reply changes. -/
theorem interpret_refuse {r : Request} {body : State → Answer} (h : s.preCheck r.opcode r.params ≠ 0)
    (hr : s.requests = []) : s.interpret r body =
      s.putReply r.port (frame (s.preCheck r.opcode r.params) r.tag []) [] := by
  have h2 := putReply_requests (s := s) r.port (frame (s.preCheck r.opcode r.params) r.tag []) []
  rw [hr] at h2
  simp only [State.interpret, h, ne_eq, not_false_eq_true, if_true]
  exact autoServe_nil _ h2

/-- What the port holds after a request that its checks let through. -/
theorem interpret_replied {r : Request} {body : State → Answer} (h : s.preCheck r.opcode r.params = 0)
    (hr : (body s).state.requests = []) (hn : ((body s).state.port r.port).reply = none) : (((s.interpret r body).port r.port).reply.map Reply.bytes) =
      some (frame (body s).status r.tag (body s).data) := by
  rw [interpret_pass h hr, putReply_port hr hn]
  rfl

end Sys2Proof.Machine.State
end

