-- ==== Sys2Proof/WellFormed.lean ====
section
/-! DEFINITION. Well-formed commands: lengths of byte strings as the packet layouts allow them (R375), record fields as R302
has them, ratios and measured values as the converters can give them. Every meaning is total all the same. -/

namespace Sys2Proof

/-- A value of 16 bits. -/
def u16 (n : Nat) : Bool := decide (n < 65536)

/-- A two's complement value of 16 bits. -/
def s16 (x : Int) : Bool := decide (-32768 ≤ x) && decide (x < 32768)

/-- Four values of 16 bits. -/
def q16 (q : Quad) : Bool := u16 q.a && u16 q.b && u16 q.c && u16 q.d

/-- Whether the operands of a command lie in their ranges; what an index type bounds needs no check. [DESIGN CHOICE: log 76] -/
def Instr.wf (i : Instr) : Bool :=
  match i with
  | .powerOnReset _ k sys bats => decide (k ≤ 1000) && u16 sys && u16 bats
  | .deviceRestartReset _ sys bats => u16 sys && u16 bats
  | .hrstnExternalLow => true
  | .modeEvaluate sys bats => u16 sys && u16 bats
  | .uncouple => true
  | .graceExpire => true
  | .harvestDormant .. => true
  | .harvestRetryEnd .. => true
  | .serviceTimeout => true
  | .shipDelayExpire => true
  | .shipEntryComplete => true
  | .shipExit _ _ k sys bats => decide (k ≤ 1000) && u16 sys && u16 bats
  | .wakeCountDue => true
  | .wakenLow => true
  | .fastClockStart => true
  | .fastClockStop => true
  | .timeRateCorrection cycles => decide (cycles < 16777216)
  | .hourBoundary => true
  | .awakeHoldEnd => true
  | .inputComparatorTrip .. => true
  | .inputPresent _ vbus => u16 vbus
  | .inputPresenceLost .. => true
  | .idDecode _ k => decide (k ≤ 1000)
  | .inputConnect _ vbus => u16 vbus
  | .vbusReached _ v => u16 v
  | .probeStart .. => true
  | .probeComplete _ v0 i0 steps lows => u16 v0 && s16 i0 && decide (steps.length ≤ 3) && decide (lows.length ≤ 3) &&
    steps.all (fun p => s16 p.mid && u16 p.v && s16 p.a) && lows.all u16
  | .signatureWatchComplete _ early mid late => decide ((early ++ mid ++ late).length ≤ 2000) && (early ++ mid ++ late).all u16
  | .idRedecode _ k => decide (k ≤ 1000)
  | .classHoldExpire .. => true
  | .inputOvervoltage .. => true
  | .inputOvClear _ vbus => u16 vbus
  | .reversePolarity .. => true
  | .fetOpen .. => true
  | .tsRelease .. => true
  | .tsResume _ vref => u16 vref
  | .tsVrefRetake _ vref => u16 vref
  | .reclassify .. => true
  | .inputEnableWrite .. => true
  | .allocatorUpdate pin ins _ _ sys => q16 pin && q16 ins && u16 sys
  | .poPeriodEnd .. => true
  | .sweepStart .. => true
  | .sweepComplete _ voc powers => u16 voc && powers.length == 64
  | .sweepAbort .. => true
  | .sweepNow .. => true
  | .trkWeak .. => true
  | .groupOnDelayEnd .. => true
  | .groupSwitchStart .. => true
  | .groupOffDelayEnd .. => true
  | .loopEvaluation _ _ _ _ _ _ _ _ sys vbus bats => u16 sys && u16 vbus && u16 bats
  | .tuningComplete .. => true
  | .tuneFail .. => true
  | .retune .. => true
  | .equalisationUpdate _ cur => decide (cur.length ≤ 6)
  | .deadTimeUpdate .. => true
  | .zeroCrossUpdate .. => true
  | .shedEvaluation _ cur _ _ => decide (cur.length ≤ 6)
  | .burst .. => true
  | .bootstrapRefresh _ r => s16 r.cur
  | .peakLimit e => u16 e.ns
  | .negativeLimit e => s16 e.cur
  | .phaseShort .. => true
  | .phaseOpen .. => true
  | .bootstrapFault .. => true
  | .sysOvervoltage => true
  | .sysOvClear => true
  | .inputUndervoltage .. => true
  | .driveSupplyUv => true
  | .phRetry .. => true
  | .cnvCfgApply => true
  | .qualifyComplete vq => u16 vq
  | .prechargeComplete v => u16 v
  | .onPulseEnd ion von => s16 ion && u16 von
  | .restSample _ v i1 => u16 v && s16 i1
  | .restEnd _ _ amps _ => s16 amps
  | .maintainCheck v amps _ _ => u16 v && s16 amps
  | .p3WindowEnd => true
  | .absorbEnd => true
  | .floatRecharge => true
  | .equaliseEnd .. => true
  | .safetyTimerTick amps => s16 amps
  | .safetyTimeout => true
  | .bmsokRefuse => true
  | .bmsokPermit => true
  | .chgProfileWrite word => u16 word
  | .suspend .. => true
  | .resume .. => true
  | .restart .. => true
  | .equalise .. => true
  | .endEqualise .. => true
  | .serviceGroups .. => true
  | .roleEvaluate sys bats _ _ => u16 sys && u16 bats
  | .connectTimeout => true
  | .supplement sysMv batsMv => u16 sysMv && u16 batsMv
  | .coldStartAbandon => true
  | .coldStartRetry => true
  | .vsuDisable => true
  | .dischargeOvercurrent => true
  | .shortCircuit => true
  | .retryWaitEnd => true
  | .tripCountReset => true
  | .retryNow => true
  | .uvInhibit batsMv => u16 batsMv
  | .uvInhibitEnd batsMv => u16 batsMv
  | .uvCutoff batsMv => u16 batsMv
  | .cutoffComplete => true
  | .presenceProbe v0 v1 => u16 v0 && u16 v1
  | .probeNow => true
  | .emptyConnector => true
  | .batteryShort batsMv => u16 batsMv
  | .batteryRemoval => true
  | .unsupportedSysFall => true
  | .vauxInRegulation v a => u16 v && u16 a
  | .vauxOutOfRegulation => true
  | .vauxStop => true
  | .vauxFail => true
  | .vauxOverload => true
  | .vpreInRegulation v => u16 v
  | .vpreStop => true
  | .vpreRetry => true
  | .railOnDelayEnd .. => true
  | .railRampEnd .. => true
  | .railTuneComplete _ _ on _ _ => decide (0 < on.vpv)
  | .railOffDelayEnd .. => true
  | .railRampDownEnd .. => true
  | .railStartFail .. => true
  | .railHiccupEnd .. => true
  | .railFailsReset .. => true
  | .railOvervoltage .. => true
  | .railSettle .. => true
  | .railPowerEstimate _ v a _ cycles _ _ _ _ _ => u16 v && u16 a && decide (cycles.phases.length ≤ 6)
  | .rclSetVid .. => true
  | .rclSetSlew .. => true
  | .rclSetState .. => true
  | .rclGetVidTarget .. => true
  | .rclGetVidActual .. => true
  | .rclGetStatus .. => true
  | .rclGetPower .. => true
  | .rclClearAlert .. => true
  | .rclSetVidFast .. => true
  | .rclFrameAbandon => true
  | .railControlSetVid .. => true
  | .railControlSetSlew .. => true
  | .railControlSetState .. => true
  | .railControlClearAlert .. => true
  | .railControlSetVidFast .. => true
  | .adcReferenceFail .. => true
  | .ccResult .. => true
  | .ledgerUpdate bus _ vin iin lineV lineI auxV auxI => u16 bus.sys && u16 bus.bats && q16 vin && q16 iin && q16 lineV && q16 lineI && u16 auxV && u16 auxI
  | .clearCounters => true
  | .snapshotNow => true
  | .eRemWrite v => decide (v < 2 ^ 32)
  | .epochWrite v => decide (v < 2 ^ 64)
  | .portRiseComplete .. => true
  | .portBootWaitEnd .. => true
  | .portToKeepAlive _ power => u16 power
  | .lineCycleStart .. => true
  | .pollReply _ _ payload _ _ => decide (payload.length ≤ 18)
  | .replyTimeout .. => true
  | .frameRetry .. => true
  | .enumerationRunStart .. => true
  | .idwalkComplete _ _ id => decide (id < 2 ^ 48)
  | .assignReply .. => true
  | .configReply .. => true
  | .discoveryDue .. => true
  | .portShort .. => true
  | .portRetryEnd .. => true
  | .keepAliveOverload .. => true
  | .slotEnableWrite .. => true
  | .portOn .. => true
  | .portOff .. => true
  | .enumerate .. => true
  | .releaseSlot .. => true
  | .configNode .. => true
  | .nodeInfo .. => true
  | .recordOffer type source time _ _ payload => decide (type < 256) &&
    (decide (source < 0x40) || decide (0x80 ≤ source) && decide (source ≤ 0x90)) && decide (time < 2 ^ 48) &&
    decide (payload.length ≤ 16)
  | .refusalSummaryDue .. => true
  | .sectorProgramStart => true
  | .sectorProgramComplete .. => true
  | .greenFillTimeout => true
  | .eraseSliceStart => true
  | .eraseComplete .. => true
  | .queueCapApply .. => true
  | .resetBase .. => true
  | .resetWindow .. => true
  | .clearAlarms .. => true
  | .resetTrackerAll .. => true
  | .storeProgramComplete .. => true
  | .cfgSwitch => true
  | .trialExpire => true
  | .twWriteRequest .. => true
  | .twReadReply .. => true
  | .twPointerReset => true
  | .twAddressNack => true
  | .sclTimeout .. => true
  | .sdaStuck .. => true
  | .busClearRetry .. => true
  | .hostNotifyAttempt .. => true
  | .hrstnRelease => true
  | .writePacket .. => true
  | .readReply .. => true
  | .readStatus .. => true
  | .rewind .. => true
  | .bulkInvalidInstruction .. => true
  | .ping _ _ bytes => decide (bytes.length ≤ 16)
  | .readParam .. => true
  | .writeParam _ _ _ words => decide (1 ≤ words.length) && decide (words.length ≤ 64)
  | .modifyParam .. => true
  | .readFaults .. => true
  | .enterShip .. => true
  | .enterService .. => true
  | .leaveService .. => true
  | .endGrace .. => true
  | .queuePop .. => true
  | .queuePeek .. => true
  | .queueStatus .. => true
  | .journalRead .. => true
  | .journalMark _ _ bytes => bytes.length == 16
  | .cfgStageWrite _ _ _ _ data => decide (1 ≤ data.length) && decide (data.length ≤ 4088)
  | .cfgVerify .. => true
  | .cfgCommit .. => true
  | .cfgConfirm .. => true
  | .cfgRevert .. => true
  | .cfgInfo .. => true
  | .wdtCheckin .. => true
  | .selftestRun .. => true
  | .selftestStop .. => true
  | .otpProgram .. => true
  | .otpProgramDone .. => true
  | .ledgerRead .. => true
  | .recover .. => true
  | .deviceRestart .. => true
  | .wdtKey .. => true
  | .wdtDisableSequence => true
  | .wdtEnable => true
  | .wdtLockSet => true
  | .wdtExpire => true
  | .wdtInternalService => true
  | .yellowPulseEnd => true
  | .sequencerSilent .. => true
  | .supWarn sys => u16 sys
  | .rideThroughEnd => true
  | .dieReading .. => true
  | .journalPowerOff => true
  | .thermistorReading _ k _ => decide (k ≤ 4095)
  | .foldbackUpdate => true
  | .fbHoldEnd .. => true
  | .fbClear => true
  | .bistSliceStart .. => true
  | .bistSliceEnd .. => true
  | .vaoBelowReset .. => true
  | .retainedSramLost => true
  | .presenceDebounceAbort .. => true
  | .inputUvClear .. => true
  | .driveSupplyClear => true
  | .vauxRetry => true
  | .vpreOnDelayEnd => true
  | .vpreFail => true
  | .vpreHiccupEnd => true
  | .portSettleEnd .. => true
  | .eraseSliceEnd => true
  | .rclReservedCommand .. => true

end Sys2Proof
end

