-- ==== Sys2Proof/Tests/Slice0.lean ====
section
/-! SUPPORT. Tests of single steps against figures that spec/ prints (its check values, tables and worked examples), the ill-formed
terms that `Instr.wf` refuses, and for each statement with hypotheses a state and operands that meet them, clause by clause. -/

open Sys2Proof Sys2Proof.Machine

set_option Elab.async false

namespace Sys2Proof.Tests

/-- A state whose named fields hold given values and that is otherwise as after reset. -/
def put (l : List (Reg × Nat × Nat)) : State := l.foldl (fun s x => s.set x.1 x.2.1 x.2.2) State.reset

/-- The state that a command answers. -/
def after (c : Instr) (s : State) : State :=
  match exec c s with
  | .next t => t
  | _ => State.reset

/-! ### Ill-formed terms: one for each kind of check -/

theorem test_wf_ratio : Instr.wf (.powerOnReset ⟨0, []⟩ 1001 2000 2000) = false := by decide
theorem test_wf_u16 : Instr.wf (.modeEvaluate 65536 0) = false := by decide
theorem test_wf_s16 : Instr.wf (.onPulseEnd 32768 0) = false := by decide
theorem test_wf_s16_low : Instr.wf (.onPulseEnd (-32769) 0) = false := by decide
theorem test_wf_q16 : Instr.wf (.allocatorUpdate ⟨0, 0, 65536, 0⟩ ⟨0, 0, 0, 0⟩ 0 0 0) = false := by decide
theorem test_wf_cycles : Instr.wf (.timeRateCorrection 16777216) = false := by decide
theorem test_wf_steps : Instr.wf (.probeComplete 0 0 0 [] [0, 0, 0, 0]) = false := by decide
theorem test_wf_powers : Instr.wf (.sweepComplete 0 0 [1, 2, 3]) = false := by decide
theorem test_wf_currents : Instr.wf (.equalisationUpdate 0 [1, 2, 3, 4, 5, 6, 7]) = false := by decide
theorem test_wf_eRem : Instr.wf (.eRemWrite (2 ^ 32)) = false := by decide
theorem test_wf_epoch : Instr.wf (.epochWrite (2 ^ 64)) = false := by decide
theorem test_wf_id : Instr.wf (.idwalkComplete 0 true (2 ^ 48)) = false := by decide
theorem test_wf_payload : Instr.wf (.pollReply 0 0 (List.replicate 19 0) 0 0) = false := by decide
theorem test_wf_type : Instr.wf (.recordOffer 256 0 0 false false []) = false := by decide
theorem test_wf_source : Instr.wf (.recordOffer 0 0x40 0 false false []) = false := by decide
theorem test_wf_time : Instr.wf (.recordOffer 0 0 (2 ^ 48) false false []) = false := by decide
theorem test_wf_record : Instr.wf (.recordOffer 0 0 0 false false (List.replicate 17 0)) = false := by decide
theorem test_wf_ping : Instr.wf (.ping .tw 0 (List.replicate 17 0)) = false := by decide
theorem test_wf_words : Instr.wf (.writeParam .tw 0 0 []) = false := by decide
theorem test_wf_mark : Instr.wf (.journalMark .tw 0 [1]) = false := by decide
theorem test_wf_stage : Instr.wf (.cfgStageWrite .tw 0 0 0 []) = false := by decide
theorem test_wf_code : Instr.wf (.thermistorReading 0 4096 true) = false := by decide
theorem test_wf_accepts : Instr.wf (.thermistorReading 0 4095 true) = true := by decide

/-! ### Steps and table words -/

/-- The rows of the table give no bits. -/
theorem test_no_words (nbits w : Nat) : decodeTableWord nbits w = none := rfl
theorem test_no_fetch (s : State) (nbits w : Nat) : s.withFetchWord nbits w = s := rfl
theorem test_step_front : step { State.reset with pending := [.graceExpire, .uncouple] } =
    exec .graceExpire { State.reset with pending := [.uncouple] } := rfl
theorem test_reset_wf : State.reset.wf = true := by decide +kernel

/-! ### Check values and tables -/

/-- "123456789". -/
def digits : List Byte := [0x31, 0x32, 0x33, 0x34, 0x35, 0x36, 0x37, 0x38, 0x39]
/-- R370. -/
theorem test_crc8 : crc8 digits = 0xF4 := by decide +kernel
/-- R273. -/
theorem test_crc16 : crc16 digits = 0x29B1 := by decide +kernel
/-- The table of R401: P. -/
theorem test_periods : [0, 4, 7, 9, 15].map periodTicks = [262, 4194, 33554, 134217, 8589934] := by decide +kernel
/-- The table of R401: W at the four fractions. -/
theorem test_windows : [0, 1, 2, 3].map (windowTick 33554) = [4195, 8389, 16777, 25166] := by decide +kernel
theorem test_window_lowest : [0, 1, 2, 3].map (windowTick 262) = [33, 66, 131, 197] := by decide +kernel
/-- R223. -/
theorem test_vid : (vidMv 0 200, vidMv 1 240, vidTop 0, vidTop 1) = (1500, 3600, 200, 240) := by decide
/-- R306. -/
theorem test_deadlines : [2, 1, 0].map deadlineUs = [5000, 100000, 2000000] := by decide
/-- R318. -/
theorem test_routes : [0x01, 0x02, 0x04].map (fun t => State.reset.readWord (0x0BC0 + t)) = [0x5555, 0x0000, 0x4444] := by
  decide +kernel

/-! ### Worked examples -/

/-- Chapter 3, steps 6 to 10: three probe steps give 1680 mΩ and a curvature of 22. -/
theorem test_probe :
    let t := after (.probeComplete 2 4120 0 [⟨8, 4096, 8⟩, ⟨20, 4048, 20⟩, ⟨40, 3952, 40⟩] [4090, 4040, 3950])
      (put [(R.INn_STAT_STATE, 5, 2), (R.INn_STAT_BAND, 7, 2), (R.IN_STATUS_PRESENT, 4, 0)])
    (t.get R.INn_RSRC 2, t.get R.INn_CURV 2, t.instate 2) = (1680, 22, 6) := by decide +kernel

/-- Chapter 3, steps 11 and 12: the watch makes it a solar input with a limit of 480. -/
theorem test_watch :
    let t := after (.signatureWatchComplete 2 [4114, 4126] [4114] [4120]) (put [(R.INn_STAT_STATE, 6, 2), (R.INn_STAT_BAND, 7, 2),
      (R.IN_STATUS_PRESENT, 4, 0), (R.INn_VOC, 4120, 2), (R.INn_RSRC, 1680, 2), (R.INn_CURV, 22, 2)])
    (t.cls 2, t.get R.INn_LIM_EFF 2) = (3, 480) := by decide +kernel

/-- Chapter 4, steps 2 to 6: the split of D and the ceilings. -/
theorem test_split : split (fun i => [4170, 273, 1640].getD i 0) [2, 1, 0] 5625 = ([(2, 1640), (1, 273), (0, 3712)], 0) := by
  decide
theorem test_ceilings : [askCeiling 1640 16 3520 480, askCeiling 273 16 2735 40, askCeiling 3712 16 2780 600,
    askCeiling 4170 16 2780 600] = [198, 40, 567, 600] := by decide

/-- Chapter 6: the rest's R_ohm, rho and V_pol, and the steered pulse at 10 °C and at 20 °C. -/
theorem test_rest : restMath 26912 26690 26612 26590 1440 2 = (6175, 901, 106) := by decide
theorem test_steer :
    let s := put [(R.CHG_PROFILE_CELLS, 8, 0), (R.CHG_T_COLD_NOW, 100, 0), (R.CHG_I_SET, 1600, 0), (R.X_ION, 1440, 0)]
    (s.steer 106, (s.set R.CHG_T_COLD_NOW 200).steer 106) = (1303, 1600) := by decide +kernel

/-- Chapter 7: levels at 8 cells of 3600 mV in FULL_ON. -/
theorem test_levels :
    let s := (put [(R.PP_STATUS_ROLE, 1, 0), (R.CHG_V_LIMIT, 28800, 0), (R.PP_VSYS_MIN, 2000, 0)]).sysFollow
    (s.get R.PP_SYS_TARGET, s.get R.CNV_SYS_OV_TRIP) = (2910, 3110) := by decide +kernel

/-- Chapter 5, step 3: PH1 at 0° and PH2 at 180°, in 1/15360 of a period. -/
theorem test_places :
    let t := (put [(R.CNV_PHn_STAT_GROUP, 1, 0), (R.CNV_PHn_STAT_GROUP, 1, 1), (R.CNV_PHn_STAT_SWITCHING, 1, 0),
      (R.CNV_PHn_STAT_SWITCHING, 1, 1)]).countActive 0
    (t.get R.CNV_Gg_STAT_ACTIVE 0, t.get R.X_PLACE 0, t.get R.X_PLACE 1) = (2, 0, 7680) := by decide +kernel

/-- Chapter 8: the parity bits of the two frames. -/
theorem test_parity : (rclEven 0 1 60 true, rclEven 0 1 70 false) = (true, true) := by decide

/-- Chapter 8: Rail A at code 80, slewing to 60, is sent to 70; once it settles, GET_STATUS reads 0x8D. -/
def rail : State := put [(R.RAIL_x_STAT_STATE, 4, 0), (R.RAIL_x_TARGET, 60, 0), (R.RAIL_x_SLEW, 20, 0), (R.RCL_CTRL_EN, 1, 0),
  (R.RAIL_x_STAT_PS, 0, 0), (R.RAIL_x_STAT_SLEWING, 1, 0), (R.RAIL_x_CFG_SETTLE_ALERT, 1, 0), (R.MODE_STATUS_MODE, 5, 0)]
theorem test_supersede :
    let t := after (.rclSetVid 0 70 false) rail
    (t.get R.X_RCL_ACK, t.get R.RAIL_x_TARGET, t.on R.RAIL_x_STAT_SUPERSEDED) = (1, 70, true) := by decide +kernel
theorem test_rail_status :
    let t := after (.rclGetStatus 0 0 false) (after (.railSettle ⟨0, true⟩) (after (.rclSetVid 0 70 false) rail))
    t.get R.X_RCL_RDATA = 0x8D := by decide +kernel

/-- Chapter 9: P_sleep, the next interval and the horizon. -/
def yard : State := put [(R.LDG_TARGET_DAYS, 30, 0), (R.LDG_E_REM, 13000, 0), (R.X_KA_POWER, 95, 0), (R.X_KA_POWER, 75, 1),
  (R.LDG_E_POLL, 140, 0), (R.LDG_POLL_INTERVAL, 90, 0), (R.LDG_CTRL, 1, 0), (R.LDG_STATUS_EREM_VALID, 1, 0),
  (R.LDG_BAT_USABLE, 20000, 0)]
theorem test_interval : (yard.pSleep, yard.nextInterval, yard.intervalUpdate.horizon) = (174, 84, 722) := by decide +kernel
theorem test_horizon_short :
    let s := ((yard.set R.LDG_E_REM 9976).set R.LDG_POLL_INTERVAL 336).intervalUpdate
    (s.get R.LDG_POLL_INTERVAL, s.horizon, s.stands R.MEAS_FAULT_HORIZON_SHORT) = (360, 570, true) := by decide +kernel

/-- Chapter 11: the leak of a tyre in slot 5, 840 s after the last poll. -/
theorem test_leak :
    let s := put [(R.DE_CTRL_EN, 1, 0), (R.DE_CTRL_DERIVE_EN, 1, 0), (R.DE_Ti_CTRL_EN, 1, 43), (R.DE_Ti_CTRL_EN, 1, 44),
      (R.DE_Ti_CTRL_HI_EN, 1, 44), (R.DE_Ti_HI, 50, 44), (R.X_TR_REF, 1, 43), (R.X_TR_XREF, 8565, 43),
      (R.X_TR_TREF, 1000, 43)]
    let t := s.engineReply 5 0x31 [0x0C, 0x07, 0x34, 0x21, 0xB9, 0x00, 0x4C, 0x00] (1000 + 840000 + 120)
    (t.get R.DE_Ti_LAST 43, t.getS R.DE_Ti_SLOPE_NOW 43, t.get R.DE_Ti_LAST 44, t.on R.DE_Ti_ALARMS_HIGH 44) =
      (8548, -72, 72, true) := by decide +kernel

/-- Chapter 13: the bytes of the notify. -/
theorem test_notify : ((put [(R.HIF_ADDR_EFFECTIVE, 0x3A, 0), (R.X_NOTIFY_RED, 1, 0)]).notifyBytes) = [0x74, 0x01, 0x53] := by
  decide +kernel

/-- Chapter 14: the CRC of the request that reads DEV_ID, and the reply to it. -/
theorem test_request_crc : crc8 [0x02, 0x01, 0x03, 0x00, 0x00, 0x00, 0x01] = 0x31 := by decide +kernel
theorem test_dev_id :
    (after (.readParam .tw 1 0 1) (put [(R.DEV_CLK_FAST_ON, 1, 0), (R.MODE_STATUS_MODE, 5, 0)])).tw.reply.map Reply.bytes =
      some [0x00, 0x01, 0x02, 0x00, 0x40, 0x76, 0x50] := by decide +kernel

/-- Chapter 15: tasks 0 and 1 are seen, task 1 twice, and task 2 is missing at tick 8389; a tick sooner it is early. -/
def guard : State := put [(R.MODE_STATUS_MODE, 5, 0), (R.DEV_CLK_FAST_ON, 1, 0), (R.WDT_STATUS_INTERNAL, 0, 0),
  (R.WDT_TASK_EN, 7, 0), (R.WDT_WINDOW_AT, 8389, 0), (R.X_WDT_LEN, 33554, 0), (R.WDT_POS, 8389, 0), (R.WDT_TASK_SEEN_SEEN, 3, 0),
  (R.WDT_TASK_SEEN_DUP, 2, 0)]
theorem test_missing_task :
    let t := after (.wdtKey 0xB7) guard
    (t.get R.WDT_LAST_MISSING, t.get R.WDT_LAST_DUP, t.get R.WDT_LADDER_Y, t.on R.HIF_STATUS_HRSTN_LOW) = (4, 2, 1, true) := by
  decide +kernel
theorem test_early_before_missing :
    (after (.wdtKey 0xB7) (guard.set R.WDT_POS 8388)).get R.WDT_LAST_KIND ≠
      (after (.wdtKey 0xB7) guard).get R.WDT_LAST_KIND := by decide +kernel

/-- Chapter 16: foldback at 100.0 °C of a 40 A setting, and at the peak of 104.0 °C. -/
theorem test_foldback :
    let s := put [(R.CHG_I_SET, 1600, 0)]
    (256 - 205 * 100 / 200, (s.set R.THM_FB_FACTOR 154).iFb, (s.set R.THM_FB_FACTOR 113).iFb) = (154, 962, 706) := by
  decide +kernel

/-! ### What the statements assume, met -/

theorem met_InputPresence :
    (∃ (s : State) (i : Fin 4), s.asleepDeep = false ∧ s.on R.X_HELD = false ∧ s.present i = false ∧ s.instate i = 0) ∧
    (∃ (s : State) (i : Fin 4), s.on R.X_DEBOUNCE i ∧ s.instate i = 1) ∧
    (∃ (s : State) (i : Fin 4) (vbus : Nat), s.on R.X_DEBOUNCE i ∧ vbus < 65536 ∧ s.on R.CNV_STATUS_CFG_PENDING = false) ∧
    (∃ (s : State) (i : Fin 4), s.present i ∧ s.on R.CNV_STATUS_CFG_PENDING = false) ∧
    (∃ (s : State) (i : Fin 4), s.present i = false ∧ s.on R.X_DEBOUNCE i) ∧
    (∃ (s : State) (i : Fin 4) (_k : Nat), s.instate i = 2 ∧ s.on R.CNV_STATUS_CFG_PENDING = false) ∧
    (∃ (s : State) (i : Fin 4) (_k : Nat), s.instate i = 8 ∧ s.on R.X_READMIT i ∧ s.cls i ≠ 0 ∧ s.on R.CNV_STATUS_CFG_PENDING
      = false) ∧
    (∃ (s : State) (i : Fin 4) (vbus : Nat), (s.instate i = 2 ∨ s.instate i = 8 ∧ s.on R.X_READMIT i) ∧ vbus < 65536) ∧
    (∃ (s : State) (i : Fin 4) (v : Nat), s.instate i = 3 ∧ v < 65536 ∧ s.on R.CNV_STATUS_CFG_PENDING = false) ∧
    (∃ (s : State) (i : Fin 4) (v : Nat), s.instate i = 8 ∧ s.on R.X_READMIT i ∧ s.bit R.IN_STATUS_FET_ON i ∧ v < 65536) ∧
    (∃ (s : State) (i : Fin 4), s.instate i = 4 ∧ s.on R.AUX_STATUS_VAUX_REG ∧ s.on R.CNV_STATUS_CFG_PENDING = false) :=
  ⟨⟨put [], 2, by decide +kernel⟩,
    ⟨put [(R.X_DEBOUNCE, 1, 1), (R.INn_STAT_STATE, 1, 1)], 1, by decide +kernel⟩,
    ⟨put [(R.X_DEBOUNCE, 1, 1), (R.INn_STAT_STATE, 1, 1)], 1, 1234, by decide +kernel⟩,
    ⟨put [(R.IN_STATUS_PRESENT, 2, 0), (R.INn_STAT_STATE, 7, 1), (R.INn_STAT_CLASS, 4, 1)], 1, by decide +kernel⟩,
    ⟨put [(R.X_DEBOUNCE, 1, 1), (R.INn_STAT_STATE, 1, 1)], 1, by decide +kernel⟩,
    ⟨put [(R.INn_STAT_STATE, 2, 1)], 1, 200, by decide +kernel⟩,
    ⟨put [(R.INn_STAT_STATE, 8, 1), (R.X_READMIT, 1, 1), (R.INn_STAT_CLASS, 4, 1)], 1, 200, by decide +kernel⟩,
    ⟨put [(R.INn_STAT_STATE, 2, 1)], 1, 100, by decide +kernel⟩,
    ⟨put [(R.INn_STAT_STATE, 3, 1), (R.INn_STAT_BAND, 2, 1), (R.AUX_STATUS_VAUX_REG, 1, 0)], 1, 2500, by decide +kernel⟩,
    ⟨put [(R.INn_STAT_STATE, 8, 1), (R.X_READMIT, 1, 1), (R.IN_STATUS_FET_ON, 2, 0)], 1, 2500, by decide +kernel⟩,
    ⟨put [(R.INn_STAT_STATE, 4, 1), (R.AUX_STATUS_VAUX_REG, 1, 0)], 1, by decide +kernel⟩⟩

theorem met_InputClassification :
    (∃ (s : State) (i : Fin 4) (v0 : Nat) (_i0 : Int) (_steps : List ProbeStep) (_lows : List Nat), s.instate i = 5 ∧ v0 <
      65536 ∧ s.on R.CNV_STATUS_CFG_PENDING = false ∧ (s.get R.INn_STAT_BAND i < 2 ∨ 5 < s.get R.INn_STAT_BAND i)) ∧
    (∃ (s : State) (i : Fin 4) (v0 : Nat) (_i0 : Int) (_steps : List ProbeStep) (_lows : List Nat), s.instate i = 5 ∧ v0 <
      65536 ∧ s.on R.CNV_STATUS_CFG_PENDING = false ∧ 2 ≤ s.get R.INn_STAT_BAND i ∧ s.get R.INn_STAT_BAND i ≤ 5) ∧
    (∃ (s : State) (i : Fin 4) (_early _mid _late : List Nat), s.instate i = 6 ∧ s.on R.CNV_STATUS_CFG_PENDING = false) ∧
    (∃ (s : State) (i : Fin 4) (_k : Nat), (s.instate i = 7 ∨ s.instate i = 8) ∧ s.on R.CNV_STATUS_CFG_PENDING = false) ∧
    (∃ (s : State) (i : Fin 4), (s.instate i = 8 ∧ s.present i = false ∨ s.instate i = 10 ∧ s.on R.X_OV i) ∧ s.cls i ≠ 0 ∧
      s.on R.CNV_STATUS_CFG_PENDING = false) ∧
    (∃ (s : State) (_i : Fin 4), s.on R.CNV_STATUS_CFG_PENDING = false) ∧
    (∃ (s : State) (_i : Fin 4) (_b : Bool), s.on R.CNV_STATUS_CFG_PENDING = false) :=
  ⟨⟨put [(R.INn_STAT_STATE, 5, 1), (R.INn_STAT_BAND, 7, 1)], 1, 2500, 10, [⟨8, 2400, 18⟩], [2400], by decide +kernel⟩,
    ⟨put [(R.INn_STAT_STATE, 5, 1), (R.INn_STAT_BAND, 3, 1), (R.IN_STATUS_PRESENT, 2, 0), (R.INn_MASK, 31, 1), (R.INn_CTRL, 1,
      1)], 1, 2500, 10, [⟨8, 2400, 18⟩], [2400], by decide +kernel⟩,
    ⟨put [(R.INn_STAT_STATE, 6, 1), (R.IN_STATUS_PRESENT, 2, 0), (R.INn_MASK, 31, 1), (R.INn_CTRL, 1, 1)], 1, [2400, 2410],
      [2400], [], by decide +kernel⟩,
    ⟨put [(R.INn_STAT_STATE, 7, 1)], 1, 200, by decide +kernel⟩,
    ⟨put [(R.INn_STAT_STATE, 10, 1), (R.X_OV, 1, 1), (R.INn_STAT_CLASS, 4, 1)], 1, by decide +kernel⟩,
    ⟨put [(R.INn_STAT_STATE, 10, 1), (R.X_OV, 1, 1), (R.INn_STAT_CLASS, 4, 1)], 1, by decide +kernel⟩,
    ⟨put [], 1, true, by decide +kernel⟩⟩

theorem met_InputFaults :
    (∃ (s : State) (_i : Fin 4), s.on R.CNV_STATUS_CFG_PENDING = false) ∧
    (∃ (s : State) (i : Fin 4) (vbus : Nat), s.on R.X_OV i ∧ s.on R.X_FETBAD i = false ∧ s.on R.CNV_STATUS_CFG_PENDING = false
      ∧ vbus < 65536) ∧
    (∃ (s : State) (i : Fin 4), (s.instate i = 3 ∨ s.instate i = 7) ∧ s.on R.CNV_STATUS_CFG_PENDING = false) ∧
    (∃ (s : State) (i : Fin 4), s.instate i = 7 ∧ s.cls i = 2 ∧ s.bit R.IN_STATUS_TS_RELEASED i = false) ∧
    (∃ (s : State) (i : Fin 4) (vref : Nat), s.instate i = 7 ∧ s.cls i = 2 ∧ s.bit R.IN_STATUS_TS_RELEASED i ∧ vref < 65536 ∧
      s.on R.CNV_STATUS_CFG_PENDING = false) ∧
    (∃ (s : State) (i : Fin 4) (vref : Nat), s.instate i = 7 ∧ s.cls i = 2 ∧ s.bit R.IN_STATUS_TS_RELEASED i = false ∧ (s.on
      R.X_RETAKE i ∨ s.get R.TRKn_ALLOC i ≠ 0) ∧ vref < 65536 ∧ s.on R.CNV_STATUS_CFG_PENDING = false) :=
  ⟨⟨put [], 1, by decide +kernel⟩,
    ⟨put [(R.INn_STAT_STATE, 10, 1), (R.X_OV, 1, 1), (R.INn_STAT_CLASS, 4, 1)], 1, 3, by decide +kernel⟩,
    ⟨put [(R.INn_STAT_STATE, 7, 1)], 1, by decide +kernel⟩,
    ⟨put [(R.INn_STAT_STATE, 7, 1), (R.INn_STAT_CLASS, 2, 1)], 1, by decide +kernel⟩,
    ⟨put [(R.IN_STATUS_TS_RELEASED, 2, 0), (R.INn_STAT_STATE, 7, 1), (R.INn_STAT_CLASS, 2, 1)], 1, 2700, by decide +kernel⟩,
    ⟨put [(R.INn_STAT_STATE, 7, 1), (R.INn_STAT_CLASS, 2, 1), (R.X_RETAKE, 1, 1)], 1, 2700, by decide +kernel⟩⟩

theorem met_ConverterSequence :
    (∃ (s : State) (g : Fin 4), s.gstate g = 1 ∧ s.on R.AUX_STATUS_VAUX_REG) ∧
    (∃ (s : State) (g : Fin 4), s.gstate g = 1 ∧ s.on R.X_BOOT g) ∧
    (∃ (s : State) (g : Fin 4), s.gstate g = 4 ∧ s.get R.TRKn_ALLOC g = 0 ∧ s.on R.CNV_STATUS_CFG_PENDING = false) ∧
    (∃ (s : State), s.on R.CNV_STATUS_CFG_PENDING = false) ∧
    (∃ (s : State) (g : Fin 4), s.active g ≠ []) ∧
    (∃ (s : State) (_g : Fin 4), s.on R.CNV_STATUS_CFG_PENDING = false) ∧
    (∃ (s : State), s.on R.CNV_STATUS_CFG_PENDING = false) ∧
    (∃ (s : State), s.on R.CNV_STATUS_CFG_PENDING ∧ s.allStopped ∧ (∀ p : Fin 6, s.mapNibble p ≤ 4)) :=
  ⟨⟨put [(R.CNV_Gg_STAT_STATE, 1, 1), (R.AUX_STATUS_VAUX_REG, 1, 0)], 1, by decide +kernel⟩,
    ⟨put [(R.CNV_Gg_STAT_STATE, 1, 1), (R.X_BOOT, 1, 1)], 1, by decide +kernel⟩,
    ⟨put [(R.CNV_Gg_STAT_STATE, 4, 1)], 1, by decide +kernel⟩,
    ⟨put [], by decide +kernel⟩,
    ⟨put [(R.CNV_PHn_STAT_GROUP, 2, 0), (R.CNV_PHn_STAT_SWITCHING, 1, 0)], 1, by decide +kernel⟩,
    ⟨put [(R.CNV_Gg_STAT_STATE, 5, 1), (R.X_TRIP, 8, 1)], 1, by decide +kernel⟩,
    ⟨put [], by decide +kernel⟩,
    ⟨put [(R.CNV_STATUS_CFG_PENDING, 1, 0)], by decide +kernel⟩⟩

theorem met_ConverterLoops :
    (∃ (s : State) (g : Fin 4) (_vin _iin _ibat _vbat _vsys _reduced _amps sys vbus _bats : Nat), s.gstate g = 3 ∧ s.instate g
      ≠ 5 ∧ s.get R.TRKn_ALLOC g ≠ 0 ∧ sys < 65536 ∧ vbus < 65536) ∧
    (∃ (s : State) (g : Fin 4) (kp ki : Nat), s.on R.X_TUNING g ∧ s.tuneHolds g ∧ 64 ≤ kp ∧ kp ≤ 1024 ∧ 64 ≤ ki ∧ ki ≤ 1024) ∧
    (∃ (s : State) (g : Fin 4), s.on R.X_TUNE g) ∧
    (∃ (s : State) (g : Fin 4), s.gstate g = 3) ∧
    (∃ (_s : State) (_g : Fin 4) (cur : List Int), (∀ c ∈ cur, -4000 ≤ c ∧ c ≤ 4000)) ∧
    (∃ (s : State) (p : Fin 6) (_edge : Fin 4) (_diode _gate : Bool) (_fall : Nat), s.on R.CNV_DT_INIT_LEARN ∧ s.on
      R.CNV_PHn_STAT_SWITCHING p ∧ s.on R.CNV_Gg_STAT_BURST (s.get R.CNV_PHn_STAT_GROUP p - 1) = false ∧ (s.get R.CNV_PH_IMAX
      : Int) ≤ 10 * s.getS R.CNV_PHn_I p) ∧
    (∃ (s : State) (p : Fin 6) (_diode _ring : Bool), s.on R.CNV_LIGHT_DE_EN ∧ s.on R.CNV_PHn_STAT_SWITCHING p ∧ -40 ≤ s.getS
      R.CNV_PHn_ZC_OFS p ∧ s.getS R.CNV_PHn_ZC_OFS p ≤ 40) ∧
    (∃ (s : State) (g : Fin 4) (cur : List Int) (_de _full : Bool), (s.gstate g = 2 ∨ s.gstate g = 3 ∧ (s.on
      R.CNV_LIGHT_SHED_EN = false ∨ s.on R.CNV_Gg_STAT_BURST g)) ∧ (∀ c ∈ cur, -4000 ≤ c ∧ c ≤ 4000)) ∧
    (∃ (s : State) (g : Fin 4) (cur : List Int) (_de full : Bool), s.gstate g = 3 ∧ s.on R.CNV_LIGHT_SHED_EN ∧ s.on
      R.CNV_Gg_STAT_BURST g = false ∧ (∀ c ∈ cur, -4000 ≤ c ∧ c ≤ 4000) ∧ ¬(s.highCount g cur = 2 ∨ full = true ∨ s.active g =
      [] ∨ s.on R.CNV_Gg_STAT_PH_LIMIT g) ∧ ¬(s.lowCount g cur = 8 ∧ 2 ≤ (s.active g).length)) ∧
    (∃ (s : State) (g : Fin 4) (cur : List Int) (_de full : Bool), s.gstate g = 3 ∧ s.on R.CNV_LIGHT_SHED_EN ∧ s.on
      R.CNV_Gg_STAT_BURST g = false ∧ (∀ c ∈ cur, -4000 ≤ c ∧ c ≤ 4000) ∧ ¬(s.highCount g cur = 2 ∨ full = true ∨ s.active g =
      [] ∨ s.on R.CNV_Gg_STAT_PH_LIMIT g) ∧ s.lowCount g cur = 8 ∧ 2 ≤ (s.active g).length) ∧
    (∃ (s : State) (g : Fin 4) (cur : List Int) (_de full : Bool), s.gstate g = 3 ∧ s.on R.CNV_LIGHT_SHED_EN ∧ s.on
      R.CNV_Gg_STAT_BURST g = false ∧ (∀ c ∈ cur, -4000 ≤ c ∧ c ≤ 4000) ∧ (s.highCount g cur = 2 ∨ full = true ∨ s.active g =
      [] ∨ s.on R.CNV_Gg_STAT_PH_LIMIT g)) ∧
    (∃ (s : State) (g ev : Fin 4), ev = 0 ∧ s.on R.CNV_Gg_STAT_BURST g = false ∧ s.gstate g = 3 ∧ s.on R.CNV_LIGHT_BURST_EN ∧
      (s.active g).length = 1 ∧ s.get R.CNV_Gg_PEAK g * 20 < s.get R.CNV_IPK_LIM) ∧
    (∃ (s : State) (g ev : Fin 4), ev = 1 ∧ s.on R.CNV_Gg_STAT_BURST g) ∧
    (∃ (s : State) (g ev : Fin 4), ev = 2 ∧ s.on R.CNV_Gg_STAT_BURST g) ∧
    (∃ (s : State) (g ev : Fin 4), ev = 3 ∧ s.on R.CNV_Gg_STAT_BURST g) :=
  ⟨⟨put [(R.CNV_Gg_STAT_STATE, 3, 1), (R.TRKn_ALLOC, 5, 1)], 1, 10, 20, 30, 40, 50, 5, 3, 2600, 2700, 26000, by
      decide +kernel⟩,
    ⟨put [(R.CNV_Gg_STAT_STATE, 3, 1), (R.X_TUNE, 1, 1), (R.X_TUNING, 1, 1)], 1, 100, 1024, by decide +kernel⟩,
    ⟨put [(R.X_TUNE, 1, 1)], 1, by decide +kernel⟩,
    ⟨put [(R.CNV_Gg_STAT_STATE, 3, 1)], 1, by decide +kernel⟩,
    ⟨put [(R.CNV_Gg_STAT_STATE, 3, 1), (R.CNV_PH_IMAX, 40, 0), (R.CNV_PHn_STAT_GROUP, 2, 0), (R.CNV_PHn_STAT_GROUP, 2, 1),
      (R.CNV_PHn_STAT_SWITCHING, 1, 0), (R.CNV_PHn_STAT_SWITCHING, 1, 1)], 1, [300, 400], by decide +kernel⟩,
    ⟨put [(R.CNV_DT_INIT_LEARN, 1, 0), (R.CNV_PHn_STAT_SWITCHING, 1, 2), (R.CNV_PHn_I, 400, 2)], 2, 1, false, true, 5, by
      decide +kernel⟩,
    ⟨put [(R.CNV_LIGHT_DE_EN, 1, 0), (R.CNV_PHn_STAT_SWITCHING, 1, 2)], 2, true, false, by decide +kernel⟩,
    ⟨put [(R.CNV_Gg_STAT_STATE, 2, 1)], 1, [3, 4], true, false, by decide +kernel⟩,
    ⟨put [(R.CNV_Gg_STAT_STATE, 3, 1), (R.CNV_LIGHT_SHED_EN, 1, 0), (R.CNV_PH_IMAX, 40, 0), (R.CNV_PHn_STAT_GROUP, 2, 0),
      (R.CNV_PHn_STAT_GROUP, 2, 1), (R.CNV_PHn_STAT_SWITCHING, 1, 0), (R.CNV_PHn_STAT_SWITCHING, 1, 1)], 1, [3, 4], true,
      false, by decide +kernel⟩,
    ⟨put [(R.CNV_Gg_STAT_STATE, 3, 1), (R.CNV_LIGHT_SHED_EN, 1, 0), (R.CNV_PH_IMAX, 40, 0), (R.CNV_PHn_STAT_GROUP, 2, 0),
      (R.CNV_PHn_STAT_GROUP, 2, 1), (R.CNV_PHn_STAT_SWITCHING, 1, 0), (R.CNV_PHn_STAT_SWITCHING, 1, 1), (R.X_SHED_LOW, 7,
      1)], 1, [3, 4], true, false, by decide +kernel⟩,
    ⟨put [(R.CNV_Gg_STAT_STATE, 3, 1), (R.CNV_LIGHT_SHED_EN, 1, 0), (R.CNV_PH_IMAX, 40, 0), (R.CNV_PHn_STAT_GROUP, 2, 0),
      (R.CNV_PHn_STAT_GROUP, 2, 1), (R.CNV_PHn_STAT_SWITCHING, 1, 0), (R.CNV_PHn_STAT_SHED, 1, 1)], 1, [3, 4], true, true,
      by decide +kernel⟩,
    ⟨put [(R.CNV_Gg_STAT_STATE, 3, 1), (R.CNV_LIGHT_BURST_EN, 1, 0), (R.CNV_PHn_STAT_GROUP, 2, 0), (R.CNV_PHn_STAT_SWITCHING,
      1, 0)], 1, 0, by decide +kernel⟩,
    ⟨put [(R.CNV_Gg_STAT_STATE, 3, 1), (R.CNV_LIGHT_BURST_EN, 1, 0), (R.CNV_PHn_STAT_GROUP, 2, 0), (R.CNV_PHn_STAT_SWITCHING,
      1, 0), (R.CNV_Gg_STAT_BURST, 1, 1)], 1, 1, by decide +kernel⟩,
    ⟨put [(R.CNV_Gg_STAT_STATE, 3, 1), (R.CNV_LIGHT_BURST_EN, 1, 0), (R.CNV_PHn_STAT_GROUP, 2, 0), (R.CNV_PHn_STAT_SWITCHING,
      1, 0), (R.CNV_Gg_STAT_BURST, 1, 1)], 1, 2, by decide +kernel⟩,
    ⟨put [(R.CNV_Gg_STAT_STATE, 3, 1), (R.CNV_LIGHT_BURST_EN, 1, 0), (R.CNV_PHn_STAT_GROUP, 2, 0), (R.CNV_PHn_STAT_SWITCHING,
      1, 0), (R.CNV_Gg_STAT_BURST, 1, 1)], 1, 3, by decide +kernel⟩⟩

theorem met_ConverterPhases :
    (∃ (s : State) (p : Fin 6) (r : RefreshPulse), s.on R.CNV_PHn_STAT_SWITCHING p ∧ (s.refreshSide (s.get
      R.CNV_PHn_STAT_GROUP p - 1) = 1 ∨ s.refreshSide (s.get R.CNV_PHn_STAT_GROUP p - 1) = 2 ∧ s.getS R.CNV_PHn_ZC_OFS p <
      r.cur)) ∧
    (∃ (s : State) (e : TurnOff), s.on R.CNV_PHn_STAT_SWITCHING e.phase ∧ 60 ≤ e.ns) ∧
    (∃ (s : State) (e : NegativeCurrent), s.on R.CNV_PHn_STAT_SWITCHING e.phase ∧ e.cur < -(s.get R.CNV_INEG_LIM : Int)) ∧
    (∃ (s : State) (p : Fin 6), s.get R.CNV_PHn_STAT_GROUP p ≠ 0 ∧ s.on R.CNV_PHn_STAT_EXCLUDED p = false) ∧
    (∃ (s : State) (p : Fin 6), s.on R.CNV_PHn_STAT_SWITCHING p ∧ s.get R.CNV_PHn_STAT_GROUP p ≠ 0 ∧ s.on
      R.CNV_PHn_STAT_EXCLUDED p = false) ∧
    (∃ (s : State) (p : Fin 6), s.on R.X_BOOT_REF p ∧ s.get R.CNV_PHn_STAT_GROUP p ≠ 0 ∧ s.on R.CNV_PHn_STAT_EXCLUDED p =
      false) ∧
    (∃ (s : State) (p : Fin 6), s.on R.CNV_PHn_STAT_EXCLUDED p) :=
  ⟨⟨put [(R.CNV_PHn_STAT_SWITCHING, 1, 2), (R.CNV_PHn_STAT_GROUP, 2, 2), (R.CNV_Gg_STAT_REGION, 0, 1)], 2, ⟨true, 40, 9⟩, by
      decide +kernel⟩,
    ⟨put [(R.CNV_PHn_STAT_SWITCHING, 1, 2)], ⟨2, 700⟩, by decide +kernel⟩,
    ⟨put [(R.CNV_PHn_STAT_SWITCHING, 1, 2)], ⟨2, -5000⟩, by decide +kernel⟩,
    ⟨put [(R.CNV_PHn_STAT_GROUP, 2, 2)], 2, by decide +kernel⟩,
    ⟨put [(R.CNV_PHn_STAT_GROUP, 2, 2), (R.CNV_PHn_STAT_SWITCHING, 1, 2)], 2, by decide +kernel⟩,
    ⟨put [(R.CNV_PHn_STAT_GROUP, 2, 2), (R.X_BOOT_REF, 1, 2)], 2, by decide +kernel⟩,
    ⟨put [(R.CNV_PHn_STAT_EXCLUDED, 1, 2)], 2, by decide +kernel⟩⟩

theorem met_Tracking :
    (∃ (s : State) (_pin ins : Quad) (_vbat _ibat : Int) (sys : Nat), sys < 65536 ∧ (∀ i : Fin 4, ins.at i < 65536) ∧ s.on
      R.CNV_STATUS_CFG_PENDING = false) ∧
    (∃ (s : State) (i : Fin 4) (p : Nat) (_counted : Bool), (s.cls i = 3 ∨ s.cls i = 5) ∧ p < 65536 ∧ 1 ≤ s.get R.TRKn_STEP i
      ∧ s.get R.TRKn_STEP i ≤ 100 ∧ s.get R.TRKn_STAT_RUN i < 4) ∧
    (∃ (s : State) (i : Fin 4), s.on R.X_SWEEP_DUE i ∧ s.cls i = 3 ∧ s.drawable i ∧ s.allowed i ∧ s.allocRuns ∧ s.retrying =
      false ∧ s.sweepWaits i = false) ∧
    (∃ (s : State) (i : Fin 4) (voc : Nat) (_powers : List Nat), s.bit R.TRK_STATUS_SWEEPING i ∧ voc < 65536) ∧
    (∃ (s : State) (i : Fin 4), s.bit R.TRK_STATUS_SWEEPING i) ∧
    (∃ (s : State) (i : Fin 4), s.cls i = 3) ∧
    (∃ (s : State) (i : Fin 4), (s.cls i = 1 ∨ s.cls i = 4 ∨ s.cls i = 6) ∧ s.on R.TRKn_STAT_GOVERNED i) :=
  ⟨⟨put [(R.MODE_STATUS_MODE, 4, 0), (R.DEV_CLK_FAST_ON, 1, 0)], ⟨1, 2, 3, 4⟩, ⟨1, 2, 3, 4⟩, 5, 6, 2600, by decide +kernel⟩,
    ⟨put [(R.TRKn_STEP, 20, 1), (R.INn_STAT_CLASS, 3, 1), (R.INn_STAT_STATE, 7, 1), (R.IN_STATUS_PRESENT, 2, 0), (R.INn_CTRL,
      1, 1), (R.IN_STATUS_FET_ON, 2, 0)], 1, 500, true, by decide +kernel⟩,
    ⟨put [(R.INn_STAT_CLASS, 3, 1), (R.INn_STAT_STATE, 7, 1), (R.IN_STATUS_PRESENT, 2, 0), (R.INn_CTRL, 1, 1),
      (R.IN_STATUS_FET_ON, 2, 0), (R.X_SWEEP_DUE, 1, 1), (R.MODE_STATUS_MODE, 4, 0), (R.DEV_CLK_FAST_ON, 1, 0)], 1, by
      decide +kernel⟩,
    ⟨put [(R.TRK_STATUS_SWEEPING, 2, 0)], 1, 4000, [1, 7, 9, 3], by decide +kernel⟩,
    ⟨put [(R.TRK_STATUS_SWEEPING, 2, 0)], 1, by decide +kernel⟩,
    ⟨put [(R.INn_STAT_CLASS, 3, 1)], 1, by decide +kernel⟩,
    ⟨put [(R.INn_STAT_CLASS, 4, 1), (R.TRKn_STAT_GOVERNED, 1, 1)], 1, by decide +kernel⟩⟩

theorem met_ChargeSequence :
    (∃ (s : State) (_vq : Nat), s.chg = 2 ∧ s.holding = false ∧ s.get R.PP_STATUS_BAT = 1) ∧
    (∃ (s : State) (v : Nat), s.chg = 3 ∧ s.holding = false ∧ s.cells * (s.get R.CHG_V_PRE + 50) ≤ v) ∧
    (∃ (s : State) (_ion : Int) (_von : Nat), onState s.chg ∧ s.on R.X_PULSE) ∧
    (∃ (s : State) (_k : Fin 3) (_v : Nat) (_i1 : Int), restState s.chg ∧ s.on R.X_CHG_WAIT = false) ∧
    (∃ (s : State) (_inBand : Bool) (_raw _amps : Int) (_sat : Bool), restState s.chg ∧ s.on R.X_CHG_WAIT = false) ∧
    (∃ (s : State) (_inBand : Bool) (_raw _amps : Int) (_sat : Bool), restState s.chg ∧ s.on R.X_CHG_WAIT ∧ s.holding = false) ∧
    (∃ (s : State) (_v : Nat) (_amps _raw : Int) (_sat : Bool), s.chg = 0xA ∧ s.on R.BIST_STATUS_P3_WINDOW = false ∧
      s.p3Qualifies = false) ∧
    (∃ (s : State) (_v : Nat) (_amps _raw : Int) (_sat : Bool), s.chg = 0xA ∧ s.on R.BIST_STATUS_P3_WINDOW = false ∧
      s.p3Qualifies ∧ s.on R.CNV_STATUS_CFG_PENDING = false) ∧
    (∃ (s : State), s.on R.BIST_STATUS_P3_WINDOW) ∧
    (∃ (s : State), s.chg = 0xB) ∧
    (∃ (s : State), s.chg = 0xC ∧ s.holding = false) ∧
    (∃ (s : State) (_why : Fin 3), s.chg = 0xD) :=
  ⟨⟨put [(R.CHG_STATUS_STATE, 2, 0), (R.PP_STATUS_BAT, 1, 0), (R.CHG_PROFILE_CELLS, 8, 0), (R.CHG_PROFILE_CHEM, 1, 0)], 100,
      by decide +kernel⟩,
    ⟨put [(R.CHG_STATUS_STATE, 3, 0)], 60000, by decide +kernel⟩,
    ⟨put [(R.CHG_STATUS_STATE, 4, 0), (R.X_PULSE, 1, 0)], 300, 26000, by decide +kernel⟩,
    ⟨put [(R.CHG_STATUS_STATE, 5, 0)], 0, 26000, 5, by decide +kernel⟩,
    ⟨put [(R.CHG_STATUS_STATE, 5, 0)], false, 3, 4, false, by decide +kernel⟩,
    ⟨put [(R.CHG_STATUS_STATE, 5, 0), (R.X_CHG_WAIT, 1, 0)], true, 3, 4, false, by decide +kernel⟩,
    ⟨put [(R.CHG_STATUS_STATE, 10, 0), (R.CHG_PROFILE_CELLS, 8, 0), (R.CHG_PROFILE_CHEM, 1, 0)], 5, 0, 0, true, by
      decide +kernel⟩,
    ⟨put [(R.CHG_STATUS_STATE, 10, 0), (R.CHG_PROFILE_CELLS, 8, 0), (R.CHG_PROFILE_CHEM, 1, 0), (R.BIST_CTRL_P3_FORCE_EN, 1,
      0), (R.PP_STATUS_ROLE, 1, 0), (R.DEV_TIME, 200000000, 0)], 5, 0, 0, true, by decide +kernel⟩,
    ⟨put [(R.BIST_STATUS_P3_WINDOW, 1, 0)], by decide +kernel⟩,
    ⟨put [(R.CHG_STATUS_STATE, 11, 0)], by decide +kernel⟩,
    ⟨put [(R.CHG_STATUS_STATE, 12, 0)], by decide +kernel⟩,
    ⟨put [(R.CHG_STATUS_STATE, 13, 0)], 2, by decide +kernel⟩⟩

theorem met_ChargeSupervision :
    (∃ (s : State) (_amps : Int), timersRun s.chg) ∧
    (∃ (s : State), timersRun s.chg ∧ 60 * s.get R.CHG_T_ABS ≤ s.get R.CHG_TABS) ∧
    (∃ (s : State), s.on R.CHG_CTRL_BMSOK_EN) ∧
    (∃ (s : State) (word : Nat), word < 256 ∧ cellsAllowed (word % 16) (word / 16) ∧ ((s.set R.CHG_PROFILE_CHEM (word %
      16)).set R.CHG_PROFILE_CELLS (word / 16)).profileOk) :=
  ⟨⟨put [(R.CHG_STATUS_STATE, 4, 0)], 300, by decide +kernel⟩,
    ⟨put [(R.CHG_STATUS_STATE, 4, 0), (R.CHG_TABS, 200000, 0)], by decide +kernel⟩,
    ⟨put [(R.CHG_CTRL_BMSOK_EN, 1, 0)], by decide +kernel⟩,
    ⟨put [], 0, by decide +kernel⟩⟩

theorem met_PowerPathRole :
    (∃ (s : State) (sys bats : Nat) (_ibat : Int) (_high : Bool), s.asleepDeep = false ∧ s.mustOpen bats ∧ s.get
      R.PP_STATUS_BAT = 1 ∧ sys < 65536 ∧ bats < 65536) ∧
    (∃ (s : State), s.get R.PP_STATUS_ROLE = 4 ∧ s.get R.X_FAILS < 2) ∧
    (∃ (s : State) (sysMv batsMv : Nat), s.get R.PP_STATUS_ROLE = 2 ∧ sysMv + 20 < batsMv ∧ s.get R.X_SUPPL = 0) ∧
    (∃ (s : State), s.on R.PP_STATUS_COLD_START) ∧
    (∃ (s : State), s.on R.X_COLD_WAIT) ∧
    (∃ (s : State), s.on R.AUX_STATUS_VAUX_REG ∧ 450 ≤ s.get R.X_SYSS) :=
  ⟨⟨put [(R.PP_STATUS_BAT, 1, 0), (R.PP_STATUS_RETRY_WAIT, 1, 0)], 2000, 2400, (-7), false, by decide +kernel⟩,
    ⟨put [(R.PP_STATUS_ROLE, 4, 0)], by decide +kernel⟩,
    ⟨put [(R.PP_STATUS_ROLE, 2, 0)], 10000, 10100, by decide +kernel⟩,
    ⟨put [(R.PP_STATUS_COLD_START, 1, 0)], by decide +kernel⟩,
    ⟨put [(R.X_COLD_WAIT, 1, 0)], by decide +kernel⟩,
    ⟨put [(R.AUX_STATUS_VAUX_REG, 1, 0), (R.X_SYSS, 900, 0)], by decide +kernel⟩⟩

theorem met_PowerPathProtection :
    (∃ (s : State), s.get R.PP_STATUS_ROLE ≠ 0) ∧
    (∃ (s : State), s.get R.PP_STATUS_ROLE ≠ 0) ∧
    (∃ (s : State), s.on R.X_LOCKOUT = false ∧ s.get R.PP_STATUS_ROLE ≠ 0 ∧ s.get R.PP_STATUS_ROLE ≠ 4) ∧
    (∃ (s : State) (batsMv : Nat), s.anyPresent ∧ s.get R.PP_STATUS_BAT = 1 ∧ batsMv < s.cells * s.get R.PP_UV_CELL ∧ s.on
      R.PP_STATUS_UV_INHIBIT = false) ∧
    (∃ (s : State) (batsMv : Nat), s.cells * (s.get R.PP_UV_CELL + 100) ≤ batsMv) ∧
    (∃ (s : State) (batsMv : Nat), s.anyPresent = false ∧ s.get R.PP_STATUS_BAT = 1 ∧ batsMv < s.cells * s.get R.PP_UV_CELL ∧
      s.on R.X_CUTOFF = false ∧ s.asleepDeep = false) ∧
    (∃ (s : State), s.on R.X_CUTOFF ∧ s.railOn 0 = false ∧ s.railOn 1 = false ∧ s.uncommitted = 0) ∧
    (∃ (s : State) (_v0 _v1 : Nat), s.get R.PP_STATUS_ROLE = 0 ∧ (s.get R.PP_STATUS_BAT = 0 ∨ s.get R.PP_STATUS_BAT = 2 ∨
      s.get R.PP_STATUS_BAT = 3) ∧ s.asleepDeep = false) ∧
    (∃ (s : State), s.get R.PP_STATUS_ROLE = 0) ∧
    (∃ (s : State), s.get R.PP_STATUS_ROLE = 2 ∧ s.get R.CHG_I_TARGET ≠ 0 ∧ s.get R.PP_STATUS_BAT = 1) ∧
    (∃ (s : State) (batsMv : Nat), s.chg = 3 ∧ s.get R.PP_STATUS_BAT = 1 ∧ batsMv ≤ s.cells * s.get R.PP_V_SHORT * 10) ∧
    (∃ (s : State), s.get R.PP_STATUS_ROLE ≠ 0 ∧ s.get R.PP_STATUS_ROLE ≠ 4) ∧
    (∃ (s : State), s.get R.PP_STATUS_ROLE ≠ 0 ∧ s.on R.TRK_STATUS_SHORTFALL ∧ s.chg = 4) :=
  ⟨⟨put [(R.PP_STATUS_ROLE, 1, 0), (R.CHG_STATUS_STATE, 4, 0)], by decide +kernel⟩,
    ⟨put [(R.PP_STATUS_ROLE, 1, 0), (R.CHG_STATUS_STATE, 4, 0)], by decide +kernel⟩,
    ⟨put [(R.PP_STATUS_ROLE, 1, 0), (R.X_FAILS, 2, 0)], by decide +kernel⟩,
    ⟨put [(R.IN_STATUS_PRESENT, 1, 0), (R.PP_STATUS_BAT, 1, 0), (R.CHG_PROFILE_CELLS, 8, 0)], 1000, by decide +kernel⟩,
    ⟨put [(R.PP_STATUS_UV_INHIBIT, 1, 0)], 1000000, by decide +kernel⟩,
    ⟨put [(R.PP_STATUS_BAT, 1, 0), (R.CHG_PROFILE_CELLS, 8, 0)], 1000, by decide +kernel⟩,
    ⟨put [(R.X_CUTOFF, 1, 0)], by decide +kernel⟩,
    ⟨put [], 2400, 2390, by decide +kernel⟩,
    ⟨put [], by decide +kernel⟩,
    ⟨put [(R.PP_STATUS_ROLE, 2, 0), (R.CHG_I_TARGET, 4, 0), (R.PP_STATUS_BAT, 1, 0)], by decide +kernel⟩,
    ⟨put [(R.CHG_STATUS_STATE, 3, 0), (R.PP_STATUS_BAT, 1, 0)], 0, by decide +kernel⟩,
    ⟨put [(R.PP_STATUS_ROLE, 1, 0), (R.CHG_STATUS_STATE, 4, 0)], by decide +kernel⟩,
    ⟨put [(R.PP_STATUS_ROLE, 1, 0), (R.CHG_STATUS_STATE, 4, 0), (R.TRK_STATUS_SHORTFALL, 1, 0)], by decide +kernel⟩⟩

theorem met_SupplyVaux :
    (∃ (s : State) (v a : Nat), s.on R.AUX_STATUS_VAUX_ON ∧ s.on R.AUX_STATUS_VAUX_REG = false ∧ v < 65536 ∧ a < 65536) ∧
    (∃ (s : State), s.vauxWanted = false) ∧
    (∃ (s : State), s.on R.AUX_STATUS_VAUX_ON) ∧
    (∃ (s : State), s.on R.X_VAUX_WAIT) ∧
    (∃ (s : State), s.on R.AUX_STATUS_VAUX_ON) :=
  ⟨⟨put [(R.AUX_STATUS_VAUX_ON, 1, 0)], 1200, 4, by decide +kernel⟩,
    ⟨put [(R.AUX_STATUS_VAUX_ON, 1, 0)], by decide +kernel⟩,
    ⟨put [(R.AUX_STATUS_VAUX_ON, 1, 0)], by decide +kernel⟩,
    ⟨put [(R.X_VAUX_WAIT, 1, 0)], by decide +kernel⟩,
    ⟨put [(R.AUX_STATUS_VAUX_ON, 1, 0)], by decide +kernel⟩⟩

theorem met_SupplyVpre :
    (∃ (s : State), s.get R.X_VPRE = 1) ∧
    (∃ (s : State) (v : Nat), s.get R.X_VPRE = 2 ∧ v < 65536) ∧
    (∃ (s : State), s.vpreWanted = false ∧ 1 ≤ s.get R.X_VPRE ∧ s.get R.X_VPRE ≤ 3) ∧
    (∃ (s : State), s.on R.AUX_STATUS_VPRE_ON ∧ s.get R.X_VPRE = 2) ∧
    (∃ (s : State), s.get R.X_VPRE = 5 ∧ s.vpreWanted) ∧
    (∃ (s : State), s.get R.X_VPRE = 6 ∧ s.vpreWanted = false) :=
  ⟨⟨put [(R.X_VPRE, 1, 0)], by decide +kernel⟩,
    ⟨put [(R.X_VPRE, 2, 0)], 5000, by decide +kernel⟩,
    ⟨put [(R.X_VPRE, 3, 0)], by decide +kernel⟩,
    ⟨put [(R.AUX_STATUS_VPRE_ON, 1, 0), (R.X_VPRE, 2, 0)], by decide +kernel⟩,
    ⟨put [(R.X_VPRE, 5, 0), (R.MODE_STATUS_RAIL_DEMAND, 1, 0)], by decide +kernel⟩,
    ⟨put [(R.X_VPRE, 6, 0)], by decide +kernel⟩⟩

theorem met_HostRails :
    (∃ (s : State) (x : Fin 2), s.railState x = 1) ∧
    (∃ (s : State) (x : Fin 2), s.railState x = 2) ∧
    (∃ (s : State) (x : Fin 2) (_dv : Nat) (on : RailOnTime) (_jitter _again : Bool), s.railState x = 3 ∧ 0 < on.vpv) ∧
    (∃ (s : State) (x : Fin 2), s.on R.X_RAIL_OFFDLY x) ∧
    (∃ (s : State) (x : Fin 2), s.railState x = 5) ∧
    (∃ (s : State) (x : Fin 2), 2 ≤ s.railState x ∧ s.railState x ≤ 5) ∧
    (∃ (s : State) (x : Fin 2), s.railState x = 6) ∧
    (∃ (s : State) (x : Fin 2), s.railState x = 4) ∧
    (∃ (s : State) (x : Fin 2), 2 ≤ s.railState x ∧ s.railState x ≤ 5) ∧
    (∃ (s : State) (e : RailArrival), s.railState e.rail = 4 ∧ s.on R.RAIL_x_STAT_SETTLED e.rail = false) ∧
    (∃ (s : State) (x : Fin 2) (_v _a _vpv : Nat) (_cycles : RailCycles) (_de _burst : Bool) (_preV _preI _hold : Nat),
      s.railState x = 4) :=
  ⟨⟨put [(R.RAIL_x_STAT_STATE, 1, 1)], 1, by decide +kernel⟩,
    ⟨put [(R.RAIL_x_STAT_STATE, 2, 1)], 1, by decide +kernel⟩,
    ⟨put [(R.RAIL_x_STAT_STATE, 3, 1), (R.RAIL_x_TARGET, 60, 1), (R.X_RAIL_TUNED, 60, 1)], 1, 120, ⟨5000, 2⟩, true, false, by
      decide +kernel⟩,
    ⟨put [(R.X_RAIL_OFFDLY, 1, 1)], 1, by decide +kernel⟩,
    ⟨put [(R.RAIL_x_STAT_STATE, 5, 1)], 1, by decide +kernel⟩,
    ⟨put [(R.RAIL_x_STAT_STATE, 2, 1)], 1, by decide +kernel⟩,
    ⟨put [(R.RAIL_x_STAT_STATE, 6, 1), (R.MODE_STATUS_RAIL_DEMAND, 1, 0)], 1, by decide +kernel⟩,
    ⟨put [(R.RAIL_x_STAT_STATE, 4, 1), (R.RAIL_x_STAT_FAILS, 2, 1)], 1, by decide +kernel⟩,
    ⟨put [(R.RAIL_x_STAT_STATE, 4, 1)], 1, by decide +kernel⟩,
    ⟨put [(R.RAIL_x_STAT_STATE, 4, 1), (R.RAIL_x_STAT_SLEWING, 1, 1)], ⟨1, true⟩, by decide +kernel⟩,
    ⟨put [(R.RAIL_x_STAT_STATE, 4, 1)], 1, 900, 40, 5000, ⟨[(1000, 200, 1000)], [⟨400, [1], []⟩]⟩, true, false, 5000, 20, 3,
      by decide +kernel⟩⟩

theorem met_RailLink :
    (∃ (s : State) (rail : Fin 4) (data : Fin 256) (p : Bool), s.rclUp ∧ rclEven rail 1 data p ∧ rail.val < 2 ∧ data.val ≤
      s.get R.RAIL_x_VID_MAX rail ∧ s.railAnswer rail 1 data = 1) ∧
    (∃ (s : State) (rail : Fin 4) (data : Fin 256) (p : Bool), s.rclUp ∧ rclEven rail 2 data p ∧ rail.val < 2 ∧ s.railAnswer
      rail 2 data = 1) ∧
    (∃ (s : State) (rail : Fin 4) (data : Fin 256) (p : Bool), s.rclUp ∧ rclEven rail 3 data p ∧ rail.val < 2 ∧ s.railState
      rail = 4 ∧ data.val < 3 ∧ s.railAnswer rail 3 data = 1) ∧
    (∃ (s : State) (rail : Fin 4) (data : Fin 256) (p : Bool), s.rclUp ∧ rclEven rail 4 data p ∧ rail.val < 2 ∧ s.railAnswer
      rail 4 data = 1) ∧
    (∃ (s : State) (rail : Fin 4) (data : Fin 256) (p : Bool), s.rclUp ∧ rclEven rail 5 data p ∧ rail.val < 2 ∧ s.railState
      rail = 4 ∧ s.railAnswer rail 5 data = 1) ∧
    (∃ (s : State) (rail : Fin 4) (data : Fin 256) (p : Bool), s.rclUp ∧ rclEven rail 6 data p ∧ rail.val < 2 ∧ s.railAnswer
      rail 6 data = 1) ∧
    (∃ (s : State) (rail : Fin 4) (data : Fin 256) (p : Bool), s.rclUp ∧ rclEven rail 7 data p ∧ rail.val < 2 ∧ s.railAnswer
      rail 7 data = 1) ∧
    (∃ (s : State) (rail : Fin 4) (data : Fin 256) (p : Bool), s.rclUp ∧ rclEven rail 8 data p ∧ rail.val < 2 ∧ s.railAnswer
      rail 8 data = 1) ∧
    (∃ (s : State) (rail : Fin 4) (data : Fin 256) (p : Bool), s.rclUp ∧ rclEven rail 9 data p ∧ rail.val < 2 ∧ s.railState
      rail = 4 ∧ s.railAnswer rail 9 data = 1) ∧
    (∃ (s : State), s.asleepDeep = false) ∧
    (∃ (s : State) (rail : Fin 4) (cmd : Fin 16) (data : Fin 256) (p : Bool), s.rclUp ∧ rclEven rail cmd data p ∧ (rail.val =
      2 ∨ cmd.val = 0 ∨ 9 < cmd.val)) :=
  ⟨⟨put [(R.RCL_CTRL_EN, 1, 0), (R.MODE_STATUS_MODE, 4, 0), (R.RAIL_x_VID_MAX, 200, 1), (R.RAIL_x_STAT_STATE, 4, 1)], 1, 2,
      true, by decide +kernel⟩,
    ⟨put [(R.RCL_CTRL_EN, 1, 0), (R.MODE_STATUS_MODE, 4, 0), (R.RAIL_x_STAT_STATE, 4, 1)], 1, 2, true, by decide +kernel⟩,
    ⟨put [(R.RCL_CTRL_EN, 1, 0), (R.MODE_STATUS_MODE, 4, 0), (R.RAIL_x_STAT_STATE, 4, 1), (R.MODE_STATUS_RAIL_DEMAND, 1, 0)],
      1, 2, false, by decide +kernel⟩,
    ⟨put [(R.RCL_CTRL_EN, 1, 0), (R.MODE_STATUS_MODE, 4, 0)], 1, 2, true, by decide +kernel⟩,
    ⟨put [(R.RCL_CTRL_EN, 1, 0), (R.MODE_STATUS_MODE, 4, 0), (R.RAIL_x_STAT_STATE, 4, 1)], 1, 2, false, by decide +kernel⟩,
    ⟨put [(R.RCL_CTRL_EN, 1, 0), (R.MODE_STATUS_MODE, 4, 0)], 1, 2, false, by decide +kernel⟩,
    ⟨put [(R.RCL_CTRL_EN, 1, 0), (R.MODE_STATUS_MODE, 4, 0)], 1, 2, true, by decide +kernel⟩,
    ⟨put [(R.RCL_CTRL_EN, 1, 0), (R.MODE_STATUS_MODE, 4, 0), (R.X_RAIL_ALERTS, 2, 1)], 1, 2, true, by decide +kernel⟩,
    ⟨put [(R.RCL_CTRL_EN, 1, 0), (R.MODE_STATUS_MODE, 4, 0), (R.RAIL_x_VID_MAX, 200, 1), (R.RAIL_x_STAT_STATE, 4, 1)], 1, 2,
      false, by decide +kernel⟩,
    ⟨put [(R.MODE_STATUS_MODE, 4, 0)], by decide +kernel⟩,
    ⟨put [(R.RCL_CTRL_EN, 1, 0), (R.MODE_STATUS_MODE, 4, 0)], 1, 12, 3, true, by decide +kernel⟩⟩

theorem met_LinePorts :
    (∃ (s : State) (p : Fin 2), s.portState p = 2) ∧
    (∃ (s : State) (p : Fin 2), s.portState p = 2 ∧ s.on R.X_LINE_UP p ∧ s.on R.X_LINE_BOOT p) ∧
    (∃ (s : State) (p : Fin 2), s.portState p = 2 ∧ s.on R.X_LINE_UP p ∧ s.on R.X_LINE_BOOT p = false) ∧
    (∃ (s : State) (p : Fin 2) (power : Nat), s.portHigh p ∧ s.portIdle p ∧ s.portKa p ∧ s.portEn p ∧ s.hostOff p = false ∧
      nodeMode (s.get R.MODE_STATUS_MODE) = false ∧ s.on R.MODE_STATUS_RIDE_ACTIVE = false ∧ power < 65536) ∧
    (∃ (s : State) (p : Fin 2), s.portHigh p ∧ s.get R.X_SHORTS p < 3) ∧
    (∃ (s : State) (p : Fin 2), s.portState p = 5) ∧
    (∃ (s : State) (p : Fin 2), s.portState p = 1) :=
  ⟨⟨put [(R.LINE_STATUS_B_STATE, 2, 0)], 1, by decide +kernel⟩,
    ⟨put [(R.LINE_STATUS_B_STATE, 2, 0), (R.X_LINE_UP, 1, 1), (R.X_LINE_BOOT, 1, 1)], 1, by decide +kernel⟩,
    ⟨put [(R.LINE_STATUS_B_STATE, 2, 0), (R.X_LINE_UP, 1, 1)], 1, by decide +kernel⟩,
    ⟨put [(R.LINE_STATUS_B_STATE, 4, 0), (R.LINE_CTRL_B_EN, 1, 0), (R.LINE_CTRL_B_KA_EN, 1, 0)], 1, 7, by decide +kernel⟩,
    ⟨put [(R.LINE_STATUS_B_STATE, 4, 0)], 1, by decide +kernel⟩,
    ⟨put [(R.LINE_STATUS_B_STATE, 5, 0)], 1, by decide +kernel⟩,
    ⟨put [(R.LINE_STATUS_B_STATE, 1, 0)], 1, by decide +kernel⟩⟩

theorem met_LineFrames :
    (∃ (s : State) (p : Fin 2), s.portState p = 4 ∧ nodeMode (s.get R.MODE_STATUS_MODE)) ∧
    (∃ (s : State) (p : Fin 2) (_status : Fin 256) (_payload : List Byte) (_sync _amp : Nat), s.nextSlot p ≠ none ∧ s.get
      R.X_FRAME p = 1 ∧ s.get R.X_TRY p = 0) ∧
    (∃ (s : State) (p : Fin 2), s.get R.X_FRAME p ≠ 0 ∧ s.get R.X_TRY p = 0) ∧
    (∃ (s : State) (p : Fin 2), s.get R.X_FRAME p ≠ 0 ∧ s.get R.X_TRY p = 1) ∧
    (∃ (s : State) (p : Fin 2) (_status : Fin 256) (_amp : Nat), s.nextSlot p ≠ none ∧ s.get R.X_FRAME p = 2 ∧ s.get R.X_TRY p
      = 0) :=
  ⟨⟨put [(R.LINE_STATUS_B_STATE, 4, 0), (R.MODE_STATUS_MODE, 5, 0)], 1, by decide +kernel⟩,
    ⟨put [(R.X_LINE_LEFT, 8, 1), (R.X_FRAME, 1, 1), (R.LINE_SLOTs_STAT_STATE, 1, 3)], 1, 2, [1, 2, 3], 55, 60, by
      decide +kernel⟩,
    ⟨put [(R.X_FRAME, 1, 1)], 1, by decide +kernel⟩,
    ⟨put [(R.X_FRAME, 1, 1), (R.X_TRY, 1, 1)], 1, by decide +kernel⟩,
    ⟨put [(R.X_LINE_LEFT, 8, 1), (R.X_FRAME, 2, 1)], 1, 32, 60, by decide +kernel⟩⟩

theorem met_LineEnumeration :
    (∃ (s : State) (p : Fin 2), (s.portState p = 3 ∨ s.portState p = 4) ∧ s.lineQuiet p ∧ s.lineSliced = false ∧ s.get
      R.X_ENUM p ≠ 0) ∧
    (∃ (s : State) (p : Fin 2) (seen : Bool) (id : Nat), s.get R.X_RUN p ≠ 0 ∧ s.get R.X_FRAME p = 0 ∧ s.slotId 0 = id ∧ 0 <
      id ∧ id < 2 ^ 48 - 1 ∧ seen = true) ∧
    (∃ (s : State) (p : Fin 2) (_status _fmt _mask : Fin 256), s.get R.X_FRAME p = 3 ∧ s.get R.X_TRY p = 0 ∧ s.get
      R.X_WALK_HOW p = 3) ∧
    (∃ (s : State) (p : Fin 2), s.on R.LINE_CTRL_DISC_EN ∧ s.portState p = 4 ∧ nodeMode (s.get R.MODE_STATUS_MODE)) ∧
    (∃ (s : State) (n : Fin 64) (b : Bool), s.slotId n ≠ 0 ∧ s.on R.LINE_SLOTs_CFG_EN n = !b) :=
  ⟨⟨put [(R.LINE_STATUS_B_STATE, 4, 0), (R.X_ENUM, 2, 1)], 1, by decide +kernel⟩,
    ⟨put [(R.X_RUN, 2, 1), (R.X_SLOT_ID, 77, 0)], 1, true, 77, by decide +kernel⟩,
    ⟨put [(R.X_FRAME, 3, 1), (R.X_WALK_SLOT, 5, 1), (R.X_WALK_HOW, 3, 1), (R.X_WALK_ID, 99, 1), (R.LINE_SLOTs_CFG_EN, 1, 5)],
      1, 2, 1, 3, by decide +kernel⟩,
    ⟨put [(R.LINE_CTRL_DISC_EN, 1, 0), (R.LINE_STATUS_B_STATE, 4, 0), (R.MODE_STATUS_MODE, 5, 0)], 1, by decide +kernel⟩,
    ⟨put [(R.X_SLOT_ID, 7, 9), (R.LINE_SLOTs_CFG_EN, 0, 9)], 9, true, by decide +kernel⟩⟩

theorem met_Measurement :
    (∃ (s : State) (_bad : Bool), s.on R.X_TEMP_FORBID = false) ∧
    (∃ (s : State) (_raw : Int), s.on R.DEV_CLK_FAST_ON) ∧
    (∃ (s : State) (_bus : BusMeans) (_ibat : Int) (_vin _iin _lineV _lineI : Quad) (_auxV _auxI : Nat), s.on
      R.DEV_CLK_FAST_ON) ∧
    (∃ (s : State) (v : Nat), v ≤ s.get R.LDG_BAT_USABLE ∧ 0 < s.get R.LDG_BAT_USABLE) ∧
    (∃ (_s : State) (v : Nat), v < 2 ^ 64) :=
  ⟨⟨put [], true, by decide +kernel⟩,
    ⟨put [(R.DEV_CLK_FAST_ON, 1, 0)], (-140000), by decide +kernel⟩,
    ⟨put [(R.DEV_CLK_FAST_ON, 1, 0)], ⟨2600, 26000⟩, (-40), ⟨1, 2, 3, 4⟩, ⟨5, 6, 7, 8⟩, ⟨1, 2, 3, 4⟩, ⟨1, 2, 3, 4⟩, 1200, 5,
      by decide +kernel⟩,
    ⟨put [(R.LDG_BAT_USABLE, 500, 0)], 400, by decide +kernel⟩,
    ⟨put [], 12345678901, by decide +kernel⟩⟩

theorem met_QueueCommands :
    (∃ (s : State) (type source time : Nat) (unsynced derived : Bool) (payload : List Byte), reservedSource source = false ∧
      recordTypes.contains type ∧ s.on R.JNL_STATUS_SCAN_DONE ∧ s.on R.X_HELD = false ∧ s.slots = [] ∧ s.held = [] ∧ s.keeps
      (s.offered type source time unsynced derived payload) = false ∧ s.get R.X_RF_COUNT (s.route (s.offered type source time
      unsynced derived payload)) = 0 ∧ s.judge (s.route (s.offered type source time unsynced derived payload)) = none) ∧
    (∃ (s : State) (q : Fin 16), s.on R.JNL_STATUS_SCAN_DONE ∧ s.get R.X_RF_COUNT q ≠ 0 ∧ s.slots = [] ∧ s.latched = [] ∧
      s.judge q = none) ∧
    (∃ (s : State) (q : Fin 16), s.on R.X_CAP_WAIT q ∧ s.pendingOf q = 0) :=
  ⟨⟨put [(R.JNL_STATUS_SCAN_DONE, 1, 0), (R.X_SLOT_ID, 9, 3)], 1, 3, 77, false, false, [1, 2], by decide +kernel⟩,
    ⟨put [(R.JNL_STATUS_SCAN_DONE, 1, 0), (R.X_RF_COUNT, 2, 3)], 3, by decide +kernel⟩,
    ⟨put [(R.X_CAP_WAIT, 1, 3), (R.X_CAP_NEW, 40, 3)], 3, by decide +kernel⟩⟩

theorem met_JournalDie :
    (∃ (s : State), s.flushing ∧ s.dieFree ∧ s.uncommitted ≠ 0 ∧ s.on R.X_NEED_BLOCK = false) ∧
    (∃ (s : State), s.dieFree ∧ s.uncommitted ≠ 0 ∧ s.on R.X_NEED_BLOCK = false) ∧
    (∃ (s : State) (_fail : Bool), s.program.any (fun p => !p.store && decide (p.records ≤ s.uncommitted)) ∧ (∀ x ∈ s.slots,
      x.popped = false)) ∧
    (∃ (s : State), s.sliceOk ∧ s.erase = none ∧ s.storeOps = [] ∧ s.ahead = []) ∧
    (∃ (s : State), s.erase ≠ none) ∧
    (∃ (s : State) (_fail : Bool), s.erase.any (fun e => !e.store && !e.suspended) ∧ s.on R.X_NEED_BLOCK = false) :=
  ⟨⟨({ put [(R.X_FLUSH, 1, 0), (R.JNL_STATUS_DIE_ON, 1, 0)] with
      slots := [{ record := State.reset.mkRec 1 3 [], dclass := 0, at_ms := 0, goodTick := 0, waited := false, committed := false, popped := false }] }),
      by decide +kernel⟩,
    ⟨({ put [(R.JNL_STATUS_DIE_ON, 1, 0)] with
      slots := [{ record := State.reset.mkRec 1 3 [], dclass := 0, at_ms := 0, goodTick := 0, waited := false, committed := false, popped := false }] }),
      by decide +kernel⟩,
    ⟨({ put [(R.JNL_STATUS_DIE_ON, 1, 0)] with
      slots := [{ record := State.reset.mkRec 1 3 [], dclass := 0, at_ms := 0, goodTick := 0, waited := false, committed := false, popped := false }], program := some { records := 1, store := false, tick := 3, time := 4 } }),
      false, by decide +kernel⟩,
    ⟨put [(R.JNL_STATUS_DIE_ON, 1, 0)], by decide +kernel⟩,
    ⟨({ put [] with erase := some { block := 40, store := false, suspended := false } }), by decide +kernel⟩,
    ⟨({ put [(R.JNL_STATUS_ERASING, 1, 0)] with erase := some { block := 40, store := false, suspended := false } }), false,
      by decide +kernel⟩⟩

theorem met_ConfigStore :
    (∃ (s : State) (fail : Bool), (s.program.any (fun p => p.store) ∨ s.program = none ∧ s.storeFree) ∧ s.storeStep.any (fun p
      => !p.2.isErase) ∧ s.copies.length = 3 ∧ fail = false) ∧
    (∃ (s : State) (fail : Bool), (s.program.any (fun p => p.store) ∨ s.program = none ∧ s.storeFree) ∧ s.storeStep.any (fun p
      => !p.2.isErase) ∧ s.copies.length = 3 ∧ fail = true) ∧
    (∃ (s : State), s.onTrial ∧ s.markSteps StoreStep.confirm ≠ []) ∧
    (∃ (s : State), s.on R.X_SWITCH ∧ s.safePoint ∧ s.target ≠ none) :=
  ⟨⟨({ put [(R.JNL_STATUS_DIE_ON, 1, 0)] with
      storeOps := [{ kind := .commit, image := [], slotRec := SlotRec.none, steps := [.image 0 0, .slotRecord 0], written := 0 }] }),
      false, by decide +kernel⟩,
    ⟨({ put [(R.JNL_STATUS_DIE_ON, 1, 0)] with
      storeOps := [{ kind := .commit, image := [], slotRec := SlotRec.none, steps := [.image 0 0, .slotRecord 0], written := 0 }] }),
      true, by decide +kernel⟩,
    ⟨({ put [(R.CFG_STATUS_TRIAL, 1, 0)] with
      loaded := some ({ CfgSlot.fresh [] with slotRec := some SlotRec.none } : CfgSlot), copies := State.reset.copies.map (fun (c : CfgCopy) => { c with slots := [({ CfgSlot.fresh [] with slotRec := some SlotRec.none } : CfgSlot)] }) }),
      by decide +kernel⟩,
    ⟨({ put [(R.X_SWITCH, 1, 0)] with target := some (CfgSlot.fresh []) }), by decide +kernel⟩⟩

theorem met_TwoWirePort :
    (∃ (s : State) (bytes : List Byte), s.twLive ∧ s.requests = [] ∧ bytes = [0x32, 0x5A, 0x00, 0x00, 0x26]) ∧
    (∃ (s : State) (bytes : List Byte), s.twLive ∧ 1 ≤ bytes.length ∧ bytes.length < 4) ∧
    (∃ (s : State) (n : Nat) (_stop : Bool), s.twLive ∧ n ≠ 0) ∧
    (∃ (s : State), s.twLive) ∧
    (∃ (s : State), s.twLive = false ∧ s.busDead = false) ∧
    (∃ (s : State) (_inRequest : Bool) (_tag : Byte), s.busDead = false) ∧
    (∃ (s : State) (_freed : Bool), s.busDead = false) ∧
    (∃ (s : State) (freed : Bool), s.busDead = false ∧ s.stands R.HIF_FAULT_SDA_STUCK ∧ (freed ∨ s.on R.HIF_CTRL_BUS_CLEAR)) :=
  ⟨⟨put [(R.DEV_CLK_FAST_ON, 1, 0), (R.MODE_STATUS_MODE, 4, 0), (R.HIF_STATUS_VDDIO_OK, 1, 0)], [0x32, 0x5A, 0x00, 0x00,
      0x26], by decide +kernel⟩,
    ⟨put [(R.DEV_CLK_FAST_ON, 1, 0), (R.MODE_STATUS_MODE, 4, 0), (R.HIF_STATUS_VDDIO_OK, 1, 0)], [0x32, 0x5A, 0x00], by
      decide +kernel⟩,
    ⟨({ put [(R.DEV_CLK_FAST_ON, 1, 0), (R.MODE_STATUS_MODE, 4, 0), (R.HIF_STATUS_VDDIO_OK, 1, 0)] with
      tw := { reply := some { bytes := [1, 2, 3], popSeqs := [] }, ptr := 0 }, qb := { reply := some { bytes := [1, 2, 3], popSeqs := [] }, ptr := 1 } }),
      2, false, by decide +kernel⟩,
    ⟨({ put [(R.DEV_CLK_FAST_ON, 1, 0), (R.MODE_STATUS_MODE, 4, 0), (R.HIF_STATUS_VDDIO_OK, 1, 0)] with
      tw := { reply := some { bytes := [1, 2, 3], popSeqs := [] }, ptr := 0 }, qb := { reply := some { bytes := [1, 2, 3], popSeqs := [] }, ptr := 1 } }),
      by decide +kernel⟩,
    ⟨put [(R.MODE_STATUS_MODE, 4, 0)], by decide +kernel⟩,
    ⟨put [(R.DEV_CLK_FAST_ON, 1, 0), (R.MODE_STATUS_MODE, 4, 0), (R.HIF_STATUS_VDDIO_OK, 1, 0)], true, 0x5A, by
      decide +kernel⟩,
    ⟨put [(R.DEV_CLK_FAST_ON, 1, 0), (R.MODE_STATUS_MODE, 4, 0), (R.HIF_STATUS_VDDIO_OK, 1, 0)], false, by decide +kernel⟩,
    ⟨put [(R.DEV_CLK_FAST_ON, 1, 0), (R.MODE_STATUS_MODE, 4, 0), (R.HIF_STATUS_VDDIO_OK, 1, 0), (R.HIF_CTRL_BUS_CLEAR, 1, 0),
      (R.X_COND, 65535, faultIndex 0x0D00)], false, by decide +kernel⟩⟩

theorem met_BulkPort :
    (∃ (s : State) (bytes : List Byte) (odd vddio : Bool), s.qbLive ∧ s.get R.MODE_STATUS_MODE ≠ 1 ∧ vddio = true ∧ s.requests
      = [] ∧ odd = false ∧ bytes = [0x32, 0x5A, 0x00, 0x00, 0x26]) ∧
    (∃ (s : State) (_bytes : List Byte) (odd vddio : Bool), s.qbLive ∧ s.get R.MODE_STATUS_MODE ≠ 1 ∧ vddio = true ∧ odd =
      true) ∧
    (∃ (s : State) (_n : Nat) (vddio : Bool), s.qbLive ∧ s.get R.MODE_STATUS_MODE ≠ 1 ∧ vddio = true) ∧
    (∃ (s : State) (n : Nat) (_vddio : Bool), s.on R.DEV_CLK_FAST_ON = false ∧ n ≠ 0) ∧
    (∃ (s : State) (vddio : Bool), s.qbLive ∧ s.get R.MODE_STATUS_MODE ≠ 1 ∧ vddio = true ∧ s.requests = []) ∧
    (∃ (s : State) (vddio : Bool), s.qbLive ∧ s.get R.MODE_STATUS_MODE ≠ 1 ∧ vddio = true) ∧
    (∃ (s : State) (vddio : Bool), s.qbLive ∧ s.get R.MODE_STATUS_MODE ≠ 1 ∧ vddio = true) :=
  ⟨⟨put [(R.DEV_CLK_FAST_ON, 1, 0), (R.MODE_STATUS_MODE, 4, 0), (R.HIF_STATUS_VDDIO_OK, 1, 0)], [0x32, 0x5A, 0x00, 0x00,
      0x26], false, true, by decide +kernel⟩,
    ⟨put [(R.DEV_CLK_FAST_ON, 1, 0), (R.MODE_STATUS_MODE, 4, 0), (R.HIF_STATUS_VDDIO_OK, 1, 0)], [0x32, 0x5A, 0x00], true,
      true, by decide +kernel⟩,
    ⟨({ put [(R.DEV_CLK_FAST_ON, 1, 0), (R.MODE_STATUS_MODE, 4, 0), (R.HIF_STATUS_VDDIO_OK, 1, 0)] with
      tw := { reply := some { bytes := [1, 2, 3], popSeqs := [] }, ptr := 0 }, qb := { reply := some { bytes := [1, 2, 3], popSeqs := [] }, ptr := 1 } }),
      1, true, by decide +kernel⟩,
    ⟨put [], 1, true, by decide +kernel⟩,
    ⟨({ put [(R.DEV_CLK_FAST_ON, 1, 0), (R.MODE_STATUS_MODE, 4, 0), (R.HIF_STATUS_VDDIO_OK, 1, 0)] with
      tw := { reply := some { bytes := [1, 2, 3], popSeqs := [] }, ptr := 0 }, qb := { reply := some { bytes := [1, 2, 3], popSeqs := [] }, ptr := 1 } }),
      true, by decide +kernel⟩,
    ⟨({ put [(R.DEV_CLK_FAST_ON, 1, 0), (R.MODE_STATUS_MODE, 4, 0), (R.HIF_STATUS_VDDIO_OK, 1, 0)] with
      tw := { reply := some { bytes := [1, 2, 3], popSeqs := [] }, ptr := 0 }, qb := { reply := some { bytes := [1, 2, 3], popSeqs := [] }, ptr := 1 } }),
      true, by decide +kernel⟩,
    ⟨({ put [(R.DEV_CLK_FAST_ON, 1, 0), (R.MODE_STATUS_MODE, 4, 0), (R.HIF_STATUS_VDDIO_OK, 1, 0)] with
      tw := { reply := some { bytes := [1, 2, 3], popSeqs := [] }, ptr := 0 }, qb := { reply := some { bytes := [1, 2, 3], popSeqs := [] }, ptr := 1 } }),
      true, by decide +kernel⟩⟩

theorem met_NotifyAndReset :
    (∃ (s : State) (_ok : Bool), s.busDead = false ∧ s.on R.HIF_STATUS_NOTIFY_BUSY) ∧
    (∃ (s : State), s.asleepDeep = false ∧ s.on R.HIF_STATUS_HRSTN_DRIVEN = false) ∧
    (∃ (s : State), s.on R.MODE_STATUS_RAIL_DEMAND ∧ s.railState 0 = 4 ∧ s.railState 1 = 4 ∧ s.on R.X_HRST_UP = false ∧ s.on
      R.X_HELD = false) :=
  ⟨⟨put [(R.DEV_CLK_FAST_ON, 1, 0), (R.MODE_STATUS_MODE, 4, 0), (R.HIF_STATUS_VDDIO_OK, 1, 0), (R.HIF_STATUS_NOTIFY_BUSY, 1,
      0), (R.X_NOTIFY_TRIES, 3, 0)], false, by decide +kernel⟩,
    ⟨put [(R.MODE_STATUS_MODE, 4, 0), (R.HIF_STATUS_HRSTN_DRIVEN, 0, 0)], by decide +kernel⟩,
    ⟨put [(R.MODE_STATUS_RAIL_DEMAND, 1, 0), (R.RAIL_x_STAT_STATE, 4, 0), (R.RAIL_x_STAT_STATE, 4, 1)], by decide +kernel⟩⟩

theorem met_HostCharge :
    (∃ (s : State) (port : PortId) (_tag : Byte) (_arg : Fin 65536), s.free port) ∧
    (∃ (s : State) (port : PortId) (_tag : Byte) (_arg : Fin 65536), s.free port) ∧
    (∃ (s : State) (port : PortId) (_tag : Byte) (_arg : Fin 65536), s.free port ∧ s.chg = 0xA) ∧
    (∃ (s : State) (port : PortId) (_tag : Byte) (key : Fin 65536), s.free port ∧ key = 0x5EA1 ∧ s.chem = 3 ∧ s.get
      R.MODE_STATUS_MODE = 6 ∧ (s.chg = 0xB ∨ s.chg = 0xC)) ∧
    (∃ (s : State) (port : PortId) (_tag : Byte) (_arg : Fin 65536), s.free port ∧ s.chg = 0xD) ∧
    (∃ (s : State) (port : PortId) (_tag : Byte) (_arg : Fin 65536), s.free port ∧ s.get R.MODE_STATUS_MODE = 0xA) :=
  ⟨⟨put [(R.DEV_CLK_FAST_ON, 1, 0), (R.MODE_STATUS_MODE, 4, 0), (R.HIF_STATUS_VDDIO_OK, 1, 0)], .tw, 0x5A, 7, by
      decide +kernel⟩,
    ⟨put [(R.DEV_CLK_FAST_ON, 1, 0), (R.MODE_STATUS_MODE, 4, 0), (R.HIF_STATUS_VDDIO_OK, 1, 0)], .tw, 0x5A, 7, by
      decide +kernel⟩,
    ⟨put [(R.DEV_CLK_FAST_ON, 1, 0), (R.MODE_STATUS_MODE, 4, 0), (R.HIF_STATUS_VDDIO_OK, 1, 0), (R.CHG_STATUS_STATE, 10, 0)],
      .tw, 0x5A, 0, by decide +kernel⟩,
    ⟨put [(R.DEV_CLK_FAST_ON, 1, 0), (R.MODE_STATUS_MODE, 6, 0), (R.HIF_STATUS_VDDIO_OK, 1, 0), (R.CHG_PROFILE_CHEM, 3, 0),
      (R.CHG_STATUS_STATE, 12, 0)], .tw, 0x5A, 0x5EA1, by decide +kernel⟩,
    ⟨put [(R.DEV_CLK_FAST_ON, 1, 0), (R.MODE_STATUS_MODE, 4, 0), (R.HIF_STATUS_VDDIO_OK, 1, 0), (R.CHG_STATUS_STATE, 13, 0)],
      .tw, 0x5A, 0, by decide +kernel⟩,
    ⟨put [(R.DEV_CLK_FAST_ON, 1, 0), (R.MODE_STATUS_MODE, 10, 0), (R.HIF_STATUS_VDDIO_OK, 1, 0)], .tw, 0x5A, 0x35, by
      decide +kernel⟩⟩

theorem met_HostRailControl :
    (∃ (s : State) (port : PortId) (_tag : Byte) (rail : Fin 256) (arg : Fin 65536), s.free port ∧ rail.val < 2 ∧ s.railAnswer
      rail 1 (arg.val % 256) = 1) ∧
    (∃ (s : State) (port : PortId) (_tag : Byte) (rail : Fin 256) (arg : Fin 65536), s.free port ∧ rail.val < 2 ∧ s.railAnswer
      rail 2 (arg.val % 256) = 1) ∧
    (∃ (s : State) (port : PortId) (_tag : Byte) (rail : Fin 256) (arg : Fin 65536), s.free port ∧ rail.val < 2 ∧ s.railAnswer
      rail 3 (arg.val % 256) = 1) ∧
    (∃ (s : State) (port : PortId) (_tag : Byte) (rail : Fin 256) (arg : Fin 65536), s.free port ∧ rail.val < 2 ∧ s.railAnswer
      rail 8 (arg.val % 256) = 1) ∧
    (∃ (s : State) (port : PortId) (_tag : Byte) (rail : Fin 256) (arg : Fin 65536), s.free port ∧ rail.val < 2 ∧ s.railAnswer
      rail 9 (arg.val % 256) = 1) :=
  ⟨⟨put [(R.DEV_CLK_FAST_ON, 1, 0), (R.MODE_STATUS_MODE, 4, 0), (R.HIF_STATUS_VDDIO_OK, 1, 0), (R.MODE_STATUS_RAIL_DEMAND, 1,
      0), (R.RAIL_x_STAT_STATE, 4, 1), (R.RAIL_x_VID_MAX, 200, 1)], .tw, 0x5A, 1, 0x102, by decide +kernel⟩,
    ⟨put [(R.DEV_CLK_FAST_ON, 1, 0), (R.MODE_STATUS_MODE, 4, 0), (R.HIF_STATUS_VDDIO_OK, 1, 0), (R.MODE_STATUS_RAIL_DEMAND, 1,
      0), (R.RAIL_x_STAT_STATE, 4, 1)], .tw, 0x5A, 1, 0x102, by decide +kernel⟩,
    ⟨put [(R.DEV_CLK_FAST_ON, 1, 0), (R.MODE_STATUS_MODE, 4, 0), (R.HIF_STATUS_VDDIO_OK, 1, 0), (R.MODE_STATUS_RAIL_DEMAND, 1,
      0), (R.RAIL_x_STAT_STATE, 4, 1)], .tw, 0x5A, 1, 0x102, by decide +kernel⟩,
    ⟨put [(R.DEV_CLK_FAST_ON, 1, 0), (R.MODE_STATUS_MODE, 4, 0), (R.HIF_STATUS_VDDIO_OK, 1, 0), (R.MODE_STATUS_RAIL_DEMAND, 1,
      0), (R.RAIL_x_STAT_STATE, 4, 1)], .tw, 0x5A, 1, 0x102, by decide +kernel⟩,
    ⟨put [(R.DEV_CLK_FAST_ON, 1, 0), (R.MODE_STATUS_MODE, 4, 0), (R.HIF_STATUS_VDDIO_OK, 1, 0), (R.MODE_STATUS_RAIL_DEMAND, 1,
      0), (R.RAIL_x_STAT_STATE, 4, 1), (R.RAIL_x_VID_MAX, 200, 1)], .tw, 0x5A, 1, 0x102, by decide +kernel⟩⟩

theorem met_HostLine :
    (∃ (s : State) (port : PortId) (_tag : Byte) (_mask : Fin 256) (_others : Fin 16777216), s.free port) ∧
    (∃ (s : State) (port : PortId) (_tag : Byte) (_mask : Fin 256) (_others : Fin 16777216), s.free port) ∧
    (∃ (s : State) (port : PortId) (_tag : Byte) (_mask : Fin 256) (_others : Fin 16777216), s.free port) ∧
    (∃ (s : State) (port : PortId) (_tag : Byte) (slot : Fin 256) (_others : Fin 16777216), s.free port ∧ slot = 9 ∧ s.slotId
      9 ≠ 0 ∧ s.get R.X_FRAME 0 = 0 ∧ s.get R.X_FRAME 1 = 0) ∧
    (∃ (s : State) (port : PortId) (_tag : Byte) (slot _id : Fin 256) (_value : Fin 65536), s.free port ∧ slot.val < 64 ∧
      s.slotId slot ≠ 0 ∧ (s.get R.X_SLOT_CFG slot).testBit 24 = false) ∧
    (∃ (s : State) (port : PortId) (_tag : Byte) (slot : Fin 256), s.free port ∧ slot.val < 64) :=
  ⟨⟨put [(R.DEV_CLK_FAST_ON, 1, 0), (R.MODE_STATUS_MODE, 4, 0), (R.HIF_STATUS_VDDIO_OK, 1, 0), (R.LINE_STATUS_B_HOST_OFF, 1,
      0)], .tw, 0x5A, 2, 5, by decide +kernel⟩,
    ⟨put [(R.DEV_CLK_FAST_ON, 1, 0), (R.MODE_STATUS_MODE, 4, 0), (R.HIF_STATUS_VDDIO_OK, 1, 0), (R.LINE_STATUS_B_STATE, 4,
      0)], .tw, 0x5A, 2, 5, by decide +kernel⟩,
    ⟨put [(R.DEV_CLK_FAST_ON, 1, 0), (R.MODE_STATUS_MODE, 4, 0), (R.HIF_STATUS_VDDIO_OK, 1, 0)], .tw, 0x5A, 2, 5, by
      decide +kernel⟩,
    ⟨put [(R.DEV_CLK_FAST_ON, 1, 0), (R.MODE_STATUS_MODE, 4, 0), (R.HIF_STATUS_VDDIO_OK, 1, 0), (R.X_SLOT_ID, 77, 9),
      (R.LINE_SLOTs_STAT_STATE, 1, 9)], .tw, 0x5A, 9, 5, by decide +kernel⟩,
    ⟨put [(R.DEV_CLK_FAST_ON, 1, 0), (R.MODE_STATUS_MODE, 4, 0), (R.HIF_STATUS_VDDIO_OK, 1, 0), (R.X_SLOT_ID, 77, 9)], .tw,
      0x5A, 9, 3, 500, by decide +kernel⟩,
    ⟨put [(R.DEV_CLK_FAST_ON, 1, 0), (R.MODE_STATUS_MODE, 4, 0), (R.HIF_STATUS_VDDIO_OK, 1, 0), (R.X_SLOT_ID, 77, 9)], .tw,
      0x5A, 9, by decide +kernel⟩⟩

theorem met_HostParameters :
    (∃ (s : State) (port : PortId) (_tag : Byte) (bytes : List Byte), s.free port ∧ bytes.length ≤ 16) ∧
    (∃ (s : State) (port : PortId) (_tag : Byte) (addr : Fin 65536) (count : Fin 256), s.free port ∧ 1 ≤ count.val ∧ count.val
      ≤ 64 ∧ (List.range count.val).all (fun k => defined (addr.val + k) && accessOf (addr.val + k) != .rc)) ∧
    (∃ (s : State) (port : PortId) (_tag : Byte) (addr : Fin 65536) (count : Fin 256), s.free port ∧ count = 1 ∧ addr.val ∈
      [0x0200, 0x0300, 0x0400, 0x0401, 0x0700, 0x0800, 0x0900, 0x0A00, 0x0C00, 0x0C40, 0x0F00]) ∧
    (∃ (s : State) (port : PortId) (_tag : Byte) (addr : Fin 65536) (words : List (Fin 65536)), s.free port ∧ addr.val ∈
      [0x0108, 0x0109, 0x010B, 0x0204, 0x0304, 0x0406, 0x0407] ∧ words.length = 1 ∧ (s.heard port).wordStatus addr
      (words.headD 0).val = 0) ∧
    (∃ (s : State) (port : PortId) (_tag : Byte) (addr : Fin 65536) (words : List (Fin 65536)), s.free port ∧ 1 ≤ words.length
      ∧ words.length ≤ 64 ∧ (s.heard port).judgeWrite ((List.range words.length).zip words |>.map (fun p => (addr.val + p.1,
      p.2.val))) = some (0x15, addr.val)) ∧
    (∃ (s : State) (port : PortId) (_tag : Byte) (addr mask value : Fin 65536), s.free port ∧ addr.val ∈ [0x0108, 0x0109,
      0x010B, 0x0204, 0x0304, 0x0406, 0x0407] ∧ (s.heard port).wordStatus addr (((s.heard port).rawWord addr &&& (65535 -
      mask.val)) ||| (value.val &&& mask.val)) = 0) ∧
    (∃ (s : State) (port : PortId) (_tag : Byte), s.free port) :=
  ⟨⟨put [(R.DEV_CLK_FAST_ON, 1, 0), (R.MODE_STATUS_MODE, 4, 0), (R.HIF_STATUS_VDDIO_OK, 1, 0)], .tw, 0x5A, [1, 2], by
      decide +kernel⟩,
    ⟨put [(R.DEV_CLK_FAST_ON, 1, 0), (R.MODE_STATUS_MODE, 4, 0), (R.HIF_STATUS_VDDIO_OK, 1, 0)], .tw, 0x5A, 0x0505, 3, by
      decide +kernel⟩,
    ⟨put [(R.DEV_CLK_FAST_ON, 1, 0), (R.MODE_STATUS_MODE, 4, 0), (R.HIF_STATUS_VDDIO_OK, 1, 0), (R.LINE_FAULT_OVERFLOW, 1,
      0)], .tw, 0x5A, 0x0900, 1, by decide +kernel⟩,
    ⟨put [(R.DEV_CLK_FAST_ON, 1, 0), (R.MODE_STATUS_MODE, 4, 0), (R.HIF_STATUS_VDDIO_OK, 1, 0)], .tw, 0x5A, 0x0109, [500], by
      decide +kernel⟩,
    ⟨put [(R.DEV_CLK_FAST_ON, 1, 0), (R.MODE_STATUS_MODE, 4, 0), (R.HIF_STATUS_VDDIO_OK, 1, 0)], .tw, 0x5A, 0x0109, [5000], by
      decide +kernel⟩,
    ⟨put [(R.DEV_CLK_FAST_ON, 1, 0), (R.MODE_STATUS_MODE, 4, 0), (R.HIF_STATUS_VDDIO_OK, 1, 0)], .tw, 0x5A, 0x0109, 0xF, 3, by
      decide +kernel⟩,
    ⟨put [(R.DEV_CLK_FAST_ON, 1, 0), (R.MODE_STATUS_MODE, 4, 0), (R.HIF_STATUS_VDDIO_OK, 1, 0)], .tw, 0x5A, by decide +kernel⟩⟩

theorem met_HostModes :
    (∃ (s : State) (port : PortId) (_tag : Byte) (key : Fin 65536) (waken : Bool), s.free port ∧ key = 0x69D2 ∧ s.anyPresent =
      false ∧ waken = true ∧ s.get R.PP_STATUS_BAT = 1 ∧ 1 ≤ s.get R.MODE_STATUS_MODE ∧ s.get R.MODE_STATUS_MODE ≤ 5) ∧
    (∃ (s : State) (port : PortId) (_tag : Byte) (key : Fin 65536) (waken : Bool), s.free port ∧ key = 0x69D2 ∧ waken = false) ∧
    (∃ (s : State) (port : PortId) (_tag : Byte) (key : Fin 65536), s.free port ∧ key = 0x3C96 ∧ s.on
      R.MODE_STATUS_RAIL_DEMAND ∧ s.on R.MODE_STATUS_RIDE_ACTIVE = false ∧ s.deadBattery = false ∧ s.on R.X_SERVICE = false) ∧
    (∃ (s : State) (port : PortId) (_tag : Byte) (_key : Fin 65536), s.free port ∧ s.on R.X_SERVICE) ∧
    (∃ (s : State) (port : PortId) (_tag : Byte) (_key : Fin 65536), s.free port) :=
  ⟨⟨put [(R.DEV_CLK_FAST_ON, 1, 0), (R.MODE_STATUS_MODE, 4, 0), (R.HIF_STATUS_VDDIO_OK, 1, 0), (R.PP_STATUS_BAT, 1, 0)], .tw,
      0x5A, 0x69D2, true, by decide +kernel⟩,
    ⟨put [(R.DEV_CLK_FAST_ON, 1, 0), (R.MODE_STATUS_MODE, 4, 0), (R.HIF_STATUS_VDDIO_OK, 1, 0)], .tw, 0x5A, 0x69D2, false, by
      decide +kernel⟩,
    ⟨put [(R.DEV_CLK_FAST_ON, 1, 0), (R.MODE_STATUS_MODE, 4, 0), (R.HIF_STATUS_VDDIO_OK, 1, 0), (R.MODE_STATUS_RAIL_DEMAND, 1,
      0)], .tw, 0x5A, 0x3C96, by decide +kernel⟩,
    ⟨put [(R.DEV_CLK_FAST_ON, 1, 0), (R.MODE_STATUS_MODE, 4, 0), (R.HIF_STATUS_VDDIO_OK, 1, 0), (R.X_SERVICE, 1, 0)], .tw,
      0x5A, 0x1234, by decide +kernel⟩,
    ⟨put [(R.DEV_CLK_FAST_ON, 1, 0), (R.MODE_STATUS_MODE, 4, 0), (R.HIF_STATUS_VDDIO_OK, 1, 0), (R.MODE_STATUS_GRACE, 1, 0)],
      .tw, 0x5A, 0x1234, by decide +kernel⟩⟩

theorem met_HostQueues :
    (∃ (s : State) (port : PortId) (_tag : Byte) (q most : Fin 256), s.free port ∧ q.val < 16 ∧ 0 < most.val ∧ s.unpopped q ≠
      []) ∧
    (∃ (s : State) (port : PortId) (_tag : Byte) (q most : Fin 256), s.free port ∧ q.val < 16 ∧ 0 < most.val ∧ s.unpopped q =
      []) ∧
    (∃ (s : State) (port : PortId) (_tag : Byte) (q most : Fin 256), s.free port ∧ q.val < 16 ∧ 0 < most.val ∧ s.unpopped q ≠
      []) ∧
    (∃ (s : State) (port : PortId) (_tag : Byte), s.free port) ∧
    (∃ (s : State) (port : PortId) (_tag : Byte) (_first : Fin 4294967296) (max_ : Fin 65536) (_corr _most : Nat) (_lost :
      List Nat) (_uncorr : Nat), s.free port ∧ 0 < max_.val ∧ max_.val ≤ 511 ∧ s.ring = []) ∧
    (∃ (s : State) (port : PortId) (_tag : Byte) (bytes : List Byte), s.free port ∧ bytes.length = 16 ∧ s.on
      R.JNL_STATUS_SCAN_DONE ∧ s.on R.X_HELD = false ∧ s.slots = [] ∧ s.get R.X_RF_COUNT (s.route (s.mkRec 0x30 0x90 bytes)) =
      0 ∧ s.judge (s.route (s.mkRec 0x30 0x90 bytes)) = none) :=
  ⟨⟨({ put [(R.DEV_CLK_FAST_ON, 1, 0), (R.MODE_STATUS_MODE, 4, 0), (R.HIF_STATUS_VDDIO_OK, 1, 0)] with
      slots := [{ record := State.reset.mkRec 1 3 [], dclass := 0, at_ms := 0, goodTick := 0, waited := false, committed := false, popped := false }] }),
      .tw, 0x5A, 0, 4, by decide +kernel⟩,
    ⟨put [(R.DEV_CLK_FAST_ON, 1, 0), (R.MODE_STATUS_MODE, 4, 0), (R.HIF_STATUS_VDDIO_OK, 1, 0)], .tw, 0x5A, 3, 4, by
      decide +kernel⟩,
    ⟨({ put [(R.DEV_CLK_FAST_ON, 1, 0), (R.MODE_STATUS_MODE, 4, 0), (R.HIF_STATUS_VDDIO_OK, 1, 0)] with
      slots := [{ record := State.reset.mkRec 1 3 [], dclass := 0, at_ms := 0, goodTick := 0, waited := false, committed := false, popped := false }] }),
      .tw, 0x5A, 0, 4, by decide +kernel⟩,
    ⟨put [(R.DEV_CLK_FAST_ON, 1, 0), (R.MODE_STATUS_MODE, 4, 0), (R.HIF_STATUS_VDDIO_OK, 1, 0)], .tw, 0x5A, by decide +kernel⟩,
    ⟨put [(R.DEV_CLK_FAST_ON, 1, 0), (R.MODE_STATUS_MODE, 4, 0), (R.HIF_STATUS_VDDIO_OK, 1, 0)], .tw, 0x5A, 5, 3, 1, 1, [], 0,
      by decide +kernel⟩,
    ⟨put [(R.DEV_CLK_FAST_ON, 1, 0), (R.MODE_STATUS_MODE, 4, 0), (R.HIF_STATUS_VDDIO_OK, 1, 0), (R.JNL_STATUS_SCAN_DONE, 1,
      0)], .tw, 0x5A, (List.replicate 16 7), by decide +kernel⟩⟩

theorem met_HostConfig :
    (∃ (s : State) (port : PortId) (_tag : Byte) (flags : Fin 256) (off : Fin 65536) (data : List Byte), s.free port ∧
      flags.val ≤ 1 ∧ off.val + data.length ≤ Config.stagingSize ∧ data.length ≤ 4088 ∧ 1 ≤ data.length ∧ s.get R.X_STAGE ≠ 3) ∧
    (∃ (s : State) (port : PortId) (_tag : Byte), s.free port ∧ (s.get R.X_STAGE = 1 ∨ s.get R.X_STAGE = 2) ∧ (s.heard
      port).imageError = none) ∧
    (∃ (s : State) (port : PortId) (_tag : Byte) (flags period : Fin 256) (_key : Fin 65536) (_version : Fin 4294967296),
      s.free port ∧ flags = 0 ∧ period = 0 ∧ s.on R.OTP_LOCK = false ∧ s.storeOps = [] ∧ s.on R.X_SWITCH = false ∧ s.get
      R.X_STAGE = 2) ∧
    (∃ (s : State) (port : PortId) (_tag : Byte) (flags period : Fin 256) (_key : Fin 65536) (_version : Fin 4294967296),
      s.free port ∧ flags = 0 ∧ period = 0 ∧ s.on R.OTP_LOCK = false ∧ s.cfgBusy) ∧
    (∃ (s : State) (port : PortId) (_tag : Byte), s.free port ∧ s.onTrial ∧ s.storeOps = [] ∧ s.markSteps StoreStep.confirm ≠
      []) ∧
    (∃ (s : State) (port : PortId) (_tag : Byte) (_key : Fin 65536), s.free port ∧ s.on R.OTP_LOCK = false ∧ s.on
      R.CFG_STATUS_NO_PREVIOUS = false ∧ s.storeOps = [] ∧ s.on R.X_SWITCH = false ∧ s.markSteps StoreStep.revoke ≠ []) ∧
    (∃ (s : State) (port : PortId) (_tag : Byte), s.free port) :=
  ⟨⟨put [(R.DEV_CLK_FAST_ON, 1, 0), (R.MODE_STATUS_MODE, 4, 0), (R.HIF_STATUS_VDDIO_OK, 1, 0)], .tw, 0x5A, 1, 16, [1, 2], by
      decide +kernel⟩,
    ⟨({ put [(R.DEV_CLK_FAST_ON, 1, 0), (R.MODE_STATUS_MODE, 4, 0), (R.HIF_STATUS_VDDIO_OK, 1, 0), (R.X_STAGE, 1, 0), (R.X_STAGE_TOP, 32, 0)] with
      staging := compress 0 (buildImage 7 []) }), .tw, 0x5A, by decide +kernel⟩,
    ⟨({ put [(R.DEV_CLK_FAST_ON, 1, 0), (R.MODE_STATUS_MODE, 4, 0), (R.HIF_STATUS_VDDIO_OK, 1, 0), (R.X_STAGE, 2, 0), (R.X_STAGE_TOP, 32, 0)] with
      staging := compress 0 (buildImage 7 []) }), .tw, 0x5A, 0, 0, 0, 9, by decide +kernel⟩,
    ⟨put [(R.DEV_CLK_FAST_ON, 1, 0), (R.MODE_STATUS_MODE, 4, 0), (R.HIF_STATUS_VDDIO_OK, 1, 0), (R.X_SWITCH, 1, 0)], .tw,
      0x5A, 0, 0, 0, 9, by decide +kernel⟩,
    ⟨({ put [(R.DEV_CLK_FAST_ON, 1, 0), (R.MODE_STATUS_MODE, 4, 0), (R.HIF_STATUS_VDDIO_OK, 1, 0), (R.CFG_STATUS_TRIAL, 1, 0)] with
      loaded := some ({ CfgSlot.fresh [] with slotRec := some SlotRec.none } : CfgSlot), copies := State.reset.copies.map (fun (c : CfgCopy) => { c with slots := [({ CfgSlot.fresh [] with slotRec := some SlotRec.none } : CfgSlot)] }) }),
      .tw, 0x5A, by decide +kernel⟩,
    ⟨({ put [(R.DEV_CLK_FAST_ON, 1, 0), (R.MODE_STATUS_MODE, 4, 0), (R.HIF_STATUS_VDDIO_OK, 1, 0), (R.CFG_STATUS_NO_PREVIOUS, 0, 0)] with
      loaded := some ({ CfgSlot.fresh [] with slotRec := some SlotRec.none } : CfgSlot), copies := State.reset.copies.map (fun (c : CfgCopy) => { c with slots := [({ CfgSlot.fresh [] with slotRec := some SlotRec.none } : CfgSlot)] }) }),
      .tw, 0x5A, 0, by decide +kernel⟩,
    ⟨put [(R.DEV_CLK_FAST_ON, 1, 0), (R.MODE_STATUS_MODE, 4, 0), (R.HIF_STATUS_VDDIO_OK, 1, 0)], .tw, 0x5A, by decide +kernel⟩⟩

theorem met_HostSystem :
    (∃ (s : State) (port : PortId) (_tag : Byte) (task : Fin 256), s.free port ∧ task.val < 8 ∧ s.on R.WDT_STATUS_ENABLED ∧
      s.on R.WDT_STATUS_INTERNAL = false ∧ s.bit R.WDT_TASK_EN task) ∧
    (∃ (s : State) (port : PortId) (_tag : Byte) (_mask : Fin 256), s.free port) ∧
    (∃ (s : State) (port : PortId) (_tag : Byte) (_mask : Fin 256), s.free port) ∧
    (∃ (s : State) (port : PortId) (_tag : Byte) (key : Fin 65536) (index : Fin 256) (_value : Fin 65536), s.free port ∧ key =
      0x7C3E ∧ index.val ≤ 127 ∧ s.get R.MODE_STATUS_MODE = 0xA ∧ s.on R.OTP_LOCK = false ∧ s.on R.X_OTP_BUSY = false) ∧
    (∃ (s : State) (failed : Fin 65536), s.on R.X_OTP_BUSY ∧ s.get R.X_OTP_WORD = 0 ∧ failed = 0) ∧
    (∃ (s : State) (port : PortId) (_tag : Byte), s.free port) ∧
    (∃ (s : State) (port : PortId) (_tag : Byte) (key : Fin 65536), s.answering port ∧ s.requests = [] ∧ s.safeState ∧ s.on
      R.X_P0_ONLY = false ∧ s.on R.MODE_STATUS_THERM_ACTIVE = false ∧ key = 0x52EC ∧ s.get R.X_RESTART = 0) ∧
    (∃ (s : State) (port : PortId) (_tag : Byte) (key : Fin 65536), s.free port ∧ key = 0xD1E5 ∧ s.get R.X_RESTART = 0) :=
  ⟨⟨put [(R.DEV_CLK_FAST_ON, 1, 0), (R.MODE_STATUS_MODE, 4, 0), (R.HIF_STATUS_VDDIO_OK, 1, 0), (R.WDT_STATUS_ENABLED, 1, 0),
      (R.WDT_STATUS_INTERNAL, 0, 0), (R.WDT_TASK_EN, 8, 0)], .tw, 0x5A, 3, by decide +kernel⟩,
    ⟨put [(R.DEV_CLK_FAST_ON, 1, 0), (R.MODE_STATUS_MODE, 4, 0), (R.HIF_STATUS_VDDIO_OK, 1, 0)], .tw, 0x5A, 6, by
      decide +kernel⟩,
    ⟨put [(R.DEV_CLK_FAST_ON, 1, 0), (R.MODE_STATUS_MODE, 4, 0), (R.HIF_STATUS_VDDIO_OK, 1, 0)], .tw, 0x5A, 6, by
      decide +kernel⟩,
    ⟨put [(R.DEV_CLK_FAST_ON, 1, 0), (R.MODE_STATUS_MODE, 10, 0), (R.HIF_STATUS_VDDIO_OK, 1, 0)], .tw, 0x5A, 0x7C3E, 5, 6, by
      decide +kernel⟩,
    ⟨put [(R.X_OTP_BUSY, 1, 0), (R.X_OTP_BITS, 3, 0)], 0, by decide +kernel⟩,
    ⟨put [(R.DEV_CLK_FAST_ON, 1, 0), (R.MODE_STATUS_MODE, 4, 0), (R.HIF_STATUS_VDDIO_OK, 1, 0)], .tw, 0x5A, by decide +kernel⟩,
    ⟨put [(R.DEV_CLK_FAST_ON, 1, 0), (R.MODE_STATUS_MODE, 11, 0), (R.HIF_STATUS_VDDIO_OK, 1, 0)], .tw, 0x5A, 0x52EC, by
      decide +kernel⟩,
    ⟨put [(R.DEV_CLK_FAST_ON, 1, 0), (R.MODE_STATUS_MODE, 4, 0), (R.HIF_STATUS_VDDIO_OK, 1, 0)], .tw, 0x5A, 0xD1E5, by
      decide +kernel⟩⟩

theorem met_ModeController :
    (∃ (s : State) (sys bats : Nat), s.asleepDeep = false ∧ s.on R.X_HELD = false ∧ s.on R.X_RESTARTING = false ∧ sys < 65536
      ∧ bats < 65536) ∧
    (∃ (s : State), s.hasClass 1 = false) ∧
    (∃ (s : State), s.on R.MODE_STATUS_GRACE) ∧
    (∃ (s : State) (i : Fin 4), s.delivering i) ∧
    (∃ (s : State) (i : Fin 4) (_reached : Bool), s.bit R.X_RETRY i) ∧
    (∃ (s : State), s.on R.X_SERVICE) ∧
    (∃ (s : State), s.asleepDeep = false ∧ s.get R.MODE_STATUS_MODE = 1 ∧ s.get R.X_WAKE_AT + s.get R.X_WAKE_LEN ≤ s.get
      R.X_SLOW) ∧
    (∃ (s : State), s.get R.MODE_STATUS_MODE = 1 ∧ s.asleepDeep = false ∧ s.on R.MODE_WAKE_EN_WAKEN) ∧
    (∃ (s : State), s.asleepDeep = false ∧ s.on R.DEV_CLK_FAST_ON = false) ∧
    (∃ (s : State), s.asleepDeep = false ∧ s.on R.DEV_CLK_FAST_ON) :=
  ⟨⟨put [(R.MODE_STATUS_MODE, 4, 0)], 2000, 2400, by decide +kernel⟩,
    ⟨put [(R.MODE_STATUS_COUPLED, 1, 0)], by decide +kernel⟩,
    ⟨put [(R.MODE_STATUS_GRACE, 1, 0)], by decide +kernel⟩,
    ⟨put [(R.INn_STAT_CLASS, 3, 2)], 2, by decide +kernel⟩,
    ⟨put [(R.X_RETRY, 4, 0)], 2, true, by decide +kernel⟩,
    ⟨put [(R.X_SERVICE, 1, 0)], by decide +kernel⟩,
    ⟨put [], by decide +kernel⟩,
    ⟨put [], by decide +kernel⟩,
    ⟨put [], by decide +kernel⟩,
    ⟨put [(R.DEV_CLK_FAST_ON, 1, 0), (R.LDG_POLL_INTERVAL, 6, 0)], by decide +kernel⟩⟩

theorem met_Clocks :
    (∃ (s : State), s.on R.X_FAST_REQ ∧ s.on R.DEV_CLK_FAST_ON = false ∧ s.asleepDeep = false) ∧
    (∃ (s : State), s.on R.DEV_CLK_FAST_ON ∧ s.fastHeld = false) ∧
    (∃ (s : State) (cycles : Nat), s.on R.DEV_CLK_FAST_ON ∧ cycles < 2 ^ 24) :=
  ⟨⟨put [(R.X_FAST_REQ, 1, 0)], by decide +kernel⟩,
    ⟨put [(R.DEV_CLK_FAST_ON, 1, 0)], by decide +kernel⟩,
    ⟨put [(R.DEV_CLK_FAST_ON, 1, 0)], 512000, by decide +kernel⟩⟩

theorem met_Starts :
    (∃ (s : State) (run : StartRun) (_k _sys _bats : Nat), run.fail = 0 ∧ s.ring = []) ∧
    (∃ (_s : State) (run : StartRun) (_k _sys _bats : Nat), run.fail.val.testBit 3 ∨ run.fail.val.testBit 4) ∧
    (∃ (s : State) (_fail : Fin 256) (_sys _bats : Nat), s.get R.X_RESTART ≠ 0 ∧ s.asleepDeep = false ∧ s.on R.X_HELD = false
      ∧ s.restartBegin.restartReady = false) ∧
    (∃ (s : State) (_fail : Fin 256) (_sys _bats : Nat), s.get R.X_RESTART = 0x1A ∧ s.asleepDeep = false ∧ s.on R.X_HELD =
      false ∧ s.restartBegin.restartReady ∧ s.get R.BIST_STATUS_SAFE = 0) ∧
    (∃ (s : State), s.on R.MODE_STATUS_SHIP_PENDING ∧ s.on R.X_SHIP_OFF = false) ∧
    (∃ (s : State), s.shipReady) ∧
    (∃ (s : State) (_byInput : Bool) (exit : ExitRun) (_k _sys _bats : Nat), s.get R.MODE_STATUS_MODE = 0 ∧ s.on
      R.X_CUTOFF_REST = false ∧ s.on R.X_DOWN = false ∧ s.on R.X_HELD = false ∧ exit.run.fail = 0 ∧ s.ring = []) :=
  ⟨⟨put [], ⟨0, []⟩, 500, 2000, 2400, by decide +kernel⟩,
    ⟨put [], ⟨9, []⟩, 0, 2000, 2400, by decide +kernel⟩,
    ⟨({ put [(R.X_RESTART, 0x1A, 0)] with
      slots := [{ record := State.reset.mkRec 1 3 [], dclass := 0, at_ms := 0, goodTick := 0, waited := false, committed := false, popped := false }] }),
      0, 2000, 2400, by decide +kernel⟩,
    ⟨put [(R.X_RESTART, 0x1A, 0)], 0, 2000, 2400, by decide +kernel⟩,
    ⟨put [(R.MODE_STATUS_SHIP_PENDING, 1, 0)], by decide +kernel⟩,
    ⟨put [(R.X_SHIP_OFF, 1, 0), (R.MODE_STATUS_MODE, 4, 0)], by decide +kernel⟩,
    ⟨put [(R.MODE_STATUS_MODE, 0, 0)], true, ⟨⟨0, []⟩, 2⟩, 500, 2000, 2400, by decide +kernel⟩⟩

theorem met_Watchdog :
    (∃ (s : State) (key : Fin 256), s.monitored ∧ s.get R.X_WDT_NEW = 0 ∧ s.get R.WDT_POS < s.get R.X_WDT_LEN ∧ s.get
      R.WDT_WINDOW_AT ≤ s.get R.WDT_POS ∧ key = 0xB7 ∧ s.get R.WDT_TASK_EN = 0 ∧ s.get R.WDT_TASK_SEEN_DUP = 0) ∧
    (∃ (s : State) (key : Fin 256), s.monitored ∧ s.expired = false ∧ key ≠ 0xB7 ∧ s.get R.WDT_LADDER_Y < s.get
      R.WDT_CFG_Y_MAX) ∧
    (∃ (s : State), s.on R.WDT_LOCK = false) ∧
    (∃ (s : State), s.on R.WDT_LOCK = false) ∧
    (∃ (s : State), s.wdtRuns ∧ s.get R.X_WDT_NEW = 0 ∧ s.get R.X_WDT_LEN ≤ s.get R.WDT_POS + 1 ∧ s.get R.WDT_LADDER_Y < s.get
      R.WDT_CFG_Y_MAX) ∧
    (∃ (s : State), s.wdtRuns ∧ s.get R.X_WDT_NEW = 0 ∧ s.get R.X_WDT_LEN ≤ s.get R.WDT_POS + 1 ∧ s.get R.WDT_CFG_Y_MAX ≤
      s.get R.WDT_LADDER_Y ∧ s.get R.WDT_OTP_O_MAX ≤ s.get R.WDT_LADDER_O ∧ s.get R.WDT_SAFE_CAUSE = 0) ∧
    (∃ (s : State), s.wdtRuns ∧ s.on R.WDT_STATUS_INTERNAL ∧ s.get R.WDT_WINDOW_AT ≤ s.get R.WDT_POS) ∧
    (∃ (s : State), s.on R.WDT_STATUS_YELLOW_PULSE) ∧
    (∃ (s : State) (seq : Fin 4), s.asleepDeep = false ∧ s.on R.X_HELD = false ∧ s.get R.MODE_STATUS_MODE ≠ 0xB ∧
      s.thirdRestart = false ∧ s.seqWorks seq) ∧
    (∃ (s : State) (seq : Fin 4), s.seqWorks seq = false) :=
  ⟨⟨put [(R.WDT_STATUS_ENABLED, 1, 0), (R.WDT_STATUS_INTERNAL, 0, 0), (R.MODE_STATUS_MODE, 5, 0), (R.WDT_POS, 9999, 0),
      (R.X_WDT_LEN, 20000, 0)], 0xB7, by decide +kernel⟩,
    ⟨put [(R.WDT_STATUS_ENABLED, 1, 0), (R.WDT_STATUS_INTERNAL, 0, 0), (R.MODE_STATUS_MODE, 5, 0), (R.X_WDT_LEN, 20000, 0)],
      0x11, by decide +kernel⟩,
    ⟨put [(R.WDT_LOCK, 0, 0), (R.WDT_STATUS_ENABLED, 1, 0)], by decide +kernel⟩,
    ⟨put [(R.WDT_LOCK, 0, 0), (R.WDT_STATUS_ENABLED, 0, 0)], by decide +kernel⟩,
    ⟨put [(R.WDT_STATUS_ENABLED, 1, 0), (R.MODE_STATUS_MODE, 5, 0)], by decide +kernel⟩,
    ⟨put [(R.WDT_STATUS_ENABLED, 1, 0), (R.MODE_STATUS_MODE, 5, 0), (R.WDT_LADDER_Y, 3, 0), (R.WDT_LADDER_O, 3, 0)], by
      decide +kernel⟩,
    ⟨put [(R.WDT_STATUS_ENABLED, 1, 0), (R.WDT_STATUS_INTERNAL, 1, 0), (R.MODE_STATUS_MODE, 5, 0)], by decide +kernel⟩,
    ⟨put [(R.WDT_STATUS_YELLOW_PULSE, 1, 0)], by decide +kernel⟩,
    ⟨put [(R.MODE_STATUS_MODE, 5, 0), (R.X_FRAME, 1, 0), (R.CHG_STATUS_STATE, 4, 0)], 1, by decide +kernel⟩,
    ⟨put [(R.MODE_STATUS_MODE, 5, 0)], 1, by decide +kernel⟩⟩

theorem met_SupplySupervision :
    (∃ (s : State) (sys : Nat), s.asleepDeep = false ∧ s.on R.X_HELD = false ∧ s.on R.SUP_STATUS_RIDE = false ∧ sys < 65536) ∧
    (∃ (s : State), s.on R.SUP_STATUS_RIDE) :=
  ⟨⟨put [(R.MODE_STATUS_MODE, 5, 0)], 1100, by decide +kernel⟩,
    ⟨put [(R.SUP_STATUS_RIDE, 1, 0)], by decide +kernel⟩⟩

theorem met_Thermal :
    (∃ (s : State) (t1 t2 : Int), s.asleepDeep = false ∧ s.on R.X_HELD = false ∧ s.on R.THM_STATUS_HOLD = false ∧ t1 < 1500 ∧
      -32768 ≤ t1 ∧ plausible t1 t2) ∧
    (∃ (s : State) (t1 t2 : Int), s.asleepDeep = false ∧ s.on R.X_HELD = false ∧ s.on R.THM_STATUS_HOLD = false ∧ 1500 ≤ t1 ∧
      plausible t1 t2) ∧
    (∃ (s : State) (t1 t2 : Int), s.asleepDeep = false ∧ s.on R.X_HELD = false ∧ s.on R.THM_STATUS_HOLD ∧ t1 ≤ 1300 ∧
      plausible t1 t2 ∧ s.stands R.THM_FAULT_DIE_IMPLAUSIBLE = false ∧ s.held = []) ∧
    (∃ (s : State), s.on R.THM_STATUS_HOLD ∧ s.program = none) ∧
    (∃ (s : State) (x : Fin 6) (k : Nat) (ref : Bool), s.thEnabled x ∧ s.on R.DEV_CLK_FAST_ON ∧ s.get R.X_TH_JUDGE x = 1 ∧
      s.tempOf x 2048 = some 250 ∧ k = 2048 ∧ ref = true) ∧
    (∃ (s : State), s.on R.THM_STATUS_FB_HOLD = false) ∧
    (∃ (s : State) (n : Fin 2), s.get R.X_TH_JUDGE (4 + n) = 1 ∧ s.on R.THM_STATUS_FB_HOLD ∧ s.get R.X_FB_WAIT = 2 ^ n.val ∧
      s.getS R.X_TH_LAST (4 + n) < s.getS R.THM_TS_FB_START) ∧
    (∃ (s : State), s.on R.THM_STATUS_FB_HOLD) :=
  ⟨⟨put [(R.MODE_STATUS_MODE, 5, 0)], 400, 410, by decide +kernel⟩,
    ⟨put [(R.MODE_STATUS_MODE, 5, 0)], 1500, 1510, by decide +kernel⟩,
    ⟨put [(R.MODE_STATUS_MODE, 9, 0), (R.THM_STATUS_HOLD, 1, 0)], 1300, 1290, by decide +kernel⟩,
    ⟨put [(R.THM_STATUS_HOLD, 1, 0)], by decide +kernel⟩,
    ⟨put [(R.DEV_CLK_FAST_ON, 1, 0), (R.THM_CTRL_TB_EN, 2, 0), (R.X_TH_JUDGE, 1, 1)], 1, 2048, true, by decide +kernel⟩,
    ⟨put [], by decide +kernel⟩,
    ⟨put [(R.X_TH_JUDGE, 1, 5), (R.THM_STATUS_FB_HOLD, 1, 0), (R.X_FB_WAIT, 2, 0)], 1, by decide +kernel⟩,
    ⟨put [(R.THM_STATUS_FB_HOLD, 1, 0)], by decide +kernel⟩⟩

theorem met_SelfTestSlices :
    (∃ (s : State) (ahead : Fin 256), s.slicesRun ∧ s.on R.BIST_STATUS_RUNNING = false ∧ s.bistNext ahead ≠ none) ∧
    (∃ (s : State) (_match_ : Bool), s.on R.BIST_STATUS_RUNNING ∧ s.on R.X_BIST_MISS (s.get R.BIST_STATUS_PART) = false) ∧
    (∃ (s : State) (match_ : Bool), s.on R.BIST_STATUS_RUNNING ∧ s.on R.X_BIST_MISS (s.get R.BIST_STATUS_PART) ∧ match_ =
      false) :=
  ⟨⟨put [(R.BIST_CTRL_EN, 1, 0), (R.DEV_CLK_FAST_ON, 1, 0), (R.MODE_STATUS_MODE, 2, 0)], 4, by decide +kernel⟩,
    ⟨put [(R.BIST_STATUS_RUNNING, 1, 0), (R.BIST_STATUS_PART, 2, 0), (R.X_BIST_SLICE, 7, 0)], false, by decide +kernel⟩,
    ⟨put [(R.BIST_STATUS_RUNNING, 1, 0), (R.BIST_STATUS_PART, 1, 0), (R.X_BIST_MISS, 1, 1)], false, by decide +kernel⟩⟩

theorem met_HostRefusals :
    (∃ (s : State) (port : PortId) (_tag : Byte) (key : Fin 65536) (_index : Fin 256) (_value : Fin 65536), s.free port ∧ key
      ≠ 0x7C3E ∧ s.get R.MODE_STATUS_MODE = 0xA) ∧
    (∃ (s : State) (port : PortId) (_tag : Byte) (key : Fin 65536), s.free port ∧ key ≠ 0xD1E5) ∧
    (∃ (s : State) (port : PortId) (_tag : Byte) (key : Fin 65536), s.free port ∧ key ≠ 0x5EA1 ∧ s.chem = 3 ∧ s.get
      R.MODE_STATUS_MODE = 6 ∧ (s.chg = 0xB ∨ s.chg = 0xC)) ∧
    (∃ (s : State) (port : PortId) (_tag : Byte) (q _most : Fin 256), s.free port ∧ 16 ≤ q.val) ∧
    (∃ (s : State) (port : PortId) (_tag : Byte) (_flags : Fin 256) (off : Fin 65536) (data : List Byte), s.free port ∧ 1 ≤
      data.length ∧ data.length ≤ 4088 ∧ Config.stagingSize < off.val + data.length) ∧
    (∃ (s : State) (port : PortId) (_tag : Byte) (_arg : Fin 65536), True ∧ s.answering port ∧ s.requests = [] ∧ s.safeState ∧
      s.on R.X_P0_ONLY = false ∧ s.on R.MODE_STATUS_THERM_ACTIVE = false) ∧
    (∃ (s : State) (port : PortId) (_tag : Byte) (_flags _period : Fin 256) (_key : Fin 65536) (_version : Fin 4294967296),
      True ∧ s.answering port ∧ s.requests = [] ∧ s.on R.MODE_STATUS_THERM_ACTIVE ∧ s.safeState = false ∧ s.on R.X_P0_ONLY =
      false) :=
  ⟨⟨put [(R.DEV_CLK_FAST_ON, 1, 0), (R.MODE_STATUS_MODE, 10, 0), (R.HIF_STATUS_VDDIO_OK, 1, 0)], .tw, 0x5A, 1, 5, 6, by
      decide +kernel⟩,
    ⟨put [(R.DEV_CLK_FAST_ON, 1, 0), (R.MODE_STATUS_MODE, 4, 0), (R.HIF_STATUS_VDDIO_OK, 1, 0)], .tw, 0x5A, 1, by
      decide +kernel⟩,
    ⟨put [(R.DEV_CLK_FAST_ON, 1, 0), (R.MODE_STATUS_MODE, 6, 0), (R.HIF_STATUS_VDDIO_OK, 1, 0), (R.CHG_PROFILE_CHEM, 3, 0),
      (R.CHG_STATUS_STATE, 12, 0)], .tw, 0x5A, 1, by decide +kernel⟩,
    ⟨put [(R.DEV_CLK_FAST_ON, 1, 0), (R.MODE_STATUS_MODE, 4, 0), (R.HIF_STATUS_VDDIO_OK, 1, 0)], .tw, 0x5A, 16, 4, by
      decide +kernel⟩,
    ⟨put [(R.DEV_CLK_FAST_ON, 1, 0), (R.MODE_STATUS_MODE, 4, 0), (R.HIF_STATUS_VDDIO_OK, 1, 0)], .tw, 0x5A, 0, 65535, [1, 2,
      3], by decide +kernel⟩,
    ⟨put [(R.DEV_CLK_FAST_ON, 1, 0), (R.MODE_STATUS_MODE, 11, 0), (R.HIF_STATUS_VDDIO_OK, 1, 0)], .tw, 0x5A, 5, by
      decide +kernel⟩,
    ⟨put [(R.DEV_CLK_FAST_ON, 1, 0), (R.MODE_STATUS_MODE, 9, 0), (R.HIF_STATUS_VDDIO_OK, 1, 0), (R.MODE_STATUS_THERM_ACTIVE,
      1, 0)], .tw, 0x5A, 0, 0, 0, 0, by decide +kernel⟩⟩

theorem met_StepFront :
    (∃ (s : State) (c : Instr) (rest : List Instr), s.pending = c :: rest) :=
  ⟨({ State.reset with pending := [.uncouple, .graceExpire] }), .uncouple, [.graceExpire], by decide +kernel⟩

theorem met_IdleStep :
    (∃ (s : State), s.pending = [] ∧ (s.asleepDeep || s.on R.X_HELD) = false) ∧
    (∃ (s : State), s.pending = [] ∧ (s.asleepDeep || s.on R.X_HELD) = true) :=
  ⟨⟨put [], by decide +kernel⟩,
    ⟨put [(R.MODE_STATUS_MODE, 0, 0)], by decide +kernel⟩⟩

theorem met_FrameOfCommands :
    (∃ (c : Instr) (s : State), (∃ t, exec c s = .next t) ∧ keeps (footOf c) (.key (R.WDT_LOCK.key 0)) = true ∧ keeps (footOf
      c) (.comp .ring) = true) ∧
    (∃ (s : State), s.pending = [] ∧ (∃ t, step s = .next t) ∧ keeps Foot.tick (.key (R.WDT_LOCK.key 0)) = true) :=
  ⟨⟨.graceExpire, put [], ⟨_, rfl⟩, by decide +kernel, by decide +kernel⟩,
    ⟨put [], by decide +kernel, ⟨_, rfl⟩, by decide +kernel⟩⟩

theorem met_CanonicalKept :
    (∃ (s : State), s.wf = true ∧ ∃ t, step s = .next t) :=
  ⟨put [(R.WDT_LOCK, 1, 0), (R.MODE_STATUS_MODE, 5, 0)], by decide +kernel, ⟨_, rfl⟩⟩

theorem met_LegalModeKept :
    (∃ (s : State), s.modesLegal = true ∧ ∃ t, step s = .next t) :=
  ⟨put [(R.MODE_STATUS_MODE, 0xB, 0)], by decide +kernel, ⟨_, rfl⟩⟩

theorem met_StatusCodesKept :
    (∃ (s : State), s.statusesListed = true ∧ ∃ t, step s = .next t) :=
  ⟨({ put [] with tw := { reply := some { bytes := frame 0x15 7 [], popSeqs := [] }, ptr := 0 } }), by decide +kernel, ⟨_,
      rfl⟩⟩

theorem met_ModeChangers :
    (∃ (c : Instr) (s : State), (∃ t, exec c s = .next t) ∧ changesMode c = false) ∧
    (∃ (s : State), s.pending = [] ∧ ∃ t, step s = .next t) ∧
    (∃ (s : State), s.get R.MODE_STATUS_MODE ≠ 0 ∧ ∃ t, exec .shipEntryComplete s = .next t ∧ t.get R.MODE_STATUS_MODE = 0) ∧
    (∃ (s : State), s.get R.MODE_STATUS_MODE = 0 ∧ ∃ t, exec (.vaoBelowReset ⟨false, false, false⟩) s = .next t ∧ t.get
      R.MODE_STATUS_MODE ≠ 0) :=
  ⟨⟨.graceExpire, put [], ⟨_, rfl⟩, by decide +kernel⟩,
    ⟨put [], by decide +kernel, ⟨_, rfl⟩⟩,
    ⟨put [(R.X_SHIP_OFF, 1, 0), (R.MODE_STATUS_MODE, 4, 0)], by decide +kernel, ⟨_, rfl, by decide +kernel⟩⟩,
    ⟨put [(R.MODE_STATUS_MODE, 0, 0)], by decide +kernel, ⟨_, rfl, by decide +kernel⟩⟩⟩

theorem met_OtpKept :
    (∃ (c : Instr) (s : State) (w : Fin 128), (∃ t, exec c s = .next t) ∧ (s.rawWord (0x1100 + w)).testBit 0 = true) :=
  ⟨(.otpProgramDone 0), put [(R.X_OTP_BUSY, 1, 0), (R.X_OTP_WORD, 0x30, 0), (R.X_OTP_BITS, 4, 0)], 0x30, ⟨_, rfl⟩, by
      decide +kernel⟩

theorem met_WhatFewCommandsChange :
    (∃ (c : Instr) (s : State), (∃ t, exec c s = .next t) ∧ startsOver c = false ∧ writesCopies c = false ∧ writesRing c =
      false ∧ marksBad c = false) :=
  ⟨.graceExpire, put [], ⟨_, rfl⟩, by decide +kernel, by decide +kernel, by decide +kernel, by decide +kernel⟩

theorem met_WatchdogLock :
    (∃ (s : State) (port : PortId) (_tag : Byte), s.free port = true) ∧
    (∃ (c : Instr) (s : State), (∃ t, exec c s = .next t) ∧ startsOver c = false ∧ s.get R.WDT_LOCK = 1) ∧
    (∃ (s : State), s.pending = [] ∧ ∃ t, step s = .next t) :=
  ⟨⟨put [(R.DEV_CLK_FAST_ON, 1, 0), (R.MODE_STATUS_MODE, 4, 0)], .tw, 7, by decide +kernel⟩,
    ⟨.graceExpire, put [(R.WDT_LOCK, 1, 0)], ⟨_, rfl⟩, by decide +kernel, by decide +kernel⟩,
    ⟨put [], by decide +kernel, ⟨_, rfl⟩⟩⟩

theorem met_WatchdogPeriods :
    (∃ (s : State), s.pending = [] ∧ s.asleepDeep = false ∧ s.on R.X_HELD = false ∧ s.on R.WDT_STATUS_ENABLED = true ∧ s.get
      R.MODE_STATUS_MODE ≠ 0xB ∧ s.get R.WDT_SAFE_CAUSE = 0 ∧ (s.get R.X_RESTART = 0 ∨ s.on R.X_RESTARTING = true) ∧ s.get
      R.X_WDT_NEW ≠ 0) ∧
    (∃ (s : State), s.pending = [] ∧ s.asleepDeep = false ∧ s.on R.X_HELD = false ∧ s.on R.WDT_STATUS_ENABLED = true ∧ s.get
      R.MODE_STATUS_MODE ≠ 0xB ∧ s.get R.WDT_SAFE_CAUSE = 0 ∧ (s.get R.X_RESTART = 0 ∨ s.on R.X_RESTARTING = true) ∧ s.get
      R.X_WDT_NEW = 0 ∧ s.get R.WDT_POS + 1 < s.get R.X_WDT_LEN) ∧
    (∃ (s : State), s.pending = [] ∧ s.asleepDeep = false ∧ s.on R.X_HELD = false ∧ s.on R.WDT_STATUS_ENABLED = true ∧ s.get
      R.MODE_STATUS_MODE ≠ 0xB ∧ s.get R.WDT_SAFE_CAUSE = 0 ∧ (s.get R.X_RESTART = 0 ∨ s.on R.X_RESTARTING = true) ∧ s.get
      R.X_WDT_NEW = 0 ∧ s.get R.X_WDT_LEN ≤ s.get R.WDT_POS + 1) :=
  ⟨⟨put [(R.X_WDT_NEW, 1, 0)], by decide +kernel⟩,
    ⟨put [(R.X_WDT_NEW, 0, 0), (R.X_WDT_LEN, 5000, 0), (R.WDT_POS, 4998, 0)], by decide +kernel⟩,
    ⟨put [(R.X_WDT_NEW, 0, 0), (R.X_WDT_LEN, 5000, 0), (R.WDT_POS, 4999, 0)], by decide +kernel⟩⟩

theorem met_ValidService :
    (∃ (s : State), s.monitored = true ∧ s.asleepDeep = false ∧ s.on R.X_HELD = false ∧ s.pending = [] ∧ s.get R.X_WDT_NEW = 0
      ∧ s.get R.WDT_WINDOW_AT ≤ s.get R.WDT_POS ∧ s.get R.WDT_POS < s.get R.X_WDT_LEN ∧ (∀ k : Fin 8, s.bit R.WDT_TASK_EN k →
      s.bit R.WDT_TASK_SEEN_SEEN k) ∧ (s.on R.WDT_CFG_STRICT → s.get R.WDT_TASK_SEEN_DUP = 0)) ∧
    (∃ (s : State), s.monitored = true ∧ s.expired = false ∧ s.get R.X_WDT_NEW = 0 ∧ s.get R.WDT_POS < s.get R.WDT_WINDOW_AT) ∧
    (∃ (s : State), s.monitored = true ∧ s.expired = false ∧ s.get R.X_WDT_NEW = 1) :=
  ⟨⟨put [(R.WDT_STATUS_INTERNAL, 0, 0), (R.MODE_STATUS_MODE, 5, 0), (R.X_WDT_NEW, 0, 0), (R.X_WDT_LEN, 51, 0), (R.WDT_POS,
      50, 0), (R.WDT_WINDOW_AT, 50, 0), (R.WDT_TASK_EN, 5, 0), (R.WDT_TASK_SEEN_SEEN, 5, 0)], by decide +kernel⟩,
    ⟨put [(R.WDT_STATUS_INTERNAL, 0, 0), (R.MODE_STATUS_MODE, 5, 0), (R.X_WDT_NEW, 0, 0), (R.X_WDT_LEN, 90, 0), (R.WDT_POS,
      49, 0), (R.WDT_WINDOW_AT, 50, 0)], by decide +kernel⟩,
    ⟨put [(R.WDT_STATUS_INTERNAL, 0, 0), (R.MODE_STATUS_MODE, 5, 0), (R.X_WDT_NEW, 1, 0)], by decide +kernel⟩⟩

theorem met_PacketCrcChecks :
    (∃ (s : State) (bytes : List Byte), s.twLive = true ∧ s.requests = [] ∧ bytes.length = field bytes 2 2 + 5 ∧ bytes.length
      ≤ 4096) ∧
    (∃ (s : State) (bytes : List Byte), s.qbLive = true ∧ s.requests = [] ∧ bytes.length = field bytes 2 2 + 5 ∧ bytes.length
      ≤ 4096) ∧
    (∃ (data : List Byte), data.length < 65536) :=
  ⟨⟨put [(R.DEV_CLK_FAST_ON, 1, 0), (R.MODE_STATUS_MODE, 4, 0)], [0x32, 0x5A, 0x00, 0x00, 0x26], by decide +kernel⟩,
    ⟨put [(R.DEV_CLK_FAST_ON, 1, 0), (R.MODE_STATUS_MODE, 4, 0), (R.HIF_STATUS_VDDIO_OK, 1, 0)], [0x32, 0x5A, 0x00, 0x00,
      0x27], by decide +kernel⟩,
    ⟨[1, 2, 3], by decide +kernel⟩⟩

theorem met_ModeRefusals :
    (∃ (c : Instr) (r : Request) (s : State), requestOf c = some r ∧ s.answering r.port = true ∧ s.requests = [] ∧ lengthOk
      r.opcode r.params.length = true ∧ s.safeState = true ∧ r.opcode ∉ [0x01, 0x02, 0x08, 0x7E]) ∧
    (∃ (c : Instr) (r : Request) (s : State), requestOf c = some r ∧ s.answering r.port = true ∧ s.requests = [] ∧ lengthOk
      r.opcode r.params.length = true ∧ s.on R.MODE_STATUS_THERM_ACTIVE = true ∧ r.opcode ∈ [0x42, 0x43, 0x44, 0x68]) ∧
    (∃ (c : Instr) (r : Request) (s : State), requestOf c = some r ∧ s.answering r.port = true ∧ s.requests = [] ∧ lengthOk
      r.opcode r.params.length = true ∧ r.opcode = 0x68 ∧ s.get R.MODE_STATUS_MODE ≠ 0xA) ∧
    (∃ (c : Instr) (r : Request) (s : State), requestOf c = some r ∧ s.answering r.port = true ∧ s.requests = [] ∧ lengthOk
      r.opcode r.params.length = true ∧ s.safeState = true ∧ r.opcode ∈ [0x01, 0x02, 0x08, 0x7E] ∧ s.on R.X_P0_ONLY = false) :=
  ⟨⟨(.queueStatus .tw 7), ⟨.tw, 0x32, 7, []⟩, put [(R.DEV_CLK_FAST_ON, 1, 0), (R.MODE_STATUS_MODE, 11, 0)], by
      decide +kernel⟩,
    ⟨(.cfgConfirm .tw 7), ⟨.tw, 0x43, 7, []⟩, put [(R.DEV_CLK_FAST_ON, 1, 0), (R.MODE_STATUS_MODE, 9, 0),
      (R.MODE_STATUS_THERM_ACTIVE, 1, 0)], by decide +kernel⟩,
    ⟨(.otpProgram .tw 7 0 0 0), ⟨.tw, 0x68, 7, le 2 0 ++ le 1 0 ++ le 2 0⟩, put [(R.DEV_CLK_FAST_ON, 1, 0),
      (R.MODE_STATUS_MODE, 4, 0)], by decide +kernel⟩,
    ⟨(.ping .tw 7 [1]), ⟨.tw, 0x01, 7, [1]⟩, put [(R.DEV_CLK_FAST_ON, 1, 0), (R.MODE_STATUS_MODE, 11, 0)], by decide +kernel⟩⟩

theorem met_ReadRefusedWhole :
    (∃ (s : State) (port : PortId) (count : Fin 256), s.free port = true ∧ (count.val = 0 ∨ 64 < count.val)) ∧
    (∃ (s : State) (port : PortId) (addr : Fin 65536) (count : Fin 256) (k : Nat), s.free port = true ∧ 1 ≤ count.val ∧
      count.val ≤ 64 ∧ k < count.val ∧ (∀ j, j < k → defined (addr.val + j) = true) ∧ defined (addr.val + k) = false) ∧
    (∃ (a : Nat), (0x1180 ≤ a ∧ a ≤ 0x3FFF) ∨ (0x5000 ≤ a ∧ a ≤ 0x5FFF) ∨ (0x7000 ≤ a ∧ a ≤ 0xFFFF)) :=
  ⟨⟨put [(R.DEV_CLK_FAST_ON, 1, 0), (R.MODE_STATUS_MODE, 4, 0)], .tw, 65, by decide +kernel⟩,
    ⟨put [(R.DEV_CLK_FAST_ON, 1, 0), (R.MODE_STATUS_MODE, 4, 0)], .tw, 0x000C, 2, 1, by decide +kernel⟩,
    ⟨0x1180, by decide +kernel⟩⟩

end Sys2Proof.Tests
end

section
/-! PROOFS. Totality of the commands, and the state after reset (R11, R26). -/

namespace Sys2Proof.Machine

/-- Settles O44: each arm of `exec` is a next state by its form, so a case split over the commands gives it. -/
theorem everyCommandAnswers : Obligations.EveryCommandAnswers := by
  intro c s
  cases c <;> exact ⟨_, rfl⟩

/-- Settles O49: one closed state, so each property and the list of words is evaluated. -/
theorem resetState : Obligations.ResetState := by
  refine ⟨?canonical, ?modes, ?statuses, rfl, ?words⟩
  case canonical => decide +kernel
  case modes => decide +kernel
  case statuses => decide +kernel
  case words => decide +kernel

end Sys2Proof.Machine
end

section
/-! PROOFS. Words of the register file: what a word reads after it was written, and which updates leave it as before. -/

namespace Sys2Proof.Machine

/-! ### States with the same register file -/

namespace State

theorem get_of_fields {s t : State} (h : t.fields = s.fields) (r : Reg) (i : Nat) : t.get r i = s.get r i := by
  simp only [State.get, h]

theorem on_of_fields {s t : State} (h : t.fields = s.fields) (r : Reg) (i : Nat) : t.on r i = s.on r i := by
  simp only [State.on, get_of_fields h]

theorem rawWord_of_fields {s t : State} (h : t.fields = s.fields) (a : Nat) : t.rawWord a = s.rawWord a := by
  simp only [State.rawWord, get_of_fields h]

/-- A word none of whose fields an update touches reads as before. -/
theorem rawWord_same {s t : State} {a : Nat} (h : ∀ p ∈ fieldsAt a, (Part.key (p.1.key p.2.1)).same s t) :
    t.rawWord a = s.rawWord a :=
  List.foldl_ext _ _ 0 fun _ p hp => by rw [Part.same_get (h p hp)]

end State

/-- The fields of an address are those of its block (R462). -/
theorem mem_blockRegs {a : Nat} {p : Reg × Nat × Nat} (h : p ∈ fieldsAt a) : p.1 ∈ blockRegs a := by
  simp only [fieldsAt, List.mem_filterMap, Option.map_eq_some_iff] at h
  obtain ⟨r, hr, -, -, rfl⟩ := h
  exact hr

theorem blockRegs_block (a : Nat) : blockRegs (256 * (a / 256)) = blockRegs a := by
  simp only [blockRegs, Nat.mul_div_cancel_left _ (show 0 < 256 by decide)]

/-- Whether every field of a word is off every change of a list. -/
def wordOff (l : List Touch) (a : Nat) : Bool := (fieldsAt a).all (fun p => keeps l (.key (p.1.key p.2.1)))

/-! ### Packed words -/

/-- The fields of a word at address `a` lie in it whole, one above the other, from bit `k` on. -/
def packedFrom (a : Nat) : Nat → List (Reg × Nat × Nat) → Bool
  | _, [] => true
  | k, (r, i, w) :: l => decide (k ≤ r.lo) && decide (0 < r.width) && decide (r.lo + r.width ≤ 16) && w == 0 &&
      r.key i == 16 * a + r.lo && packedFrom a (r.lo + r.width) l

/-- A word of fields that lie in it whole. -/
def packed (a : Nat) : Bool := packedFrom a 0 (fieldsAt a)

theorem packedFrom_cons {a k i w : Nat} {r : Reg} {l : List (Reg × Nat × Nat)} : packedFrom a k ((r, i, w) :: l) = true ↔
    k ≤ r.lo ∧ 0 < r.width ∧ r.lo + r.width ≤ 16 ∧ w = 0 ∧ r.key i = 16 * a + r.lo ∧
      packedFrom a (r.lo + r.width) l = true := by
  simp [packedFrom, and_assoc]

/-- A field among those packed from bit `k` on: it begins there or above, lies whole in the word, under the word's key. -/
theorem packedFrom_mem {a k : Nat} {l : List (Reg × Nat × Nat)} (h : packedFrom a k l = true) {p : Reg × Nat × Nat}
    (hp : p ∈ l) : k ≤ p.1.lo ∧ p.1.lo + p.1.width ≤ 16 ∧ p.2.2 = 0 ∧ p.1.key p.2.1 = 16 * a + p.1.lo := by
  induction l generalizing k with
  | nil => cases hp
  | cons q l ih =>
    obtain ⟨r, i, w⟩ := q
    obtain ⟨hk, -, hw, h0, hkey, hl⟩ := packedFrom_cons.1 h
    rcases List.mem_cons.1 hp with rfl | hp
    · exact ⟨hk, hw, h0, hkey⟩
    · obtain ⟨hlo, rest⟩ := ih hl hp
      exact ⟨by omega, rest⟩

/-- A field that lies whole in its word contributes its value at its lowest bit. -/
theorem Reg.slice_whole {r : Reg} {v : Nat} (hv : v < 2 ^ r.width) (hw : r.lo + r.width ≤ 16) :
    r.slice 0 v = 2 ^ r.lo * v := by
  have h1 : 2 ^ r.lo * v < 2 ^ r.lo * 2 ^ r.width := Nat.mul_lt_mul_of_pos_left hv (Nat.two_pow_pos _)
  have h2 : 2 ^ r.lo * 2 ^ r.width ≤ 2 ^ 16 := by rw [← Nat.pow_add]; exact Nat.pow_le_pow_right (by decide) hw
  have h3 : 2 ^ r.width ≤ 2 ^ 16 := Nat.pow_le_pow_right (by decide) (by omega)
  simp only [Reg.slice, Nat.mul_zero, Nat.pow_zero, Nat.div_one]
  rw [Nat.mod_eq_of_lt (a := v) (by omega), Nat.mul_comm, Nat.mod_eq_of_lt (by omega)]

theorem testBit_foldl_slice (s : State) {a k acc b : Nat} {l : List (Reg × Nat × Nat)} (h : packedFrom a k l = true)
    (hacc : acc < 2 ^ k) : (l.foldl (fun acc p => acc + p.1.slice p.2.2 (s.get p.1 p.2.1)) acc).testBit b =
      (acc.testBit b || l.any (fun p => decide (p.1.lo ≤ b) && (s.get p.1 p.2.1).testBit (b - p.1.lo))) := by
  induction l generalizing k acc with
  | nil => simp
  | cons p l ih =>
    obtain ⟨r, i, w⟩ := p
    obtain ⟨hk, -, hw, rfl, -, hl⟩ := packedFrom_cons.1 h
    have hg := State.get_lt s r i
    have hlo : acc < 2 ^ r.lo := Nat.lt_of_lt_of_le hacc (Nat.pow_le_pow_right (by decide) hk)
    have hsum : acc + r.slice 0 (s.get r i) = 2 ^ r.lo * s.get r i ||| acc := by
      rw [Reg.slice_whole hg hw, Nat.add_comm, Nat.two_pow_add_eq_or_of_lt hlo]
    have hlt : 2 ^ r.lo * s.get r i ||| acc < 2 ^ (r.lo + r.width) := by
      refine Nat.or_lt_two_pow ?_ (Nat.lt_of_lt_of_le hlo (Nat.pow_le_pow_right (by decide) (by omega)))
      rw [Nat.pow_add]
      exact Nat.mul_lt_mul_of_pos_left hg (Nat.two_pow_pos _)
    simp only [List.foldl_cons, List.any_cons]
    rw [hsum, ih hl hlt, Nat.testBit_or, Nat.testBit_two_pow_mul, Bool.or_comm _ (acc.testBit b), Bool.or_assoc]

/-- The bits of a packed word are those of its fields. -/
theorem State.testBit_rawWord (s : State) {a b : Nat} (h : packed a = true) : (s.rawWord a).testBit b =
    (fieldsAt a).any (fun p => decide (p.1.lo ≤ b) && (s.get p.1 p.2.1).testBit (b - p.1.lo)) := by
  rw [State.rawWord, testBit_foldl_slice s h (by decide)]
  simp

/-- The bits of a word that its fields take (R22). -/
def usedBits (a : Nat) : Nat := (fieldsAt a).foldl (fun m p => m ||| wordMask p) 0

theorem reservedOk_iff {a v : Nat} : reservedOk a v = true ↔ v &&& usedBits a = v := by
  simp [reservedOk, usedBits]

theorem testBit_foldl_mask {a k m b : Nat} {l : List (Reg × Nat × Nat)} (h : packedFrom a k l = true) :
    (l.foldl (fun m p => m ||| wordMask p) m).testBit b =
      (m.testBit b || l.any (fun p => decide (p.1.lo ≤ b) && decide (b - p.1.lo < p.1.width))) := by
  induction l generalizing k m with
  | nil => simp
  | cons p l ih =>
    obtain ⟨r, i, w⟩ := p
    obtain ⟨-, -, hw, rfl, -, hl⟩ := packedFrom_cons.1 h
    have hmask : (wordMask (r, i, 0)).testBit b = (decide (r.lo ≤ b) && decide (b - r.lo < r.width)) := by
      have hmin : min 16 (r.width - 16 * 0) = r.width := by omega
      simp only [wordMask, hmin, Nat.mul_comm _ (2 ^ r.lo), Nat.testBit_two_pow_mul, Nat.testBit_two_pow_sub_one]
    simp only [List.foldl_cons, List.any_cons]
    rw [ih hl, Nat.testBit_or, hmask, Bool.or_assoc]

theorem testBit_usedBits {a b : Nat} (h : packed a = true) : (usedBits a).testBit b =
    (fieldsAt a).any (fun p => decide (p.1.lo ≤ b) && decide (b - p.1.lo < p.1.width)) := by
  rw [usedBits, testBit_foldl_mask h]
  simp

/-- A packed word reads 0 in its reserved bits. -/
theorem State.rawWord_and_usedBits (s : State) {a : Nat} (h : packed a = true) : s.rawWord a &&& usedBits a = s.rawWord a := by
  refine Nat.eq_of_testBit_eq fun b => ?_
  rw [Nat.testBit_and, s.testBit_rawWord h, testBit_usedBits h, Bool.and_eq_left_iff_imp]
  intro hb
  obtain ⟨p, hp, hbit⟩ := List.any_eq_true.1 hb
  rw [Bool.and_eq_true] at hbit
  refine List.any_eq_true.2 ⟨p, hp, ?_⟩
  rw [Bool.and_eq_true, decide_eq_true_eq (p := b - p.1.lo < p.1.width)]
  refine ⟨hbit.1, ?_⟩
  by_contra hge
  have hlt := Nat.lt_of_lt_of_le (State.get_lt s p.1 p.2.1) (Nat.pow_le_pow_right (by decide) (Nat.le_of_not_lt hge))
  simp [Nat.testBit_lt_two_pow hlt] at hbit

/-- What the write of a word does to one of its fields. -/
def State.putField (v : Nat) (t : State) (p : Reg × Nat × Nat) : State :=
  if p.1.width ≤ 16 then t.set p.1 (v / 2 ^ p.1.lo % 2 ^ p.1.width) p.2.1
  else t.set p.1 (t.get p.1 p.2.1 - t.get p.1 p.2.1 / 2 ^ (16 * p.2.2) % 65536 * 2 ^ (16 * p.2.2) +
    v % 65536 * 2 ^ (16 * p.2.2)) p.2.1

theorem State.putWord_eq (s : State) (a v : Nat) : s.putWord a v = (fieldsAt a).foldl (State.putField v) s := rfl

/-- Every field of a packed list holds its bits of the word written. -/
theorem get_foldl_putField {a k v : Nat} {l : List (Reg × Nat × Nat)} (h : packedFrom a k l = true) (t : State)
    {p : Reg × Nat × Nat} (hp : p ∈ l) :
    (l.foldl (State.putField v) t).get p.1 p.2.1 = v / 2 ^ p.1.lo % 2 ^ p.1.width := by
  induction l generalizing k t with
  | nil => cases hp
  | cons q l ih =>
    obtain ⟨r, i, w⟩ := q
    obtain ⟨-, hpos, hw, rfl, hkey, hl⟩ := packedFrom_cons.1 h
    rcases List.mem_cons.1 hp with rfl | hp
    · have hset : (State.putField v t (r, i, 0)).get r i = v / 2 ^ r.lo % 2 ^ r.width := by
        simp only [State.putField, if_pos (show r.width ≤ 16 by omega)]
        exact State.get_set_fit _ (Nat.mod_lt _ (Nat.two_pow_pos _))
      have hrest : (Part.key (r.key i)).same (State.putField v t (r, i, 0)) (l.foldl (State.putField v) (State.putField v t (r, i, 0))) := by
        refine Part.same_foldl_mem Part.same_refl fun u x hx hu => ?_
        obtain ⟨hlo, -, -, hxkey⟩ := packedFrom_mem hl hx
        have hne : ∀ j, Part.key (r.key i) = Part.key j → j ≠ x.1.key x.2.1 := by
          rintro j ⟨rfl⟩; omega
        simp only [State.putField]
        exact Part.same_ite (Part.same_set' hu hne) (Part.same_set' hu hne)
      exact (Part.same_get hrest).trans hset
    · exact ih hl _ hp

/-- A packed word reads after a write what was written, its reserved bits aside (R22). -/
theorem State.rawWord_putWord (s : State) {a : Nat} (v : Nat) (h : packed a = true) :
    (s.putWord a v).rawWord a = v &&& usedBits a := by
  refine Nat.eq_of_testBit_eq fun b => ?_
  rw [Nat.testBit_and, State.testBit_rawWord _ h, testBit_usedBits h, Bool.eq_iff_iff]
  simp only [List.any_eq_true, Bool.and_eq_true, decide_eq_true_eq]
  have hfield : ∀ p ∈ fieldsAt a, p.1.lo ≤ b → ((s.putWord a v).get p.1 p.2.1).testBit (b - p.1.lo) =
      (decide (b - p.1.lo < p.1.width) && v.testBit b) := fun p hp hlo => by
    rw [State.putWord_eq, get_foldl_putField h s hp, Nat.testBit_mod_two_pow, Nat.testBit_div_two_pow,
      Nat.sub_add_cancel hlo]
  constructor
  · rintro ⟨p, hp, hlo, hbit⟩
    rw [hfield p hp hlo, Bool.and_eq_true, decide_eq_true_eq] at hbit
    exact ⟨hbit.2, p, hp, hlo, hbit.1⟩
  · rintro ⟨hv, p, hp, hlo, hlt⟩
    exact ⟨p, hp, hlo, by rw [hfield p hp hlo]; simp [hlt, hv]⟩

/-- A read that clears leaves a packed word the bits whose condition stands (R11). -/
theorem State.rawWord_clearWord (s : State) {a : Nat} (h : packed a = true) :
    (s.clearWord a).rawWord a = s.rawWord a &&& s.standing a := by
  rw [State.clearWord, s.rawWord_putWord _ h, Nat.and_right_comm, s.rawWord_and_usedBits h]

/-- An accepted word reads back as written (R22, R377). -/
theorem State.rawWord_putWord_of_reservedOk (s : State) {a v : Nat} (h : packed a = true) (hv : reservedOk a v = true) :
    (s.putWord a v).rawWord a = v := by
  rw [s.rawWord_putWord v h, reservedOk_iff.1 hv]

end Sys2Proof.Machine
end

section
/-! PROOFS. A request of the host on a free port (R353, R372): the checks that it passes, and what the port holds after the answer. -/

namespace Sys2Proof.Machine

theorem length_le (n v : Nat) : (le n v).length = n := by
  induction n generalizing v with
  | zero => rfl
  | succ n ih => simp [le, ih]

namespace State

variable {s : State} {p : PortId}

/-- What being heard leaves as before. -/
theorem same_heard {q : Part} (h : Machine.keeps (Foot.abortSlice ++ Foot.awake ++ Foot.dropReply) q = true) : q.same s (s.heard p) := by
  simp only [keeps_append, Bool.and_eq_true] at h
  obtain ⟨⟨hslice, hawake⟩, hdrop⟩ := h
  cases p with
  | tw => exact Part.same_dropReply (Part.same_awake Part.same_refl hawake) hdrop
  | qb => exact Part.same_dropReply (Part.same_awake (Part.same_abortSlice Part.same_refl hslice) hawake) hdrop

theorem safeState_heard : (s.heard p).safeState = s.safeState := by
  simp only [State.safeState, Part.same_get (same_heard (s := s) (p := p) (q := .key (R.MODE_STATUS_MODE.key 0)) (by decide +kernel)),
    Part.same_get (same_heard (s := s) (p := p) (q := .key (R.WDT_SAFE_CAUSE.key 0)) (by decide +kernel))]

theorem p0Only_heard : (s.heard p).on R.X_P0_ONLY = s.on R.X_P0_ONLY := on_same (same_heard (by decide +kernel))

theorem thermActive_heard : (s.heard p).on R.MODE_STATUS_THERM_ACTIVE = s.on R.MODE_STATUS_THERM_ACTIVE :=
  on_same (same_heard (by decide +kernel))

/-- A request of an opcode without a key, which no mode but Safe State, Thermal Hold or the hard-wired responder refuses, passes the
checks on a free port where its length is allowed (R372, R373). -/
theorem preCheck_heard {op : Nat} {params : List Byte} (hf : s.free p = true) (hop : op ∉ [0x42, 0x44, 0x68, 0x7E, 0x7F])
    (hl : lengthOk op params.length = true) : (s.heard p).preCheck op params = 0 := by
  obtain ⟨-, -, hsafe, htherm, hp0⟩ := free_iff.1 hf
  have hkey : (s.heard p).keyWrong op params = false := by
    unfold State.keyWrong
    split <;> simp_all
  simp_all [State.preCheck, State.modeRefuses, safeState_heard, p0Only_heard, thermActive_heard]

/-- A reply that goes to a port with none, and no request of which waits, changes no field. -/
theorem fields_putReply {bytes : List Byte} {pops : List Nat} (hr : s.requests = []) (hn : (s.port p).reply = none) :
    (s.putReply p bytes pops).fields = s.fields := by
  cases p <;> simp_all [State.putReply, State.waiting, State.hold, State.setHif]

/-- The answer of a request on a free port whose meaning leaves the ports and the requests alone: the port holds it, and the
fields are those that the meaning leaves. -/
theorem serve_free {op : Nat} {tag : Byte} {params : List Byte} {body : State → Answer} {a : Answer} (hf : s.free p = true)
    (hop : op ∉ [0x42, 0x44, 0x68, 0x7E, 0x7F]) (hl : lengthOk op params.length = true) (ha : body (s.heard p) = a)
    (hk : ∀ c ∈ [Comp.tw, .qb, .requests], (Part.comp c).same (s.heard p) a.state) :
    (s.serve p op tag params body).replied p a.status tag a.data ∧
      (s.serve p op tag params body).fields = a.state.fields := by
  subst ha
  obtain ⟨hans, hreq, -⟩ := free_iff.1 hf
  have hr : (body (s.heard p)).state.requests = [] := (hk .requests (by decide)).trans (heard_requests hreq)
  have hn : ((body (s.heard p)).state.port p).reply = none := by
    have hport : (body (s.heard p)).state.port p = (s.heard p).port p := by
      cases p
      · exact hk .tw (by decide)
      · exact hk .qb (by decide)
    rw [hport, heard_reply]
  have hpass := preCheck_heard (params := params) hf hop hl
  rw [serve_answering hans hreq]
  refine ⟨interpret_replied hpass hr hn, ?_⟩
  rw [interpret_pass hpass hr, fields_putReply hr hn]

end State
end Sys2Proof.Machine
end

section
/-! PROOFS. PING, the parameter opcodes and READ_FAULTS (R375 to R380). -/

namespace Sys2Proof.Machine

/-! ### Reads (R11, R24, R376, R380) -/

namespace State

variable {s : State}

/-- The alert line moves no word outside block 0x0D00 (R364). -/
theorem rawWord_followAlert {a : Nat} (h : wordOff Foot.followAlert a = true) : s.followAlert.rawWord a = s.rawWord a :=
  rawWord_same fun p hp => Part.same_followAlert Part.same_refl (List.all_eq_true.1 h p hp)

/-- The alert line and its host-notify stand in block 0x0D00 alone (R359, R364, R368). -/
theorem alert_wordOff {a : Nat} (ha : a < 4096) (hb : a / 256 ≠ 0x0D) : wordOff Foot.followAlert a = true := by
  have hblocks : ∀ b : Fin 16, b ≠ 0x0D → ∀ r ∈ blockRegs (256 * b), r.count ≠ 0 ∧
      (List.range r.count).all (fun i => Machine.keeps Foot.followAlert (.key (r.key i))) = true := by decide +kernel
  refine List.all_eq_true.2 fun p hp => ?_
  obtain ⟨hcount, hall⟩ := hblocks ⟨a / 256, by omega⟩ (by simpa [Fin.ext_iff] using hb) p.1
    (by rw [blockRegs_block]; exact mem_blockRegs hp)
  exact apart_keeps hcount hall p.2.1

/-- Words that are not read-clear are read without effect (R24). -/
theorem foldl_readClear_eq {as : List Nat} (h : ∀ a ∈ as, accessOf a ≠ .rc) : as.foldl State.readClear s = s := by
  induction as with
  | nil => rfl
  | cons a l ih =>
    rw [List.foldl_cons, State.readClear, if_neg (h a List.mem_cons_self)]
    exact ih fun b hb => h b (List.mem_cons_of_mem _ hb)

/-- A read-clear word whose read sets nothing else off (R11). -/
theorem readAction_eq_clearWord {a : Nat} (h : a ∉ [0x0500, 0x0600, 0x0E02]) : s.readAction a = s.clearWord a := by
  unfold State.readAction
  split <;> simp_all

/-- READ_PARAM of defined words (R376). -/
theorem readParam_defined {addr count : Nat} (h1 : 1 ≤ count) (h64 : count ≤ 64)
    (hd : ∀ k < count, defined (addr + k) = true) : s.readParam addr count =
      (s.readWords ((List.range count).map (addr + ·))).1.okData
        ((List.range count).map (fun k => le 2 (s.readWord (addr + k)))).flatten := by
  have hnone : ((List.range count).map (addr + ·)).find? (fun a => !defined a) = none := by
    simpa [List.find?_eq_none] using hd
  simp only [State.readParam, hnone, if_neg (show ¬ (count = 0 ∨ 64 < count) by omega)]
  simp [State.readWords, Function.comp_def]

/-- Reading words leaves the ports and the requests alone. -/
theorem readWords_ports {as : List Nat} : ∀ c ∈ [Comp.tw, .qb, .requests], (Part.comp c).same s (s.readWords as).1 := by
  intro c hc
  refine Part.same_readWords Part.same_refl ?_
  revert c
  decide +kernel

end State

/-! ### Plain words: single fields of the configuration whose write sets nothing off but the grace timer's stop (R55, R377) -/

/-- The words of the WRITE_PARAM and MODIFY_PARAM clauses. -/
def plainWords : List Nat := [0x0108, 0x0109, 0x010B, 0x0204, 0x0304, 0x0406, 0x0407]

theorem plainWords_table {a : Nat} (h : a ∈ plainWords) :
    defined a = true ∧ accessOf a = .rw ∧ classOf a = .cfg ∧ packed a = true ∧
      wordOff (touches [R.DEV_CFG_DIRTY] [] [Foot.stopGrace, Foot.cause]) a = true ∧
      rules.all (fun r => !r.words.contains a) = true := by
  revert a
  decide +kernel

namespace State

variable {s t : State} {a v : Nat}

theorem storeWord_plain (h : a ∈ plainWords) : s.storeWord a v = s.putWord a v := by
  have hne : accessOf a ≠ .wo := by simp [(plainWords_table h).2.1]
  fin_cases h <;> simp [State.storeWord, hne]

theorem specialOk_plain (h : a ∈ plainWords) : s.specialOk a v = true := by
  fin_cases h <;> rfl

theorem computed_plain (h : a ∈ plainWords) : s.computed a = none := by
  fin_cases h <;> rfl

theorem readWord_plain (h : a ∈ plainWords) : s.readWord a = s.rawWord a := by
  simp [State.readWord, computed_plain h, (plainWords_table h).2.1]

/-- The judgement of a plain word is that of its bits alone. -/
theorem wordStatus_plain (h : a ∈ plainWords) : s.wordStatus a v = t.wordStatus a v := by
  obtain ⟨hdef, hacc, -⟩ := plainWords_table h
  have hrange : s.rangeOk a v = t.rangeOk a v := by simp only [State.rangeOk, specialOk_plain h]
  simp [State.wordStatus, hrange, hacc]

theorem reservedOk_of_wordStatus (h : s.wordStatus a v = 0) : reservedOk a v = true := by
  by_contra hr
  revert h
  simp only [State.wordStatus]
  split_ifs <;> simp_all

/-- No rule between fields names a plain word. -/
theorem brokenRule_plain (h : a ∈ plainWords) : brokenRule t [a] = none := by
  obtain ⟨-, -, -, -, -, hrules⟩ := plainWords_table h
  rw [List.all_eq_true] at hrules
  have : rules.find? (fun r => [a].any r.words.contains && !r.ok t) = none := by
    rw [List.find?_eq_none]
    intro r hr
    have := hrules r hr
    simp_all
  rw [brokenRule, this]
  rfl

theorem judgeWrite_plain (h : a ∈ plainWords) (hs : s.wordStatus a v = 0) : s.judgeWrite [(a, v)] = none := by
  have hu : (s.withLow [(a, v)] (s.get R.X_USABLE_LOW)).wordStatus a v = 0 := (wordStatus_plain h).trans hs
  simp [State.judgeWrite, hu, brokenRule_plain h]

/-- What a write of a plain word sets off touches nothing but the grace timer and its cause. -/
theorem same_wrote_plain {p : Part} {old : State} (h : a ∈ plainWords)
    (hk : Machine.keeps (touches [] [] [Foot.stopGrace, Foot.cause]) p = true) : p.same s (s.wrote old a v) := by
  simp only [keeps_touches, List.all_cons, List.all_nil, Bool.and_true, Bool.true_and, Bool.and_eq_true] at hk
  fin_cases h
  · exact Part.same_iff Part.same_refl fun u hu => Part.same_cause (Part.same_stopGrace hu hk.1) hk.2
  all_goals exact Part.same_refl

/-- A plain word written: it reads as written, the configuration is dirty (R377, R379), and the ports and the requests stand. -/
theorem writeWords_plain (h : a ∈ plainWords) (hs : s.wordStatus a v = 0) :
    (s.writeWords [(a, v)]).rawWord a = v ∧ (s.writeWords [(a, v)]).on R.DEV_CFG_DIRTY = true ∧
      ∀ c ∈ [Comp.tw, .qb, .requests], (Part.comp c).same s (s.writeWords [(a, v)]) := by
  obtain ⟨hdef, hacc, hcls, hpacked, hoff, -⟩ := plainWords_table h
  have hw : s.writeWords [(a, v)] = (((s.putWord a v).flag R.DEV_CFG_DIRTY true).wrote s a v) := by
    simp [State.writeWords, storeWord_plain h, hcls, State.iff]
  rw [hw]
  have hdirty : (Part.key (R.DEV_CFG_DIRTY.key 0)).same ((s.putWord a v).flag R.DEV_CFG_DIRTY true)
      (((s.putWord a v).flag R.DEV_CFG_DIRTY true).wrote s a v) := same_wrote_plain h (by decide +kernel)
  have hword : ∀ p ∈ fieldsAt a, (Part.key (p.1.key p.2.1)).same (s.putWord a v)
      (((s.putWord a v).flag R.DEV_CFG_DIRTY true).wrote s a v) := fun p hp => by
    have hp := List.all_eq_true.1 hoff p hp
    simp only [keeps_touches, List.all_cons, List.all_nil, Bool.and_true, Bool.true_and, Bool.and_eq_true] at hp
    refine Part.same_trans (Part.same_flag Part.same_refl hp.1) (same_wrote_plain h ?_)
    simp [hp.2]
  refine ⟨?_, (on_same hdirty).trans (on_flag_self _ _ _ _ (by decide)), fun c hc => ?_⟩
  · rw [rawWord_same hword, s.rawWord_putWord_of_reservedOk hpacked (reservedOk_of_wordStatus hs)]
  · have hput : (Part.comp c).same s ((s.putWord a v).flag R.DEV_CFG_DIRTY true) :=
      Part.same_flag (Part.same_putWord .writes Part.same_refl rfl (by
        simp [Scope.word, hdef, writable, hacc, hcls])) rfl
    have hoff : ∀ c ∈ [Comp.tw, .qb, .requests],
        Machine.keeps (touches [] [] [Foot.stopGrace, Foot.cause]) (.comp c) = true := by decide +kernel
    exact Part.same_trans hput (same_wrote_plain h (hoff c hc))

theorem writeParam_accepted {ws : List (Nat × Nat)} (h : s.judgeWrite ws = none) :
    s.writeParam ws = { state := s.writeWords ws, status := 0 } := by
  simp only [State.writeParam, h]

theorem writeParam_refused {ws : List (Nat × Nat)} {e : Nat × Nat} (h : s.judgeWrite ws = some e) :
    s.writeParam ws = s.refusal e.1 (le 2 e.2) := by
  simp only [State.writeParam, h]

/-- The word that MODIFY_PARAM writes (R378). -/
def modified (s : State) (a mask value : Nat) : Nat := (s.rawWord a &&& (65535 - mask)) ||| (value &&& mask)

theorem modifyParam_plain {mask value : Nat} (h : a ∈ plainWords) (hs : s.wordStatus a (s.modified a mask value) = 0) :
    s.modifyParam a mask value =
      (s.writeWords [(a, s.modified a mask value)]).okData (le 2 (s.modified a mask value)) := by
  obtain ⟨hdef, hacc, -⟩ := plainWords_table h
  have hj : s.judgeWrite [(a, (s.rawWord a &&& (65535 - mask)) ||| (value &&& mask))] = none := judgeWrite_plain h hs
  simp [State.modifyParam, State.modified, readWord_plain h, hdef, hacc, hj]

end State

/-! ### The opcodes -/

/-- A meaning that only reads leaves the ports and the requests alone. -/
theorem ports_refl (s : State) : ∀ c ∈ [Comp.tw, .qb, .requests], (Part.comp c).same s s := fun _ _ => Part.same_refl

section
variable {s : State} {port : PortId} {tag : Byte}

/-- What a command of the host answers on a free port, whose meaning leaves the ports and the requests alone. -/
theorem gives_serve {c : Instr} {op : Nat} {params : List Byte} {body : State → Answer} {a : Answer}
    (hc : exec c s = .next (s.serve port op tag params body)) (hf : s.free port = true)
    (hop : op ∉ [0x42, 0x44, 0x68, 0x7E, 0x7F]) (hl : lengthOk op params.length = true) (ha : body (s.heard port) = a)
    (hk : ∀ c ∈ [Comp.tw, .qb, .requests], (Part.comp c).same (s.heard port) a.state) :
    Gives (exec c s) (fun t => t.replied port a.status tag a.data ∧ t.fields = a.state.fields) :=
  ⟨_, hc, State.serve_free hf hop hl ha hk⟩

theorem ping_free {bytes : List Byte} (hf : s.free port = true) (hl : bytes.length ≤ 16) :
    Gives (exec (.ping port tag bytes) s) (fun t => t.replied port 0x00 tag (le 2 ((s.heard port).readWord 0x0000) ++
      le 2 ((s.heard port).readWord 0x0001) ++ le 2 ((s.heard port).readWord 0x0100) ++ le 2 (s.heard port).faultSum ++ bytes)) := by
  obtain ⟨t, ht, hreply, -⟩ := gives_serve (c := .ping port tag bytes) rfl hf (by decide) (by simpa [lengthOk] using hl)
    rfl (ports_refl _)
  exact ⟨t, ht, hreply⟩

/-- READ_PARAM of defined words, read-clear or not: the reply, and the state up to the reply. -/
theorem readParam_free {addr : Fin 65536} {count : Fin 256} (hf : s.free port = true) (h1 : 1 ≤ count.val)
    (h64 : count.val ≤ 64) (hd : ∀ k < count.val, defined (addr.val + k) = true) :
    Gives (exec (.readParam port tag addr count) s) (fun t =>
      t.replied port 0x00 tag (((List.range count.val).map (fun k => le 2 ((s.heard port).readWord (addr.val + k)))).flatten) ∧
      t.fields = ((s.heard port).readWords ((List.range count.val).map (addr.val + ·))).1.fields) := by
  have h := gives_serve (c := .readParam port tag addr count) rfl hf (by decide) (by simp [lengthOk, length_le])
    (State.readParam_defined h1 h64 hd) State.readWords_ports
  exact h

/-- READ_PARAM of words that are not read-clear changes no word outside block 0x0D00 (R24, R364, R376). -/
theorem readParam_plain {addr : Fin 65536} {count : Fin 256} (hf : s.free port = true) (h1 : 1 ≤ count.val)
    (h64 : count.val ≤ 64)
    (hd : (List.range count.val).all (fun k => defined (addr.val + k) && accessOf (addr.val + k) != .rc) = true) :
    Gives (exec (.readParam port tag addr count) s) (fun t =>
      t.replied port 0x00 tag (((List.range count.val).map (fun k => le 2 ((s.heard port).readWord (addr.val + k)))).flatten) ∧
      ∀ a : Fin 4096, a.val / 256 ≠ 0x0D → t.rawWord a = (s.heard port).rawWord a) := by
  simp only [List.all_eq_true, List.mem_range, Bool.and_eq_true, bne_iff_ne] at hd
  obtain ⟨t, ht, hreply, hfields⟩ := readParam_free (tag := tag) hf h1 h64 (fun k hk => (hd k hk).1)
  refine ⟨t, ht, hreply, fun a ha => ?_⟩
  have hread : ((List.range count.val).map (addr.val + ·)).foldl State.readClear (s.heard port) = s.heard port := by
    refine State.foldl_readClear_eq fun b hb => ?_
    obtain ⟨k, hk, rfl⟩ := List.mem_map.1 hb
    exact (hd k (List.mem_range.1 hk)).2
  rw [State.rawWord_of_fields hfields, State.readWords, hread, State.rawWord_followAlert (State.alert_wordOff a.isLt ha)]

/-- The FAULT registers of the second READ_PARAM clause. -/
def clearedFaults : List Nat := [0x0200, 0x0300, 0x0400, 0x0401, 0x0700, 0x0800, 0x0900, 0x0A00, 0x0C00, 0x0C40, 0x0F00]

theorem clearedFaults_table {a : Nat} (h : a ∈ clearedFaults) : defined a = true ∧ accessOf a = .rc ∧ packed a = true ∧
    a ∉ [0x0500, 0x0600, 0x0E02] ∧ wordOff Foot.followAlert a = true := by
  revert a
  decide +kernel

/-- READ_PARAM of a FAULT register clears the bits whose condition has ended (R11, R376). -/
theorem readParam_fault {addr : Fin 65536} (hf : s.free port = true) (ha : addr.val ∈ clearedFaults) :
    Gives (exec (.readParam port tag addr 1) s) (fun t =>
      t.replied port 0x00 tag (((List.range 1).map (fun k => le 2 ((s.heard port).readWord (addr.val + k)))).flatten) ∧
      t.rawWord addr = ((s.heard port).rawWord addr &&& (s.heard port).standing addr)) := by
  obtain ⟨hdef, hacc, hpacked, hplain, hoff⟩ := clearedFaults_table ha
  obtain ⟨t, ht, hreply, hfields⟩ := readParam_free (tag := tag) (addr := addr) (count := 1) hf (by decide) (by decide)
    (fun k hk => by obtain rfl : k = 0 := Nat.lt_one_iff.1 hk; exact hdef)
  refine ⟨t, ht, hreply, ?_⟩
  have hread : ((List.range 1).map (addr.val + ·)).foldl State.readClear (s.heard port) = (s.heard port).clearWord addr := by
    simp [State.readClear, hacc, State.readAction_eq_clearWord hplain]
  rw [State.rawWord_of_fields hfields]
  change ((((List.range 1).map (addr.val + ·)).foldl State.readClear (s.heard port)).followAlert).rawWord addr = _
  rw [hread, State.rawWord_followAlert hoff, State.rawWord_clearWord _ hpacked]

/-- The LENGTH of a WRITE_PARAM of 1 to 64 words is allowed (R377). -/
theorem writeParam_lengthOk {addr : Fin 65536} {words : List (Fin 65536)} (h1 : 1 ≤ words.length) (h64 : words.length ≤ 64) :
    lengthOk 0x03 (le 2 addr.val ++ (words.map (fun w => le 2 w.val)).flatten).length = true := by
  have hlen : (le 2 addr.val ++ (words.map (fun w => le 2 w.val)).flatten).length = 2 + 2 * words.length := by
    simp [length_le, List.length_flatten, Function.comp_def, Nat.mul_comm]
  rw [hlen]
  simp only [lengthOk, decide_eq_true_eq]
  omega

theorem writeParam_plain {addr : Fin 65536} {words : List (Fin 65536)} (hf : s.free port = true)
    (ha : addr.val ∈ plainWords) (hlen : words.length = 1)
    (hs : (s.heard port).wordStatus addr (words.headD 0).val = 0) :
    Gives (exec (.writeParam port tag addr words) s) (fun t =>
      t.replied port 0x00 tag [] ∧ t.rawWord addr = (words.headD 0).val ∧ t.on R.DEV_CFG_DIRTY) := by
  obtain ⟨w, rfl⟩ := List.length_eq_one_iff.1 hlen
  obtain ⟨hword, hdirty, hports⟩ := State.writeWords_plain ha hs
  obtain ⟨t, ht, hreply, hfields⟩ := gives_serve (c := .writeParam port tag addr [w]) rfl hf (by decide)
    (writeParam_lengthOk (by simp) (by simp)) (State.writeParam_accepted (State.judgeWrite_plain ha hs)) hports
  exact ⟨t, ht, hreply, (State.rawWord_of_fields hfields _).trans hword, (State.on_of_fields hfields _ _).trans hdirty⟩

/-- A WRITE_PARAM that is refused for its first word writes nothing (R34, R377). -/
theorem writeParam_range {addr : Fin 65536} {words : List (Fin 65536)} (hf : s.free port = true) (h1 : 1 ≤ words.length)
    (h64 : words.length ≤ 64) (hj : (s.heard port).judgeWrite ((List.range words.length).zip words |>.map (fun p =>
      (addr.val + p.1, p.2.val))) = some (0x15, addr.val)) :
    Gives (exec (.writeParam port tag addr words) s) (fun t =>
      t.replied port 0x15 tag (le 2 addr.val) ∧ t.fields = (s.heard port).fields) := by
  have h := gives_serve (c := .writeParam port tag addr words) rfl hf (by decide) (writeParam_lengthOk h1 h64)
    (State.writeParam_refused hj) (ports_refl _)
  exact h

theorem modifyParam_free {addr mask value : Fin 65536} (hf : s.free port = true) (ha : addr.val ∈ plainWords)
    (hs : (s.heard port).wordStatus addr ((s.heard port).modified addr mask value) = 0) :
    Gives (exec (.modifyParam port tag addr mask value) s) (fun t =>
      t.replied port 0x00 tag (le 2 ((s.heard port).modified addr mask value)) ∧
      t.rawWord addr = (s.heard port).modified addr mask value ∧ t.on R.DEV_CFG_DIRTY) := by
  obtain ⟨hword, hdirty, hports⟩ := State.writeWords_plain ha hs
  obtain ⟨t, ht, hreply, hfields⟩ := gives_serve (c := .modifyParam port tag addr mask value) rfl hf (by decide)
    (by simp [lengthOk, length_le]) (State.modifyParam_plain ha hs) hports
  exact ⟨t, ht, hreply, (State.rawWord_of_fields hfields _).trans hword, (State.on_of_fields hfields _ _).trans hdirty⟩

/-- READ_FAULTS answers the FAULT registers and read-clears them (R380). -/
theorem readFaults_free (hf : s.free port = true) :
    Gives (exec (.readFaults port tag) s) (fun t => t.replied port 0x00 tag (s.heard port).readFaults.2 ∧
      ∀ a ∈ faultAddrs, t.rawWord a = (faultAddrs.foldl State.readAction (s.heard port)).rawWord a) := by
  obtain ⟨-, -, -, -, hp0⟩ := State.free_iff.1 hf
  have hports : ∀ c ∈ [Comp.tw, .qb, .requests], (Part.comp c).same (s.heard port) (s.heard port).readFaults.1 := by
    intro c hc
    refine Part.same_readFaults Part.same_refl ?_
    revert c
    decide +kernel
  obtain ⟨t, ht, hreply, hfields⟩ := gives_serve (c := .readFaults port tag)
    (a := (s.heard port).readFaults.1.okData (s.heard port).readFaults.2) rfl hf (by decide) (by decide)
    (by simp [State.p0Only_heard, hp0]) hports
  have hoff : ∀ a ∈ faultAddrs, wordOff Foot.followAlert a = true := by decide +kernel
  exact ⟨t, ht, hreply, fun a ha => (State.rawWord_of_fields hfields a).trans (State.rawWord_followAlert (hoff a ha))⟩

end

/-- Settles O29: each clause is the lemma on its opcode above, on the state in which the interpreter finds the request. -/
theorem hostParameters : Obligations.HostParameters := by
  refine ⟨?_, ?_, ?_, ?_, ?_, ?_, ?_⟩
  · rintro s port tag bytes ⟨hf, hl⟩
    exact ping_free hf hl
  · rintro s port tag addr count ⟨hf, h1, h64, hd⟩
    exact readParam_plain hf h1 h64 hd
  · rintro s port tag addr count ⟨hf, rfl, ha⟩
    exact readParam_fault hf ha
  · rintro s port tag addr words ⟨hf, ha, hlen, hs⟩
    exact writeParam_plain hf ha hlen hs
  · rintro s port tag addr words ⟨hf, h1, h64, hj⟩
    exact writeParam_range hf h1 h64 hj
  · rintro s port tag addr mask value ⟨hf, ha, hs⟩
    exact modifyParam_free hf ha hs
  · rintro s port tag hf
    exact readFaults_free hf

end Sys2Proof.Machine
end

section
/-! PROOFS. The steps of a start (R38, R62, R446 to R448): what each of them leaves in the words that a start sets. -/

-- One theorem at a time: each decision by the kernel waits for all declarations before it and holds a thread meanwhile.
set_option Elab.async false

namespace Sys2Proof.Machine

/-! ### Fields dropped, loops over indices -/

theorem lookKey_filter_dropped {g : Nat × Nat → Bool} {k : Nat} (hk : ∀ v, g (k, v) = false) (l : FieldFile) :
    lookKey k (l.filter g) = none := by
  induction l with
  | nil => rfl
  | cons x t ih =>
    by_cases hx : g x = true
    · have hne : x.1 ≠ k := by rintro rfl; exact absurd ((hk x.2).symm.trans hx) (by decide)
      rw [List.filter_cons_of_pos hx, lookKey, if_neg hne, ih]
    · rw [List.filter_cons_of_neg hx, ih]

namespace State

variable {s : State}

/-- A field that is not kept reads its reset value. -/
theorem get_keepFields_dropped {f : Nat → Bool} {r : Reg} {i : Nat} (h : f (r.key i) = false) :
    (s.keepFields f).get r i = r.resetAt i % 2 ^ r.width := by
  have hnone : lookKey (r.key i) (s.keepFields f).fields = none := lookKey_filter_dropped (fun _ => h) s.fields
  simp only [State.get, hnone, Option.getD_none]

theorem each_succ (s : State) (n : Nat) (f : Nat → State → State) : s.each (n + 1) f = f n (s.each n f) := by
  simp [State.each, List.range_succ]

/-- A loop whose every turn leaves the state as it is. -/
theorem each_eq_self {n : Nat} {f : Nat → State → State} (h : ∀ i < n, f i s = s) : s.each n f = s := by
  induction n with
  | zero => rfl
  | succ n ih => rw [each_succ, ih fun i hi => h i (by omega), h n (by omega)]

/-- What the turn of one index brings about and the other turns keep, holds after the loop. -/
theorem each_establishes {Q : State → Prop} {n i : Nat} {f : Nat → State → State} (hi : i < n) (hdo : ∀ t, Q (f i t))
    (hkeep : ∀ j t, j < n → j ≠ i → Q t → Q (f j t)) : Q (s.each n f) := by
  induction n with
  | zero => omega
  | succ n ih =>
    rw [each_succ]
    by_cases h : i = n
    · exact h ▸ hdo _
    · exact hkeep n _ (by omega) (Ne.symm h) (ih (by omega) fun j t hj => hkeep j t (by omega))

/-! ### Dead times (R145, R157) -/

/-- Every phase has the dead time of the configuration. -/
def deadTimesInit (s : State) : Prop := ∀ p : Fin 6,
  s.get R.CNV_PHn_DT_U_RISE p = s.get R.CNV_DT_INIT_DT ∧ s.get R.CNV_PHn_DT_D_FALL p = s.get R.CNV_DT_INIT_DT

/-- The fields that `deadTimesInit` reads. -/
def deadTimeParts : List Part := .key (R.CNV_DT_INIT_DT.key 0) ::
  (List.range 6).flatMap (fun p => [.key (R.CNV_PHn_DT_U_RISE.key p), .key (R.CNV_PHn_DT_D_FALL.key p)])

theorem deadTimesInit_same {t : State} (h : ∀ q ∈ deadTimeParts, q.same s t) (hs : s.deadTimesInit) : t.deadTimesInit := by
  intro p
  have hinit := Part.same_get (h _ List.mem_cons_self)
  have hmem : ∀ q ∈ [Part.key (R.CNV_PHn_DT_U_RISE.key p), .key (R.CNV_PHn_DT_D_FALL.key p)], q.same s t := fun q hq =>
    h q (List.mem_cons_of_mem _ (List.mem_flatMap.2 ⟨p, List.mem_range.2 p.isLt, hq⟩))
  rw [hinit, Part.same_get (hmem _ List.mem_cons_self), Part.same_get (hmem _ (List.mem_cons_of_mem _ List.mem_cons_self))]
  exact hs p

/-- The dead times of a phase. -/
def deadTimeRegs : List Reg := [R.CNV_PHn_DT_U_RISE, R.CNV_PHn_DT_U_FALL, R.CNV_PHn_DT_D_RISE, R.CNV_PHn_DT_D_FALL]

theorem deadTimeRegs_width {r : Reg} (hr : r ∈ deadTimeRegs) : r.width = R.CNV_DT_INIT_DT.width := by
  revert r
  decide

/-- No two dead times share a key. -/
theorem deadTimeRegs_key {q r : Reg} (hq : q ∈ deadTimeRegs) (hr : r ∈ deadTimeRegs) {i j : Nat} (hi : i < 6) (hj : j < 6)
    (h : r.key i = q.key j) : r = q ∧ i = j := by
  have table : ∀ q ∈ deadTimeRegs, ∀ r ∈ deadTimeRegs, ∀ i < 6, ∀ j < 6, r.key i = q.key j → r = q ∧ i = j := by decide +kernel
  exact table q hq r hr i hi j hj h

/-- After the dead times of a list were written for phase `j`, those of the list hold the value, and all others what they did. -/
theorem get_foldl_set_deadTimes {d i j : Nat} {r : Reg} (hd : d < 2 ^ R.CNV_DT_INIT_DT.width) (hr : r ∈ deadTimeRegs)
    (hi : i < 6) (hj : j < 6) (l : List Reg) (hl : ∀ q ∈ l, q ∈ deadTimeRegs) (t : State) :
    (l.foldl (fun u q => u.set q d j) t).get r i = if r ∈ l ∧ i = j then d else t.get r i := by
  induction l generalizing t with
  | nil => simp
  | cons q l ih =>
    rw [List.foldl_cons, ih (fun x hx => hl x (List.mem_cons_of_mem _ hx))]
    by_cases h : r = q ∧ i = j
    · obtain ⟨rfl, rfl⟩ := h
      simp [State.get_set_fit _ ((deadTimeRegs_width hr).symm ▸ hd)]
    · rw [State.get_set_ne d fun hk => h (deadTimeRegs_key (hl q List.mem_cons_self) hr hi hj hk)]
      simp only [List.mem_cons]
      congr 1
      grind

theorem deadTimesFollow_eq (s : State) : s.deadTimesFollow =
    s.each 6 (fun p t => deadTimeRegs.foldl (fun u q => u.set q (s.get R.CNV_DT_INIT_DT) p) t) := rfl

theorem get_deadTimesFollow {r : Reg} {i : Nat} (hr : r ∈ deadTimeRegs) (hi : i < 6) :
    s.deadTimesFollow.get r i = s.get R.CNV_DT_INIT_DT := by
  have hd := State.get_lt s R.CNV_DT_INIT_DT 0
  rw [deadTimesFollow_eq]
  refine each_establishes (Q := fun t => t.get r i = s.get R.CNV_DT_INIT_DT) hi (fun t => ?_) fun j t hj hne ht => ?_
  · simp [get_foldl_set_deadTimes hd hr hi hi _ (fun _ => id), hr]
  · simp [get_foldl_set_deadTimes hd hr hi hj _ (fun _ => id), Ne.symm hne, ht]

theorem deadTimesInit_deadTimesFollow : s.deadTimesFollow.deadTimesInit := by
  have hinit : s.deadTimesFollow.get R.CNV_DT_INIT_DT = s.get R.CNV_DT_INIT_DT :=
    Part.same_get (Part.same_deadTimesFollow Part.same_refl (by decide +kernel))
  intro p
  rw [hinit, get_deadTimesFollow (by decide) p.isLt, get_deadTimesFollow (by decide) p.isLt]
  exact ⟨rfl, rfl⟩

/-- The words of a start that the rest of the start leaves alone: the watchdog's enable, the fast clock, the dead times and the
ports' components. -/
def startParts : List Part := [.key (R.WDT_STATUS_ENABLED.key 0), .key (R.DEV_CLK_FAST_ON.key 0), .comp .tw, .comp .qb,
  .comp .requests, .comp .staging] ++ deadTimeParts

theorem deadTimesInit_bootFollow : s.bootFollow.deadTimesInit := by
  obtain ⟨u, hu⟩ : ∃ u : State, s.bootFollow = (u.deadTimesFollow.queuesFollow.hrstnFollow).followAlert := ⟨_, rfl⟩
  rw [hu]
  refine deadTimesInit_same (fun q hq => ?_) (deadTimesInit_deadTimesFollow (s := u))
  have hoff : ∀ q ∈ deadTimeParts, Machine.keeps (Foot.queuesFollow ++ Foot.hrstnFollow ++ Foot.followAlert) q = true := by
    decide +kernel
  have h := hoff q hq
  simp only [keeps_append, Bool.and_eq_true] at h
  obtain ⟨⟨hqueues, hhrstn⟩, halert⟩ := h
  exact Part.same_followAlert (Part.same_hrstnFollow (Part.same_queuesFollow Part.same_refl hqueues) hhrstn) halert

/-! ### Step 4 of R38 and step 5 of R62 -/

variable {sys bats : Nat}

/-- What runs after a start: the watchdog, the fast clock, and the phases with the dead times of the configuration. -/
def started (s : State) : Prop := s.on R.WDT_STATUS_ENABLED ∧ s.on R.DEV_CLK_FAST_ON ∧ s.deadTimesInit

theorem started_same {t : State} (h : ∀ q ∈ startParts, q.same s t) (hs : s.started) : t.started := by
  obtain ⟨hen, hfast, hdead⟩ := hs
  refine ⟨?_, ?_, deadTimesInit_same (fun q hq => h q (List.mem_append_right _ hq)) hdead⟩
  · rw [on_same (h (.key (R.WDT_STATUS_ENABLED.key 0)) (by simp [startParts]))]; exact hen
  · rw [on_same (h (.key (R.DEV_CLK_FAST_ON.key 0)) (by simp [startParts]))]; exact hfast

/-- The safe states that stand at a start (R454). -/
def safeFunctions (s : State) : State := s.each 8 (fun p t => if t.bit R.BIST_STATUS_SAFE p then t.safeFunction p else t)

theorem same_safeFunctions {q : Part} {u : State} (h : Machine.keeps Foot.safeFunction q = true) : q.same u u.safeFunctions :=
  Part.same_each Part.same_refl fun _ _ hv => Part.same_ite (Part.same_safeFunction hv h) hv

/-- With no safe state standing none is taken. -/
theorem safeFunctions_eq (h : s.get R.BIST_STATUS_SAFE = 0) : s.safeFunctions = s :=
  each_eq_self fun p _ => if_neg (by simp [State.bit, h])

/-- The start after the configuration was loaded and the blocks follow it. -/
def watchdogStart (s : State) : State :=
  ((s.wakeRestart.flag R.WDT_STATUS_ENABLED true).flag R.WDT_STATUS_INTERNAL true).periodNext false

/-- The start up to the load of the configuration. -/
def clockStart (s : State) (sys bats : Nat) : State :=
  (((s.flag R.DEV_CLK_FAST_ON true).set R.X_FAST_AT s.now).set R.X_SYSS sys).set R.X_BATS bats

theorem startLogic_eq (s : State) (sys bats : Nat) :
    s.startLogic sys bats = ((s.clockStart sys bats).bootConfig.bootFollow).watchdogStart.safeFunctions := rfl

/-- What the watchdog's start changes besides its two enables. -/
def watchdogStartFoot : List Touch := touches [R.WDT_STATUS_ENABLED, R.WDT_STATUS_INTERNAL] [] [Foot.wakeRestart, Foot.periodNext]

theorem same_watchdogStart {q : Part} (h : Machine.keeps watchdogStartFoot q = true) : q.same s s.watchdogStart := by
  simp [watchdogStartFoot, and_assoc] at h
  obtain ⟨hen, hint, hwake, hnext⟩ := h
  exact Part.same_periodNext (Part.same_flag (Part.same_flag (Part.same_wakeRestart Part.same_refl hwake) hen) hint) hnext

theorem watchdogStart_enabled : s.watchdogStart.on R.WDT_STATUS_ENABLED := by
  have h : (Part.key (R.WDT_STATUS_ENABLED.key 0)).same (s.wakeRestart.flag R.WDT_STATUS_ENABLED true) s.watchdogStart :=
    Part.same_periodNext (Part.same_flag Part.same_refl (by decide +kernel)) (by decide +kernel)
  rw [on_same h]
  exact on_flag_self _ _ _ _ (by decide)

theorem watchdogStart_internal : s.watchdogStart.on R.WDT_STATUS_INTERNAL := by
  have h : (Part.key (R.WDT_STATUS_INTERNAL.key 0)).same
      ((s.wakeRestart.flag R.WDT_STATUS_ENABLED true).flag R.WDT_STATUS_INTERNAL true) s.watchdogStart :=
    Part.same_periodNext Part.same_refl (by decide +kernel)
  rw [on_same h]
  exact on_flag_self _ _ _ _ (by decide)

theorem clockStart_fast : (s.clockStart sys bats).on R.DEV_CLK_FAST_ON := by
  have h : (Part.key (R.DEV_CLK_FAST_ON.key 0)).same (s.flag R.DEV_CLK_FAST_ON true) (s.clockStart sys bats) :=
    Part.same_set (Part.same_set (Part.same_set Part.same_refl (by decide +kernel)) (by decide +kernel)) (by decide +kernel)
  rw [on_same h]
  exact on_flag_self _ _ _ _ (by decide)

theorem started_startLogic : (s.startLogic sys bats).started := by
  rw [startLogic_eq]
  have hoff : ∀ q ∈ startParts, Machine.keeps Foot.safeFunction q = true := by decide +kernel
  refine started_same (fun q hq => same_safeFunctions (hoff q hq)) ⟨watchdogStart_enabled, ?_, ?_⟩
  · have h : (Part.key (R.DEV_CLK_FAST_ON.key 0)).same (s.clockStart sys bats)
        ((s.clockStart sys bats).bootConfig.bootFollow).watchdogStart :=
      Part.same_trans (Part.same_bootFollow (Part.same_bootConfig Part.same_refl (by decide +kernel)) (by decide +kernel))
        (same_watchdogStart (by decide +kernel))
    rw [on_same h]
    exact clockStart_fast
  · have hkeep : ∀ q ∈ deadTimeParts, Machine.keeps watchdogStartFoot q = true := by decide +kernel
    exact deadTimesInit_same (fun q hq => same_watchdogStart (hkeep q hq)) deadTimesInit_bootFollow

theorem internal_startLogic : (s.startLogic sys bats).on R.WDT_STATUS_INTERNAL := by
  rw [startLogic_eq, on_same (same_safeFunctions (by decide +kernel))]
  exact watchdogStart_internal

/-! ### The demand of the rails and the selection of the mode (R49, R54) -/

theorem guardInternal_internal : s.guardInternal.on R.WDT_STATUS_INTERNAL := by
  unfold State.guardInternal
  split
  · assumption
  · rw [on_same (Part.same_periodNext Part.same_refl (by decide +kernel))]
    exact on_flag_self _ _ _ _ (by decide)

/-- The watchdog stays internal where the demand follows: a demand that ends makes it so (R411). -/
theorem internal_demandFollow (h : s.on R.WDT_STATUS_INTERNAL) : s.demandFollow.on R.WDT_STATUS_INTERNAL := by
  unfold State.demandFollow
  dsimp only
  split_ifs
  · exact h
  · rw [on_same (Part.same_hrstnFollow (Part.same_demandOn (Part.same_flag Part.same_refl (by decide +kernel))
      (by decide +kernel)) (by decide +kernel))]
    exact h
  · rw [on_same (Part.same_hrstnFollow Part.same_refl (by decide +kernel))]
    exact guardInternal_internal

theorem internal_modeTerms (h : s.on R.WDT_STATUS_INTERNAL) : s.modeTerms.on R.WDT_STATUS_INTERNAL :=
  internal_demandFollow ((on_same (Part.same_flag Part.same_refl (by decide +kernel))).trans h)

theorem internal_startMode {old : Nat} (h : s.on R.WDT_STATUS_INTERNAL) : (s.startMode old).on R.WDT_STATUS_INTERNAL := by
  have hkeep : (Part.key (R.WDT_STATUS_INTERNAL.key 0)).same s.modeTerms (s.startMode old) :=
    Part.same_set (Part.same_iff (Part.same_set Part.same_refl (by decide +kernel))
      (fun _ hv => Part.same_modeEntry hv (by decide +kernel))) (by decide +kernel)
  rw [on_same hkeep]
  exact internal_modeTerms h

/-- The demand is that of the terms of R54. -/
theorem demand_demandFollow : s.demandFollow.on R.MODE_STATUS_RAIL_DEMAND = s.demandNow := by
  unfold State.demandFollow
  dsimp only
  split_ifs with hsame hd
  · exact hsame.symm
  · rw [on_same (Part.same_hrstnFollow (Part.same_demandOn Part.same_refl (by decide +kernel)) (by decide +kernel)),
      on_flag_self _ _ _ _ (by decide), hd]
  · rw [on_same (Part.same_hrstnFollow (Part.same_guardInternal (Part.same_demandOff (Part.same_flag Part.same_refl
      (by decide +kernel)) (by decide +kernel)) (by decide +kernel)) (by decide +kernel)), on_flag_self _ _ _ _ (by decide)]
    simpa using hd

/-! ### The boot scan (R330) -/

theorem scanDone_bootScan {por : Bool} {worn : List Nat} : (s.bootScan por worn).1.on R.JNL_STATUS_SCAN_DONE := by
  unfold State.bootScan
  dsimp only
  split
  · rw [on_same (Part.same_saveRetained Part.same_refl (by decide +kernel))]
    exact on_flag_self _ _ _ _ (by decide)
  · rw [on_same (Part.same_saveRetained Part.same_refl (by decide +kernel))]
    exact on_flag_self _ _ _ _ (by decide)

theorem scanDone_startRecords {por : Bool} {worn : List Nat} {old cause : Nat} :
    (s.startRecords por worn old cause).on R.JNL_STATUS_SCAN_DONE := by
  have hkeep : (Part.key (R.JNL_STATUS_SCAN_DONE.key 0)).same (s.bootScan por worn).1 (s.startRecords por worn old cause) := by
    have hages : (Part.key (R.JNL_STATUS_SCAN_DONE.key 0)).same (s.bootScan por worn).1 ((s.bootScan por worn).1.each 8
        (fun q t => t.set R.X_BIST_AT (t.get R.X_BIST_AT q + (t.now - s.now)) q)) :=
      Part.same_each Part.same_refl fun _ _ hv => Part.same_set hv (by decide +kernel)
    unfold State.startRecords
    refine Part.same_modeFollow (Part.same_startSafe (Part.same_modeWrite (Part.same_offerHeld (Part.same_selectedRecord ?_
      (by decide +kernel)) (by decide +kernel)) (by decide +kernel)) (by decide +kernel)) (by decide +kernel)
    split
    · exact Part.same_record hages (by decide +kernel)
    · exact hages
  rw [on_same hkeep]
  exact scanDone_bootScan

/-! ### The start run and the retest (R446 to R448, R455) -/

/-- The rounds of a start run. -/
def lbistRounds (s : State) (fail : Nat) : State := (s.set R.BIST_POR_RESULT (255 - fail)).each 8 (fun p t =>
  (t.roundDone p).set R.BIST_Pp_PROG_LAST (if fail.testBit p then 3 else 1) p)

theorem lbist_eq (s : State) (fail : Nat) : s.lbist fail =
    if fail.testBit 3 || fail.testBit 4 then (s.lbistRounds fail).flag R.X_HELD true
    else if fail = 0 then s.lbistRounds fail else ((s.lbistRounds fail).safeCause 2).flag R.X_P0_ONLY true := rfl

theorem get_lbistRounds {fail : Nat} (h : fail < 256) : (s.lbistRounds fail).get R.BIST_POR_RESULT = 255 - fail := by
  have hrounds : (Part.key (R.BIST_POR_RESULT.key 0)).same (s.set R.BIST_POR_RESULT (255 - fail)) (s.lbistRounds fail) :=
    Part.same_each Part.same_refl fun _ _ hv =>
      Part.same_set (Part.same_roundDone hv (by decide +kernel)) (by decide +kernel)
  rw [Part.same_get hrounds]
  exact get_set_fit 0 (show 255 - fail < 2 ^ 8 by omega)

theorem lbist_zero : s.lbist 0 = s.lbistRounds 0 := by
  rw [lbist_eq, if_neg (by decide), if_pos rfl]

theorem held_lbist_zero : (s.lbist 0).on R.X_HELD = s.on R.X_HELD := by
  rw [lbist_zero]
  exact on_same (Part.same_each (Part.same_set Part.same_refl (by decide +kernel)) fun _ _ hv =>
    Part.same_set (Part.same_roundDone hv (by decide +kernel)) (by decide +kernel))

theorem result_lbist_zero : (s.lbist 0).get R.BIST_POR_RESULT = 255 := by
  rw [lbist_zero]
  exact get_lbistRounds (by decide)

/-- A failure of P3 or P4 holds the device in reset (R447). -/
theorem lbist_held {fail : Nat} (h : fail < 256) (hbit : fail.testBit 3 ∨ fail.testBit 4) :
    (s.lbist fail).on R.X_HELD ∧ (s.lbist fail).get R.BIST_POR_RESULT = 255 - fail := by
  rw [lbist_eq, if_pos (by simpa using hbit)]
  refine ⟨on_flag_self _ _ _ _ (by decide), ?_⟩
  exact (Part.same_get (Part.same_flag Part.same_refl (by decide +kernel))).trans (get_lbistRounds h)

/-- A retest has nothing to do where no safe state stands. -/
theorem retest_eq {fail : Nat} (h : s.get R.BIST_STATUS_SAFE = 0) : s.retest fail = s := by
  simp only [State.retest, h, Nat.zero_and, State.iff]
  exact each_eq_self fun p _ => by simp

/-! ### Held in reset (R447) -/

theorem hrstnLow_hrstnFollow (h : s.on R.X_HELD ∨ s.on R.X_DOWN) : s.hrstnFollow.on R.HIF_STATUS_HRSTN_LOW := by
  unfold State.hrstnFollow
  dsimp only
  rw [on_flag_self _ _ _ _ (by decide)]
  rcases h with h | h <;> simp [h]

theorem alertnLow_followAlert (h : s.on R.X_HELD) : s.followAlert.on R.HIF_STATUS_ALERTN_LOW := by
  unfold State.followAlert
  dsimp only
  rw [on_flag_self _ _ _ _ (by decide)]
  simp [State.alertLow, h]

theorem heldFollow_low (h : s.on R.X_HELD) : s.heldFollow.on R.X_HELD ∧ s.heldFollow.on R.HIF_STATUS_HRSTN_LOW ∧
    s.heldFollow.on R.HIF_STATUS_ALERTN_LOW := by
  have hheld : s.hrstnFollow.on R.X_HELD := (on_same (Part.same_hrstnFollow Part.same_refl (by decide +kernel))).trans h
  refine ⟨?_, ?_, alertnLow_followAlert hheld⟩
  · exact (on_same (Part.same_followAlert Part.same_refl (by decide +kernel))).trans hheld
  · exact (on_same (Part.same_followAlert Part.same_refl (by decide +kernel))).trans (hrstnLow_hrstnFollow (.inl h))

/-! ### The straps (R348) -/

theorem strapOf_lt (k : Nat) : (strapOf k).getD 0 < 4 := by
  unfold strapOf
  split_ifs <;> decide

/-- The address of the two-wire port follows the strap (R348). -/
theorem strapFollow_address {k : Nat} : (s.strapFollow k).get R.HIF_ADDR_STRAP = (strapOf k).getD 0 ∧
    (s.strapFollow k).get R.HIF_ADDR_EFFECTIVE =
      ((s.strapFollow k).get R.HIF_ADDR_BASE + (strapOf k).getD 0) % 2 ^ R.HIF_ADDR_EFFECTIVE.width := by
  have hkeep : ∀ r ∈ [R.HIF_ADDR_STRAP, R.HIF_ADDR_EFFECTIVE, R.HIF_ADDR_BASE], (Part.key (r.key 0)).same
      ((s.set R.HIF_ADDR_STRAP ((strapOf k).getD 0)).set R.HIF_ADDR_EFFECTIVE (s.get R.HIF_ADDR_BASE + (strapOf k).getD 0))
      (s.strapFollow k) := by
    have hoff : ∀ r ∈ [R.HIF_ADDR_STRAP, R.HIF_ADDR_EFFECTIVE, R.HIF_ADDR_BASE],
        Machine.keeps (Foot.latchStand R.HIF_FAULT_ADDR_INVALID ++ Foot.ended) (.key (r.key 0)) = true := by decide +kernel
    intro r hr
    have h := hoff r hr
    simp only [keeps_append, Bool.and_eq_true] at h
    unfold State.strapFollow
    exact Part.same_ite (Part.same_latchStand Part.same_refl h.1) (Part.same_ended Part.same_refl h.2)
  have hbase : (s.strapFollow k).get R.HIF_ADDR_BASE = s.get R.HIF_ADDR_BASE :=
    Part.same_get (Part.same_strapFollow Part.same_refl (by decide +kernel))
  rw [hbase, Part.same_get (hkeep _ (by simp)), Part.same_get (hkeep _ (by simp)), get_set_self]
  refine ⟨?_, rfl⟩
  rw [get_set_off _ (by decide +kernel)]
  exact get_set_fit 0 (strapOf_lt k)

end State
end Sys2Proof.Machine
end

section
/-! PROOFS. POWER_ON_RESET and SHIP_EXIT (R38, R62): both run the start run, start the logic, select the mode and offer the records
of the start. -/

-- One theorem at a time: each decision by the kernel waits for all declarations before it and holds a thread meanwhile.
set_option Elab.async false

namespace Sys2Proof.Machine
namespace State

variable {s : State} {k sys bats : Nat}

/-! ### The end of a start: the mode's change is stamped and the records are offered (R39, R330) -/

/-- The last step of a start, after the mode was selected. -/
def startEnd (s : State) (time cause : Nat) (por : Bool) (worn : List Nat) (old : Nat) : State :=
  ((s.set R.MODE_CAUSE cause).set R.MODE_CHANGE_TIME time).startRecords por worn old cause

/-- What the last step of a start changes. -/
def startEndFoot : List Touch := touches [R.MODE_CAUSE, R.MODE_CHANGE_TIME] [] [Foot.startRecords]

section
variable {time cause old : Nat} {por : Bool} {worn : List Nat}

theorem same_startEnd {q : Part} (h : Machine.keeps startEndFoot q = true) : q.same s (s.startEnd time cause por worn old) := by
  simp [startEndFoot, and_assoc] at h
  obtain ⟨hcause, htime, hrecords⟩ := h
  exact Part.same_startRecords (Part.same_set (Part.same_set Part.same_refl hcause) htime) hrecords

theorem cause_startEnd (h : cause < 256) : (s.startEnd time cause por worn old).get R.MODE_CAUSE = cause := by
  have hkeep : (Part.key (R.MODE_CAUSE.key 0)).same (s.set R.MODE_CAUSE cause) (s.startEnd time cause por worn old) :=
    Part.same_startRecords (Part.same_set Part.same_refl (by decide +kernel)) (by decide +kernel)
  rw [Part.same_get hkeep]
  exact get_set_fit 0 h

theorem scanDone_startEnd : (s.startEnd time cause por worn old).on R.JNL_STATUS_SCAN_DONE := scanDone_startRecords

end

theorem started_startEnd {time cause old : Nat} {por : Bool} {worn : List Nat} (h : s.started) :
    (s.startEnd time cause por worn old).started := by
  have hoff : ∀ q ∈ startParts, Machine.keeps startEndFoot q = true := by decide +kernel
  exact started_same (fun q hq => same_startEnd (hoff q hq)) h

theorem started_startMode {old : Nat} (h : s.started) : (s.startMode old).started := by
  have hoff : ∀ q ∈ startParts, Machine.keeps Foot.startMode q = true := by decide +kernel
  exact started_same (fun q hq => Part.same_startMode Part.same_refl (hoff q hq)) h

/-! ### Held in reset or not, after the supply or the logic was lost -/

/-- Nothing that a loss of supply leaves holds the device in reset. -/
theorem held_supplyLost {torn : Bool} : (s.supplyLost torn).on R.X_HELD = false := by
  obtain ⟨u, hu⟩ : ∃ u : State, s.supplyLost torn =
      ((u.keepFields (fun k => clsOfKey k == Cls.otp || clsOfKey k == Cls.nv)).flag R.X_DOWN true).hrstnFollow := ⟨_, rfl⟩
  rw [hu, on_same (Part.same_hrstnFollow (Part.same_flag Part.same_refl (by decide +kernel)) (by decide +kernel)), State.on,
    get_keepFields_dropped (by decide +kernel)]
  decide

/-- A loss of supply empties the ports, the requests and the staging area. -/
theorem emptied_supplyLost {torn : Bool} : (s.supplyLost torn).tw = Port.empty ∧ (s.supplyLost torn).qb = Port.empty ∧
    (s.supplyLost torn).requests = [] ∧ (s.supplyLost torn).staging = [] := ⟨rfl, rfl, rfl, rfl⟩

/-! ### POWER_ON_RESET up to the start run -/

/-- What the start run of a POR finds: the always-on domain afresh, the OTP words and the straps read. -/
def porBoot (s : State) (k : Nat) : State :=
  let s0 : State := (s.supplyLost false).alwaysOnReset
  let s1 : State := { s0 with grownBad := s0.table6 }
  ((s1.otpFollow).strapFollow k).set R.WDT_LOCK (s1.get R.OTP_WDT_LOCK_DEFAULT)

/-- The start of a POR after a start run that holds nothing in reset. -/
def porStart (s : State) (worn : List Nat) (sys bats : Nat) : State :=
  let s4 := (s.flag R.PP_STATUS_VSU_ON true).startLogic sys bats
  (s4.startMode 1).startEnd s4.now 1 true worn 0xFF

theorem exec_powerOnReset (run : StartRun) : exec (.powerOnReset run k sys bats) s =
    .next (if ((s.porBoot k).lbist run.fail).on R.X_HELD then ((s.porBoot k).lbist run.fail).heldFollow
      else ((s.porBoot k).lbist run.fail).porStart run.worn sys bats) := rfl

/-- What a POR changes up to its start run, the loss of supply aside. -/
def porBootFoot : List Touch := touches [R.WDT_LOCK] [.grownBad] [Foot.alwaysOnReset, Foot.otpFollow, Foot.strapFollow]

theorem same_porBoot {q : Part} (h : Machine.keeps porBootFoot q = true) : q.same (s.supplyLost false) (s.porBoot k) := by
  simp [porBootFoot] at h
  obtain ⟨hlock, hgrown, halways, hotp, hstrap⟩ := h
  exact Part.same_set (Part.same_strapFollow (Part.same_otpFollow (Part.same_with_grownBad
    (Part.same_alwaysOnReset Part.same_refl halways) hgrown) hotp) hstrap) hlock

theorem down_porBoot : (s.porBoot k).on R.X_DOWN = false := by
  have hflag : (s.supplyLost false).alwaysOnReset.on R.X_DOWN = false := by
    unfold State.alwaysOnReset
    dsimp only
    rw [on_same (Part.same_flag Part.same_refl (by decide +kernel))]
    exact on_flag_self _ _ _ _ (by decide)
  have hkeep : (Part.key (R.X_DOWN.key 0)).same (s.supplyLost false).alwaysOnReset (s.porBoot k) :=
    Part.same_set (Part.same_strapFollow (Part.same_otpFollow (Part.same_with_grownBad Part.same_refl (by decide +kernel))
      (by decide +kernel)) (by decide +kernel)) (by decide +kernel)
  exact (on_same hkeep).trans hflag

theorem held_porBoot : (s.porBoot k).on R.X_HELD = false := (on_same (same_porBoot (by decide +kernel))).trans held_supplyLost

/-- The address of the two-wire port is that of the straps (R348). -/
def addressed (s : State) (k : Nat) : Prop := s.get R.HIF_ADDR_STRAP = (strapOf k).getD 0 ∧
  s.get R.HIF_ADDR_EFFECTIVE = (s.get R.HIF_ADDR_BASE + (strapOf k).getD 0) % 2 ^ R.HIF_ADDR_EFFECTIVE.width

/-- The words that `addressed` reads. -/
def addressRegs : List Reg := [R.HIF_ADDR_STRAP, R.HIF_ADDR_EFFECTIVE, R.HIF_ADDR_BASE]

theorem addressed_same {t : State} (h : ∀ r ∈ addressRegs, (Part.key (r.key 0)).same s t) (hs : s.addressed k) :
    t.addressed k := by
  unfold addressed
  rw [Part.same_get (h R.HIF_ADDR_STRAP (by decide)), Part.same_get (h R.HIF_ADDR_EFFECTIVE (by decide)),
    Part.same_get (h R.HIF_ADDR_BASE (by decide))]
  exact hs

theorem addressed_porBoot : (s.porBoot k).addressed k := by
  have hoff : ∀ r ∈ addressRegs, (Touch.reg R.WDT_LOCK).off (.key (r.key 0)) = true := by decide +kernel
  exact addressed_same (fun r hr => Part.same_set Part.same_refl (hoff r hr)) strapFollow_address

theorem emptied_porBoot : (s.porBoot k).tw = Port.empty ∧ (s.porBoot k).qb = Port.empty ∧ (s.porBoot k).requests = [] ∧
    (s.porBoot k).staging = [] := by
  obtain ⟨htw, hqb, hreq, hstage⟩ := emptied_supplyLost (s := s) (torn := false)
  exact ⟨Eq.trans (same_porBoot (q := .comp .tw) (by decide +kernel)) htw,
    Eq.trans (same_porBoot (q := .comp .qb) (by decide +kernel)) hqb,
    Eq.trans (same_porBoot (q := .comp .requests) (by decide +kernel)) hreq,
    Eq.trans (same_porBoot (q := .comp .staging) (by decide +kernel)) hstage⟩

/-! ### POWER_ON_RESET after the start run -/

/-- What the start of a POR changes. -/
def porStartFoot : List Touch :=
  touches [R.PP_STATUS_VSU_ON] [] [Foot.startLogic, Foot.startMode, startEndFoot]

section
variable {worn : List Nat}

theorem same_porStart {q : Part} (h : Machine.keeps porStartFoot q = true) : q.same s (s.porStart worn sys bats) := by
  simp [porStartFoot] at h
  obtain ⟨hvsu, hlogic, hmode, hend⟩ := h
  exact Part.same_trans (Part.same_startMode (Part.same_startLogic (Part.same_flag Part.same_refl hvsu) hlogic) hmode)
    (same_startEnd hend)

theorem started_porStart : (s.porStart worn sys bats).started := started_startEnd (started_startMode started_startLogic)

theorem internal_porStart : (s.porStart worn sys bats).on R.WDT_STATUS_INTERNAL :=
  (on_same (same_startEnd (by decide +kernel))).trans (internal_startMode internal_startLogic)

theorem cause_porStart : (s.porStart worn sys bats).get R.MODE_CAUSE = 1 := cause_startEnd (by decide)

theorem scanDone_porStart : (s.porStart worn sys bats).on R.JNL_STATUS_SCAN_DONE := scanDone_startEnd

/-- What the start run and the start leave of what a POR boots with. -/
def porParts : List Part := [.key (R.X_DOWN.key 0), .comp .tw, .comp .qb, .comp .requests, .comp .staging] ++
  addressRegs.map (fun r => .key (r.key 0))

theorem same_porParts {q : Part} (hq : q ∈ porParts) : q.same s ((s.lbist 0).porStart worn sys bats) := by
  have hoff : ∀ q ∈ porParts, Machine.keeps (Foot.lbist ++ porStartFoot) q = true := by decide +kernel
  have h := hoff q hq
  rw [keeps_append, Bool.and_eq_true] at h
  exact Part.same_trans (Part.same_lbist Part.same_refl h.1) (same_porStart h.2)

end

end State

section
variable {s : State} {run : StartRun} {k sys bats : Nat}

/-- A POR whose start run passes starts the device (R38, R446). -/
theorem powerOnReset_passes (hrun : run.fail = 0) : Gives (exec (.powerOnReset run k sys bats) s) (fun t =>
    t.on R.X_DOWN = false ∧ t.get R.BIST_POR_RESULT = 255 ∧ t.started ∧ t.on R.WDT_STATUS_INTERNAL ∧ t.get R.MODE_CAUSE = 1 ∧
      t.on R.JNL_STATUS_SCAN_DONE ∧ t.tw = Port.empty ∧ t.qb = Port.empty ∧ t.requests = [] ∧ t.staging = [] ∧
      t.addressed k) := by
  have hexec : exec (.powerOnReset run k sys bats) s =
      .next (((s.porBoot k).lbist 0).porStart run.worn sys bats) := by
    rw [State.exec_powerOnReset, hrun]
    exact congrArg Host.Outcome.next (if_neg (by simp [State.held_lbist_zero, State.held_porBoot]))
  obtain ⟨htw, hqb, hreq, hstage⟩ := State.emptied_porBoot (s := s) (k := k)
  have hcomp : ∀ c ∈ [Comp.tw, .qb, .requests, .staging],
      c.same (s.porBoot k) (((s.porBoot k).lbist 0).porStart run.worn sys bats) := fun c hc =>
    State.same_porParts (q := .comp c) (by revert c; decide)
  refine ⟨_, hexec, ?_, ?_, State.started_porStart, State.internal_porStart, State.cause_porStart, State.scanDone_porStart,
    Eq.trans (hcomp .tw (by decide)) htw, Eq.trans (hcomp .qb (by decide)) hqb, Eq.trans (hcomp .requests (by decide)) hreq,
    Eq.trans (hcomp .staging (by decide)) hstage, ?_⟩
  · exact (State.on_same (State.same_porParts (by decide))).trans State.down_porBoot
  · exact (Part.same_get (State.same_porStart (by decide +kernel))).trans State.result_lbist_zero
  · refine State.addressed_same (fun r hr => State.same_porParts ?_) State.addressed_porBoot
    exact List.mem_append_right _ (List.mem_map.2 ⟨r, hr, rfl⟩)

/-- A POR whose start run fails P3 or P4 leaves the device held in reset (R447). -/
theorem powerOnReset_held (hbit : run.fail.val.testBit 3 ∨ run.fail.val.testBit 4) :
    Gives (exec (.powerOnReset run k sys bats) s) (fun t => t.on R.X_HELD ∧ t.on R.HIF_STATUS_HRSTN_LOW ∧
      t.on R.HIF_STATUS_ALERTN_LOW ∧ t.get R.BIST_POR_RESULT = 255 - run.fail.val) := by
  obtain ⟨hheld, hresult⟩ := State.lbist_held (s := s.porBoot k) run.fail.isLt hbit
  obtain ⟨hstays, hhrstn, halert⟩ := State.heldFollow_low hheld
  refine ⟨_, (State.exec_powerOnReset run).trans (congrArg Host.Outcome.next (if_pos hheld)), hstays, hhrstn, halert, ?_⟩
  exact (Part.same_get (Part.same_heldFollow Part.same_refl (by decide +kernel))).trans hresult

end

/-! ### SHIP_EXIT -/

namespace State

variable {s : State} {k sys bats nacks : Nat}

/-- What the start run of a Ship exit finds: the logic reset, the OTP words and the straps read. -/
def exitBoot (s : State) (k : Nat) : State :=
  let s1 := (s.logicReset).coldParts
  let s2 := (((s1.flag R.X_CUTOFF_REST false).flag R.DEV_CLK_EPOCH_SET false).flag R.MODE_STATUS_RIDE_ACTIVE false).otpFollow
  ((s2.strapFollow k).flag R.JNL_STATUS_SCAN_DONE false).flag R.SUP_STATUS_RIDE false

/-- The start of a Ship exit after a start run that holds nothing in reset. -/
def exitStart (s : State) (nacks old cause : Nat) (worn : List Nat) (sys bats : Nat) : State :=
  let s4 := (((s.flag R.PP_STATUS_VSU_ON true).set R.MODE_STATUS_MODE 1).startLogic sys bats).exitNacks nacks
  ((s4.startMode old).set R.MODE_STATUS_PREV old).startEnd s4.now cause false worn old

theorem execShipExit_eq (byInput : Bool) (exit : ExitRun) (k sys bats : Nat) (s : State) :
    execShipExit byInput exit k sys bats s =
      .next (if s.on R.X_DOWN || s.on R.X_HELD ||
          !(s.on R.X_CUTOFF_REST && byInput || !s.on R.X_CUTOFF_REST && s.get R.MODE_STATUS_MODE == 0) then s
        else if ((s.exitBoot k).lbist exit.run.fail).on R.X_HELD then ((s.exitBoot k).lbist exit.run.fail).heldFollow
        else ((s.exitBoot k).lbist exit.run.fail).exitStart exit.nacks (if s.on R.X_CUTOFF_REST then s.get R.X_CUT_MODE else 0)
          (if s.on R.X_CUTOFF_REST then 0x0D else if byInput then 2 else 3) exit.run.worn sys bats) := rfl

/-- SHIP_EXIT out of Ship (R62). -/
theorem exec_shipExit {byInput : Bool} (exit : ExitRun) (hmode : s.get R.MODE_STATUS_MODE = 0)
    (hcut : s.on R.X_CUTOFF_REST = false) (hdown : s.on R.X_DOWN = false) (hheld : s.on R.X_HELD = false) :
    exec (.shipExit byInput exit k sys bats) s =
      .next (if ((s.exitBoot k).lbist exit.run.fail).on R.X_HELD then ((s.exitBoot k).lbist exit.run.fail).heldFollow
        else ((s.exitBoot k).lbist exit.run.fail).exitStart exit.nacks 0 (if byInput then 2 else 3) exit.run.worn sys bats) := by
  refine (execShipExit_eq byInput exit k sys bats s).trans ?_
  rw [if_neg (by simp [hmode, hcut, hdown, hheld])]
  simp only [hcut, Bool.false_eq_true, if_false]

/-- What a Ship exit changes up to its start run, the reset aside. -/
def exitBootFoot : List Touch := touches [R.X_CUTOFF_REST, R.DEV_CLK_EPOCH_SET, R.MODE_STATUS_RIDE_ACTIVE,
  R.JNL_STATUS_SCAN_DONE, R.SUP_STATUS_RIDE] [] [Foot.otpFollow, Foot.strapFollow]

theorem same_exitBoot {q : Part} (h : Machine.keeps exitBootFoot q = true) :
    q.same s.logicReset.coldParts (s.exitBoot k) := by
  simp [exitBootFoot, and_assoc] at h
  obtain ⟨hcut, hepoch, hride, hscan, hsup, hotp, hstrap⟩ := h
  exact Part.same_flag (Part.same_flag (Part.same_strapFollow (Part.same_otpFollow (Part.same_flag (Part.same_flag
    (Part.same_flag Part.same_refl hcut) hepoch) hride) hotp) hstrap) hscan) hsup

/-- What the reset of the logic sets besides the fields that it drops (R26). -/
def logicResetRegs : List Reg := [R.MODE_STATUS_COUPLED, R.MODE_STATUS_GRACE, R.MODE_STATUS_RAIL_DEMAND,
  R.MODE_STATUS_SHIP_PENDING, R.MODE_STATUS_HARVEST, R.HIF_STATUS_AWAKE, R.HIF_STATUS_NOTIFY_BUSY, R.X_RIDE_AT, R.X_HOLD_AT]

/-- A field that a restart does not keep reads its reset value after it, where the reset does not set it (R26). -/
theorem get_logicReset_dropped {r : Reg} (hdrop : keptAtRestart (r.key 0) = false)
    (hoff : ∀ q ∈ logicResetRegs, (Touch.reg q).off (.key (r.key 0)) = true) :
    s.logicReset.get r = r.resetAt 0 % 2 ^ r.width := by
  have hkeep : (Part.key (r.key 0)).same (s.abortErase.keepFields keptAtRestart) s.logicReset := by
    unfold State.logicReset
    refine Part.same_set (Part.same_set (Part.same_flag (Part.same_flag (Part.same_flag (Part.same_flag (Part.same_flag
      (Part.same_flag (Part.same_flag ?_ (hoff _ ?_)) (hoff _ ?_)) (hoff _ ?_)) (hoff _ ?_)) (hoff _ ?_)) (hoff _ ?_))
      (hoff _ ?_)) (hoff _ ?_)) (hoff _ ?_)
    · exact rfl
    all_goals simp [logicResetRegs]
  rw [Part.same_get hkeep, get_keepFields_dropped hdrop]

/-- The restart's own flags, the reset's hold and the count of NACKs begin afresh with the logic. -/
theorem get_logicReset_afresh {r : Reg} (hr : r ∈ [R.X_HELD, R.X_RESTART, R.X_RESTARTING, R.HIF_NACK_CNT]) :
    s.logicReset.get r = 0 := by
  have table : ∀ r ∈ [R.X_HELD, R.X_RESTART, R.X_RESTARTING, R.HIF_NACK_CNT], keptAtRestart (r.key 0) = false ∧
      (∀ q ∈ logicResetRegs, (Touch.reg q).off (.key (r.key 0)) = true) ∧ r.resetAt 0 % 2 ^ r.width = 0 := by decide +kernel
  obtain ⟨hdrop, hoff, hzero⟩ := table r hr
  rw [get_logicReset_dropped hdrop hoff, hzero]

theorem get_exitBoot_afresh {r : Reg} (hr : r ∈ [R.X_HELD, R.HIF_NACK_CNT]) : (s.exitBoot k).get r = 0 := by
  have table : ∀ r ∈ [R.X_HELD, R.HIF_NACK_CNT], Machine.keeps exitBootFoot (.key (r.key 0)) = true ∧
      Machine.keeps Foot.coldParts (.key (r.key 0)) = true ∧ r ∈ [R.X_HELD, R.X_RESTART, R.X_RESTARTING, R.HIF_NACK_CNT] := by
    decide +kernel
  obtain ⟨hboot, hcold, hafresh⟩ := table r hr
  rw [Part.same_get (same_exitBoot hboot), Part.same_get (Part.same_coldParts Part.same_refl hcold),
    get_logicReset_afresh hafresh]

theorem requests_exitBoot : (s.exitBoot k).requests = [] :=
  Eq.trans (same_exitBoot (q := .comp .requests) (by decide +kernel)) rfl

theorem addressed_exitBoot : (s.exitBoot k).addressed k := by
  have hoff : ∀ r ∈ addressRegs, (Touch.reg R.JNL_STATUS_SCAN_DONE).off (.key (r.key 0)) = true ∧
      (Touch.reg R.SUP_STATUS_RIDE).off (.key (r.key 0)) = true := by decide +kernel
  exact addressed_same (fun r hr => Part.same_flag (Part.same_flag Part.same_refl (hoff r hr).1) (hoff r hr).2)
    strapFollow_address

theorem epoch_exitBoot : (s.exitBoot k).on R.DEV_CLK_EPOCH_SET = false := by
  obtain ⟨u, hu⟩ : ∃ u : State, s.exitBoot k = (((((u.flag R.DEV_CLK_EPOCH_SET false).flag R.MODE_STATUS_RIDE_ACTIVE
      false).otpFollow.strapFollow k).flag R.JNL_STATUS_SCAN_DONE false).flag R.SUP_STATUS_RIDE false) := ⟨_, rfl⟩
  have hkeep : (Part.key (R.DEV_CLK_EPOCH_SET.key 0)).same (u.flag R.DEV_CLK_EPOCH_SET false) (s.exitBoot k) := by
    rw [hu]
    exact Part.same_flag (Part.same_flag (Part.same_strapFollow (Part.same_otpFollow (Part.same_flag Part.same_refl
      (by decide +kernel)) (by decide +kernel)) (by decide +kernel)) (by decide +kernel)) (by decide +kernel)
  exact (on_same hkeep).trans (on_flag_self _ _ _ _ (by decide))

theorem nacks_exitNacks (h : s.get R.HIF_NACK_CNT = 0) (n : Nat) : (s.exitNacks n).get R.HIF_NACK_CNT = min n 65535 := by
  unfold State.exitNacks
  split_ifs with hn
  · simp [h, hn]
  · rw [Part.same_get (Part.same_flag Part.same_refl (by decide +kernel)), h, Nat.zero_add]
    exact get_set_fit 0 (show min n 65535 < 2 ^ 16 by omega)

/-- What the start of a Ship exit changes. -/
def exitStartFoot : List Touch := touches [R.PP_STATUS_VSU_ON, R.MODE_STATUS_MODE, R.MODE_STATUS_PREV] []
  [Foot.startLogic, Foot.exitNacks, Foot.startMode, startEndFoot]

section
variable {old cause : Nat} {worn : List Nat}

theorem same_exitStart {q : Part} (h : Machine.keeps exitStartFoot q = true) :
    q.same s (s.exitStart nacks old cause worn sys bats) := by
  simp [exitStartFoot, and_assoc] at h
  obtain ⟨hvsu, hmode, hprev, hlogic, hnacks, hstart, hend⟩ := h
  exact Part.same_trans (Part.same_set (Part.same_startMode (Part.same_exitNacks (Part.same_startLogic (Part.same_set
    (Part.same_flag Part.same_refl hvsu) hmode) hlogic) hnacks) hstart) hprev) (same_startEnd hend)

theorem started_exitNacks {n : Nat} (h : s.started) : (s.exitNacks n).started := by
  have hoff : ∀ q ∈ startParts, Machine.keeps Foot.exitNacks q = true := by decide +kernel
  exact started_same (fun q hq => Part.same_exitNacks Part.same_refl (hoff q hq)) h

theorem started_exitStart : (s.exitStart nacks old cause worn sys bats).started := by
  have hoff : ∀ q ∈ startParts, (Touch.reg R.MODE_STATUS_PREV).off q = true := by decide +kernel
  refine started_startEnd (started_same (fun q hq => Part.same_set Part.same_refl (hoff q hq)) ?_)
  exact started_startMode (started_exitNacks started_startLogic)

theorem cause_exitStart (h : cause < 256) : (s.exitStart nacks old cause worn sys bats).get R.MODE_CAUSE = cause :=
  cause_startEnd h

theorem scanDone_exitStart : (s.exitStart nacks old cause worn sys bats).on R.JNL_STATUS_SCAN_DONE := scanDone_startEnd

theorem nacks_exitStart (h : s.get R.HIF_NACK_CNT = 0) :
    (s.exitStart nacks old cause worn sys bats).get R.HIF_NACK_CNT = min nacks 65535 := by
  have hbefore : (Part.key (R.HIF_NACK_CNT.key 0)).same s
      (((s.flag R.PP_STATUS_VSU_ON true).set R.MODE_STATUS_MODE 1).startLogic sys bats) :=
    Part.same_startLogic (Part.same_set (Part.same_flag Part.same_refl (by decide +kernel)) (by decide +kernel))
      (by decide +kernel)
  have hafter : (Part.key (R.HIF_NACK_CNT.key 0)).same
      ((((s.flag R.PP_STATUS_VSU_ON true).set R.MODE_STATUS_MODE 1).startLogic sys bats).exitNacks nacks)
      (s.exitStart nacks old cause worn sys bats) :=
    Part.same_trans (Part.same_set (Part.same_startMode Part.same_refl (by decide +kernel)) (by decide +kernel))
      (same_startEnd (by decide +kernel))
  rw [Part.same_get hafter, nacks_exitNacks ((Part.same_get hbefore).trans h)]

/-- What the start run and the start leave of what a Ship exit boots with. -/
def exitParts : List Part := [.key (R.DEV_CLK_EPOCH_SET.key 0), .comp .requests] ++ addressRegs.map (fun r => .key (r.key 0))

theorem same_exitParts {q : Part} (hq : q ∈ exitParts) :
    q.same s ((s.lbist 0).exitStart nacks old cause worn sys bats) := by
  have hoff : ∀ q ∈ exitParts, Machine.keeps (Foot.lbist ++ exitStartFoot) q = true := by decide +kernel
  have h := hoff q hq
  rw [keeps_append, Bool.and_eq_true] at h
  exact Part.same_trans (Part.same_lbist Part.same_refl h.1) (same_exitStart h.2)

end

end State

section
variable {s : State} {byInput : Bool} {exit : ExitRun} {k sys bats : Nat}

/-- A Ship exit whose start run passes starts the device and counts the NACKs (R62, R63). -/
theorem shipExit_passes (hmode : s.get R.MODE_STATUS_MODE = 0) (hcut : s.on R.X_CUTOFF_REST = false)
    (hdown : s.on R.X_DOWN = false) (hheld : s.on R.X_HELD = false) (hrun : exit.run.fail = 0) :
    Gives (exec (.shipExit byInput exit k sys bats) s) (fun t =>
      t.get R.HIF_NACK_CNT = min exit.nacks 65535 ∧ t.get R.MODE_CAUSE = (if byInput then 2 else 3) ∧ t.started ∧
        t.on R.JNL_STATUS_SCAN_DONE ∧ t.on R.DEV_CLK_EPOCH_SET = false ∧ t.requests = [] ∧ t.addressed k) := by
  have hfree : ((s.exitBoot k).lbist 0).on R.X_HELD = false := by
    rw [State.held_lbist_zero, State.on, State.get_exitBoot_afresh (by decide)]
    rfl
  have hexec : exec (.shipExit byInput exit k sys bats) s = .next (((s.exitBoot k).lbist 0).exitStart exit.nacks 0
      (if byInput then 2 else 3) exit.run.worn sys bats) := by
    rw [State.exec_shipExit exit hmode hcut hdown hheld, hrun]
    exact congrArg Host.Outcome.next (if_neg (by simp [hfree]))
  have hcount : ((s.exitBoot k).lbist 0).get R.HIF_NACK_CNT = 0 :=
    (Part.same_get (Part.same_lbist Part.same_refl (by decide +kernel))).trans (State.get_exitBoot_afresh (by decide))
  refine ⟨_, hexec, State.nacks_exitStart hcount, State.cause_exitStart (by split <;> decide), State.started_exitStart,
    State.scanDone_exitStart, ?_, ?_, ?_⟩
  · exact (State.on_same (State.same_exitParts (by decide))).trans State.epoch_exitBoot
  · exact Eq.trans (State.same_exitParts (q := .comp .requests) (by decide)) State.requests_exitBoot
  · refine State.addressed_same (fun r hr => State.same_exitParts ?_) State.addressed_exitBoot
    exact List.mem_append_right _ (List.mem_map.2 ⟨r, hr, rfl⟩)

end
end Sys2Proof.Machine
end

section
/-! PROOFS. The device restart and the Ship entry's delay (R25, R60). -/

-- One theorem at a time: each decision by the kernel waits for all declarations before it and holds a thread meanwhile.
set_option Elab.async false

namespace Sys2Proof.Machine
namespace State

variable {s : State} {fail sys bats : Nat}

/-! ### The first half of a restart -/

theorem restarting_restartBegin : s.restartBegin.on R.X_RESTARTING := by
  unfold State.restartBegin
  split_ifs with h
  · exact h
  · rw [on_same (Part.same_requestFast (Part.same_hrstnFollow (Part.same_guardInternal (Part.same_each (Part.same_flag
      (Part.same_flag (Part.same_flag Part.same_refl (by decide +kernel)) (by decide +kernel)) (by decide +kernel))
      fun _ _ hv => Part.same_railPs3 hv (by decide +kernel)) (by decide +kernel)) (by decide +kernel)) (by decide +kernel))]
    exact on_flag_self _ _ _ _ (by decide)

/-- A restart that begins asks for the flush and ends the demand of the rails (R25). -/
theorem flush_restartBegin (h : s.on R.X_RESTARTING = false) :
    s.restartBegin.on R.X_FLUSH ∧ s.restartBegin.on R.MODE_STATUS_RAIL_DEMAND = false := by
  have hkeep : ∀ r ∈ [R.X_FLUSH, R.MODE_STATUS_RAIL_DEMAND], (Part.key (r.key 0)).same
      (((s.flag R.X_RESTARTING true).flag R.X_FLUSH true).flag R.MODE_STATUS_RAIL_DEMAND false) s.restartBegin := by
    have hoff : ∀ r ∈ [R.X_FLUSH, R.MODE_STATUS_RAIL_DEMAND], (Touch.reg R.X_HRST_UP).off (.key (r.key 0)) = true ∧
        Machine.keeps Foot.railPs3 (.key (r.key 0)) = true ∧ Machine.keeps Foot.guardInternal (.key (r.key 0)) = true ∧
        Machine.keeps Foot.hrstnFollow (.key (r.key 0)) = true ∧ Machine.keeps Foot.requestFast (.key (r.key 0)) = true := by
      decide +kernel
    intro r hr
    obtain ⟨hup, hrail, hguard, hhrstn, hfast⟩ := hoff r hr
    unfold State.restartBegin
    rw [if_neg (by simp [h])]
    exact Part.same_requestFast (Part.same_hrstnFollow (Part.same_guardInternal (Part.same_each
      (Part.same_flag Part.same_refl hup) fun _ _ hv => Part.same_railPs3 hv hrail) hguard) hhrstn) hfast
  rw [on_same (hkeep R.X_FLUSH (by decide)), on_same (hkeep R.MODE_STATUS_RAIL_DEMAND (by decide))]
  refine ⟨?_, on_flag_self _ _ _ _ (by decide)⟩
  rw [on_same (Part.same_flag Part.same_refl (by decide +kernel))]
  exact on_flag_self _ _ _ _ (by decide)

/-! ### The second half -/

/-- The logic reset of a restart, with the slices passed as before (R458). -/
def restartReset (s : State) : State := s.logicReset.each 8 (fun p t => t.set R.BIST_Pp_PROG_PASSED (t.slicesPassed p) p)

/-- The restart after the blocks were started: the ride, the hold of acceptance, the configuration's record, the watchdog's. -/
def restartRecords (s : State) (ride disabled : Bool) : State :=
  let s3 := (s.marginFollow).iff ride (fun t => t.chgHold R.CHG_HOLD_RIDE true)
  let hold := s3.on R.MODE_STATUS_THERM_ACTIVE || s3.bit R.BIST_STATUS_SAFE 2
  ((s3.flag R.Q_STATUS_HOLD hold).selectedRecord false).iff disabled (fun t => t.wdtEvent 0x06 0 0 0xFF)

/-- The selection of the mode at the end of a restart. -/
def restartMode (s : State) (old cause : Nat) : State :=
  let new := s.modeNow true
  let s5 := if new = old then s.startSafe else s.changeMode new (if new = 0xB then 0x17 else cause)
  (s5.set R.X_CAUSES 0).modeFollow

/-- What the retest of a restart finds (R455). -/
def restartRetest (s : State) (fail : Nat) : State :=
  ((s.restartReset.iff (s.get R.X_RESTART == 0x18) State.recovered).iff
    (s.get R.X_RESTART == 0x18 && s.get R.WDT_SAFE_CAUSE == 2) (fun t => t.lbist fail)).retest fail

theorem restartEnd_eq (s : State) (fail sys bats : Nat) : s.restartEnd fail sys bats =
    if (s.restartRetest fail).on R.X_HELD then (s.restartRetest fail).heldFollow
    else (((s.restartRetest fail).startLogic sys bats).restartRecords (s.on R.MODE_STATUS_RIDE_ACTIVE)
      (!s.on R.WDT_STATUS_ENABLED)).modeTerms.restartMode (s.get R.MODE_STATUS_MODE) (s.get R.X_RESTART) := rfl

theorem restartRetest_eq (hcause : s.get R.X_RESTART = 0x1A) (hsafe : s.restartReset.get R.BIST_STATUS_SAFE = 0) :
    s.restartRetest fail = s.restartReset := by
  unfold restartRetest
  rw [hcause]
  exact retest_eq hsafe

theorem same_restartReset {q : Part} (hreset : Machine.keeps Foot.logicReset q = true)
    (hpassed : (Touch.reg R.BIST_Pp_PROG_PASSED).off q = true) : q.same s s.restartReset :=
  Part.same_each (Part.same_logicReset Part.same_refl hreset) fun _ _ hv => Part.same_set hv hpassed

/-- What the reset of the logic leaves, the slices passed aside. -/
theorem same_restartReset_logicReset {q : Part} (hpassed : (Touch.reg R.BIST_Pp_PROG_PASSED).off q = true) :
    q.same s.logicReset s.restartReset := Part.same_each Part.same_refl fun _ _ hv => Part.same_set hv hpassed

theorem get_restartReset_afresh {r : Reg} (hr : r ∈ [R.X_HELD, R.X_RESTART, R.X_RESTARTING]) :
    s.restartReset.get r = 0 := by
  have table : ∀ r ∈ [R.X_HELD, R.X_RESTART, R.X_RESTARTING], (Touch.reg R.BIST_Pp_PROG_PASSED).off (.key (r.key 0)) = true ∧
      r ∈ [R.X_HELD, R.X_RESTART, R.X_RESTARTING, R.HIF_NACK_CNT] := by decide +kernel
  obtain ⟨hoff, hafresh⟩ := table r hr
  rw [Part.same_get (same_restartReset_logicReset hoff), get_logicReset_afresh hafresh]

theorem emptied_restartReset : s.restartReset.tw = Port.empty ∧ s.restartReset.qb = Port.empty ∧
    s.restartReset.requests = [] ∧ s.restartReset.staging = [] := by
  have hcomp : ∀ c : Comp, c.same s.logicReset s.restartReset := fun c => same_restartReset_logicReset (q := .comp c) rfl
  exact ⟨hcomp .tw, hcomp .qb, hcomp .requests, hcomp .staging⟩

/-- What a start of the logic leaves where no safe state stands: the safe states of R454 change nothing then. -/
theorem same_startLogic_safe {q : Part} (hsafe : s.get R.BIST_STATUS_SAFE = 0)
    (h : Machine.keeps (touches [R.DEV_CLK_FAST_ON, R.X_FAST_AT, R.X_SYSS, R.X_BATS] []
      [Foot.bootConfig, Foot.bootFollow, watchdogStartFoot]) q = true) : q.same s (s.startLogic sys bats) := by
  simp [and_assoc] at h
  obtain ⟨hfast, hat, hsys, hbats, hconfig, hfollow, hdog⟩ := h
  have hclear : ((s.clockStart sys bats).bootConfig.bootFollow).watchdogStart.get R.BIST_STATUS_SAFE = 0 := by
    have hkeep : (Part.key (R.BIST_STATUS_SAFE.key 0)).same s
        ((s.clockStart sys bats).bootConfig.bootFollow).watchdogStart :=
      Part.same_trans (Part.same_bootFollow (Part.same_bootConfig (Part.same_set (Part.same_set (Part.same_set (Part.same_flag
        Part.same_refl (by decide +kernel)) (by decide +kernel)) (by decide +kernel)) (by decide +kernel))
        (by decide +kernel)) (by decide +kernel)) (same_watchdogStart (by decide +kernel))
    rw [Part.same_get hkeep, hsafe]
  rw [startLogic_eq, safeFunctions_eq hclear]
  exact Part.same_trans (Part.same_bootFollow (Part.same_bootConfig (Part.same_set (Part.same_set (Part.same_set
    (Part.same_flag Part.same_refl hfast) hat) hsys) hbats) hconfig) hfollow) (same_watchdogStart hdog)

/-- What `restartRecords` changes. -/
def restartRecordsFoot : List Touch := touches [R.Q_STATUS_HOLD] []
  [Foot.marginFollow, Foot.chgHold R.CHG_HOLD_RIDE, Foot.selectedRecord, Foot.wdtEvent]

/-- What `restartMode` changes. -/
def restartModeFoot : List Touch := touches [R.X_CAUSES] [] [Foot.startSafe, Foot.changeMode, Foot.modeFollow]

section
variable {q : Part} {ride disabled : Bool} {old cause : Nat}

theorem same_restartRecords (h : Machine.keeps restartRecordsFoot q = true) :
    q.same s (s.restartRecords ride disabled) := by
  simp [restartRecordsFoot] at h
  obtain ⟨hhold, hmargin, hride, hselected, hdog⟩ := h
  exact Part.same_iff (Part.same_selectedRecord (Part.same_flag (Part.same_iff (Part.same_marginFollow Part.same_refl hmargin)
    fun _ hv => Part.same_chgHold hv hride) hhold) hselected) fun _ hv => Part.same_wdtEvent hv hdog

theorem same_restartMode (h : Machine.keeps restartModeFoot q = true) : q.same s (s.restartMode old cause) := by
  simp [restartModeFoot] at h
  obtain ⟨hcauses, hsafe, hchange, hfollow⟩ := h
  exact Part.same_modeFollow (Part.same_set (Part.same_ite (Part.same_startSafe Part.same_refl hsafe)
    (Part.same_changeMode Part.same_refl hchange)) hcauses) hfollow

/-- The restart after the start of the logic. -/
def restartRest (s : State) (ride disabled : Bool) (old cause : Nat) : State :=
  (s.restartRecords ride disabled).modeTerms.restartMode old cause

theorem same_restartRest (h : Machine.keeps (restartRecordsFoot ++ Foot.modeTerms ++ restartModeFoot) q = true) :
    q.same s (s.restartRest ride disabled old cause) := by
  simp only [keeps_append, Bool.and_eq_true] at h
  obtain ⟨⟨hrecords, hterms⟩, hmode⟩ := h
  exact Part.same_trans (Part.same_modeTerms (same_restartRecords hrecords) hterms) (same_restartMode hmode)

theorem started_restartRest (h : s.started) : (s.restartRest ride disabled old cause).started := by
  have hoff : ∀ q ∈ startParts, Machine.keeps (restartRecordsFoot ++ Foot.modeTerms ++ restartModeFoot) q = true := by
    decide +kernel
  exact started_same (fun q hq => same_restartRest (hoff q hq)) h

theorem internal_restartRest (h : s.on R.WDT_STATUS_INTERNAL) :
    (s.restartRest ride disabled old cause).on R.WDT_STATUS_INTERNAL :=
  (on_same (same_restartMode (by decide +kernel))).trans
    (internal_modeTerms ((on_same (same_restartRecords (by decide +kernel))).trans h))

end

/-- A restart whose cause is not RECOVER, before any safe state (R25, R397). -/
theorem restartEnd_plain (hcause : s.get R.X_RESTART = 0x1A) (hsafe : s.get R.BIST_STATUS_SAFE = 0) :
    s.restartEnd fail sys bats = (s.restartReset.startLogic sys bats).restartRest (s.on R.MODE_STATUS_RIDE_ACTIVE)
      (!s.on R.WDT_STATUS_ENABLED) (s.get R.MODE_STATUS_MODE) 0x1A := by
  have hreset : s.restartReset.get R.BIST_STATUS_SAFE = 0 :=
    (Part.same_get (same_restartReset (by decide +kernel) (by decide +kernel))).trans hsafe
  have hfree : s.restartReset.on R.X_HELD = false := by
    rw [State.on, get_restartReset_afresh (by decide)]
    rfl
  rw [restartEnd_eq, restartRetest_eq hcause hreset, hfree, hcause]
  rfl

end State

section
variable {s : State} {fail : Fin 256} {sys bats : Nat}

/-- A restart that is due runs its first half, and its second one as soon as everything is committed (R25, R333). -/
theorem exec_deviceRestartReset (hdue : s.get R.X_RESTART ≠ 0) (hawake : s.asleepDeep = false) (hheld : s.on R.X_HELD = false) :
    exec (.deviceRestartReset fail sys bats) s =
      .next (if s.restartBegin.restartReady then s.restartBegin.restartEnd fail sys bats else s.restartBegin) := by
  have hexec : exec (.deviceRestartReset fail sys bats) s = execDeviceRestartReset fail sys bats s := rfl
  rw [hexec, execDeviceRestartReset, if_neg (by simp [hdue, hawake, hheld])]

theorem deviceRestartReset_waits (hdue : s.get R.X_RESTART ≠ 0) (hawake : s.asleepDeep = false) (hheld : s.on R.X_HELD = false)
    (hwait : s.restartBegin.restartReady = false) : Gives (exec (.deviceRestartReset fail sys bats) s) (fun t =>
      t.on R.X_RESTARTING ∧ (s.on R.X_RESTARTING = false → t.on R.X_FLUSH ∧ t.on R.MODE_STATUS_RAIL_DEMAND = false)) := by
  rw [exec_deviceRestartReset hdue hawake hheld, hwait]
  exact ⟨_, rfl, State.restarting_restartBegin, State.flush_restartBegin⟩

/-- A restart that is ready resets the logic and starts it again (R25, R397, R407). -/
theorem deviceRestartReset_ready (hcause : s.get R.X_RESTART = 0x1A) (hawake : s.asleepDeep = false)
    (hheld : s.on R.X_HELD = false) (hready : s.restartBegin.restartReady) (hsafe : s.get R.BIST_STATUS_SAFE = 0) :
    Gives (exec (.deviceRestartReset fail sys bats) s) (fun t => t.get R.X_RESTART = 0 ∧ t.on R.X_RESTARTING = false ∧
      t.started ∧ t.on R.WDT_STATUS_INTERNAL ∧ t.tw = Port.empty ∧ t.qb = Port.empty ∧ t.requests = [] ∧ t.staging = []) := by
  have hbegin : ∀ r ∈ [R.X_RESTART, R.BIST_STATUS_SAFE], s.restartBegin.get r = s.get r := by
    have hoff : ∀ r ∈ [R.X_RESTART, R.BIST_STATUS_SAFE], keeps Foot.restartBegin (.key (r.key 0)) = true := by decide +kernel
    exact fun r hr => Part.same_get (Part.same_restartBegin Part.same_refl (hoff r hr))
  have hsafe1 : s.restartBegin.get R.BIST_STATUS_SAFE = 0 := (hbegin _ (by decide)).trans hsafe
  have hexec : exec (.deviceRestartReset fail sys bats) s = .next (s.restartBegin.restartEnd fail sys bats) := by
    rw [exec_deviceRestartReset (by simp [hcause]) hawake hheld, if_pos hready]
  rw [State.restartEnd_plain ((hbegin _ (by decide)).trans hcause) hsafe1] at hexec
  obtain ⟨htw, hqb, hreq, hstage⟩ := State.emptied_restartReset (s := s.restartBegin)
  have hreset : s.restartBegin.restartReset.get R.BIST_STATUS_SAFE = 0 :=
    (Part.same_get (State.same_restartReset (by decide +kernel) (by decide +kernel))).trans hsafe1
  have hcomp : ∀ c ∈ [Comp.tw, .qb, .requests, .staging], c.same s.restartBegin.restartReset
      ((s.restartBegin.restartReset.startLogic sys bats).restartRest (s.restartBegin.on R.MODE_STATUS_RIDE_ACTIVE)
        (!s.restartBegin.on R.WDT_STATUS_ENABLED) (s.restartBegin.get R.MODE_STATUS_MODE) 0x1A) := by
    have hoff : ∀ c ∈ [Comp.tw, .qb, .requests, .staging], keeps (Foot.startLogic ++ (State.restartRecordsFoot ++
        Foot.modeTerms ++ State.restartModeFoot)) (.comp c) = true := by decide +kernel
    intro c hc
    have h := hoff c hc
    rw [keeps_append, Bool.and_eq_true] at h
    exact Part.same_trans (p := .comp c) (Part.same_startLogic Part.same_refl h.1) (State.same_restartRest h.2)
  refine ⟨_, hexec, ?_, ?_, State.started_restartRest State.started_startLogic,
    State.internal_restartRest State.internal_startLogic, Eq.trans (hcomp .tw (by decide)) htw,
    Eq.trans (hcomp .qb (by decide)) hqb, Eq.trans (hcomp .requests (by decide)) hreq,
    Eq.trans (hcomp .staging (by decide)) hstage⟩
  · rw [Part.same_get (State.same_restartRest (by decide +kernel)),
      Part.same_get (State.same_startLogic_safe hreset (by decide +kernel)), State.get_restartReset_afresh (by decide)]
  · rw [State.on_same (State.same_restartRest (by decide +kernel)),
      State.on_same (Part.same_startLogic Part.same_refl (by decide +kernel)), State.on, State.get_restartReset_afresh (by decide)]
    rfl

/-- The end of the Ship delay switches the rails off (R60 step 2). -/
theorem shipDelayExpire_pending (hpending : s.on R.MODE_STATUS_SHIP_PENDING) (hoff : s.on R.X_SHIP_OFF = false) :
    Gives (exec (.shipDelayExpire) s) (fun t => t.on R.X_SHIP_OFF ∧ t.on R.MODE_STATUS_RAIL_DEMAND = false) := by
  have hexec : exec (.shipDelayExpire) s = .next ((s.flag R.X_SHIP_OFF true).cause 0x12).demandFollow := by
    have hdef : exec (.shipDelayExpire) s = execShipDelayExpire s := rfl
    rw [hdef, execShipDelayExpire, if_pos (by simp [hpending, hoff])]
  have hship : ((s.flag R.X_SHIP_OFF true).cause 0x12).on R.X_SHIP_OFF = true :=
    (State.on_same (Part.same_cause Part.same_refl (by decide +kernel))).trans (State.on_flag_self _ _ _ _ (by decide))
  refine ⟨_, hexec, (State.on_same (Part.same_demandFollow Part.same_refl (by decide +kernel))).trans hship, ?_⟩
  rw [State.demand_demandFollow]
  simp [State.demandNow, hship]

theorem retainedSramLost_gives : Gives (exec (.retainedSramLost) s) (fun t =>
    t.retained = none ∧ t.retainedOld = none ∧ t.fields = s.fields ∧ t.ring = s.ring) := ⟨_, rfl, rfl, rfl, rfl, rfl⟩

end

end Sys2Proof.Machine
end

section
/-! PROOFS. A loss of supply leaves the retained record as it was (R329): the record that the torn sector's page turn may offer finds
acceptance stopped, because no erased block is ahead. -/

-- One theorem at a time: each decision by the kernel waits for all declarations before it and holds a thread meanwhile.
set_option Elab.async false

namespace Sys2Proof.Machine
namespace State

variable {s : State}

/-- The retained record and its other copy. -/
def retainedParts : List Part := [.comp .retained, .comp .retainedOld]

/-- The retained record, its other copy and the starvation that stops acceptance (R308, R309). -/
def starvedParts : List Part := .key (R.Q_STATUS_STARVED.key 0) :: retainedParts

/-- What leaves every one of `starvedParts` alone. -/
theorem starvedParts_keeps {p : Part} (hp : p ∈ starvedParts) : Machine.keeps Foot.abortSlice p = true ∧
    Machine.keeps Foot.refuse p = true ∧ Machine.keeps Foot.followAlert p = true ∧ Machine.keeps Foot.stand p = true ∧
    (Touch.reg R.Q_FAULT_B_STARVED).off p = true ∧ (Touch.comp .held).off p = true := by
  revert p
  decide +kernel

theorem starved_of_same {t : State} (h : s.on R.Q_STATUS_STARVED) (hkeep : ∀ p ∈ starvedParts, p.same s t) :
    t.on R.Q_STATUS_STARVED := (on_same (hkeep _ (by decide))).trans h

theorem judge_starved (h : s.on R.Q_STATUS_STARVED) (q : Nat) : ∃ cause, s.judge q = some cause := by
  unfold State.judge
  dsimp only
  rw [if_pos h]
  split
  · exact ⟨_, rfl⟩
  · exact ⟨_, rfl⟩

/-- While the journal is starved, no record is accepted. -/
theorem admitTo_starved (h : s.on R.Q_STATUS_STARVED) (q : Nat) (r : Rec) :
    (s.admitTo q r).2 = false ∧ ∀ p ∈ starvedParts, p.same s (s.admitTo q r).1 := by
  have hslice : ∀ p ∈ starvedParts, p.same s (s.abortSlice 0x06) := fun p hp =>
    Part.same_abortSlice Part.same_refl (starvedParts_keeps hp).1
  obtain ⟨cause, hjudge⟩ := judge_starved (starved_of_same h hslice) q
  have hadmit : s.admitTo q r = ((s.abortSlice 0x06).refuse q cause r.type, false) := by
    unfold State.admitTo
    dsimp only
    rw [hjudge]
  rw [hadmit]
  exact ⟨rfl, fun p hp => Part.same_refuse (hslice p hp) (starvedParts_keeps hp).2.1⟩

theorem offerN_starved (n : Nat) (h : s.on R.Q_STATUS_STARVED) (r : Rec) :
    ∀ p ∈ starvedParts, p.same s (s.offerN n r).1 := by
  cases n with
  | zero => exact (admitTo_starved h _ r).2
  | succ n =>
    unfold State.offerN
    dsimp only
    split
    · exact (admitTo_starved h _ r).2
    · obtain ⟨hrefused, hkeep⟩ := admitTo_starved h (s.route r) (s.summaryRec (s.route r))
      rw [if_neg (by simp [hrefused])]
      exact fun p hp => Part.same_trans (hkeep p hp) ((admitTo_starved (starved_of_same h hkeep) _ r).2 p hp)

theorem offer_starved (h : s.on R.Q_STATUS_STARVED) (r : Rec) : ∀ p ∈ starvedParts, p.same s (s.offer r) := by
  intro p hp
  obtain ⟨-, -, -, -, -, hheld⟩ := starvedParts_keeps hp
  unfold State.offer State.offerB
  split_ifs
  · exact Part.same_refl
  · exact Part.same_with_held Part.same_refl hheld
  · exact offerN_starved 17 h r p hp

theorem latchStand_starved (h : s.on R.Q_STATUS_STARVED) :
    ∀ p ∈ starvedParts, p.same s (s.latchStand R.Q_FAULT_B_STARVED) := by
  intro p hp
  have hbit : ∀ p ∈ starvedParts, p.same s ((s.stand R.Q_FAULT_B_STARVED 0).setBit R.Q_FAULT_B_STARVED 0 true) := fun p hp => by
    obtain ⟨-, -, -, hstand, hfault, -⟩ := starvedParts_keeps hp
    exact Part.same_setBit (Part.same_stand Part.same_refl hstand) hfault
  obtain ⟨-, -, halert, hstand, -, hheld⟩ := starvedParts_keeps hp
  unfold State.latchStand State.latch State.latchFrom
  refine Part.same_ite (Part.same_stand Part.same_refl hstand) (Part.same_followAlert (Part.same_ite ?_ ?_) halert)
  · exact Part.same_trans (hbit p hp) (offer_starved (starved_of_same h hbit) _ p hp)
  · exact Part.same_with_held (hbit p hp) hheld

/-- What leaves the retained record and its other copy alone on the way of a head that advances. -/
theorem retainedParts_keeps {p : Part} (hp : p ∈ retainedParts) : p ∈ starvedParts ∧
    (∀ r : Reg, (Touch.reg r).off p = true) ∧ (Touch.comp .ahead).off p = true ∧ Machine.keeps Foot.ended p = true ∧
    Machine.keeps Foot.stopCommit p = true ∧ Machine.keeps Foot.addSector p = true ∧ Machine.keeps Foot.hrstnFollow p = true ∧
    Machine.keeps Foot.coldParts p = true := by
  have hreg : ∀ p ∈ retainedParts, ∀ r : Reg, (Touch.reg r).off p = true := by
    intro p hp r
    simp only [retainedParts, List.mem_cons, List.not_mem_nil, or_false] at hp
    rcases hp with rfl | rfl <;> rfl
  have table : ∀ p ∈ retainedParts, p ∈ starvedParts ∧ (Touch.comp .ahead).off p = true ∧
      Machine.keeps Foot.ended p = true ∧ Machine.keeps Foot.stopCommit p = true ∧ Machine.keeps Foot.addSector p = true ∧
      Machine.keeps Foot.hrstnFollow p = true ∧ Machine.keeps Foot.coldParts p = true := by decide +kernel
  obtain ⟨hmem, htable⟩ := table p hp
  exact ⟨hmem, hreg p hp, htable⟩

/-- The count of erased blocks ahead leaves the retained record alone: the latch of STARVED stops acceptance before it offers its
record. -/
theorem marginFollow_retained {p : Part} (hp : p ∈ retainedParts) : p.same s s.marginFollow := by
  obtain ⟨hmem, hreg, -, hended, -⟩ := retainedParts_keeps hp
  have hflags : p.same s (((s.set R.JNL_ERASED_AHEAD (min s.ahead.length 7)).flag R.Q_STATUS_URGENT
      (s.ahead.length < 4)).flag R.Q_STATUS_STARVED (s.ahead.length ≤ 1)) :=
    Part.same_flag (Part.same_flag (Part.same_set Part.same_refl (hreg _)) (hreg _)) (hreg _)
  unfold State.marginFollow
  dsimp only
  split_ifs with hnew hold
  · refine Part.same_trans hflags (latchStand_starved ?_ p hmem)
    rw [on_flag_self _ _ _ _ (by decide)]
    simp_all
  · exact hflags
  · exact Part.same_ended hflags hended

theorem takeBlock_retained {p : Part} (hp : p ∈ retainedParts) : p.same s s.takeBlock := by
  obtain ⟨-, hreg, hahead, -⟩ := retainedParts_keeps hp
  have hhead : p.same s ((s.set R.JNL_HEAD_PAGE_PAGE 0).set R.JNL_HEAD_PAGE_SECTOR 0) :=
    Part.same_set (Part.same_set Part.same_refl (hreg _)) (hreg _)
  unfold State.takeBlock
  dsimp only
  split
  · exact Part.same_trans (Part.same_flag (Part.same_set (Part.same_set (Part.same_with_ahead hhead hahead) (hreg _)) (hreg _))
      (hreg _)) (marginFollow_retained hp)
  · exact Part.same_flag hhead (hreg _)

theorem advanceHead_retained {p : Part} (hp : p ∈ retainedParts) : p.same s s.advanceHead := by
  obtain ⟨-, hreg, -⟩ := retainedParts_keeps hp
  unfold State.advanceHead State.nextPage
  exact Part.same_ite (Part.same_ite (takeBlock_retained hp) (Part.same_set (Part.same_set Part.same_refl (hreg _)) (hreg _)))
    (Part.same_set Part.same_refl (hreg _))

/-- A loss of supply leaves the retained record and its other copy as they were. -/
theorem supplyLost_retained {p : Part} {torn : Bool} (hp : p ∈ retainedParts) : p.same s (s.supplyLost torn) := by
  obtain ⟨-, hreg, -, -, hstop, hsector, hhrstn, hcold⟩ := retainedParts_keeps hp
  have hnokey : ∀ k, p ≠ .key k := by revert p; simp [retainedParts]
  unfold State.supplyLost
  refine Part.same_hrstnFollow (Part.same_flag (Part.same_keepFields (Part.same_coldParts ?_ hcold)
    fun k hk => absurd hk (hnokey k)) (hreg _)) hhrstn
  split
  · exact Part.same_ite (Part.same_stopCommit Part.same_refl hstop)
      (Part.same_trans (Part.same_addSector (Part.same_stopCommit Part.same_refl hstop) hsector) (advanceHead_retained hp))
  · exact Part.same_stopCommit Part.same_refl hstop

theorem down_supplyLost {torn : Bool} :
    (s.supplyLost torn).on R.X_DOWN ∧ (s.supplyLost torn).on R.HIF_STATUS_HRSTN_LOW := by
  obtain ⟨u, hu⟩ : ∃ u : State, s.supplyLost torn = (u.flag R.X_DOWN true).hrstnFollow := ⟨_, rfl⟩
  have hdown : (u.flag R.X_DOWN true).on R.X_DOWN := on_flag_self _ _ _ _ (by decide)
  rw [hu]
  exact ⟨(on_same (Part.same_hrstnFollow Part.same_refl (by decide +kernel))).trans hdown, hrstnLow_hrstnFollow (.inr hdown)⟩

end State

section
variable {s : State} {loss : SupplyLoss}

/-- The state below the reset level (R38): nothing runs, what the supply held is gone, the journal's blocks and tables stay. -/
def State.lost (s t : State) (loss : SupplyLoss) : Prop :=
  t.on R.X_DOWN ∧ t.slots = [] ∧ t.held = [] ∧ t.program = none ∧ t.requests = [] ∧ t.staging = [] ∧ t.copies = s.copies ∧
    t.grownBad = s.grownBad ∧ t.table6 = s.table6 ∧ t.table7 = s.table7 ∧ t.on R.X_PASSIVE = loss.passive ∧
    t.on R.HIF_STATUS_HRSTN_LOW

theorem supplyLost_lost : s.lost ((s.supplyLost loss.torn).flag R.X_PASSIVE loss.passive) loss := by
  have hcomp : ∀ c ∈ [Comp.copies, .grownBad, .table6, .table7], c.same s (s.supplyLost loss.torn) := by
    have hoff : ∀ c ∈ [Comp.copies, .grownBad, .table6, .table7], keeps Foot.supplyLost (.comp c) = true := by decide +kernel
    exact fun c hc => Part.same_supplyLost (p := .comp c) Part.same_refl (hoff c hc)
  obtain ⟨hdown, hlow⟩ := State.down_supplyLost (s := s) (torn := loss.torn)
  refine ⟨?_, rfl, rfl, rfl, rfl, rfl, hcomp .copies (by decide), hcomp .grownBad (by decide), hcomp .table6 (by decide),
    hcomp .table7 (by decide), State.on_flag_self _ _ _ _ (by decide), ?_⟩
  · exact (State.on_same (Part.same_flag Part.same_refl (by decide +kernel))).trans hdown
  · exact (State.on_same (Part.same_flag Part.same_refl (by decide +kernel))).trans hlow

/-- VAO_BELOW_RESET keeps the retained record, or the other copy where the loss cuts its rewriting (R329, R343). -/
theorem vaoBelowReset_gives : Gives (exec (.vaoBelowReset loss) s) (fun t => s.lost t loss ∧
    t.retained = (if loss.rewrite then s.retainedOld else s.retained)) := by
  have hexec : exec (.vaoBelowReset loss) s = .next (if loss.rewrite then
      { (s.supplyLost loss.torn).flag R.X_PASSIVE loss.passive with
        retained := (s.supplyLost loss.torn).retainedOld, retainedOld := none }
      else (s.supplyLost loss.torn).flag R.X_PASSIVE loss.passive) := rfl
  have hnew : (s.supplyLost loss.torn).retained = s.retained := State.supplyLost_retained (p := .comp .retained) (by decide)
  have hold : (s.supplyLost loss.torn).retainedOld = s.retainedOld :=
    State.supplyLost_retained (p := .comp .retainedOld) (by decide)
  have hlost := supplyLost_lost (s := s) (loss := loss)
  generalize s.supplyLost loss.torn = u at hexec hnew hold hlost
  refine ⟨_, hexec, ?_⟩
  split
  · exact ⟨hlost, hold⟩
  · exact ⟨hlost, hnew⟩

end
end Sys2Proof.Machine
end

section
/-! PROOFS. VPRE stays latched off (R232) through whatever is recorded and whatever the supplies' end stops: the one change that these
make to it is its on-delay, which only begins from off. -/

-- One theorem at a time: each decision by the kernel waits for all declarations before it and holds a thread meanwhile.
set_option Elab.async false

namespace Sys2Proof.Machine
namespace State

variable {s u : State}

/-- VPRE is latched off in `u` exactly where it is in `s`. -/
def vpreKept (s u : State) : Prop := u.get R.X_VPRE = 6 ↔ s.get R.X_VPRE = 6

theorem vpreKept_iff : s.vpreKept u ↔ (u.get R.X_VPRE = 6 ↔ s.get R.X_VPRE = 6) := Iff.rfl

/-- The state of VPRE. -/
def vprePart : Part := .key (R.X_VPRE.key 0)

namespace vpreKept

theorem refl : s.vpreKept s := Iff.rfl

theorem trans {t : State} (hu : s.vpreKept u) (ht : u.vpreKept t) : s.vpreKept t := Iff.trans ht hu

theorem same {t : State} (hu : s.vpreKept u) (h : vprePart.same u t) : s.vpreKept t := by
  unfold vpreKept
  rw [Part.same_get h]
  exact hu

theorem ite {c : Prop} [Decidable c] {a b : State} (ha : s.vpreKept a) (hb : s.vpreKept b) : s.vpreKept (if c then a else b) := by
  split
  · exact ha
  · exact hb

theorem foldl {α : Type} {f : State → α → State} (l : List α) (hu : s.vpreKept u)
    (hf : ∀ v x, s.vpreKept v → s.vpreKept (f v x)) : s.vpreKept (l.foldl f u) := by
  induction l generalizing u with
  | nil => exact hu
  | cons x l ih => exact ih (hf u x hu)

theorem each {n : Nat} {f : Nat → State → State} (hu : s.vpreKept u) (hf : ∀ i v, s.vpreKept v → s.vpreKept (f i v)) :
    s.vpreKept (u.each n f) := foldl _ hu fun v i => hf i v

theorem iff {c : Bool} {f : State → State} (hu : s.vpreKept u) (hf : ∀ v, s.vpreKept v → s.vpreKept (f v)) :
    s.vpreKept (u.iff c f) := ite (hf u hu) hu

/-- VPRE starts its on-delay from off alone (R228). -/
theorem startVpre (hu : s.vpreKept u) : s.vpreKept u.startVpre := by
  unfold State.startVpre
  split
  case isTrue h =>
    simp only [Bool.and_eq_true, beq_iff_eq] at h
    have hoff : u.get R.X_VPRE = 0 := h.1.1.1.1.1.2
    have hdelay : ((u.abortSlice 0x10).set R.X_VPRE 1).get R.X_VPRE = 1 := get_set_fit 0 (by decide)
    have hkept : u.vpreKept ((u.abortSlice 0x10).set R.X_VPRE 1) := by simp [vpreKept, hoff, hdelay]
    exact (hu.trans hkept).same (Part.same_dieFollow Part.same_refl (by decide +kernel))
  case isFalse => exact hu.same (Part.same_dieFollow Part.same_refl (by decide +kernel))

/-! ### Records -/

theorem accept (q : Nat) (r : Rec) (hu : s.vpreKept u) : s.vpreKept (u.accept q r) := by
  unfold State.accept
  refine startVpre (hu.same (Part.same_followAlert ?_ (by decide +kernel)))
  refine Part.same_iff (Part.same_iff (Part.same_iff (Part.same_saveRetained (Part.same_set (Part.same_with_slots
    (Part.same_suspendErase (Part.same_evict Part.same_refl ?_) ?_) ?_) ?_) ?_) fun _ hv => Part.same_setBit hv ?_)
    fun _ hv => Part.same_notify hv ?_) fun _ hv => Part.same_cause (Part.same_startGrace hv ?_) ?_
  all_goals decide +kernel

theorem admitTo (q : Nat) (r : Rec) (hu : s.vpreKept u) : s.vpreKept (u.admitTo q r).1 := by
  have hslice : s.vpreKept (u.abortSlice 0x06) := hu.same (Part.same_abortSlice Part.same_refl (by decide +kernel))
  unfold State.admitTo
  dsimp only
  split
  · exact hslice.accept q r
  · exact hslice.same (Part.same_refuse Part.same_refl (by decide +kernel))

theorem offerN (n : Nat) (r : Rec) (hu : s.vpreKept u) : s.vpreKept (u.offerN n r).1 := by
  induction n generalizing u r with
  | zero => exact hu.admitTo _ r
  | succ n ih =>
    unfold State.offerN
    dsimp only
    split_ifs
    · exact hu.admitTo _ r
    · refine ih r (foldl _ (same (hu.admitTo (u.route r) (u.summaryRec (u.route r))) ?_) fun v x hv => ih x.2 hv)
      exact Part.same_with_latched (Part.same_clearGather Part.same_refl (by decide +kernel)) (by decide +kernel)
    · exact (hu.admitTo _ _).admitTo _ r

theorem offer (r : Rec) (hu : s.vpreKept u) : s.vpreKept (u.offer r) := by
  unfold State.offer State.offerB
  split_ifs
  · exact hu
  · exact hu.same (Part.same_with_held Part.same_refl (by decide +kernel))
  · exact hu.offerN 17 r

theorem record {type source : Nat} {payload : List Byte} (hu : s.vpreKept u) : s.vpreKept (u.record type source payload) :=
  hu.offer _

theorem latch {r : Reg} {b : Nat} (hr : (Touch.reg r).off vprePart = true) (hu : s.vpreKept u) : s.vpreKept (u.latch r b) := by
  have hbit : s.vpreKept (u.setBit r b true) := hu.same (Part.same_setBit Part.same_refl hr)
  unfold State.latch State.latchFrom
  refine ite hu (same ?_ (Part.same_followAlert Part.same_refl (by decide +kernel)))
  exact ite (hbit.offer _) (hbit.same (Part.same_with_held Part.same_refl (by decide +kernel)))

theorem latchStand {r : Reg} {b : Nat} (hr : (Touch.reg r).off vprePart = true) (hu : s.vpreKept u) :
    s.vpreKept (u.latchStand r b) := (hu.same (Part.same_stand Part.same_refl (by decide +kernel))).latch hr

/-! ### The journal's head -/

theorem marginFollow (hu : s.vpreKept u) : s.vpreKept u.marginFollow := by
  have hflags : s.vpreKept (((u.set R.JNL_ERASED_AHEAD (min u.ahead.length 7)).flag R.Q_STATUS_URGENT
      (u.ahead.length < 4)).flag R.Q_STATUS_STARVED (u.ahead.length ≤ 1)) :=
    hu.same (Part.same_flag (Part.same_flag (Part.same_set Part.same_refl (by decide +kernel)) (by decide +kernel))
      (by decide +kernel))
  unfold State.marginFollow
  exact ite (hflags.latchStand (by decide +kernel))
    (ite hflags (hflags.same (Part.same_ended Part.same_refl (by decide +kernel))))

theorem takeBlock (hu : s.vpreKept u) : s.vpreKept u.takeBlock := by
  have hhead : vprePart.same u ((u.set R.JNL_HEAD_PAGE_PAGE 0).set R.JNL_HEAD_PAGE_SECTOR 0) :=
    Part.same_set (Part.same_set Part.same_refl (by decide +kernel)) (by decide +kernel)
  unfold State.takeBlock
  dsimp only
  split
  · refine marginFollow (hu.same ?_)
    exact Part.same_flag (Part.same_set (Part.same_set (Part.same_with_ahead hhead (by decide +kernel)) (by decide +kernel))
      (by decide +kernel)) (by decide +kernel)
  · exact hu.same (Part.same_flag hhead (by decide +kernel))

theorem advanceHead (hu : s.vpreKept u) : s.vpreKept u.advanceHead := by
  unfold State.advanceHead State.nextPage
  refine ite (ite hu.takeBlock (hu.same ?_)) (hu.same ?_)
  · exact Part.same_set (Part.same_set Part.same_refl (by decide +kernel)) (by decide +kernel)
  · exact Part.same_set Part.same_refl (by decide +kernel)

theorem commitCount (x : QSlot) (hu : s.vpreKept u) : s.vpreKept (u.commitCount x) := by
  have hworst : ∀ v, s.vpreKept (u.set R.Q_WORST v) := fun v => hu.same (Part.same_set Part.same_refl (by decide +kernel))
  unfold State.commitCount
  refine ite (latch (by decide +kernel) (same ?_ (Part.same_inc Part.same_refl (by decide +kernel)))) (hworst _)
  exact hworst _

theorem commitSector (p : Program) (hu : s.vpreKept u) : s.vpreKept (u.commitSector p) := by
  unfold State.commitSector
  refine same (foldl _ ?_ fun v x hv => hv.commitCount x) (Part.same_saveRetained Part.same_refl (by decide +kernel))
  refine same (advanceHead (hu.same ?_))
    (Part.same_freeSlots (Part.same_ringFollow Part.same_refl (by decide +kernel)) (by decide +kernel))
  exact Part.same_addSector (Part.same_with_slots_program Part.same_refl (by decide +kernel) (by decide +kernel))
    (by decide +kernel)

theorem flushAll (n : Nat) (hu : s.vpreKept u) : s.vpreKept (State.flushAll n u) := by
  induction n generalizing u with
  | zero => exact hu
  | succ n ih => exact ite hu (ih (hu.commitSector _))

/-! ### The record of a change of mode -/

theorem snapshot (trigger : Nat) (hu : s.vpreKept u) : s.vpreKept (u.snapshot trigger) := by
  unfold State.snapshot
  refine each (hu.same ?_) fun _ _ hv => hv.record
  exact Part.same_set (Part.same_ledgerFollow (Part.same_sleepCredit Part.same_refl (by decide +kernel)) (by decide +kernel))
    (by decide +kernel)

theorem modeSnap (n : Nat) (hu : s.vpreKept u) : s.vpreKept (u.modeSnap n) := by
  have hsnap : ∀ k, s.vpreKept ((u.flag R.X_HOUR_DUE false).snapshot k) := fun k =>
    snapshot k (hu.same (Part.same_flag Part.same_refl (by decide +kernel)))
  unfold State.modeSnap
  refine ite (same ?_ (Part.same_set (Part.same_set Part.same_refl (by decide +kernel)) (by decide +kernel))) (hsnap _)
  exact hsnap _

theorem modeRecord {old new cause : Nat} (hu : s.vpreKept u) : s.vpreKept (u.modeRecord old new cause) :=
  modeSnap _ (record (hu.same (Part.same_modeStamp Part.same_refl (by decide +kernel))))

/-! ### The end of VAUX -/

theorem sourceEvent (i event : Nat) (hu : s.vpreKept u) : s.vpreKept (u.sourceEvent i event) := hu.record

/-- The end of an input's class with its record. -/
theorem classEnd (i event : Nat) (hu : s.vpreKept u) :
    s.vpreKept (((u.endClass i).noCeiling i).sourceEvent i event) := by
  refine sourceEvent i event (hu.same ?_)
  exact Part.same_noCeiling (Part.same_endClass Part.same_refl (by decide +kernel)) (by decide +kernel)

theorem unmapInput (i : Nat) (hu : s.vpreKept u) : s.vpreKept (u.unmapInput i) := by
  unfold State.unmapInput
  refine iff (same ?_ (Part.same_setInstate (Part.same_noCeiling (Part.same_flag (Part.same_gates Part.same_refl
    (by decide +kernel)) (by decide +kernel)) (by decide +kernel)) (by decide +kernel))) fun _ hv => each hv fun j _ hw => ?_
  · exact ite hu (hu.classEnd i 0x02)
  · exact ite ((hw.classEnd j 0x05).same (Part.same_restartClass Part.same_refl (by decide +kernel))) hw

theorem inputsFollow (hu : s.vpreKept u) : s.vpreKept u.inputsFollow := by
  unfold State.inputsFollow
  refine each hu fun i v hv => ite (ite hv (hv.unmapInput i)) (ite (ite (hv.same ?_) (hv.same ?_)) hv)
  · exact Part.same_setInstate Part.same_refl (by decide +kernel)
  · exact Part.same_restartClass Part.same_refl (by decide +kernel)

theorem applyMap (hu : s.vpreKept u) : s.vpreKept u.applyMap := by
  unfold State.applyMap
  refine inputsFollow (hu.same ?_)
  refine Part.same_flag (Part.same_each (Part.same_each (Part.same_set (Part.same_each Part.same_refl fun _ _ hv =>
    Part.same_set hv ?_) ?_) fun _ _ hv => Part.same_set hv ?_) fun _ _ hv => Part.same_ite (Part.same_settleGroup hv ?_) hv) ?_
  all_goals decide +kernel

theorem stopGroup (g : Nat) (hu : s.vpreKept u) : s.vpreKept (u.stopGroup g) := by
  have hidle : s.vpreKept (((u.idlePhases g).settleGroup g).flag R.CNV_Gg_STAT_TUNED false g) :=
    hu.same (Part.same_flag (Part.same_settleGroup (Part.same_idlePhases Part.same_refl (by decide +kernel))
      (by decide +kernel)) (by decide +kernel))
  unfold State.stopGroup State.mapCheck
  exact ite hidle.applyMap hidle

theorem abandonProbes (hu : s.vpreKept u) : s.vpreKept u.abandonProbes := by
  unfold State.abandonProbes
  exact each hu fun i _ hv => ite ((hv.stopGroup i).same (Part.same_setInstate Part.same_refl (by decide +kernel))) hv

theorem vauxOutOfReg (hu : s.vpreKept u) : s.vpreKept u.vauxOutOfReg := by
  unfold State.vauxOutOfReg
  refine ite (abandonProbes (hu.same ?_)) hu
  exact Part.same_portsDrop (Part.same_flag (Part.same_flag Part.same_refl (by decide +kernel)) (by decide +kernel))
    (by decide +kernel)

theorem stopVaux (hu : s.vpreKept u) : s.vpreKept u.stopVaux := by
  unfold State.stopVaux
  refine same (vauxOutOfReg (u := u.abortSlice 0x10) (hu.same (Part.same_abortSlice Part.same_refl (by decide +kernel)))) ?_
  exact Part.same_set (Part.same_set (Part.same_flag (Part.same_flag Part.same_refl (by decide +kernel)) (by decide +kernel))
    (by decide +kernel)) (by decide +kernel)

end vpreKept
/-! ### The steps of a Ship entry (R60) -/

/-- A VPRE that stops is off afterwards, unless it is latched off (R232). -/
theorem vpre_stopVpre : (s.stopVpre 0).get R.X_VPRE = if s.get R.X_VPRE = 6 then 6 else 0 := by
  have hkeep : vprePart.same (((s.abortSlice 0x10).vpreGood).set R.X_VPRE (if 0 = 0 ∧ s.get R.X_VPRE = 6 then 6 else 0))
      (s.stopVpre 0) :=
    Part.same_dieFollow (Part.same_set (Part.same_flag (Part.same_flag (Part.same_flag Part.same_refl (by decide +kernel))
      (by decide +kernel)) (by decide +kernel)) (by decide +kernel)) (by decide +kernel)
  rw [Part.same_get hkeep, get_set_fit 0 (show _ < 2 ^ 3 by split <;> decide)]
  simp only [true_and]

theorem vauxOff_stopVaux : s.stopVaux.on R.AUX_STATUS_VAUX_ON = false := by
  unfold State.stopVaux
  rw [on_same (Part.same_set (Part.same_set (Part.same_flag Part.same_refl (by decide +kernel)) (by decide +kernel))
    (by decide +kernel))]
  exact on_flag_self _ _ _ _ (by decide)

theorem role_openPair : s.openPair.get R.PP_STATUS_ROLE = 0 := by
  have hkeep : (Part.key (R.PP_STATUS_ROLE.key 0)).same (s.needP3.set R.PP_STATUS_ROLE 0) s.openPair :=
    Part.same_sysFollow (Part.same_flag (Part.same_set (Part.same_flag Part.same_refl (by decide +kernel)) (by decide +kernel))
      (by decide +kernel)) (by decide +kernel)
  rw [Part.same_get hkeep]
  exact get_set_fit 0 (by decide)

/-- R60 step 3: the ports go off, and the change of mode is written. -/
def shipRecord (s : State) : State :=
  let s1 := (s.each 2 (fun p t => t.portOff p)).abortSlice 0xFF
  ((s1.set R.MODE_STATUS_PREV (s.get R.MODE_STATUS_MODE)).set R.MODE_STATUS_MODE 0).modeRecord (s.get R.MODE_STATUS_MODE) 0 0x12

/-- R60 step 4: the record is committed, the supplies stop and the pair opens. -/
def shipSupplies (s : State) : State := (((State.flushAll (s.slots.length + 1) s).stopVaux).stopVpre 0).openPair

/-- The flags of a Ship entry that is complete. -/
def shipFlags (s : State) : State :=
  let s5 := ((s.flag R.PP_STATUS_VSU_ON false).flag R.DEV_CLK_FAST_ON false).flag R.X_FAST_REQ false
  (((s5.flag R.MODE_STATUS_SHIP_PENDING false).flag R.X_SHIP_OFF false).set R.X_CAUSES 0).followAlert

theorem exec_shipEntryComplete (h : s.shipReady) :
    exec (.shipEntryComplete) s = .next s.shipRecord.shipSupplies.shipFlags := by
  have hdef : exec (.shipEntryComplete) s =
      .next (if s.shipReady then s.shipRecord.shipSupplies.shipFlags else s) := rfl
  rw [hdef, if_pos h]

theorem modes_shipRecord : s.shipRecord.get R.MODE_STATUS_MODE = 0 ∧
    s.shipRecord.get R.MODE_STATUS_PREV = s.get R.MODE_STATUS_MODE ∧ s.shipRecord.get R.MODE_CAUSE = 0x12 := by
  refine ⟨?_, ?_, ?_⟩
  · rw [shipRecord, Part.same_get (Part.same_modeRecord Part.same_refl (by decide +kernel))]
    exact get_set_fit 0 (by decide)
  · rw [shipRecord, Part.same_get (Part.same_modeRecord (Part.same_set Part.same_refl (by decide +kernel)) (by decide +kernel))]
    exact get_set_fit 0 (get_lt s R.MODE_STATUS_MODE 0)
  · rw [shipRecord, State.modeRecord, State.modeStamp, Part.same_get (Part.same_modeWrite (Part.same_set Part.same_refl
      (by decide +kernel)) (by decide +kernel))]
    exact get_set_fit 0 (by decide)

theorem vpreKept_shipRecord : s.vpreKept s.shipRecord := by
  refine vpreKept.modeRecord (vpreKept.refl.same ?_)
  refine Part.same_set (Part.same_set (Part.same_abortSlice (Part.same_each Part.same_refl fun _ _ hv =>
    Part.same_portOff hv ?_) ?_) ?_) ?_
  all_goals decide +kernel

theorem supplies_shipSupplies : s.shipSupplies.on R.AUX_STATUS_VAUX_ON = false ∧
    s.shipSupplies.get R.X_VPRE = (if s.get R.X_VPRE = 6 then 6 else 0) ∧ s.shipSupplies.get R.PP_STATUS_ROLE = 0 := by
  refine ⟨?_, ?_, role_openPair⟩
  · exact (on_same (Part.same_openPair (Part.same_stopVpre Part.same_refl (by decide +kernel)) (by decide +kernel))).trans
      vauxOff_stopVaux
  · have hkept : s.vpreKept (State.flushAll (s.slots.length + 1) s).stopVaux := (vpreKept.refl.flushAll _).stopVaux
    unfold shipSupplies
    rw [Part.same_get (Part.same_openPair Part.same_refl (by decide +kernel)), vpre_stopVpre]
    simp only [vpreKept_iff.1 hkept]

/-- What `shipFlags` changes. -/
def shipFlagsFoot : List Touch := touches [R.PP_STATUS_VSU_ON, R.DEV_CLK_FAST_ON, R.X_FAST_REQ, R.MODE_STATUS_SHIP_PENDING,
  R.X_SHIP_OFF, R.X_CAUSES] [] [Foot.followAlert]

theorem same_shipFlags {q : Part} (h : Machine.keeps shipFlagsFoot q = true) : q.same s s.shipFlags := by
  simp [shipFlagsFoot, and_assoc] at h
  obtain ⟨hvsu, hfast, hreq, hpending, hoff, hcauses, halert⟩ := h
  exact Part.same_followAlert (Part.same_set (Part.same_flag (Part.same_flag (Part.same_flag (Part.same_flag (Part.same_flag
    Part.same_refl hvsu) hfast) hreq) hpending) hoff) hcauses) halert

theorem off_shipFlags : s.shipFlags.on R.DEV_CLK_FAST_ON = false ∧ s.shipFlags.on R.MODE_STATUS_SHIP_PENDING = false ∧
    s.shipFlags.on R.X_SHIP_OFF = false := by
  refine ⟨?_, ?_, ?_⟩
  · rw [shipFlags, on_same (Part.same_followAlert (Part.same_set (Part.same_flag (Part.same_flag (Part.same_flag Part.same_refl
      (by decide +kernel)) (by decide +kernel)) (by decide +kernel)) (by decide +kernel)) (by decide +kernel))]
    exact on_flag_self _ _ _ _ (by decide)
  · rw [shipFlags, on_same (Part.same_followAlert (Part.same_set (Part.same_flag Part.same_refl
      (by decide +kernel)) (by decide +kernel)) (by decide +kernel))]
    exact on_flag_self _ _ _ _ (by decide)
  · rw [shipFlags, on_same (Part.same_followAlert (Part.same_set Part.same_refl (by decide +kernel)) (by decide +kernel))]
    exact on_flag_self _ _ _ _ (by decide)

/-- What `shipSupplies` changes. -/
def shipSuppliesFoot : List Touch := Foot.flushAll ++ Foot.stopVaux ++ Foot.stopVpre ++ Foot.openPair

theorem same_shipSupplies {q : Part} (h : Machine.keeps shipSuppliesFoot q = true) : q.same s s.shipSupplies := by
  simp only [shipSuppliesFoot, keeps_append, Bool.and_eq_true] at h
  obtain ⟨⟨⟨hflush, hvaux⟩, hvpre⟩, hpair⟩ := h
  exact Part.same_openPair (Part.same_stopVpre (Part.same_stopVaux (Part.same_flushAll Part.same_refl hflush) hvaux) hvpre) hpair

end State

section
variable {s : State}

/-- The Ship entry ends with its MODE_CHANGE written, the supplies stopped and the pair open (R60). -/
theorem shipEntryComplete_gives (h : s.shipReady) : Gives (exec (.shipEntryComplete) s) (fun t =>
    t.get R.MODE_STATUS_MODE = 0 ∧ t.get R.MODE_STATUS_PREV = s.get R.MODE_STATUS_MODE ∧ t.get R.MODE_CAUSE = 0x12 ∧
      t.on R.AUX_STATUS_VAUX_ON = false ∧ t.get R.X_VPRE = (if s.get R.X_VPRE = 6 then 6 else 0) ∧
      t.get R.PP_STATUS_ROLE = 0 ∧ t.on R.DEV_CLK_FAST_ON = false ∧ t.on R.MODE_STATUS_SHIP_PENDING = false ∧
      t.on R.X_SHIP_OFF = false) := by
  obtain ⟨hmode, hprev, hcause⟩ := State.modes_shipRecord (s := s)
  obtain ⟨hvaux, hvpre, hrole⟩ := State.supplies_shipSupplies (s := s.shipRecord)
  have hmodes : ∀ r ∈ [R.MODE_STATUS_MODE, R.MODE_STATUS_PREV, R.MODE_CAUSE],
      s.shipRecord.shipSupplies.shipFlags.get r = s.shipRecord.get r := by
    have hoff : ∀ r ∈ [R.MODE_STATUS_MODE, R.MODE_STATUS_PREV, R.MODE_CAUSE],
        keeps (State.shipSuppliesFoot ++ State.shipFlagsFoot) (.key (r.key 0)) = true := by decide +kernel
    intro r hr
    have hkeep := hoff r hr
    rw [keeps_append, Bool.and_eq_true] at hkeep
    exact Part.same_get (Part.same_trans (State.same_shipSupplies hkeep.1) (State.same_shipFlags hkeep.2))
  refine ⟨_, State.exec_shipEntryComplete h, (hmodes _ (by decide)).trans hmode, (hmodes _ (by decide)).trans hprev,
    (hmodes _ (by decide)).trans hcause, (State.on_same (State.same_shipFlags (by decide +kernel))).trans hvaux, ?_,
    (Part.same_get (State.same_shipFlags (by decide +kernel))).trans hrole, State.off_shipFlags⟩
  rw [Part.same_get (State.same_shipFlags (by decide +kernel)), hvpre]
  simp only [State.vpreKept_iff.1 State.vpreKept_shipRecord]

end

/-- Settles O36: each clause is the lemma on its command above. -/
theorem starts : Obligations.Starts := by
  refine ⟨?_, ?_, ?_, ?_, ?_, ?_, ?_, ?_, ?_⟩
  · rintro s run k sys bats ⟨hrun, -⟩
    obtain ⟨t, ht, hdown, hresult, ⟨hen, hfast, hdead⟩, hint, hcause, hscan, htw, hqb, hreq, hstage, haddr⟩ :=
      powerOnReset_passes (s := s) (k := k) (sys := sys) (bats := bats) hrun
    exact ⟨t, ht, hdown, hresult, hen, hint, hcause, hscan, hfast, htw, hqb, hreq, hstage, hdead, haddr⟩
  · rintro s run k sys bats hbit
    exact powerOnReset_held hbit
  · rintro s loss
    obtain ⟨t, ht, ⟨hdown, hslots, hheld, hprogram, hreq, hstage, hcopies, hgrown, h6, h7, hpassive, hlow⟩, hretained⟩ :=
      vaoBelowReset_gives (s := s) (loss := loss)
    exact ⟨t, ht, hdown, hslots, hheld, hprogram, hreq, hstage, hretained, hcopies, hgrown, h6, h7, hpassive, hlow⟩
  · rintro s
    exact retainedSramLost_gives
  · rintro s fail sys bats ⟨hdue, hawake, hheld, hwait⟩
    exact deviceRestartReset_waits hdue hawake hheld hwait
  · rintro s fail sys bats ⟨hcause, hawake, hheld, hready, hsafe⟩
    obtain ⟨t, ht, hdue, hrestarting, ⟨hen, -, hdead⟩, hint, htw, hqb, hreq, hstage⟩ :=
      deviceRestartReset_ready (fail := fail) (sys := sys) (bats := bats) hcause hawake hheld hready hsafe
    exact ⟨t, ht, hdue, hrestarting, hen, hint, htw, hqb, hreq, hstage, hdead⟩
  · rintro s ⟨hpending, hoff⟩
    exact shipDelayExpire_pending hpending hoff
  · rintro s h
    exact shipEntryComplete_gives h
  · rintro s byInput exit k sys bats ⟨hmode, hcut, hdown, hheld, hrun, -⟩
    obtain ⟨t, ht, hnacks, hcause, ⟨hen, hfast, -⟩, hscan, hepoch, hreq, haddr⟩ :=
      shipExit_passes (byInput := byInput) (k := k) (sys := sys) (bats := bats) hmode hcut hdown hheld hrun
    exact ⟨t, ht, hnacks, hcause, hen, hscan, hepoch, hfast, hreq, haddr⟩

end Sys2Proof.Machine
end

section
/-! PROOFS. The frame of a command and of a step: what its footprint leaves as before is as before. -/

namespace Sys2Proof.Machine

namespace Part

variable {p : Part} {s t : State}

/-- A command answers a state in which every part that its footprint leaves as before is as before: its own frame law. -/
theorem same_exec_answer : (c : Instr) → keeps (footOf c) p = true → ∃ t, exec c s = .next t ∧ p.same s t
  | .powerOnReset .., h => same_execPowerOnReset same_refl h
  | .deviceRestartReset .., h => same_execDeviceRestartReset same_refl h
  | .hrstnExternalLow, h => same_execHrstnExternalLow same_refl h
  | .modeEvaluate .., h => same_execModeEvaluate same_refl h
  | .uncouple, h => same_execUncouple same_refl h
  | .graceExpire, h => same_execGraceExpire same_refl h
  | .harvestDormant .., h => same_execHarvestDormant same_refl h
  | .harvestRetryEnd .., h => same_execHarvestRetryEnd same_refl h
  | .serviceTimeout, h => same_execServiceTimeout same_refl h
  | .shipDelayExpire, h => same_execShipDelayExpire same_refl h
  | .shipEntryComplete, h => same_execShipEntryComplete same_refl h
  | .shipExit .., h => same_execShipExit same_refl h
  | .wakeCountDue, h => same_execWakeCountDue same_refl h
  | .wakenLow, h => same_execWakenLow same_refl h
  | .fastClockStart, h => same_execFastClockStart same_refl h
  | .fastClockStop, h => same_execFastClockStop same_refl h
  | .timeRateCorrection .., h => same_execTimeRateCorrection same_refl h
  | .hourBoundary, h => same_execHourBoundary same_refl h
  | .awakeHoldEnd, h => same_execAwakeHoldEnd same_refl h
  | .inputComparatorTrip .., h => same_execInputComparatorTrip same_refl h
  | .inputPresent .., h => same_execInputPresent same_refl h
  | .inputPresenceLost .., h => same_execInputPresenceLost same_refl h
  | .idDecode .., h => same_execIdDecode same_refl h
  | .inputConnect .., h => same_execInputConnect same_refl h
  | .vbusReached .., h => same_execVbusReached same_refl h
  | .probeStart .., h => same_execProbeStart same_refl h
  | .probeComplete .., h => same_execProbeComplete same_refl h
  | .signatureWatchComplete .., h => same_execSignatureWatchComplete same_refl h
  | .idRedecode .., h => same_execIdRedecode same_refl h
  | .classHoldExpire .., h => same_execClassHoldExpire same_refl h
  | .inputOvervoltage .., h => same_execInputOvervoltage same_refl h
  | .inputOvClear .., h => same_execInputOvClear same_refl h
  | .reversePolarity .., h => same_execReversePolarity same_refl h
  | .fetOpen .., h => same_execFetOpen same_refl h
  | .tsRelease .., h => same_execTsRelease same_refl h
  | .tsResume .., h => same_execTsResume same_refl h
  | .tsVrefRetake .., h => same_execTsVrefRetake same_refl h
  | .reclassify .., h => same_execReclassify same_refl h
  | .inputEnableWrite .., h => same_execInputEnableWrite same_refl h
  | .allocatorUpdate .., h => same_execAllocatorUpdate same_refl h
  | .poPeriodEnd .., h => same_execPoPeriodEnd same_refl h
  | .sweepStart .., h => same_execSweepStart same_refl h
  | .sweepComplete .., h => same_execSweepComplete same_refl h
  | .sweepAbort .., h => same_execSweepAbort same_refl h
  | .sweepNow .., h => same_execSweepNow same_refl h
  | .trkWeak .., h => same_execTrkWeak same_refl h
  | .groupOnDelayEnd .., h => same_execGroupOnDelayEnd same_refl h
  | .groupSwitchStart .., h => same_execGroupSwitchStart same_refl h
  | .groupOffDelayEnd .., h => same_execGroupOffDelayEnd same_refl h
  | .loopEvaluation .., h => same_execLoopEvaluation same_refl h
  | .tuningComplete .., h => same_execTuningComplete same_refl h
  | .tuneFail .., h => same_execTuneFail same_refl h
  | .retune .., h => same_execRetune same_refl h
  | .equalisationUpdate .., h => same_execEqualisationUpdate same_refl h
  | .deadTimeUpdate .., h => same_execDeadTimeUpdate same_refl h
  | .zeroCrossUpdate .., h => same_execZeroCrossUpdate same_refl h
  | .shedEvaluation .., h => same_execShedEvaluation same_refl h
  | .burst .., h => same_execBurst same_refl h
  | .bootstrapRefresh .., h => same_execBootstrapRefresh same_refl h
  | .peakLimit .., h => same_execPeakLimit same_refl h
  | .negativeLimit .., h => same_execNegativeLimit same_refl h
  | .phaseShort .., h => same_execPhaseShort same_refl h
  | .phaseOpen .., h => same_execPhaseOpen same_refl h
  | .bootstrapFault .., h => same_execBootstrapFault same_refl h
  | .sysOvervoltage, h => same_execSysOvervoltage same_refl h
  | .sysOvClear, h => same_execSysOvClear same_refl h
  | .inputUndervoltage .., h => same_execInputUndervoltage same_refl h
  | .driveSupplyUv, h => same_execDriveSupplyUv same_refl h
  | .phRetry .., h => same_execPhRetry same_refl h
  | .cnvCfgApply, h => same_execCnvCfgApply same_refl h
  | .qualifyComplete .., h => same_execQualifyComplete same_refl h
  | .prechargeComplete .., h => same_execPrechargeComplete same_refl h
  | .onPulseEnd .., h => same_execOnPulseEnd same_refl h
  | .restSample .., h => same_execRestSample same_refl h
  | .restEnd .., h => same_execRestEnd same_refl h
  | .maintainCheck .., h => same_execMaintainCheck same_refl h
  | .p3WindowEnd, h => same_execP3WindowEnd same_refl h
  | .absorbEnd, h => same_execAbsorbEnd same_refl h
  | .floatRecharge, h => same_execFloatRecharge same_refl h
  | .equaliseEnd .., h => same_execEqualiseEnd same_refl h
  | .safetyTimerTick .., h => same_execSafetyTimerTick same_refl h
  | .safetyTimeout, h => same_execSafetyTimeout same_refl h
  | .bmsokRefuse, h => same_execBmsokRefuse same_refl h
  | .bmsokPermit, h => same_execBmsokPermit same_refl h
  | .chgProfileWrite .., h => same_execChgProfileWrite same_refl h
  | .suspend .., h => same_execSuspend same_refl h
  | .resume .., h => same_execResume same_refl h
  | .restart .., h => same_execRestart same_refl h
  | .equalise .., h => same_execEqualise same_refl h
  | .endEqualise .., h => same_execEndEqualise same_refl h
  | .serviceGroups .., h => same_execServiceGroups same_refl h
  | .roleEvaluate .., h => same_execRoleEvaluate same_refl h
  | .connectTimeout, h => same_execConnectTimeout same_refl h
  | .supplement .., h => same_execSupplement same_refl h
  | .coldStartAbandon, h => same_execColdStartAbandon same_refl h
  | .coldStartRetry, h => same_execColdStartRetry same_refl h
  | .vsuDisable, h => same_execVsuDisable same_refl h
  | .dischargeOvercurrent, h => same_execDischargeOvercurrent same_refl h
  | .shortCircuit, h => same_execShortCircuit same_refl h
  | .retryWaitEnd, h => same_execRetryWaitEnd same_refl h
  | .tripCountReset, h => same_execTripCountReset same_refl h
  | .retryNow, h => same_execRetryNow same_refl h
  | .uvInhibit .., h => same_execUvInhibit same_refl h
  | .uvInhibitEnd .., h => same_execUvInhibitEnd same_refl h
  | .uvCutoff .., h => same_execUvCutoff same_refl h
  | .cutoffComplete, h => same_execCutoffComplete same_refl h
  | .presenceProbe .., h => same_execPresenceProbe same_refl h
  | .probeNow, h => same_execProbeNow same_refl h
  | .emptyConnector, h => same_execEmptyConnector same_refl h
  | .batteryShort .., h => same_execBatteryShort same_refl h
  | .batteryRemoval, h => same_execBatteryRemoval same_refl h
  | .unsupportedSysFall, h => same_execUnsupportedSysFall same_refl h
  | .vauxInRegulation .., h => same_execVauxInRegulation same_refl h
  | .vauxOutOfRegulation, h => same_execVauxOutOfRegulation same_refl h
  | .vauxStop, h => same_execVauxStop same_refl h
  | .vauxFail, h => same_execVauxFail same_refl h
  | .vauxOverload, h => same_execVauxOverload same_refl h
  | .vpreInRegulation .., h => same_execVpreInRegulation same_refl h
  | .vpreStop, h => same_execVpreStop same_refl h
  | .vpreRetry, h => same_execVpreRetry same_refl h
  | .railOnDelayEnd .., h => same_execRailOnDelayEnd same_refl h
  | .railRampEnd .., h => same_execRailRampEnd same_refl h
  | .railTuneComplete .., h => same_execRailTuneComplete same_refl h
  | .railOffDelayEnd .., h => same_execRailOffDelayEnd same_refl h
  | .railRampDownEnd .., h => same_execRailRampDownEnd same_refl h
  | .railStartFail .., h => same_execRailStartFail same_refl h
  | .railHiccupEnd .., h => same_execRailHiccupEnd same_refl h
  | .railFailsReset .., h => same_execRailFailsReset same_refl h
  | .railOvervoltage .., h => same_execRailOvervoltage same_refl h
  | .railSettle .., h => same_execRailSettle same_refl h
  | .railPowerEstimate .., h => same_execRailPowerEstimate same_refl h
  | .rclSetVid .., h => same_execRclSetVid same_refl h
  | .rclSetSlew .., h => same_execRclSetSlew same_refl h
  | .rclSetState .., h => same_execRclSetState same_refl h
  | .rclGetVidTarget .., h => same_execRclGetVidTarget same_refl h
  | .rclGetVidActual .., h => same_execRclGetVidActual same_refl h
  | .rclGetStatus .., h => same_execRclGetStatus same_refl h
  | .rclGetPower .., h => same_execRclGetPower same_refl h
  | .rclClearAlert .., h => same_execRclClearAlert same_refl h
  | .rclSetVidFast .., h => same_execRclSetVidFast same_refl h
  | .rclFrameAbandon, h => same_execRclFrameAbandon same_refl h
  | .railControlSetVid .., h => same_execRailControlSetVid same_refl h
  | .railControlSetSlew .., h => same_execRailControlSetSlew same_refl h
  | .railControlSetState .., h => same_execRailControlSetState same_refl h
  | .railControlClearAlert .., h => same_execRailControlClearAlert same_refl h
  | .railControlSetVidFast .., h => same_execRailControlSetVidFast same_refl h
  | .adcReferenceFail .., h => same_execAdcReferenceFail same_refl h
  | .ccResult .., h => same_execCcResult same_refl h
  | .ledgerUpdate .., h => same_execLedgerUpdate same_refl h
  | .clearCounters, h => same_execClearCounters same_refl h
  | .snapshotNow, h => same_execSnapshotNow same_refl h
  | .eRemWrite .., h => same_execERemWrite same_refl h
  | .epochWrite .., h => same_execEpochWrite same_refl h
  | .portRiseComplete .., h => same_execPortRiseComplete same_refl h
  | .portBootWaitEnd .., h => same_execPortBootWaitEnd same_refl h
  | .portToKeepAlive .., h => same_execPortToKeepAlive same_refl h
  | .lineCycleStart .., h => same_execLineCycleStart same_refl h
  | .pollReply .., h => same_execPollReply same_refl h
  | .replyTimeout .., h => same_execReplyTimeout same_refl h
  | .frameRetry .., h => same_execFrameRetry same_refl h
  | .enumerationRunStart .., h => same_execEnumerationRunStart same_refl h
  | .idwalkComplete .., h => same_execIdwalkComplete same_refl h
  | .assignReply .., h => same_execAssignReply same_refl h
  | .configReply .., h => same_execConfigReply same_refl h
  | .discoveryDue .., h => same_execDiscoveryDue same_refl h
  | .portShort .., h => same_execPortShort same_refl h
  | .portRetryEnd .., h => same_execPortRetryEnd same_refl h
  | .keepAliveOverload .., h => same_execKeepAliveOverload same_refl h
  | .slotEnableWrite .., h => same_execSlotEnableWrite same_refl h
  | .portOn .., h => same_execPortOn same_refl h
  | .portOff .., h => same_execPortOff same_refl h
  | .enumerate .., h => same_execEnumerate same_refl h
  | .releaseSlot .., h => same_execReleaseSlot same_refl h
  | .configNode .., h => same_execConfigNode same_refl h
  | .nodeInfo .., h => same_execNodeInfo same_refl h
  | .recordOffer .., h => same_execRecordOffer same_refl h
  | .refusalSummaryDue .., h => same_execRefusalSummaryDue same_refl h
  | .sectorProgramStart, h => same_execSectorProgramStart same_refl h
  | .sectorProgramComplete .., h => same_execSectorProgramComplete same_refl h
  | .greenFillTimeout, h => same_execGreenFillTimeout same_refl h
  | .eraseSliceStart, h => same_execEraseSliceStart same_refl h
  | .eraseComplete .., h => same_execEraseComplete same_refl h
  | .queueCapApply .., h => same_execQueueCapApply same_refl h
  | .resetBase .., h => same_execResetBase same_refl h
  | .resetWindow .., h => same_execResetWindow same_refl h
  | .clearAlarms .., h => same_execClearAlarms same_refl h
  | .resetTrackerAll .., h => same_execResetTrackerAll same_refl h
  | .storeProgramComplete .., h => same_execStoreProgramComplete same_refl h
  | .cfgSwitch, h => same_execCfgSwitch same_refl h
  | .trialExpire, h => same_execTrialExpire same_refl h
  | .twWriteRequest .., h => same_execTwWriteRequest same_refl h
  | .twReadReply .., h => same_execTwReadReply same_refl h
  | .twPointerReset, h => same_execTwPointerReset same_refl h
  | .twAddressNack, h => same_execTwAddressNack same_refl h
  | .sclTimeout .., h => same_execSclTimeout same_refl h
  | .sdaStuck .., h => same_execSdaStuck same_refl h
  | .busClearRetry .., h => same_execBusClearRetry same_refl h
  | .hostNotifyAttempt .., h => same_execHostNotifyAttempt same_refl h
  | .hrstnRelease, h => same_execHrstnRelease same_refl h
  | .writePacket .., h => same_execWritePacket same_refl h
  | .readReply .., h => same_execReadReply same_refl h
  | .readStatus .., h => same_execReadStatus same_refl h
  | .rewind .., h => same_execRewind same_refl h
  | .bulkInvalidInstruction .., h => same_execBulkInvalidInstruction same_refl h
  | .ping .., h => same_execPing same_refl h
  | .readParam .., h => same_execReadParam same_refl h
  | .writeParam .., h => same_execWriteParam same_refl h
  | .modifyParam .., h => same_execModifyParam same_refl h
  | .readFaults .., h => same_execReadFaults same_refl h
  | .enterShip .., h => same_execEnterShip same_refl h
  | .enterService .., h => same_execEnterService same_refl h
  | .leaveService .., h => same_execLeaveService same_refl h
  | .endGrace .., h => same_execEndGrace same_refl h
  | .queuePop .., h => same_execQueuePop same_refl h
  | .queuePeek .., h => same_execQueuePeek same_refl h
  | .queueStatus .., h => same_execQueueStatus same_refl h
  | .journalRead .., h => same_execJournalRead same_refl h
  | .journalMark .., h => same_execJournalMark same_refl h
  | .cfgStageWrite .., h => same_execCfgStageWrite same_refl h
  | .cfgVerify .., h => same_execCfgVerify same_refl h
  | .cfgCommit .., h => same_execCfgCommit same_refl h
  | .cfgConfirm .., h => same_execCfgConfirm same_refl h
  | .cfgRevert .., h => same_execCfgRevert same_refl h
  | .cfgInfo .., h => same_execCfgInfo same_refl h
  | .wdtCheckin .., h => same_execWdtCheckin same_refl h
  | .selftestRun .., h => same_execSelftestRun same_refl h
  | .selftestStop .., h => same_execSelftestStop same_refl h
  | .otpProgram .., h => same_execOtpProgram same_refl h
  | .otpProgramDone .., h => same_execOtpProgramDone same_refl h
  | .ledgerRead .., h => same_execLedgerRead same_refl h
  | .recover .., h => same_execRecover same_refl h
  | .deviceRestart .., h => same_execDeviceRestart same_refl h
  | .wdtKey .., h => same_execWdtKey same_refl h
  | .wdtDisableSequence, h => same_execWdtDisableSequence same_refl h
  | .wdtEnable, h => same_execWdtEnable same_refl h
  | .wdtLockSet, h => same_execWdtLockSet same_refl h
  | .wdtExpire, h => same_execWdtExpire same_refl h
  | .wdtInternalService, h => same_execWdtInternalService same_refl h
  | .yellowPulseEnd, h => same_execYellowPulseEnd same_refl h
  | .sequencerSilent .., h => same_execSequencerSilent same_refl h
  | .supWarn .., h => same_execSupWarn same_refl h
  | .rideThroughEnd, h => same_execRideThroughEnd same_refl h
  | .dieReading .., h => same_execDieReading same_refl h
  | .journalPowerOff, h => same_execJournalPowerOff same_refl h
  | .thermistorReading .., h => same_execThermistorReading same_refl h
  | .foldbackUpdate, h => same_execFoldbackUpdate same_refl h
  | .fbHoldEnd .., h => same_execFbHoldEnd same_refl h
  | .fbClear, h => same_execFbClear same_refl h
  | .bistSliceStart .., h => same_execBistSliceStart same_refl h
  | .bistSliceEnd .., h => same_execBistSliceEnd same_refl h
  | .vaoBelowReset .., h => same_execVaoBelowReset same_refl h
  | .retainedSramLost, h => same_execRetainedSramLost same_refl h
  | .presenceDebounceAbort .., h => same_execPresenceDebounceAbort same_refl h
  | .inputUvClear .., h => same_execInputUvClear same_refl h
  | .driveSupplyClear, h => same_execDriveSupplyClear same_refl h
  | .vauxRetry, h => same_execVauxRetry same_refl h
  | .vpreOnDelayEnd, h => same_execVpreOnDelayEnd same_refl h
  | .vpreFail, h => same_execVpreFail same_refl h
  | .vpreHiccupEnd, h => same_execVpreHiccupEnd same_refl h
  | .portSettleEnd .., h => same_execPortSettleEnd same_refl h
  | .eraseSliceEnd, h => same_execEraseSliceEnd same_refl h
  | .rclReservedCommand .., h => same_execRclReservedCommand same_refl h

/-- What the footprint of a command leaves as before is as before in the state that it answers. -/
theorem same_exec {c : Instr} (hc : exec c s = .next t) (h : keeps (footOf c) p = true) : p.same s t := by
  obtain ⟨t', ht', hsame⟩ := same_exec_answer c h
  cases hc.symm.trans ht'
  exact hsame

/-- A step with no command waiting is a tick. -/
theorem same_step_idle (hidle : s.pending = []) (hstep : step s = .next t) (h : keeps Foot.tick p = true) : p.same s t := by
  rw [step, hidle] at hstep
  cases hstep
  exact same_tick same_refl h

end Part

/-- Settles O45: the frame of each command is the law on its meaning, and that of an idle step the law on the tick. -/
theorem frameOfCommands : Obligations.FrameOfCommands := by
  refine ⟨fun c s t hc => ⟨fun r i h => ?field, fun k h => ?component⟩,
    fun s t hidle hstep => ⟨fun r i h => ?idleField, fun k h => ?idleComponent⟩⟩
  case field => exact Part.same_get (Part.same_exec hc h)
  case component => exact Part.same_exec (p := .comp k) hc h
  case idleField => exact Part.same_get (Part.same_step_idle hidle hstep h)
  case idleComponent => exact Part.same_step_idle (p := .comp k) hidle hstep h

end Sys2Proof.Machine
end

section
/-! PROOFS. The queue of commands, device time, the stores, the ring and the bad-block lists: which commands change them (R41, R42,
R322, R327, R334, R337). -/

-- One theorem at a time: each decision by the kernel waits for all declarations before it and holds a thread meanwhile.
set_option Elab.async false

namespace Sys2Proof.Machine

/-! ### Footprints that name them -/

/-- Device time as a part of the state. -/
abbrev timePart : Part := .key (R.DEV_TIME.key 0)

/-- The commands whose footprint takes in device time: those that start the device over, and a Ship exit for its boot scan. -/
def namesTime (c : Instr) : Bool :=
  match c with
  | .shipExit .. => true
  | c => startsOver c

/-- Whether one change of a footprint is allowed: none of the queue of commands and of the factory bad-block list, and of device
time, the copies, the ring and the grown bad blocks as the flags say. -/
def Touch.allowed (time copies ring bad : Bool) (w : Touch) : Bool :=
  match w with
  | .comp .pending | .comp .factoryBad => false
  | .comp .copies => copies
  | .comp .ring => ring
  | .comp .grownBad | .comp .table6 | .comp .table7 => bad
  | .comp _ => true
  | w => time || w.off timePart

/-- A component of which no change is allowed is left as before. -/
theorem keeps_comp_of_allowed {l : List Touch} {time copies ring bad : Bool} {k : Comp}
    (h : l.all (Touch.allowed time copies ring bad) = true) (hk : Touch.allowed time copies ring bad (.comp k) = false) :
    keeps l (.comp k) = true := by
  refine List.all_eq_true.2 fun w hw => ?_
  rcases w with r | d | z
  · rfl
  · refine bne_iff_ne.2 ?_
    rintro rfl
    exact absurd (hk.symm.trans (List.all_eq_true.1 h _ hw)) (by decide)
  · rfl

/-- Device time is left as before where no change of it is allowed. -/
theorem keeps_time_of_allowed {l : List Touch} {copies ring bad : Bool}
    (h : l.all (Touch.allowed false copies ring bad) = true) : keeps l timePart = true := by
  refine List.all_eq_true.2 fun w hw => ?_
  have hallowed := List.all_eq_true.1 h w hw
  rcases w with r | d | z
  · simpa only [Touch.allowed, Bool.false_or] using hallowed
  · rfl
  · simpa only [Touch.allowed, Bool.false_or] using hallowed

theorem powerOnReset_allowed : Foot.execPowerOnReset.all (Touch.allowed true false true true) = true := by decide +kernel

theorem shipExit_allowed : Foot.execShipExit.all (Touch.allowed true false true true) = true := by decide +kernel

theorem deviceRestartReset_allowed : Foot.execDeviceRestartReset.all (Touch.allowed false false false false) = true := by
  decide +kernel

/-- Every change of a footprint is one that the lists of few commands allow. -/
theorem footOf_allowed (c : Instr) :
    (footOf c).all (Touch.allowed (namesTime c) (writesCopies c) (writesRing c) (marksBad c)) = true := by
  cases c with
  | powerOnReset => exact powerOnReset_allowed
  | shipExit => exact shipExit_allowed
  | deviceRestartReset => exact deviceRestartReset_allowed
  | _ => dsimp only [footOf, namesTime, writesCopies, writesRing, marksBad, startsOver]; decide +kernel

/-- A component of which a command's lists allow no change is as before. -/
theorem comp_exec {c : Instr} {s t : State} (hc : exec c s = .next t) {k : Comp}
    (hk : Touch.allowed (namesTime c) (writesCopies c) (writesRing c) (marksBad c) (.comp k) = false) : k.same s t :=
  Part.same_exec (p := .comp k) hc (keeps_comp_of_allowed (footOf_allowed c) hk)

theorem now_exec {c : Instr} {s t : State} (hc : exec c s = .next t) (h : namesTime c = false) : t.now = s.now :=
  Part.same_get (Part.same_exec hc (keeps_time_of_allowed (h ▸ footOf_allowed c)))

/-! ### Device time over a Ship exit (R42, R43): its boot scan seeds no time -/

namespace State

variable {s : State} {k sys bats nacks old cause : Nat} {worn : List Nat}

/-- The words that the boot scan sets at its end (R330): the next SEQ, the counts of bad blocks, and that acceptance is enabled. -/
theorem time_scanWords {u : State} {n a b : Nat} (hu : timePart.same s u) :
    timePart.same s ((((u.set R.JNL_NEXT_SEQ n).set R.JNL_BAD_FACTORY a).set R.JNL_BAD_GROWN b).flag R.JNL_STATUS_SCAN_DONE true) := by
  refine Part.same_flag (Part.same_set (Part.same_set (Part.same_set hu ?_) ?_) ?_) ?_
  all_goals decide +kernel

theorem time_bootScan : timePart.same s (s.bootScan false worn).1 := by
  have hhead : timePart.same s ((s.scanHead false worn).flag R.JNL_STATUS_HINT_USED s.retained.isSome) :=
    Part.same_flag (Part.same_scanHead Part.same_refl (by decide +kernel)) (by decide +kernel)
  unfold State.bootScan
  simp only [Bool.false_eq_true, if_false]
  split
  · refine Part.same_saveRetained (Part.same_flag (Part.same_latch (Part.same_flag (time_scanWords ?unseeded) ?_) ?_) ?_) ?_
    case unseeded => split <;> exact hhead
    all_goals decide +kernel
  · refine Part.same_saveRetained (time_scanWords ?unseeded) (by decide +kernel)
    case unseeded => split <;> exact hhead

/-- What the records of a start change after the boot scan. -/
def afterScanFoot : List Touch := touches [R.X_BIST_AT] [] [Foot.record, Foot.modeWrite, Foot.offerHeld, Foot.selectedRecord,
  Foot.modeFollow, Foot.startSafe]

theorem same_afterScan {q : Part} {por : Bool} (h : Machine.keeps afterScanFoot q = true) :
    q.same (s.bootScan por worn).1 (s.startRecords por worn old cause) := by
  simp [afterScanFoot] at h
  obtain ⟨hbist, hrecord, hmode, hheld, hselected, hfollow, hsafe⟩ := h
  have hages : q.same (s.bootScan por worn).1 ((s.bootScan por worn).1.each 8
      (fun q t => t.set R.X_BIST_AT (t.get R.X_BIST_AT q + (t.now - s.now)) q)) :=
    Part.same_each Part.same_refl fun _ _ hv => Part.same_set hv hbist
  unfold State.startRecords
  refine Part.same_modeFollow (Part.same_startSafe (Part.same_modeWrite (Part.same_offerHeld (Part.same_selectedRecord ?_
    hselected) hheld) hmode) hsafe) hfollow
  split
  · exact Part.same_record hages hrecord
  · exact hages

/-- What a Ship exit changes after its start run and before the records of the start. -/
def beforeScanFoot : List Touch := touches [R.PP_STATUS_VSU_ON, R.MODE_STATUS_MODE, R.MODE_STATUS_PREV, R.MODE_CAUSE,
  R.MODE_CHANGE_TIME] [] [Foot.startLogic, Foot.exitNacks, Foot.startMode]

theorem time_exitStart : timePart.same s (s.exitStart nacks old cause worn sys bats) := by
  refine Part.same_trans (Part.same_trans ?_ time_bootScan) (same_afterScan (by decide +kernel))
  refine Part.same_set (Part.same_set (Part.same_set (Part.same_startMode (Part.same_exitNacks (Part.same_startLogic (Part.same_set
    (Part.same_flag Part.same_refl ?_) ?_) ?_) ?_) ?_) ?_) ?_) ?_
  all_goals decide +kernel

theorem time_exitBoot : timePart.same s (s.exitBoot k) :=
  Part.same_trans (Part.same_coldParts (Part.same_logicReset Part.same_refl (by decide +kernel)) (by decide +kernel))
    (same_exitBoot (by decide +kernel))

theorem now_shipExit {t : State} {byInput : Bool} {exit : ExitRun} (h : exec (.shipExit byInput exit k sys bats) s = .next t) :
    t.now = s.now := by
  have hlbist : timePart.same s ((s.exitBoot k).lbist exit.run.fail) :=
    Part.same_trans time_exitBoot (Part.same_lbist Part.same_refl (by decide +kernel))
  cases (execShipExit_eq byInput exit k sys bats s).symm.trans h
  refine Part.same_get (Part.same_ite Part.same_refl (Part.same_ite ?_ (Part.same_trans hlbist time_exitStart)))
  exact Part.same_heldFollow hlbist (by decide +kernel)

end State

/-- Settles O52: what no footprint but those of the commands listed names, by the frame of the commands; device time over a Ship exit
by its boot scan. -/
theorem whatFewCommandsChange : Obligations.WhatFewCommandsChange := by
  intro c s t hc
  refine ⟨comp_exec hc (k := .pending) rfl, comp_exec hc (k := .factoryBad) rfl, ?time, fun h => comp_exec hc (k := .copies) h,
    fun h => comp_exec hc (k := .ring) h,
    fun h => ⟨comp_exec hc (k := .grownBad) h, comp_exec hc (k := .table6) h, comp_exec hc (k := .table7) h⟩⟩
  case time =>
    intro hstart
    by_cases hexit : namesTime c = true
    · cases c with
      | shipExit => exact State.now_shipExit hc
      | _ => exact absurd (hstart.symm.trans hexit) (by decide)
    · exact now_exec hc (Bool.eq_false_iff.2 hexit)

end Sys2Proof.Machine
end

section
/-! PROOFS. The tick of an idle step (R40, R41, R42): its counts, device time, and the tasks that leave both. -/

-- One theorem at a time: each decision by the kernel waits for all declarations before it and holds a thread meanwhile.
set_option Elab.async false

namespace Sys2Proof.Machine
namespace State

variable {s : State}

/-- The tick counters of a tick: all ticks, the slow counter, and the supply-good ticks. -/
def tickCounts (s : State) : State :=
  ((s.set R.X_TICKS (s.get R.X_TICKS + 1)).set R.X_SLOW (s.get R.X_SLOW + 1)).iff (!s.on R.MODE_STATUS_RIDE_ACTIVE)
    (fun t => t.set R.X_GOOD (t.get R.X_GOOD + 1))

/-- The tasks of a tick that come after device time. -/
def tickTasks (s : State) : State :=
  let s3 := (s.hrstnEase.wdtTick.staleCheck).overdueCheck
  if s3.program.isNone then s3.startStoreProgram else s3

theorem tick_asleep (h : (s.asleepDeep || s.on R.X_HELD) = true) : s.tick = s := if_pos h

theorem tick_awake (h : (s.asleepDeep || s.on R.X_HELD) = false) : s.tick = s.tickCounts.timeTick.tickTasks :=
  if_neg (by simp [h])

/-! ### Counts -/

theorem ticks_tickCounts : s.tickCounts.get R.X_TICKS = (s.get R.X_TICKS + 1) % 2 ^ 64 := by
  have hkeep : (Part.key (R.X_TICKS.key 0)).same (s.set R.X_TICKS (s.get R.X_TICKS + 1)) s.tickCounts :=
    Part.same_iff (Part.same_set Part.same_refl (by decide +kernel)) fun _ hv => Part.same_set hv (by decide +kernel)
  rw [Part.same_get hkeep, get_set_self]
  rfl

/-- What the counts change. -/
def tickCountsFoot : List Touch := touches [R.X_TICKS, R.X_SLOW, R.X_GOOD] [] []

theorem same_tickCounts {q : Part} (h : Machine.keeps tickCountsFoot q = true) : q.same s s.tickCounts := by
  simp [tickCountsFoot] at h
  obtain ⟨hticks, hslow, hgood⟩ := h
  exact Part.same_iff (Part.same_set (Part.same_set Part.same_refl hticks) hslow) fun _ hv => Part.same_set hv hgood

/-! ### Device time (R41) -/

/-- A field that the staleness of the correction does not concern reads after the advance of time what was set there. -/
theorem get_timeTick {r : Reg} (h : (Touch.reg R.DEV_CLK_CORR_STALE).off (.key (r.key 0)) = true) :
    s.timeTick.get r = ((s.set R.X_TIME_ACC ((s.get R.X_TIME_ACC + s.get R.X_TIME_RATE) % 16384000)).set R.DEV_TIME
      (s.now + (s.get R.X_TIME_ACC + s.get R.X_TIME_RATE) / 16384000)).get r :=
  Part.same_get (Part.same_iff Part.same_refl fun _ hv => Part.same_flag hv h)

theorem acc_timeTick : s.timeTick.get R.X_TIME_ACC = (s.get R.X_TIME_ACC + s.get R.X_TIME_RATE) % 16384000 := by
  rw [get_timeTick (by decide +kernel), get_set_off _ (by decide +kernel)]
  exact get_set_fit 0 (Nat.lt_trans (Nat.mod_lt _ (by decide)) (by decide))

theorem now_timeTick :
    s.timeTick.now = (s.now + (s.get R.X_TIME_ACC + s.get R.X_TIME_RATE) / 16384000) % 2 ^ 48 := by
  rw [State.now, get_timeTick (by decide +kernel), get_set_self]
  rfl

/-! ### The tasks -/

/-- What the tasks of a tick change. -/
def tickTasksFoot : List Touch := touches [] [] [Foot.hrstnEase, Foot.wdtTick, Foot.staleCheck, Foot.overdueCheck,
  Foot.startStoreProgram]

theorem same_tickTasks {q : Part} (h : Machine.keeps tickTasksFoot q = true) : q.same s s.tickTasks := by
  simp [tickTasksFoot] at h
  obtain ⟨hease, hwatch, hstale, hoverdue, hstore⟩ := h
  have htasks : q.same s (s.hrstnEase.wdtTick.staleCheck).overdueCheck :=
    Part.same_overdueCheck (Part.same_staleCheck (Part.same_wdtTick (Part.same_hrstnEase Part.same_refl hease) hwatch) hstale)
      hoverdue
  unfold tickTasks
  exact Part.same_ite (Part.same_startStoreProgram htasks hstore) htasks

end State

/-- Settles O43: a tick counts, then device time advances, and the tasks after it leave both. -/
theorem idleStep : Obligations.IdleStep := by
  intro s hidle
  have hstep : step s = .next s.tick := by rw [step, hidle]
  refine ⟨s.tick, hstep, ?queue, State.tick_asleep, fun hawake => ?awake⟩
  case queue => exact Eq.trans (Part.same_tick (p := .comp .pending) Part.same_refl (by decide +kernel)) hidle
  case awake =>
    have htasks : ∀ r ∈ [R.X_TICKS, R.X_TIME_ACC, R.DEV_TIME], s.tick.get r = s.tickCounts.timeTick.get r := by
      have hoff : ∀ r ∈ [R.X_TICKS, R.X_TIME_ACC, R.DEV_TIME], keeps State.tickTasksFoot (.key (r.key 0)) = true := by
        decide +kernel
      intro r hr
      rw [State.tick_awake hawake]
      exact Part.same_get (State.same_tickTasks (hoff r hr))
    have hcounts : ∀ r ∈ [R.X_TIME_ACC, R.X_TIME_RATE, R.DEV_TIME], s.tickCounts.get r = s.get r := by
      have hoff : ∀ r ∈ [R.X_TIME_ACC, R.X_TIME_RATE, R.DEV_TIME], keeps State.tickCountsFoot (.key (r.key 0)) = true := by
        decide +kernel
      exact fun r hr => Part.same_get (State.same_tickCounts (hoff r hr))
    have hacc := hcounts R.X_TIME_ACC (by simp)
    have hrate := hcounts R.X_TIME_RATE (by simp)
    refine ⟨?ticks, ?acc, ?now⟩
    case ticks =>
      rw [htasks R.X_TICKS (by simp), Part.same_get (Part.same_timeTick Part.same_refl (by decide +kernel)), State.ticks_tickCounts]
    case acc => rw [htasks R.X_TIME_ACC (by simp), State.acc_timeTick, hacc, hrate]
    case now =>
      have hnow : s.tickCounts.now = s.now := hcounts R.DEV_TIME (by simp)
      rw [← hnow, ← hacc, ← hrate, ← State.now_timeTick]
      exact htasks R.DEV_TIME (by simp)

end Sys2Proof.Machine
end

section
/-! PROOFS. The fault summary (R45). -/

namespace Sys2Proof.Machine

/-- A bit of a sum over addresses each of which adds its bit where its word is non-zero. -/
theorem testBit_foldl_bits (word bit : Nat → Nat) (as : List Nat) (m b : Nat) :
    (as.foldl (fun acc a => if word a = 0 then acc else acc ||| 2 ^ bit a) m).testBit b = true ↔
      m.testBit b = true ∨ ∃ a ∈ as, bit a = b ∧ word a ≠ 0 := by
  induction as generalizing m with
  | nil => simp
  | cons a t ih =>
    rw [List.foldl_cons, ih, List.exists_mem_cons_iff, ← or_assoc]
    refine or_congr_left ?_
    by_cases h : word a = 0
    · simp [h]
    · simp [h, Nat.testBit_or, Nat.testBit_two_pow]

/-- The bits of the map are those of the addresses: bit k is of the block at (k + 2) × 0x0100 (R45). -/
theorem mem_faultMap {a b : Nat} : (∃ p ∈ faultMap, p.1 = b ∧ a ∈ p.2) ↔ a ∈ faultAddrs ∧ a / 256 - 2 = b := by
  have hmap : ∀ p ∈ faultMap, ∀ a ∈ p.2, a ∈ faultAddrs ∧ a / 256 - 2 = p.1 := by decide
  have haddrs : ∀ a ∈ faultAddrs, ∃ p ∈ faultMap, p.1 = a / 256 - 2 ∧ a ∈ p.2 := by decide
  constructor
  · rintro ⟨p, hp, rfl, ha⟩
    exact hmap p hp a ha
  · rintro ⟨ha, rfl⟩
    exact haddrs a ha

theorem State.testBit_faultSum {s : State} {b : Nat} :
    s.faultSum.testBit b = true ↔ ∃ a ∈ faultAddrs, a / 256 - 2 = b ∧ s.rawWord a ≠ 0 := by
  rw [State.faultSum, testBit_foldl_bits s.rawWord (fun a => a / 256 - 2)]
  simp

theorem State.readWord_faultSum (s : State) : s.readWord 0x0002 = s.faultSum := by
  rw [State.readWord, if_neg (by decide +kernel)]
  rfl

/-- Settles O56: the word is the sum over the FAULT registers, whose bits are those of the map. -/
theorem faultSummary : Obligations.FaultSummary := by
  intro s b
  rw [s.readWord_faultSum, State.testBit_faultSum]
  constructor
  · rintro ⟨a, ha, hb, hword⟩
    obtain ⟨p, hp, hbit, hmem⟩ := mem_faultMap.2 ⟨ha, hb⟩
    exact ⟨p, hp, hbit, a, hmem, hword⟩
  · rintro ⟨p, hp, hbit, a, hmem, hword⟩
    obtain ⟨ha, hb⟩ := mem_faultMap.1 ⟨p, hp, hbit, hmem⟩
    exact ⟨a, ha, hb, hword⟩

end Sys2Proof.Machine
end

section
/-! PROOFS. The fast clock, device time's rate and the awake hold (R40, R41, R255, R355). -/

-- One theorem at a time: each decision by the kernel waits for all declarations before it and holds a thread meanwhile.
set_option Elab.async false

namespace Sys2Proof.Machine
namespace State

variable {s : State}

theorem now_lt (s : State) : s.now < 2 ^ 48 := get_lt s R.DEV_TIME 0

/-! ### FAST_CLOCK_START -/

/-- The first half of a start of the fast clock: it runs, and the request is met. -/
def fastOn (s : State) : State := ((s.flag R.DEV_CLK_FAST_ON true).flag R.X_FAST_REQ false).set R.X_FAST_AT s.now

/-- What is owed when the fast clock runs: an hourly snapshot (R260) and the hold of a NACKed wake (R355). -/
def fastOwed (s : State) : State :=
  let s3 := s.iff (s.on R.X_HOUR_DUE) State.hourSnap
  s3.iff (s3.on R.X_HOLD_DUE) (fun t => (t.flag R.X_HOLD_DUE false).flag R.HIF_STATUS_AWAKE true)

/-- What the owed work changes. -/
def fastOwedFoot : List Touch := touches [R.X_HOLD_DUE, R.HIF_STATUS_AWAKE] [] [Foot.hourSnap]

theorem same_fastOwed {q : Part} (h : Machine.keeps fastOwedFoot q = true) : q.same s s.fastOwed := by
  simp [fastOwedFoot, and_assoc] at h
  obtain ⟨hdue, hawake, hsnap⟩ := h
  exact Part.same_iff (Part.same_iff Part.same_refl fun _ hv => Part.same_hourSnap hv hsnap) fun _ hv =>
    Part.same_flag (Part.same_flag hv hdue) hawake

theorem exec_fastClockStart (hreq : s.on R.X_FAST_REQ) (hoff : s.on R.DEV_CLK_FAST_ON = false) (hawake : s.asleepDeep = false) :
    exec .fastClockStart s = .next (s.fastOn.sleepCredit.flag R.X_SLEEPING false).fastOwed :=
  congrArg Host.Outcome.next (if_pos (by simp [hreq, hoff, hawake]))

theorem fastOn_gives : s.fastOn.on R.DEV_CLK_FAST_ON ∧ s.fastOn.on R.X_FAST_REQ = false ∧ s.fastOn.get R.X_FAST_AT = s.now := by
  refine ⟨?_, ?_, get_set_fit 0 s.now_lt⟩
  · rw [fastOn, on_same (Part.same_set (Part.same_flag Part.same_refl (by decide +kernel)) (by decide +kernel))]
    exact on_flag_self _ _ _ _ (by decide)
  · rw [fastOn, on_same (Part.same_set Part.same_refl (by decide +kernel))]
    exact on_flag_self _ _ _ _ (by decide)

theorem fastClockStart_gives (hreq : s.on R.X_FAST_REQ) (hoff : s.on R.DEV_CLK_FAST_ON = false) (hawake : s.asleepDeep = false) :
    Gives (exec .fastClockStart s) (fun t =>
      t.on R.DEV_CLK_FAST_ON ∧ t.on R.X_FAST_REQ = false ∧ t.get R.X_FAST_AT = s.now ∧ t.on R.X_SLEEPING = false) := by
  obtain ⟨hon, hmet, hat⟩ := fastOn_gives (s := s)
  have hkeep : ∀ r ∈ [R.DEV_CLK_FAST_ON, R.X_FAST_REQ, R.X_FAST_AT], (Part.key (r.key 0)).same s.fastOn
      (s.fastOn.sleepCredit.flag R.X_SLEEPING false).fastOwed := by
    have hfoot : ∀ r ∈ [R.DEV_CLK_FAST_ON, R.X_FAST_REQ, R.X_FAST_AT], Machine.keeps Foot.sleepCredit (.key (r.key 0)) = true ∧
        (Touch.reg R.X_SLEEPING).off (.key (r.key 0)) = true ∧ Machine.keeps fastOwedFoot (.key (r.key 0)) = true := by
      decide +kernel
    intro r hr
    obtain ⟨hcredit, hsleeping, howed⟩ := hfoot r hr
    exact Part.same_trans (Part.same_flag (Part.same_sleepCredit Part.same_refl hcredit) hsleeping) (same_fastOwed howed)
  refine ⟨_, exec_fastClockStart hreq hoff hawake, (on_same (hkeep _ (by decide))).trans hon,
    (on_same (hkeep _ (by decide))).trans hmet, (Part.same_get (hkeep _ (by decide))).trans hat, ?_⟩
  rw [on_same (same_fastOwed (by decide +kernel))]
  exact on_flag_self _ _ _ _ (by decide)

/-! ### FAST_CLOCK_STOP -/

theorem fastClockStop_gives (hon : s.on R.DEV_CLK_FAST_ON) (hfree : s.fastHeld = false) :
    Gives (exec .fastClockStop s) (fun t =>
      t.on R.DEV_CLK_FAST_ON = false ∧ t.on R.X_SLEEPING ∧ t.get R.X_SLEEP_AT = s.now) := by
  refine ⟨_, congrArg Host.Outcome.next (if_pos (by simp [hon, hfree])), ?_, ?_, ?_⟩
  · rw [on_same (Part.same_abortSlice (Part.same_set (Part.same_flag Part.same_refl (by decide +kernel)) (by decide +kernel))
      (by decide +kernel))]
    exact on_flag_self _ _ _ _ (by decide)
  · rw [on_same (Part.same_abortSlice (Part.same_set Part.same_refl (by decide +kernel)) (by decide +kernel))]
    exact on_flag_self _ _ _ _ (by decide)
  · rw [Part.same_get (Part.same_abortSlice Part.same_refl (by decide +kernel))]
    exact get_set_fit 0 s.now_lt

/-! ### TIME_RATE_CORRECTION and AWAKE_HOLD_END -/

theorem timeRateCorrection_gives {cycles : Nat} (hon : s.on R.DEV_CLK_FAST_ON) (hfit : cycles < 2 ^ 24) :
    Gives (exec (.timeRateCorrection cycles) s) (fun t =>
      t.get R.X_TIME_RATE = cycles ∧ t.get R.X_CORR_AT = s.now ∧ t.on R.DEV_CLK_CORR_STALE = false) := by
  refine ⟨_, congrArg Host.Outcome.next (if_pos hon), ?_, ?_, on_flag_self _ _ _ _ (by decide)⟩
  · rw [Part.same_get (Part.same_flag (Part.same_set Part.same_refl (by decide +kernel)) (by decide +kernel)),
      Nat.mod_eq_of_lt hfit]
    exact get_set_fit 0 (Nat.lt_trans hfit (by decide))
  · rw [Part.same_get (Part.same_flag Part.same_refl (by decide +kernel))]
    exact get_set_fit 0 s.now_lt

end State

/-- Settles O35: each clause is the lemma on its command above; the awake hold's end is one flag. -/
theorem clocks : Obligations.Clocks := by
  refine ⟨?_, ?_, ?_, ?_⟩
  · rintro s ⟨hreq, hoff, hawake⟩
    exact State.fastClockStart_gives hreq hoff hawake
  · rintro s ⟨hon, hfree⟩
    exact State.fastClockStop_gives hon hfree
  · rintro s cycles ⟨hon, hfit⟩
    exact State.timeRateCorrection_gives hon hfit
  · intro s
    exact ⟨_, rfl, State.on_flag_self _ _ _ _ (by decide)⟩

end Sys2Proof.Machine
end

section
/-! PROOFS. Reading a bit or a two's complement value after it was set, and the bits of a fault that is latched and stands (R11, R20). -/

-- One theorem at a time: each decision by the kernel waits for all declarations before it and holds a thread meanwhile.
set_option Elab.async false

namespace Sys2Proof.Machine

/-- A two's complement code spells the integer that it was made from (R20). -/
theorem signed_unsigned {w : Nat} {x : Int} (hw : 0 < w) (hlo : -(2 ^ (w - 1)) ≤ x) (hhi : x < 2 ^ (w - 1)) :
    signed w (unsigned w x) = x := by
  have hdouble : (2 : Int) ^ w = 2 * 2 ^ (w - 1) := by rw [← pow_succ', Nat.sub_add_cancel hw]
  have hpos : (0 : Int) < 2 ^ (w - 1) := Int.pow_pos (by decide)
  have hcast : ((unsigned w x : Nat) : Int) = x % 2 ^ w := by
    rw [unsigned, Int.toNat_of_nonneg (Int.emod_nonneg _ (by omega))]
  have hlt : unsigned w x < 2 ^ (w - 1) ↔ x % 2 ^ w < 2 ^ (w - 1) := by rw [← hcast]; exact_mod_cast Iff.rfl
  simp only [signed, hcast, hlt]
  rcases Int.lt_or_le x 0 with hneg | hnonneg
  · have hmod : x % 2 ^ w = x + 2 ^ w := by
      rw [← Int.add_emod_right, Int.emod_eq_of_lt (by omega) (by omega)]
    rw [if_neg (by omega)]
    omega
  · rw [Int.emod_eq_of_lt hnonneg (by omega), if_pos hhi]

theorem unsigned_lt (w : Nat) (x : Int) : unsigned w x < 2 ^ w := by
  have hpos : (0 : Int) < 2 ^ w := Int.pow_pos (by decide)
  rw [unsigned, Int.toNat_lt (Int.emod_nonneg _ (by omega))]
  exact_mod_cast Int.emod_lt_of_pos x hpos

theorem testBit_sub_two_pow_self {n b : Nat} (h : n.testBit b = true) : (n - 2 ^ b).testBit b = false := by
  rw [Nat.testBit_eq_decide_div_mod_eq, decide_eq_true_eq] at h
  have hsub : (n - 2 ^ b) / 2 ^ b = n / 2 ^ b - 1 := by
    simpa only [Nat.mul_one] using Nat.sub_mul_div n (2 ^ b) 1
  rw [Nat.testBit_eq_decide_div_mod_eq, hsub, decide_eq_false_iff_not]
  generalize n / 2 ^ b = m at h ⊢
  omega

namespace State

variable {s : State}

theorem getS_setS_self {r : Reg} {x : Int} (i : Nat) (hw : 0 < r.width) (hlo : -(2 ^ (r.width - 1)) ≤ x)
    (hhi : x < 2 ^ (r.width - 1)) : (s.setS r x i).getS r i = x := by
  rw [State.getS, State.setS, get_set_fit i (unsigned_lt _ _), signed_unsigned hw hlo hhi]

theorem bit_setBit_self {r : Reg} {b : Nat} (v : Bool) (i : Nat) (hb : b < r.width) : (s.setBit r b v i).bit r b i = v := by
  simp only [State.bit, State.setBit, get_set_self, Nat.testBit_mod_two_pow, hb, decide_true, Bool.true_and]
  cases v with
  | true => simp [Nat.testBit_or, Nat.testBit_two_pow_self]
  | false =>
    rw [if_neg (by decide)]
    split_ifs with h
    · exact testBit_sub_two_pow_self h
    · exact Bool.eq_false_iff.2 h

/-! ### Faults -/

/-- A bit newly latched sets its register before its record is built and offered. -/
theorem same_latchFrom_setBit {q : Part} {source : Nat} {r : Reg} {b : Nat} (hclear : ¬ s.bit r b = true)
    (hheld : (Touch.comp .held).off q = true) (hoffer : Machine.keeps Foot.offer q = true)
    (halert : Machine.keeps Foot.followAlert q = true) : q.same (s.setBit r b true) (s.latchFrom source r b) := by
  unfold State.latchFrom
  rw [if_neg hclear]
  exact Part.same_followAlert (Part.same_ite (Part.same_offer Part.same_refl hoffer) (Part.same_with_held Part.same_refl hheld))
    halert

theorem bit_latch {r : Reg} {b : Nat} (hb : b < r.width)
    (hoff : Machine.keeps (Foot.offer ++ Foot.followAlert) (.key (r.key 0)) = true) : (s.latch r b).bit r b = true := by
  rw [keeps_append, Bool.and_eq_true] at hoff
  by_cases h : s.bit r b = true
  · rwa [State.latch, State.latchFrom, if_pos h]
  · rw [State.latch, bit_same (same_latchFrom_setBit h rfl hoff.1 hoff.2)]
    exact bit_setBit_self true 0 hb

theorem stands_ended {r : Reg} {b : Nat} (hb : r.lo + b < R.X_COND.width) : (s.ended r b).stands r b = false :=
  bit_setBit_self false _ hb

theorem stands_latchStand {r : Reg} {b : Nat} (hb : r.lo + b < R.X_COND.width)
    (hoff : Machine.keeps (Foot.latch r) (.key (R.X_COND.key (faultIndex r.base))) = true) : (s.latchStand r b).stands r b = true := by
  rw [State.latchStand, State.stands, bit_same (Part.same_latch Part.same_refl hoff)]
  exact bit_setBit_self true _ hb

end State
end Sys2Proof.Machine
end

section
/-! PROOFS. Measurement, the ledger and device time's epoch (R44, R248, R249, R253 to R256, R260, R264, R421). -/

-- One theorem at a time: each decision by the kernel waits for all declarations before it and holds a thread meanwhile.
set_option Elab.async false

namespace Sys2Proof.Machine
namespace State

variable {s : State}

/-- A loop that sets two fields at each index leaves both as it set them. -/
theorem get_each_sets {a b : Reg} {n i : Nat} {f g : Nat → Nat} (hi : i < n) (ha : a.stride ≠ 0 ∧ n ≤ a.count)
    (hb : b.stride ≠ 0 ∧ n ≤ b.count) (hba : (Touch.reg b).off (.key (a.key i)) = true)
    (hab : (Touch.reg a).off (.key (b.key i)) = true) :
    (s.each n (fun j t => (t.set a (f j) j).set b (g j) j)).get a i = f i % 2 ^ a.width ∧
      (s.each n (fun j t => (t.set a (f j) j).set b (g j) j)).get b i = g i % 2 ^ b.width := by
  have hmod : ∀ j m, j < n → n ≤ m → j % m = j := fun j m hj hm => Nat.mod_eq_of_lt (by omega)
  refine each_establishes (Q := fun t => t.get a i = f i % 2 ^ a.width ∧ t.get b i = g i % 2 ^ b.width) hi
    (fun t => ⟨?_, get_set_self ..⟩) fun j t hj hne ⟨hta, htb⟩ => ⟨?_, ?_⟩
  · rw [get_set_off _ hba, get_set_self]
  · rw [get_set_off _ hba, get_set_ne _ (key_ne ha.1 (by rw [hmod i _ hi ha.2, hmod j _ hj ha.2]; exact hne.symm)), hta]
  · rw [get_set_ne _ (key_ne hb.1 (by rw [hmod i _ hi hb.2, hmod j _ hj hb.2]; exact hne.symm)), get_set_off _ hab, htb]

/-! ### ADC_REFERENCE_FAIL (R248) -/

theorem hold_chgHold {r : Reg} {b : Bool} (hw : r.width ≠ 0)
    (hoff : Machine.keeps (touches [R.X_REST_RIDE, R.X_PULSE_OVER] [] [Foot.chgTargets]) (.key (r.key 0)) = true) :
    (s.chgHold r b).on r = b := by
  simp [and_assoc] at hoff
  obtain ⟨hride, hover, htargets⟩ := hoff
  have hkeep : (Part.key (r.key 0)).same (s.flag r b) (s.chgHold r b) := by
    unfold State.chgHold
    exact Part.same_chgTargets (Part.same_iff (Part.same_iff Part.same_refl fun _ hv => Part.same_flag hv hride)
      fun _ hv => Part.same_flag hv hover) htargets
  rw [on_same hkeep, on_flag_self _ _ _ _ hw]

theorem refFail_true :
    s.refFail true = ((s.flag R.X_REF_FAIL true).chgHold R.CHG_HOLD_TEMP true).latchStand R.MEAS_FAULT_REF_FAIL :=
  rfl

theorem refFail_false : s.refFail false = ((s.flag R.X_REF_FAIL false).chgHold R.CHG_HOLD_TEMP
    ((s.flag R.X_REF_FAIL false).on R.X_TEMP_FORBID)).ended R.MEAS_FAULT_REF_FAIL := rfl

theorem refFail_bad : (s.refFail true).on R.X_REF_FAIL ∧ (s.refFail true).on R.CHG_HOLD_TEMP ∧
    (s.refFail true).stands R.MEAS_FAULT_REF_FAIL ∧ (s.refFail true).bit R.MEAS_FAULT_REF_FAIL 0 := by
  refine ⟨?_, ?_, stands_latchStand (by decide) (by decide +kernel), bit_latch (by decide) (by decide +kernel)⟩
  · rw [refFail_true, on_same (Part.same_latchStand (Part.same_chgHold Part.same_refl (by decide +kernel)) (by decide +kernel))]
    exact on_flag_self _ _ _ _ (by decide)
  · rw [refFail_true, on_same (Part.same_latchStand Part.same_refl (by decide +kernel))]
    exact hold_chgHold (by decide) (by decide +kernel)

theorem refFail_good (h : s.on R.X_TEMP_FORBID = false) : (s.refFail false).on R.X_REF_FAIL = false ∧
    (s.refFail false).on R.CHG_HOLD_TEMP = false ∧ (s.refFail false).stands R.MEAS_FAULT_REF_FAIL = false := by
  refine ⟨?_, ?_, stands_ended (by decide)⟩
  · rw [refFail_false, on_same (Part.same_ended (Part.same_chgHold Part.same_refl (by decide +kernel)) (by decide +kernel))]
    exact on_flag_self _ _ _ _ (by decide)
  · rw [refFail_false, on_same (Part.same_ended Part.same_refl (by decide +kernel))]
    refine (hold_chgHold (by decide) (by decide +kernel)).trans ?_
    rw [on_same (Part.same_flag Part.same_refl (by decide +kernel)), h]

/-! ### CC_RESULT (R249) -/

/-- The result of the coulomb counter before its fault is judged. -/
def ccTaken (s : State) (r : Int) (sat : Bool) : State :=
  ((s.setS R.MEAS_CC_RAW r).setS R.MEAS_CC_I (satS16 (s.iCc r))).flag R.MEAS_STATUS_CC_SAT sat

theorem exec_ccResult {raw : Int} (hon : s.on R.DEV_CLK_FAST_ON) : exec (.ccResult raw) s =
    .next (if decide (raw ≤ -131072 ∨ 131071 ≤ raw) = true then
        (s.ccTaken (clampI (-131072) 131071 raw) true).latchStand R.MEAS_FAULT_CC_SAT
      else (s.ccTaken (clampI (-131072) 131071 raw) false).ended R.MEAS_FAULT_CC_SAT) := by
  have hsat : decide (clampI (-131072) 131071 raw ≤ -131072 ∨ 131071 ≤ clampI (-131072) 131071 raw) =
      decide (raw ≤ -131072 ∨ 131071 ≤ raw) := by
    refine decide_eq_decide.2 ?_
    simp only [clampI]
    omega
  refine congrArg Host.Outcome.next ((if_pos hon).trans ?_)
  simp only [hsat]
  cases decide (raw ≤ -131072 ∨ 131071 ≤ raw) <;> rfl

theorem raw_ccTaken {r : Int} {sat : Bool} (hlo : -131072 ≤ r) (hhi : r ≤ 131071) :
    (s.ccTaken r sat).getS R.MEAS_CC_RAW = r := by
  rw [ccTaken, getS_same (Part.same_flag (Part.same_setS Part.same_refl (by decide +kernel)) (by decide +kernel))]
  exact getS_setS_self 0 (by decide) (Int.le_trans (by decide) hlo) (Int.lt_of_le_of_lt hhi (by decide))

theorem ccResult_gives {raw : Int} (hon : s.on R.DEV_CLK_FAST_ON) : Gives (exec (.ccResult raw) s) (fun t =>
    t.getS R.MEAS_CC_RAW = clampI (-131072) 131071 raw ∧ t.on R.MEAS_STATUS_CC_SAT = decide (raw ≤ -131072 ∨ 131071 ≤ raw) ∧
      t.stands R.MEAS_FAULT_CC_SAT = decide (raw ≤ -131072 ∨ 131071 ≤ raw)) := by
  refine ⟨_, exec_ccResult hon, ?_⟩
  have hraw : ∀ sat, (s.ccTaken (clampI (-131072) 131071 raw) sat).getS R.MEAS_CC_RAW = clampI (-131072) 131071 raw :=
    fun sat => raw_ccTaken (by simp only [clampI]; omega) (by simp only [clampI]; omega)
  cases decide (raw ≤ -131072 ∨ 131071 ≤ raw) with
  | true =>
    refine ⟨(getS_same (Part.same_latchStand Part.same_refl (by decide +kernel))).trans (hraw true),
      (on_same (Part.same_latchStand Part.same_refl (by decide +kernel))).trans (on_flag_self _ _ _ _ (by decide)),
      stands_latchStand (by decide) (by decide +kernel)⟩
  | false =>
    refine ⟨(getS_same (Part.same_ended Part.same_refl (by decide +kernel))).trans (hraw false),
      (on_same (Part.same_ended Part.same_refl (by decide +kernel))).trans (on_flag_self _ _ _ _ (by decide)),
      stands_ended (by decide)⟩

/-! ### LEDGER_UPDATE (R247, R253, R421) -/

/-- The means of the bus taken: SYSS with its lowest value of Ride-Through, and BATS. -/
def ledgerBus (s : State) (bus : BusMeans) : State :=
  (((s.abortSlice 0x40).set R.X_SYSS bus.sys).minSys bus.sys).set R.MEAS_VBAT (min bus.bats 65535)

/-- The battery current and VAUX taken. -/
def ledgerAux (s : State) (ibat : Int) (auxV auxI : Nat) : State :=
  ((s.setS R.MEAS_IBAT (satS16 ibat)).set R.AUX_VAUX_V auxV).set R.AUX_VAUX_I auxI

/-- The inputs' voltages and currents taken. -/
def ledgerInputs (s : State) (vin iin : Quad) : State :=
  s.each 4 (fun i t => (t.set R.INn_V (vin.at i) i).set R.INn_I (iin.at i) i)

/-- The ports' voltages and currents taken, and the limits that bind. -/
def ledgerPorts (s : State) (lineV lineI : Quad) (auxI : Nat) : State :=
  let s3 := s.each 2 (fun p t => (t.set R.LINE_x_VMEAS (lineV.at p) p).set R.LINE_x_I (lineI.at p) p)
  let lim := fun p => s3.portHigh p && decide (s3.get R.LINE_x_ILIM p * 25 ≤ s3.get R.LINE_x_I p)
  ((s3.flag R.LINE_STATUS_A_ILIM (lim 0)).flag R.LINE_STATUS_B_ILIM (lim 1)).flag R.AUX_STATUS_VAUX_ILIM
    (s3.on R.AUX_STATUS_VAUX_ON && decide (64 ≤ auxI))

/-- VAUX follows its set point, the offset's age is checked, and the ledger counts. -/
def ledgerCounts (s : State) (bus : BusMeans) (vin iin : Quad) : State :=
  let s4 := s.vauxMove.staleCheck
  let ps := s4.powers bus.bats vin iin
  let s5 := if s4.on R.X_REF_FAIL then s4 else
    (s4.each 12 (fun k t => t.ledgerAdd k (ps.getD k 0 * 100))).ledgerBat (ps.getD 4 0 * 100) (ps.getD 5 0 * 100)
  s5.ledgerFollow

/-- What comes after the inputs were taken. -/
def ledgerRest (s : State) (bus : BusMeans) (vin iin lineV lineI : Quad) (auxI : Nat) : State :=
  (s.ledgerPorts lineV lineI auxI).ledgerCounts bus vin iin

section
variable {bus : BusMeans} {ibat : Int} {vin iin lineV lineI : Quad} {auxV auxI : Nat}

theorem exec_ledgerUpdate (hon : s.on R.DEV_CLK_FAST_ON) :
    exec (.ledgerUpdate bus ibat vin iin lineV lineI auxV auxI) s =
      .next ((((s.ledgerBus bus).ledgerAux ibat (if s.on R.AUX_STATUS_VAUX_ON then auxV else 0)
        (if s.on R.AUX_STATUS_VAUX_ON then auxI else 0)).ledgerInputs vin iin).ledgerRest bus vin iin lineV lineI auxI) :=
  congrArg Host.Outcome.next (if_pos hon)

/-- What comes after the inputs were taken changes. -/
def ledgerRestFoot : List Touch := touches [R.LINE_x_VMEAS, R.LINE_x_I, R.LINE_STATUS_A_ILIM, R.LINE_STATUS_B_ILIM,
  R.AUX_STATUS_VAUX_ILIM] [] [Foot.vauxMove, Foot.staleCheck, Foot.ledgerAdd, Foot.ledgerBat, Foot.ledgerFollow]

theorem same_ledgerRest {q : Part} (h : Machine.keeps ledgerRestFoot q = true) :
    q.same s (s.ledgerRest bus vin iin lineV lineI auxI) := by
  simp [ledgerRestFoot, and_assoc] at h
  obtain ⟨hvolt, hamp, ha, hb, haux, hmove, hstale, hadd, hbat, hfollow⟩ := h
  have hports : q.same s (s.ledgerPorts lineV lineI auxI) :=
    Part.same_flag (Part.same_flag (Part.same_flag (Part.same_each Part.same_refl fun _ _ hu =>
      Part.same_set (Part.same_set hu hvolt) hamp) ha) hb) haux
  have hcheck : q.same s (s.ledgerPorts lineV lineI auxI).vauxMove.staleCheck :=
    Part.same_staleCheck (Part.same_vauxMove hports hmove) hstale
  unfold ledgerRest ledgerCounts
  exact Part.same_ledgerFollow (Part.same_ite hcheck (Part.same_ledgerBat (Part.same_each hcheck fun _ _ hu =>
    Part.same_ledgerAdd hu hadd) hbat)) hfollow

/-- What the inputs and what comes after them change. -/
def ledgerInputsFoot : List Touch := touches [R.INn_V, R.INn_I] [] [ledgerRestFoot]

/-- What the battery current, VAUX and what comes after them change. -/
def ledgerAuxFoot : List Touch := touches [R.MEAS_IBAT, R.AUX_VAUX_V, R.AUX_VAUX_I] [] [ledgerInputsFoot]

theorem same_ledgerInputs {q : Part} (h : Machine.keeps ledgerInputsFoot q = true) :
    q.same s ((s.ledgerInputs vin iin).ledgerRest bus vin iin lineV lineI auxI) := by
  simp [ledgerInputsFoot, and_assoc] at h
  obtain ⟨hvolt, hamp, hrest⟩ := h
  exact Part.same_trans (Part.same_each Part.same_refl fun _ _ hu => Part.same_set (Part.same_set hu hvolt) hamp)
    (same_ledgerRest hrest)

theorem same_ledgerAux {q : Part} {v i : Nat} (h : Machine.keeps ledgerAuxFoot q = true) :
    q.same s (((s.ledgerAux ibat v i).ledgerInputs vin iin).ledgerRest bus vin iin lineV lineI auxI) := by
  simp [ledgerAuxFoot, and_assoc] at h
  obtain ⟨hbat, hvolt, hamp, hinputs⟩ := h
  exact Part.same_trans (Part.same_set (Part.same_set (Part.same_setS Part.same_refl hbat) hvolt) hamp) (same_ledgerInputs hinputs)

theorem ledgerBus_gives : (s.ledgerBus bus).get R.X_SYSS = bus.sys % 65536 ∧
    (s.ledgerBus bus).get R.MEAS_VBAT = min bus.bats 65535 := by
  refine ⟨?_, get_set_fit 0 (Nat.lt_of_le_of_lt (Nat.min_le_right ..) (by decide))⟩
  rw [ledgerBus, Part.same_get (Part.same_set (Part.same_minSys Part.same_refl (by decide +kernel)) (by decide +kernel))]
  exact get_set_self ..

theorem minSys_ledgerBus (hride : s.on R.SUP_STATUS_RIDE) (hfit : bus.sys < 65536) :
    (s.ledgerBus bus).get R.SUP_MIN_SYS = min (s.get R.SUP_MIN_SYS) bus.sys := by
  have hbefore : ∀ r ∈ [R.SUP_STATUS_RIDE, R.SUP_MIN_SYS], (Part.key (r.key 0)).same s
      ((s.abortSlice 0x40).set R.X_SYSS bus.sys) := by
    have hoff : ∀ r ∈ [R.SUP_STATUS_RIDE, R.SUP_MIN_SYS], Machine.keeps Foot.abortSlice (.key (r.key 0)) = true ∧
        (Touch.reg R.X_SYSS).off (.key (r.key 0)) = true := by decide +kernel
    exact fun r hr => Part.same_set (Part.same_abortSlice Part.same_refl (hoff r hr).1) (hoff r hr).2
  rw [ledgerBus, Part.same_get (Part.same_set Part.same_refl (by decide +kernel)), State.minSys,
    if_pos ((on_same (hbefore _ (by decide))).trans hride), Part.same_get (hbefore R.SUP_MIN_SYS (by decide))]
  exact get_set_fit 0 (Nat.lt_of_le_of_lt (Nat.min_le_right ..) hfit)

theorem ibat_ledgerAux : (s.ledgerAux ibat auxV auxI).getS R.MEAS_IBAT = satS16 ibat := by
  rw [ledgerAux, getS_same (Part.same_set (Part.same_set Part.same_refl (by decide +kernel)) (by decide +kernel))]
  exact getS_setS_self 0 (by decide) (by simp only [satS16, clampI, R.MEAS_IBAT]; omega)
    (by simp only [satS16, clampI, R.MEAS_IBAT]; omega)

theorem inputs_ledgerInputs (i : Fin 4) : (s.ledgerInputs vin iin).get R.INn_V i = vin.at i % 65536 ∧
    (s.ledgerInputs vin iin).get R.INn_I i = iin.at i % 65536 := by
  have hoff : ∀ i : Fin 4, (Touch.reg R.INn_I).off (.key (R.INn_V.key i)) = true ∧
      (Touch.reg R.INn_V).off (.key (R.INn_I.key i)) = true := by decide +kernel
  exact get_each_sets i.isLt (by decide) (by decide) (hoff i).1 (hoff i).2

theorem ledgerUpdate_gives (hon : s.on R.DEV_CLK_FAST_ON) :
    Gives (exec (.ledgerUpdate bus ibat vin iin lineV lineI auxV auxI) s) (fun t =>
      t.get R.X_SYSS = bus.sys % 65536 ∧ t.get R.MEAS_VBAT = min bus.bats 65535 ∧ t.getS R.MEAS_IBAT = satS16 ibat ∧
        (∀ i : Fin 4, t.get R.INn_V i = vin.at i % 65536 ∧ t.get R.INn_I i = iin.at i % 65536) ∧
        (s.on R.SUP_STATUS_RIDE → bus.sys < 65536 → t.get R.SUP_MIN_SYS = min (s.get R.SUP_MIN_SYS) bus.sys)) := by
  have hbus : ∀ r ∈ [R.X_SYSS, R.MEAS_VBAT, R.SUP_MIN_SYS], Machine.keeps ledgerAuxFoot (.key (r.key 0)) = true := by
    decide +kernel
  have hinputs : ∀ i : Fin 4, Machine.keeps ledgerRestFoot (.key (R.INn_V.key i)) = true ∧
      Machine.keeps ledgerRestFoot (.key (R.INn_I.key i)) = true := by decide +kernel
  refine ⟨_, exec_ledgerUpdate hon, ?_, ?_, ?_, fun i => ⟨?_, ?_⟩, fun hride hfit => ?_⟩
  · exact (Part.same_get (same_ledgerAux (hbus _ (by decide)))).trans ledgerBus_gives.1
  · exact (Part.same_get (same_ledgerAux (hbus _ (by decide)))).trans ledgerBus_gives.2
  · exact (getS_same (same_ledgerInputs (by decide +kernel))).trans ibat_ledgerAux
  · exact (Part.same_get (same_ledgerRest (hinputs i).1)).trans (inputs_ledgerInputs i).1
  · exact (Part.same_get (same_ledgerRest (hinputs i).2)).trans (inputs_ledgerInputs i).2
  · exact (Part.same_get (same_ledgerAux (hbus _ (by decide)))).trans (minSys_ledgerBus hride hfit)

end

/-! ### The commands of the ledger (R256, R260, R264) -/

theorem clearCounters_gives (k : Fin 12) : s.clearCounters.get R.LDG_COUNTERk k = 0 ∧ s.clearCounters.get R.X_LDG_ACC k = 0 := by
  have hoff : ∀ k : Fin 12, (Touch.reg R.X_LDG_ACC).off (.key (R.LDG_COUNTERk.key k)) = true ∧
      (Touch.reg R.LDG_COUNTERk).off (.key (R.X_LDG_ACC.key k)) = true := by decide +kernel
  exact get_each_sets (f := fun _ => 0) (g := fun _ => 0) k.isLt (by decide) (by decide) (hoff k).1 (hoff k).2

theorem snapSeq_snapshot (trigger : Nat) :
    (s.snapshot trigger).get R.LDG_SNAP_SEQ = (s.get R.LDG_SNAP_SEQ + 1) % 2 ^ R.LDG_SNAP_SEQ.width := by
  have hbefore : (Part.key (R.LDG_SNAP_SEQ.key 0)).same s s.sleepCredit.ledgerFollow :=
    Part.same_ledgerFollow (Part.same_sleepCredit Part.same_refl (by decide +kernel)) (by decide +kernel)
  rw [State.snapshot, Part.same_get (Part.same_each Part.same_refl fun _ _ hv => Part.same_record hv (by decide +kernel)),
    get_set_self, Part.same_get hbefore]

/-- The ledger's words follow without clearing EREM_VALID while a usable energy is set (R256). -/
theorem valid_ledgerFollow (h : s.get R.LDG_BAT_USABLE ≠ 0) :
    s.ledgerFollow.on R.LDG_STATUS_EREM_VALID = s.on R.LDG_STATUS_EREM_VALID := by
  have hstay : s.iff (s.get R.LDG_BAT_USABLE == 0) (fun t => t.flag R.LDG_STATUS_EREM_VALID false) = s :=
    if_neg (by simpa using h)
  unfold State.ledgerFollow
  simp only [hstay]
  refine on_same (Part.same_flag (Part.same_flag (Part.same_set (Part.same_set (Part.same_set Part.same_refl ?_) ?_) ?_) ?_) ?_)
  all_goals decide +kernel

theorem eRemWrite_gives {v : Nat} (hle : v ≤ s.get R.LDG_BAT_USABLE) (hpos : 0 < s.get R.LDG_BAT_USABLE) :
    (s.eRemWrite v).get R.LDG_E_REM = v ∧ (s.eRemWrite v).on R.LDG_STATUS_EREM_VALID := by
  rw [State.eRemWrite, if_pos hle]
  constructor
  · rw [Part.same_get (Part.same_ledgerFollow (Part.same_set (Part.same_flag (Part.same_set Part.same_refl (by decide +kernel))
      (by decide +kernel)) (by decide +kernel)) (by decide +kernel))]
    exact get_set_fit 0 (Nat.lt_of_le_of_lt hle (get_lt s R.LDG_BAT_USABLE 0))
  · have husable : (Part.key (R.LDG_BAT_USABLE.key 0)).same s ((((s.set R.LDG_E_REM v).set R.X_EREM_ACC 0).flag
        R.LDG_STATUS_EREM_VALID true).set R.X_EREM_AT (s.now + 1)) := by
      refine Part.same_set (Part.same_flag (Part.same_set (Part.same_set Part.same_refl ?_) ?_) ?_) ?_
      all_goals decide +kernel
    rw [valid_ledgerFollow (by rw [Part.same_get husable]; omega), on_same (Part.same_set Part.same_refl (by decide +kernel))]
    exact on_flag_self _ _ _ _ (by decide)

theorem epochWrite_gives {v : Nat} (hfit : v < 2 ^ 64) :
    (s.epochWrite v).get R.DEV_EPOCH = v ∧ (s.epochWrite v).on R.DEV_CLK_EPOCH_SET := by
  refine ⟨?_, on_flag_self _ _ _ _ (by decide)⟩
  rw [State.epochWrite, Part.same_get (Part.same_flag Part.same_refl (by decide +kernel))]
  exact get_set_fit 0 hfit

end State

/-- Settles O19: each clause is the lemma on its command above. -/
theorem measurement : Obligations.Measurement := by
  refine ⟨?_, ?_, ?_, ?_, ?_, ?_, ?_⟩
  · intro s bad hforbid
    cases bad with
    | true =>
      obtain ⟨hfail, hhold, hstands, hlatched⟩ := State.refFail_bad (s := s)
      exact ⟨_, rfl, hfail, hhold, hstands, fun _ => hlatched⟩
    | false =>
      obtain ⟨hfail, hhold, hstands⟩ := State.refFail_good hforbid
      exact ⟨_, rfl, hfail, hhold, hstands, nofun⟩
  · exact fun s raw hon => State.ccResult_gives hon
  · exact fun s bus ibat vin iin lineV lineI auxV auxI hon => State.ledgerUpdate_gives hon
  · exact fun s => ⟨_, rfl, State.clearCounters_gives⟩
  · exact fun s => ⟨_, rfl, State.snapSeq_snapshot 2⟩
  · rintro s v ⟨hle, hpos⟩
    exact ⟨_, rfl, State.eRemWrite_gives hle hpos⟩
  · exact fun s v hfit => ⟨_, rfl, State.epochWrite_gives hfit⟩

end Sys2Proof.Machine
end

section
/-! PROOFS. The mode and the previous mode (R48, R49, R60, R62): what a selection, a change of mode, a start and the loss of supply
leave in them, and which commands change them. -/

-- One theorem at a time: each decision by the kernel waits for all declarations before it and holds a thread meanwhile.
set_option Elab.async false

namespace Sys2Proof.Machine

/-- The mode, the mode before the last change, and the mode kept over a cut-off (R205), as parts of the state. -/
abbrev modePart : Part := .key (R.MODE_STATUS_MODE.key 0)
abbrev prevPart : Part := .key (R.MODE_STATUS_PREV.key 0)
abbrev cutPart : Part := .key (R.X_CUT_MODE.key 0)

namespace State

variable {s t : State}

/-- The mode in force is one of R48 but Ship. -/
def running (s : State) : Prop := 1 ≤ s.get R.MODE_STATUS_MODE ∧ s.get R.MODE_STATUS_MODE ≤ 0xB

theorem running_same (hs : s.running) (h : modePart.same s t) : t.running := by
  unfold running
  rw [Part.same_get h]
  exact hs

theorem running_of_mode {m : Nat} (hm : 1 ≤ m ∧ m ≤ 0xB) (h : t.get R.MODE_STATUS_MODE = m) : t.running := by
  rwa [running, h]

/-- The mode and the previous mode are as before. -/
def modesSame (s t : State) : Prop :=
  t.get R.MODE_STATUS_MODE = s.get R.MODE_STATUS_MODE ∧ t.get R.MODE_STATUS_PREV = s.get R.MODE_STATUS_PREV

theorem modesSame_refl : s.modesSame s := ⟨rfl, rfl⟩

theorem modesSame.trans {u : State} (h : s.modesSame u) (hu : u.modesSame t) : s.modesSame t :=
  ⟨hu.1.trans h.1, hu.2.trans h.2⟩

theorem modesSame_of_parts (h : ∀ p ∈ [modePart, prevPart], p.same s t) : s.modesSame t :=
  ⟨Part.same_get (h modePart (by simp)), Part.same_get (h prevPart (by simp))⟩

/-- A selection has put a mode in force that is not Ship; where it changed the mode, the old one is the previous mode. -/
def reselected (s t : State) : Prop := t.running ∧
  (t.get R.MODE_STATUS_PREV = s.get R.MODE_STATUS_PREV ∨ t.get R.MODE_STATUS_PREV = s.get R.MODE_STATUS_MODE)

theorem reselected_after {u : State} (hu : s.modesSame u) (h : u.reselected t) : s.reselected t := by
  obtain ⟨hmode, hprev⟩ := hu
  unfold reselected
  rw [← hmode, ← hprev]
  exact h

theorem reselected_same {u : State} (h : s.reselected u) (hkeep : ∀ p ∈ [modePart, prevPart], p.same u t) : s.reselected t := by
  obtain ⟨hrun, hprev⟩ := h
  refine ⟨running_same hrun (hkeep _ (by simp)), ?_⟩
  rw [(modesSame_of_parts hkeep).2]
  exact hprev

/-! ### The selection of the mode (R49) -/

theorem modeNow_codes (s : State) (ride : Bool) : 1 ≤ s.modeNow ride ∧ s.modeNow ride ≤ 0xB := by
  unfold State.modeNow
  split_ifs <;> decide

/-- After a change of mode the new mode is in force and the old one is the previous mode (R49, R57). -/
theorem modes_changeMode {new cause : Nat} (hnew : new < 16) : (s.changeMode new cause).get R.MODE_STATUS_MODE = new ∧
    (s.changeMode new cause).get R.MODE_STATUS_PREV = s.get R.MODE_STATUS_MODE := by
  have hkeep : ∀ p ∈ [modePart, prevPart], p.same ((s.sleepCredit.set R.MODE_STATUS_MODE new).set R.MODE_STATUS_PREV
      (s.get R.MODE_STATUS_MODE)) (s.changeMode new cause) := by
    have hoff : ∀ p ∈ [modePart, prevPart], Machine.keeps Foot.modeEntry p = true ∧ Machine.keeps Foot.modeRecord p = true ∧
        Machine.keeps Foot.safeRecord p = true ∧ Machine.keeps Foot.deadFollow p = true := by decide +kernel
    intro p hp
    obtain ⟨hentry, hrecord, hsafe, hdead⟩ := hoff p hp
    exact Part.same_deadFollow (Part.same_iff (Part.same_modeRecord (Part.same_modeEntry Part.same_refl hentry) hrecord)
      fun _ hv => Part.same_safeRecord hv hsafe) hdead
  obtain ⟨hmode, hprev⟩ := modesSame_of_parts hkeep
  rw [hmode, hprev]
  refine ⟨?_, get_set_fit 0 (get_lt s R.MODE_STATUS_MODE 0)⟩
  rw [get_set_off _ (by decide +kernel)]
  exact get_set_fit 0 hnew

theorem reselected_changeMode {new cause : Nat} (hnew : 1 ≤ new ∧ new ≤ 0xB) : s.reselected (s.changeMode new cause) := by
  obtain ⟨hmode, hprev⟩ := modes_changeMode (s := s) (new := new) (cause := cause) (by omega)
  exact ⟨running_of_mode hnew hmode, .inr hprev⟩

/-- The selection of an evaluation, with the records and the snapshot that belong to it (R49, R58, R260). -/
def modeSelect (s : State) : State :=
  if s.modeNow true != s.get R.MODE_STATUS_MODE then
    (s.sameMode [0x19]).changeMode (s.modeNow true) (s.changeCause (s.get R.MODE_STATUS_MODE) (s.modeNow true))
  else if s.ownRecords then (s.sameMode [0x07, 0x08, 0x19]).modeSnap (s.get R.JNL_NEXT_SEQ) else s.owedSnap

theorem modeEvaluate_eq (s : State) :
    s.modeEvaluate = ((s.modeTerms.modeSelect.set R.X_CAUSES 0).flag R.X_WOKEN false).modeFollow := rfl

theorem reselected_modeSelect : s.reselected s.modeSelect := by
  have hoff : ∀ p ∈ [modePart, prevPart], Machine.keeps Foot.sameMode p = true ∧ Machine.keeps Foot.modeSnap p = true ∧
      Machine.keeps Foot.owedSnap p = true := by decide +kernel
  unfold modeSelect
  split
  case isTrue =>
    have hrecords : s.modesSame (s.sameMode [0x19]) :=
      modesSame_of_parts fun p hp => Part.same_sameMode Part.same_refl (hoff p hp).1
    exact reselected_after hrecords (reselected_changeMode (modeNow_codes s true))
  case isFalse hstays =>
    have hmode : s.modeNow true = s.get R.MODE_STATUS_MODE := by simpa using hstays
    refine reselected_same ⟨running_of_mode (modeNow_codes s true) hmode.symm, .inl rfl⟩ fun p hp => ?_
    obtain ⟨hrecords, hsnap, howed⟩ := hoff p hp
    exact Part.same_ite (Part.same_modeSnap (Part.same_sameMode Part.same_refl hrecords) hsnap)
      (Part.same_owedSnap Part.same_refl howed)

theorem reselected_modeEvaluate : s.reselected s.modeEvaluate := by
  have hoff : ∀ p ∈ [modePart, prevPart], Machine.keeps Foot.modeTerms p = true ∧ (Touch.reg R.X_CAUSES).off p = true ∧
      (Touch.reg R.X_WOKEN).off p = true ∧ Machine.keeps Foot.modeFollow p = true := by decide +kernel
  have hterms : s.modesSame s.modeTerms := modesSame_of_parts fun p hp => Part.same_modeTerms Part.same_refl (hoff p hp).1
  rw [modeEvaluate_eq]
  refine reselected_same (reselected_after hterms reselected_modeSelect) fun p hp => ?_
  obtain ⟨-, hcauses, hwoken, hfollow⟩ := hoff p hp
  exact Part.same_modeFollow (Part.same_flag (Part.same_set Part.same_refl hcauses) hwoken) hfollow

/-! ### The start of the logic (R39, R62) -/

theorem running_startMode {old : Nat} : (s.startMode old).running := by
  have hmode : (s.startMode old).get R.MODE_STATUS_MODE = s.modeTerms.modeNow true := by
    have hcodes := modeNow_codes s.modeTerms true
    have hkeep : modePart.same (s.modeTerms.set R.MODE_STATUS_MODE (s.modeTerms.modeNow true)) (s.startMode old) :=
      Part.same_set (Part.same_iff Part.same_refl fun _ hv => Part.same_modeEntry hv (by decide +kernel)) (by decide +kernel)
    rw [Part.same_get hkeep]
    exact get_set_fit 0 (show s.modeTerms.modeNow true < 2 ^ 4 by omega)
  exact running_of_mode (modeNow_codes _ _) hmode

section
variable {worn : List Nat} {k nacks old cause sys bats fail : Nat}

theorem running_porStart : (s.porStart worn sys bats).running :=
  running_same running_startMode (same_startEnd (by decide +kernel))

theorem running_exitStart : (s.exitStart nacks old cause worn sys bats).running :=
  running_same (running_same running_startMode (Part.same_set Part.same_refl (by decide +kernel)))
    (same_startEnd (by decide +kernel))

/-- A Ship exit names the mode that it leaves as the previous one (R62, R205). -/
theorem prev_exitStart (hold : old < 16) :
    (s.exitStart nacks old cause worn sys bats).get R.MODE_STATUS_PREV = old :=
  (Part.same_get (same_startEnd (by decide +kernel))).trans (get_set_fit 0 hold)

/-- A loss of supply leaves the reset values of R71: Yard Sleep, and no previous mode. -/
theorem modes_supplyLost {torn : Bool} : (s.supplyLost torn).get R.MODE_STATUS_MODE = 1 ∧
    (s.supplyLost torn).get R.MODE_STATUS_PREV = 0 := by
  obtain ⟨u, hu⟩ : ∃ u : State, s.supplyLost torn =
      ((u.keepFields (fun k => clsOfKey k == Cls.otp || clsOfKey k == Cls.nv)).flag R.X_DOWN true).hrstnFollow := ⟨_, rfl⟩
  rw [hu]
  constructor
  · rw [Part.same_get (Part.same_hrstnFollow (Part.same_flag Part.same_refl (by decide +kernel)) (by decide +kernel)),
      get_keepFields_dropped (by decide +kernel)]
    rfl
  · rw [Part.same_get (Part.same_hrstnFollow (Part.same_flag Part.same_refl (by decide +kernel)) (by decide +kernel)),
      get_keepFields_dropped (by decide +kernel)]
    rfl

/-! ### The end of a device restart (R397) -/

theorem reselected_restartMode : s.reselected (s.restartMode (s.get R.MODE_STATUS_MODE) cause) := by
  have hoff : ∀ p ∈ [modePart, prevPart], Machine.keeps Foot.startSafe p = true ∧ (Touch.reg R.X_CAUSES).off p = true ∧
      Machine.keeps Foot.modeFollow p = true := by decide +kernel
  have hcodes := modeNow_codes s true
  refine reselected_same ?selected fun p hp =>
    Part.same_modeFollow (Part.same_set Part.same_refl (hoff p hp).2.1) (hoff p hp).2.2
  split
  case isTrue hstays =>
    exact reselected_same ⟨running_of_mode hcodes hstays.symm, .inl rfl⟩ fun p hp =>
      Part.same_startSafe Part.same_refl (hoff p hp).1
  case isFalse => exact reselected_changeMode hcodes

/-- The modes are kept up to the selection at the end of a restart. -/
theorem modesSame_restartRetest : s.modesSame (s.restartRetest fail) := by
  refine modesSame_of_parts fun p hp => ?_
  have hoff : ∀ p ∈ [modePart, prevPart], Machine.keeps Foot.logicReset p = true ∧
      (Touch.reg R.BIST_Pp_PROG_PASSED).off p = true ∧ Machine.keeps Foot.recovered p = true ∧
      Machine.keeps Foot.lbist p = true ∧ Machine.keeps Foot.retest p = true := by decide +kernel
  obtain ⟨hreset, hpassed, hrecovered, hlbist, hretest⟩ := hoff p hp
  exact Part.same_retest (Part.same_iff (Part.same_iff (same_restartReset hreset hpassed) fun _ hv =>
    Part.same_recovered hv hrecovered) fun _ hv => Part.same_lbist hv hlbist) hretest

theorem modesSame_restartTerms {ride disabled : Bool} :
    s.modesSame ((s.startLogic sys bats).restartRecords ride disabled).modeTerms := by
  refine modesSame_of_parts fun p hp => ?_
  have hoff : ∀ p ∈ [modePart, prevPart], Machine.keeps Foot.startLogic p = true ∧
      Machine.keeps restartRecordsFoot p = true ∧ Machine.keeps Foot.modeTerms p = true := by decide +kernel
  obtain ⟨hlogic, hrecords, hterms⟩ := hoff p hp
  exact Part.same_modeTerms (Part.same_trans (Part.same_startLogic Part.same_refl hlogic) (same_restartRecords hrecords)) hterms

theorem modesSame_heldFollow : s.modesSame s.heldFollow := by
  refine modesSame_of_parts fun p hp => Part.same_heldFollow Part.same_refl ?_
  revert p
  decide +kernel

theorem modes_restartEnd : s.modesSame (s.restartEnd fail sys bats) ∨ s.reselected (s.restartEnd fail sys bats) := by
  rw [restartEnd_eq]
  split
  case isTrue => exact .inl (modesSame_restartRetest.trans modesSame_heldFollow)
  case isFalse =>
    have hterms := (modesSame_restartRetest (s := s) (fail := fail)).trans (modesSame_restartTerms (sys := sys) (bats := bats)
      (ride := s.on R.MODE_STATUS_RIDE_ACTIVE) (disabled := !s.on R.WDT_STATUS_ENABLED))
    rw [← hterms.1]
    exact .inr (reselected_after hterms reselected_restartMode)

end

/-! ### What each command that may change the mode leaves in the modes -/

section
variable {byInput : Bool} {exit : ExitRun} {run : StartRun} {loss : SupplyLoss} {fail : Fin 256} {k sys bats : Nat}

theorem mode_of_awake (h : s.asleepDeep = false) : s.get R.MODE_STATUS_MODE ≠ 0 := by
  intro hship
  simp [State.asleepDeep, hship] at h

/-- MODE_EVALUATE selects the mode, except where nothing is evaluated (R49). -/
theorem modes_exec_modeEvaluate (hc : exec (.modeEvaluate sys bats) s = .next t) :
    s.modesSame t ∨ s.get R.MODE_STATUS_MODE ≠ 0 ∧ s.reselected t := by
  have hexec : exec (.modeEvaluate sys bats) s = .next (if s.asleepDeep || s.on R.X_HELD || s.on R.X_RESTARTING then s
      else ((s.set R.X_SYSS sys).set R.X_BATS bats).modeEvaluate) := rfl
  cases hexec.symm.trans hc
  split
  case isTrue => exact .inl modesSame_refl
  case isFalse hawake =>
    simp only [Bool.or_eq_true, not_or, Bool.not_eq_true] at hawake
    obtain ⟨⟨hdeep, -⟩, -⟩ := hawake
    have hmeasured : s.modesSame ((s.set R.X_SYSS sys).set R.X_BATS bats) :=
      modesSame_of_parts fun p hp => Part.same_set (Part.same_set Part.same_refl (by revert p; decide +kernel))
        (by revert p; decide +kernel)
    exact .inr ⟨mode_of_awake hdeep, reselected_after hmeasured reselected_modeEvaluate⟩

/-- DEVICE_RESTART_RESET selects the mode where it runs to its end, and never runs in Ship (R25, R397). -/
theorem modes_exec_deviceRestartReset (hc : exec (.deviceRestartReset fail sys bats) s = .next t) :
    s.modesSame t ∨ s.get R.MODE_STATUS_MODE ≠ 0 ∧ s.reselected t := by
  have hexec : exec (.deviceRestartReset fail sys bats) s = .next (if s.get R.X_RESTART = 0 ∨ s.asleepDeep ∨ s.on R.X_HELD then s
      else if s.restartBegin.restartReady then s.restartBegin.restartEnd fail sys bats else s.restartBegin) := rfl
  have hbegin : s.modesSame s.restartBegin :=
    modesSame_of_parts fun p hp => Part.same_restartBegin Part.same_refl (by revert p; decide +kernel)
  cases hexec.symm.trans hc
  split_ifs with hskip
  · exact .inl modesSame_refl
  · have hdeep : s.asleepDeep = false := by
      simp only [not_or, Bool.not_eq_true] at hskip
      exact hskip.2.1
    rcases modes_restartEnd (s := s.restartBegin) (fail := fail) (sys := sys) (bats := bats) with hsame | hselected
    · exact .inl (hbegin.trans hsame)
    · exact .inr ⟨mode_of_awake hdeep, reselected_after hbegin hselected⟩
  · exact .inl hbegin

/-- SHIP_ENTRY_COMPLETE enters Ship where it is ready (R60). -/
theorem modes_exec_shipEntryComplete (hc : exec .shipEntryComplete s = .next t) :
    s.modesSame t ∨ t.get R.MODE_STATUS_MODE = 0 ∧ t.get R.MODE_STATUS_PREV = s.get R.MODE_STATUS_MODE := by
  by_cases hready : s.shipReady
  · obtain ⟨u, hu, hmode, hprev, -⟩ := shipEntryComplete_gives hready
    cases hu.symm.trans hc
    exact .inr ⟨hmode, hprev⟩
  · have hexec : exec .shipEntryComplete s = .next s := congrArg Host.Outcome.next (if_neg hready)
    cases hexec.symm.trans hc
    exact .inl modesSame_refl

/-- SHIP_EXIT starts the logic from Ship or from a cut-off rest; the mode that it leaves is the previous one (R62, R205). -/
theorem modes_exec_shipExit (hc : exec (.shipExit byInput exit k sys bats) s = .next t) : s.modesSame t ∨
    t.running ∧ t.get R.MODE_STATUS_PREV = if s.on R.X_CUTOFF_REST then s.get R.X_CUT_MODE else 0 := by
  have hboot : s.modesSame ((s.exitBoot k).lbist exit.run.fail) := by
    refine modesSame_of_parts fun p hp => ?_
    have hoff : ∀ p ∈ [modePart, prevPart], Machine.keeps Foot.logicReset p = true ∧ Machine.keeps Foot.coldParts p = true ∧
        Machine.keeps exitBootFoot p = true ∧ Machine.keeps Foot.lbist p = true := by decide +kernel
    obtain ⟨hreset, hcold, hstart, hlbist⟩ := hoff p hp
    exact Part.same_lbist (Part.same_trans (Part.same_coldParts (Part.same_logicReset Part.same_refl hreset) hcold)
      (same_exitBoot hstart)) hlbist
  have hcode : (if s.on R.X_CUTOFF_REST then s.get R.X_CUT_MODE else 0) < 16 := by
    split
    · exact get_lt s R.X_CUT_MODE 0
    · decide
  cases (execShipExit_eq byInput exit k sys bats s).symm.trans hc
  split
  · exact .inl modesSame_refl
  · split
    · exact .inl (hboot.trans modesSame_heldFollow)
    · exact .inr ⟨running_exitStart, prev_exitStart hcode⟩

/-- POWER_ON_RESET ends in the mode that it selects, or held in reset with the reset values (R38, R447). -/
theorem modes_exec_powerOnReset (hc : exec (.powerOnReset run k sys bats) s = .next t) :
    t.running ∧ t.get R.MODE_STATUS_PREV = 0 := by
  have hboot : (s.supplyLost false).modesSame ((s.porBoot k).lbist run.fail) := by
    refine modesSame_of_parts fun p hp => ?_
    have hoff : ∀ p ∈ [modePart, prevPart], Machine.keeps porBootFoot p = true ∧ Machine.keeps Foot.lbist p = true := by
      decide +kernel
    exact Part.same_lbist (same_porBoot (hoff p hp).1) (hoff p hp).2
  obtain ⟨hmode, hprev⟩ := modes_supplyLost (s := s) (torn := false)
  cases (exec_powerOnReset run).symm.trans hc
  split
  case isTrue =>
    obtain ⟨hmodeHeld, hprevHeld⟩ := hboot.trans modesSame_heldFollow
    exact ⟨running_of_mode (by decide) (hmodeHeld.trans hmode), hprevHeld.trans hprev⟩
  case isFalse =>
    refine ⟨running_porStart, ?_⟩
    rw [Part.same_get (same_porStart (by decide +kernel)), hboot.2, hprev]

/-- VAO_BELOW_RESET leaves the reset values (R38). -/
theorem modes_exec_vaoBelowReset (hc : exec (.vaoBelowReset loss) s = .next t) :
    t.running ∧ t.get R.MODE_STATUS_PREV = 0 := by
  have hexec : exec (.vaoBelowReset loss) s = .next (if loss.rewrite then
      { (s.supplyLost loss.torn).flag R.X_PASSIVE loss.passive with
        retained := (s.supplyLost loss.torn).retainedOld, retainedOld := none }
      else (s.supplyLost loss.torn).flag R.X_PASSIVE loss.passive) := rfl
  obtain ⟨hmode, hprev⟩ := modes_supplyLost (s := s) (torn := loss.torn)
  have hkeep : (s.supplyLost loss.torn).modesSame t := by
    cases hexec.symm.trans hc
    refine modesSame_of_parts fun p hp => ?_
    have hoff : ∀ p ∈ [modePart, prevPart], (Touch.reg R.X_PASSIVE).off p = true ∧ (Touch.comp .retained).off p = true ∧
        (Touch.comp .retainedOld).off p = true := by decide +kernel
    obtain ⟨hpassive, hnew, hold⟩ := hoff p hp
    have hflag := Part.same_flag (b := loss.passive) (i := 0) (Part.same_refl (p := p) (s := s.supplyLost loss.torn)) hpassive
    exact Part.same_ite (Part.same_with_retained_retainedOld hflag hnew hold) hflag
  exact ⟨running_of_mode (by decide) (hkeep.1.trans hmode), hkeep.2.trans hprev⟩

end

end State

/-! ### Which commands change the mode -/

/-- The commands that may change the mode kept over a cut-off: the cut-off itself, and a start with the always-on domain afresh. -/
def setsCutMode (c : Instr) : Bool :=
  match c with
  | .uvCutoff .. | .powerOnReset .. => true
  | _ => false

/-- Whether one change of a footprint leaves the modes as before: the mode and the previous one, and the one kept over a cut-off, as
the flags ask. -/
def Touch.sparesModes (modes cut : Bool) (w : Touch) : Bool :=
  (!modes || w.off modePart && w.off prevPart) && (!cut || w.off cutPart)

theorem modeEvaluate_sparesCut : Foot.execModeEvaluate.all (Touch.sparesModes false true) = true := by decide +kernel

theorem deviceRestartReset_sparesCut : Foot.execDeviceRestartReset.all (Touch.sparesModes false true) = true := by decide +kernel

theorem shipExit_sparesCut : Foot.execShipExit.all (Touch.sparesModes false true) = true := by decide +kernel

/-- Every change of a footprint leaves the modes that its command does not set as before. -/
theorem footOf_sparesModes (c : Instr) : (footOf c).all (Touch.sparesModes (!changesMode c) (!setsCutMode c)) = true := by
  cases c with
  | modeEvaluate => exact modeEvaluate_sparesCut
  | deviceRestartReset => exact deviceRestartReset_sparesCut
  | shipExit => exact shipExit_sparesCut
  | powerOnReset => exact List.all_eq_true.2 fun _ _ => rfl
  | _ => dsimp only [footOf, changesMode, startsOver, setsCutMode]; decide +kernel

theorem modesSame_exec {c : Instr} {s t : State} (hc : exec c s = .next t) (h : changesMode c = false) : s.modesSame t := by
  have hspares := List.all_eq_true.1 (footOf_sparesModes c)
  simp only [Touch.sparesModes, h, Bool.not_false, Bool.not_true, Bool.false_or, Bool.and_eq_true] at hspares
  refine State.modesSame_of_parts fun p hp => Part.same_exec hc (List.all_eq_true.2 fun w hw => ?_)
  obtain ⟨⟨hmode, hprev⟩, -⟩ := hspares w hw
  simp only [List.mem_cons, List.not_mem_nil, or_false] at hp
  rcases hp with rfl | rfl
  · exact hmode
  · exact hprev

theorem cut_exec_of_spared {c : Instr} {s t : State} (hc : exec c s = .next t) (h : setsCutMode c = false) :
    t.get R.X_CUT_MODE = s.get R.X_CUT_MODE := by
  have hspares := List.all_eq_true.1 (footOf_sparesModes c)
  simp only [Touch.sparesModes, h, Bool.not_false, Bool.not_true, Bool.false_or, Bool.and_eq_true] at hspares
  exact Part.same_get (Part.same_exec hc (List.all_eq_true.2 fun w hw => (hspares w hw).2))

/-- What a command can do to the mode (R38, R49, R60, R62): keep it, enter Ship, or put another mode in force, which from Ship only a
Ship exit and a start after a loss of supply do. -/
theorem mode_exec {c : Instr} {s t : State} (hc : exec c s = .next t) : t.get R.MODE_STATUS_MODE = s.get R.MODE_STATUS_MODE ∨
    c = .shipEntryComplete ∧ t.get R.MODE_STATUS_MODE = 0 ∨
    t.running ∧ (s.get R.MODE_STATUS_MODE ≠ 0 ∨ startsOver c = true ∨ ∃ b f k x y, c = .shipExit b f k x y) := by
  by_cases hchange : changesMode c = true
  · cases c with
    | modeEvaluate =>
      rcases State.modes_exec_modeEvaluate hc with hsame | ⟨hawake, hrun, -⟩
      · exact .inl hsame.1
      · exact .inr (.inr ⟨hrun, .inl hawake⟩)
    | deviceRestartReset =>
      rcases State.modes_exec_deviceRestartReset hc with hsame | ⟨hawake, hrun, -⟩
      · exact .inl hsame.1
      · exact .inr (.inr ⟨hrun, .inl hawake⟩)
    | shipEntryComplete =>
      rcases State.modes_exec_shipEntryComplete hc with hsame | ⟨hship, -⟩
      · exact .inl hsame.1
      · exact .inr (.inl ⟨rfl, hship⟩)
    | shipExit b f k x y =>
      rcases State.modes_exec_shipExit hc with hsame | ⟨hrun, -⟩
      · exact .inl hsame.1
      · exact .inr (.inr ⟨hrun, .inr (.inr ⟨b, f, k, x, y, rfl⟩)⟩)
    | powerOnReset => exact .inr (.inr ⟨(State.modes_exec_powerOnReset hc).1, .inr (.inl rfl)⟩)
    | vaoBelowReset => exact .inr (.inr ⟨(State.modes_exec_vaoBelowReset hc).1, .inr (.inl rfl)⟩)
    | _ => cases hchange
  · exact .inl (modesSame_exec hc (by simpa using hchange)).1

/-- Settles O50: the mode is off the footprint of every other command and of a tick, and `mode_exec` says what the six do to Ship. -/
theorem modeChangers : Obligations.ModeChangers := by
  refine ⟨fun c s t hc => ⟨fun hchange => ?other, fun hout hin => ?enters, fun hin hout => ?leaves⟩, fun s t hidle hstep => ?tick⟩
  case other => exact (modesSame_exec hc hchange).1
  case enters =>
    rcases mode_exec hc with hsame | ⟨rfl, -⟩ | ⟨⟨hrun, -⟩, -⟩
    · exact absurd (hsame.symm.trans hin) hout
    · rfl
    · omega
  case leaves =>
    rcases mode_exec hc with hsame | ⟨-, hship⟩ | ⟨-, hawake | hstart⟩
    · exact absurd (hsame.trans hin) hout
    · exact absurd hship hout
    · exact absurd hin hawake
    · exact hstart
  case tick => exact Part.same_get (Part.same_step_idle hidle hstep (by decide +kernel))

end Sys2Proof.Machine
end

section
/-! PROOFS. The codes of the mode table (R48): a cut-off keeps a mode of its own for the start that ends it (R205), so that the codes
of the mode and the previous mode alone are no invariant of a step, and with that one they are. -/

-- One theorem at a time: each decision by the kernel waits for all declarations before it and holds a thread meanwhile.
set_option Elab.async false

namespace Sys2Proof.Machine

/-- A cut-off rest that keeps a mode outside the table of R48, with the Ship exit by an input that ends it waiting. -/
def cutRestOutsideTable : State :=
  { (State.reset.flag R.X_CUTOFF_REST true).set R.X_CUT_MODE 0xF with
    pending := [.shipExit true ⟨⟨0, []⟩, 0⟩ 0 2400 2400] }

/-- Refutes O47: the start that ends a cut-off rest names the kept mode as the previous one, and the statement leaves the kept mode
free; here it is 0xF. -/
theorem not_legalModeKept : ¬ Obligations.LegalModeKept := by
  intro h
  have hlegal : cutRestOutsideTable.modesLegal = true := by decide +kernel
  exact absurd (h cutRestOutsideTable _ hlegal rfl) (by decide +kernel)

/-- What a command can do to the previous mode. -/
theorem prev_exec {c : Instr} {s t : State} (hc : exec c s = .next t) : t.get R.MODE_STATUS_PREV = s.get R.MODE_STATUS_PREV ∨
    t.get R.MODE_STATUS_PREV = s.get R.MODE_STATUS_MODE ∨ t.get R.MODE_STATUS_PREV = s.get R.X_CUT_MODE ∨
    t.get R.MODE_STATUS_PREV = 0 := by
  by_cases hchange : changesMode c = true
  · cases c with
    | modeEvaluate =>
      rcases State.modes_exec_modeEvaluate hc with ⟨-, hsame⟩ | ⟨-, -, hprev | hprev⟩
      · exact .inl hsame
      · exact .inl hprev
      · exact .inr (.inl hprev)
    | deviceRestartReset =>
      rcases State.modes_exec_deviceRestartReset hc with ⟨-, hsame⟩ | ⟨-, -, hprev | hprev⟩
      · exact .inl hsame
      · exact .inl hprev
      · exact .inr (.inl hprev)
    | shipEntryComplete =>
      rcases State.modes_exec_shipEntryComplete hc with ⟨-, hsame⟩ | ⟨-, hprev⟩
      · exact .inl hsame
      · exact .inr (.inl hprev)
    | shipExit =>
      rcases State.modes_exec_shipExit hc with ⟨-, hsame⟩ | ⟨-, hprev⟩
      · exact .inl hsame
      · split at hprev
        · exact .inr (.inr (.inl hprev))
        · exact .inr (.inr (.inr hprev))
    | powerOnReset => exact .inr (.inr (.inr (State.modes_exec_powerOnReset hc).2))
    | vaoBelowReset => exact .inr (.inr (.inr (State.modes_exec_vaoBelowReset hc).2))
    | _ => cases hchange
  · exact .inl (modesSame_exec hc (by simpa using hchange)).2

namespace State

variable {s t : State}

/-- A start with the always-on domain afresh keeps no mode of a cut-off. -/
theorem cut_powerOnReset {run : StartRun} {k sys bats : Nat} (hc : exec (.powerOnReset run k sys bats) s = .next t) :
    t.get R.X_CUT_MODE = 0 := by
  have halways : (s.supplyLost false).alwaysOnReset.get R.X_CUT_MODE = 0 := by
    obtain ⟨u, hu⟩ : ∃ u : State, (s.supplyLost false).alwaysOnReset =
        ((u.clear R.X_CUT_MODE).flag R.X_DOWN false).flag R.X_PASSIVE false := ⟨_, rfl⟩
    rw [hu, Part.same_get (Part.same_flag (Part.same_flag Part.same_refl (by decide +kernel)) (by decide +kernel)), get_clear_self]
    rfl
  have hboot : cutPart.same (s.supplyLost false).alwaysOnReset ((s.porBoot k).lbist run.fail) :=
    Part.same_lbist (Part.same_set (Part.same_strapFollow (Part.same_otpFollow (Part.same_with_grownBad Part.same_refl
      (by decide +kernel)) (by decide +kernel)) (by decide +kernel)) (by decide +kernel)) (by decide +kernel)
  cases (exec_powerOnReset run).symm.trans hc
  rw [Part.same_get (Part.same_ite (Part.same_heldFollow hboot (by decide +kernel))
    (Part.same_trans hboot (same_porStart (by decide +kernel))))]
  exact halways

/-- A cut-off keeps the mode in which it begins (R205). -/
theorem cut_uvCutoff {bats : Nat} (hc : exec (.uvCutoff bats) s = .next t) :
    t.get R.X_CUT_MODE = s.get R.X_CUT_MODE ∨ t.get R.X_CUT_MODE = s.get R.MODE_STATUS_MODE := by
  cases (show exec (.uvCutoff bats) s = execUvCutoff bats s from rfl).symm.trans hc
  split
  · refine .inr ?_
    rw [Part.same_get (Part.same_cutoffPorts (Part.same_each (Part.same_latch Part.same_refl (by decide +kernel)) fun _ _ hv =>
      Part.same_railPs3 hv (by decide +kernel)) (by decide +kernel))]
    exact get_set_fit 0 (get_lt s R.MODE_STATUS_MODE 0)
  · exact .inl rfl

end State

/-- What a command can do to the mode kept over a cut-off. -/
theorem cut_exec {c : Instr} {s t : State} (hc : exec c s = .next t) : t.get R.X_CUT_MODE = s.get R.X_CUT_MODE ∨
    t.get R.X_CUT_MODE = s.get R.MODE_STATUS_MODE ∨ t.get R.X_CUT_MODE = 0 := by
  by_cases hset : setsCutMode c = true
  · cases c with
    | uvCutoff =>
      rcases State.cut_uvCutoff hc with hsame | hmode
      · exact .inl hsame
      · exact .inr (.inl hmode)
    | powerOnReset => exact .inr (.inr (State.cut_powerOnReset hc))
    | _ => cases hset
  · exact .inl (cut_exec_of_spared hc (by simpa using hset))

/-- The mode, the previous mode and the mode kept over a cut-off are codes of R48. -/
def State.modesInTable (s : State) : Prop := s.modesLegal = true ∧ s.get R.X_CUT_MODE ≤ 0xB

theorem State.modesInTable_iff {s : State} : s.modesInTable ↔
    s.get R.MODE_STATUS_MODE ≤ 0xB ∧ s.get R.MODE_STATUS_PREV ≤ 0xB ∧ s.get R.X_CUT_MODE ≤ 0xB := by
  simp [State.modesInTable, State.modesLegal, and_assoc]

theorem modesInTable_reset : State.reset.modesInTable := State.modesInTable_iff.2 (by decide +kernel)

theorem modesInTable_exec {c : Instr} {s t : State} (hs : s.modesInTable) (hc : exec c s = .next t) : t.modesInTable := by
  rw [State.modesInTable_iff] at hs ⊢
  have hmode : t.get R.MODE_STATUS_MODE ≤ 0xB := by
    rcases mode_exec hc with hsame | ⟨-, hship⟩ | ⟨⟨-, hcode⟩, -⟩ <;> omega
  have hprev := prev_exec hc
  have hcut := cut_exec hc
  omega

/-- What O47 asks holds of every step once the mode kept over a cut-off is a code of R48 as well. -/
theorem modesInTable_step {s t : State} (hs : s.modesInTable) (hstep : step s = .next t) : t.modesInTable := by
  cases hpending : s.pending with
  | cons c rest =>
    rw [step, hpending] at hstep
    exact modesInTable_exec (s := { s with pending := rest }) hs hstep
  | nil =>
    have hkeep : ∀ p ∈ [modePart, prevPart, cutPart], p.same s t := by
      have hoff : ∀ p ∈ [modePart, prevPart, cutPart], keeps Foot.tick p = true := by decide +kernel
      exact fun p hp => Part.same_step_idle hpending hstep (hoff p hp)
    rw [State.modesInTable_iff] at hs ⊢
    rwa [Part.same_get (hkeep modePart (by simp)), Part.same_get (hkeep prevPart (by simp)),
      Part.same_get (hkeep cutPart (by simp))]

end Sys2Proof.Machine
end

section
/-! PROOFS. MODE_REQUEST (R59, R67, R68): what each of its actions answers and brings about. -/

-- One theorem at a time: each decision by the kernel waits for all declarations before it and holds a thread meanwhile.
set_option Elab.async false

namespace Sys2Proof.Machine
namespace State

variable {s : State} {p : PortId}

/-! ### What the interpreter finds (R353, R355) -/

theorem get_heard {r : Reg} {i : Nat}
    (h : Machine.keeps (Foot.abortSlice ++ Foot.awake ++ Foot.dropReply) (.key (r.key i)) = true) :
    (s.heard p).get r i = s.get r i := Part.same_get (same_heard h)

theorem on_heard {r : Reg} (h : Machine.keeps (Foot.abortSlice ++ Foot.awake ++ Foot.dropReply) (.key (r.key 0)) = true) :
    (s.heard p).on r = s.on r := on_same (same_heard h)

theorem deadBattery_heard : (s.heard p).deadBattery = s.deadBattery := by
  have hclass : ∀ i, (s.heard p).cls i = s.cls i := fun i =>
    get_heard (apart_keeps (q := R.INn_STAT_CLASS) (by decide) (by decide +kernel) i)
  have hget : ∀ r ∈ [R.PP_STATUS_BAT, R.X_BATS, R.CHG_PROFILE_CELLS, R.CHG_V_PRE], (s.heard p).get r = s.get r := by
    have hoff : ∀ r ∈ [R.PP_STATUS_BAT, R.X_BATS, R.CHG_PROFILE_CELLS, R.CHG_V_PRE],
        Machine.keeps (Foot.abortSlice ++ Foot.awake ++ Foot.dropReply) (.key (r.key 0)) = true := by decide +kernel
    exact fun r hr => get_heard (hoff r hr)
  have hlow : (s.heard p).batteryLow = s.batteryLow := by
    rw [State.batteryLow, State.batteryLow, State.cells, State.cells, hget R.PP_STATUS_BAT (by decide), hget R.X_BATS (by decide),
      hget R.CHG_PROFILE_CELLS (by decide), hget R.CHG_V_PRE (by decide)]
  simp only [State.deadBattery, State.anyClassified, hclass, hlow]

/-! ### The actions -/

theorem bit_cause {c : Nat} (hc : c < R.X_CAUSES.width) : (s.cause c).bit R.X_CAUSES c = true := bit_setBit_self true 0 hc

theorem enterShip_accepted (hgone : s.anyPresent = false) (hbat : s.get R.PP_STATUS_BAT = 1)
    (hlow : 1 ≤ s.get R.MODE_STATUS_MODE) (hhigh : s.get R.MODE_STATUS_MODE ≤ 5) :
    s.enterShip 0x69D2 true = (s.flag R.MODE_STATUS_SHIP_PENDING true, 0x01) := by
  rw [State.enterShip, if_neg (by simp [hgone, hbat]; omega), if_neg (by decide)]

theorem enterShip_wakenLow {key : Nat} : s.enterShip key false = (s, 0x17) := by
  rw [State.enterShip, if_pos (by simp)]

/-- Service is entered, and runs for its time from now on (R67, R68). -/
def serviceBegun (s : State) : State :=
  ((s.set R.X_SVC_END (s.now + s.get R.MODE_SVC_TIMEOUT * 60000)).flag R.X_SERVICE true).cause 0x12

theorem enterService_accepted (hdemand : s.on R.MODE_STATUS_RAIL_DEMAND) (htherm : s.on R.MODE_STATUS_THERM_ACTIVE = false)
    (hride : s.on R.MODE_STATUS_RIDE_ACTIVE = false) (hdead : s.deadBattery = false) (hout : s.on R.X_SERVICE = false) :
    s.enterService 0x3C96 = (s.serviceBegun, 0x00) := by
  have hfree : (s.set R.X_SVC_END (s.now + s.get R.MODE_SVC_TIMEOUT * 60000)).on R.X_SERVICE = false :=
    (on_same (Part.same_set Part.same_refl (by decide +kernel))).trans hout
  rw [State.enterService, if_neg (by simp [hdemand, htherm, hride, hdead]), if_neg (by decide)]
  simp only [hout, Bool.false_eq_true, if_false]
  rfl

theorem serviceBegun_gives : s.serviceBegun.on R.X_SERVICE ∧ s.serviceBegun.get R.X_SVC_END =
    (s.now + s.get R.MODE_SVC_TIMEOUT * 60000) % 2 ^ R.X_SVC_END.width ∧ s.serviceBegun.bit R.X_CAUSES 0x12 := by
  refine ⟨?_, ?_, bit_cause (by decide)⟩
  · rw [serviceBegun, on_same (Part.same_cause Part.same_refl (by decide +kernel))]
    exact on_flag_self _ _ _ _ (by decide)
  · rw [serviceBegun, Part.same_get (Part.same_cause (Part.same_flag Part.same_refl (by decide +kernel)) (by decide +kernel)),
      get_set_self]

theorem leaveService_inside (h : s.on R.X_SERVICE) : s.leaveService = ((s.flag R.X_SERVICE false).cause 0x12, 0x00) := by
  rw [State.leaveService, if_pos h]

theorem grace_endGrace : s.endGrace.1.on R.MODE_STATUS_GRACE = false := by
  have hstop : s.stopGrace.on R.MODE_STATUS_GRACE = false :=
    (on_same (Part.same_clear Part.same_refl (by decide +kernel))).trans (on_flag_self _ _ _ _ (by decide))
  unfold State.endGrace
  split
  case isTrue => exact (on_same (Part.same_cause Part.same_refl (by decide +kernel))).trans hstop
  case isFalse h => exact Bool.eq_false_iff.2 h

end State

/-! ### The commands -/

section
variable {s : State} {port : PortId} {tag : Byte}

/-- What a MODE_REQUEST on a free port answers, whose action leaves the ports and the requests alone. -/
theorem gives_modeRequest {c : Instr} {action key : Nat} {f : State → State × Nat} {a : State × Nat}
    (hc : exec c s = .next (s.modeRequest port tag action key f)) (hf : s.free port = true) (ha : f (s.heard port) = a)
    (hk : ∀ c ∈ [Comp.tw, .qb, .requests], (Part.comp c).same (s.heard port) a.1) :
    Gives (exec c s) (fun t => t.replied port a.2 tag [] ∧ t.fields = a.1.fields) :=
  gives_serve (a := State.answers a) hc hf (by decide) (by simp [lengthOk, length_le]) (congrArg State.answers ha) hk

theorem enterShip_pending (hf : s.free port = true) (hgone : s.anyPresent = false) (hbat : s.get R.PP_STATUS_BAT = 1)
    (hlow : 1 ≤ s.get R.MODE_STATUS_MODE) (hhigh : s.get R.MODE_STATUS_MODE ≤ 5) :
    Gives (exec (.enterShip port tag 0x69D2 true) s) (fun t =>
      t.replied port 0x01 tag [] ∧ t.on R.MODE_STATUS_SHIP_PENDING) := by
  have hmode : (s.heard port).get R.MODE_STATUS_MODE = s.get R.MODE_STATUS_MODE := State.get_heard (by decide +kernel)
  have hpresent : (s.heard port).anyPresent = s.anyPresent := congrArg (· != 0) (State.get_heard (by decide +kernel))
  obtain ⟨t, ht, hreply, hfields⟩ := gives_modeRequest (c := .enterShip port tag 0x69D2 true) rfl hf
    (State.enterShip_accepted (hpresent.trans hgone) ((State.get_heard (by decide +kernel)).trans hbat) (hmode ▸ hlow)
      (hmode ▸ hhigh))
    fun c hc => Part.same_flag Part.same_refl (by revert c; decide)
  exact ⟨t, ht, hreply, (State.on_of_fields hfields _ _).trans (State.on_flag_self _ _ _ _ (by decide))⟩

/-- With WAKEN low the request is refused (R59). -/
theorem enterShip_refused {key : Fin 65536} (hf : s.free port = true) :
    Gives (exec (.enterShip port tag key false) s) (fun t =>
      t.replied port 0x17 tag [] ∧ t.on R.MODE_STATUS_SHIP_PENDING = s.on R.MODE_STATUS_SHIP_PENDING) := by
  obtain ⟨t, ht, hreply, hfields⟩ := gives_modeRequest (c := .enterShip port tag key false) rfl hf
    State.enterShip_wakenLow (ports_refl _)
  exact ⟨t, ht, hreply, (State.on_of_fields hfields _ _).trans (State.on_heard (by decide +kernel))⟩

theorem enterService_begins (hf : s.free port = true) (hdemand : s.on R.MODE_STATUS_RAIL_DEMAND)
    (hride : s.on R.MODE_STATUS_RIDE_ACTIVE = false) (hdead : s.deadBattery = false) (hout : s.on R.X_SERVICE = false) :
    Gives (exec (.enterService port tag 0x3C96) s) (fun t => t.replied port 0x00 tag [] ∧ t.on R.X_SERVICE ∧
      t.get R.X_SVC_END = (s.now + s.get R.MODE_SVC_TIMEOUT * 60000) % 2 ^ R.X_SVC_END.width ∧ t.bit R.X_CAUSES 0x12) := by
  obtain ⟨-, -, -, htherm, -⟩ := State.free_iff.1 hf
  have hnow : (s.heard port).now = s.now := State.get_heard (by decide +kernel)
  have htime : (s.heard port).get R.MODE_SVC_TIMEOUT = s.get R.MODE_SVC_TIMEOUT := State.get_heard (by decide +kernel)
  obtain ⟨t, ht, hreply, hfields⟩ := gives_modeRequest (c := .enterService port tag 0x3C96) rfl hf
    (State.enterService_accepted ((State.on_heard (by decide +kernel)).trans hdemand) (State.thermActive_heard.trans htherm)
      ((State.on_heard (by decide +kernel)).trans hride) (State.deadBattery_heard.trans hdead)
      ((State.on_heard (by decide +kernel)).trans hout))
    fun c hc => Part.same_cause (Part.same_flag (Part.same_set Part.same_refl rfl) rfl) (by revert c; decide +kernel)
  obtain ⟨hon, hend, hcause⟩ := State.serviceBegun_gives (s := s.heard port)
  refine ⟨t, ht, hreply, (State.on_of_fields hfields _ _).trans hon, ?_, ?_⟩
  · rw [State.get_of_fields hfields, hend, hnow, htime]
  · rw [State.bit, State.get_of_fields hfields]
    exact hcause

theorem leaveService_ends {key : Fin 65536} (hf : s.free port = true) (hin : s.on R.X_SERVICE) :
    Gives (exec (.leaveService port tag key) s) (fun t =>
      t.replied port 0x00 tag [] ∧ t.on R.X_SERVICE = false ∧ t.bit R.X_CAUSES 0x12) := by
  obtain ⟨t, ht, hreply, hfields⟩ := gives_modeRequest (c := .leaveService port tag key) rfl hf
    (State.leaveService_inside ((State.on_heard (by decide +kernel)).trans hin))
    fun c hc => Part.same_cause (Part.same_flag Part.same_refl rfl) (by revert c; decide +kernel)
  refine ⟨t, ht, hreply, ?_, ?_⟩
  · rw [State.on_of_fields hfields, State.on_same (Part.same_cause Part.same_refl (by decide +kernel))]
    exact State.on_flag_self _ _ _ _ (by decide)
  · rw [State.bit, State.get_of_fields hfields]
    exact State.bit_cause (by decide)

theorem endGrace_ends {key : Fin 65536} (hf : s.free port = true) :
    Gives (exec (.endGrace port tag key) s) (fun t => t.replied port 0x00 tag [] ∧ t.on R.MODE_STATUS_GRACE = false) := by
  obtain ⟨t, ht, hreply, hfields⟩ := gives_modeRequest (c := .endGrace port tag key) rfl hf rfl
    fun c hc => Part.same_endGrace Part.same_refl (by revert c; decide +kernel)
  exact ⟨t, ht, hreply, (State.on_of_fields hfields _ _).trans State.grace_endGrace⟩

end

/-- Settles O30: each clause is the lemma on its action above, on the state in which the interpreter finds the request. -/
theorem hostModes : Obligations.HostModes := by
  refine ⟨?_, ?_, ?_, ?_, ?_⟩
  · rintro s port tag key waken ⟨hf, rfl, hgone, rfl, hbat, hlow, hhigh⟩
    exact enterShip_pending hf hgone hbat hlow hhigh
  · rintro s port tag key waken ⟨hf, -, rfl⟩
    exact enterShip_refused hf
  · rintro s port tag key ⟨hf, rfl, hdemand, hride, hdead, hout⟩
    exact enterService_begins hf hdemand hride hdead hout
  · rintro s port tag key ⟨hf, hin⟩
    exact leaveService_ends hf hin
  · rintro s port tag key hf
    exact endGrace_ends hf

end Sys2Proof.Machine
end

section
/-! PROOFS. HARVEST_DORMANT and a held phase map (R51, R72, R129): a group that returns from ON_DELAY to STOPPED lets the map be applied,
and the map may end the class of the input that the command has just made dormant. -/

-- One theorem at a time: each decision by the kernel waits for all declarations before it and holds a thread meanwhile.
set_option Elab.async false

namespace Sys2Proof.Machine
namespace State

variable {s : State} {i : Nat}

/-- An input that becomes dormant, before its group loses its ceiling (R51, R125). -/
def dormantMarked (s : State) (i : Nat) : State :=
  (((s.abortSweep i).flag R.X_DORMANT true i).set R.TRKn_STAT_STYLE 7 i).flag R.X_PO_VALID false i

theorem exec_harvestDormant {i : Fin 4} (h : s.delivering i) :
    exec (.harvestDormant i) s = .next (((s.dormantMarked i).rampDown i).cause 0x0B) :=
  congrArg Host.Outcome.next (if_pos h)

end State

/-- Input 1 delivers on phase 1 and its group is in ON_DELAY, while a map is held that gives the input no phase. -/
def mapHeldOnDelay : State :=
  ((((State.reset.set R.CNV_PHn_STAT_GROUP 1).set R.CNV_Gg_STAT_STATE 1).flag R.CNV_STATUS_CFG_PENDING true).set
    R.INn_STAT_CLASS 3).set R.INn_STAT_STATE 7

/-- Refutes O34: in `mapHeldOnDelay` the group of the dormant input stops, so the held map is applied; the input has no phase then, and
loses its class and its dormancy. -/
theorem not_modeController : ¬ Obligations.ModeController := by
  rintro ⟨-, -, -, hdormant, -⟩
  have hdelivers : mapHeldOnDelay.delivering 0 = true := by decide +kernel
  obtain ⟨t, ht, hstays, -⟩ := hdormant mapHeldOnDelay 0 hdelivers
  have hanswer := Host.Outcome.next.inj ((State.exec_harvestDormant (i := 0) hdelivers).symm.trans ht)
  subst hanswer
  exact absurd hstays (by decide +kernel)

namespace State

variable {s : State} {i g : Nat}

/-! ### With no map held -/

/-- Where no map is held, a group that loses its ceiling changes nothing of the inputs (R120, R149). -/
theorem same_rampDown_of_noMap {q : Part} (hmap : s.on R.CNV_STATUS_CFG_PENDING = false)
    (h : Machine.keeps (touches [R.TRKn_CAP, R.CNV_Gg_STAT_TUNED] [] [Foot.noCeiling, Foot.idlePhases, Foot.settleGroup]) q = true) :
    q.same s (s.rampDown g) := by
  have hstopped : (((((s.noCeiling g).idlePhases g).settleGroup g).flag R.CNV_Gg_STAT_TUNED false g).on
      R.CNV_STATUS_CFG_PENDING) = false := by
    rw [on_same (Part.same_flag (Part.same_settleGroup (Part.same_idlePhases (Part.same_noCeiling Part.same_refl
      (by decide +kernel)) (by decide +kernel)) (by decide +kernel)) (by decide +kernel)), hmap]
  have hstop : (s.noCeiling g).stopGroup g =
      (((s.noCeiling g).idlePhases g).settleGroup g).flag R.CNV_Gg_STAT_TUNED false g := by
    rw [State.stopGroup, State.mapCheck, if_neg (by simp [hstopped])]
  simp [and_assoc] at h
  obtain ⟨hcap, htuned, hceiling, hidle, hsettle⟩ := h
  have hnone : q.same s (s.noCeiling g) := Part.same_noCeiling Part.same_refl hceiling
  unfold State.rampDown State.zeroCeiling
  refine Part.same_ite (Part.same_set Part.same_refl hcap) (Part.same_ite ?_ hnone)
  rw [hstop]
  exact Part.same_flag (Part.same_settleGroup (Part.same_idlePhases hnone hidle) hsettle) htuned

theorem noMap_dormantMarked (hmap : s.on R.CNV_STATUS_CFG_PENDING = false) :
    (s.dormantMarked i).on R.CNV_STATUS_CFG_PENDING = false := by
  rw [dormantMarked, on_same (Part.same_flag (Part.same_set (Part.same_flag (Part.same_abortSweep Part.same_refl
    (by decide +kernel)) (by decide +kernel)) (by decide +kernel)) (by decide +kernel)), hmap]

theorem dormant_dormantMarked {i : Fin 4} : (s.dormantMarked i).on R.X_DORMANT i := by
  have hoff : ∀ i : Fin 4, (Touch.reg R.TRKn_STAT_STYLE).off (.key (R.X_DORMANT.key i)) = true ∧
      (Touch.reg R.X_PO_VALID).off (.key (R.X_DORMANT.key i)) = true := by decide +kernel
  obtain ⟨hstyle, hvalid⟩ := hoff i
  rw [dormantMarked, on_same (Part.same_flag (Part.same_set Part.same_refl hstyle) hvalid)]
  exact on_flag_self _ _ _ _ (by decide)

theorem cls_dormantMarked {i : Fin 4} : (s.dormantMarked i).cls i = s.cls i := by
  have hoff : ∀ i : Fin 4, Machine.keeps (touches [R.X_DORMANT, R.TRKn_STAT_STYLE, R.X_PO_VALID] [] [Foot.abortSweep])
      (.key (R.INn_STAT_CLASS.key i)) = true := by decide +kernel
  have hclass := hoff i
  simp [and_assoc] at hclass
  obtain ⟨hdormant, hstyle, hvalid, hsweep⟩ := hclass
  exact Part.same_get (Part.same_flag (Part.same_set (Part.same_flag (Part.same_abortSweep Part.same_refl hsweep) hdormant)
    hstyle) hvalid)

end State

/-- The clause of O34 on HARVEST_DORMANT holds where no map is held: the input keeps its class and is dormant (R51). -/
theorem harvestDormant_of_noMap {s : State} {i : Fin 4} (hdelivers : s.delivering i)
    (hmap : s.on R.CNV_STATUS_CFG_PENDING = false) :
    Gives (exec (.harvestDormant i) s) (fun t =>
      t.on R.X_DORMANT i ∧ t.cls i = s.cls i ∧ t.bit R.X_CAUSES 0x0B) := by
  have hkept : ∀ r ∈ [R.X_DORMANT, R.INn_STAT_CLASS], (Part.key (r.key i)).same (s.dormantMarked i)
      (((s.dormantMarked i).rampDown i).cause 0x0B) := by
    have hoff : ∀ r ∈ [R.X_DORMANT, R.INn_STAT_CLASS], ∀ i : Fin 4, keeps (touches [R.TRKn_CAP, R.CNV_Gg_STAT_TUNED] []
        [Foot.noCeiling, Foot.idlePhases, Foot.settleGroup]) (.key (r.key i)) = true ∧
        keeps Foot.cause (.key (r.key i)) = true := by decide +kernel
    intro r hr
    obtain ⟨hramp, hcause⟩ := hoff r hr i
    exact Part.same_cause (State.same_rampDown_of_noMap (State.noMap_dormantMarked hmap) hramp) hcause
  refine ⟨_, State.exec_harvestDormant hdelivers, ?_, ?_, State.bit_cause (by decide)⟩
  · exact (State.on_same (hkept R.X_DORMANT (by simp))).trans State.dormant_dormantMarked
  · exact (Part.same_get (hkept R.INn_STAT_CLASS (by simp))).trans State.cls_dormantMarked

end Sys2Proof.Machine
end

section
/-! PROOFS. Groups and inputs where no phase map is held (R129): a group that stops then stops alone, and what an operation on an input
changes stays within a small footprint. -/

-- One theorem at a time: each decision by the kernel waits for all declarations before it and holds a thread meanwhile.
set_option Elab.async false

namespace Sys2Proof.Machine
namespace State

variable {s t u : State} {l m : List Touch} {i g : Nat}

/-! ### Footprints between two states -/

/-- A state differs from an earlier one by changes of a list alone. -/
def within (l : List Touch) (s t : State) : Prop := ∀ q, Machine.keeps l q = true → q.same s t

theorem within_refl : within l s s := fun _ _ => Part.same_refl

namespace within

theorem trans (h : within l s t) (h' : within m t u) : within (l ++ m) s u := by
  intro q hq
  rw [keeps_append, Bool.and_eq_true] at hq
  exact Part.same_trans (h q hq.1) (h' q hq.2)

theorem left (h : within l s t) : within (l ++ m) s t := h.trans within_refl

theorem right (h : within m s t) : within (l ++ m) s t := within_refl.trans h

theorem ite {c : Prop} [Decidable c] (h : within l s t) (h' : within l s u) : within l s (if c then t else u) := by
  split <;> assumption

theorem get (h : within l s t) {r : Reg} {i : Nat} (hoff : Machine.keeps l (.key (r.key i)) = true) : t.get r i = s.get r i :=
  Part.same_get (h _ hoff)

theorem on (h : within l s t) {r : Reg} {i : Nat} (hoff : Machine.keeps l (.key (r.key i)) = true) : t.on r i = s.on r i :=
  on_same (h _ hoff)

theorem bit (h : within l s t) {r : Reg} {b i : Nat} (hoff : Machine.keeps l (.key (r.key i)) = true) :
    t.bit r b i = s.bit r b i := bit_same (h _ hoff)

end within

theorem within_set {r : Reg} {v i : Nat} : within [.reg r] s (s.set r v i) := fun _ h =>
  Part.same_set Part.same_refl (by simpa using h)

theorem within_flag {r : Reg} {b : Bool} {i : Nat} : within [.reg r] s (s.flag r b i) := within_set

theorem within_setBit {r : Reg} {b i : Nat} {v : Bool} : within [.reg r] s (s.setBit r b v i) :=
  within_set

theorem within_clear {r : Reg} {i : Nat} : within [.reg r] s (s.clear r i) := fun _ h =>
  Part.same_clear Part.same_refl (by simpa using h)

theorem within_needP3 : within Foot.needP3 s s.needP3 := fun _ => Part.same_needP3 Part.same_refl

theorem within_idlePhases : within Foot.idlePhases s (s.idlePhases g) := fun _ => Part.same_idlePhases Part.same_refl

theorem within_settleGroup : within Foot.settleGroup s (s.settleGroup g) := fun _ => Part.same_settleGroup Part.same_refl

theorem within_toOnDelay : within Foot.toOnDelay s (s.toOnDelay g) := fun _ => Part.same_toOnDelay Part.same_refl

theorem within_noCeiling : within Foot.noCeiling s (s.noCeiling g) := fun _ => Part.same_noCeiling Part.same_refl

theorem within_latchStand {r : Reg} {b : Nat} : within (Foot.latchStand r) s (s.latchStand r b) := fun _ =>
  Part.same_latchStand Part.same_refl

/-! ### No map held -/

/-- No write of the phase map or of the frequency waits for the groups to stop (R129). -/
def noMap (s : State) : Prop := s.on R.CNV_STATUS_CFG_PENDING = false

/-- The part that says whether a map is held. -/
def mapPart : Part := .key (R.CNV_STATUS_CFG_PENDING.key 0)

theorem within.noMap (h : within l s t) (hmap : s.noMap) (hoff : Machine.keeps l mapPart = true) : t.noMap :=
  (h.on hoff).trans hmap

theorem mapCheck_eq_self (hmap : s.noMap) : s.mapCheck = s := by
  unfold noMap at hmap
  rw [State.mapCheck, if_neg (by simp [hmap])]

/-- What stopping a group changes where no map is held. -/
def stopFoot : List Touch := Foot.idlePhases ++ Foot.settleGroup ++ [.reg R.CNV_Gg_STAT_TUNED]

theorem within_stopped (s : State) (g : Nat) : within stopFoot s (((s.idlePhases g).settleGroup g).flag R.CNV_Gg_STAT_TUNED false g) :=
  (within_idlePhases.trans within_settleGroup).trans within_flag

theorem stopGroup_eq (hmap : s.noMap) (g : Nat) :
    s.stopGroup g = ((s.idlePhases g).settleGroup g).flag R.CNV_Gg_STAT_TUNED false g :=
  mapCheck_eq_self ((within_stopped s g).noMap hmap (by decide +kernel))

theorem within_stopGroup (hmap : s.noMap) (g : Nat) : within stopFoot s (s.stopGroup g) :=
  stopGroup_eq hmap g ▸ within_stopped s g

/-- What a group that loses its ceiling at once changes (R120). -/
def zeroFoot : List Touch := Foot.noCeiling ++ stopFoot

theorem within_zeroCeiling (hmap : s.noMap) (g : Nat) : within zeroFoot s (s.zeroCeiling g) := by
  have hstop := within_stopGroup ((within_noCeiling (g := g)).noMap hmap (by decide +kernel)) g
  unfold State.zeroCeiling
  exact within.ite (within_noCeiling.trans hstop) within_noCeiling.left

/-- What a group that is to lose its ceiling changes (R119). -/
def rampFoot : List Touch := [.reg R.TRKn_CAP] ++ zeroFoot

theorem within_rampDown (hmap : s.noMap) (g : Nat) : within rampFoot s (s.rampDown g) := by
  unfold State.rampDown
  exact within.ite within_set.left (within_zeroCeiling hmap g).right

/-- What the end of a trip's cause changes (R152). -/
def endTripFoot : List Touch := [.reg R.X_TRIP] ++ (stopFoot ++ Foot.toOnDelay)

theorem within_endTrip (hmap : s.noMap) (g cause : Nat) : within endTripFoot s (s.endTrip g cause) := by
  have htrip : within [.reg R.X_TRIP] s (s.setBit R.X_TRIP cause false g) := within_setBit
  have hstop := within_stopGroup (htrip.noMap hmap (by decide +kernel)) g
  unfold State.endTrip
  exact within.ite (htrip.trans (within.ite (hstop.trans within_toOnDelay) hstop.left)) htrip.left

end State
end Sys2Proof.Machine
end

section
/-! PROOFS. The end of a class, and the restart of a classification (R79, R83, R92, R100): what each sets of its own input, and that it leaves
the class, the state and the limit of another. -/

-- One theorem at a time: each decision by the kernel waits for all declarations before it and holds a thread meanwhile.
set_option Elab.async false

namespace Sys2Proof.Machine

/-- Taking a bit out of a number sets no other. -/
theorem testBit_of_sub_two_pow {n b c : Nat} (hc : n.testBit c = true) (h : (n - 2 ^ c).testBit b = true) :
    n.testBit b = true := by
  rw [Nat.testBit_eq_decide_div_mod_eq, decide_eq_true_eq] at hc
  obtain ⟨m, hm⟩ : ∃ m, n / 2 ^ c = 2 * m + 1 := ⟨n / 2 ^ c / 2, by omega⟩
  have hlow : n % 2 ^ c < 2 ^ c := Nat.mod_lt _ (Nat.two_pow_pos c)
  have hn : n = 2 ^ c * (2 * m + 1) + n % 2 ^ c := by rw [← hm, Nat.div_add_mod]
  have hsub : n - 2 ^ c = 2 ^ c * (2 * m) + n % 2 ^ c := by
    rw [Nat.mul_add, Nat.mul_one] at hn
    omega
  rw [hsub, Nat.testBit_two_pow_mul_add _ hlow] at h
  rw [hn, Nat.testBit_two_pow_mul_add _ hlow]
  split
  case isTrue hlt => rwa [if_pos hlt] at h
  case isFalse hge =>
    rw [if_neg hge] at h
    cases hk : b - c with
    | zero => simp
    | succ k => simpa [hk, Nat.testBit_succ, Nat.mul_add_div] using h

namespace State

variable {s t u : State} {l m : List Touch}

/-- Changes of one list after another. -/
theorem within.chain (h : within l s t) (h' : within l t u) : within l s u := fun q hq => Part.same_trans (h q hq) (h' q hq)

/-- A loop whose every turn keeps a property keeps it. -/
theorem each_keeps {Q : State → Prop} {n : Nat} {f : Nat → State → State} (hs : Q s) (hf : ∀ j t, j < n → Q t → Q (f j t)) :
    Q (s.each n f) := by
  induction n with
  | zero => exact hs
  | succ n ih =>
    rw [each_succ]
    exact hf n _ (by omega) (ih fun j t hj => hf j t (by omega))

/-! ### The end of a class -/

/-- An input without a class, its tracking and its release still as they were (R92). -/
def classEnded (s : State) (i : Nat) : State := ((s.set R.INn_STAT_CLASS 0 i).flag R.INn_STAT_MASKED false i).updateLimit i

/-- What follows the end of a class: tracking, the release, grace, and the cause for the mode controller (R55, R57, R98). -/
def endFoot : List Touch := touches [R.X_RETAKE, R.IN_STATUS_TS_RELEASED] [] [Foot.trackIdle, Foot.startGrace, Foot.cause, Foot.abortSlice]

theorem within_endClass {i : Nat} : within endFoot (s.classEnded i) (s.endClass i) := by
  intro q hq
  simp [endFoot, and_assoc] at hq
  obtain ⟨hretake, hreleased, htrack, hgrace, hcause, hslice⟩ := hq
  have hidle : q.same (s.classEnded i) ((((s.classEnded i).trackIdle i).setBit R.IN_STATUS_TS_RELEASED i false).flag R.X_RETAKE false i) :=
    Part.same_flag (Part.same_setBit (Part.same_trackIdle Part.same_refl htrack) hreleased) hretake
  have hend := Part.same_iff (c := s.cls i == 4 && !(List.range 4).any (fun j => ((((s.classEnded i).trackIdle i).setBit
    R.IN_STATUS_TS_RELEASED i false).flag R.X_RETAKE false i).cls j == 4)) hidle fun _ hv => Part.same_startGrace hv hgrace
  exact Part.same_ite (Part.same_cause hend hcause) (Part.same_abortSlice hend hslice)

/-- What the end of a class sets of its input. -/
def classEndedFoot : List Touch := [.reg R.INn_STAT_CLASS] ++ [.reg R.INn_STAT_MASKED] ++ Foot.updateLimit

theorem within_classEnded {i : Nat} : within classEndedFoot s (s.classEnded i) :=
  (within_set.trans within_flag).trans fun _ => Part.same_updateLimit Part.same_refl

/-- What else the end of a class changes: its group ramps down. -/
def rampedFoot : List Touch := endFoot ++ rampFoot ++ endTripFoot

theorem within_clearClass (hmap : s.noMap) (i : Nat) : within rampedFoot (s.classEnded i) (s.clearClass i) := by
  have hend := within_endClass (s := s) (i := i)
  have hmapEnd : (s.endClass i).noMap := (within_classEnded.trans hend).noMap hmap (by decide +kernel)
  have hramp := within_rampDown hmapEnd i
  exact (hend.trans hramp).trans (within_endTrip (hramp.noMap hmapEnd (by decide +kernel)) i 2)

/-- What the end of a class changes, its group included. -/
def clearFoot : List Touch := classEndedFoot ++ rampedFoot

theorem within_clearClass_all (hmap : s.noMap) (i : Nat) : within clearFoot s (s.clearClass i) :=
  within_classEnded.trans (within_clearClass hmap i)

/-- The fields of an input that its own classification sets: class, state and limit. -/
def inputRegs : List Reg := [R.INn_STAT_CLASS, R.INn_STAT_STATE, R.INn_LIM_EFF]

theorem inputRegs_apart : ∀ r ∈ inputRegs, ∀ i : Fin 4, Machine.keeps rampedFoot (.key (r.key i)) = true ∧
    Machine.keeps Foot.sourceEvent (.key (r.key i)) = true := by decide +kernel

theorem inputRegs_other : ∀ r ∈ inputRegs, ∀ i j : Fin 4, j ≠ i → ∀ q ∈ [R.INn_STAT_CLASS, R.INn_STAT_MASKED, R.INn_LIM_EFF,
    R.INn_STAT_STATE], r.key i ≠ q.key j := by decide +kernel

theorem cls_classEnded {i : Fin 4} : (s.classEnded i).cls i = 0 := by
  have hoff : ∀ i : Fin 4, Machine.keeps ([.reg R.INn_STAT_MASKED] ++ Foot.updateLimit) (.key (R.INn_STAT_CLASS.key i)) = true := by
    decide +kernel
  have hrest : within ([.reg R.INn_STAT_MASKED] ++ Foot.updateLimit) (s.set R.INn_STAT_CLASS 0 i) (s.classEnded i) :=
    within_flag.trans fun _ => Part.same_updateLimit Part.same_refl
  exact (hrest.get (hoff i)).trans (get_set_self ..)

theorem limEff_of_none {i : Nat} (h : s.cls i = 0) : s.limEff i = 0 := by
  simp [State.limEff, h, classLimit]

theorem limit_classEnded {i : Fin 4} : (s.classEnded i).get R.INn_LIM_EFF i = 0 := by
  have hcls : ((s.set R.INn_STAT_CLASS 0 i).flag R.INn_STAT_MASKED false i).cls i = 0 := by
    have hoff : ∀ i : Fin 4, (Touch.reg R.INn_STAT_MASKED).off (.key (R.INn_STAT_CLASS.key i)) = true := by decide +kernel
    exact (Part.same_get (Part.same_flag Part.same_refl (hoff i))).trans (get_set_self ..)
  rw [classEnded, State.updateLimit, limEff_of_none hcls, get_set_self]
  rfl

theorem get_classEnded_other {i j : Fin 4} (hne : j ≠ i) {r : Reg} (hr : r ∈ inputRegs) :
    (s.classEnded j).get r i = s.get r i := by
  have hkey := inputRegs_other r hr i j hne
  rw [classEnded, State.updateLimit, get_set_ne _ (hkey _ (by simp)), State.flag, get_set_ne _ (hkey _ (by simp)),
    get_set_ne _ (hkey _ (by simp))]

theorem get_clearClass {i : Fin 4} (j : Nat) (hmap : s.noMap) {r : Reg} (hr : r ∈ inputRegs) :
    (s.clearClass j).get r i = (s.classEnded j).get r i :=
  (within_clearClass hmap j).get (inputRegs_apart r hr i).1

theorem noMap_clearClass (hmap : s.noMap) (i : Nat) : (s.clearClass i).noMap :=
  (within_clearClass_all hmap i).noMap hmap (by decide +kernel)

/-! ### The restart of a classification -/

theorem within_setInstate {i st : Nat} : within Foot.setInstate s (s.setInstate i st) := fun _ => Part.same_setInstate Part.same_refl

theorem instate_setInstate {i : Fin 4} {st : Nat} (hst : st < 16) : (s.setInstate i st).instate i = st := by
  have hoff : ∀ i : Fin 4, (Touch.reg R.IN_STATUS_HELD).off (.key (R.INn_STAT_STATE.key i)) = true := by decide +kernel
  exact (Part.same_get (Part.same_setBit Part.same_refl (hoff i))).trans (get_set_fit i hst)

theorem get_setInstate_other {i j : Fin 4} {st : Nat} (hne : j ≠ i) {r : Reg} (hr : r ∈ inputRegs) :
    (s.setInstate j st).get r i = s.get r i := by
  have hoff : ∀ r ∈ inputRegs, ∀ i : Fin 4, (Touch.reg R.IN_STATUS_HELD).off (.key (r.key i)) = true ∧
      Machine.keeps Foot.needP3 (.key (r.key i)) = true := by decide +kernel
  obtain ⟨hheld, hneed⟩ := hoff r hr i
  rw [State.setInstate, Part.same_get (Part.same_setBit Part.same_refl hheld),
    get_set_ne _ (inputRegs_other r hr i j hne _ (by simp)), within_needP3.get hneed]

/-- An input before its classification restarts: its gates go low, nothing of an earlier classification is kept (R83, R100). -/
def restartPrepared (s : State) (i : Nat) : State :=
  (((((s.gatesAfterRamp i).clear R.X_IDDIFF i).flag R.X_READMIT false i).flag R.X_DECODED false i).flag R.X_PROBE_FAIL false
    i).set R.X_WDROPS 0 i

/-- What the start of SETTLE sets: its time, the reference of its check, and no measurement (R80). -/
def settleFoot : List Touch := touches [R.X_SETTLE_AT, R.X_VBUS0, R.INn_VOC, R.INn_RSRC, R.INn_CURV, R.INn_SIG_DROPOUTS,
  R.INn_SIG_FREQ, R.INn_RIPPLE] [] []

/-- The three ways in which a classification restarts (R79, R83). -/
theorem restartClass_cases (s : State) (i : Nat) : ∃ u, within settleFoot ((s.restartPrepared i).setInstate i 2) u ∧
    s.restartClass i = if !(s.restartPrepared i).enabled i then (s.restartPrepared i).setInstate i 9
      else if (s.restartPrepared i).present i then u
      else (s.restartPrepared i).setInstate i (if (s.restartPrepared i).on R.X_DEBOUNCE i then 1 else 0) := by
  refine ⟨_, fun q hq => ?_, rfl⟩
  simp [settleFoot] at hq
  obtain ⟨hat, hbus, hvoc, hsrc, hcurv, hdrop, hfreq, hripple⟩ := hq
  exact Part.same_clear (Part.same_clear (Part.same_clear (Part.same_clear (Part.same_clear (Part.same_clear (Part.same_set
    (Part.same_set Part.same_refl hat) hbus) hvoc) hsrc) hcurv) hdrop) hfreq) hripple

end State
end Sys2Proof.Machine
end

section
/-! PROOFS. In which state a classification restarts (R79), and gates that stay low (R74, R76). -/

-- One theorem at a time: each decision by the kernel waits for all declarations before it and holds a thread meanwhile.
set_option Elab.async false

namespace Sys2Proof.Machine
namespace State

variable {s t u : State} {l m : List Touch}

/-- What an input forgets when its classification restarts. -/
def forgottenFoot : List Touch := touches [R.X_IDDIFF, R.X_READMIT, R.X_DECODED, R.X_PROBE_FAIL, R.X_WDROPS] [] []

theorem within_restartPrepared {i : Nat} : within forgottenFoot (s.gatesAfterRamp i) (s.restartPrepared i) := by
  intro q hq
  simp [forgottenFoot] at hq
  obtain ⟨hdiff, hreadmit, hdecoded, hfail, hdrops⟩ := hq
  exact Part.same_set (Part.same_flag (Part.same_flag (Part.same_flag (Part.same_clear Part.same_refl hdiff) hreadmit) hdecoded)
    hfail) hdrops

theorem within_gatesAfterRamp {i : Nat} : within Foot.gatesAfterRamp s (s.gatesAfterRamp i) := fun _ =>
  Part.same_gatesAfterRamp Part.same_refl

/-- What an input's preparation for a restart changes. -/
def preparedFoot : List Touch := Foot.gatesAfterRamp ++ forgottenFoot

theorem within_prepared {i : Nat} : within preparedFoot s (s.restartPrepared i) :=
  within_gatesAfterRamp.trans within_restartPrepared

theorem phasesOf_eq (h : within l s t) (hoff : ∀ p : Fin 6, Machine.keeps l (.key (R.CNV_PHn_STAT_GROUP.key p)) = true) (g : Nat) :
    t.phasesOf g = s.phasesOf g :=
  List.filter_congr fun p hp => by rw [h.get (hoff ⟨p, List.mem_range.1 hp⟩)]

/-- What says in which state a classification restarts. -/
def restartParts (i : Nat) : List Part := [.key (R.INn_CTRL.key i), .key (R.IN_STATUS_PRESENT.key 0), .key (R.X_DEBOUNCE.key i)] ++
  (List.range 6).map (fun p => .key (R.CNV_PHn_STAT_GROUP.key p))

/-- Whether a footprint leaves what says in which state the classification of an input restarts. -/
def sparesRestart (l : List Touch) (i : Nat) : Bool := (restartParts i).all (Machine.keeps l)

theorem within.restarts (h : within l s t) {i : Nat} (hoff : sparesRestart l i = true) : t.enabled i = s.enabled i ∧
    t.present i = s.present i ∧ t.on R.X_DEBOUNCE i = s.on R.X_DEBOUNCE i := by
  have hpart : ∀ q ∈ restartParts i, Machine.keeps l q = true := List.all_eq_true.1 hoff
  have hphases := phasesOf_eq h (fun p => hpart _ (List.mem_append_right _ (List.mem_map_of_mem (List.mem_range.2 p.isLt)))) i
  refine ⟨?_, h.bit (hpart _ (by simp [restartParts])), h.on (hpart _ (by simp [restartParts]))⟩
  rw [State.enabled, State.enabled, hphases, h.on (hpart _ (by simp [restartParts]))]

theorem within.restartState (h : within l s t) {i : Nat} (hoff : sparesRestart l i = true) : t.restartState i = s.restartState i := by
  obtain ⟨henabled, hpresent, hdebounce⟩ := h.restarts hoff
  rw [State.restartState, State.restartState, henabled, hpresent, hdebounce]

theorem instate_restartClass {i : Fin 4} : (s.restartClass i).instate i = s.restartState i := by
  have hoff : ∀ i : Fin 4, sparesRestart preparedFoot i = true ∧ Machine.keeps settleFoot (.key (R.INn_STAT_STATE.key i)) = true := by
    decide +kernel
  obtain ⟨hspared, hsettle⟩ := hoff i
  obtain ⟨u, hu, hcases⟩ := restartClass_cases s i
  obtain ⟨henabled, hpresent, hdebounce⟩ := within_prepared.restarts hspared
  have hbegun : u.instate i = 2 := (hu.get hsettle).trans (instate_setInstate (by decide))
  rw [hcases, henabled, hpresent, hdebounce, State.restartState]
  split
  · exact instate_setInstate (by decide)
  split
  · exact hbegun
  · exact instate_setInstate (by split <;> decide)

theorem get_restartClass_other {i j : Fin 4} (hne : j ≠ i) {r : Reg} (hr : r ∈ inputRegs) :
    (s.restartClass j).get r i = s.get r i := by
  have hoff : ∀ r ∈ inputRegs, ∀ i : Fin 4, Machine.keeps preparedFoot (.key (r.key i)) = true ∧
      Machine.keeps settleFoot (.key (r.key i)) = true := by decide +kernel
  obtain ⟨hprepared, hsettle⟩ := hoff r hr i
  have hset : ∀ st, ((s.restartPrepared j).setInstate j st).get r i = s.get r i := fun st =>
    (get_setInstate_other hne hr).trans (within_prepared.get hprepared)
  obtain ⟨u, hu, hcases⟩ := restartClass_cases s j
  have hbegun : u.get r i = s.get r i := (hu.get hsettle).trans (hset 2)
  rw [hcases]
  split
  · exact hset _
  split
  · exact hbegun
  · exact hset _

theorem within_restartClass {i : Nat} : within Foot.restartClass s (s.restartClass i) := fun _ =>
  Part.same_restartClass Part.same_refl

/-! ### Gates that are low -/

/-- The gates of an input are low (R74). -/
def gatesLow (s : State) (i : Nat) : Prop := s.bit R.IN_STATUS_FET_ON i = false

theorem within.gatesLow (h : within l s t) {i : Nat} (hlow : s.gatesLow i)
    (hoff : Machine.keeps l (.key (R.IN_STATUS_FET_ON.key 0)) = true) : t.gatesLow i := (h.bit hoff).trans hlow

theorem gatesLow_ite {c : Prop} [Decidable c] {i : Nat} (ht : t.gatesLow i) (hu : u.gatesLow i) :
    (if c then t else u).gatesLow i := by
  split <;> assumption

theorem bit_setBit_false {r : Reg} {b c i : Nat} (h : s.bit r b i = false) : (s.setBit r c false i).bit r b i = false := by
  simp only [State.bit, State.setBit, get_set_self, Nat.testBit_mod_two_pow, Bool.false_eq_true, if_false] at h ⊢
  rw [Bool.and_eq_false_iff]
  right
  split
  case isTrue hc => exact Bool.eq_false_iff.2 fun hb => absurd (testBit_of_sub_two_pow hc hb) (by simp [h])
  case isFalse => exact h

/-- What follows the bit of an input in driving its gates. -/
def gateFoot : List Touch := touches [R.X_GA, R.X_GATE_OFF] [] []

theorem within_gates {i : Nat} {b : Bool} : within gateFoot (s.setBit R.IN_STATUS_FET_ON i
    (b && !s.bit R.BIST_STATUS_SAFE 3 && !s.stands R.IN_FAULT_REV_POL i && !s.on R.MODE_STATUS_THERM_ACTIVE)) (s.gates i b) := by
  intro q hq
  simp [gateFoot] at hq
  exact Part.same_flag (Part.same_flag Part.same_refl hq.1) hq.2

/-- Gates that are driven, but for the safe state of P3, a reverse polarity and Thermal Hold (R94, R432, R454). -/
theorem fetOn_gates {i : Fin 4} {b : Bool} : (s.gates i b).bit R.IN_STATUS_FET_ON i =
    (b && !s.bit R.BIST_STATUS_SAFE 3 && !s.stands R.IN_FAULT_REV_POL i && !s.on R.MODE_STATUS_THERM_ACTIVE) :=
  (within_gates.bit (by decide +kernel)).trans (bit_setBit_self _ 0 i.isLt)

theorem gatesLow_gates_self {i : Fin 4} : (s.gates i false).gatesLow i := by
  rw [gatesLow, fetOn_gates]
  simp

theorem gatesLow_gates {i j : Nat} (h : s.gatesLow i) : (s.gates j false).gatesLow i :=
  within_gates.gatesLow (bit_setBit_false h) (by decide +kernel)

/-- What stopping the phases of a group changes, beside the gates that wait for it. -/
def phasesFoot : List Touch := touches [R.CNV_PHn_STAT_SHED, R.CNV_PHn_I, R.TRKn_STAT_GOVERNED, R.TRKn_STAT_LOOP, R.CNV_Gg_IL,
  R.CNV_Gg_PEAK, R.CNV_Gg_STAT_EQ_ACTIVE, R.CNV_Gg_STAT_PH_LIMIT, R.CNV_Gg_STAT_DE, R.CNV_Gg_STAT_BURST, R.CNV_Gg_STAT_REGION,
  R.X_TUNING, R.X_CTRL_SW, R.X_RAMP] [] [Foot.switchPhase, Foot.countActive, Foot.phasePeaks]

/-- The phases of a group stop, then the gates that wait for it go low. -/
theorem idlePhases_cases (s : State) (g : Nat) : ∃ u, within phasesFoot s u ∧
    s.idlePhases g = if s.on R.X_GATE_OFF g then u.gates g false else u := by
  have hoff : Machine.keeps phasesFoot (.key (R.X_GATE_OFF.key g)) = true :=
    apart_keeps (by decide) (by decide +kernel) g
  suffices h : ∃ u, within phasesFoot s u ∧ s.idlePhases g = if u.on R.X_GATE_OFF g then u.gates g false else u by
    obtain ⟨u, hu, hcases⟩ := h
    exact ⟨u, hu, by rw [hcases, hu.on hoff]⟩
  unfold State.idlePhases
  extract_lets phases group all
  refine ⟨all, fun q hq => ?_, rfl⟩
  simp [phasesFoot, and_assoc] at hq
  obtain ⟨hshed, hi, hgov, hloop, hil, hpeak, heq, hlimit, hde, hburst, hregion, htuning, hctrl, hramp, hswitch, hactive, hpeaks⟩ := hq
  have hphases : q.same s phases :=
    Part.same_foldl Part.same_refl fun _ _ hv => Part.same_flag (Part.same_set (Part.same_switchPhase hv hswitch) hi) hshed
  have hgroup : q.same s group := Part.same_flag (Part.same_set (Part.same_set (Part.same_set (Part.same_flag (Part.same_flag
    (Part.same_flag (Part.same_flag (Part.same_set (Part.same_countActive hphases hactive) hregion) hburst) hde) hlimit) heq) hpeak)
    hil) hloop) hgov
  exact Part.same_phasePeaks (Part.same_flag (Part.same_set (Part.same_set hgroup hramp) hctrl) htuning) hpeaks

theorem gatesLow_idlePhases {i g : Nat} (h : s.gatesLow i) : (s.idlePhases g).gatesLow i := by
  obtain ⟨u, hu, hcases⟩ := idlePhases_cases s g
  have hlow : u.gatesLow i := hu.gatesLow h (by decide +kernel)
  rw [hcases]
  exact gatesLow_ite (gatesLow_gates hlow) hlow

theorem gatesLow_gatesAfterRamp {i j : Nat} (h : s.gatesLow i) : (s.gatesAfterRamp j).gatesLow i := by
  unfold State.gatesAfterRamp
  exact gatesLow_ite (within_flag.gatesLow h (by decide +kernel)) (gatesLow_gates h)

theorem gatesLow_stopGroup {i g : Nat} (hmap : s.noMap) (h : s.gatesLow i) : (s.stopGroup g).gatesLow i := by
  rw [stopGroup_eq hmap]
  exact (within_settleGroup.trans within_flag).gatesLow (gatesLow_idlePhases h) (by decide +kernel)

theorem gatesLow_rampDown {i g : Nat} (hmap : s.noMap) (h : s.gatesLow i) : (s.rampDown g).gatesLow i := by
  have hnone : (s.noCeiling g).gatesLow i := within_noCeiling.gatesLow h (by decide +kernel)
  have hstop := gatesLow_stopGroup (g := g) ((within_noCeiling (g := g)).noMap hmap (by decide +kernel)) hnone
  unfold State.rampDown State.zeroCeiling
  exact gatesLow_ite (within_set.gatesLow h (by decide +kernel)) (gatesLow_ite hstop hnone)

theorem gatesLow_endTrip {i g cause : Nat} (hmap : s.noMap) (h : s.gatesLow i) : (s.endTrip g cause).gatesLow i := by
  have htrip : within [.reg R.X_TRIP] s (s.setBit R.X_TRIP cause false g) := within_setBit
  have hlow : (s.setBit R.X_TRIP cause false g).gatesLow i := htrip.gatesLow h (by decide +kernel)
  have hstop := gatesLow_stopGroup (g := g) (htrip.noMap hmap (by decide +kernel)) hlow
  unfold State.endTrip
  exact gatesLow_ite (gatesLow_ite (within_toOnDelay.gatesLow hstop (by decide +kernel)) hstop) hlow

theorem gatesLow_clearClass {i j : Nat} (hmap : s.noMap) (h : s.gatesLow i) : (s.clearClass j).gatesLow i := by
  have hend := within_classEnded.trans (within_endClass (s := s) (i := j))
  have hmapEnd : (s.endClass j).noMap := hend.noMap hmap (by decide +kernel)
  exact gatesLow_endTrip ((within_rampDown hmapEnd j).noMap hmapEnd (by decide +kernel))
    (gatesLow_rampDown hmapEnd (hend.gatesLow h (by decide +kernel)))

theorem gatesLow_restartClass {i j : Nat} (h : s.gatesLow i) : (s.restartClass j).gatesLow i := by
  have hprepared : (s.restartPrepared j).gatesLow i :=
    within_restartPrepared.gatesLow (gatesLow_gatesAfterRamp h) (by decide +kernel)
  have hset : ∀ st, ((s.restartPrepared j).setInstate j st).gatesLow i := fun _ =>
    within_setInstate.gatesLow hprepared (by decide +kernel)
  obtain ⟨u, hu, hcases⟩ := restartClass_cases s j
  have hbegun : u.gatesLow i := hu.gatesLow (hset 2) (by decide +kernel)
  rw [hcases]
  exact gatesLow_ite (hset _) (gatesLow_ite hbegun (hset _))

end State
end Sys2Proof.Machine
end

section
/-! PROOFS. Where a TP class ends, the inputs that wait for it start over (R91); a class that is dropped (R83, R92). -/

-- One theorem at a time: each decision by the kernel waits for all declarations before it and holds a thread meanwhile.
set_option Elab.async false

namespace Sys2Proof.Machine
namespace State

variable {s t u : State} {l m : List Touch}

/-! ### The inputs that a TP class frees (R91) -/

theorem within_sourceEvent {i event : Nat} : within Foot.sourceEvent s (s.sourceEvent i event) := fun _ =>
  Part.same_sourceEvent Part.same_refl

/-- An input that waits for a TP class to end starts over (R91). -/
def freed (s : State) (j : Nat) : State := ((s.clearClass j).sourceEvent j 0x05).restartClass j

/-- What the inputs that start over change. -/
def freeFoot : List Touch := clearFoot ++ Foot.sourceEvent ++ Foot.restartClass

theorem within_freed (hmap : s.noMap) (j : Nat) : within freeFoot s (s.freed j) :=
  ((within_clearClass_all hmap j).trans within_sourceEvent).trans within_restartClass

theorem within_freeDup (hmap : s.noMap) : within freeFoot s s.freeDup := by
  unfold State.freeDup
  refine each_keeps within_refl fun j t _ ht => within.ite (ht.chain (within_freed (ht.noMap hmap (by decide +kernel)) j)) ht

/-- What the start-over of another input leaves of an input: no map is held, its class, state and limit are as before, and its gates
stay low. -/
structure spares (s : State) (i : Fin 4) (t : State) : Prop where
  noMap : t.noMap
  regs : ∀ r ∈ inputRegs, t.get r i = s.get r i
  low : s.gatesLow i → t.gatesLow i

theorem spares_freed {i j : Fin 4} (hmap : s.noMap) (hne : j ≠ i) : s.spares i (s.freed j) where
  noMap := (within_freed hmap j).noMap hmap (by decide +kernel)
  regs := fun r hr => by
    rw [freed, get_restartClass_other hne hr, within_sourceEvent.get (inputRegs_apart r hr i).2, get_clearClass j hmap hr,
      get_classEnded_other hne hr]
  low := fun hlow => gatesLow_restartClass (within_sourceEvent.gatesLow (gatesLow_clearClass hmap hlow) (by decide +kernel))

/-- An input whose class is not UK is left alone where a TP class ends (R91). -/
theorem spares_freeDup {i : Fin 4} (hmap : s.noMap) (hcls : s.cls i ≠ 6) : s.spares i s.freeDup := by
  unfold State.freeDup
  refine each_keeps ⟨hmap, fun _ _ => rfl, id⟩ fun j t hj ht => ?_
  split
  case isFalse => exact ht
  case isTrue h =>
    have hne : (⟨j, hj⟩ : Fin 4) ≠ i := by
      rintro rfl
      exact hcls ((ht.regs R.INn_STAT_CLASS (by simp [inputRegs])).symm.trans h.2)
    have hstep := spares_freed (s := t) ht.noMap hne
    exact ⟨hstep.noMap, fun r hr => (hstep.regs r hr).trans (ht.regs r hr), fun h => hstep.low (ht.low h)⟩

/-! ### A class is dropped (R83, R92) -/

/-- What a dropped class changes. -/
def dropFoot : List Touch := clearFoot ++ Foot.sourceEvent ++ freeFoot

/-- An input whose class has just been dropped. -/
structure dropped (s : State) (i : Fin 4) (t : State) : Prop where
  within : within dropFoot s t
  cls : t.cls i = 0
  instate : t.instate i = s.instate i

theorem dropped.noMap {i : Fin 4} (h : s.dropped i t) (hmap : s.noMap) : t.noMap := h.within.noMap hmap (by decide +kernel)

/-- The end of a class with its record, before TP waiters start over. -/
theorem get_classDropped {i : Fin 4} {event : Nat} (hmap : s.noMap) {r : Reg} (hr : r ∈ inputRegs) :
    ((s.clearClass i).sourceEvent i event).get r i = (s.classEnded i).get r i :=
  (within_sourceEvent.get (inputRegs_apart r hr i).2).trans (get_clearClass i hmap hr)

theorem noMap_classDropped {i event : Nat} (hmap : s.noMap) : ((s.clearClass i).sourceEvent i event).noMap :=
  within_sourceEvent.noMap (noMap_clearClass hmap i) (by decide +kernel)

theorem instate_classEnded {i : Fin 4} : (s.classEnded i).instate i = s.instate i := by
  have hoff : ∀ i : Fin 4, Machine.keeps classEndedFoot (.key (R.INn_STAT_STATE.key i)) = true := by decide +kernel
  exact within_classEnded.get (hoff i)

/-- Dropping a class that is held. -/
theorem get_dropClass {i : Fin 4} {event : Nat} (hmap : s.noMap) (hcls : s.cls i ≠ 0) {r : Reg} (hr : r ∈ inputRegs) :
    (s.dropClass i event).get r i = (s.classEnded i).get r i := by
  have hended := get_classDropped (i := i) (event := event) hmap hr
  have hnone : ((s.clearClass i).sourceEvent i event).cls i ≠ 6 := by
    rw [State.cls, get_classDropped hmap (by simp [inputRegs])]
    exact fun h => absurd (cls_classEnded.symm.trans h) (by decide)
  have hfree := spares_freeDup (noMap_classDropped hmap) hnone
  rw [State.dropClass, if_neg hcls]
  dsimp only [State.iff]
  split
  · exact (hfree.regs r hr).trans hended
  · exact hended

theorem within_dropClass {i event : Nat} (hmap : s.noMap) : within dropFoot s (s.dropClass i event) := by
  have hended := (within_clearClass_all hmap i).trans (within_sourceEvent (event := event) (i := i))
  unfold State.dropClass State.iff
  exact within.ite within_refl (within.ite (hended.trans (within_freeDup (noMap_classDropped hmap))) hended.left)

/-- Only a TP class frees others (R91). -/
theorem within_dropClass_of_notTp {i event : Nat} (hmap : s.noMap) (htp : s.cls i ≠ 1) :
    within (clearFoot ++ Foot.sourceEvent) s (s.dropClass i event) := by
  unfold State.dropClass State.iff
  refine within.ite within_refl ?_
  rw [if_neg (by simpa using htp)]
  exact (within_clearClass_all hmap i).trans within_sourceEvent

theorem dropped_dropClass {i : Fin 4} {event : Nat} (hmap : s.noMap) : s.dropped i (s.dropClass i event) := by
  refine ⟨within_dropClass hmap, ?_, ?_⟩
  all_goals by_cases hcls : s.cls i = 0
  · rwa [State.dropClass, if_pos hcls]
  · exact (get_dropClass hmap hcls (by simp [inputRegs])).trans cls_classEnded
  · rw [State.dropClass, if_pos hcls]
  · exact (get_dropClass hmap hcls (by simp [inputRegs])).trans instate_classEnded

/-! ### Classification restarts (R83, R100) -/

theorem cls_restartClass {i : Fin 4} (j : Nat) : (s.restartClass j).cls i = s.cls i := by
  have hoff : ∀ i : Fin 4, Machine.keeps Foot.restartClass (.key (R.INn_STAT_CLASS.key i)) = true := by decide +kernel
  exact within_restartClass.get (hoff i)

/-- A field that neither the new state nor the start of SETTLE sets. -/
theorem get_restartClass {i j : Nat} {r : Reg} (hset : Machine.keeps Foot.setInstate (.key (r.key j)) = true)
    (hsettle : Machine.keeps settleFoot (.key (r.key j)) = true) : (s.restartClass i).get r j = (s.restartPrepared i).get r j := by
  have hstate : ∀ st, ((s.restartPrepared i).setInstate i st).get r j = (s.restartPrepared i).get r j := fun _ =>
    within_setInstate.get hset
  obtain ⟨u, hu, hcases⟩ := restartClass_cases s i
  rw [hcases]
  split
  · exact hstate _
  split
  · exact (hu.get hsettle).trans (hstate _)
  · exact hstate _

theorem iddiff_restartClass {i : Fin 4} : (s.restartClass i).get R.X_IDDIFF i = 0 := by
  have hoff : ∀ i : Fin 4, Machine.keeps Foot.setInstate (.key (R.X_IDDIFF.key i)) = true ∧
      Machine.keeps settleFoot (.key (R.X_IDDIFF.key i)) = true ∧ Machine.keeps (touches [R.X_READMIT, R.X_DECODED,
      R.X_PROBE_FAIL, R.X_WDROPS] [] []) (.key (R.X_IDDIFF.key i)) = true := by decide +kernel
  obtain ⟨hset, hsettle, hrest⟩ := hoff i
  simp at hrest
  obtain ⟨hreadmit, hdecoded, hfail, hdrops⟩ := hrest
  rw [get_restartClass hset hsettle, restartPrepared, Part.same_get (Part.same_set (Part.same_flag (Part.same_flag (Part.same_flag
    Part.same_refl hreadmit) hdecoded) hfail) hdrops), get_clear_self]
  simp [Reg.resetAt, R.X_IDDIFF]

theorem readmit_restartClass {i : Fin 4} : (s.restartClass i).on R.X_READMIT i = false := by
  have hoff : ∀ i : Fin 4, Machine.keeps Foot.setInstate (.key (R.X_READMIT.key i)) = true ∧
      Machine.keeps settleFoot (.key (R.X_READMIT.key i)) = true ∧ Machine.keeps (touches [R.X_DECODED, R.X_PROBE_FAIL,
      R.X_WDROPS] [] []) (.key (R.X_READMIT.key i)) = true := by decide +kernel
  obtain ⟨hset, hsettle, hrest⟩ := hoff i
  simp at hrest
  obtain ⟨hdecoded, hfail, hdrops⟩ := hrest
  rw [State.on, get_restartClass hset hsettle, restartPrepared, Part.same_get (Part.same_set (Part.same_flag (Part.same_flag
    Part.same_refl hdecoded) hfail) hdrops)]
  exact on_flag_self _ _ _ _ (by decide)

/-- What a dropped class and the restart after it change. -/
def droppedFoot : List Touch := dropFoot ++ Foot.restartClass

/-- The class of an input is dropped and its classification restarts. -/
theorem dropClass_restartClass {i : Fin 4} {event : Nat} (hmap : s.noMap) :
    within droppedFoot s ((s.dropClass i event).restartClass i) ∧ ((s.dropClass i event).restartClass i).cls i = 0 ∧
      ((s.dropClass i event).restartClass i).instate i = s.restartState i := by
  have hdrop := dropped_dropClass (i := i) (event := event) hmap
  have hoff : ∀ i : Fin 4, sparesRestart dropFoot i = true := by decide +kernel
  exact ⟨hdrop.within.trans within_restartClass, (cls_restartClass i).trans hdrop.cls,
    instate_restartClass.trans (hdrop.within.restartState (hoff i))⟩

end State
end Sys2Proof.Machine
end

section
/-! PROOFS. What drops the class of an input: ID_REDECODE (R83), CLASS_HOLD_EXPIRE (R92), RECLASSIFY (R100) and INPUT_ENABLE_WRITE (R101). -/

-- One theorem at a time: each decision by the kernel waits for all declarations before it and holds a thread meanwhile.
set_option Elab.async false

namespace Sys2Proof.Machine

/-! ### ID_REDECODE (R83) -/

section
variable {s : State} {i : Fin 4}
open State

theorem bandOf_lt (k : Nat) : (bandOf k).getD 7 < 8 := by
  unfold bandOf
  split_ifs <;> decide

theorem within_setBand {k : Nat} : within Foot.setBand s (s.setBand i k) := fun _ => Part.same_setBand Part.same_refl

/-- What a decode stores after the band. -/
theorem band_setBand {k : Nat} : (s.setBand i k).get R.INn_STAT_BAND i = (bandOf k).getD 7 := by
  have hoff : ∀ i : Fin 4, keeps (touches [R.INn_STAT_DECLARED, R.X_KBAD, R.X_DECODED, R.X_DECODE_AT] [] [])
      (.key (R.INn_STAT_BAND.key i)) = true := by decide +kernel
  have hi := hoff i
  simp at hi
  obtain ⟨hdeclared, hbad, hdecoded, hat⟩ := hi
  rw [State.setBand]
  exact (Part.same_get (Part.same_set (Part.same_flag (Part.same_flag (Part.same_flag Part.same_refl hdeclared) hbad) hdecoded)
    hat)).trans (get_set_fit i (bandOf_lt k))

/-- What an ID decode leaves alone of an input, and what leaves the band. -/
theorem setBand_apart (i : Fin 4) : (∀ r ∈ [R.INn_STAT_CLASS, R.INn_STAT_STATE, R.X_IDDIFF, R.X_BAND],
    keeps Foot.setBand (.key (r.key i)) = true) ∧ sparesRestart Foot.setBand i = true ∧
    keeps ([.reg R.X_IDDIFF] ++ droppedFoot) (.key (R.INn_STAT_BAND.key i)) = true ∧
    keeps [.reg R.X_IDDIFF] (.key (R.INn_STAT_CLASS.key i)) = true ∧
    keeps [.reg R.X_IDDIFF] (.key (R.INn_STAT_STATE.key i)) = true := by
  revert i
  decide +kernel

theorem exec_idRedecode {k : Nat} (hstate : s.instate i = 7 ∨ s.instate i = 8) : exec (.idRedecode i k) s = .next
    (if (s.setBand i k).get R.INn_STAT_BAND i = (s.setBand i k).get R.X_BAND i then (s.setBand i k).clear R.X_IDDIFF i
    else if (s.setBand i k).get R.X_IDDIFF i = 0 then (s.setBand i k).set R.X_IDDIFF 1 i
    else ((s.setBand i k).dropClass i 0x03).restartClass i) := congrArg Host.Outcome.next (if_pos hstate)

theorem idRedecode_gives {k : Nat} (hstate : s.instate i = 7 ∨ s.instate i = 8) (hmap : s.noMap) :
    Gives (exec (.idRedecode i k) s) (fun t => t.get R.INn_STAT_BAND i = (bandOf k).getD 7 ∧
      t.get R.X_IDDIFF i = (if (bandOf k).getD 7 = s.get R.X_BAND i ∨ s.get R.X_IDDIFF i ≠ 0 then 0 else 1) ∧
      (if (bandOf k).getD 7 = s.get R.X_BAND i ∨ s.get R.X_IDDIFF i = 0 then t.cls i = s.cls i ∧ t.instate i = s.instate i
      else t.cls i = 0 ∧ t.instate i = s.restartState i)) := by
  obtain ⟨hkept, hrestart, hband, hclass, hstate'⟩ := setBand_apart i
  rw [keeps_append, Bool.and_eq_true] at hband
  obtain ⟨hbandDiff, hbandDrop⟩ := hband
  have hsame : ∀ r ∈ [R.INn_STAT_CLASS, R.INn_STAT_STATE, R.X_IDDIFF, R.X_BAND],
      (s.setBand i k).get r i = s.get r i := fun r hr => within_setBand.get (hkept r hr)
  have hcls : (s.setBand i k).cls i = s.cls i := hsame R.INn_STAT_CLASS (by simp)
  have hin : (s.setBand i k).instate i = s.instate i := hsame R.INn_STAT_STATE (by simp)
  have hnext := exec_idRedecode (k := k) hstate
  rw [band_setBand, hsame R.X_BAND (by simp), hsame R.X_IDDIFF (by simp)] at hnext
  by_cases heq : (bandOf k).getD 7 = s.get R.X_BAND i
  · rw [if_pos heq] at hnext
    refine ⟨_, hnext, (within_clear.get hbandDiff).trans band_setBand, ?_, ?_⟩
    · rw [if_pos (.inl heq), get_clear_self]
      simp [Reg.resetAt, R.X_IDDIFF]
    · rw [if_pos (.inl heq)]
      exact ⟨(within_clear.get hclass).trans hcls, (within_clear.get hstate').trans hin⟩
  by_cases hfirst : s.get R.X_IDDIFF i = 0
  · rw [if_neg heq, if_pos hfirst] at hnext
    refine ⟨_, hnext, (within_set.get hbandDiff).trans band_setBand, ?_, ?_⟩
    · rw [if_neg (not_or.2 ⟨heq, not_not.2 hfirst⟩), get_set_fit _ (by decide)]
    · rw [if_pos (.inr hfirst)]
      exact ⟨(within_set.get hclass).trans hcls, (within_set.get hstate').trans hin⟩
  · rw [if_neg heq, if_neg hfirst] at hnext
    obtain ⟨hwithin, hnone, hstart⟩ := dropClass_restartClass (i := i) (event := 0x03)
      ((within_setBand (i := i) (k := k)).noMap hmap (by decide +kernel))
    refine ⟨_, hnext, (hwithin.get hbandDrop).trans band_setBand, ?_, ?_⟩
    · rw [if_pos (.inr hfirst), iddiff_restartClass]
    · rw [if_neg (not_or.2 ⟨heq, hfirst⟩)]
      exact ⟨hnone, hstart.trans (within_setBand.restartState hrestart)⟩

end

/-! ### CLASS_HOLD_EXPIRE (R52, R92) -/

namespace State

variable {s t : State}

/-- No input has class TP. -/
def noTp (s : State) : Prop := ∀ j : Fin 4, s.cls j ≠ 1

theorem noTp_clearClass {i : Fin 4} (hmap : s.noMap) (hother : ∀ j : Fin 4, j ≠ i → s.cls j ≠ 1) : (s.clearClass i).noTp := by
  intro j
  have hended : (s.clearClass i).cls j = (s.classEnded i).cls j := get_clearClass i hmap (by simp [inputRegs])
  rw [hended]
  by_cases hj : j = i
  · rw [hj, cls_classEnded]
    decide
  · rw [State.cls, get_classEnded_other (Ne.symm hj) (by simp [inputRegs])]
    exact hother j hj

theorem noTp.within {l : List Touch} (h : s.noTp) (hw : within l s t)
    (hoff : ∀ j : Fin 4, Machine.keeps l (.key (R.INn_STAT_CLASS.key j)) = true) : t.noTp := fun j =>
  fun hj => h j ((hw.get (hoff j)).symm.trans hj)

theorem noTp_freeDup (hmap : s.noMap) (h : s.noTp) : s.freeDup.noTp := by
  unfold State.freeDup
  refine (each_keeps (Q := fun t => t.noMap ∧ t.noTp) ⟨hmap, h⟩ fun j t hj ht => ?_).2
  split
  case isFalse => exact ht
  case isTrue =>
    refine ⟨(within_freed ht.1 j).noMap ht.1 (by decide +kernel), ?_⟩
    exact ((noTp_clearClass (i := ⟨j, hj⟩) ht.1 fun k _ => ht.2 k).within within_sourceEvent (by decide +kernel)).within
      within_restartClass (by decide +kernel)

theorem noTp_dropClass {i : Fin 4} {event : Nat} (hmap : s.noMap) (hcls : s.cls i ≠ 0)
    (hother : ∀ j : Fin 4, j ≠ i → s.cls j ≠ 1) : (s.dropClass i event).noTp := by
  have hended := (noTp_clearClass hmap hother).within (within_sourceEvent (i := i) (event := event)) (by decide +kernel)
  rw [State.dropClass, if_neg hcls]
  dsimp only [State.iff]
  split
  · exact noTp_freeDup (noMap_classDropped hmap) hended
  · exact hended

/-- An input whose hold has expired: without a class, and absent if it was HELD (R92). -/
def holdExpired (s : State) (i : Nat) : State :=
  (s.dropClass i 0x02).iff (s.instate i == 8) (fun t => t.setInstate i (if t.on R.X_DEBOUNCE i then 1 else 0))

theorem within_holdExpired {i : Fin 4} : within Foot.setInstate (s.dropClass i 0x02) (s.holdExpired i) := by
  unfold holdExpired State.iff
  exact within.ite within_setInstate within_refl

theorem holdExpired_gives {i : Fin 4} (hmap : s.noMap) (hcls : s.cls i ≠ 0) (hstate : s.instate i = 8 ∨ s.instate i = 10) :
    (s.holdExpired i).cls i = 0 ∧ (s.holdExpired i).get R.INn_LIM_EFF i = 0 ∧
      (s.holdExpired i).instate i = (if s.instate i = 10 then 10 else if s.on R.X_DEBOUNCE i then 1 else 0) := by
  have hoff : ∀ i : Fin 4, Machine.keeps Foot.setInstate (.key (R.INn_STAT_CLASS.key i)) = true ∧
      Machine.keeps Foot.setInstate (.key (R.INn_LIM_EFF.key i)) = true ∧ sparesRestart dropFoot i = true := by decide +kernel
  obtain ⟨hclass, hlimit, hspared⟩ := hoff i
  have hdrop := dropped_dropClass (i := i) (event := 0x02) hmap
  refine ⟨(within_holdExpired.get hclass).trans hdrop.cls, ?_, ?_⟩
  · rw [within_holdExpired.get hlimit, get_dropClass hmap hcls (by simp [inputRegs]), limit_classEnded]
  · obtain ⟨-, -, hdebounce⟩ := hdrop.within.restarts hspared
    unfold holdExpired State.iff
    rcases hstate with hstate | hstate
    · rw [if_pos (by simp [hstate]), instate_setInstate (by split <;> decide), hdebounce, if_neg (show ¬ s.instate i = 10 by omega)]
    · rw [if_neg (by simp [hstate]), hdrop.instate, hstate, if_pos rfl]

theorem within_uncouple : within Foot.uncouple s s.uncouple := fun _ => Part.same_uncouple Part.same_refl

theorem coupled_uncouple : s.uncouple.on R.MODE_STATUS_COUPLED = false := by
  unfold State.uncouple
  split
  case isTrue =>
    exact (on_same (Part.same_cause (Part.same_startGrace Part.same_refl (by decide +kernel)) (by decide +kernel))).trans
      (on_flag_self _ _ _ _ (by decide))
  case isFalse h => exact Bool.eq_false_iff.2 h

theorem hasClass_of_noTp (h : s.noTp) : s.hasClass 1 = false := by
  rw [State.hasClass, List.any_eq_false]
  intro j hj
  simp [h ⟨j, List.mem_range.1 hj⟩]

end State

section
variable {s : State} {i : Fin 4}
open State

theorem exec_classHoldExpire (hdue : s.instate i = 8 ∧ s.present i = false ∨ s.instate i = 10 ∧ s.on R.X_OV i)
    (hcls : s.cls i ≠ 0) : exec (.classHoldExpire i) s =
      .next ((s.holdExpired i).iff (s.cls i == 1 && !(s.holdExpired i).hasClass 1) State.uncouple) :=
  congrArg Host.Outcome.next (if_pos ⟨by simpa using hdue, hcls⟩)

theorem classHoldExpire_gives (hdue : s.instate i = 8 ∧ s.present i = false ∨ s.instate i = 10 ∧ s.on R.X_OV i)
    (hcls : s.cls i ≠ 0) (hmap : s.noMap) : Gives (exec (.classHoldExpire i) s) (fun t => t.cls i = 0 ∧
      t.instate i = (if s.instate i = 10 then 10 else if s.on R.X_DEBOUNCE i then 1 else 0) ∧ t.get R.INn_LIM_EFF i = 0 ∧
      (s.cls i = 1 → (∀ j : Fin 4, j ≠ i → s.cls j ≠ 1) → t.on R.MODE_STATUS_COUPLED = false)) := by
  have hoff : ∀ i : Fin 4, ∀ r ∈ inputRegs, keeps Foot.uncouple (.key (r.key i)) = true := by decide +kernel
  obtain ⟨hnone, hlimit, hstate⟩ := holdExpired_gives hmap hcls (hdue.imp And.left And.left)
  have hkeep : within Foot.uncouple (s.holdExpired i)
      ((s.holdExpired i).iff (s.cls i == 1 && !(s.holdExpired i).hasClass 1) State.uncouple) :=
    within.ite within_uncouple within_refl
  have hsame := fun r hr => hkeep.get (hoff i r hr)
  refine ⟨_, exec_classHoldExpire hdue hcls, (hsame R.INn_STAT_CLASS (by simp [inputRegs])).trans hnone,
    (hsame R.INn_STAT_STATE (by simp [inputRegs])).trans hstate, (hsame R.INn_LIM_EFF (by simp [inputRegs])).trans hlimit, ?_⟩
  intro htp hother
  have hgone : (s.holdExpired i).hasClass 1 = false :=
    hasClass_of_noTp ((noTp_dropClass hmap hcls hother).within within_holdExpired (by decide +kernel))
  rw [State.iff, if_pos (by simp [htp, hgone])]
  exact coupled_uncouple

/-- The conditions behind the faults of an input have a bit of their own each (R94). -/
theorem inputFault_lt {r : Reg} (hr : r ∈ [R.IN_FAULT_OV, R.IN_FAULT_REV_POL, R.IN_FAULT_FET, R.IN_FAULT_CLASS]) (i : Fin 4) :
    r.lo + i < R.X_COND.width := by
  revert r i
  decide

/-! ### RECLASSIFY (R100) -/

namespace State

/-- An input whose sweep is abandoned and whose FET fault has ended. -/
def fetFreed (s : State) (i : Nat) : State := ((s.abortSweep i).flag R.X_FETBAD false i).ended R.IN_FAULT_FET i

/-- Such an input, no longer probed. -/
def probeFreed (s : State) (i : Nat) : State :=
  if (s.fetFreed i).instate i = 5 then (s.fetFreed i).endProbe i else s.fetFreed i

/-- Such an input without a class, with the record of RECLASSIFY. -/
def unclassified (s : State) (i : Nat) : State :=
  if (s.probeFreed i).cls i = 0 then (s.probeFreed i).sourceEvent i 0x04 else (s.probeFreed i).dropClass i 0x04

theorem reclassify_eq (s : State) (i : Nat) : s.reclassify i =
    if (s.unclassified i).on R.X_OV i then s.unclassified i else (s.unclassified i).restartClass i := rfl

theorem within_abortSweep {i : Nat} : within Foot.abortSweep s (s.abortSweep i) := fun _ => Part.same_abortSweep Part.same_refl

theorem within_ended {r : Reg} {b : Nat} : within Foot.ended s (s.ended r b) := fun _ => Part.same_ended Part.same_refl

/-- What the end of a FET fault changes. -/
def fetFoot : List Touch := Foot.abortSweep ++ [.reg R.X_FETBAD] ++ Foot.ended

theorem within_fetFreed {i : Nat} : within fetFoot s (s.fetFreed i) := (within_abortSweep.trans within_flag).trans within_ended

theorem within_probeFreed {i : Nat} (hmap : s.noMap) : within stopFoot (s.fetFreed i) (s.probeFreed i) :=
  within.ite (within_stopGroup (within_fetFreed.noMap hmap (by decide +kernel)) i) within_refl

theorem noMap_probeFreed {i : Nat} (hmap : s.noMap) : (s.probeFreed i).noMap :=
  (within_fetFreed.trans (within_probeFreed hmap)).noMap hmap (by decide +kernel)

theorem dropped_unclassified (hmap : s.noMap) : (s.probeFreed i).dropped i (s.unclassified i) := by
  unfold unclassified
  split
  case isFalse => exact dropped_dropClass (noMap_probeFreed hmap)
  case isTrue hnone =>
    have hrecord : within Foot.sourceEvent (s.probeFreed i) ((s.probeFreed i).sourceEvent i 0x04) := within_sourceEvent
    exact ⟨hrecord.right.left, (hrecord.get (inputRegs_apart R.INn_STAT_CLASS (by simp [inputRegs]) i).2).trans hnone,
      hrecord.get (inputRegs_apart R.INn_STAT_STATE (by simp [inputRegs]) i).2⟩

/-- What RECLASSIFY changes before classification restarts. -/
def unclassifiedFoot : List Touch := fetFoot ++ stopFoot ++ dropFoot

theorem within_unclassified (hmap : s.noMap) : within unclassifiedFoot s (s.unclassified i) :=
  (within_fetFreed.trans (within_probeFreed hmap)).trans (dropped_unclassified hmap).within

theorem fetBad_fetFreed : (s.fetFreed i).on R.X_FETBAD i = false := by
  have hoff : ∀ i : Fin 4, Machine.keeps Foot.ended (.key (R.X_FETBAD.key i)) = true := by decide +kernel
  exact (within_ended.on (hoff i)).trans (on_flag_self _ _ _ _ (by decide))

theorem within_reclassify (hmap : s.noMap) : within (stopFoot ++ dropFoot ++ Foot.restartClass) (s.fetFreed i) (s.reclassify i) := by
  have hgone := (within_probeFreed hmap).trans (dropped_unclassified (i := i) hmap).within
  rw [reclassify_eq]
  exact within.ite hgone.left (hgone.trans within_restartClass)

end State

theorem reclassify_gives (hmap : s.noMap) : Gives (exec (.reclassify i) s) (fun t =>
    t.cls i = 0 ∧ t.on R.X_FETBAD i = false ∧ t.stands R.IN_FAULT_FET i = false ∧
      t.instate i = (if s.on R.X_OV i then s.instate i else s.restartState i)) := by
  have hoff : ∀ i : Fin 4, keeps (stopFoot ++ dropFoot ++ Foot.restartClass) (.key (R.X_FETBAD.key i)) = true ∧
      keeps unclassifiedFoot (.key (R.X_OV.key i)) = true ∧ sparesRestart unclassifiedFoot i = true ∧
      keeps (fetFoot ++ stopFoot) (.key (R.INn_STAT_STATE.key i)) = true := by decide +kernel
  obtain ⟨hbad, hov, hrestart, hstate⟩ := hoff i
  have hgone := dropped_unclassified (i := i) hmap
  refine ⟨s.reclassify i, rfl, ?_, ((within_reclassify hmap).on hbad).trans fetBad_fetFreed, ?_, ?_⟩
  · rw [reclassify_eq]
    split
    · exact hgone.cls
    · exact (cls_restartClass i).trans hgone.cls
  · exact ((within_reclassify hmap).bit (by decide +kernel)).trans (stands_ended (inputFault_lt (by simp) i))
  · rw [reclassify_eq, (within_unclassified hmap).on hov]
    split
    · exact hgone.instate.trans ((within_fetFreed.trans (within_probeFreed hmap)).get hstate)
    · exact instate_restartClass.trans ((within_unclassified hmap).restartState hrestart)

/-! ### INPUT_ENABLE_WRITE (R101) -/

namespace State

/-- A disabled input, its sweep and its probe ended, before its class is dropped. -/
def measuringEnded (s : State) (i : Nat) : State := (s.abortSweep i).iff (s.instate i == 5) (fun t => t.endProbe i)

/-- An input that is disabled. -/
def disabled (s : State) (i : Nat) : State :=
  (((((s.measuringEnded i).dropClass i 0x02).rampDown i).gatesAfterRamp i).flag R.X_READMIT false i).setInstate i 9

/-- What the end of a sweep and a probe changes. -/
def measuringFoot : List Touch := Foot.abortSweep ++ stopFoot

theorem within_measuringEnded {i : Nat} (hmap : s.noMap) : within measuringFoot s (s.measuringEnded i) := by
  have hsweep := within_abortSweep (s := s) (i := i)
  unfold measuringEnded State.iff
  exact within.ite (hsweep.trans (within_stopGroup (hsweep.noMap hmap (by decide +kernel)) i)) hsweep.left

/-- What follows the end of the class of an input that is disabled. -/
def disabledFoot : List Touch := rampFoot ++ Foot.gatesAfterRamp ++ [.reg R.X_READMIT] ++ Foot.setInstate

theorem disabled_gives (hmap : s.noMap) : within (measuringFoot ++ dropFoot ++ disabledFoot) s (s.disabled i) ∧
    (s.disabled i).cls i = 0 ∧ (s.disabled i).instate i = 9 := by
  have hoff : ∀ i : Fin 4, Machine.keeps disabledFoot (.key (R.INn_STAT_CLASS.key i)) = true := by decide +kernel
  have hended := within_measuringEnded (i := i) hmap
  have hdrop := dropped_dropClass (i := i) (event := 0x02) (hended.noMap hmap (by decide +kernel))
  have hnoMap := hdrop.noMap (hended.noMap hmap (by decide +kernel))
  have hrest : within disabledFoot ((s.measuringEnded i).dropClass i 0x02) (s.disabled i) :=
    (((within_rampDown hnoMap i).trans within_gatesAfterRamp).trans within_flag).trans within_setInstate
  exact ⟨(hended.trans hdrop.within).trans hrest, (hrest.get (hoff i)).trans hdrop.cls, instate_setInstate (by decide)⟩

/-- What ENABLE changes of an input, beside the register itself. -/
def enableFoot : List Touch := measuringFoot ++ dropFoot ++ disabledFoot ++ Foot.restartClass

theorem enableInput_false (h : s.on R.INn_CTRL i) : s.enableInput i false = (s.flag R.INn_CTRL false i).disabled i := by
  unfold State.enableInput
  simp only [Bool.not_false, if_true, h]
  rfl

theorem enableInput_true (h : s.on R.INn_CTRL i = false) (hphases : (s.flag R.INn_CTRL true i).phasesOf i ≠ []) :
    s.enableInput i true = if (s.flag R.INn_CTRL true i).on R.X_OV i || (s.flag R.INn_CTRL true i).on R.X_FETBAD i then
      (s.flag R.INn_CTRL true i).setInstate i 10 else (s.flag R.INn_CTRL true i).restartClass i := by
  unfold State.enableInput
  rw [if_neg (by simp), if_neg (by simp [h, hphases])]

theorem within_enableInput (hmap : s.noMap) (b : Bool) : within enableFoot (s.flag R.INn_CTRL b i) (s.enableInput i b) := by
  have hwrite : (s.flag R.INn_CTRL b i).noMap := within_flag.noMap hmap (by decide +kernel)
  have hset : within disabledFoot (s.flag R.INn_CTRL b i) ((s.flag R.INn_CTRL b i).setInstate i 10) := within_setInstate.right
  unfold State.enableInput
  refine within.ite (within.ite ?_ within_refl) (within.ite within_refl (within.ite hset.right.left within_restartClass.right))
  exact (disabled_gives hwrite).1.left

end State

theorem inputEnableWrite_gives {b : Bool} (hmap : s.noMap) : Gives (exec (.inputEnableWrite i b) s) (fun t =>
    t.on R.INn_CTRL i = b ∧ t.on R.DEV_CFG_DIRTY ∧ (b = false → s.on R.INn_CTRL i → t.instate i = 9 ∧ t.cls i = 0) ∧
      (b = true → s.on R.INn_CTRL i = false → s.phasesOf i ≠ [] → t.instate i = (if s.on R.X_OV i || s.on R.X_FETBAD i then 10
        else if s.present i then 2 else if s.on R.X_DEBOUNCE i then 1 else 0))) := by
  have hoff : ∀ i : Fin 4, keeps enableFoot (.key (R.INn_CTRL.key i)) = true ∧
      keeps ([.reg R.DEV_CFG_DIRTY]) (.key (R.INn_CTRL.key i)) = true ∧
      (∀ r ∈ [R.X_OV, R.X_FETBAD, R.X_DEBOUNCE], keeps ([.reg R.DEV_CFG_DIRTY] ++ [.reg R.INn_CTRL]) (.key (r.key i)) = true) := by
    decide +kernel
  obtain ⟨hctrl, hdirty, hothers⟩ := hoff i
  have hmark : (s.flag R.DEV_CFG_DIRTY true).noMap := within_flag.noMap hmap (by decide +kernel)
  have hwrite : within ([.reg R.DEV_CFG_DIRTY] ++ [.reg R.INn_CTRL]) s ((s.flag R.DEV_CFG_DIRTY true).flag R.INn_CTRL b i) :=
    within_flag.trans within_flag
  have hwas : (s.flag R.DEV_CFG_DIRTY true).on R.INn_CTRL i = s.on R.INn_CTRL i := within_flag.on hdirty
  have hkeep := within_enableInput (i := i) hmark b
  refine ⟨_, rfl, (hkeep.on hctrl).trans (on_flag_self _ _ _ _ (by decide)), ?_, ?_, ?_⟩
  · rw [(within_flag.trans hkeep).on (by decide +kernel)]
    exact on_flag_self _ _ _ _ (by decide)
  · rintro rfl hon
    rw [enableInput_false (hwas.trans hon)]
    obtain ⟨-, hcls, hstate⟩ := disabled_gives (i := i) (hwrite.noMap hmap (by decide +kernel))
    exact ⟨hstate, hcls⟩
  · rintro rfl hwasOff hphases
    obtain ⟨hpresent, hdebounce⟩ : (((s.flag R.DEV_CFG_DIRTY true).flag R.INn_CTRL true i).present i = s.present i) ∧
        ((s.flag R.DEV_CFG_DIRTY true).flag R.INn_CTRL true i).on R.X_DEBOUNCE i = s.on R.X_DEBOUNCE i :=
      ⟨hwrite.bit (by decide +kernel), hwrite.on (hothers _ (by simp))⟩
    have hphasesSame := phasesOf_eq hwrite (by decide +kernel) i
    have henabled : ((s.flag R.DEV_CFG_DIRTY true).flag R.INn_CTRL true i).enabled i = true := by
      rw [State.enabled, on_flag_self _ _ _ _ (by decide), hphasesSame]
      simpa using hphases
    have hstate := enableInput_true (s := s.flag R.DEV_CFG_DIRTY true) (hwas.trans hwasOff) (by rwa [hphasesSame])
    rw [hstate, hwrite.on (hothers R.X_OV (by simp)), hwrite.on (hothers R.X_FETBAD (by simp))]
    split
    · exact instate_setInstate (by decide)
    · rw [instate_restartClass, State.restartState, henabled, hpresent, hdebounce]
      rfl

end
end Sys2Proof.Machine
end

section
/-! PROOFS. An input takes a class (R88 to R92): what the decision reads, and what the class leaves where the input has gone. -/

-- One theorem at a time: each decision by the kernel waits for all declarations before it and holds a thread meanwhile.
set_option Elab.async false

namespace Sys2Proof.Machine
namespace State

variable {s t u : State} {i : Fin 4}

/-! ### What a decision on a class reads (R90 to R92) -/

/-- What a decision on the class of an input reads. -/
def decisionParts (i : Nat) : List Part := [.key (R.INn_MASK.key i), .key (R.IN_STATUS_PRESENT.key 0), .key (R.X_DEBOUNCE.key i),
  .key (R.IN_TS_HOLD.key 0), .key (R.IN_AG_HOLD.key 0)] ++ (List.range 4).map (fun j => .key (R.INn_STAT_CLASS.key j))

/-- Whether a footprint leaves what a decision on the class of an input reads. -/
def sparesDecision (l : List Touch) (i : Nat) : Bool := (decisionParts i).all (Machine.keeps l)

theorem holdTicks_eq {l : List Touch} (h : within l s t) (hts : Machine.keeps l (.key (R.IN_TS_HOLD.key 0)) = true)
    (hag : Machine.keeps l (.key (R.IN_AG_HOLD.key 0)) = true) (c : Nat) : t.holdTicks c = s.holdTicks c := by
  unfold State.holdTicks
  rw [h.get hts, h.get hag]

/-- An update that leaves what a decision reads leaves the decision. -/
theorem within.decision {l : List Touch} {i : Nat} (h : within l s t) (hoff : sparesDecision l i = true) (c : Nat) :
    t.decided i c = s.decided i c ∧ t.decidedState i c = s.decidedState i c ∧ t.decidedClass i c = s.decidedClass i c := by
  have hpart : ∀ q ∈ decisionParts i, Machine.keeps l q = true := List.all_eq_true.1 hoff
  have hmask : t.bit R.INn_MASK (c - 1) i = s.bit R.INn_MASK (c - 1) i := h.bit (hpart _ (by simp [decisionParts]))
  have hpresent : t.present i = s.present i := h.bit (hpart _ (by simp [decisionParts]))
  have hdebounce : t.on R.X_DEBOUNCE i = s.on R.X_DEBOUNCE i := h.on (hpart _ (by simp [decisionParts]))
  have hhold := holdTicks_eq h (hpart _ (by simp [decisionParts])) (hpart _ (by simp [decisionParts])) c
  have hcls : ∀ j ∈ List.range 4, (j != i && t.cls j == 1) = (j != i && s.cls j == 1) := fun j hj => by
    rw [State.cls, h.get (hpart _ (List.mem_append_right _ (List.mem_map_of_mem hj))), State.cls]
  have hany : (List.range 4).any (fun j => j != i && t.cls j == 1) = (List.range 4).any (fun j => j != i && s.cls j == 1) := by
    rw [Bool.eq_iff_iff, List.any_eq_true, List.any_eq_true]
    exact exists_congr fun j => and_congr_right fun hj => by rw [hcls j hj]
  refine ⟨?_, ?_, ?_⟩
  · rw [State.decided, State.decided, hmask, hany]
  · rw [State.decidedState, State.decidedState, hpresent, hhold, hdebounce]
  · rw [State.decidedClass, State.decidedClass, hpresent, hhold]

/-! ### HELD, or dropped (R92) -/

/-- What an input that has gone changes, held or dropped. -/
def holdFoot : List Touch := clearFoot ++ Foot.sourceEvent ++ Foot.setInstate ++ zeroFoot

theorem holdOrDrop_gives (hmap : s.noMap) : within holdFoot s (s.holdOrDrop i) ∧
    (s.holdOrDrop i).cls i = (if s.holdTicks (s.cls i) = 0 then 0 else s.cls i) ∧
    (s.holdOrDrop i).instate i = (if s.holdTicks (s.cls i) = 0 then (if s.on R.X_DEBOUNCE i then 1 else 0) else 8) := by
  have hoff : ∀ i : Fin 4, Machine.keeps Foot.setInstate (.key (R.INn_STAT_CLASS.key i)) = true ∧
      Machine.keeps zeroFoot (.key (R.INn_STAT_CLASS.key i)) = true ∧ Machine.keeps zeroFoot (.key (R.INn_STAT_STATE.key i)) = true := by
    decide +kernel
  obtain ⟨hset, hzero, hstate⟩ := hoff i
  unfold State.holdOrDrop
  by_cases hnone : s.holdTicks (s.cls i) = 0
  · have hnotTp : s.cls i ≠ 1 := fun htp => by
      rw [htp] at hnone
      simp [State.holdTicks] at hnone
    have hdrop := dropped_dropClass (i := i) (event := 0x02) hmap
    rw [if_pos hnone, if_pos hnone, if_pos hnone]
    exact ⟨((within_dropClass_of_notTp hmap hnotTp).trans within_setInstate).left, (within_setInstate.get hset).trans hdrop.cls,
      instate_setInstate (by split <;> decide)⟩
  · rw [if_neg hnone, if_neg hnone, if_neg hnone]
    have hheld : within Foot.setInstate s (s.setInstate i 8) := within_setInstate
    have hceiling := within_zeroCeiling (hheld.noMap hmap (by decide +kernel)) i
    have hrest : within (Foot.setInstate ++ zeroFoot) s ((s.setInstate i 8).zeroCeiling i) := hheld.trans hceiling
    refine ⟨?_, (hceiling.get hzero).trans (within_setInstate.get hset), (hceiling.get hstate).trans (instate_setInstate (by decide))⟩
    unfold holdFoot
    rw [List.append_assoc]
    exact hrest.right

/-! ### An input takes a class (R88 to R92) -/

theorem decided_eq (s : State) (i c : Nat) : (if (1 ≤ c && c ≤ 5 && !s.bit R.INn_MASK (c - 1) i) || (c == 1 &&
    !(1 ≤ c && c ≤ 5 && !s.bit R.INn_MASK (c - 1) i) && (List.range 4).any (fun j => j != i && s.cls j == 1)) then 6 else c) =
    s.decided i c := by
  unfold State.decided
  by_cases hmask : 1 ≤ c ∧ c ≤ 5 ∧ !s.bit R.INn_MASK (c - 1) i
  · rw [if_pos hmask, if_pos]
    obtain ⟨hlow, hhigh, hbit⟩ := hmask
    simp [hlow, hhigh, hbit]
  · have hfree : (1 ≤ c && c ≤ 5 && !s.bit R.INn_MASK (c - 1) i) = false := by
      rw [Bool.eq_false_iff]
      exact fun h => hmask (by simpa [and_assoc] using h)
    rw [if_neg hmask, hfree]
    simp

theorem decided_lt {i c : Nat} (hc : c < 8) : s.decided i c < 8 := by
  unfold State.decided
  split_ifs <;> omega

/-- What is noted with a new class: its limit, its band, and the time of its decode. -/
def noteFoot : List Touch := Foot.updateLimit ++ touches [R.X_BAND, R.X_DECODE_AT, R.X_IDDIFF] [] []
/-- What the finding of a classification may change. -/
def findingFoot : List Touch := Foot.latchStand R.IN_FAULT_CLASS ++ Foot.ended
/-- What follows a new class: tracking, coupling and the record. -/
def followFoot : List Touch := touches [R.X_DORMANT] [] [Foot.setVref, Foot.trackStart, Foot.cause, Foot.couple, Foot.stopGrace,
  Foot.sourceEvent]

/-- What taking a class changes. -/
def takenFoot : List Touch := touches [R.INn_STAT_CLASS, R.INn_STAT_MASKED, R.INn_STAT_ISSUE] [] [] ++
  (Foot.setInstate ++ (noteFoot ++ (findingFoot ++ followFoot)))

/-- An input that has just taken a class with an issue, its presence not yet looked at. -/
structure classTaken (s : State) (i : Fin 4) (c issue : Nat) (t : State) : Prop where
  within : within takenFoot s t
  cls : t.cls i = c
  instate : t.instate i = 7
  shown : t.get R.INn_STAT_ISSUE i = issue
  stands : latchedIssue issue = true → t.stands R.IN_FAULT_CLASS i = true

theorem classify_cases (s : State) (i : Fin 4) {c issue : Nat} (hc : c < 8) (hissue : issue < 16) : ∃ issue' u,
    s.classTaken i (s.decided i c) issue' u ∧ (c = 6 → issue' = issue) ∧
      s.classify i c issue = if u.present i then u else u.holdOrDrop i := by
  have hoff : ∀ i : Fin 4, Machine.keeps (Foot.setInstate ++ (noteFoot ++ (findingFoot ++ followFoot))) (.key (R.INn_STAT_CLASS.key i)) =
      true ∧ Machine.keeps (noteFoot ++ (findingFoot ++ followFoot)) (.key (R.INn_STAT_STATE.key i)) = true ∧
      Machine.keeps (Foot.setInstate ++ (noteFoot ++ (findingFoot ++ followFoot))) (.key (R.INn_STAT_ISSUE.key i)) = true ∧
      Machine.keeps ([.reg R.INn_STAT_MASKED] ++ [.reg R.INn_STAT_ISSUE]) (.key (R.INn_STAT_CLASS.key i)) = true := by
    decide +kernel
  obtain ⟨hclassOff, hstateOff, hissueOff, hclassSet⟩ := hoff i
  unfold State.classify
  extract_lets masked dup cls' issue' s1 noted finding follow last
  have hcls : cls' = s.decided i c := decided_eq s i c
  have hissue' : issue' < 16 := by
    show (if masked then 5 else if dup then 3 else issue) < 16
    split_ifs <;> omega
  have hset : within ([.reg R.INn_STAT_MASKED] ++ [.reg R.INn_STAT_ISSUE]) (s.set R.INn_STAT_CLASS cls' i)
      (((s.set R.INn_STAT_CLASS cls' i).flag R.INn_STAT_MASKED masked i).set R.INn_STAT_ISSUE issue' i) :=
    within_flag.trans within_set
  have hnoted : within noteFoot ((((s.set R.INn_STAT_CLASS cls' i).flag R.INn_STAT_MASKED masked i).set R.INn_STAT_ISSUE issue'
      i).setInstate i 7) noted :=
    within.trans (fun _ => Part.same_updateLimit Part.same_refl) ((within_set.trans within_set).trans within_clear)
  have hfinding : within findingFoot noted finding :=
    within.ite within_latchStand.left within_ended.right
  have hfollow : within followFoot finding last := by
    intro q hq
    simp [followFoot] at hq
    obtain ⟨hdormant, hvref, htrack, hcause, hcouple, hgrace, hevent⟩ := hq
    exact Part.same_sourceEvent (Part.same_iff (Part.same_iff (Part.same_cause (Part.same_trackStart (Part.same_iff
      (Part.same_clear Part.same_refl hdormant) fun _ hv => Part.same_setVref hv hvref) htrack) hcause)
      fun _ hv => Part.same_couple hv hcouple) fun _ hv => Part.same_stopGrace hv hgrace) hevent
  have hlate := hnoted.trans (hfinding.trans hfollow)
  have hrest := within_setInstate.trans hlate
  refine ⟨issue', last, ⟨?_, ?_, ?_, ?_, ?_⟩, ?_, rfl⟩
  · exact (within_set.trans hset).trans hrest
  · exact (hrest.get hclassOff).trans ((hset.get hclassSet).trans
      ((get_set_fit i (hcls ▸ decided_lt hc)).trans hcls))
  · exact (hlate.get hstateOff).trans (instate_setInstate (by decide))
  · exact (hrest.get hissueOff).trans (get_set_fit i hissue')
  · intro hlatched
    have hstands : finding = noted.latchStand R.IN_FAULT_CLASS i := if_pos (by rw [hlatched]; rfl)
    refine (hfollow.bit (by decide +kernel)).trans ?_
    rw [hstands]
    exact stands_latchStand (inputFault_lt (by simp) i) (by decide +kernel)
  · rintro rfl
    rfl

/-- What taking a class changes, with the hold or the drop of one that has gone. -/
def classifyFoot : List Touch := takenFoot ++ holdFoot

/-- An input for which classification found a class (R88 to R92). -/
theorem classify_gives (hmap : s.noMap) {c issue : Nat} (hc : c < 8) (hissue : issue < 16) :
    within classifyFoot s (s.classify i c issue) ∧ (s.classify i c issue).instate i = s.decidedState i (s.decided i c) ∧
      (s.classify i c issue).cls i = s.decidedClass i (s.decided i c) ∧
      (c = 6 → latchedIssue issue = true → (s.classify i c issue).get R.INn_STAT_ISSUE i = issue ∧
        (s.classify i c issue).stands R.IN_FAULT_CLASS i = true) := by
  have hoff : ∀ i : Fin 4, Machine.keeps takenFoot (.key (R.X_DEBOUNCE.key i)) = true ∧
      Machine.keeps holdFoot (.key (R.INn_STAT_ISSUE.key i)) = true := by decide +kernel
  obtain ⟨hdebounceOff, hissueOff⟩ := hoff i
  obtain ⟨issue', u, hu, hsix, hclassify⟩ := classify_cases s i hc hissue
  have hpresent : u.present i = s.present i := hu.within.bit (by decide +kernel)
  have hhold := holdTicks_eq hu.within (by decide +kernel) (by decide +kernel) (s.decided i c)
  have hdebounce : u.on R.X_DEBOUNCE i = s.on R.X_DEBOUNCE i := hu.within.on hdebounceOff
  rw [hclassify, State.decidedState, State.decidedClass, hpresent]
  by_cases hp : s.present i = true
  · rw [if_pos hp, if_pos hp, if_pos (.inl hp)]
    refine ⟨hu.within.left, hu.instate, hu.cls, fun h6 hlatched => ?_⟩
    rw [← hsix h6] at hlatched ⊢
    exact ⟨hu.shown, hu.stands hlatched⟩
  · obtain ⟨hwithin, hcls, hstate⟩ := holdOrDrop_gives (i := i) (hu.within.noMap hmap (by decide +kernel))
    rw [if_neg hp, if_neg hp]
    rw [hu.cls, hhold] at hcls hstate
    rw [hdebounce] at hstate
    refine ⟨hu.within.trans hwithin, hstate, ?_, fun h6 hlatched => ?_⟩
    · rw [hcls]
      simp [hp]
    · rw [← hsix h6] at hlatched ⊢
      exact ⟨(hwithin.get hissueOff).trans hu.shown, (hwithin.bit (by decide +kernel)).trans (hu.stands hlatched)⟩

end State
end Sys2Proof.Machine
end

section
/-! PROOFS. PROBE_COMPLETE and SIGNATURE_WATCH_COMPLETE (R84 to R91), and what classifies an input. -/

-- One theorem at a time: each decision by the kernel waits for all declarations before it and holds a thread meanwhile.
set_option Elab.async false

namespace Sys2Proof.Machine

theorem declaredClass_lt (band dropouts v0 : Nat) : (declaredClass band dropouts v0).getD 6 < 8 := by
  unfold declaredClass
  split
  · split <;> decide
  · split <;> decide
  · decide
  · decide
  · split <;> decide
  · decide

theorem measuredClass_lt (s : State) (i : Nat) (fail : Bool) : measuredClass s i fail < 8 := by
  unfold measuredClass
  dsimp only
  split_ifs <;> decide

theorem probeR_le (v0 : Nat) (i0 : Int) (v : Nat) (i : Int) : probeR v0 i0 v i ≤ 0xFFFF := by
  unfold probeR
  split_ifs <;> omega

theorem probeCurv_le (rs : List Nat) : probeCurv rs ≤ 255 := by
  unfold probeCurv
  split
  · dsimp only
    split_ifs <;> omega
  · omega

namespace State

variable {s t : State} {i : Fin 4}

/-! ### PROBE_COMPLETE (R84 to R86, R89) -/

/-- The resistances that the completed steps of a probe measured (R86). -/
def probeRs (s : State) (i v0 : Nat) (i0 : Int) (steps : List ProbeStep) (lows : List Nat) : List Nat :=
  (probeSteps v0 (s.droopOf i) probeTargets lows steps).1.map (fun p => probeR v0 i0 p.v p.a)

/-- Whether the step after them was cut (R85). -/
def probeCut (s : State) (i v0 : Nat) (steps : List ProbeStep) (lows : List Nat) : Bool :=
  (probeSteps v0 (s.droopOf i) probeTargets lows steps).2

/-- INn_RSRC after a probe: the last step's, 0xFFFE where the first step was cut, 0xFFFF for none (R85, R105). -/
def probeSource (rs : List Nat) (cut : Bool) : Nat := rs.getLast?.getD (if cut then 0xFFFE else 0xFFFF)

theorem probeSource_lt {v0 : Nat} {i0 : Int} {steps : List ProbeStep} {lows : List Nat} {cut : Bool} {i : Nat} :
    probeSource (s.probeRs i v0 i0 steps lows) cut < 65536 := by
  unfold probeSource
  cases hlast : (s.probeRs i v0 i0 steps lows).getLast? with
  | none => cases cut <;> decide
  | some r =>
    obtain ⟨p, -, rfl⟩ := List.mem_map.1 (List.mem_of_getLast? hlast)
    exact Nat.lt_succ_of_le (probeR_le ..)

/-- An input whose probe has ended, with what it measured. -/
def probed (s : State) (i v0 : Nat) (rs : List Nat) (cut : Bool) : State :=
  (((s.endProbe i).set R.INn_VOC v0 i).set R.INn_RSRC (probeSource rs cut) i).set R.INn_CURV (probeCurv rs) i

/-- The finding of a probe: PROBE_FAIL where nothing was measured (R94). -/
def probeFound (s : State) (i : Nat) (fail : Bool) : State :=
  (s.flag R.X_PROBE_FAIL fail i).iff fail (fun t => (t.set R.INn_STAT_ISSUE 4 i).latchStand R.IN_FAULT_CLASS i)

/-- What the end of a probe changes. -/
def probedFoot : List Touch := stopFoot ++ [.reg R.INn_VOC] ++ [.reg R.INn_RSRC] ++ [.reg R.INn_CURV]

theorem within_probed (hmap : s.noMap) {v0 : Nat} {rs : List Nat} {cut : Bool} : within probedFoot s (s.probed i v0 rs cut) :=
  (((within_stopGroup hmap i).trans within_set).trans within_set).trans within_set

/-- What the finding of a probe changes. -/
def probeFoundFoot : List Touch := [.reg R.X_PROBE_FAIL] ++ ([.reg R.INn_STAT_ISSUE] ++ Foot.latchStand R.IN_FAULT_CLASS)

theorem within_probeFound {fail : Bool} : within probeFoundFoot s (s.probeFound i fail) := by
  have hlatch : ∀ u : State, within ([.reg R.INn_STAT_ISSUE] ++ Foot.latchStand R.IN_FAULT_CLASS) u
      ((u.set R.INn_STAT_ISSUE 4 i).latchStand R.IN_FAULT_CLASS i) := fun u =>
    within_set.trans within_latchStand
  exact within_flag.trans (within.ite (hlatch _) within_refl)

/-- The state at the end of a probe, before a class or the watch follows. -/
def probeDone (s : State) (i v0 : Nat) (i0 : Int) (steps : List ProbeStep) (lows : List Nat) : State :=
  (s.probed i v0 (s.probeRs i v0 i0 steps lows) (s.probeCut i v0 steps lows)).probeFound i
    ((s.probeRs i v0 i0 steps lows).isEmpty && !s.probeCut i v0 steps lows)

/-- What a probe that completes changes, before a class or the watch follows. -/
def probeDoneFoot : List Touch := probedFoot ++ probeFoundFoot

section
variable {v0 : Nat} {i0 : Int} {steps : List ProbeStep} {lows : List Nat}

theorem within_probeDone (hmap : s.noMap) : within probeDoneFoot s (s.probeDone i v0 i0 steps lows) :=
  (within_probed hmap).trans within_probeFound

/-- What a probe measured stays through what follows it. -/
theorem measured_probeDone (hv0 : v0 < 65536) {l : List Touch} (h : within l (s.probeDone i v0 i0 steps lows) t)
    (hoff : ∀ r ∈ [R.INn_VOC, R.INn_RSRC, R.INn_CURV], Machine.keeps l (.key (r.key i)) = true) :
    t.get R.INn_VOC i = v0 ∧ t.get R.INn_RSRC i = probeSource (s.probeRs i v0 i0 steps lows) (s.probeCut i v0 steps lows) ∧
      t.get R.INn_CURV i = probeCurv (s.probeRs i v0 i0 steps lows) := by
  have hapart : ∀ i : Fin 4, (∀ r ∈ [R.INn_VOC, R.INn_RSRC, R.INn_CURV], Machine.keeps probeFoundFoot (.key (r.key i)) = true) ∧
      (Touch.reg R.INn_CURV).off (.key (R.INn_RSRC.key i)) = true ∧ Machine.keeps ([.reg R.INn_RSRC] ++ [.reg R.INn_CURV])
      (.key (R.INn_VOC.key i)) = true := by decide +kernel
  obtain ⟨hfound, hsource, hopen⟩ := hapart i
  have hsame : ∀ r ∈ [R.INn_VOC, R.INn_RSRC, R.INn_CURV], t.get r i =
      (s.probed i v0 (s.probeRs i v0 i0 steps lows) (s.probeCut i v0 steps lows)).get r i := fun r hr =>
    (h.get (hoff r hr)).trans (within_probeFound.get (hfound r hr))
  refine ⟨(hsame _ (by simp)).trans ?_, (hsame _ (by simp)).trans ?_, (hsame _ (by simp)).trans ?_⟩
  · exact ((within_set.trans within_set).get hopen).trans (get_set_fit i hv0)
  · exact (Part.same_get (Part.same_set Part.same_refl hsource)).trans (get_set_fit i probeSource_lt)
  · exact get_set_fit i (Nat.lt_succ_of_le (probeCurv_le _))

theorem exec_probeComplete_watch (hstate : s.instate i = 5) (hmap : s.noMap)
    (hband : s.get R.INn_STAT_BAND i < 2 ∨ 5 < s.get R.INn_STAT_BAND i) :
    exec (.probeComplete i v0 i0 steps lows) s = .next ((s.probeDone i v0 i0 steps lows).setInstate i 6) := by
  have hoff : ∀ i : Fin 4, Machine.keeps probeDoneFoot (.key (R.INn_STAT_BAND.key i)) = true := by decide +kernel
  have hsame := (within_probeDone (i := i) (v0 := v0) (i0 := i0) (steps := steps) (lows := lows) hmap).get (hoff i)
  refine congrArg Host.Outcome.next ((if_pos hstate).trans ((if_neg ?_).trans rfl))
  change ¬ (2 ≤ (s.probeDone i v0 i0 steps lows).get R.INn_STAT_BAND i ∧ (s.probeDone i v0 i0 steps lows).get R.INn_STAT_BAND i ≤ 5)
  omega

theorem exec_probeComplete_class (hstate : s.instate i = 5) (hmap : s.noMap) (hlow : 2 ≤ s.get R.INn_STAT_BAND i)
    (hhigh : s.get R.INn_STAT_BAND i ≤ 5) : ∃ issue < 16, exec (.probeComplete i v0 i0 steps lows) s =
      .next ((s.probeDone i v0 i0 steps lows).classify i ((declaredClass (s.get R.INn_STAT_BAND i) 0 v0).getD 6) issue) ∧
      (declaredClass (s.get R.INn_STAT_BAND i) 0 v0 = none → issue = 2) := by
  have hoff : ∀ i : Fin 4, Machine.keeps probeDoneFoot (.key (R.INn_STAT_BAND.key i)) = true := by decide +kernel
  have hsame := (within_probeDone (i := i) (v0 := v0) (i0 := i0) (steps := steps) (lows := lows) hmap).get (hoff i)
  have hexec : exec (.probeComplete i v0 i0 steps lows) s = .next
      (match declaredClass ((s.probeDone i v0 i0 steps lows).get R.INn_STAT_BAND i) 0 v0 with
      | some c => (s.probeDone i v0 i0 steps lows).classify i c
        (if (s.probeRs i v0 i0 steps lows).isEmpty && !s.probeCut i v0 steps lows then 4 else 0)
      | none => (s.probeDone i v0 i0 steps lows).classify i 6 2) := by
    refine congrArg Host.Outcome.next ((if_pos hstate).trans ((if_pos ?_).trans rfl))
    change 2 ≤ (s.probeDone i v0 i0 steps lows).get R.INn_STAT_BAND i ∧ (s.probeDone i v0 i0 steps lows).get R.INn_STAT_BAND i ≤ 5
    omega
  rw [hexec, hsame]
  cases hclass : declaredClass (s.get R.INn_STAT_BAND i) 0 v0 with
  | none => exact ⟨2, by decide, rfl, fun _ => rfl⟩
  | some c => exact ⟨_, by split <;> decide, rfl, nofun⟩

end

/-! ### SIGNATURE_WATCH_COMPLETE (R87 to R91) -/

/-- The dropouts of a watch, with the presence losses in it (R81, R87). -/
def watchDropouts (s : State) (i : Nat) (samples : List Nat) : Nat := min (max (s.get R.X_WDROPS i) (dropouts samples 0)) 255

/-- An input whose watch has ended, with what it measured. -/
def watched (s : State) (i : Nat) (samples : List Nat) : State :=
  ((s.set R.INn_SIG_DROPOUTS (s.watchDropouts i samples) i).set R.INn_SIG_FREQ (min (watchFreq samples) 255) i).set R.INn_RIPPLE
    (watchRipple samples) i

/-- The class that a watch finds (R88, R89). -/
def watchClass (s : State) (i : Nat) (samples : List Nat) : Nat :=
  if s.get R.INn_STAT_BAND i = 1 then (declaredClass 1 (s.watchDropouts i samples) (s.get R.INn_VOC i)).getD 6
  else measuredClass (s.watched i samples) i (s.on R.X_PROBE_FAIL i)

/-- What the end of a watch sets. -/
def watchedFoot : List Touch := [.reg R.INn_SIG_DROPOUTS] ++ [.reg R.INn_SIG_FREQ] ++ [.reg R.INn_RIPPLE]

theorem within_watched {samples : List Nat} : within watchedFoot s (s.watched i samples) :=
  (within_set.trans within_set).trans within_set

theorem watchClass_lt (s : State) (i : Nat) (samples : List Nat) : s.watchClass i samples < 8 := by
  unfold watchClass
  split
  · exact declaredClass_lt ..
  · exact measuredClass_lt ..

theorem measured_watched (samples : List Nat) : (s.watched i samples).get R.INn_SIG_DROPOUTS i = s.watchDropouts i samples ∧
    (s.watched i samples).get R.INn_RIPPLE i = watchRipple samples % 65536 ∧
    (s.watched i samples).get R.INn_SIG_FREQ i = min (watchFreq samples) 255 := by
  have hapart : ∀ i : Fin 4, Machine.keeps ([.reg R.INn_SIG_FREQ] ++ [.reg R.INn_RIPPLE]) (.key (R.INn_SIG_DROPOUTS.key i)) = true ∧
      Machine.keeps [.reg R.INn_RIPPLE] (.key (R.INn_SIG_FREQ.key i)) = true := by decide +kernel
  obtain ⟨hdrops, hfreq⟩ := hapart i
  refine ⟨((within_set.trans within_set).get hdrops).trans (get_set_fit i ?_), get_set_self .., (within_set.get hfreq).trans
    (get_set_fit i ?_)⟩
  · exact Nat.lt_of_le_of_lt (Nat.min_le_right ..) (by decide)
  · exact Nat.lt_of_le_of_lt (Nat.min_le_right ..) (by decide)

/-- The fields that R88 reads of an input, and its two settings. -/
theorem measuredClass_eq {l : List Touch} (h : within l s t) (hin : ∀ r ∈ [R.INn_SIG_DROPOUTS, R.INn_VOC, R.INn_RSRC, R.INn_SIG_FREQ,
    R.INn_RIPPLE, R.INn_CURV], Machine.keeps l (.key (r.key i)) = true)
    (hcfg : ∀ r ∈ [R.IN_AG_RIPPLE, R.IN_STIFF_R], Machine.keeps l (.key (r.key 0)) = true) (fail : Bool) :
    measuredClass t i fail = measuredClass s i fail := by
  have hfield := fun r hr => h.get (hin r hr)
  unfold measuredClass
  rw [hfield R.INn_SIG_DROPOUTS (by simp), hfield R.INn_VOC (by simp), hfield R.INn_RSRC (by simp), hfield R.INn_SIG_FREQ (by simp),
    hfield R.INn_RIPPLE (by simp), hfield R.INn_CURV (by simp), h.get (hcfg R.IN_AG_RIPPLE (by simp)),
    h.get (hcfg R.IN_STIFF_R (by simp))]

theorem exec_signatureWatchComplete {early mid late : List Nat} (hstate : s.instate i = 6) : ∃ issue < 16,
    exec (.signatureWatchComplete i early mid late) s = .next ((s.watched i (early ++ mid ++ late)).classify i
      (s.watchClass i (early ++ mid ++ late)) issue) := by
  have hoff : ∀ i : Fin 4, ∀ r ∈ [R.INn_STAT_BAND, R.INn_VOC, R.X_PROBE_FAIL], Machine.keeps watchedFoot (.key (r.key i)) = true := by
    decide +kernel
  have hsame : ∀ r ∈ [R.INn_STAT_BAND, R.INn_VOC, R.X_PROBE_FAIL], (s.watched i (early ++ mid ++ late)).get r i = s.get r i :=
    fun r hr => within_watched.get (hoff i r hr)
  have hfail : (s.watched i (early ++ mid ++ late)).on R.X_PROBE_FAIL i = s.on R.X_PROBE_FAIL i :=
    congrArg (· != 0) (hsame _ (by simp))
  have hexec : exec (.signatureWatchComplete i early mid late) s = .next
      (if (s.watched i (early ++ mid ++ late)).get R.INn_STAT_BAND i = 1 then
        match declaredClass 1 (s.watchDropouts i (early ++ mid ++ late)) ((s.watched i (early ++ mid ++ late)).get R.INn_VOC i) with
        | some c => (s.watched i (early ++ mid ++ late)).classify i c
          (if (s.watched i (early ++ mid ++ late)).on R.X_PROBE_FAIL i then 4 else 0)
        | none => (s.watched i (early ++ mid ++ late)).classify i 6 2
      else (s.watched i (early ++ mid ++ late)).classify i (measuredClass (s.watched i (early ++ mid ++ late)) i
        ((s.watched i (early ++ mid ++ late)).on R.X_PROBE_FAIL i))
        (if (s.watched i (early ++ mid ++ late)).on R.X_PROBE_FAIL i then 4 else 0)) :=
    congrArg Host.Outcome.next (if_pos hstate)
  rw [hexec, hsame R.INn_STAT_BAND (by simp), hsame R.INn_VOC (by simp), hfail, watchClass]
  by_cases hband : s.get R.INn_STAT_BAND i = 1
  · rw [if_pos hband, if_pos hband]
    cases declaredClass 1 (s.watchDropouts i (early ++ mid ++ late)) (s.get R.INn_VOC i) with
    | none => exact ⟨2, by decide, rfl⟩
    | some c => exact ⟨_, by split <;> decide, rfl⟩
  · rw [if_neg hband, if_neg hband]
    exact ⟨_, by split <;> decide, rfl⟩

end State

section
variable {s : State} {i : Fin 4}
open State

theorem probeComplete_watches {v0 : Nat} {i0 : Int} {steps : List ProbeStep} {lows : List Nat} (hstate : s.instate i = 5)
    (hv0 : v0 < 65536) (hmap : s.noMap) (hband : s.get R.INn_STAT_BAND i < 2 ∨ 5 < s.get R.INn_STAT_BAND i) :
    Gives (exec (.probeComplete i v0 i0 steps lows) s) (fun t => t.instate i = 6 ∧ t.cls i = s.cls i ∧ t.get R.INn_VOC i = v0 ∧
      t.get R.INn_RSRC i = probeSource (s.probeRs i v0 i0 steps lows) (s.probeCut i v0 steps lows) ∧
      t.get R.INn_CURV i = probeCurv (s.probeRs i v0 i0 steps lows)) := by
  have hoff : ∀ i : Fin 4, keeps (probeDoneFoot ++ Foot.setInstate) (.key (R.INn_STAT_CLASS.key i)) = true ∧
      ∀ r ∈ [R.INn_VOC, R.INn_RSRC, R.INn_CURV], keeps Foot.setInstate (.key (r.key i)) = true := by decide +kernel
  obtain ⟨hcls, hmeasured⟩ := hoff i
  exact ⟨_, exec_probeComplete_watch hstate hmap hband, instate_setInstate (by decide),
    ((within_probeDone hmap).trans within_setInstate).get hcls, measured_probeDone hv0 within_setInstate hmeasured⟩

theorem probeComplete_classifies {v0 : Nat} {i0 : Int} {steps : List ProbeStep} {lows : List Nat} (hstate : s.instate i = 5)
    (hv0 : v0 < 65536) (hmap : s.noMap) (hlow : 2 ≤ s.get R.INn_STAT_BAND i) (hhigh : s.get R.INn_STAT_BAND i ≤ 5) :
    Gives (exec (.probeComplete i v0 i0 steps lows) s) (fun t => t.get R.INn_VOC i = v0 ∧
      t.instate i = s.decidedState i (s.decided i ((declaredClass (s.get R.INn_STAT_BAND i) 0 v0).getD 6)) ∧
      t.cls i = s.decidedClass i (s.decided i ((declaredClass (s.get R.INn_STAT_BAND i) 0 v0).getD 6)) ∧
      (declaredClass (s.get R.INn_STAT_BAND i) 0 v0 = none → t.get R.INn_STAT_ISSUE i = 2 ∧ t.stands R.IN_FAULT_CLASS i)) := by
  have hoff : ∀ i : Fin 4, sparesDecision probeDoneFoot i = true ∧
      ∀ r ∈ [R.INn_VOC, R.INn_RSRC, R.INn_CURV], keeps classifyFoot (.key (r.key i)) = true := by decide +kernel
  obtain ⟨hspared, hmeasured⟩ := hoff i
  have hdone := within_probeDone (i := i) (v0 := v0) (i0 := i0) (steps := steps) (lows := lows) hmap
  obtain ⟨issue, hissue, hexec, htwo⟩ := exec_probeComplete_class (v0 := v0) (i0 := i0) (steps := steps) (lows := lows) hstate hmap
    hlow hhigh
  obtain ⟨hkeep, hin, hcls, hfinding⟩ := classify_gives (i := i) (hdone.noMap hmap (by decide +kernel))
    (declaredClass_lt (s.get R.INn_STAT_BAND i) 0 v0) hissue
  have hdecided := fun c => hdone.decision hspared c
  rw [(hdecided _).1] at hin hcls
  refine ⟨_, hexec, (measured_probeDone hv0 hkeep hmeasured).1, hin.trans (hdecided _).2.1, hcls.trans (hdecided _).2.2, ?_⟩
  intro hnone
  obtain rfl := htwo hnone
  exact hfinding (by rw [hnone]; rfl) rfl

theorem signatureWatchComplete_gives {early mid late : List Nat} (hstate : s.instate i = 6) (hmap : s.noMap) :
    Gives (exec (.signatureWatchComplete i early mid late) s) (fun t =>
      t.get R.INn_SIG_DROPOUTS i = min (max (s.get R.X_WDROPS i) (dropouts (early ++ mid ++ late) 0)) 255 ∧
      t.get R.INn_RIPPLE i = watchRipple (early ++ mid ++ late) % 65536 ∧
      t.get R.INn_SIG_FREQ i = min (watchFreq (early ++ mid ++ late)) 255 ∧
      t.instate i = s.decidedState i (s.decided i (if s.get R.INn_STAT_BAND i = 1 then (declaredClass 1 (t.get
        R.INn_SIG_DROPOUTS i) (s.get R.INn_VOC i)).getD 6 else measuredClass t i (s.on R.X_PROBE_FAIL i))) ∧
      t.cls i = s.decidedClass i (s.decided i (if s.get R.INn_STAT_BAND i = 1 then (declaredClass 1 (t.get
        R.INn_SIG_DROPOUTS i) (s.get R.INn_VOC i)).getD 6 else measuredClass t i (s.on R.X_PROBE_FAIL i)))) := by
  have hoff : ∀ i : Fin 4, sparesDecision watchedFoot i = true ∧ ∀ r ∈ [R.INn_SIG_DROPOUTS, R.INn_VOC, R.INn_RSRC, R.INn_SIG_FREQ,
      R.INn_RIPPLE, R.INn_CURV], keeps classifyFoot (.key (r.key i)) = true := by decide +kernel
  obtain ⟨hspared, hmeasured⟩ := hoff i
  obtain ⟨issue, hissue, hexec⟩ := exec_signatureWatchComplete (early := early) (mid := mid) (late := late) hstate
  generalize early ++ mid ++ late = samples at hexec ⊢
  have hwatched := within_watched (s := s) (i := i) (samples := samples)
  obtain ⟨hkeep, hin, hcls, -⟩ := classify_gives (i := i) (hwatched.noMap hmap (by decide +kernel)) (watchClass_lt s i samples) hissue
  obtain ⟨hdrops, hripple, hfreq⟩ := measured_watched (s := s) (i := i) samples
  have hfield := fun r hr => hkeep.get (hmeasured r hr)
  have hdecided := fun c => hwatched.decision hspared c
  have hdropsAfter := (hfield R.INn_SIG_DROPOUTS (by simp)).trans hdrops
  rw [(hdecided _).1] at hin hcls
  refine ⟨_, hexec, hdropsAfter, (hfield R.INn_RIPPLE (by simp)).trans hripple, (hfield R.INn_SIG_FREQ (by simp)).trans hfreq, ?_, ?_⟩
  all_goals rw [hdropsAfter, measuredClass_eq hkeep hmeasured (by decide +kernel)]
  · exact hin.trans (hdecided _).2.1
  · exact hcls.trans (hdecided _).2.2

end

/-- Settles O2: each clause is the lemma on its command above. -/
theorem inputClassification : Obligations.InputClassification := by
  refine ⟨?_, ?_, ?_, ?_, ?_, ?_, ?_⟩
  · rintro s i v0 i0 steps lows ⟨hstate, hv0, hmap, hband⟩
    exact probeComplete_watches hstate hv0 hmap hband
  · rintro s i v0 i0 steps lows ⟨hstate, hv0, hmap, hlow, hhigh⟩
    exact probeComplete_classifies hstate hv0 hmap hlow hhigh
  · rintro s i early mid late ⟨hstate, hmap⟩
    exact signatureWatchComplete_gives hstate hmap
  · rintro s i k ⟨hstate, hmap⟩
    exact idRedecode_gives hstate hmap
  · rintro s i ⟨hdue, hcls, hmap⟩
    exact classHoldExpire_gives hdue hcls hmap
  · intro s i hmap
    exact reclassify_gives hmap
  · intro s i b hmap
    exact inputEnableWrite_gives hmap

end Sys2Proof.Machine
end

section
/-! PROOFS. Overvoltage, reverse polarity and open FETs (R94). -/

-- One theorem at a time: each decision by the kernel waits for all declarations before it and holds a thread meanwhile.
set_option Elab.async false

namespace Sys2Proof.Machine
namespace State

variable {s t u : State} {i : Fin 4}

/-! ### The state of a group that stops or trips (R131, R151, R158) -/

/-- A group that has settled does not switch and is in no delay. -/
theorem gstate_settleGroup {g : Fin 4} :
    (s.settleGroup g).gstate g = 0 ∨ (s.settleGroup g).gstate g = 5 ∨ (s.settleGroup g).gstate g = 6 := by
  have hoff : ∀ g : Fin 4, (Touch.reg R.X_BOOT).off (.key (R.CNV_Gg_STAT_STATE.key g)) = true := by decide +kernel
  have hset : (s.settleGroup g).gstate g = if s.usable g = [] then 6 else if s.get R.X_TRIP g ≠ 0 then 5 else 0 :=
    (Part.same_get (Part.same_flag Part.same_refl (hoff g))).trans (get_set_fit g (by split_ifs <;> decide))
  rw [hset]
  split_ifs <;> simp

theorem drawing_of_gstate {g : Nat} {n : Nat} (h : s.gstate g = n) (hn : n ≠ 2 ∧ n ≠ 3) : s.drawing g = false := by
  simp [State.drawing, h, hn]

theorem gstate_stopGroup {g : Fin 4} (hmap : s.noMap) :
    (s.stopGroup g).gstate g = 0 ∨ (s.stopGroup g).gstate g = 5 ∨ (s.stopGroup g).gstate g = 6 := by
  have hoff : ∀ g : Fin 4, (Touch.reg R.CNV_Gg_STAT_TUNED).off (.key (R.CNV_Gg_STAT_STATE.key g)) = true := by decide +kernel
  rw [stopGroup_eq hmap, State.gstate, Part.same_get (Part.same_flag Part.same_refl (hoff g))]
  exact gstate_settleGroup

theorem drawing_stopGroup {g : Fin 4} (hmap : s.noMap) : (s.stopGroup g).drawing g = false := by
  rcases gstate_stopGroup (g := g) hmap with h | h | h <;> exact drawing_of_gstate h (by decide)

theorem drawing_within {l : List Touch} (h : within l s t)
    (hoff : ∀ g : Fin 4, Machine.keeps l (.key (R.CNV_Gg_STAT_STATE.key g)) = true) : t.drawing i = s.drawing i := by
  rw [State.drawing, State.drawing, State.gstate, State.gstate, h.get (hoff i)]

theorem drawing_rampDown (hmap : s.noMap) (h : s.drawing i = false) : (s.rampDown i).drawing i = false := by
  have hnone : (s.noCeiling i).drawing i = false := (drawing_within within_noCeiling (by decide +kernel)).trans h
  rw [State.rampDown, if_neg (by simp [h])]
  unfold State.zeroCeiling
  dsimp only
  split
  · exact drawing_stopGroup ((within_noCeiling (g := i)).noMap hmap (by decide +kernel))
  · exact hnone

theorem drawing_endTrip {cause : Nat} (hmap : s.noMap) (h : s.drawing i = false) : (s.endTrip i cause).drawing i = false := by
  have htrip : within [.reg R.X_TRIP] s (s.setBit R.X_TRIP cause false i) := within_setBit
  have hkept : (s.setBit R.X_TRIP cause false i).drawing i = false := (drawing_within htrip (by decide +kernel)).trans h
  have hdelay : ∀ u : State, (u.toOnDelay i).drawing i = false := fun u => by
    have hoff : ∀ g : Fin 4, (Touch.reg R.X_BOOT).off (.key (R.CNV_Gg_STAT_STATE.key g)) = true := by decide +kernel
    exact drawing_of_gstate ((Part.same_get (Part.same_flag Part.same_refl (hoff i))).trans (get_set_fit i (by decide : 1 < 8)))
      (by decide)
  unfold State.endTrip
  dsimp only
  split
  · split
    · exact hdelay _
    · exact drawing_stopGroup (htrip.noMap hmap (by decide +kernel))
  · exact hkept

/-- The end of a class does not make its group draw. -/
theorem drawing_clearClass (hmap : s.noMap) (h : s.drawing i = false) : (s.clearClass i).drawing i = false := by
  have hend := within_classEnded.trans (within_endClass (s := s) (i := i))
  have hmapEnd : (s.endClass i).noMap := hend.noMap hmap (by decide +kernel)
  exact drawing_endTrip ((within_rampDown hmapEnd i).noMap hmapEnd (by decide +kernel))
    (drawing_rampDown hmapEnd ((drawing_within hend (by decide +kernel)).trans h))

/-! ### INPUT_OVERVOLTAGE (R94, R151) -/

/-- What a trip changes where no map is held. -/
def tripFoot : List Touch := Foot.needP3 ++ (stopFoot ++ (Foot.idlePhases ++ [.reg R.X_TRIP] ++ Foot.settleGroup))

theorem within_tripGroup (hmap : s.noMap) (g cause : Nat) : within tripFoot s (s.tripGroup g cause) := by
  have hstop := within_stopGroup (within_needP3.noMap hmap (by decide +kernel)) g
  unfold State.tripGroup
  refine within.ite within_refl (within.ite (within_needP3.trans hstop.left) (within_needP3.trans (within.right ?_)))
  exact (within_idlePhases.trans within_setBit).trans within_settleGroup

/-- An input in overvoltage, its class not yet looked at. -/
def overvolted (s : State) (i : Nat) : State :=
  (((((((s.gates i false).abortSweep i).tripGroup i 1).set R.INn_STAT_ISSUE 8 i).flag R.X_OV true i).setBit R.IN_STATUS_TS_RELEASED
    i false).setBit R.X_TRIP 2 false i).flag R.X_RETAKE false i

/-- Such an input, with its class held or dropped. -/
def overvoltHeld (s : State) (i : Nat) : State :=
  if (s.overvolted i).holdTicks ((s.overvolted i).cls i) = 0 then ((s.overvolted i).dropClass i 0x02).zeroCeiling i
  else ((s.overvolted i).iff ((s.overvolted i).present i) (fun t => t.set R.X_ABSENT_AT (t.get R.X_TICKS) i)).zeroCeiling i

/-- What an overvoltage changes before the class is looked at. -/
def overvoltedFoot : List Touch := Foot.gates ++ Foot.abortSweep ++ tripFoot ++ [.reg R.INn_STAT_ISSUE] ++ [.reg R.X_OV] ++
  [.reg R.IN_STATUS_TS_RELEASED] ++ [.reg R.X_TRIP] ++ [.reg R.X_RETAKE]

theorem within_gates_all {i : Nat} {b : Bool} : within Foot.gates s (s.gates i b) := fun _ => Part.same_gates Part.same_refl

theorem within_overvolted (hmap : s.noMap) : within overvoltedFoot s (s.overvolted i) := by
  have hsweep := (within_gates_all (s := s) (i := i) (b := false)).trans (within_abortSweep (i := i))
  have htrip := hsweep.trans (within_tripGroup (hsweep.noMap hmap (by decide +kernel)) i 1)
  exact ((((htrip.trans within_set).trans within_flag).trans within_setBit).trans within_setBit).trans within_flag

theorem instate_overvoltHeld (hmap : s.noMap) : (s.overvoltHeld i).instate i = s.instate i := by
  have hoff : ∀ i : Fin 4, Machine.keeps overvoltedFoot (.key (R.INn_STAT_STATE.key i)) = true ∧
      Machine.keeps zeroFoot (.key (R.INn_STAT_STATE.key i)) = true ∧
      Machine.keeps [.reg R.X_ABSENT_AT] (.key (R.INn_STAT_STATE.key i)) = true := by decide +kernel
  obtain ⟨hover, hzero, habsent⟩ := hoff i
  have hwithin := within_overvolted (i := i) hmap
  have hnoMap : (s.overvolted i).noMap := hwithin.noMap hmap (by decide +kernel)
  have hdrop := dropped_dropClass (i := i) (event := 0x02) hnoMap
  have hkept : within [.reg R.X_ABSENT_AT] (s.overvolted i) ((s.overvolted i).iff ((s.overvolted i).present i)
      (fun t => t.set R.X_ABSENT_AT (t.get R.X_TICKS) i)) := within.ite within_set within_refl
  unfold overvoltHeld
  split
  · exact ((within_zeroCeiling (hdrop.noMap hnoMap) i).get hzero).trans (hdrop.instate.trans (hwithin.get hover))
  · exact ((within_zeroCeiling (hkept.noMap hnoMap (by decide +kernel)) i).get hzero).trans ((hkept.get habsent).trans
      (hwithin.get hover))

theorem bit_latchStand {r : Reg} {b : Nat} (hb : b < r.width)
    (hoff : Machine.keeps (Foot.offer ++ Foot.followAlert) (.key (r.key 0)) = true) : (s.latchStand r b).bit r b = true :=
  bit_latch hb hoff

end State

section
variable {s : State} {i : Fin 4}
open State

theorem exec_inputOvervoltage : exec (.inputOvervoltage i) s = .next (((((s.overvoltHeld i).flag R.X_READMIT false i).iff
    ((s.overvoltHeld i).instate i != 9) (fun t => t.setInstate i 10))).latchStand R.IN_FAULT_OV i) := rfl

theorem inputOvervoltage_gives (hmap : s.noMap) : Gives (exec (.inputOvervoltage i) s) (fun t =>
    t.instate i = (if s.instate i = 9 then 9 else 10) ∧ t.stands R.IN_FAULT_OV i ∧ t.bit R.IN_FAULT_OV i) := by
  have hoff : ∀ i : Fin 4, keeps (Foot.latchStand R.IN_FAULT_OV) (.key (R.INn_STAT_STATE.key i)) = true ∧
      (Touch.reg R.X_READMIT).off (.key (R.INn_STAT_STATE.key i)) = true := by decide +kernel
  obtain ⟨hlatch, hreadmit⟩ := hoff i
  refine ⟨_, exec_inputOvervoltage, ?_, stands_latchStand (inputFault_lt (by simp) i)
    (by decide +kernel), bit_latchStand i.isLt (by decide +kernel)⟩
  rw [State.instate, within_latchStand.get hlatch, instate_overvoltHeld hmap, State.iff]
  by_cases hnine : s.instate i = 9
  · rw [if_neg (by simp [hnine]), if_pos hnine, Part.same_get (Part.same_flag Part.same_refl hreadmit)]
    exact (instate_overvoltHeld hmap).trans hnine
  · rw [if_pos (by simp [hnine]), if_neg hnine]
    exact instate_setInstate (by decide)

/-! ### INPUT_OV_CLEAR (R94) -/

/-- An input whose overvoltage has ended, with the voltage found on VBUSn. -/
def State.ovCleared (s : State) (i vbus : Nat) : State :=
  (((s.flag R.X_OV false i).ended R.IN_FAULT_OV i).endTrip i 1).set R.X_VBUS vbus i

/-- An input whose class is still held is readmitted. -/
def State.readmitted (s : State) (i : Nat) : State :=
  ((s.setInstate i 8).flag R.X_READMIT (s.present i) i).flag R.X_DECODED false i

/-- What the end of an overvoltage changes. -/
def ovClearedFoot : List Touch := [.reg R.X_OV] ++ Foot.ended ++ endTripFoot ++ [.reg R.X_VBUS]

theorem within_ovCleared (hmap : s.noMap) {vbus : Nat} : within ovClearedFoot s (s.ovCleared i vbus) := by
  have hended := within_flag.trans (within_ended (s := s.flag R.X_OV false i) (r := R.IN_FAULT_OV) (b := i))
  exact (hended.trans (within_endTrip (hended.noMap hmap (by decide +kernel)) i 1)).trans within_set

theorem within_readmitted : within (Foot.setInstate ++ [.reg R.X_READMIT] ++ [.reg R.X_DECODED]) s (s.readmitted i) :=
  (within_setInstate.trans within_flag).trans within_flag

theorem exec_inputOvClear {vbus : Nat} (hov : s.on R.X_OV i) (hfet : (s.ovCleared i vbus).on R.X_FETBAD i = false) :
    exec (.inputOvClear i vbus) s = .next (if (s.ovCleared i vbus).cls i = 0 then (s.ovCleared i vbus).restartClass i
      else (s.ovCleared i vbus).readmitted i) :=
  congrArg Host.Outcome.next ((if_pos hov).trans (if_neg (Bool.eq_false_iff.1 hfet)))

theorem ovCleared_gives (hmap : s.noMap) {vbus : Nat} (hvbus : vbus < 65536) : (s.ovCleared i vbus).on R.X_OV i = false ∧
    (s.ovCleared i vbus).stands R.IN_FAULT_OV i = false ∧ (s.ovCleared i vbus).get R.X_VBUS i = vbus := by
  have hoff : ∀ i : Fin 4, keeps (Foot.ended ++ (endTripFoot ++ [.reg R.X_VBUS])) (.key (R.X_OV.key i)) = true := by decide +kernel
  have hstart : within [.reg R.X_OV] s (s.flag R.X_OV false i) := within_flag
  have hend : within Foot.ended (s.flag R.X_OV false i) ((s.flag R.X_OV false i).ended R.IN_FAULT_OV i) := within_ended
  have hrest : within (endTripFoot ++ [.reg R.X_VBUS]) ((s.flag R.X_OV false i).ended R.IN_FAULT_OV i) (s.ovCleared i vbus) :=
    (within_endTrip ((hstart.trans hend).noMap hmap (by decide +kernel)) i 1).trans within_set
  refine ⟨((hend.trans hrest).on (hoff i)).trans (on_flag_self _ _ _ _ (by decide)), ?_, get_set_fit i hvbus⟩
  exact (hrest.bit (by decide +kernel)).trans (stands_ended (inputFault_lt (by simp) i))

theorem inputOvClear_gives {vbus : Nat} (hov : s.on R.X_OV i) (hfet : s.on R.X_FETBAD i = false) (hmap : s.noMap)
    (hvbus : vbus < 65536) : Gives (exec (.inputOvClear i vbus) s) (fun t => t.on R.X_OV i = false ∧
      t.stands R.IN_FAULT_OV i = false ∧ t.get R.X_VBUS i = vbus ∧ t.instate i = (if s.cls i = 0 then s.restartState i else 8) ∧
      t.on R.X_READMIT i = (decide (s.cls i ≠ 0) && s.present i)) := by
  have hoff : ∀ i : Fin 4, (∀ r ∈ [R.X_FETBAD, R.INn_STAT_CLASS], keeps ovClearedFoot (.key (r.key i)) = true) ∧
      sparesRestart ovClearedFoot i = true ∧ (∀ r ∈ [R.X_OV, R.X_VBUS], keeps Foot.restartClass (.key (r.key i)) = true ∧
      keeps (Foot.setInstate ++ [.reg R.X_READMIT] ++ [.reg R.X_DECODED]) (.key (r.key i)) = true) ∧
      keeps ([.reg R.X_READMIT] ++ [.reg R.X_DECODED]) (.key (R.INn_STAT_STATE.key i)) = true ∧
      (Touch.reg R.X_DECODED).off (.key (R.X_READMIT.key i)) = true := by decide +kernel
  obtain ⟨hcleared, hrestart, hlater, hstate, hdecoded⟩ := hoff i
  obtain ⟨hnotOv, hended, hbus⟩ := ovCleared_gives (i := i) hmap hvbus
  have hwithin := within_ovCleared (i := i) (vbus := vbus) hmap
  have hcls : (s.ovCleared i vbus).cls i = s.cls i := hwithin.get (hcleared R.INn_STAT_CLASS (by simp))
  obtain ⟨-, hpresent, -⟩ := hwithin.restarts hrestart
  have hexec := exec_inputOvClear (i := i) (vbus := vbus) hov ((hwithin.on (hcleared R.X_FETBAD (by simp))).trans hfet)
  rw [hcls] at hexec
  by_cases hnone : s.cls i = 0
  · rw [if_pos hnone] at hexec
    refine ⟨_, hexec, (within_restartClass.on (hlater _ (by simp)).1).trans hnotOv, (within_restartClass.bit
      (by decide +kernel)).trans hended, (within_restartClass.get (hlater _ (by simp)).1).trans hbus, ?_, ?_⟩
    · rw [if_pos hnone]
      exact instate_restartClass.trans (hwithin.restartState hrestart)
    · rw [readmit_restartClass]
      simp [hnone]
  · rw [if_neg hnone] at hexec
    refine ⟨_, hexec, (within_readmitted.on (hlater _ (by simp)).2).trans hnotOv, (within_readmitted.bit
      (by decide +kernel)).trans hended, (within_readmitted.get (hlater _ (by simp)).2).trans hbus, ?_, ?_⟩
    · rw [if_neg hnone]
      exact ((within_flag.trans within_flag).get hstate).trans (instate_setInstate (by decide))
    · rw [readmitted, on_same (Part.same_flag Part.same_refl hdecoded), on_flag_self _ _ _ _ (by decide), hpresent]
      simp [hnone]

/-! ### REVERSE_POLARITY (R94) -/

theorem reversePolarity_gives (e : PolarityEdge) : Gives (exec (.reversePolarity e) s) (fun t =>
    t.stands R.IN_FAULT_REV_POL e.input = e.below ∧ (e.below → t.bit R.IN_STATUS_FET_ON e.input = false ∧
      t.get R.INn_STAT_ISSUE e.input = 9 ∧ t.bit R.IN_FAULT_REV_POL e.input)) := by
  have hoff : ∀ i : Fin 4, keeps (Foot.latchStand R.IN_FAULT_REV_POL) (.key (R.INn_STAT_ISSUE.key i)) = true := by decide +kernel
  have hbit := inputFault_lt (r := R.IN_FAULT_REV_POL) (by simp) e.input
  cases hbelow : e.below
  · refine ⟨s.ended R.IN_FAULT_REV_POL e.input, congrArg Host.Outcome.next (if_neg (by simp [hbelow])), stands_ended hbit, nofun⟩
  · refine ⟨_, congrArg Host.Outcome.next (if_pos hbelow), stands_latchStand hbit (by decide +kernel), fun _ => ⟨?_, ?_, ?_⟩⟩
    · exact ((within_set.trans within_latchStand).bit (by decide +kernel)).trans gatesLow_gates_self
    · exact (within_latchStand.get (hoff e.input)).trans (get_set_fit _ (by decide))
    · exact bit_latchStand e.input.isLt (by decide +kernel)

/-! ### FET_OPEN (R94) -/

/-- An input whose FETs are open, its group stopping, before TP waiters start over. -/
def State.fetOpened (s : State) (i : Nat) : State :=
  ((((((s.abortSweep i).clearClass i).gatesAfterRamp i).setInstate i 10).set R.INn_STAT_ISSUE 7 i).flag R.X_FETBAD true
    i).latchStand R.IN_FAULT_FET i

theorem exec_fetOpen (hstate : s.instate i = 3 ∨ s.instate i = 7) :
    exec (.fetOpen i) s = .next ((s.fetOpened i).iff (s.cls i == 1) State.freeDup) := congrArg Host.Outcome.next (if_pos hstate)

/-- What marks open FETs. -/
def fetTailFoot : List Touch := [.reg R.X_FETBAD] ++ Foot.latchStand R.IN_FAULT_FET

theorem within_fetTail {u : State} : within fetTailFoot u ((u.flag R.X_FETBAD true i).latchStand R.IN_FAULT_FET i) :=
  within_flag.trans within_latchStand

/-- An input whose FETs are open is in FAULT without a class. -/
structure State.fetFault (i : Fin 4) (t : State) : Prop where
  noMap : t.noMap
  instate : t.instate i = 10
  cls : t.cls i = 0
  shown : t.get R.INn_STAT_ISSUE i = 7
  latched : t.bit R.IN_FAULT_FET i = true

theorem fetFault_fetOpened (hmap : s.noMap) : fetFault i (s.fetOpened i) := by
  have hoff : ∀ i : Fin 4, keeps ([.reg R.INn_STAT_ISSUE] ++ fetTailFoot) (.key (R.INn_STAT_STATE.key i)) = true ∧
      keeps (Foot.gatesAfterRamp ++ (Foot.setInstate ++ ([.reg R.INn_STAT_ISSUE] ++ fetTailFoot))) (.key (R.INn_STAT_CLASS.key i)) =
        true ∧ keeps fetTailFoot (.key (R.INn_STAT_ISSUE.key i)) = true := by decide +kernel
  obtain ⟨hstate, hclass, hissue⟩ := hoff i
  have hsweep : (s.abortSweep i).noMap := within_abortSweep.noMap hmap (by decide +kernel)
  have hcleared := noMap_clearClass hsweep i
  have hcls : ((s.abortSweep i).clearClass i).cls i = 0 := (get_clearClass i hsweep (by simp [inputRegs])).trans cls_classEnded
  have hlast : within ([.reg R.INn_STAT_ISSUE] ++ fetTailFoot) ((((s.abortSweep i).clearClass i).gatesAfterRamp i).setInstate i 10)
      (s.fetOpened i) := within_set.trans within_fetTail
  have hrest := within_gatesAfterRamp.trans (within_setInstate.trans hlast)
  exact ⟨hrest.noMap hcleared (by decide +kernel), (hlast.get hstate).trans (instate_setInstate (by decide)),
    (hrest.get hclass).trans hcls, (within_fetTail.get hissue).trans (get_set_fit i (by decide)),
    bit_latchStand i.isLt (by decide +kernel)⟩

theorem gatesLow_fetOpened (hmap : s.noMap) (hdraw : s.drawing i = false) : (s.fetOpened i).gatesLow i := by
  have hsweep : (s.abortSweep i).drawing i = false := (drawing_within within_abortSweep (by decide +kernel)).trans hdraw
  have hstopped := drawing_clearClass (within_abortSweep.noMap hmap (by decide +kernel)) hsweep
  have hlow : (((s.abortSweep i).clearClass i).gatesAfterRamp i).gatesLow i := by
    rw [State.gatesAfterRamp, if_neg (by simp [hstopped])]
    exact gatesLow_gates_self
  exact (within_setInstate.trans (within_set.trans within_fetTail)).gatesLow hlow (by decide +kernel)

theorem fetOpen_gives (hstate : s.instate i = 3 ∨ s.instate i = 7) (hmap : s.noMap) : Gives (exec (.fetOpen i) s) (fun t =>
    t.instate i = 10 ∧ t.cls i = 0 ∧ t.get R.INn_STAT_ISSUE i = 7 ∧ t.bit R.IN_FAULT_FET i ∧
      (s.drawing i = false → t.bit R.IN_STATUS_FET_ON i = false)) := by
  have hoff : ∀ i : Fin 4, keeps freeFoot (.key (R.INn_STAT_ISSUE.key i)) = true := by decide +kernel
  have hopen := fetFault_fetOpened (i := i) hmap
  refine ⟨_, exec_fetOpen hstate, ?_⟩
  rw [State.iff]
  split
  case isFalse => exact ⟨hopen.instate, hopen.cls, hopen.shown, hopen.latched, gatesLow_fetOpened hmap⟩
  case isTrue =>
    have hspared := spares_freeDup (i := i) hopen.noMap (by rw [hopen.cls]; decide)
    have hfree := within_freeDup hopen.noMap
    exact ⟨(hspared.regs R.INn_STAT_STATE (by simp [inputRegs])).trans hopen.instate,
      (hspared.regs R.INn_STAT_CLASS (by simp [inputRegs])).trans hopen.cls, (hfree.get (hoff i)).trans hopen.shown,
      (hfree.bit (by decide +kernel)).trans hopen.latched, fun hdraw => hspared.low (gatesLow_fetOpened hmap hdraw)⟩

end
end Sys2Proof.Machine
end

section
/-! PROOFS. The stop-lamp rule (R95, R97, R98): a release holds with a phase map held too, since a group that trips is in no on-delay. -/

-- One theorem at a time: each decision by the kernel waits for all declarations before it and holds a thread meanwhile.
set_option Elab.async false

namespace Sys2Proof.Machine
namespace State

variable {s t u : State} {i : Fin 4}

/-! ### A group that trips is in no on-delay afterwards, a map held or not (R129, R149, R453) -/

/-- The P3 window is closed, and a group is not in its on-delay. -/
structure outOfDelay (i : Fin 4) (s : State) : Prop where
  closed : s.on R.BIST_STATUS_P3_WINDOW = false
  out : s.gstate i ≠ 1

/-- Whether a footprint leaves the P3 window and the states of the groups. -/
def sparesDelay (l : List Touch) : Bool := Machine.keeps l (.key (R.BIST_STATUS_P3_WINDOW.key 0)) &&
  (List.range R.CNV_Gg_STAT_STATE.count).all (fun g => Machine.keeps l (.key (R.CNV_Gg_STAT_STATE.key g)))

theorem gstate_of_sparesDelay {l : List Touch} (h : within l s t) (hoff : sparesDelay l = true) (g : Nat) : t.gstate g = s.gstate g := by
  rw [sparesDelay, Bool.and_eq_true] at hoff
  exact h.get (apart_keeps (by decide) hoff.2 g)

namespace outOfDelay

theorem within {l : List Touch} (hs : outOfDelay i s) (h : within l s t) (hoff : sparesDelay l = true) : outOfDelay i t := by
  refine ⟨(h.on ?_).trans hs.closed, (gstate_of_sparesDelay h hoff i).trans_ne hs.out⟩
  rw [sparesDelay, Bool.and_eq_true] at hoff
  exact hoff.1

theorem ite {c : Prop} [Decidable c] (ht : outOfDelay i t) (hu : outOfDelay i u) : outOfDelay i (if c then t else u) := by
  split <;> assumption

end outOfDelay

theorem within_abortSlice {mask : Nat} : State.within Foot.abortSlice s (s.abortSlice mask) := fun _ => Part.same_abortSlice Part.same_refl

/-- With the window closed, an event that needs P3 aborts a slice at most (R451, R453). -/
theorem needP3_eq (h : s.on R.BIST_STATUS_P3_WINDOW = false) : s.needP3 = s.abortSlice 0x08 :=
  if_neg (by rw [(within_abortSlice (mask := 0x08)).on (by decide +kernel), h]; decide)

theorem closed_needP3 : s.needP3.on R.BIST_STATUS_P3_WINDOW = false := by
  unfold State.needP3 State.endP3Window
  split
  case isFalse h => exact Bool.eq_false_iff.2 h
  case isTrue =>
    refine (on_same (Part.same_each Part.same_refl fun g v hv => Part.same_ite (Part.same_toOnDelay hv (by decide +kernel)) hv)).trans ?_
    exact on_flag_self _ _ _ _ (by decide)

theorem gstate_settleGroup_ne {g : Fin 4} : (s.settleGroup g).gstate g ≠ 1 := by
  rcases gstate_settleGroup (s := s) (g := g) with h | h | h <;> rw [h] <;> decide

namespace outOfDelay

theorem setInstate (hs : outOfDelay i s) (j st : Nat) : outOfDelay i (s.setInstate j st) := by
  rw [State.setInstate, needP3_eq hs.closed]
  exact hs.within ((within_abortSlice.trans within_set).trans within_setBit) (by decide +kernel)

theorem restartClass (hs : outOfDelay i s) (j : Nat) : outOfDelay i (s.restartClass j) := by
  have hprepared : outOfDelay i (s.restartPrepared j) := hs.within within_prepared (by decide +kernel)
  obtain ⟨u, hu, hcases⟩ := restartClass_cases s j
  rw [hcases]
  exact ite (hprepared.setInstate ..) (ite ((hprepared.setInstate ..).within hu (by decide +kernel)) (hprepared.setInstate ..))

/-- The end of an input's class with its record. -/
theorem classEnd (hs : outOfDelay i s) (j event : Nat) : outOfDelay i (((s.endClass j).noCeiling j).sourceEvent j event) :=
  hs.within (((within_classEnded.trans within_endClass).trans within_noCeiling).trans within_sourceEvent) (by decide +kernel)

theorem unmapInput (hs : outOfDelay i s) (j : Nat) : outOfDelay i (s.unmapInput j) := by
  have hended : outOfDelay i (if s.cls j = 0 then s else ((s.endClass j).noCeiling j).sourceEvent j 0x02) :=
    ite hs (hs.classEnd j 0x02)
  have hlow := (hended.within ((within_gates_all (i := j) (b := false)).trans (within_flag (r := R.X_READMIT) (b := false) (i := j)))
    (by decide +kernel)).within (within_noCeiling (g := j)) (by decide +kernel)
  unfold State.unmapInput State.iff
  refine ite (each_keeps (hlow.setInstate j 9) fun k t _ ht => ite ?_ ht) (hlow.setInstate j 9)
  exact (ht.classEnd k 0x05).restartClass k

theorem inputsFollow (hs : outOfDelay i s) : outOfDelay i s.inputsFollow := by
  unfold State.inputsFollow
  exact each_keeps hs fun j t _ ht => ite (ite ht (ht.unmapInput j)) (ite (ite (ht.setInstate j 10) (ht.restartClass j)) ht)

theorem settleGroup (hs : outOfDelay i s) (g : Fin 4) : outOfDelay i (s.settleGroup g) := by
  refine ⟨(within_settleGroup.on (by decide +kernel)).trans hs.closed, ?_⟩
  by_cases h : g = i
  · exact h ▸ gstate_settleGroup_ne
  · have hkey : ∀ g i : Fin 4, g ≠ i → R.CNV_Gg_STAT_STATE.key i ≠ R.CNV_Gg_STAT_STATE.key g := by decide
    have hboot := apart (w := .reg R.X_BOOT) (q := R.CNV_Gg_STAT_STATE) (by decide) (by decide +kernel) i
    rw [State.settleGroup, State.gstate, Part.same_get (Part.same_flag Part.same_refl hboot), get_set_ne _ (hkey g i h)]
    exact hs.out

theorem applyMap (hs : outOfDelay i s) : outOfDelay i s.applyMap := by
  have hphases : outOfDelay i (s.each 6 (fun p t => t.set R.CNV_PHn_STAT_GROUP (t.mapNibble p) p)) :=
    each_keeps hs fun p t _ ht => ht.within within_set (by decide +kernel)
  have hoffsets : outOfDelay i (((s.each 6 (fun p t => t.set R.CNV_PHn_STAT_GROUP (t.mapNibble p) p)).set R.X_FSW
      ((s.each 6 (fun p t => t.set R.CNV_PHn_STAT_GROUP (t.mapNibble p) p)).get R.CNV_FSW)).each 4
      (fun g t => t.set R.X_PHASE_OFS (t.get R.CNV_Gg_PHASE_OFS g) g)) :=
    each_keeps (hphases.within within_set (by decide +kernel)) fun g t _ ht => ht.within within_set (by decide +kernel)
  unfold State.applyMap
  exact ((each_keeps hoffsets fun g t hg ht => ite (ht.settleGroup ⟨g, hg⟩) ht).within within_flag (by decide +kernel)).inputsFollow

theorem mapCheck (hs : outOfDelay i s) : outOfDelay i s.mapCheck := ite hs.applyMap hs

end outOfDelay

/-- A group that trips is stopped, unavailable or tripped, and none of that is its on-delay (R151, R154). -/
theorem gstate_tripGroup {cause : Nat} : (s.tripGroup i cause).gstate i ≠ 1 := by
  have hstopped : outOfDelay i ((s.needP3.idlePhases i).settleGroup i) :=
    ⟨((within_idlePhases.trans within_settleGroup).on (by decide +kernel)).trans closed_needP3, gstate_settleGroup_ne⟩
  unfold State.tripGroup
  dsimp only
  split
  case isTrue h => omega
  split
  case isTrue => exact ((hstopped.within within_flag (by decide +kernel)).mapCheck).out
  case isFalse => exact gstate_settleGroup_ne

theorem zeroCeiling_eq (h : s.gstate i ≠ 1) : s.zeroCeiling i = s.noCeiling i :=
  if_neg ((gstate_of_sparesDelay (within_noCeiling (g := i)) (by decide +kernel) i).trans_ne h)

/-! ### TS_RELEASE (R98) -/

/-- A stop-lamp input that is released, before its ceiling goes (R98). -/
def tsReleased (s : State) (i : Nat) : State :=
  (((s.abortSweeps.tripGroup i 2).setBit R.IN_STATUS_FET_ON i false).setBit R.IN_STATUS_TS_RELEASED i true).flag R.X_RETAKE false i

theorem zeroCeiling_tsReleased : (s.tsReleased i).zeroCeiling i = (s.tsReleased i).noCeiling i := by
  have hmarked : within ([.reg R.IN_STATUS_FET_ON] ++ [.reg R.IN_STATUS_TS_RELEASED] ++ [.reg R.X_RETAKE])
      (s.abortSweeps.tripGroup i 2) (s.tsReleased i) := (within_setBit.trans within_setBit).trans within_flag
  exact zeroCeiling_eq ((gstate_of_sparesDelay hmarked (by decide +kernel) i).trans_ne gstate_tripGroup)

theorem releases_tsReleased : (s.tsReleased i).get R.INn_RELEASES i = s.get R.INn_RELEASES i := by
  have hoff : ∀ i : Fin 4, Machine.keeps (Foot.abortSweeps ++ (Foot.tripGroup ++ ([.reg R.IN_STATUS_FET_ON] ++
      [.reg R.IN_STATUS_TS_RELEASED] ++ [.reg R.X_RETAKE]))) (.key (R.INn_RELEASES.key i)) = true := by decide +kernel
  have hsweeps : within Foot.abortSweeps s s.abortSweeps := fun _ => Part.same_abortSweeps Part.same_refl
  have htrip : within Foot.tripGroup s.abortSweeps (s.abortSweeps.tripGroup i 2) := fun _ => Part.same_tripGroup Part.same_refl
  exact (hsweeps.trans (htrip.trans ((within_setBit.trans within_setBit).trans within_flag))).get (hoff i)

theorem exec_tsRelease (hstate : s.instate i = 7) (hcls : s.cls i = 2) (hdraws : s.bit R.IN_STATUS_TS_RELEASED i = false) :
    exec (.tsRelease i) s = .next (((s.tsReleased i).noCeiling i).inc R.INn_RELEASES i) := by
  rw [← zeroCeiling_tsReleased]
  exact congrArg Host.Outcome.next (if_pos ⟨hstate, hcls, by rw [hdraws]; rfl⟩)

theorem within_inc {r : Reg} {i : Nat} : within [.reg r] s (s.inc r i) := within_set

theorem tsRelease_gives (hstate : s.instate i = 7) (hcls : s.cls i = 2) (hdraws : s.bit R.IN_STATUS_TS_RELEASED i = false) :
    Gives (exec (.tsRelease i) s) (fun t => t.bit R.IN_STATUS_TS_RELEASED i ∧ t.bit R.IN_STATUS_FET_ON i = false ∧
      t.get R.TRKn_CAP i = 0 ∧ t.get R.INn_RELEASES i = min (s.get R.INn_RELEASES i + 1) 65535) := by
  have hoff : ∀ i : Fin 4, Machine.keeps [.reg R.INn_RELEASES] (.key (R.TRKn_CAP.key i)) = true ∧
      Machine.keeps Foot.noCeiling (.key (R.INn_RELEASES.key i)) = true := by decide +kernel
  obtain ⟨hcap, hreleases⟩ := hoff i
  have hlast := (within_noCeiling (s := s.tsReleased i) (g := i)).trans (within_inc (r := R.INn_RELEASES) (i := i))
  refine ⟨_, exec_tsRelease hstate hcls hdraws, ?_, ?_, (within_inc.get hcap).trans (get_set_fit i (by decide)), ?_⟩
  · exact ((within_flag.trans hlast).bit (by decide +kernel)).trans (bit_setBit_self true 0 i.isLt)
  · exact ((within_setBit.trans (within_flag.trans hlast)).bit (by decide +kernel)).trans (bit_setBit_self false 0 i.isLt)
  · rw [State.inc, get_add_self, within_noCeiling.get hreleases, releases_tsReleased]
    rfl

/-! ### TS_RESUME and TS_VREF_RETAKE (R97, R98) -/

/-- A group that returns to STOPPED leaves the gates of its input where they do not wait for it. -/
theorem fetOn_stopGroup {g b : Nat} (hmap : s.noMap) (hgate : s.on R.X_GATE_OFF g = false) :
    (s.stopGroup g).bit R.IN_STATUS_FET_ON b = s.bit R.IN_STATUS_FET_ON b := by
  obtain ⟨u, hu, hidle⟩ := idlePhases_cases s g
  rw [if_neg (Bool.eq_false_iff.1 hgate)] at hidle
  rw [stopGroup_eq hmap, hidle]
  exact ((hu.trans within_settleGroup).trans within_flag).bit (by decide +kernel)

theorem fetOn_endTrip {g cause b : Nat} (hmap : s.noMap) (hgate : s.on R.X_GATE_OFF g = false) :
    (s.endTrip g cause).bit R.IN_STATUS_FET_ON b = s.bit R.IN_STATUS_FET_ON b := by
  have htrip : within [.reg R.X_TRIP] s (s.setBit R.X_TRIP cause false g) := within_setBit
  have hkept : (s.setBit R.X_TRIP cause false g).bit R.IN_STATUS_FET_ON b = s.bit R.IN_STATUS_FET_ON b := htrip.bit (by decide +kernel)
  have hstop := (fetOn_stopGroup (g := g) (b := b) (htrip.noMap hmap (by decide +kernel))
    ((htrip.on (apart_keeps (by decide) (by decide +kernel) g)).trans hgate)).trans hkept
  unfold State.endTrip
  dsimp only
  split
  · split
    · exact (within_toOnDelay.bit (by decide +kernel)).trans hstop
    · exact hstop
  · exact hkept

theorem gateOff_gates {b : Bool} : (s.gates i b).on R.X_GATE_OFF i = false := on_flag_self _ _ _ _ (by decide)

theorem within_setVref {vref : Nat} : within Foot.setVref s (s.setVref i vref) := fun _ => Part.same_setVref Part.same_refl

theorem vref_setVref {vref : Nat} (hvref : vref < 65536) : (s.setVref i vref).get R.X_VREF i = vref := by
  have hoff : ∀ i : Fin 4, Machine.keeps ([.reg R.X_VREF_AT] ++ [.reg R.TRKn_VSET]) (.key (R.X_VREF.key i)) = true := by decide +kernel
  exact ((within_set.trans within_set).get (hoff i)).trans (get_set_fit i hvref)

theorem floorOf_of_ts (h : s.cls i = 2) : s.floorOf i = max (s.get R.X_VREF i - s.get R.IN_TS_DROOP) 1820 := by
  simp [State.floorOf, h]

/-- A stop-lamp input holds its floor below the reference, and not below 18.20 V (R95, R107). -/
theorem vset_setVref {vref : Nat} (hcls : s.cls i = 2) (hvref : vref < 65536) :
    (s.setVref i vref).get R.TRKn_VSET i = max (vref - s.get R.IN_TS_DROOP) 1820 := by
  have hoff : ∀ i : Fin 4, Machine.keeps [.reg R.X_VREF_AT] (.key (R.X_VREF.key i)) = true ∧
      Machine.keeps ([.reg R.X_VREF] ++ [.reg R.X_VREF_AT]) (.key (R.INn_STAT_CLASS.key i)) = true := by decide +kernel
  obtain ⟨hvrefOff, hclsOff⟩ := hoff i
  have hnoted : within ([.reg R.X_VREF] ++ [.reg R.X_VREF_AT]) s ((s.set R.X_VREF vref i).set R.X_VREF_AT s.now i) :=
    within_set.trans within_set
  have hclsNoted : ((s.set R.X_VREF vref i).set R.X_VREF_AT s.now i).cls i = 2 := (hnoted.get hclsOff).trans hcls
  have hvrefNoted : ((s.set R.X_VREF vref i).set R.X_VREF_AT s.now i).get R.X_VREF i = vref :=
    (within_set.get hvrefOff).trans (get_set_fit i hvref)
  rw [State.setVref, floorOf_of_ts hclsNoted, hvrefNoted, hnoted.get (by decide +kernel)]
  exact get_set_fit i (show _ < 65536 by omega)

end State

section
variable {s : State} {i : Fin 4}
open State

theorem exec_tsResume {vref : Nat} (hstate : s.instate i = 7) (hcls : s.cls i = 2) (hreleased : s.bit R.IN_STATUS_TS_RELEASED i) :
    exec (.tsResume i vref) s =
      .next ((((s.setBit R.IN_STATUS_TS_RELEASED i false).gates i true).setVref i vref).endTrip i 2) :=
  congrArg Host.Outcome.next (if_pos ⟨hstate, hcls, hreleased⟩)

theorem tsResume_gives {vref : Nat} (hstate : s.instate i = 7) (hcls : s.cls i = 2) (hreleased : s.bit R.IN_STATUS_TS_RELEASED i)
    (hvref : vref < 65536) (hmap : s.noMap) : Gives (exec (.tsResume i vref) s) (fun t =>
      t.bit R.IN_STATUS_TS_RELEASED i = false ∧ t.bit R.IN_STATUS_FET_ON i = (!s.bit R.BIST_STATUS_SAFE 3 &&
        !s.stands R.IN_FAULT_REV_POL i && !s.on R.MODE_STATUS_THERM_ACTIVE) ∧ t.get R.X_VREF i = vref) := by
  have hoff : ∀ i : Fin 4, keeps endTripFoot (.key (R.X_VREF.key i)) = true ∧
      keeps Foot.setVref (.key (R.X_GATE_OFF.key i)) = true := by decide +kernel
  obtain ⟨hvrefOff, hgateOff⟩ := hoff i
  have hback : within [.reg R.IN_STATUS_TS_RELEASED] s (s.setBit R.IN_STATUS_TS_RELEASED i false) := within_setBit
  have hdriven : within (Foot.gates ++ Foot.setVref) (s.setBit R.IN_STATUS_TS_RELEASED i false)
      (((s.setBit R.IN_STATUS_TS_RELEASED i false).gates i true).setVref i vref) := within_gates_all.trans within_setVref
  have hnoMap := (hback.trans hdriven).noMap hmap (by decide +kernel)
  have hend := within_endTrip hnoMap i 2
  refine ⟨_, exec_tsResume hstate hcls hreleased, ?_, ?_, (hend.get hvrefOff).trans (vref_setVref hvref)⟩
  · exact ((hdriven.trans hend).bit (by decide +kernel)).trans (bit_setBit_self false 0 i.isLt)
  · rw [fetOn_endTrip hnoMap ((within_setVref.on hgateOff).trans gateOff_gates), within_setVref.bit (by decide +kernel), fetOn_gates,
      hback.bit (by decide +kernel), State.stands, hback.bit (by decide +kernel), hback.on (by decide +kernel), Bool.true_and,
      State.stands]

theorem exec_tsVrefRetake {vref : Nat} (hstate : s.instate i = 7) (hcls : s.cls i = 2)
    (hdraws : s.bit R.IN_STATUS_TS_RELEASED i = false) (hdue : s.on R.X_RETAKE i ∨ s.get R.TRKn_ALLOC i ≠ 0) :
    exec (.tsVrefRetake i vref) s =
      .next ((((s.flag R.X_RETAKE false i).setVref i vref).zeroCeiling i).set R.X_RAMP 0 i) :=
  congrArg Host.Outcome.next (if_pos ⟨hstate, hcls, by rw [hdraws]; rfl, hdue⟩)

theorem alloc_zeroCeiling (hmap : s.noMap) : (s.zeroCeiling i).get R.TRKn_ALLOC i = 0 := by
  have hoff : ∀ i : Fin 4, keeps stopFoot (.key (R.TRKn_ALLOC.key i)) = true ∧
      (Touch.reg R.TRKn_CAP).off (.key (R.TRKn_ALLOC.key i)) = true := by decide +kernel
  obtain ⟨hstop, hcap⟩ := hoff i
  have hnone : (s.noCeiling i).get R.TRKn_ALLOC i = 0 :=
    (Part.same_get (Part.same_set Part.same_refl hcap)).trans (get_set_fit i (by decide))
  unfold State.zeroCeiling
  dsimp only
  split
  · exact ((within_stopGroup ((within_noCeiling (g := i)).noMap hmap (by decide +kernel)) i).get hstop).trans hnone
  · exact hnone

theorem tsVrefRetake_gives {vref : Nat} (hstate : s.instate i = 7) (hcls : s.cls i = 2)
    (hdraws : s.bit R.IN_STATUS_TS_RELEASED i = false) (hdue : s.on R.X_RETAKE i ∨ s.get R.TRKn_ALLOC i ≠ 0)
    (hvref : vref < 65536) (hmap : s.noMap) : Gives (exec (.tsVrefRetake i vref) s) (fun t =>
      t.get R.X_VREF i = vref ∧ t.on R.X_RETAKE i = false ∧ t.get R.TRKn_ALLOC i = 0 ∧
        t.get R.TRKn_VSET i = max (vref - s.get R.IN_TS_DROOP) 1820) := by
  have hoff : ∀ i : Fin 4, (∀ r ∈ [R.X_VREF, R.TRKn_VSET], keeps (zeroFoot ++ [.reg R.X_RAMP]) (.key (r.key i)) = true) ∧
      keeps (Foot.setVref ++ (zeroFoot ++ [.reg R.X_RAMP])) (.key (R.X_RETAKE.key i)) = true ∧
      keeps [.reg R.X_RAMP] (.key (R.TRKn_ALLOC.key i)) = true ∧ keeps [.reg R.X_RETAKE] (.key (R.INn_STAT_CLASS.key i)) = true := by
    decide +kernel
  obtain ⟨hlater, hretake, hramp, hclass⟩ := hoff i
  have hend : within [.reg R.X_RETAKE] s (s.flag R.X_RETAKE false i) := within_flag
  have hnoMap : ((s.flag R.X_RETAKE false i).setVref i vref).noMap := (hend.trans within_setVref).noMap hmap (by decide +kernel)
  have hrest : within (zeroFoot ++ [.reg R.X_RAMP]) ((s.flag R.X_RETAKE false i).setVref i vref)
      ((((s.flag R.X_RETAKE false i).setVref i vref).zeroCeiling i).set R.X_RAMP 0 i) := (within_zeroCeiling hnoMap i).trans within_set
  refine ⟨_, exec_tsVrefRetake hstate hcls hdraws hdue, (hrest.get (hlater _ (by simp))).trans (vref_setVref hvref),
    ((within_setVref.trans hrest).on hretake).trans (on_flag_self _ _ _ _ (by decide)),
    (within_set.get hramp).trans (alloc_zeroCeiling hnoMap), ?_⟩
  rw [hrest.get (hlater _ (by simp)), vset_setVref ((hend.get hclass).trans hcls) hvref, hend.get (by decide +kernel)]

end

/-- Settles O3: each clause is the lemma on its command above. -/
theorem inputFaults : Obligations.InputFaults := by
  refine ⟨?_, ?_, ?_, ?_, ?_, ?_, ?_⟩
  · intro s i hmap
    exact inputOvervoltage_gives hmap
  · rintro s i vbus ⟨hov, hfet, hmap, hvbus⟩
    exact inputOvClear_gives hov hfet hmap hvbus
  · intro s e
    exact reversePolarity_gives e
  · rintro s i ⟨hstate, hmap⟩
    exact fetOpen_gives hstate hmap
  · rintro s i ⟨hstate, hcls, hdraws⟩
    exact State.tsRelease_gives hstate hcls hdraws
  · rintro s i vref ⟨hstate, hcls, hreleased, hvref, hmap⟩
    exact tsResume_gives hstate hcls hreleased hvref hmap
  · rintro s i vref ⟨hstate, hcls, hdraws, hdue, hvref, hmap⟩
    exact tsVrefRetake_gives hstate hcls hdraws hdue hvref hmap

end Sys2Proof.Machine
end

section
/-! PROOFS. Perturb and observe, sweeps and the weak group (R108 to R112, R122). -/

-- One theorem at a time: each decision by the kernel waits for all declarations before it and holds a thread meanwhile.
set_option Elab.async false

namespace Sys2Proof.Machine
namespace State

variable {s : State} {i : Fin 4}

/-! ### Fields that are set one after another -/

/-- Fields of one index set one after another. -/
def setAll (s : State) (i : Nat) (l : List (Reg × Nat)) : State := l.foldl (fun t w => t.set w.1 w.2 i) s

/-- Fields of which no later one shares a key with index `i` of an earlier one. -/
def apartAt (i : Nat) (l : List Reg) : Prop := l.Pairwise (fun a b => b.off (a.key i) = true)

theorem get_setAll_off {i : Nat} {l : List (Reg × Nat)} {r : Reg} (h : ∀ q ∈ l.map Prod.fst, q.off (r.key i) = true) :
    (s.setAll i l).get r i = s.get r i := by
  induction l generalizing s with
  | nil => rfl
  | cons w l ih =>
    rw [List.map_cons, List.forall_mem_cons] at h
    exact (ih h.2).trans (get_set_off w.2 h.1)

theorem get_setAll {i v : Nat} {l : List (Reg × Nat)} {r : Reg} (hapart : apartAt i (l.map Prod.fst)) (hm : (r, v) ∈ l) :
    (s.setAll i l).get r i = v % 2 ^ r.width := by
  induction l generalizing s with
  | nil => cases hm
  | cons w l ih =>
    obtain ⟨hfirst, hrest⟩ := List.pairwise_cons.1 hapart
    rcases List.mem_cons.1 hm with rfl | hm
    · exact (get_setAll_off hfirst).trans (get_set_self ..)
    · exact ih hrest hm

theorem on_setAll {i : Nat} {b : Bool} {l : List (Reg × Nat)} {r : Reg} (hapart : apartAt i (l.map Prod.fst))
    (hm : (r, b.toNat) ∈ l) (hw : r.width = 1) : (s.setAll i l).on r i = b := by
  rw [State.on, get_setAll hapart hm, hw]
  cases b <;> rfl

/-! ### PO_PERIOD_END (R108, R109) -/

/-- What a counted period that ends with power `p` finds (R108). -/
def poJudged (s : State) (i p : Nat) : Bool × Nat × Nat :=
  poJudge (if s.on R.X_PO_VALID i then some (s.get R.X_PO_OLD i) else none) p (s.on R.TRKn_STAT_DIR_DOWN i) (s.get R.TRKn_STEP i)
    (s.get R.TRKn_STAT_RUN i)

/-- Where such a period moves V_set, direction, step and run count (R108, R109). -/
def poMoved (s : State) (i p : Nat) : Nat × Bool × Nat × Nat :=
  poMove (s.get R.TRKn_VSET i) (s.poBounds i).1 (s.poBounds i).2 (s.poJudged i p).1 (s.poJudged i p).2.1 (s.poJudged i p).2.2

/-- What a counted period sets (R108, R113). -/
def poWrites (s : State) (i p : Nat) : List (Reg × Nat) :=
  [(R.X_PO_VALID, 1), (R.X_PO_OLD, p), (R.X_COUNTED, 1), (R.X_PCNT, p), (R.TRKn_VSET, (s.poMoved i p).1),
    (R.TRKn_STAT_DIR_DOWN, (s.poMoved i p).2.1.toNat), (R.TRKn_STEP, (s.poMoved i p).2.2.1),
    (R.TRKn_STAT_RUN, (s.poMoved i p).2.2.2)]

theorem poJudge_le {old : Option Nat} {p step run : Nat} {down : Bool} (hstep : step ≤ 100) (hrun : run < 4) :
    (poJudge old p down step run).2.1 ≤ 100 ∧ (poJudge old p down step run).2.2 < 4 := by
  unfold poJudge
  dsimp only
  split
  · exact ⟨hstep, hrun⟩
  · split_ifs <;> dsimp only <;> omega

theorem poMove_le {v lo hi step run : Nat} {down : Bool} (hstep : step ≤ 100) (hrun : run < 4) :
    (poMove v lo hi down step run).2.2.1 ≤ 100 ∧ (poMove v lo hi down step run).2.2.2 < 4 := by
  unfold poMove
  dsimp only
  split_ifs <;> dsimp only <;> omega

theorem poMoved_le {p : Nat} (hstep : s.get R.TRKn_STEP i ≤ 100) (hrun : s.get R.TRKn_STAT_RUN i < 4) :
    (s.poMoved i p).2.2.1 ≤ 100 ∧ (s.poMoved i p).2.2.2 < 4 :=
  have hjudged := poJudge_le (old := if s.on R.X_PO_VALID i then some (s.get R.X_PO_OLD i) else none) (p := p)
    (down := s.on R.TRKn_STAT_DIR_DOWN i) hstep hrun
  poMove_le hjudged.1 hjudged.2

/-- Whether a period counts (R108). -/
def poCounts (s : State) (i : Nat) (counted : Bool) : Bool :=
  counted && s.drawable i && !s.bit R.TRK_STATUS_SWEEPING i && !s.on R.X_AWAIT i

end State

section
variable {s : State} {i : Fin 4}
open State

theorem poCounts_eq (s : State) (i : Nat) (counted : Bool) :
    (!counted || !s.drawable i || s.bit R.TRK_STATUS_SWEEPING i || s.on R.X_AWAIT i) = !s.poCounts i counted := by
  simp [poCounts, Bool.not_and]

theorem exec_poPeriodEnd_counts {p : Nat} {counted : Bool} (hcls : s.cls i = 3 ∨ s.cls i = 5) (h : s.poCounts i counted = true) :
    exec (.poPeriodEnd i p counted) s = .next (s.setAll i (s.poWrites i p)) :=
  congrArg Host.Outcome.next ((if_pos hcls).trans (if_neg (by rw [poCounts_eq, h]; decide)))

theorem exec_poPeriodEnd_uncounted {p : Nat} {counted : Bool} (hcls : s.cls i = 3 ∨ s.cls i = 5)
    (h : s.poCounts i counted = false) : exec (.poPeriodEnd i p counted) s = .next (s.flag R.X_PO_VALID false i) :=
  congrArg Host.Outcome.next ((if_pos hcls).trans (if_pos (by rw [poCounts_eq, h]; decide)))

/-- The clause of O7 on PO_PERIOD_END. -/
theorem poPeriodEnd_gives {p : Nat} {counted : Bool} (hcls : s.cls i = 3 ∨ s.cls i = 5) (hp : p < 65536)
    (hstep : s.get R.TRKn_STEP i ≤ 100) (hrun : s.get R.TRKn_STAT_RUN i < 4) :
    Gives (exec (.poPeriodEnd i p counted) s) (fun t =>
      if s.poCounts i counted then
        t.on R.X_PO_VALID i ∧ t.get R.X_PO_OLD i = p ∧ t.on R.X_COUNTED i ∧ t.get R.X_PCNT i = p ∧
          t.get R.TRKn_VSET i = (s.poMoved i p).1 % 65536 ∧ t.on R.TRKn_STAT_DIR_DOWN i = (s.poMoved i p).2.1 ∧
          t.get R.TRKn_STEP i = (s.poMoved i p).2.2.1 ∧ t.get R.TRKn_STAT_RUN i = (s.poMoved i p).2.2.2
      else t.on R.X_PO_VALID i = false ∧ t.get R.TRKn_VSET i = s.get R.TRKn_VSET i ∧ t.get R.TRKn_STEP i = s.get R.TRKn_STEP i) := by
  cases h : s.poCounts i counted
  case true =>
    have hapart : ∀ i : Fin 4, apartAt i [R.X_PO_VALID, R.X_PO_OLD, R.X_COUNTED, R.X_PCNT, R.TRKn_VSET, R.TRKn_STAT_DIR_DOWN,
        R.TRKn_STEP, R.TRKn_STAT_RUN] := by
      unfold apartAt
      decide +kernel
    have hget : ∀ {r v}, (r, v) ∈ s.poWrites i p → v < 2 ^ r.width → (s.setAll i (s.poWrites i p)).get r i = v :=
      fun hm hv => (get_setAll (l := s.poWrites i p) (hapart i) hm).trans (Nat.mod_eq_of_lt hv)
    have hon : ∀ {r b}, (r, Bool.toNat b) ∈ s.poWrites i p → r.width = 1 → (s.setAll i (s.poWrites i p)).on r i = b :=
      fun hm hw => on_setAll (l := s.poWrites i p) (hapart i) hm hw
    obtain ⟨hstepNew, hrunNew⟩ := poMoved_le (p := p) hstep hrun
    exact ⟨_, exec_poPeriodEnd_counts hcls h, hon (b := true) (by simp [poWrites]) rfl,
      hget (by simp [poWrites]) (Nat.lt_trans hp (by decide)), hon (b := true) (by simp [poWrites]) rfl,
      hget (by simp [poWrites]) (Nat.lt_trans hp (by decide)),
      get_setAll (l := s.poWrites i p) (hapart i) (by simp [poWrites]), hon (by simp [poWrites]) rfl,
      hget (by simp [poWrites]) (Nat.lt_of_le_of_lt hstepNew (by decide)),
      hget (by simp [poWrites]) (Nat.lt_trans hrunNew (by decide))⟩
  case false =>
    have hoff : ∀ i : Fin 4, R.X_PO_VALID.off (R.TRKn_VSET.key i) = true ∧ R.X_PO_VALID.off (R.TRKn_STEP.key i) = true := by
      decide +kernel
    exact ⟨_, exec_poPeriodEnd_uncounted hcls h, on_flag_self _ _ _ _ (by decide), get_set_off _ (hoff i).1,
      get_set_off _ (hoff i).2⟩

/-! ### SWEEP_NOW, SWEEP_ABORT and SWEEP_COMPLETE (R111, R112) -/

/-- The clause of O7 on SWEEP_NOW. -/
theorem sweepNow_gives (hcls : s.cls i = 3) : Gives (exec (.sweepNow i) s) (fun t => t.on R.X_SWEEP_DUE i) :=
  ⟨_, congrArg Host.Outcome.next (if_pos hcls), on_flag_self _ _ _ _ (by decide)⟩

/-- The latch of an abandoned sweep leaves the tracking of the input (R112). -/
theorem sweepAbort_apart : ∀ i : Fin 4, ∀ r ∈ [R.TRKn_VSET, R.TRKn_STAT_STYLE],
    keeps (Foot.latchStand R.TRK_FAULT_SWEEP_ABORT) (.key (r.key i)) = true ∧ R.X_PO_VALID.off (r.key i) = true := by decide +kernel

theorem exec_sweepAbort (h : s.bit R.TRK_STATUS_SWEEPING i = true) : exec (.sweepAbort i) s =
    .next (((((s.setBit R.TRK_STATUS_SWEEPING i false).set R.TRKn_VSET (s.get R.X_VSET_OLD i) i).set R.TRKn_STAT_STYLE 1 i).flag
      R.X_PO_VALID false i).latchStand R.TRK_FAULT_SWEEP_ABORT i) :=
  congrArg Host.Outcome.next (if_pos h)

/-- The clause of O7 on SWEEP_ABORT. -/
theorem sweepAbort_gives (h : s.bit R.TRK_STATUS_SWEEPING i = true) : Gives (exec (.sweepAbort i) s) (fun t =>
    t.bit R.TRK_STATUS_SWEEPING i = false ∧ t.get R.TRKn_VSET i = s.get R.X_VSET_OLD i ∧ t.get R.TRKn_STAT_STYLE i = 1 ∧
      t.bit R.TRK_FAULT_SWEEP_ABORT i) := by
  have hvset : ∀ i : Fin 4, R.TRKn_STAT_STYLE.off (R.TRKn_VSET.key i) = true := by decide +kernel
  refine ⟨_, exec_sweepAbort h, ?_, ?_, ?_, bit_latchStand i.isLt (by decide +kernel)⟩
  · exact ((((within_set.trans within_set).trans within_flag).trans within_latchStand).bit (by decide +kernel)).trans
      (bit_setBit_self false 0 i.isLt)
  · obtain ⟨hlatch, hvalid⟩ := sweepAbort_apart i R.TRKn_VSET (by simp)
    rw [within_latchStand.get hlatch, State.flag, get_set_off _ hvalid, get_set_off _ (hvset i)]
    exact get_set_fit i (get_lt ..)
  · obtain ⟨hlatch, hvalid⟩ := sweepAbort_apart i R.TRKn_STAT_STYLE (by simp)
    rw [within_latchStand.get hlatch, State.flag, get_set_off _ hvalid]
    exact get_set_fit i (by decide)

/-- What a completed sweep finds of its input (R111). -/
def State.sweepFinds (s : State) (voc : Nat) (powers : List Nat) : List (Reg × Nat) :=
  let best := bestStep (powers.take 64) 0 (0, 0)
  let v := sweepStep voc best.1
  [(R.TRKn_VSET, v), (R.TRKn_STEP, s.get R.TRK_STEP_INIT), (R.TRKn_VMP, v), (R.TRKn_PMP, min best.2 65535), (R.X_SWEEP_VOC, voc),
    (R.X_SWEPT, 1)]

/-- What it starts again: its age, the comparison of powers, the wait for the first sweep, the style (R108, R110, R111). -/
def State.sweepEnds (s : State) : List (Reg × Nat) :=
  [(R.X_SWEEP_EVER, 1), (R.X_SWEEP_AT, s.now), (R.X_PO_VALID, 0), (R.X_AWAIT, 0), (R.TRKn_STAT_STYLE, 1)]

/-- An input whose sweep has completed, but for the mark of the sweep itself. -/
def State.swept (s : State) (i voc : Nat) (powers : List Nat) : State :=
  (s.setAll i (s.sweepFinds voc powers)).setAll i (s.setAll i (s.sweepFinds voc powers)).sweepEnds

theorem exec_sweepComplete {voc : Nat} {powers : List Nat} (h : s.bit R.TRK_STATUS_SWEEPING i = true) :
    exec (.sweepComplete i voc powers) s =
      .next (((s.swept i voc powers).setBit R.TRK_STATUS_SWEEPING i false).ended R.TRK_FAULT_SWEEP_ABORT i) :=
  congrArg Host.Outcome.next (if_pos h)

theorem get_swept {voc v : Nat} {powers : List Nat} {r : Reg} (hr : r ∈ [R.X_SWEEP_VOC, R.X_SWEPT, R.TRKn_STEP])
    (hm : (r, v) ∈ s.sweepFinds voc powers) (hv : v < 2 ^ r.width) : (s.swept i voc powers).get r i = v := by
  have hfinds : ∀ i : Fin 4, apartAt i [R.TRKn_VSET, R.TRKn_STEP, R.TRKn_VMP, R.TRKn_PMP, R.X_SWEEP_VOC, R.X_SWEPT] := by
    unfold apartAt
    decide +kernel
  have hends : ∀ i : Fin 4, ∀ r ∈ [R.X_SWEEP_VOC, R.X_SWEPT, R.TRKn_STEP],
      ∀ q ∈ [R.X_SWEEP_EVER, R.X_SWEEP_AT, R.X_PO_VALID, R.X_AWAIT, R.TRKn_STAT_STYLE], q.off (r.key i) = true := by
    decide +kernel
  exact (get_setAll_off (l := State.sweepEnds _) (hends i r hr)).trans
    ((get_setAll (l := s.sweepFinds voc powers) (hfinds i) hm).trans (Nat.mod_eq_of_lt hv))

theorem style_swept {voc : Nat} {powers : List Nat} : (s.swept i voc powers).get R.TRKn_STAT_STYLE i = 1 := by
  have hapart : ∀ i : Fin 4, apartAt i [R.X_SWEEP_EVER, R.X_SWEEP_AT, R.X_PO_VALID, R.X_AWAIT, R.TRKn_STAT_STYLE] := by
    unfold apartAt
    decide +kernel
  exact get_setAll (v := 1) (l := State.sweepEnds _) (hapart i) (by simp [State.sweepEnds])

/-- The clause of O7 on SWEEP_COMPLETE. -/
theorem sweepComplete_gives {voc : Nat} {powers : List Nat} (h : s.bit R.TRK_STATUS_SWEEPING i = true) (hvoc : voc < 65536) :
    Gives (exec (.sweepComplete i voc powers) s) (fun t =>
      t.bit R.TRK_STATUS_SWEEPING i = false ∧ t.get R.TRKn_STAT_STYLE i = 1 ∧ t.get R.X_SWEEP_VOC i = voc ∧ t.on R.X_SWEPT i ∧
        t.get R.TRKn_STEP i = s.get R.TRK_STEP_INIT) := by
  have hoff : ∀ i : Fin 4, ∀ r ∈ [R.TRKn_STAT_STYLE, R.X_SWEEP_VOC, R.X_SWEPT, R.TRKn_STEP],
      keeps ([.reg R.TRK_STATUS_SWEEPING] ++ Foot.ended) (.key (r.key i)) = true := by decide +kernel
  have hend : within ([.reg R.TRK_STATUS_SWEEPING] ++ Foot.ended) (s.swept i voc powers)
      (((s.swept i voc powers).setBit R.TRK_STATUS_SWEEPING i false).ended R.TRK_FAULT_SWEEP_ABORT i) :=
    within_setBit.trans within_ended
  refine ⟨_, exec_sweepComplete h, ?_, ?_, ?_, ?_, ?_⟩
  · exact (within_ended.bit (by decide +kernel)).trans (bit_setBit_self false 0 i.isLt)
  · exact (hend.get (hoff i _ (by simp))).trans style_swept
  · exact (hend.get (hoff i _ (by simp))).trans (get_swept (by simp) (by simp [State.sweepFinds]) hvoc)
  · rw [hend.on (hoff i _ (by simp)), State.on, get_swept (v := 1) (by simp) (by simp [State.sweepFinds]) (by decide)]
    decide
  · exact (hend.get (hoff i _ (by simp))).trans (get_swept (by simp) (by simp [State.sweepFinds]) (get_lt ..))

/-! ### TRK_WEAK (R122) -/

/-- The clause of O7 on TRK_WEAK. -/
theorem trkWeak_gives (hcls : s.cls i = 1 ∨ s.cls i = 4 ∨ s.cls i = 6) (hgov : s.on R.TRKn_STAT_GOVERNED i = true) :
    Gives (exec (.trkWeak i) s) (fun t => t.bit R.TRK_FAULT_WEAK i ∧ t.stands R.TRK_FAULT_WEAK i) :=
  have hcond : ∀ i : Fin 4, R.TRK_FAULT_WEAK.lo + i < R.X_COND.width := by decide
  ⟨_, congrArg Host.Outcome.next (if_pos ⟨hcls, hgov⟩), bit_latchStand i.isLt (by decide +kernel),
    stands_latchStand (hcond i) (by decide +kernel)⟩

end
end Sys2Proof.Machine
end

section
/-! PROOFS. What the allocator reads (R113 to R120), and the states in which a group that does not switch is at rest (R125, R131). -/

-- One theorem at a time: each decision by the kernel waits for all declarations before it and holds a thread meanwhile.
set_option Elab.async false

namespace Sys2Proof.Machine

theorem moveCeiling_lt {old want up down n : Nat} (hold : old < n) (hwant : want < n) : moveCeiling old want up down < n := by
  unfold moveCeiling
  split <;> omega

namespace State

variable {s t u : State} {l : List Touch}

/-! ### Loops over indices -/

/-- What a loop leaves of a value that one turn alone changes: what that turn makes of it. -/
theorem each_at {α : Type} {I : State → Prop} {val : State → α} {n i : Nat} {f : Nat → State → State} (hi : i < n) (hs : I s)
    (hkeep : ∀ j t, j < n → I t → I (f j t)) (hother : ∀ j t, j < n → j ≠ i → I t → val (f j t) = val t) :
    ∃ t, I t ∧ val t = val s ∧ val (s.each n f) = val (f i t) := by
  induction n with
  | zero => omega
  | succ n ih =>
    have hbefore : I (s.each n f) := each_keeps hs fun j t hj => hkeep j t (by omega)
    rw [each_succ]
    by_cases h : i = n
    · subst h
      have hval : I (s.each i f) ∧ val (s.each i f) = val s := each_keeps (Q := fun t => I t ∧ val t = val s) ⟨hs, rfl⟩
        fun j t hj ht => ⟨hkeep j t (by omega) ht.1, (hother j t (by omega) (by omega) ht.1).trans ht.2⟩
      exact ⟨_, hval.1, hval.2, rfl⟩
    · obtain ⟨t, ht, hval, hturn⟩ := ih (by omega) (fun j t hj => hkeep j t (by omega)) fun j t hj => hother j t (by omega)
      exact ⟨t, ht, hval, (hother n _ (by omega) (Ne.symm h) hbefore).trans hturn⟩

/-! ### What the allocator reads -/

/-- The fields that the allocator reads, but for the states of the groups and whether they are governed. -/
def allocRegs : List Reg :=
  [R.INn_STAT_STATE, R.IN_STATUS_PRESENT, R.IN_STATUS_TS_RELEASED, R.X_RETAKE, R.X_DORMANT, R.X_RETRY, R.MODE_STATUS_MODE,
    R.X_AWAIT, R.TRK_STATUS_SWEEPING, R.INn_STAT_CLASS, R.X_COUNTED, R.X_PCNT, R.TRKn_VSET, R.INn_LIM_EFF,
    R.MODE_STATUS_COUPLED, R.X_SVC_GROUPS, R.X_PRIO, R.TRK_ETA, R.TRK_MARGIN, R.CHG_I_TARGET, R.CHG_I_SET, R.CHG_HOLD_TEMP,
    R.CHG_HOLD_BMSOK, R.CHG_HOLD_SUSPEND, R.CHG_HOLD_RIDE, R.CHG_T_MIN, R.CHG_T_COLD_END, R.CHG_COLD_SCALE, R.CHG_T_COLD_NOW,
    R.THM_FB_FACTOR, R.CHG_EDGE_RAMP, R.PP_STATUS_ROLE, R.PP_STATUS_BAT, R.PP_FAULT_BAT_LOST]

/-- Whether a footprint leaves fields at every index. -/
def sparesRegs (l : List Touch) (rs : List Reg) : Bool :=
  rs.all (fun r => r.count != 0 && (List.range r.count).all (fun i => Machine.keeps l (.key (r.key i))))

theorem within.gets {rs : List Reg} (h : within l s t) (hoff : sparesRegs l rs = true) : ∀ r ∈ rs, ∀ i, t.get r i = s.get r i := by
  intro r hr i
  have hreg := List.all_eq_true.1 hoff r hr
  rw [Bool.and_eq_true] at hreg
  exact h.get (apart_keeps (by simpa using hreg.1) hreg.2 i)

/-- What the allocator reads is as it was: the fields, which groups are unavailable and which are governed. -/
structure allocAsBefore (s t : State) : Prop where
  fields : ∀ r ∈ allocRegs, ∀ i, t.get r i = s.get r i
  unavailable : ∀ g, t.gstate g = 6 ↔ s.gstate g = 6
  governed : ∀ g, t.on R.TRKn_STAT_GOVERNED g = s.on R.TRKn_STAT_GOVERNED g

namespace allocAsBefore

theorem refl : allocAsBefore s s := ⟨fun _ _ _ => rfl, fun _ => Iff.rfl, fun _ => rfl⟩

theorem trans (h : allocAsBefore s t) (h' : allocAsBefore t u) : allocAsBefore s u :=
  ⟨fun r hr i => (h'.fields r hr i).trans (h.fields r hr i), fun g => (h'.unavailable g).trans (h.unavailable g),
    fun g => (h'.governed g).trans (h.governed g)⟩

theorem of_within (h : within l s t)
    (hoff : sparesRegs l (allocRegs ++ [R.CNV_Gg_STAT_STATE, R.TRKn_STAT_GOVERNED]) = true) : allocAsBefore s t := by
  have hget := h.gets hoff
  refine ⟨fun r hr => hget r (by simp [hr]), fun g => ?_, fun g => ?_⟩
  · rw [State.gstate, State.gstate, hget _ (by simp)]
  · rw [State.on, State.on, hget _ (by simp)]

variable (h : allocAsBefore s t)
include h

theorem on {r : Reg} (hr : r ∈ allocRegs) (i : Nat) : t.on r i = s.on r i := by rw [State.on, State.on, h.fields r hr]

theorem bit {r : Reg} (hr : r ∈ allocRegs) (b i : Nat) : t.bit r b i = s.bit r b i := by rw [State.bit, State.bit, h.fields r hr]

theorem getS {r : Reg} (hr : r ∈ allocRegs) (i : Nat) : t.getS r i = s.getS r i := by rw [State.getS, State.getS, h.fields r hr]

theorem cls : t.cls = s.cls := funext fun i => h.fields R.INn_STAT_CLASS (by simp [allocRegs]) i

theorem instate : t.instate = s.instate := funext fun i => h.fields R.INn_STAT_STATE (by simp [allocRegs]) i

theorem retrying : t.retrying = s.retrying := by
  rw [State.retrying, State.retrying, h.fields R.X_RETRY (by simp [allocRegs]), h.fields R.MODE_STATUS_MODE (by simp [allocRegs])]

theorem retryOf : t.retryOf = s.retryOf := by
  funext i
  simp only [State.retryOf, h.retrying, h.bit (r := R.X_RETRY) (by simp [allocRegs]), h.on (r := R.X_DORMANT) (by simp [allocRegs])]

theorem drawable : t.drawable = s.drawable := by
  funext i
  have hstate : (t.gstate i != 6) = (s.gstate i != 6) := by
    rw [Bool.eq_iff_iff, bne_iff_ne, bne_iff_ne, ne_eq, ne_eq, h.unavailable]
  simp only [State.drawable, State.present, h.instate, h.retryOf, hstate, h.bit (r := R.IN_STATUS_PRESENT) (by simp [allocRegs]),
    h.bit (r := R.IN_STATUS_TS_RELEASED) (by simp [allocRegs]), h.on (r := R.X_RETAKE) (by simp [allocRegs]),
    h.on (r := R.X_DORMANT) (by simp [allocRegs])]

theorem allowed : t.allowed = s.allowed := by
  funext i
  simp only [State.allowed, State.harvestSource, h.cls, h.fields R.MODE_STATUS_MODE (by simp [allocRegs]),
    h.on (r := R.MODE_STATUS_COUPLED) (by simp [allocRegs]), h.bit (r := R.X_SVC_GROUPS) (by simp [allocRegs])]

theorem capability : t.capability = s.capability := by
  funext i pin ins
  simp only [State.capability, h.drawable, h.cls, h.governed, h.bit (r := R.TRK_STATUS_SWEEPING) (by simp [allocRegs]),
    h.on (r := R.X_DORMANT) (by simp [allocRegs]), h.on (r := R.X_AWAIT) (by simp [allocRegs]),
    h.on (r := R.X_COUNTED) (by simp [allocRegs]), h.fields R.X_PCNT (by simp [allocRegs]),
    h.fields R.TRKn_VSET (by simp [allocRegs]), h.fields R.INn_LIM_EFF (by simp [allocRegs])]

theorem ordered : t.ordered = s.ordered := by
  simp only [State.ordered, h.cls, h.fields R.X_PRIO (by simp [allocRegs])]

theorem coldScale : t.coldScale = s.coldScale := by
  unfold State.coldScale State.tCold
  rw [h.getS (r := R.CHG_T_MIN) (by simp [allocRegs]), h.getS (r := R.CHG_T_COLD_END) (by simp [allocRegs]),
    h.getS (r := R.CHG_T_COLD_NOW) (by simp [allocRegs]), h.fields R.CHG_COLD_SCALE (by simp [allocRegs])]

theorem holding : t.holding = s.holding := by
  simp only [State.holding, h.on (r := R.CHG_HOLD_TEMP) (by simp [allocRegs]), h.on (r := R.CHG_HOLD_BMSOK) (by simp [allocRegs]),
    h.on (r := R.CHG_HOLD_SUSPEND) (by simp [allocRegs]), h.on (r := R.CHG_HOLD_RIDE) (by simp [allocRegs])]

theorem allocTarget : t.allocTarget = s.allocTarget := by
  unfold State.allocTarget State.iCap State.iFb
  rw [h.retrying, h.holding, h.coldScale, h.on (r := R.CHG_HOLD_TEMP) (by simp [allocRegs]),
    h.fields R.CHG_I_TARGET (by simp [allocRegs]), h.fields R.CHG_I_SET (by simp [allocRegs]),
    h.fields R.THM_FB_FACTOR (by simp [allocRegs])]

theorem pLoad : t.pLoad = s.pLoad := by
  funext pin vbat ibat
  simp only [State.pLoad, h.fields R.TRK_ETA (by simp [allocRegs])]

theorem demandD : t.demandD = s.demandD := by
  funext pin vbat ibat
  simp only [State.demandD, h.pLoad, h.allocTarget, h.fields R.TRK_ETA (by simp [allocRegs])]

theorem shares : t.shares = s.shares := by
  funext pin ins vbat ibat
  simp only [State.shares, h.capability, h.ordered, h.allowed, h.demandD]

theorem wanted : t.wanted = s.wanted := by
  funext pairs ins g
  unfold State.wanted
  simp only [h.drawable, h.retrying, h.retryOf, h.allowed, h.bit (r := R.TRK_STATUS_SWEEPING) (by simp [allocRegs]),
    h.fields R.INn_LIM_EFF (by simp [allocRegs]), h.fields R.TRK_MARGIN (by simp [allocRegs])]

theorem probing : t.probing = s.probing := by
  simp only [State.probing, h.instate]

theorem edgeStep : t.edgeStep = s.edgeStep := by
  rw [State.edgeStep, State.edgeStep, h.fields R.CHG_EDGE_RAMP (by simp [allocRegs])]

theorem supplements : t.supplements = s.supplements := by
  simp only [State.supplements, h.fields R.PP_STATUS_ROLE (by simp [allocRegs]),
    h.fields R.PP_STATUS_BAT (by simp [allocRegs]), h.on (r := R.PP_FAULT_BAT_LOST) (by simp [allocRegs])]

theorem riseStep : t.riseStep = s.riseStep := by
  rw [State.riseStep, State.riseStep, h.supplements, h.edgeStep]

end allocAsBefore

/-! ### Groups at rest -/

/-- Whether a group is STOPPED or in ON_DELAY (R158). -/
def atRest (s : State) (g : Nat) : Prop := s.gstate g < 2

/-- No map is held, and a group that is STOPPED or in ON_DELAY is not governed (R125) and has a phase that can switch (R131). -/
structure settled (s : State) : Prop where
  map : s.noMap
  loop : ∀ g : Fin 4, s.atRest g → s.on R.TRKn_STAT_GOVERNED g = false
  phase : ∀ g : Fin 4, s.atRest g → s.usable g ≠ []

theorem usable_of_gets (h : ∀ r ∈ [R.CNV_PHn_STAT_GROUP, R.CNV_PHn_STAT_EXCLUDED], ∀ p, t.get r p = s.get r p) :
    t.usable = s.usable := by
  funext g
  simp only [State.usable, State.phasesOf, State.on, h R.CNV_PHn_STAT_GROUP (by simp), h R.CNV_PHn_STAT_EXCLUDED (by simp)]

/-- What says that a state is settled, but for the states of the groups and whether they are governed. -/
def restRegs : List Reg := [R.CNV_STATUS_CFG_PENDING, R.CNV_PHn_STAT_GROUP, R.CNV_PHn_STAT_EXCLUDED]

namespace settled

/-- A state stays settled where a group that is at rest afterwards is not governed and had a phase that can switch. -/
theorem of_gets (hs : settled s) (h : ∀ r ∈ restRegs, ∀ i, t.get r i = s.get r i)
    (hgroup : ∀ g : Fin 4, t.atRest g → t.on R.TRKn_STAT_GOVERNED g = false ∧ s.usable g ≠ []) : settled t := by
  have husable := usable_of_gets (s := s) (t := t) fun r hr => h r (by
    rw [restRegs]
    exact List.mem_cons_of_mem _ hr)
  refine ⟨?_, fun g hg => (hgroup g hg).1, fun g hg => husable ▸ (hgroup g hg).2⟩
  rw [noMap, State.on, h _ (by simp [restRegs])]
  exact hs.map

theorem of_within (hs : settled s) (h : within l s t)
    (hoff : sparesRegs l (restRegs ++ [R.CNV_Gg_STAT_STATE, R.TRKn_STAT_GOVERNED]) = true) : settled t := by
  have hget := h.gets hoff
  refine hs.of_gets (fun r hr => hget r (by simp [hr])) fun g hg => ?_
  rw [State.atRest, State.gstate, hget _ (by simp)] at hg
  rw [State.on, hget _ (by simp)]
  exact ⟨hs.loop g hg, hs.phase g hg⟩

theorem ite {c : Prop} [Decidable c] (ht : settled t) (hu : settled u) : settled (if c then t else u) := by
  split <;> assumption

end settled

/-- The states of two groups are two fields, and so is whether they are governed, and their ceilings. -/
theorem groups_apart : ∀ g h : Fin 4, h ≠ g → R.CNV_Gg_STAT_STATE.key h ≠ R.CNV_Gg_STAT_STATE.key g ∧
    R.TRKn_STAT_GOVERNED.key h ≠ R.TRKn_STAT_GOVERNED.key g ∧ R.TRKn_ALLOC.key h ≠ R.TRKn_ALLOC.key g := by decide +kernel

theorem gstate_toOnDelay {g : Fin 4} : (s.toOnDelay g).gstate g = 1 := by
  have hoff : ∀ g : Fin 4, R.X_BOOT.off (R.CNV_Gg_STAT_STATE.key g) = true := by decide +kernel
  exact (get_set_off _ (hoff g)).trans (get_set_fit g (by decide))

theorem gstate_toOnDelay_other {g h : Fin 4} (hne : h ≠ g) : (s.toOnDelay g).gstate h = s.gstate h := by
  have hoff : ∀ g : Fin 4, R.X_BOOT.off (R.CNV_Gg_STAT_STATE.key g) = true := by decide +kernel
  exact (get_set_off _ (hoff h)).trans (get_set_ne _ (groups_apart g h hne).1)

theorem settled.toOnDelay (hs : settled s) {g : Fin 4} (hstopped : s.gstate g = 0) : settled (s.toOnDelay g) := by
  have hget := (within_toOnDelay (s := s) (g := g)).gets (rs := restRegs ++ [R.TRKn_STAT_GOVERNED]) (by decide +kernel)
  refine hs.of_gets (fun r hr => hget r (by simp [hr])) fun h hrest => ?_
  have hbefore : s.atRest h := by
    by_cases hgh : h = g
    · rw [State.atRest, hgh, hstopped]
      decide
    · rwa [State.atRest, gstate_toOnDelay_other hgh] at hrest
  rw [State.on, hget _ (by simp)]
  exact ⟨hs.loop h hbefore, hs.phase h hbefore⟩

theorem settled.needP3 (hs : settled s) : settled s.needP3 := by
  have hslice : settled (s.abortSlice 0x08) := hs.of_within within_abortSlice (by decide +kernel)
  unfold State.needP3 State.endP3Window
  refine settled.ite (each_keeps (hslice.of_within (within_abortSlice.trans within_flag) (by decide +kernel)) fun g t hg ht => ?_) hslice
  split
  case isTrue hstopped => exact ht.toOnDelay (g := ⟨g, hg⟩) hstopped.1
  case isFalse => exact ht

end State
end Sys2Proof.Machine
end

section
/-! PROOFS. An allocator update before the allocator itself (R97, R107, R111, R164, R167): what it measures, and that the groups stay
settled through what the charge sequencer does. -/

-- One theorem at a time: each decision by the kernel waits for all declarations before it and holds a thread meanwhile.
set_option Elab.async false

namespace Sys2Proof.Machine
namespace State

variable {s t u : State} {pin ins : Quad}

/-! ### The charge sequencer -/

/-- What the charge sequencer sets as it enters a state, once P3 is free (R163). -/
def enterFoot : List Touch := touches [R.CHG_STATUS_STATE, R.X_PRE_S, R.X_MAINT_LOW, R.X_PULSE_OVER, R.X_TO_IDLE, R.X_CHG_WAIT,
  R.X_PULSE, R.X_CHG_PP] [] [Foot.chgTargets]

theorem within_chgSet {st : Nat} : within enterFoot s.needP3 (s.chgSet st) := by
  intro q hq
  simp [enterFoot, and_assoc] at hq
  obtain ⟨hstate, hpre, hlow, hover, hidle, hwait, hpulse, hpp, htargets⟩ := hq
  refine Part.same_chgTargets (Part.same_iff (Part.same_iff (Part.same_iff (Part.same_iff (Part.same_set Part.same_refl hstate)
    fun _ hv => ?_) fun _ hv => ?_) fun _ hv => ?_) fun _ hv => ?_) htargets
  · exact Part.same_clear hv hpre
  · exact Part.same_clear hv hlow
  · exact Part.same_flag (Part.same_flag (Part.same_flag (Part.same_flag hv hpulse) hwait) hidle) hover
  · exact Part.same_flag hv hpp

namespace settled

theorem chgTargets (hs : settled s) : settled s.chgTargets :=
  hs.of_within (fun _ => Part.same_chgTargets Part.same_refl) (by decide +kernel)

theorem chgSet (hs : settled s) (st : Nat) : settled (s.chgSet st) :=
  hs.needP3.of_within within_chgSet (by decide +kernel)

theorem chgTo (hs : settled s) (st : Nat) : settled (s.chgTo st) := by
  have hcut : settled s.cutRest := hs.of_within (fun _ => Part.same_cutRest Part.same_refl) (by decide +kernel)
  unfold State.chgTo
  refine ite hs.chgTargets (ite (hs.chgSet st) ?_)
  exact (hcut.chgSet st).of_within (fun _ => Part.same_pulseRecord Part.same_refl) (by decide +kernel)

theorem equaliseFollow (hs : settled s) : settled s.equaliseFollow := by
  unfold State.equaliseFollow
  refine ite (ite ?_ (ite hs (hs.chgTo _))) hs
  exact (hs.chgTo _).of_within (fun _ => Part.same_latch Part.same_refl) (by decide +kernel)

theorem chgIdle (hs : settled s) : settled s.chgIdle := by
  unfold State.chgIdle
  exact ite (hs.of_within within_flag (by decide +kernel)).chgTargets (hs.chgTo 1)

theorem chgFollow (hs : settled s) : settled s.chgFollow := by
  unfold State.chgFollow
  exact ite (ite hs.chgTargets (hs.chgTo 0)) (ite (hs.chgTo 1) (ite hs.chgTargets (ite (ite (hs.chgTo 2) hs.chgTargets)
    (ite hs.equaliseFollow.chgTargets hs.equaliseFollow.chgIdle))))

theorem leaveIdle (hs : settled s) : settled s.leaveIdle := by
  unfold State.leaveIdle
  exact ite (hs.chgTo 2) hs

theorem pulseFall (hs : settled s) : settled s.pulseFall := by
  unfold State.pulseFall
  exact ite (ite (hs.chgTo 1) (hs.chgSet _)) hs

end settled

/-! ### What is measured, and the charge sequencer's part -/

/-- One input's measurement at an allocator update (R121). -/
def measureInput (s : State) (pin ins : Quad) (i : Nat) : State :=
  ((s.set R.TRKn_PIN (min (pin.at i) 65535) i).set R.INn_V (ins.at i) i).updateLimit i

/-- The measurements of all inputs. -/
def measured (s : State) (pin ins : Quad) : State := s.each 4 (fun i t => t.measureInput pin ins i)

/-- An allocator update before capability is taken: measurements, the charge sequencer, floors and sweeps that fall due. -/
def allocPrepared (s : State) (pin ins : Quad) (vbat : Int) (sys : Nat) : State :=
  (((s.measured pin ins).set R.X_SYSS sys).set R.X_BATS vbat.toNat).chgFollow.leaveIdle.chgRamp.pulseFall.trackFollow

/-- What the measurement of an input changes. -/
def measureFoot : List Touch := [.reg R.TRKn_PIN] ++ [.reg R.INn_V] ++ Foot.updateLimit

theorem within_measureInput {i : Nat} : within measureFoot s (s.measureInput pin ins i) :=
  (within_set.trans within_set).trans fun _ => Part.same_updateLimit Part.same_refl

theorem within_measured : within measureFoot s (s.measured pin ins) :=
  each_keeps within_refl fun _ _ _ ht => ht.chain within_measureInput

/-- What the charge sequencer changes at an allocator update, with the floors and the sweeps that fall due. -/
def sequencerFoot : List Touch := [.reg R.X_BATS] ++ Foot.chgFollow ++ Foot.leaveIdle ++ Foot.chgRamp ++ Foot.pulseFall ++ Foot.trackFollow

theorem within_sequencer {vbat : Int} {sys : Nat} :
    within sequencerFoot ((s.measured pin ins).set R.X_SYSS sys) (s.allocPrepared pin ins vbat sys) :=
  ((((within_set.trans fun _ => Part.same_chgFollow Part.same_refl).trans fun _ => Part.same_leaveIdle Part.same_refl).trans
    fun _ => Part.same_chgRamp Part.same_refl).trans fun _ => Part.same_pulseFall Part.same_refl).trans
    fun _ => Part.same_trackFollow Part.same_refl

/-- What an allocator update changes before capability is taken. -/
def allocPreparedFoot : List Touch := measureFoot ++ [.reg R.X_SYSS] ++ sequencerFoot

theorem within_allocPrepared {vbat : Int} {sys : Nat} : within allocPreparedFoot s (s.allocPrepared pin ins vbat sys) :=
  (within_measured.trans within_set).trans within_sequencer

theorem settled.allocPrepared (hs : settled s) {vbat : Int} {sys : Nat} : settled (s.allocPrepared pin ins vbat sys) := by
  have hmeasured : settled (((s.measured pin ins).set R.X_SYSS sys).set R.X_BATS vbat.toNat) :=
    hs.of_within ((within_measured.trans within_set).trans within_set) (by decide +kernel)
  exact ((hmeasured.chgFollow.leaveIdle.of_within (fun _ => Part.same_chgRamp Part.same_refl) (by decide +kernel)).pulseFall).of_within
    (fun _ => Part.same_trackFollow Part.same_refl) (by decide +kernel)

/-! ### The figures of an input -/

theorem limEff_eq {l : List Touch} (h : within l s t) {i : Nat} (hclass : Machine.keeps l (.key (R.INn_STAT_CLASS.key i)) = true)
    (hlimit : Machine.keeps l (.key (R.INn_LIMIT.key i)) = true) : t.limEff i = s.limEff i := by
  simp only [State.limEff, State.cls, h.get hclass, h.get hlimit]

/-- A limit in force is at most 100 A (R92). -/
theorem limEff_le (i : Nat) : s.limEff i ≤ 4000 := by
  have hclass : ∀ c, (classLimit c).1 ≤ 4000 ∧ (classLimit c).2 ≤ 4000 := by
    intro c
    unfold classLimit
    split <;> decide
  obtain ⟨hdefault, htop⟩ := hclass (s.cls i)
  unfold State.limEff
  dsimp only
  split <;> omega

/-- Figures of an input: the power and the voltage measured, and the limit in force. -/
def figureRegs : List Reg := [R.TRKn_PIN, R.INn_V, R.INn_LIM_EFF]

theorem figures_apart : ∀ i j : Fin 4, j ≠ i → ∀ r ∈ figureRegs, ∀ q ∈ figureRegs, r.key i ≠ q.key j := by decide +kernel

theorem get_measureInput_other {i j : Fin 4} (hne : j ≠ i) {r : Reg} (hr : r ∈ figureRegs) :
    (s.measureInput pin ins j).get r i = s.get r i := by
  have hkey := figures_apart i j hne r hr
  rw [measureInput, State.updateLimit, get_set_ne _ (hkey _ (by simp [figureRegs])), get_set_ne _ (hkey _ (by simp [figureRegs])),
    get_set_ne _ (hkey _ (by simp [figureRegs]))]

theorem get_measureInput {i : Fin 4} (hins : ins.at i < 65536) : (s.measureInput pin ins i).get R.TRKn_PIN i = min (pin.at i) 65535 ∧
    (s.measureInput pin ins i).get R.INn_V i = ins.at i ∧ (s.measureInput pin ins i).get R.INn_LIM_EFF i = s.limEff i := by
  have hoff : ∀ i : Fin 4, R.INn_V.off (R.TRKn_PIN.key i) = true ∧ R.INn_LIM_EFF.off (R.TRKn_PIN.key i) = true ∧
      R.INn_LIM_EFF.off (R.INn_V.key i) = true ∧
      ∀ r ∈ [R.INn_STAT_CLASS, R.INn_LIMIT], Machine.keeps ([.reg R.TRKn_PIN] ++ [.reg R.INn_V]) (.key (r.key i)) = true := by
    decide +kernel
  obtain ⟨hpin, hpinLimit, hvolts, hlimit⟩ := hoff i
  have hsame : ((s.set R.TRKn_PIN (min (pin.at i) 65535) i).set R.INn_V (ins.at i) i).limEff i = s.limEff i :=
    limEff_eq (within_set.trans within_set) (hlimit _ (by simp)) (hlimit _ (by simp))
  refine ⟨?_, ?_, ?_⟩
  · rw [measureInput, State.updateLimit, get_set_off _ hpinLimit, get_set_off _ hpin]
    exact get_set_fit i (by change _ < 65536; omega)
  · rw [measureInput, State.updateLimit, get_set_off _ hvolts]
    exact get_set_fit i hins
  · rw [measureInput, State.updateLimit, hsame]
    exact get_set_fit i (Nat.lt_of_le_of_lt (limEff_le i) (by decide))

theorem figures_measured (i : Fin 4) (hins : ins.at i < 65536) : (s.measured pin ins).get R.TRKn_PIN i = min (pin.at i) 65535 ∧
    (s.measured pin ins).get R.INn_V i = ins.at i ∧ (s.measured pin ins).get R.INn_LIM_EFF i = s.limEff i := by
  have hoff : ∀ i : Fin 4, ∀ r ∈ [R.INn_STAT_CLASS, R.INn_LIMIT], Machine.keeps measureFoot (.key (r.key i)) = true := by
    decide +kernel
  obtain ⟨t, ht, -, hturn⟩ := each_at (I := within measureFoot s)
    (val := fun t => (t.get R.TRKn_PIN i, t.get R.INn_V i, t.get R.INn_LIM_EFF i)) (n := 4)
    (f := fun i t => t.measureInput pin ins i) i.isLt within_refl (fun _ _ _ ht => ht.chain within_measureInput)
    fun j t hj hne _ => by
      have hne' : (⟨j, hj⟩ : Fin 4) ≠ i := fun h => hne (congrArg Fin.val h)
      rw [get_measureInput_other (j := ⟨j, hj⟩) hne' (r := R.TRKn_PIN) (by simp [figureRegs]),
        get_measureInput_other (j := ⟨j, hj⟩) hne' (r := R.INn_V) (by simp [figureRegs]),
        get_measureInput_other (j := ⟨j, hj⟩) hne' (r := R.INn_LIM_EFF) (by simp [figureRegs])]
  obtain ⟨hpin, hvolts, hlimit⟩ := get_measureInput (s := t) (pin := pin) hins
  rw [Prod.mk.injEq, Prod.mk.injEq] at hturn
  obtain ⟨hpinTurn, hvoltsTurn, hlimitTurn⟩ := hturn
  exact ⟨hpinTurn.trans hpin, hvoltsTurn.trans hvolts, hlimitTurn.trans <| hlimit.trans <|
    limEff_eq ht (hoff i _ (by simp)) (hoff i _ (by simp))⟩

/-- The figures of an input, and SYSS, as the allocator finds them. -/
theorem figures_allocPrepared (i : Fin 4) {vbat : Int} {sys : Nat} (hins : ins.at i < 65536) (hsys : sys < 65536) :
    (s.allocPrepared pin ins vbat sys).get R.TRKn_PIN i = min (pin.at i) 65535 ∧
      (s.allocPrepared pin ins vbat sys).get R.INn_V i = ins.at i ∧
      (s.allocPrepared pin ins vbat sys).get R.INn_LIM_EFF i = s.limEff i ∧ (s.allocPrepared pin ins vbat sys).get R.X_SYSS = sys := by
  have hoff : ∀ i : Fin 4, ∀ r ∈ figureRegs, Machine.keeps sequencerFoot (.key (r.key i)) = true ∧
      R.X_SYSS.off (r.key i) = true := by decide +kernel
  have hkept : ∀ r ∈ figureRegs, (s.allocPrepared pin ins vbat sys).get r i = (s.measured pin ins).get r i := fun r hr =>
    (within_sequencer.get (hoff i r hr).1).trans (get_set_off _ (hoff i r hr).2)
  obtain ⟨hpin, hvolts, hlimit⟩ := figures_measured (s := s) (pin := pin) i hins
  exact ⟨(hkept _ (by simp [figureRegs])).trans hpin, (hkept _ (by simp [figureRegs])).trans hvolts,
    (hkept _ (by simp [figureRegs])).trans hlimit, (within_sequencer.get (by decide +kernel)).trans (get_set_fit 0 hsys)⟩

/-! ### Capability (R113) -/

theorem within_capacityFollow : within [.reg R.TRKn_CAP] s (s.capacityFollow pin ins) :=
  each_keeps within_refl fun _ _ _ ht => ht.chain within_set

theorem capacity_eq (i : Fin 4) :
    (s.capacityFollow pin ins).get R.TRKn_CAP i = min (s.capability i (pin.at i) (ins.at i)) 65535 := by
  have hkeys : ∀ i j : Fin 4, j ≠ i → R.TRKn_CAP.key i ≠ R.TRKn_CAP.key j := by decide +kernel
  obtain ⟨t, ht, -, hturn⟩ := each_at (I := within [.reg R.TRKn_CAP] s) (val := fun t => t.get R.TRKn_CAP i) (n := 4)
    (f := fun g t => t.set R.TRKn_CAP (min (t.capability g (pin.at g) (ins.at g)) 65535) g) i.isLt within_refl
    (fun _ _ _ ht => ht.chain within_set)
    fun j t hj hne _ => get_set_ne _ (hkeys i ⟨j, hj⟩ fun h => hne (congrArg Fin.val h))
  have hsame := (allocAsBefore.of_within ht (by decide +kernel)).capability
  rw [← hsame]
  exact hturn.trans (get_set_fit i (by change _ < 65536; omega))

end State
end Sys2Proof.Machine
end

section
/-! PROOFS. The ceilings of the groups (R114, R118 to R120, R149, R151): a turn of the allocator gives one group its ceiling, and leaves
what the allocator reads and the ceilings of the others. -/

-- One theorem at a time: each decision by the kernel waits for all declarations before it and holds a thread meanwhile.
set_option Elab.async false

namespace Sys2Proof.Machine
namespace State

variable {s t u : State} {g : Fin 4} {v : Nat}

/-! ### A group that starts or stops -/

theorem within_switchOn {g : Nat} : within Foot.switchOn s (s.switchOn g) := fun _ => Part.same_switchOn Part.same_refl

/-- A group that is given a ceiling stops, begins its on-delay, ramps again, or goes on as it was. -/
theorem setCeiling_cases (s : State) (g v : Nat) : s.setCeiling g v = s.set R.TRKn_ALLOC v g ∨
    v = 0 ∧ (s.set R.TRKn_ALLOC v g).gstate g = 1 ∧ s.setCeiling g v = (s.set R.TRKn_ALLOC v g).stopGroup g ∨
    (s.set R.TRKn_ALLOC v g).gstate g = 0 ∧ s.setCeiling g v = (s.set R.TRKn_ALLOC v g).toOnDelay g ∨
    (s.set R.TRKn_ALLOC v g).gstate g = 4 ∧ (s.set R.TRKn_ALLOC v g).on R.BIST_STATUS_P3_WINDOW = false ∧
      s.setCeiling g v = (s.set R.TRKn_ALLOC v g).switchOn g := by
  unfold State.setCeiling
  dsimp only
  split_ifs with hzero hdelay hwindow hstopped hheld
  · exact .inr (.inl ⟨hzero, hdelay, rfl⟩)
  · exact .inl rfl
  · exact .inl rfl
  · exact .inr (.inr (.inl ⟨hstopped.1, rfl⟩))
  · exact .inr (.inr (.inr ⟨hheld, Bool.eq_false_iff.2 hwindow, rfl⟩))
  · exact .inl rfl

/-- What else a group that takes a ceiling above zero changes. -/
def startFoot : List Touch := Foot.toOnDelay ++ Foot.switchOn

theorem within_setCeiling_of_ne_zero {g : Nat} (hv : v ≠ 0) : within startFoot (s.set R.TRKn_ALLOC v g) (s.setCeiling g v) := by
  rcases setCeiling_cases s g v with h | ⟨hzero, -⟩ | ⟨-, h⟩ | ⟨-, -, h⟩
  · exact h ▸ within_refl
  · exact absurd hzero hv
  · exact h ▸ within_toOnDelay.left
  · exact h ▸ within_switchOn.right

/-- What a group that takes a ceiling changes where no map is held. -/
def ceilingFoot : List Touch := [.reg R.TRKn_ALLOC] ++ (stopFoot ++ startFoot)

theorem within_setCeiling (hmap : s.noMap) {g : Nat} : within (stopFoot ++ startFoot) (s.set R.TRKn_ALLOC v g) (s.setCeiling g v) := by
  have hset : (s.set R.TRKn_ALLOC v g).noMap := within_set.noMap hmap (by decide +kernel)
  rcases setCeiling_cases s g v with h | ⟨-, -, h⟩ | ⟨-, h⟩ | ⟨-, -, h⟩
  · exact h ▸ within_refl
  · exact h ▸ (within_stopGroup hset g).left
  · exact h ▸ within_toOnDelay.left.right
  · exact h ▸ within_switchOn.right.right

/-! ### One group alone -/

/-- The groups' fields that tell whether they are at rest, unavailable or governed. -/
def sameGroup (s t : State) (g : Nat) : Prop :=
  t.gstate g = s.gstate g ∧ t.on R.TRKn_STAT_GOVERNED g = s.on R.TRKn_STAT_GOVERNED g

theorem sameGroup.of_within {l : List Touch} (h : within l s t) (hoff : sparesRegs l [R.CNV_Gg_STAT_STATE, R.TRKn_STAT_GOVERNED] = true)
    (g : Nat) : sameGroup s t g := by
  have hget := h.gets hoff
  exact ⟨hget _ (by simp) g, by rw [State.on, State.on, hget _ (by simp)]⟩

theorem sameGroup.trans {g : Nat} (h : sameGroup s t g) (h' : sameGroup t u g) : sameGroup s u g :=
  ⟨h'.1.trans h.1, h'.2.trans h.2⟩

/-- What stopping the phases of a group changes beside its governing loop. -/
def idleFoot : List Touch := touches [R.CNV_PHn_STAT_SHED, R.CNV_PHn_I, R.TRKn_STAT_LOOP, R.CNV_Gg_IL, R.CNV_Gg_PEAK,
  R.CNV_Gg_STAT_EQ_ACTIVE, R.CNV_Gg_STAT_PH_LIMIT, R.CNV_Gg_STAT_DE, R.CNV_Gg_STAT_BURST, R.CNV_Gg_STAT_REGION] []
  [Foot.switchPhase, Foot.countActive]

/-- What it changes after that. -/
def idleTailFoot : List Touch := touches [R.X_TUNING, R.X_CTRL_SW, R.X_RAMP] [] [Foot.phasePeaks, Foot.gates]

/-- A group whose phases stop is not governed afterwards (R125). -/
theorem idlePhases_ungoverned (s : State) (g : Nat) : ∃ u, within idleFoot s u ∧
    within idleTailFoot (u.flag R.TRKn_STAT_GOVERNED false g) (s.idlePhases g) := by
  unfold State.idlePhases
  extract_lets phases group all
  refine ⟨((((((((phases.countActive g).set R.CNV_Gg_STAT_REGION 3 g).flag R.CNV_Gg_STAT_BURST false g).flag R.CNV_Gg_STAT_DE
    false g).flag R.CNV_Gg_STAT_PH_LIMIT false g).flag R.CNV_Gg_STAT_EQ_ACTIVE false g).set R.CNV_Gg_PEAK 0 g).set
    R.CNV_Gg_IL 0 g).set R.TRKn_STAT_LOOP 0 g, fun q hq => ?_, fun q hq => ?_⟩
  · simp [idleFoot, and_assoc] at hq
    obtain ⟨hshed, hi, hloop, hil, hpeak, heq, hlimit, hde, hburst, hregion, hswitch, hactive⟩ := hq
    have hphases : q.same s phases :=
      Part.same_foldl Part.same_refl fun _ _ hv => Part.same_flag (Part.same_set (Part.same_switchPhase hv hswitch) hi) hshed
    exact Part.same_set (Part.same_set (Part.same_set (Part.same_flag (Part.same_flag (Part.same_flag (Part.same_flag
      (Part.same_set (Part.same_countActive hphases hactive) hregion) hburst) hde) hlimit) heq) hpeak) hil) hloop
  · simp [idleTailFoot, and_assoc] at hq
    obtain ⟨htuning, hctrl, hramp, hpeaks, hgates⟩ := hq
    have hall : q.same group all := Part.same_phasePeaks (Part.same_flag (Part.same_set (Part.same_set Part.same_refl hramp) hctrl)
      htuning) hpeaks
    exact Part.same_ite (Part.same_gates hall hgates) hall

theorem governed_idlePhases : (s.idlePhases g).on R.TRKn_STAT_GOVERNED g = false := by
  have hoff : ∀ g : Fin 4, Machine.keeps idleTailFoot (.key (R.TRKn_STAT_GOVERNED.key g)) = true := by decide +kernel
  obtain ⟨u, -, htail⟩ := idlePhases_ungoverned s g
  exact (htail.on (hoff g)).trans (on_flag_self _ _ _ _ (by decide))

theorem sameGroup_idlePhases {h : Fin 4} (hne : h ≠ g) : sameGroup s (s.idlePhases g) h := by
  obtain ⟨u, hu, htail⟩ := idlePhases_ungoverned s g
  have hflag : sameGroup u (u.flag R.TRKn_STAT_GOVERNED false g) h :=
    ⟨(within_flag.gets (rs := [R.CNV_Gg_STAT_STATE]) (by decide +kernel)) _ (by simp) _, by
      rw [State.on, State.on, State.flag, get_set_ne _ (groups_apart g h hne).2.1]⟩
  exact ((sameGroup.of_within hu (by decide +kernel) h).trans hflag).trans (sameGroup.of_within htail (by decide +kernel) h)

theorem sameGroup_settleGroup {h : Fin 4} (hne : h ≠ g) : sameGroup s (s.settleGroup g) h := by
  have hoff : ∀ h : Fin 4, R.X_BOOT.off (R.CNV_Gg_STAT_STATE.key h) = true := by decide +kernel
  refine ⟨(get_set_off _ (hoff h)).trans (get_set_ne _ (groups_apart g h hne).1), ?_⟩
  rw [State.on, State.on, (within_settleGroup (s := s)).gets (rs := [R.TRKn_STAT_GOVERNED]) (by decide +kernel) _ (by simp)]

theorem sameGroup_stopGroup (hmap : s.noMap) {h : Fin 4} (hne : h ≠ g) : sameGroup s (s.stopGroup g) h := by
  rw [stopGroup_eq hmap]
  exact ((sameGroup_idlePhases hne).trans (sameGroup_settleGroup hne)).trans (sameGroup.of_within within_flag (by decide +kernel) h)

/-- A group that stops with a phase that can switch is STOPPED or TRIPPED, and not governed (R125, R131, R158). -/
theorem stopGroup_stops (hmap : s.noMap) (hphase : s.usable g ≠ []) :
    ((s.stopGroup g).gstate g = 0 ∨ (s.stopGroup g).gstate g = 5) ∧ (s.stopGroup g).on R.TRKn_STAT_GOVERNED g = false := by
  have hoff : ∀ g : Fin 4, Machine.keeps ([.reg R.X_BOOT] ++ [.reg R.CNV_Gg_STAT_TUNED]) (.key (R.CNV_Gg_STAT_STATE.key g)) = true ∧
      Machine.keeps (Foot.settleGroup ++ [.reg R.CNV_Gg_STAT_TUNED]) (.key (R.TRKn_STAT_GOVERNED.key g)) = true := by decide +kernel
  obtain ⟨hstate, hgov⟩ := hoff g
  have husable : (s.idlePhases g).usable g ≠ [] := by
    rw [usable_of_gets (within_idlePhases.gets (by decide +kernel))]
    exact hphase
  rw [stopGroup_eq hmap]
  refine ⟨?_, ((within_settleGroup.trans within_flag).on hgov).trans governed_idlePhases⟩
  have hset : (((s.idlePhases g).settleGroup g).flag R.CNV_Gg_STAT_TUNED false g).gstate g =
      if (s.idlePhases g).usable g = [] then 6 else if (s.idlePhases g).get R.X_TRIP g ≠ 0 then 5 else 0 :=
    ((within_flag.trans within_flag).get hstate).trans (get_set_fit g (by split_ifs <;> decide))
  rw [hset, if_neg husable]
  split <;> simp

theorem sameGroup_toOnDelay {h : Fin 4} (hne : h ≠ g) : sameGroup s (s.toOnDelay g) h :=
  ⟨gstate_toOnDelay_other hne, by
    rw [State.on, State.on, (within_toOnDelay (s := s)).gets (rs := [R.TRKn_STAT_GOVERNED]) (by decide +kernel) _ (by simp)]⟩

/-- What switching on changes beside the group's state, the P3 window being closed. -/
def switchFoot : List Touch := touches [R.CNV_PHn_STAT_SHED] [] [Foot.abortSlice, Foot.switchPhase, Foot.countActive, Foot.regionStart]

/-- What it changes after the group's state. -/
def switchTailFoot : List Touch := touches [R.CNV_Gg_PEAK, R.X_RAMP] [] [Foot.phasePeaks]

/-- A group that switches on is in RAMP_ON (R149). -/
theorem switchOn_ramps (hclosed : s.on R.BIST_STATUS_P3_WINDOW = false) (g : Nat) : ∃ u, within switchFoot s u ∧
    within switchTailFoot (u.set R.CNV_Gg_STAT_STATE 2 g) (s.switchOn g) := by
  unfold State.switchOn
  extract_lets phases
  refine ⟨(phases.countActive g).regionStart g, fun q hq => ?_, fun q hq => ?_⟩
  · simp [switchFoot] at hq
    obtain ⟨hshed, hslice, hswitch, hactive, hregion⟩ := hq
    have hphases : q.same s phases := Part.same_foldl (by rw [needP3_eq hclosed]; exact Part.same_abortSlice Part.same_refl hslice)
      fun _ _ hv => Part.same_flag (Part.same_switchPhase hv hswitch) hshed
    exact Part.same_regionStart (Part.same_countActive hphases hactive) hregion
  · simp [switchTailFoot, and_assoc] at hq
    obtain ⟨hpeak, hramp, hpeaks⟩ := hq
    exact Part.same_set (Part.same_phasePeaks (Part.same_set Part.same_refl hpeak) hpeaks) hramp

theorem sameGroup_switchOn (hclosed : s.on R.BIST_STATUS_P3_WINDOW = false) {h : Fin 4} (hne : h ≠ g) :
    sameGroup s (s.switchOn g) h := by
  obtain ⟨u, hu, htail⟩ := switchOn_ramps hclosed g
  have hset : sameGroup u (u.set R.CNV_Gg_STAT_STATE 2 g) h :=
    ⟨get_set_ne _ (groups_apart g h hne).1, by
      rw [State.on, State.on, (within_set (s := u)).gets (rs := [R.TRKn_STAT_GOVERNED]) (by decide +kernel) _ (by simp)]⟩
  exact ((sameGroup.of_within hu (by decide +kernel) h).trans hset).trans (sameGroup.of_within htail (by decide +kernel) h)

theorem gstate_switchOn (hclosed : s.on R.BIST_STATUS_P3_WINDOW = false) : (s.switchOn g).gstate g = 2 := by
  obtain ⟨u, -, htail⟩ := switchOn_ramps hclosed g
  exact (sameGroup.of_within htail (by decide +kernel) g).1.trans (get_set_fit g (by decide))

theorem governed_switchOn {g h : Nat} : (s.switchOn g).on R.TRKn_STAT_GOVERNED h = s.on R.TRKn_STAT_GOVERNED h := by
  rw [State.on, State.on, (within_switchOn (s := s)).gets (rs := [R.TRKn_STAT_GOVERNED]) (by decide +kernel) _ (by simp)]

/-! ### A ceiling keeps what the allocator reads -/

theorem get_mod (s : State) (r : Reg) (i : Nat) : s.get r (i % r.count) = s.get r i := by
  simp only [State.get, Reg.key, Reg.resetAt, Nat.mod_mod]

theorem atRest_of_gstate {g : Nat} {n : Nat} (h : s.gstate g = n) (hn : n < 2) : s.atRest g := by rwa [State.atRest, h]

/-- A change of one group keeps the groups settled and what the allocator reads, if it does so for that group. -/
theorem settled.of_group (hs : settled s) {l : List Touch} (hfoot : within l s t) (hoff : sparesRegs l (allocRegs ++ restRegs) = true)
    (hothers : ∀ h : Fin 4, h ≠ g → sameGroup s t h) (hstate : t.gstate g = 6 ↔ s.gstate g = 6)
    (hgov : t.on R.TRKn_STAT_GOVERNED g = s.on R.TRKn_STAT_GOVERNED g) (hrest : t.atRest g → s.atRest g) :
    settled t ∧ allocAsBefore s t := by
  have hget := hfoot.gets hoff
  refine ⟨hs.of_gets (fun r hr => hget r (by simp [hr])) fun h hh => ?_, fun r hr => hget r (by simp [hr]), fun h => ?_, fun h => ?_⟩
  · by_cases hgh : h = g
    · subst hgh
      exact ⟨hgov.trans (hs.loop _ (hrest hh)), hs.phase _ (hrest hh)⟩
    · obtain ⟨hsame, hsameGov⟩ := hothers h hgh
      have hbefore : s.atRest h := by rwa [State.atRest, hsame] at hh
      exact ⟨hsameGov.trans (hs.loop h hbefore), hs.phase h hbefore⟩
  · rw [State.gstate, State.gstate, ← get_mod t, ← get_mod s]
    by_cases hgh : (⟨h % 4, Nat.mod_lt _ (by decide)⟩ : Fin 4) = g
    · subst hgh
      exact hstate
    · exact iff_of_eq (congrArg (· = 6) (hothers _ hgh).1)
  · rw [State.on, State.on, ← get_mod t, ← get_mod s]
    by_cases hgh : (⟨h % 4, Nat.mod_lt _ (by decide)⟩ : Fin 4) = g
    · subst hgh
      exact hgov
    · exact (hothers _ hgh).2

theorem settled.setCeiling (hs : settled s) : settled (s.setCeiling g v) ∧ allocAsBefore s (s.setCeiling g v) := by
  have hset : within [.reg R.TRKn_ALLOC] s (s.set R.TRKn_ALLOC v g) := within_set
  have hgiven := hs.of_within hset (by decide +kernel)
  have hasBefore := allocAsBefore.of_within hset (by decide +kernel)
  rcases setCeiling_cases s g v with h | ⟨-, hdelay, h⟩ | ⟨hstopped, h⟩ | ⟨hheld, hclosed, h⟩ <;> rw [h]
  case inl => exact ⟨hgiven, hasBefore⟩
  case inr.inl =>
    have hrest := atRest_of_gstate hdelay (by decide)
    obtain ⟨hstops, hgov⟩ := stopGroup_stops hgiven.map (hgiven.phase g hrest)
    refine (hgiven.of_group (within_stopGroup hgiven.map g) (by decide +kernel) (fun _ => sameGroup_stopGroup hgiven.map) ?_
      (hgov.trans (hgiven.loop g hrest).symm) fun _ => hrest).imp_right hasBefore.trans
    rw [hdelay]
    rcases hstops with h | h <;> rw [h] <;> decide
  case inr.inr.inl =>
    refine (hgiven.of_group within_toOnDelay (by decide +kernel) (fun _ => sameGroup_toOnDelay) ?_ ?_
      fun _ => atRest_of_gstate hstopped (by decide)).imp_right hasBefore.trans
    · rw [gstate_toOnDelay, hstopped]
      decide
    · rw [State.on, State.on, within_toOnDelay.gets (rs := [R.TRKn_STAT_GOVERNED]) (by decide +kernel) _ (by simp)]
  case inr.inr.inr =>
    refine (hgiven.of_group within_switchOn (by decide +kernel) (fun _ => sameGroup_switchOn hclosed) ?_ governed_switchOn
      fun hrest => ?_).imp_right hasBefore.trans
    · rw [gstate_switchOn hclosed, hheld]
      decide
    · rw [State.atRest, gstate_switchOn hclosed] at hrest
      exact absurd hrest (by decide)

/-! ### The turns of the allocator -/

/-- A group's turn: its part as trim group, its ceiling, and the current that its ramps allow. -/
def takeCeiling (s : State) (g : Nat) (trim : Bool) (v : Nat) : State :=
  ((s.flag R.TRKn_STAT_TRIM trim g).setCeiling g v).rampFollow g

/-- Every group takes its turn: `next` gives the ceiling that follows one. -/
def takeCeilings (s : State) (trim : Nat → Bool) (next : Nat → Nat → Nat) : State :=
  s.each 4 (fun g t => t.takeCeiling g (trim g) (next g (t.get R.TRKn_ALLOC g)))

/-- What a turn changes. -/
def turnFoot : List Touch := [.reg R.TRKn_STAT_TRIM] ++ ceilingFoot ++ [.reg R.X_RAMP]

theorem within_rampFollow {g : Nat} : within [.reg R.X_RAMP] s (s.rampFollow g) := fun _ h =>
  Part.same_rampFollow Part.same_refl (by simpa [Foot.rampFollow] using h)

theorem within_takeCeiling (hmap : s.noMap) {g : Nat} {trim : Bool} : within turnFoot s (s.takeCeiling g trim v) :=
  have hflag : within [.reg R.TRKn_STAT_TRIM] s (s.flag R.TRKn_STAT_TRIM trim g) := within_flag
  (hflag.trans (within_set.trans (within_setCeiling (hflag.noMap hmap (by decide +kernel))))).trans within_rampFollow

theorem settled.takeCeiling (hs : settled s) {trim : Bool} :
    settled (s.takeCeiling g trim v) ∧ allocAsBefore s (s.takeCeiling g trim v) := by
  have hflag : within [.reg R.TRKn_STAT_TRIM] s (s.flag R.TRKn_STAT_TRIM trim g) := within_flag
  obtain ⟨hgiven, hasBefore⟩ := (hs.of_within hflag (by decide +kernel)).setCeiling (g := g) (v := v)
  exact ⟨hgiven.of_within within_rampFollow (by decide +kernel), ((allocAsBefore.of_within hflag (by decide +kernel)).trans
    hasBefore).trans (allocAsBefore.of_within within_rampFollow (by decide +kernel))⟩

theorem alloc_takeCeiling (hmap : s.noMap) {trim : Bool} (h : Nat) : (s.takeCeiling g trim v).get R.TRKn_ALLOC h =
    ((s.flag R.TRKn_STAT_TRIM trim g).set R.TRKn_ALLOC v g).get R.TRKn_ALLOC h := by
  have hmapFlag : (s.flag R.TRKn_STAT_TRIM trim g).noMap := within_flag.noMap hmap (by decide +kernel)
  exact ((within_setCeiling hmapFlag).trans within_rampFollow).gets (rs := [R.TRKn_ALLOC]) (by decide +kernel) R.TRKn_ALLOC (by simp) h

theorem alloc_takeCeiling_self (hmap : s.noMap) {trim : Bool} (hv : v < 8192) :
    (s.takeCeiling g trim v).get R.TRKn_ALLOC g = v := (alloc_takeCeiling hmap g).trans (get_set_fit g hv)

theorem alloc_takeCeiling_other (hmap : s.noMap) {trim : Bool} {h : Fin 4} (hne : h ≠ g) :
    (s.takeCeiling g trim v).get R.TRKn_ALLOC h = s.get R.TRKn_ALLOC h := by
  have hoff : ∀ h : Fin 4, R.TRKn_STAT_TRIM.off (R.TRKn_ALLOC.key h) = true := by decide +kernel
  rw [alloc_takeCeiling hmap, get_set_ne _ (groups_apart g h hne).2.2]
  exact get_set_off _ (hoff h)

/-- What a loop of turns keeps. -/
structure turned (s t : State) : Prop where
  settled : settled t
  asBefore : allocAsBefore s t
  foot : within turnFoot s t

theorem turned.takeCeiling (ht : turned s t) {trim : Bool} : turned s (t.takeCeiling g trim v) := by
  obtain ⟨hsettled, hasBefore⟩ := ht.settled.takeCeiling (g := g) (trim := trim) (v := v)
  exact ⟨hsettled, ht.asBefore.trans hasBefore, ht.foot.chain (within_takeCeiling ht.settled.map)⟩

variable {trim : Nat → Bool} {next : Nat → Nat → Nat}

theorem turned_takeCeilings (hs : settled s) : turned s (s.takeCeilings trim next) :=
  each_keeps ⟨hs, allocAsBefore.refl, within_refl⟩ fun g _ hg ht => ht.takeCeiling (g := ⟨g, hg⟩)

/-- After the turns every group has the ceiling that follows its own. -/
theorem alloc_takeCeilings (hs : settled s) (g : Fin 4) (hnext : next g (s.get R.TRKn_ALLOC g) < 8192) :
    (s.takeCeilings trim next).get R.TRKn_ALLOC g = next g (s.get R.TRKn_ALLOC g) := by
  obtain ⟨t, ht, hbefore, hturn⟩ := each_at (I := turned s) (val := fun t => t.get R.TRKn_ALLOC g) (n := 4)
    (f := fun g t => t.takeCeiling g (trim g) (next g (t.get R.TRKn_ALLOC g))) g.isLt ⟨hs, allocAsBefore.refl, within_refl⟩
    (fun h _ hh ht => ht.takeCeiling (g := ⟨h, hh⟩))
    fun h t hh hne ht => alloc_takeCeiling_other (g := ⟨h, hh⟩) ht.settled.map fun e => hne (congrArg Fin.val e).symm
  rw [← hbefore] at hnext ⊢
  exact hturn.trans (alloc_takeCeiling_self ht.settled.map hnext)

end State
end Sys2Proof.Machine
end

section
/-! PROOFS. ALLOCATOR_UPDATE and SWEEP_START (R111, R113 to R120): what they leave where the groups are settled, and a group in ON_DELAY
without a phase, of which O7 says too much. -/

-- One theorem at a time: each decision by the kernel waits for all declarations before it and holds a thread meanwhile.
set_option Elab.async false

namespace Sys2Proof.Machine
namespace State

variable {s t : State} {pin ins : Quad} {vbat ibat : Int} {sys : Nat}

/-! ### The allocator, running or not (R114 to R120) -/

/-- The ceiling that follows `old` in an update: as it is during a probe (R84), else nearer to the one wanted (R119). -/
def nextCeiling (s : State) (pin ins : Quad) (vbat ibat : Int) (g old : Nat) : Nat :=
  if s.probing && s.drawable g then old else moveCeiling old (s.wanted (s.shares pin ins vbat ibat).1 ins g) s.riseStep s.edgeStep

/-- The figures of the allocator are shown (R114, R117). -/
def showDemand (s : State) (pin ins : Quad) (vbat ibat : Int) (trim : Nat) : State :=
  ((((s.set R.TRK_DEMAND (min (s.demandD pin vbat ibat).toNat 65535)).set R.TRK_LOAD (min (s.pLoad pin vbat ibat).toNat 65535)).set
    R.TRK_STATUS_TRIM trim).flag R.TRK_STATUS_SHORTFALL (0 < (s.shares pin ins vbat ibat).2)).flag R.TRK_STATUS_FAST_RISE
      (!s.supplements)

theorem allocate_eq (s : State) : ∃ trim, s.allocate pin ins vbat ibat =
    (s.showDemand pin ins vbat ibat trim).takeCeilings (fun g => trim == g + 1) (s.nextCeiling pin ins vbat ibat) := ⟨_, rfl⟩

/-- No group trims and no shortfall shows (R118). -/
def showNone (s : State) : State := (s.set R.TRK_STATUS_TRIM 0).flag R.TRK_STATUS_SHORTFALL false

theorem noCeilings_eq : s.noCeilings = s.showNone.takeCeilings (fun _ => false) (fun _ old => moveCeiling old 0 0 s.edgeStep) := rfl

/-- What showing the figures changes. -/
def showFoot : List Touch :=
  touches [R.TRK_DEMAND, R.TRK_LOAD, R.TRK_STATUS_TRIM, R.TRK_STATUS_SHORTFALL, R.TRK_STATUS_FAST_RISE] [] []

theorem within_showDemand {trim : Nat} : within showFoot s (s.showDemand pin ins vbat ibat trim) := by
  intro q hq
  simp [showFoot] at hq
  obtain ⟨hdemand, hload, htrim, hshort, hrise⟩ := hq
  exact Part.same_flag (Part.same_flag (Part.same_set (Part.same_set (Part.same_set Part.same_refl hdemand) hload) htrim) hshort) hrise

theorem within_showNone : within showFoot s s.showNone := by
  intro q hq
  simp [showFoot] at hq
  obtain ⟨-, -, htrim, hshort, -⟩ := hq
  exact Part.same_flag (Part.same_set Part.same_refl htrim) hshort

theorem within_startVaux : within Foot.startVaux s s.startVaux := fun _ => Part.same_startVaux Part.same_refl

/-- What the allocator's part of an update leaves, whether it runs or not, and what VAUX does after it. -/
structure allocatedFrom (s t : State) : Prop where
  foot : within (showFoot ++ turnFoot ++ Foot.startVaux) s t
  asBefore : allocAsBefore s t

/-- After the figures are shown and the groups have had their turns, what the allocator reads is as it was, the figures stand, and every
group has the ceiling that follows its own. -/
theorem allocatedFrom_takeCeilings {trim : Nat → Bool} {next : Nat → Nat → Nat} (hs : settled s) (hshow : within showFoot s t)
    (hnext : ∀ g old, old < 8192 → next g old < 8192) :
    allocatedFrom s (t.takeCeilings trim next).startVaux ∧ within (turnFoot ++ Foot.startVaux) t (t.takeCeilings trim next).startVaux ∧
      ∀ g : Fin 4, (t.takeCeilings trim next).startVaux.get R.TRKn_ALLOC g = next g (s.get R.TRKn_ALLOC g) := by
  have hshown := hs.of_within hshow (by decide +kernel)
  have hturned := turned_takeCeilings (trim := trim) (next := next) hshown
  refine ⟨⟨(hshow.trans hturned.foot).trans within_startVaux, ((allocAsBefore.of_within hshow (by decide +kernel)).trans
    hturned.asBefore).trans (allocAsBefore.of_within within_startVaux (by decide +kernel))⟩, hturned.foot.trans within_startVaux,
    fun g => ?_⟩
  have halloc : t.get R.TRKn_ALLOC g = s.get R.TRKn_ALLOC g := hshow.gets (rs := [R.TRKn_ALLOC]) (by decide +kernel) _ (by simp) g
  rw [within_startVaux.gets (rs := [R.TRKn_ALLOC]) (by decide +kernel) _ (by simp) g,
    alloc_takeCeilings hshown g (hnext g _ (get_lt ..)), halloc]

theorem wanted_lt {pairs : List (Nat × Nat)} {g : Nat} : s.wanted pairs ins g < 8192 := by
  have hlimit : s.get R.INn_LIM_EFF g < 8192 := get_lt ..
  have hask : ∀ a m v, askCeiling a m v (s.get R.INn_LIM_EFF g) < 8192 := by
    intro a m v
    unfold askCeiling
    split <;> omega
  unfold State.wanted
  split
  · decide
  split
  · split <;> omega
  split
  · split <;> omega
  split
  · exact hask ..
  · decide

theorem nextCeiling_lt {g old : Nat} (hold : old < 8192) : s.nextCeiling pin ins vbat ibat g old < 8192 := by
  unfold nextCeiling
  split
  · exact hold
  · exact moveCeiling_lt hold wanted_lt

/-- The allocator runs: the demand, the load and a shortfall show, and every ceiling follows (R114, R117, R119). -/
theorem allocate_gives (hs : settled s) (hu : t = (s.allocate pin ins vbat ibat).startVaux) : allocatedFrom s t ∧
    t.get R.TRK_DEMAND = min (s.demandD pin vbat ibat).toNat 65535 ∧ t.get R.TRK_LOAD = min (s.pLoad pin vbat ibat).toNat 65535 ∧
    t.on R.TRK_STATUS_SHORTFALL = decide (0 < (s.shares pin ins vbat ibat).2) ∧
    ∀ g : Fin 4, t.get R.TRKn_ALLOC g = s.nextCeiling pin ins vbat ibat g (s.get R.TRKn_ALLOC g) := by
  obtain ⟨trim, heq⟩ := allocate_eq (pin := pin) (ins := ins) (vbat := vbat) (ibat := ibat) s
  obtain ⟨hfrom, hlater, halloc⟩ := allocatedFrom_takeCeilings (trim := fun g => trim == g + 1)
    (next := s.nextCeiling pin ins vbat ibat) hs within_showDemand fun _ _ => nextCeiling_lt
  rw [← heq, ← hu] at hfrom hlater halloc
  refine ⟨hfrom, (hlater.get (by decide +kernel)).trans ?_, (hlater.get (by decide +kernel)).trans ?_,
    (hlater.on (by decide +kernel)).trans ?_, halloc⟩
  · rw [showDemand, State.flag, State.flag, get_set_off _ (by decide), get_set_off _ (by decide), get_set_off _ (by decide),
      get_set_off _ (by decide)]
    exact get_set_fit 0 (by change _ < 65536; omega)
  · rw [showDemand, State.flag, State.flag, get_set_off _ (by decide), get_set_off _ (by decide), get_set_off _ (by decide)]
    exact get_set_fit 0 (by change _ < 65536; omega)
  · rw [showDemand, (within_flag (r := R.TRK_STATUS_FAST_RISE)).on (by decide +kernel)]
    exact on_flag_self _ _ _ _ (by decide)

/-- The allocator does not run: no group trims, no shortfall shows, and every ceiling goes to zero at CHG_EDGE_RAMP (R118, R119). -/
theorem noCeilings_gives (hs : settled s) (hu : t = s.noCeilings.startVaux) : allocatedFrom s t ∧
    t.get R.TRK_STATUS_TRIM = 0 ∧ t.on R.TRK_STATUS_SHORTFALL = false ∧
    ∀ g : Fin 4, t.get R.TRKn_ALLOC g = moveCeiling (s.get R.TRKn_ALLOC g) 0 0 s.edgeStep := by
  obtain ⟨hfrom, hlater, halloc⟩ := allocatedFrom_takeCeilings (trim := fun _ => false)
    (next := fun _ old => moveCeiling old 0 0 s.edgeStep) hs within_showNone fun _ _ hold => moveCeiling_lt hold (by decide)
  rw [← noCeilings_eq, ← hu] at hfrom hlater halloc
  refine ⟨hfrom, (hlater.get (by decide +kernel)).trans ?_, (hlater.on (by decide +kernel)).trans ?_, halloc⟩
  · exact (get_set_off _ (by decide)).trans (get_set_fit 0 (by decide))
  · exact on_flag_self _ _ _ _ (by decide)

/-! ### ALLOCATOR_UPDATE -/

/-- The state in which an update comes to the allocator: measured, the charge sequencer moved on, capabilities taken. -/
def beforeAllocator (s : State) (pin ins : Quad) (vbat : Int) (sys : Nat) : State :=
  (s.allocPrepared pin ins vbat sys).capacityFollow pin ins

theorem within_beforeAllocator : within (allocPreparedFoot ++ [.reg R.TRKn_CAP]) s (s.beforeAllocator pin ins vbat sys) :=
  within_allocPrepared.trans within_capacityFollow

theorem settled.beforeAllocator (hs : settled s) : settled (s.beforeAllocator pin ins vbat sys) :=
  hs.allocPrepared.of_within within_capacityFollow (by decide +kernel)

theorem allocRuns_beforeAllocator : (s.beforeAllocator pin ins vbat sys).allocRuns = s.allocRuns := by
  have hget := (within_beforeAllocator (s := s) (pin := pin) (ins := ins) (vbat := vbat) (sys := sys)).gets
    (rs := [R.DEV_CLK_FAST_ON, R.MODE_STATUS_THERM_ACTIVE, R.MODE_STATUS_MODE, R.X_RETRY]) (by decide +kernel)
  simp only [State.allocRuns, State.on, hget R.DEV_CLK_FAST_ON (by simp), hget R.MODE_STATUS_THERM_ACTIVE (by simp),
    hget R.MODE_STATUS_MODE (by simp), hget R.X_RETRY (by simp)]

/-- The figures of each input after an update (R113, R121): power, voltage and limit as measured, and the capability that the update
counted on. -/
theorem figures_allocatedFrom (hfrom : allocatedFrom (s.beforeAllocator pin ins vbat sys) t) (i : Fin 4) (hins : ins.at i < 65536)
    (hsys : sys < 65536) : (t.get R.TRKn_PIN i = min (pin.at i) 65535 ∧ t.get R.INn_V i = ins.at i ∧
      t.get R.INn_LIM_EFF i = s.limEff i ∧ t.get R.TRKn_CAP i = min (t.capability i (pin.at i) (ins.at i)) 65535) ∧ t.get R.X_SYSS = sys := by
  have hlater := (within_capacityFollow (s := s.allocPrepared pin ins vbat sys) (pin := pin) (ins := ins)).trans hfrom.foot |>.gets
    (rs := R.X_SYSS :: figureRegs) (by decide +kernel)
  have hcap : t.get R.TRKn_CAP i = (s.beforeAllocator pin ins vbat sys).get R.TRKn_CAP i :=
    hfrom.foot.gets (rs := [R.TRKn_CAP]) (by decide +kernel) _ (by simp) i
  have hread := (allocAsBefore.of_within (within_capacityFollow (s := s.allocPrepared pin ins vbat sys) (pin := pin) (ins := ins))
    (by decide +kernel)).trans hfrom.asBefore
  obtain ⟨hpin, hvolts, hlimit, hsysNow⟩ := figures_allocPrepared (s := s) (pin := pin) (vbat := vbat) i hins hsys
  refine ⟨⟨(hlater _ (by simp [figureRegs]) i).trans hpin, (hlater _ (by simp [figureRegs]) i).trans hvolts,
    (hlater _ (by simp [figureRegs]) i).trans hlimit, ?_⟩, (hlater _ (by simp) 0).trans hsysNow⟩
  rw [hcap, hread.capability]
  exact capacity_eq i

theorem alloc_beforeAllocator (g : Nat) : (s.beforeAllocator pin ins vbat sys).get R.TRKn_ALLOC g = s.get R.TRKn_ALLOC g :=
  within_beforeAllocator.gets (rs := [R.TRKn_ALLOC]) (by decide +kernel) _ (by simp) g

theorem edgeStep_beforeAllocator : (s.beforeAllocator pin ins vbat sys).edgeStep = s.edgeStep := by
  rw [State.edgeStep, State.edgeStep, within_beforeAllocator.get (by decide +kernel)]

end State

section
variable {s : State} {pin ins : Quad} {vbat ibat : Int} {sys : Nat}
open State

theorem exec_allocatorUpdate_runs (hruns : s.allocRuns = true) : exec (.allocatorUpdate pin ins vbat ibat sys) s =
    .next ((s.beforeAllocator pin ins vbat sys).allocate pin ins vbat ibat).startVaux :=
  congrArg (fun t : State => (Host.Outcome.next t.startVaux : Out)) (if_pos (allocRuns_beforeAllocator.trans hruns))

theorem exec_allocatorUpdate_idle (hidle : s.allocRuns = false) : exec (.allocatorUpdate pin ins vbat ibat sys) s =
    .next (s.beforeAllocator pin ins vbat sys).noCeilings.startVaux :=
  congrArg (fun t : State => (Host.Outcome.next t.startVaux : Out)) (if_neg (Bool.eq_false_iff.1 (allocRuns_beforeAllocator.trans hidle)))

/-- The clause of O7 on ALLOCATOR_UPDATE holds where the groups that do not switch are settled (R125, R131). -/
theorem allocatorUpdate_gives (hsys : sys < 65536) (hins : ∀ i : Fin 4, ins.at i < 65536) (hs : settled s) :
    Gives (exec (.allocatorUpdate pin ins vbat ibat sys) s) (fun t =>
      (∀ i : Fin 4, t.get R.TRKn_PIN i = min (pin.at i) 65535 ∧ t.get R.INn_V i = ins.at i ∧ t.get R.INn_LIM_EFF i = s.limEff i ∧
        t.get R.TRKn_CAP i = min (t.capability i (pin.at i) (ins.at i)) 65535) ∧
      t.get R.X_SYSS = sys ∧
      (s.allocRuns = false → t.get R.TRK_STATUS_TRIM = 0 ∧ t.on R.TRK_STATUS_SHORTFALL = false ∧
        ∀ g : Fin 4, t.get R.TRKn_ALLOC g = moveCeiling (s.get R.TRKn_ALLOC g) 0 0 s.edgeStep) ∧
      (s.allocRuns → t.get R.TRK_DEMAND = min (t.demandD pin vbat ibat).toNat 65535 ∧
        t.get R.TRK_LOAD = min (t.pLoad pin vbat ibat).toNat 65535 ∧
        t.on R.TRK_STATUS_SHORTFALL = decide (0 < (t.shares pin ins vbat ibat).2) ∧
        ∀ g : Fin 4, t.get R.TRKn_ALLOC g = t.nextCeiling pin ins vbat ibat g (s.get R.TRKn_ALLOC g))) := by
  have hbefore : settled (s.beforeAllocator pin ins vbat sys) := hs.beforeAllocator
  cases hruns : s.allocRuns
  case false =>
    obtain ⟨hfrom, htrim, hshort, halloc⟩ := noCeilings_gives hbefore rfl
    have hfigures := fun i => figures_allocatedFrom hfrom i (hins i) hsys
    refine ⟨_, exec_allocatorUpdate_idle hruns, fun i => (hfigures i).1, (hfigures 0).2,
      fun _ => ⟨htrim, hshort, fun g => ?_⟩, nofun⟩
    rw [halloc, alloc_beforeAllocator, edgeStep_beforeAllocator]
  case true =>
    obtain ⟨hfrom, hdemand, hload, hshort, halloc⟩ := allocate_gives (pin := pin) (ins := ins) (vbat := vbat) (ibat := ibat) hbefore rfl
    have hfigures := fun i => figures_allocatedFrom hfrom i (hins i) hsys
    have hread := hfrom.asBefore
    refine ⟨_, exec_allocatorUpdate_runs hruns, fun i => (hfigures i).1, (hfigures 0).2, nofun, fun _ => ?_⟩
    rw [hread.demandD, hread.pLoad, hread.shares]
    refine ⟨hdemand, hload, hshort, fun g => ?_⟩
    rw [halloc, alloc_beforeAllocator]
    simp only [nextCeiling, hread.probing, hread.drawable, hread.wanted, hread.shares, hread.riseStep, hread.edgeStep]

/-! ### SWEEP_START (R111) -/

/-- A sweep starts: what it sets of its input before the ceiling. -/
def State.sweepStarted (s : State) (i : Nat) : State :=
  (s.setAll i [(R.X_SWEEP_DUE, 0), (R.X_VSET_OLD, s.get R.TRKn_VSET i), (R.TRKn_VSET, 6000), (R.TRKn_STAT_STYLE, 6)]).setBit
    R.TRK_STATUS_SWEEPING i true

theorem exec_sweepStart {i : Fin 4} (hdue : s.on R.X_SWEEP_DUE i) (hcls : s.cls i = 3) (hdraw : s.drawable i) (hallowed : s.allowed i)
    (hruns : s.allocRuns) (hretry : s.retrying = false) (hwaits : s.sweepWaits i = false) :
    exec (.sweepStart i) s = .next ((s.sweepStarted i).setCeiling i (s.get R.INn_LIM_EFF i)) := by
  have hlimit : ∀ i : Fin 4, ∀ r ∈ [R.X_SWEEP_DUE, R.X_VSET_OLD, R.TRKn_VSET], r.off (R.INn_LIM_EFF.key i) = true := by decide +kernel
  have hkept : (s.setAll i [(R.X_SWEEP_DUE, 0), (R.X_VSET_OLD, s.get R.TRKn_VSET i), (R.TRKn_VSET, 6000)]).get R.INn_LIM_EFF i =
      s.get R.INn_LIM_EFF i := get_setAll_off (hlimit i)
  refine (congrArg Host.Outcome.next (if_pos ?_)).trans
    (congrArg (fun v => (Host.Outcome.next ((s.sweepStarted i).setCeiling i v) : Out)) hkept)
  exact ⟨hdue, hcls, hdraw, hallowed, hruns, by simp [hretry], by simp [hwaits]⟩

/-- The clause of O7 on SWEEP_START holds where a limit is in force, as R92 has it of an SO input: the group does not stop then, so no held
phase map is applied. -/
theorem sweepStart_gives {i : Fin 4} (hdue : s.on R.X_SWEEP_DUE i) (hcls : s.cls i = 3) (hdraw : s.drawable i) (hallowed : s.allowed i)
    (hruns : s.allocRuns) (hretry : s.retrying = false) (hwaits : s.sweepWaits i = false) (hlimit : s.get R.INn_LIM_EFF i ≠ 0) :
    Gives (exec (.sweepStart i) s) (fun t =>
      t.bit R.TRK_STATUS_SWEEPING i ∧ t.get R.TRKn_STAT_STYLE i = 6 ∧ t.get R.TRKn_VSET i = 6000 ∧
        t.get R.X_VSET_OLD i = s.get R.TRKn_VSET i ∧ t.get R.TRKn_ALLOC i = s.get R.INn_LIM_EFF i ∧ t.on R.X_SWEEP_DUE i = false) := by
  have hapart : ∀ i : Fin 4, apartAt i [R.X_SWEEP_DUE, R.X_VSET_OLD, R.TRKn_VSET, R.TRKn_STAT_STYLE] := by
    unfold apartAt
    decide +kernel
  have hstart : within startFoot ((s.sweepStarted i).set R.TRKn_ALLOC (s.get R.INn_LIM_EFF i) i)
      ((s.sweepStarted i).setCeiling i (s.get R.INn_LIM_EFF i)) := within_setCeiling_of_ne_zero hlimit
  have hget : ∀ {r v}, r ∈ [R.X_SWEEP_DUE, R.X_VSET_OLD, R.TRKn_VSET, R.TRKn_STAT_STYLE] →
      (r, v) ∈ [(R.X_SWEEP_DUE, 0), (R.X_VSET_OLD, s.get R.TRKn_VSET i), (R.TRKn_VSET, 6000), (R.TRKn_STAT_STYLE, 6)] →
      v < 2 ^ r.width → ((s.sweepStarted i).setCeiling i (s.get R.INn_LIM_EFF i)).get r i = v := fun hr hm hv =>
    (((within_setBit.trans within_set).trans hstart).gets (rs := [R.X_SWEEP_DUE, R.X_VSET_OLD, R.TRKn_VSET, R.TRKn_STAT_STYLE])
      (by decide +kernel) _ hr i).trans ((get_setAll (hapart i) hm).trans (Nat.mod_eq_of_lt hv))
  refine ⟨_, exec_sweepStart hdue hcls hdraw hallowed hruns hretry hwaits, ?_, hget (by simp) (by simp) (by decide),
    hget (by simp) (by simp) (by decide), hget (by simp) (by simp) (get_lt ..), ?_, ?_⟩
  · exact ((within_set.trans hstart).bit (by decide +kernel)).trans (bit_setBit_self true 0 i.isLt)
  · exact (hstart.gets (rs := [R.TRKn_ALLOC]) (by decide +kernel) _ (by simp) i).trans (get_set_fit i (get_lt ..))
  · rw [State.on, hget (v := 0) (by simp) (by simp) (by decide)]
    rfl

/-! ### A group in ON_DELAY, with a phase and without one -/

/-- Input 1 is present and classified as a Depot source, and its group is in ON_DELAY though no phase is mapped to it. -/
def delayedWithoutPhase : State :=
  (((State.reset.set R.INn_STAT_CLASS 4).set R.INn_STAT_STATE 7).set R.IN_STATUS_PRESENT 1).set R.CNV_Gg_STAT_STATE 1

/-- The same with phase 1 mapped to input 1, and the other groups UNAVAILABLE. -/
def delayedWithPhase : State :=
  (((delayedWithoutPhase.set R.CNV_PHn_STAT_GROUP 1).set R.CNV_Gg_STAT_STATE 6 1).set R.CNV_Gg_STAT_STATE 6 2).set
    R.CNV_Gg_STAT_STATE 6 3

/-- What `allocatorUpdate_gives` assumes is met with a group in ON_DELAY, which the update stops. -/
theorem settled_delayedWithPhase : settled delayedWithPhase ∧ delayedWithPhase.gstate 0 = 1 := by
  have hgroups : ∀ g : Fin 4, delayedWithPhase.gstate g < 2 →
      delayedWithPhase.on R.TRKn_STAT_GOVERNED g = false ∧ delayedWithPhase.usable g ≠ [] := by decide +kernel
  have hmap : delayedWithPhase.on R.CNV_STATUS_CFG_PENDING = false := by decide +kernel
  exact ⟨⟨hmap, fun g hg => (hgroups g hg).1, fun g hg => (hgroups g hg).2⟩, by decide +kernel⟩

/-- Refutes O7: the update takes the capability of input 1 of `delayedWithoutPhase` while its group may still draw (26.00 V at 60 A). The
allocator does not run, so the group then stops, and without a phase it is UNAVAILABLE (R131): of the state after the update R113 gives 0,
and TRKn_CAP still shows the capability taken. -/
theorem not_tracking : ¬ Obligations.Tracking := by
  rintro ⟨hupdate, -⟩
  obtain ⟨t, ht, hfigures, -⟩ := hupdate delayedWithoutPhase ⟨0, 0, 0, 0⟩ ⟨2600, 0, 0, 0⟩ 0 0 0 (by decide +kernel)
  obtain ⟨-, -, -, hcap⟩ := hfigures 0
  have hanswer := Host.Outcome.next.inj ((exec_allocatorUpdate_idle (by decide +kernel)).symm.trans ht)
  subst hanswer
  exact absurd hcap (by decide +kernel)

end
end Sys2Proof.Machine
end

section
/-! PROOFS. The phases of a group (R129, R131, R155): what a loop over them leaves of one phase, which of them switch after it, and a group
whose phases have stopped. -/

-- One theorem at a time: each decision by the kernel waits for all declarations before it and holds a thread meanwhile.
set_option Elab.async false

namespace Sys2Proof.Machine
namespace State

variable {s t u : State} {l m : List Touch}

/-! ### Loops over a list -/

/-- What a loop leaves of a value that one turn alone changes: what that turn makes of it. -/
theorem foldl_at {α : Type} {I : State → Prop} {val : State → α} {ps : List Nat} {p : Nat} {f : State → Nat → State} (hp : p ∈ ps)
    (hnodup : ps.Nodup) (hs : I s) (hkeep : ∀ t, ∀ q ∈ ps, I t → I (f t q))
    (hother : ∀ t, ∀ q ∈ ps, q ≠ p → I t → val (f t q) = val t) :
    ∃ t, I t ∧ val t = val s ∧ val (ps.foldl f s) = val (f t p) := by
  induction ps generalizing s with
  | nil => cases hp
  | cons q ps ih =>
    obtain ⟨hfirst, hrest⟩ := List.nodup_cons.1 hnodup
    have hkeepRest : ∀ t, ∀ r ∈ ps, I t → I (f t r) := fun t r hr => hkeep t r (List.mem_cons_of_mem _ hr)
    have hotherRest : ∀ t, ∀ r ∈ ps, r ≠ p → I t → val (f t r) = val t := fun t r hr => hother t r (List.mem_cons_of_mem _ hr)
    have hturn : I (f s q) := hkeep s q List.mem_cons_self hs
    by_cases h : q = p
    · subst h
      have hlater : I (ps.foldl f (f s q)) ∧ val (ps.foldl f (f s q)) = val (f s q) :=
        List.foldlRecOn ps f (motive := fun t => I t ∧ val t = val (f s q)) ⟨hturn, rfl⟩ fun t ht r hr =>
          ⟨hkeepRest t r hr ht.1, (hotherRest t r hr (fun e => hfirst (e ▸ hr)) ht.1).trans ht.2⟩
      exact ⟨s, hs, rfl, hlater.2⟩
    · obtain ⟨t, ht, hval, hlast⟩ := ih ((List.mem_cons.1 hp).resolve_left (Ne.symm h)) hrest hturn hkeepRest hotherRest
      exact ⟨t, ht, hval.trans (hother s q List.mem_cons_self h hs), hlast⟩

/-- What a loop leaves of a value that one turn sets and the others leave. -/
theorem foldl_writes {α : Type} {val : State → α} {v : α} {ps : List Nat} {p : Nat} {f : State → Nat → State}
    (hself : ∀ t, val (f t p) = v) (hother : ∀ t, ∀ q ∈ ps, q ≠ p → val (f t q) = val t) :
    val (ps.foldl f s) = if p ∈ ps then v else val s := by
  induction ps generalizing s with
  | nil => rfl
  | cons q ps ih =>
    rw [List.foldl_cons, ih fun t r hr => hother t r (List.mem_cons_of_mem _ hr)]
    by_cases h : q = p
    · subst h
      simp [hself]
    · simp [List.mem_cons, Ne.symm h, hother s q List.mem_cons_self h]

/-- A value that no turn of a loop changes. -/
theorem foldl_off {α : Type} {val : State → α} {ps : List Nat} {f : State → Nat → State}
    (h : ∀ t, ∀ q ∈ ps, val (f t q) = val t) : val (ps.foldl f s) = val s :=
  List.foldlRecOn ps f (motive := fun t => val t = val s) rfl fun t ht q hq => (h t q hq).trans ht

theorem within_foldl {ps : List Nat} {f : State → Nat → State} (h : ∀ t, ∀ q ∈ ps, within l t (f t q)) :
    within l s (ps.foldl f s) :=
  List.foldlRecOn ps f (motive := within l s) within_refl fun t ht q hq => ht.chain (h t q hq)

theorem within.iff {c : Bool} {f : State → State} (h : within l s t) (hf : within l t (f t)) : within l s (t.iff c f) := by
  unfold State.iff
  exact within.ite (h.chain hf) h

/-! ### Which phases a group has -/

theorem mem_phasesOf {p g : Nat} : p ∈ s.phasesOf g ↔ p < 6 ∧ s.get R.CNV_PHn_STAT_GROUP p = g + 1 := by
  simp [State.phasesOf]

theorem mem_usable {p g : Nat} : p ∈ s.usable g ↔ p ∈ s.phasesOf g ∧ s.on R.CNV_PHn_STAT_EXCLUDED p = false := by
  simp [State.usable]

theorem mem_active {p g : Nat} : p ∈ s.active g ↔ p ∈ s.phasesOf g ∧ s.on R.CNV_PHn_STAT_SWITCHING p = true := by
  simp [State.active]

theorem lt_of_mem_phasesOf {p g : Nat} (h : p ∈ s.phasesOf g) : p < 6 := (mem_phasesOf.1 h).1

theorem lt_of_mem_usable {p g : Nat} (h : p ∈ s.usable g) : p < 6 := lt_of_mem_phasesOf (mem_usable.1 h).1

theorem lt_of_mem_active {p g : Nat} (h : p ∈ s.active g) : p < 6 := lt_of_mem_phasesOf (mem_active.1 h).1

theorem nodup_phasesOf (s : State) (g : Nat) : (s.phasesOf g).Nodup := List.nodup_range.filter _

theorem nodup_active (s : State) (g : Nat) : (s.active g).Nodup := (nodup_phasesOf s g).filter _

theorem phasesOf_of_get (h : ∀ p, t.get R.CNV_PHn_STAT_GROUP p = s.get R.CNV_PHn_STAT_GROUP p) : t.phasesOf = s.phasesOf := by
  funext g
  simp only [State.phasesOf, h]

theorem active_of_gets (h : ∀ r ∈ [R.CNV_PHn_STAT_GROUP, R.CNV_PHn_STAT_SWITCHING], ∀ p, t.get r p = s.get r p) :
    t.active = s.active := by
  funext g
  simp only [State.active, State.phasesOf, State.on, h R.CNV_PHn_STAT_GROUP (by simp), h R.CNV_PHn_STAT_SWITCHING (by simp)]

/-- The phases that switch are those of the group that do so. -/
theorem active_eq_nil {g : Nat} : s.active g = [] ↔ ∀ p ∈ s.phasesOf g, s.on R.CNV_PHn_STAT_SWITCHING p = false := by
  simp [State.active, List.filter_eq_nil_iff]

/-- Two phases have two fields. -/
theorem phase_key_ne {r : Reg} {p q : Nat} (hstride : r.stride ≠ 0) (hcount : r.count = 6) (hp : p < 6) (hq : q < 6) (hne : q ≠ p) :
    r.key p ≠ r.key q :=
  key_ne hstride (by rw [hcount, Nat.mod_eq_of_lt hp, Nat.mod_eq_of_lt hq]; exact hne.symm)

/-! ### Which phases switch -/

theorem within_switchPhase {p : Nat} {b : Bool} : within Foot.switchPhase s (s.switchPhase p b) := fun _ =>
  Part.same_switchPhase Part.same_refl

theorem switching_switchPhase_self {p : Nat} {b : Bool} : (s.switchPhase p b).on R.CNV_PHn_STAT_SWITCHING p = b :=
  ((within_setBit.on (apart_keeps (by decide) (by decide +kernel) p))).trans (on_flag_self _ _ _ _ (by decide))

theorem switching_switchPhase_other {p q : Nat} {b : Bool} (hp : p < 6) (hq : q < 6) (hne : q ≠ p) :
    (s.switchPhase q b).on R.CNV_PHn_STAT_SWITCHING p = s.on R.CNV_PHn_STAT_SWITCHING p := by
  rw [State.switchPhase, within_setBit.on (apart_keeps (by decide) (by decide +kernel) p), State.on, State.on, State.flag,
    get_set_ne _ (phase_key_ne (by decide) rfl hp hq hne)]

/-- A loop that sets phases switching or not: what it leaves of one phase. -/
theorem switching_foldl {ps : List Nat} {b : Bool} {f : State → Nat → State} (hps : ∀ q ∈ ps, q < 6)
    (hf : ∀ t q, within m (t.switchPhase q b) (f t q)) (hoff : sparesRegs m [R.CNV_PHn_STAT_SWITCHING] = true) {p : Nat} (hp : p < 6) :
    (ps.foldl f s).on R.CNV_PHn_STAT_SWITCHING p = if p ∈ ps then b else s.on R.CNV_PHn_STAT_SWITCHING p := by
  have hturn : ∀ t q, (f t q).on R.CNV_PHn_STAT_SWITCHING p = (t.switchPhase q b).on R.CNV_PHn_STAT_SWITCHING p := fun t q => by
    rw [State.on, State.on, (hf t q).gets hoff _ (by simp)]
  refine foldl_writes (val := fun t => t.on R.CNV_PHn_STAT_SWITCHING p) (fun t => (hturn t p).trans switching_switchPhase_self)
    fun t q hq hne => (hturn t q).trans (switching_switchPhase_other hp (hps q hq) hne)

/-! ### A group whose phases have stopped (R125) -/

/-- A phase stops: its gates idle, no current, not shed. -/
def phaseStopped (s : State) (p : Nat) : State :=
  ((s.switchPhase p false).set R.CNV_PHn_I 0 p).flag R.CNV_PHn_STAT_SHED false p

/-- The phases of a group have stopped, the group's own fields still as they were. -/
def phasesStopped (s : State) (g : Nat) : State := (s.phasesOf g).foldl phaseStopped s

/-- What its phases' stop changes. -/
def phaseStopFoot : List Touch := Foot.switchPhase ++ [.reg R.CNV_PHn_I] ++ [.reg R.CNV_PHn_STAT_SHED]

theorem within_phasesStopped {g : Nat} : within phaseStopFoot s (s.phasesStopped g) :=
  within_foldl fun _ _ _ => (within_switchPhase.trans within_set).trans within_flag

/-- What a group whose phases stop changes before its peak command and after it. -/
def idleHeadFoot : List Touch := touches [R.CNV_Gg_STAT_EQ_ACTIVE, R.CNV_Gg_STAT_PH_LIMIT, R.CNV_Gg_STAT_DE, R.CNV_Gg_STAT_BURST,
  R.CNV_Gg_STAT_REGION] [] [Foot.countActive]
def idleEndFoot : List Touch := touches [R.CNV_Gg_IL, R.TRKn_STAT_LOOP, R.TRKn_STAT_GOVERNED, R.X_TUNING, R.X_CTRL_SW] []
  [[.reg R.X_RAMP], Foot.phasePeaks, Foot.gates]

theorem within_phasePeaks {g : Nat} : within Foot.phasePeaks s (s.phasePeaks g) := fun _ => Part.same_phasePeaks Part.same_refl

theorem within_countActive {g : Nat} : within Foot.countActive s (s.countActive g) := fun _ => Part.same_countActive Part.same_refl

/-- A group whose phases stop has a peak command of 0. -/
theorem idlePhases_peak (s : State) (g : Nat) : ∃ u, within idleHeadFoot (s.phasesStopped g) u ∧
    within idleEndFoot (u.set R.CNV_Gg_PEAK 0 g) (s.idlePhases g) := by
  unfold State.idlePhases
  extract_lets phases group all
  refine ⟨(((((phases.countActive g).set R.CNV_Gg_STAT_REGION 3 g).flag R.CNV_Gg_STAT_BURST false g).flag R.CNV_Gg_STAT_DE
    false g).flag R.CNV_Gg_STAT_PH_LIMIT false g).flag R.CNV_Gg_STAT_EQ_ACTIVE false g, fun q hq => ?_, fun q hq => ?_⟩
  · simp [idleHeadFoot, and_assoc] at hq
    obtain ⟨heq, hlimit, hde, hburst, hregion, hactive⟩ := hq
    exact Part.same_flag (Part.same_flag (Part.same_flag (Part.same_flag (Part.same_set (Part.same_countActive Part.same_refl hactive)
      hregion) hburst) hde) hlimit) heq
  · simp [idleEndFoot, and_assoc] at hq
    obtain ⟨hil, hloop, hgov, htuning, hctrl, hramp, hpeaks, hgates⟩ := hq
    have hall : q.same _ all := Part.same_phasePeaks (Part.same_flag (Part.same_set (Part.same_set (Part.same_flag (Part.same_set
      (Part.same_set Part.same_refl hil) hloop) hgov) hramp) hctrl) htuning) hpeaks
    exact Part.same_ite (Part.same_gates hall hgates) hall

theorem peak_idlePhases {g : Fin 4} : (s.idlePhases g).get R.CNV_Gg_PEAK g = 0 := by
  obtain ⟨u, -, hend⟩ := idlePhases_peak s g
  exact (hend.gets (rs := [R.CNV_Gg_PEAK]) (by decide +kernel) _ (by simp) g).trans (get_set_fit g (by decide))

/-- The peak command of another group stays as it was. -/
theorem peak_idlePhases_other {g h : Fin 4} (hne : h ≠ g) : (s.idlePhases g).get R.CNV_Gg_PEAK h = s.get R.CNV_Gg_PEAK h := by
  have hkey : ∀ g h : Fin 4, h ≠ g → R.CNV_Gg_PEAK.key h ≠ R.CNV_Gg_PEAK.key g := by decide +kernel
  obtain ⟨u, hhead, hend⟩ := idlePhases_peak s g
  rw [hend.gets (rs := [R.CNV_Gg_PEAK]) (by decide +kernel) _ (by simp), get_set_ne _ (hkey g h hne)]
  exact (within_phasesStopped.trans hhead).gets (rs := [R.CNV_Gg_PEAK]) (by decide +kernel) _ (by simp) h

theorem switching_phasesStopped {g p : Nat} (hp : p < 6) : (s.phasesStopped g).on R.CNV_PHn_STAT_SWITCHING p =
    if p ∈ s.phasesOf g then false else s.on R.CNV_PHn_STAT_SWITCHING p :=
  switching_foldl (m := [.reg R.CNV_PHn_I] ++ [.reg R.CNV_PHn_STAT_SHED]) (fun _ => lt_of_mem_phasesOf)
    (fun _ _ => within_set.trans within_flag) (by decide +kernel) hp

theorem switching_idlePhases {g p : Nat} (hp : p < 6) : (s.idlePhases g).on R.CNV_PHn_STAT_SWITCHING p =
    if p ∈ s.phasesOf g then false else s.on R.CNV_PHn_STAT_SWITCHING p := by
  obtain ⟨u, hhead, hend⟩ := idlePhases_peak s g
  rw [State.on, ((hhead.trans within_set).trans hend).gets (rs := [R.CNV_PHn_STAT_SWITCHING]) (by decide +kernel) _ (by simp)]
  exact switching_phasesStopped hp

theorem phasesOf_idlePhases {g : Nat} : (s.idlePhases g).phasesOf = s.phasesOf :=
  phasesOf_of_get (within_idlePhases.gets (rs := [R.CNV_PHn_STAT_GROUP]) (by decide +kernel) _ (by simp))

/-- A group that stops has no phase that switches, and neither has one that had none. -/
theorem active_idlePhases {g h : Nat} (hstopped : h = g ∨ s.active h = []) : (s.idlePhases g).active h = [] := by
  rw [active_eq_nil, phasesOf_idlePhases]
  intro p hp
  rw [switching_idlePhases (lt_of_mem_phasesOf hp)]
  split
  case isTrue => rfl
  case isFalse hother =>
    rcases hstopped with rfl | hnone
    · exact absurd hp hother
    · exact active_eq_nil.1 hnone p hp

end State
end Sys2Proof.Machine
end

section
/-! PROOFS. The start and the stop of a converter group (R149, R151), and the end of a trip (R152). -/

-- One theorem at a time: each decision by the kernel waits for all declarations before it and holds a thread meanwhile.
set_option Elab.async false

namespace Sys2Proof.Machine
namespace State

variable {s t u : State} {l : List Touch} {g : Fin 4}

/-! ### A group that stops (R131, R151) -/

theorem within.usable (h : within l s t) (hoff : sparesRegs l [R.CNV_PHn_STAT_GROUP, R.CNV_PHn_STAT_EXCLUDED] = true) :
    t.usable = s.usable := usable_of_gets (h.gets hoff)

theorem within.gstate (h : within l s t) (hoff : sparesRegs l [R.CNV_Gg_STAT_STATE] = true) (g : Nat) : t.gstate g = s.gstate g :=
  h.gets hoff _ (by simp) g

/-- The state in which a group settles. -/
theorem gstate_settleGroup_self : (s.settleGroup g).gstate g = if s.usable g = [] then 6 else if s.get R.X_TRIP g ≠ 0 then 5 else 0 :=
  (within_flag.gstate (by decide +kernel) g).trans (get_set_fit g (by split_ifs <;> decide))

/-- The state of a group that stops. -/
theorem gstate_stopGroup_self (hmap : s.noMap) :
    (s.stopGroup g).gstate g = if s.usable g = [] then 6 else if s.get R.X_TRIP g ≠ 0 then 5 else 0 := by
  rw [stopGroup_eq hmap, within_flag.gstate (by decide +kernel), gstate_settleGroup_self, within_idlePhases.usable (by decide +kernel),
    within_idlePhases.gets (rs := [R.X_TRIP]) (by decide +kernel) _ (by simp)]

/-! ### A group that switches on (R149 step 3) -/

/-- The usable phases of a group switch, its own fields still as they were. -/
def phasesStarted (s : State) (g : Nat) : State :=
  (s.usable g).foldl (fun t p => (t.switchPhase p true).flag R.CNV_PHn_STAT_SHED false p) s.needP3

/-- A group before it takes its state, with the phases that switch counted and the region of the last evaluation. -/
def regionStarted (s : State) (g : Nat) : State := ((s.phasesStarted g).countActive g).regionStart g

theorem switchOn_eq (s : State) (g : Nat) : s.switchOn g =
    ((((s.regionStarted g).set R.CNV_Gg_STAT_STATE 2 g).set R.CNV_Gg_PEAK 0 g).phasePeaks g).set R.X_RAMP 0 g := rfl

theorem gstate_switchOn_self : (s.switchOn g).gstate g = 2 := by
  rw [switchOn_eq, ((within_set.trans within_phasePeaks).trans within_set).gstate (by decide +kernel)]
  exact get_set_fit g (by decide)

theorem peak_switchOn : (s.switchOn g).get R.CNV_Gg_PEAK g = 0 := by
  rw [switchOn_eq, (within_phasePeaks.trans within_set).gets (rs := [R.CNV_Gg_PEAK]) (by decide +kernel) _ (by simp)]
  exact get_set_fit g (by decide)

theorem ramp_switchOn : (s.switchOn g).get R.X_RAMP g = 0 := get_set_fit g (by decide)

/-- Every usable phase of a group that switches on switches. -/
theorem switching_switchOn {p g : Nat} (hp : p ∈ s.usable g) : (s.switchOn g).on R.CNV_PHn_STAT_SWITCHING p = true := by
  have hstart : (s.phasesStarted g).on R.CNV_PHn_STAT_SWITCHING p = true :=
    (switching_foldl (m := [.reg R.CNV_PHn_STAT_SHED]) (fun _ => lt_of_mem_usable) (fun _ _ => within_flag) (by decide +kernel)
      (lt_of_mem_usable hp)).trans (if_pos hp)
  have hregion : within Foot.regionStart ((s.phasesStarted g).countActive g) (s.regionStarted g) := fun _ =>
    Part.same_regionStart Part.same_refl
  rw [switchOn_eq, State.on, (((((within_countActive.trans hregion).trans within_set).trans within_set).trans
    within_phasePeaks).trans within_set).gets (rs := [R.CNV_PHn_STAT_SWITCHING]) (by decide +kernel) _ (by simp)]
  exact hstart

theorem within_tuneDue {g : Nat} : within Foot.tuneDue s (s.tuneDue g) := fun _ => Part.same_tuneDue Part.same_refl

theorem tune_tuneDue : (s.tuneDue g).on R.X_TUNE g = true := by
  rw [State.tuneDue, State.on, ((within_flag.trans within_set).trans within_set).gets (rs := [R.X_TUNE]) (by decide +kernel) _ (by simp)]
  exact on_flag_self _ _ _ _ (by decide)

/-- A group about to switch: its tuning run is due, on the factors of the last successful one (R141). -/
def switchPrepared (s : State) (g : Nat) : State :=
  ((((s.flag R.X_BOOT false g).flag R.CNV_Gg_STAT_TUNED false g).tuneDue g).set R.CNV_Gg_KP (s.get R.X_KP_OK g) g).set R.CNV_Gg_KI
    (s.get R.X_KI_OK g) g

/-! ### The end of a trip (R152) -/

/-- A trip's cause is out of the group's register, the rest of the trip still as it was. -/
theorem within_endTrip_from (hmap : s.noMap) (g cause : Nat) :
    within (stopFoot ++ Foot.toOnDelay) (s.setBit R.X_TRIP cause false g) (s.endTrip g cause) := by
  have hstop := within_stopGroup ((within_setBit (r := R.X_TRIP) (b := cause) (v := false) (i := g)).noMap hmap (by decide +kernel)) g
  unfold State.endTrip
  exact within.ite (within.ite (hstop.trans within_toOnDelay) hstop.left) within_refl

theorem trip_endTrip (hmap : s.noMap) {g cause h : Nat} :
    (s.endTrip g cause).get R.X_TRIP h = (s.setBit R.X_TRIP cause false g).get R.X_TRIP h :=
  (within_endTrip_from hmap g cause).gets (rs := [R.X_TRIP]) (by decide +kernel) _ (by simp) h

theorem marked_endTrip (hmap : s.noMap) {cause : Nat} (hcause : cause < 8) : (s.endTrip g cause).bit R.X_TRIP cause g = false := by
  rw [State.bit, trip_endTrip hmap]
  exact bit_setBit_self false g hcause

/-- A bit that stands alone leaves 0 where it is taken out. -/
theorem get_setBit_alone {r : Reg} {b i : Nat} (h : s.get r i = 2 ^ b) : (s.setBit r b false i).get r i = 0 := by
  simp [State.setBit, h, Nat.testBit_two_pow_self]

/-- A tripped group whose one cause ends is UNAVAILABLE, restarts with its ceiling, or is STOPPED. -/
theorem gstate_endTrip (hmap : s.noMap) {cause : Nat} (htripped : s.gstate g = 5) (halone : s.get R.X_TRIP g = 2 ^ cause) :
    (s.endTrip g cause).gstate g = if s.usable g = [] then 6
      else if s.get R.TRKn_ALLOC g ≠ 0 ∧ s.on R.AUX_STATUS_VAUX_REG then 1 else 0 := by
  have hclear : within [.reg R.X_TRIP] s (s.setBit R.X_TRIP cause false g) := within_setBit
  have hnoMap : (s.setBit R.X_TRIP cause false g).noMap := hclear.noMap hmap (by decide +kernel)
  have hstop := hclear.trans (within_stopGroup hnoMap g)
  have hstate := gstate_stopGroup_self (g := g) hnoMap
  rw [hclear.usable (by decide +kernel), get_setBit_alone halone, if_neg (show ¬ 0 ≠ 0 by simp)] at hstate
  have hended : (s.setBit R.X_TRIP cause false g).gstate g = 5 ∧ (s.setBit R.X_TRIP cause false g).get R.X_TRIP g = 0 :=
    ⟨(hclear.gstate (by decide +kernel) g).trans htripped, get_setBit_alone halone⟩
  unfold State.endTrip
  rw [if_pos hended]
  dsimp only
  rw [hstop.gets (rs := [R.TRKn_ALLOC]) (by decide +kernel) _ (by simp), hstop.on (by decide +kernel)]
  by_cases hphase : s.usable g = []
  · rw [if_pos hphase] at hstate
    rw [if_neg (by simp [hstate]), hstate, if_pos hphase]
  · rw [if_neg hphase] at hstate
    rw [if_neg hphase]
    by_cases hrestart : s.get R.TRKn_ALLOC g ≠ 0 ∧ s.on R.AUX_STATUS_VAUX_REG
    · rw [if_pos ⟨hstate, hrestart⟩, if_pos hrestart]
      exact gstate_toOnDelay
    · rw [if_neg fun h => hrestart h.2, if_neg hrestart]
      exact hstate

theorem gstate_endTrip_other (hmap : s.noMap) {h : Fin 4} {cause : Nat} (hne : h ≠ g) :
    (s.endTrip g cause).gstate h = s.gstate h := by
  have hclear : within [.reg R.X_TRIP] s (s.setBit R.X_TRIP cause false g) := within_setBit
  have hkept := hclear.gstate (by decide +kernel) h
  have hstop := (sameGroup_stopGroup (hclear.noMap hmap (by decide +kernel)) hne).1.trans hkept
  unfold State.endTrip
  dsimp only
  split_ifs
  · exact (gstate_toOnDelay_other hne).trans hstop
  · exact hstop
  · exact hkept

/-- What the end of a trip reads and changes of a group. -/
def tripView (s : State) (g : Nat) : Nat × Nat × List Nat × Nat × Bool :=
  (s.gstate g, s.get R.X_TRIP g, s.usable g, s.get R.TRKn_ALLOC g, s.on R.AUX_STATUS_VAUX_REG)

theorem tripView_endTrip_other (hmap : s.noMap) {h : Fin 4} {cause : Nat} (hne : h ≠ g) :
    (s.endTrip g cause).tripView h = s.tripView h := by
  have hkey : ∀ g h : Fin 4, h ≠ g → R.X_TRIP.key h ≠ R.X_TRIP.key g := by decide +kernel
  have hend := within_endTrip hmap g cause
  rw [tripView, tripView, gstate_endTrip_other hmap hne, trip_endTrip hmap, State.setBit, get_set_ne _ (hkey g h hne),
    hend.usable (by decide +kernel), hend.gets (rs := [R.TRKn_ALLOC]) (by decide +kernel) _ (by simp), hend.on (by decide +kernel)]

/-- The end of a cause in every group: for each group it is as if that group's turn were the only one. -/
theorem endTrips_view (hmap : s.noMap) (cause : Nat) (g : Fin 4) : ∃ t : State, t.noMap ∧ t.tripView g = s.tripView g ∧
    (s.each 4 (fun h u => u.endTrip h cause)).tripView g = (t.endTrip g cause).tripView g :=
  each_at (I := noMap) g.isLt hmap (fun h _ _ ht => (within_endTrip ht h cause).noMap ht (by decide +kernel))
    fun h _ hh hne ht => tripView_endTrip_other (g := ⟨h, hh⟩) ht fun e => hne (congrArg Fin.val e).symm

theorem marked_endTrips (hmap : s.noMap) {cause : Nat} (hcause : cause < 8) :
    (s.each 4 (fun h u => u.endTrip h cause)).bit R.X_TRIP cause g = false := by
  obtain ⟨t, ht, -, hview⟩ := endTrips_view hmap cause g
  obtain ⟨-, htrip, -⟩ := by simpa only [tripView, Prod.mk.injEq] using hview
  rw [State.bit, htrip]
  exact marked_endTrip ht hcause

theorem gstate_endTrips (hmap : s.noMap) {cause : Nat} (htripped : s.gstate g = 5) (halone : s.get R.X_TRIP g = 2 ^ cause) :
    (s.each 4 (fun h u => u.endTrip h cause)).gstate g = if s.usable g = [] then 6
      else if s.get R.TRKn_ALLOC g ≠ 0 ∧ s.on R.AUX_STATUS_VAUX_REG then 1 else 0 := by
  obtain ⟨t, ht, hbefore, hview⟩ := endTrips_view hmap cause g
  obtain ⟨hstate, htrip, husable, halloc, hvaux⟩ := by simpa only [tripView, Prod.mk.injEq] using hbefore
  obtain ⟨hafter, -⟩ := by simpa only [tripView, Prod.mk.injEq] using hview
  rw [hafter, gstate_endTrip ht (hstate.trans htripped) (htrip.trans halone), husable, halloc, hvaux]

end State

section
variable {s : State} {g : Fin 4}
open State

/-- The clause of O4 on GROUP_ON_DELAY_END. -/
theorem groupOnDelayEnd_gives (hdelay : s.gstate g = 1) (hvaux : s.on R.AUX_STATUS_VAUX_REG = true) :
    Gives (exec (.groupOnDelayEnd g) s) (fun t => t.on R.X_BOOT g ∧ t.gstate g = 1) :=
  ⟨_, congrArg Host.Outcome.next (if_pos ⟨hdelay, hvaux⟩), on_flag_self _ _ _ _ (by decide),
    (within_flag.gstate (by decide +kernel) g).trans hdelay⟩

/-- The clause of O4 on GROUP_SWITCH_START. -/
theorem groupSwitchStart_gives (hdelay : s.gstate g = 1) (hboot : s.on R.X_BOOT g = true) :
    Gives (exec (.groupSwitchStart g) s) (fun t =>
      t.gstate g = 2 ∧ (∀ p ∈ s.usable g, t.on R.CNV_PHn_STAT_SWITCHING p) ∧ t.on R.X_TUNE g ∧ t.on R.CNV_Gg_STAT_TUNED g = false ∧
        t.get R.CNV_Gg_PEAK g = 0 ∧ t.get R.X_RAMP g = 0) := by
  have hfactors : ∀ t : State, within ([.reg R.CNV_Gg_KP] ++ [.reg R.CNV_Gg_KI] ++ Foot.switchOn) t
      (((t.set R.CNV_Gg_KP (s.get R.X_KP_OK g) g).set R.CNV_Gg_KI (s.get R.X_KI_OK g) g).switchOn g) := fun _ =>
    (within_set.trans within_set).trans within_switchOn
  have husable : (s.switchPrepared g).usable = s.usable :=
    ((((within_flag.trans within_flag).trans within_tuneDue).trans within_set).trans within_set).usable (by decide +kernel)
  refine ⟨(s.switchPrepared g).switchOn g, congrArg Host.Outcome.next (if_pos ⟨hdelay, hboot⟩), gstate_switchOn_self, fun p hp => ?_,
    ?_, ?_, peak_switchOn, ramp_switchOn⟩
  · exact switching_switchOn (by rwa [husable])
  · exact (congrArg (· != 0) ((hfactors _).gets (rs := [R.X_TUNE]) (by decide +kernel) _ (by simp) g)).trans tune_tuneDue
  · exact (congrArg (· != 0) ((within_tuneDue.trans (hfactors _)).gets (rs := [R.CNV_Gg_STAT_TUNED]) (by decide +kernel) _ (by simp)
      g)).trans (on_flag_self _ _ _ _ (by decide))

/-- The clause of O4 on GROUP_OFF_DELAY_END. -/
theorem groupOffDelayEnd_gives (hheld : s.gstate g = 4) (hnone : s.get R.TRKn_ALLOC g = 0) (hmap : s.noMap) :
    Gives (exec (.groupOffDelayEnd g) s) (fun t =>
      t.gstate g = (if s.usable g = [] then 6 else if s.get R.X_TRIP g ≠ 0 then 5 else 0) ∧ t.on R.CNV_Gg_STAT_TUNED g = false) := by
  refine ⟨_, congrArg Host.Outcome.next (if_pos ⟨hheld, hnone⟩), gstate_stopGroup_self hmap, ?_⟩
  rw [stopGroup_eq hmap]
  exact on_flag_self _ _ _ _ (by decide)

theorem exec_sysOvClear : exec .sysOvClear s = .next ((s.each 4 (fun g t => t.endTrip g 4)).ended R.CNV_FAULT_SYS_OV) := rfl

theorem exec_driveSupplyClear :
    exec .driveSupplyClear s = .next ((s.each 4 (fun g t => t.endTrip g 5)).ended R.CNV_FAULT_DRV_UV) := rfl

theorem exec_inputUvClear : exec (.inputUvClear g) s = .next ((s.endTrip g 3).ended R.CNV_FAULT_IN_UV g) := rfl

/-- Where a cause has ended in every group, and its fault with it. -/
theorem endTrips_gives (hmap : s.noMap) {cause : Nat} (hcause : cause < 8) {r : Reg} (g : Fin 4) :
    ((s.each 4 (fun h u => u.endTrip h cause)).ended r).bit R.X_TRIP cause g = false ∧
      (s.gstate g = 5 → s.get R.X_TRIP g = 2 ^ cause → ((s.each 4 (fun h u => u.endTrip h cause)).ended r).gstate g =
        (if s.usable g = [] then 6 else if s.get R.TRKn_ALLOC g ≠ 0 ∧ s.on R.AUX_STATUS_VAUX_REG then 1 else 0)) := by
  refine ⟨?_, fun htripped halone => ?_⟩
  · rw [within_ended.bit (apart_keeps (by decide) (by decide +kernel) g)]
    exact marked_endTrips hmap hcause
  · rw [within_ended.gstate (by decide +kernel)]
    exact gstate_endTrips hmap htripped halone

/-- The clause of O4 on INPUT_UV_CLEAR. -/
theorem inputUvClear_gives (hmap : s.noMap) : Gives (exec (.inputUvClear g) s) (fun t =>
    t.stands R.CNV_FAULT_IN_UV g = false ∧ t.bit R.X_TRIP 3 g = false ∧ (s.gstate g = 5 → s.get R.X_TRIP g = 8 → t.gstate g =
      (if s.usable g = [] then 6 else if s.get R.TRKn_ALLOC g ≠ 0 ∧ s.on R.AUX_STATUS_VAUX_REG then 1 else 0))) := by
  have hcond : ∀ g : Fin 4, R.CNV_FAULT_IN_UV.lo + g < R.X_COND.width := by decide
  refine ⟨_, exec_inputUvClear, stands_ended (hcond g), ?_, fun htripped halone => ?_⟩
  · rw [within_ended.bit (apart_keeps (by decide) (by decide +kernel) g)]
    exact marked_endTrip hmap (by decide)
  · rw [within_ended.gstate (by decide +kernel)]
    exact gstate_endTrip hmap htripped halone

end
end Sys2Proof.Machine
end

section
/-! PROOFS. The trips of the converter's protection (R151 to R153, R209): a group that trips on undervoltage, SYS overvoltage or the drive
supply stays as the trip leaves it, through the trips of the others and the loss of the battery. -/

-- One theorem at a time: each decision by the kernel waits for all declarations before it and holds a thread meanwhile.
set_option Elab.async false

namespace Sys2Proof.Machine
namespace State

variable {s t u : State} {l : List Touch} {i : Fin 4} {cause : Nat}

/-! ### A tripped group -/

/-- A group has tripped for a cause, and no forced window is open that could start another one (R453). -/
structure tripped (cause : Nat) (i : Fin 4) (s : State) : Prop where
  closed : s.on R.BIST_STATUS_P3_WINDOW = false
  stopped : s.active i = []
  marked : s.bit R.X_TRIP cause i = true
  peak : s.get R.CNV_Gg_PEAK i = 0
  state : s.gstate i = if s.usable i = [] then 6 else 5

/-- What says that a group has tripped. -/
def trippedRegs : List Reg := [R.BIST_STATUS_P3_WINDOW, R.CNV_PHn_STAT_GROUP, R.CNV_PHn_STAT_SWITCHING, R.CNV_PHn_STAT_EXCLUDED,
  R.X_TRIP, R.CNV_Gg_PEAK, R.CNV_Gg_STAT_STATE]

/-- A trip for a cause that a group which does not switch takes as well (R151, R152). -/
theorem tripGroup_eq (hcause : 3 ≤ cause) (g : Nat) :
    s.tripGroup g cause = ((s.needP3.idlePhases g).setBit R.X_TRIP cause true g).settleGroup g := by
  unfold State.tripGroup
  dsimp only
  rw [if_neg (by omega), if_neg (by omega)]

namespace tripped

theorem of_gets (hs : tripped cause i s) (h : ∀ r ∈ trippedRegs, ∀ j, t.get r j = s.get r j) : tripped cause i t := by
  obtain ⟨hclosed, hstopped, hmarked, hpeak, hstate⟩ := hs
  have hactive : t.active = s.active := active_of_gets fun r hr => h r (by
    rw [trippedRegs]
    fin_cases hr <;> simp)
  have husable : t.usable = s.usable := usable_of_gets fun r hr => h r (by
    rw [trippedRegs]
    fin_cases hr <;> simp)
  refine ⟨?_, by rw [hactive, hstopped], ?_, ?_, ?_⟩
  · rw [State.on, h _ (by simp [trippedRegs])]
    exact hclosed
  · rw [State.bit, h _ (by simp [trippedRegs])]
    exact hmarked
  · rw [h _ (by simp [trippedRegs]), hpeak]
  · rw [State.gstate, h _ (by simp [trippedRegs]), husable]
    exact hstate

theorem within (hs : tripped cause i s) (h : State.within l s t) (hoff : sparesRegs l trippedRegs = true) : tripped cause i t :=
  hs.of_gets (h.gets hoff)

theorem needP3 (hs : tripped cause i s) : tripped cause i s.needP3 := by
  rw [needP3_eq hs.closed]
  exact hs.within within_abortSlice (by decide +kernel)

/-- A group that trips is tripped. -/
theorem of_tripGroup (hlow : 3 ≤ cause) (hhigh : cause < 8) : tripped cause i (s.tripGroup i cause) := by
  rw [tripGroup_eq hlow]
  have hmarked : ((s.needP3.idlePhases i).setBit R.X_TRIP cause true i).bit R.X_TRIP cause i = true := bit_setBit_self true i hhigh
  have hnonzero : ((s.needP3.idlePhases i).setBit R.X_TRIP cause true i).get R.X_TRIP i ≠ 0 := fun h => by
    simp [State.bit, h] at hmarked
  have hset : State.within ([.reg R.X_TRIP] ++ Foot.settleGroup) (s.needP3.idlePhases i)
      (((s.needP3.idlePhases i).setBit R.X_TRIP cause true i).settleGroup i) := within_setBit.trans within_settleGroup
  refine ⟨?_, ?_, ?_, ?_, ?_⟩
  · exact ((within_idlePhases.trans hset).on (by decide +kernel)).trans closed_needP3
  · rw [active_of_gets (hset.gets (by decide +kernel))]
    exact active_idlePhases (.inl rfl)
  · exact (within_settleGroup.bit (apart_keeps (by decide) (by decide +kernel) i)).trans hmarked
  · exact (hset.gets (rs := [R.CNV_Gg_PEAK]) (by decide +kernel) _ (by simp) i).trans peak_idlePhases
  · rw [gstate_settleGroup_self, if_pos hnonzero, within_settleGroup.usable (by decide +kernel)]

/-- The trip of another group leaves it so. -/
theorem tripGroup (hs : tripped cause i s) (hlow : 3 ≤ cause) {j : Fin 4} (hne : j ≠ i) : tripped cause i (s.tripGroup j cause) := by
  have htripKey : ∀ i j : Fin 4, j ≠ i → R.X_TRIP.key i ≠ R.X_TRIP.key j := by decide +kernel
  obtain ⟨hclosed, hstopped, hmarked, hpeak, hstate⟩ := hs.needP3
  have hset : State.within ([.reg R.X_TRIP] ++ Foot.settleGroup) (s.needP3.idlePhases j)
      (((s.needP3.idlePhases j).setBit R.X_TRIP cause true j).settleGroup j) := within_setBit.trans within_settleGroup
  rw [tripGroup_eq hlow]
  refine ⟨?_, ?_, ?_, ?_, ?_⟩
  · exact ((within_idlePhases.trans hset).on (by decide +kernel)).trans hclosed
  · rw [active_of_gets (hset.gets (by decide +kernel))]
    exact active_idlePhases (.inr hstopped)
  · rw [State.bit, within_settleGroup.gets (rs := [R.X_TRIP]) (by decide +kernel) _ (by simp), State.setBit,
      get_set_ne _ (htripKey i j hne), within_idlePhases.gets (rs := [R.X_TRIP]) (by decide +kernel) _ (by simp)]
    exact hmarked
  · rw [hset.gets (rs := [R.CNV_Gg_PEAK]) (by decide +kernel) _ (by simp), peak_idlePhases_other hne.symm, hpeak]
  · rw [(sameGroup_settleGroup hne.symm).1, within_setBit.gstate (by decide +kernel), (sameGroup_idlePhases hne.symm).1,
      (within_idlePhases.trans hset).usable (by decide +kernel)]
    exact hstate

/-- Where every group trips, each is tripped afterwards. -/
theorem of_tripGroups (hlow : 3 ≤ cause) (hhigh : cause < 8) : tripped cause i (s.each 4 (fun g t => t.tripGroup g cause)) :=
  each_establishes i.isLt (fun _ => of_tripGroup hlow hhigh) fun j _ hj hne ht => ht.tripGroup hlow (j := ⟨j, hj⟩) fun e =>
    hne (congrArg Fin.val e)

end tripped

/-! ### The battery is lost while it is charged (R209) -/

/-- What a SYS overvoltage leaves of a group, its latch and its standing condition included. -/
structure sysTripped (i : Fin 4) (s : State) : Prop where
  group : tripped 4 i s
  latched : s.bit R.CNV_FAULT_SYS_OV 0 = true
  standing : s.stands R.CNV_FAULT_SYS_OV = true

namespace sysTripped

theorem of_gets (hs : sysTripped i s) (h : ∀ r ∈ R.CNV_FAULT_SYS_OV :: trippedRegs, ∀ j, t.get r j = s.get r j)
    (hcond : t.stands R.CNV_FAULT_SYS_OV = s.stands R.CNV_FAULT_SYS_OV) : sysTripped i t := by
  refine ⟨hs.group.of_gets fun r hr => h r (List.mem_cons_of_mem _ hr), ?_, hcond.trans hs.standing⟩
  rw [State.bit, h _ List.mem_cons_self]
  exact hs.latched

theorem within (hs : sysTripped i s) (h : State.within l s t)
    (hoff : sparesRegs l (R.X_COND :: R.CNV_FAULT_SYS_OV :: trippedRegs) = true) : sysTripped i t := by
  have hget := h.gets hoff
  refine hs.of_gets (fun r hr => hget r (List.mem_cons_of_mem _ hr)) ?_
  rw [State.stands, State.stands, State.bit, State.bit, hget _ List.mem_cons_self]

theorem ite {c : Prop} [Decidable c] (ht : sysTripped i t) (hu : sysTripped i u) : sysTripped i (if c then t else u) := by
  split <;> assumption

theorem needP3 (hs : sysTripped i s) : sysTripped i s.needP3 := by
  rw [needP3_eq hs.group.closed]
  exact hs.within within_abortSlice (by decide +kernel)

/-- The condition of a fault of the power path is another one. -/
theorem setCond (hs : sysTripped i s) (b : Nat) (v : Bool) : sysTripped i (s.setBit R.X_COND b v (faultIndex 0x0600)) := by
  have hkey : R.X_COND.key (faultIndex R.CNV_FAULT_SYS_OV.base) ≠ R.X_COND.key (faultIndex 0x0600) := by decide +kernel
  refine hs.of_gets (fun r hr j => within_setBit.gets (by decide +kernel) r hr j) ?_
  rw [State.stands, State.stands, State.bit, State.bit, State.setBit, get_set_ne _ hkey]

theorem chgSet (hs : sysTripped i s) (st : Nat) : sysTripped i (s.chgSet st) :=
  hs.needP3.within within_chgSet (by decide +kernel)

theorem chgTo (hs : sysTripped i s) (st : Nat) : sysTripped i (s.chgTo st) := by
  have hcut : sysTripped i s.cutRest := hs.within (fun _ => Part.same_cutRest Part.same_refl) (by decide +kernel)
  unfold State.chgTo
  refine ite (hs.within (fun _ => Part.same_chgTargets Part.same_refl) (by decide +kernel)) (ite (hs.chgSet st) ?_)
  exact (hcut.chgSet st).within (fun _ => Part.same_pulseRecord Part.same_refl) (by decide +kernel)

theorem chgFaultPp (hs : sysTripped i s) : sysTripped i s.chgFaultPp := by
  have hdrop : ∀ {t : State}, sysTripped i t → sysTripped i t.chgDrop := fun ht => ht.within within_set (by decide +kernel)
  have htargets : sysTripped i s.chgTargets := hs.within (fun _ => Part.same_chgTargets Part.same_refl) (by decide +kernel)
  have hended : sysTripped i (s.flag R.X_PULSE false) := hs.within within_flag (by decide +kernel)
  unfold State.chgFaultPp
  exact ite (hdrop htargets) (ite (hdrop hs) (hdrop ((hended.chgTo 0xF).within within_flag (by decide +kernel))))

/-- What the opening of the pair changes, once P3 is free (R209). -/
theorem openPair (hs : sysTripped i s) : sysTripped i s.openPair := by
  have hpair := ((within_set (s := s.needP3) (r := R.PP_STATUS_ROLE) (v := 0) (i := 0)).trans
    (within_flag (r := R.PP_STATUS_PLIM) (b := false) (i := 0))).trans ((within_set (r := R.PP_LIN_I) (v := 0) (i := 0)).trans
    (within_flag (r := R.PP_STATUS_SUPPL) (b := false) (i := 0)))
  exact (hs.needP3.within hpair (by decide +kernel)).within (fun _ => Part.same_sysFollow Part.same_refl) (by decide +kernel)

/-- The battery is LOST: the condition of BAT_MISSING ends, and the pair opens (R206, R209). -/
theorem setBat (hs : sysTripped i s) : sysTripped i (s.setBat 3) :=
  ((hs.needP3.within within_set (by decide +kernel)).setCond _ false).openPair.within (fun _ => Part.same_cause Part.same_refl)
    (by decide +kernel)

theorem batteryLost (hs : sysTripped i s) : sysTripped i s.batteryLost :=
  (((hs.setCond _ true).within (fun _ => Part.same_latch Part.same_refl) (l := Foot.latch R.PP_FAULT_BAT_LOST)
    (by decide +kernel)).setBat).chgFaultPp

end sysTripped

/-! ### The clauses of O4 on the trips -/

/-- What a trip for a cause changes (R152). -/
def causedFoot : List Touch := Foot.needP3 ++ Foot.idlePhases ++ [.reg R.X_TRIP] ++ Foot.settleGroup

theorem within_tripGroup_caused (hlow : 3 ≤ cause) {g : Nat} : within causedFoot s (s.tripGroup g cause) := by
  rw [tripGroup_eq hlow]
  exact ((within_needP3.trans within_idlePhases).trans within_setBit).trans within_settleGroup

theorem within_tripGroups (hlow : 3 ≤ cause) : within causedFoot s (s.each 4 (fun g t => t.tripGroup g cause)) :=
  each_keeps within_refl fun _ _ _ ht => ht.chain (within_tripGroup_caused hlow)

/-- What a trip leaves of a group, in the words of O4. -/
theorem tripped.gives (ht : tripped cause i t) (husable : t.usable = s.usable) : t.active i = [] ∧ t.bit R.X_TRIP cause i ∧
    t.get R.CNV_Gg_PEAK i = 0 ∧ t.gstate i = (if s.usable i = [] then 6 else 5) :=
  ⟨ht.stopped, ht.marked, ht.peak, husable ▸ ht.state⟩

end State

section
variable {s : State} {g : Fin 4}
open State

/-- Every group has tripped on a SYS overvoltage, which is latched (R152). -/
def State.sysOvervolted (s : State) : State := (s.each 4 (fun g t => t.tripGroup g 4)).latchStand R.CNV_FAULT_SYS_OV

/-- A SYS overvoltage as the command answers it: while the battery is charged it is taken as lost (R209). -/
def State.sysOvTaken (s : State) : State :=
  if s.sysOvervolted.get R.PP_STATUS_ROLE ≠ 0 ∧ s.sysOvervolted.get R.CHG_I_TARGET ≠ 0 then s.sysOvervolted.batteryLost
  else s.sysOvervolted

theorem exec_sysOvervoltage : exec .sysOvervoltage s = .next s.sysOvTaken := rfl

theorem sysTripped_sysOvTaken : sysTripped g s.sysOvTaken := by
  have htripped : sysTripped g s.sysOvervolted :=
    ⟨(tripped.of_tripGroups (by decide) (by decide)).within within_latchStand (by decide +kernel),
      bit_latchStand (by decide) (by decide +kernel), stands_latchStand (by decide) (by decide +kernel)⟩
  exact htripped.batteryLost.ite htripped

theorem within_sysOvTaken : within (causedFoot ++ Foot.latchStand R.CNV_FAULT_SYS_OV ++ Foot.batteryLost) s s.sysOvTaken := by
  have htripped := (within_tripGroups (s := s) (cause := 4) (by decide)).trans
    (within_latchStand (r := R.CNV_FAULT_SYS_OV) (b := 0))
  exact within.ite (htripped.trans fun _ => Part.same_batteryLost Part.same_refl) htripped.left

/-- The clause of O4 on SYS_OVERVOLTAGE. -/
theorem sysOvervoltage_gives : Gives (exec .sysOvervoltage s) (fun t =>
    t.bit R.CNV_FAULT_SYS_OV 0 ∧ t.stands R.CNV_FAULT_SYS_OV ∧ (∀ g : Fin 4, t.active g = [] ∧ t.bit R.X_TRIP 4 g ∧
      t.get R.CNV_Gg_PEAK g = 0 ∧ t.gstate g = (if s.usable g = [] then 6 else 5))) :=
  ⟨_, exec_sysOvervoltage, (sysTripped_sysOvTaken (g := 0)).latched, (sysTripped_sysOvTaken (g := 0)).standing,
    fun _ => sysTripped_sysOvTaken.group.gives (within_sysOvTaken.usable (by decide +kernel))⟩

theorem exec_driveSupplyUv :
    exec .driveSupplyUv s = .next ((s.each 4 (fun g t => t.tripGroup g 5)).latchStand R.CNV_FAULT_DRV_UV) := rfl

/-- The clause of O4 on DRIVE_SUPPLY_UV. -/
theorem driveSupplyUv_gives : Gives (exec .driveSupplyUv s) (fun t =>
    t.bit R.CNV_FAULT_DRV_UV 0 ∧ t.stands R.CNV_FAULT_DRV_UV ∧ (∀ g : Fin 4, t.active g = [] ∧ t.bit R.X_TRIP 5 g ∧
      t.get R.CNV_Gg_PEAK g = 0 ∧ t.gstate g = (if s.usable g = [] then 6 else 5))) := by
  refine ⟨_, exec_driveSupplyUv, bit_latchStand (by decide) (by decide +kernel), stands_latchStand (by decide) (by decide +kernel),
    fun g => tripped.gives ?_ ?_⟩
  · exact (tripped.of_tripGroups (by decide) (by decide)).within within_latchStand (by decide +kernel)
  · exact ((within_tripGroups (by decide)).trans within_latchStand).usable (by decide +kernel)

theorem exec_inputUndervoltage (h : s.active g ≠ []) :
    exec (.inputUndervoltage g) s = .next ((s.tripGroup g 3).latchStand R.CNV_FAULT_IN_UV g) :=
  congrArg Host.Outcome.next (if_neg h)

/-- The clause of O4 on INPUT_UNDERVOLTAGE. -/
theorem inputUndervoltage_gives (h : s.active g ≠ []) : Gives (exec (.inputUndervoltage g) s) (fun t =>
    t.bit R.CNV_FAULT_IN_UV g ∧ t.stands R.CNV_FAULT_IN_UV g ∧ t.bit R.X_TRIP 3 g ∧ t.active g = [] ∧ t.get R.CNV_Gg_PEAK g = 0 ∧
      t.gstate g = (if s.usable g = [] then 6 else 5)) := by
  have hcond : ∀ g : Fin 4, R.CNV_FAULT_IN_UV.lo + g < R.X_COND.width := by decide
  have htripped : tripped 3 g ((s.tripGroup g 3).latchStand R.CNV_FAULT_IN_UV g) :=
    (tripped.of_tripGroup (by decide) (by decide)).within within_latchStand (by decide +kernel)
  obtain ⟨hstopped, hmarked, hpeak, hstate⟩ := htripped.gives (s := s)
    (((within_tripGroup_caused (by decide)).trans within_latchStand).usable (by decide +kernel))
  exact ⟨_, exec_inputUndervoltage h, bit_latchStand g.isLt (by decide +kernel), stands_latchStand (hcond g) (by decide +kernel),
    hmarked, hstopped, hpeak, hstate⟩

end
end Sys2Proof.Machine
end

section
/-! PROOFS. CNV_CFG_APPLY (R72, R129, R131): a held phase map is applied to the phases, the groups and the inputs. -/

-- One theorem at a time: each decision by the kernel waits for all declarations before it and holds a thread meanwhile.
set_option Elab.async false

namespace Sys2Proof.Machine
namespace State

variable {s t u v : State} {l : List Touch} {g j : Fin 4}

/-- What the turn of one index brings about where the turns before it keep a property, and the later ones keep, holds after the loop. -/
theorem each_reaches {I Q : State → Prop} {n i : Nat} {f : Nat → State → State} (hi : i < n) (hs : I s)
    (hbefore : ∀ k t, k < n → k ≠ i → I t → I (f k t)) (hturn : ∀ t, I t → Q (f i t))
    (hafter : ∀ k t, k < n → k ≠ i → Q t → Q (f k t)) : Q (s.each n f) := by
  induction n with
  | zero => omega
  | succ n ih =>
    rw [each_succ]
    by_cases h : i = n
    · exact h ▸ hturn _ (each_keeps hs fun k t hk => hbefore k t (by omega) (by omega))
    · exact hafter n _ (by omega) (Ne.symm h) (ih (by omega) (fun k t hk => hbefore k t (by omega)) fun k t hk => hafter k t (by omega))

/-! ### The map on the phases and the groups -/

/-- The phases have their groups under a stored map. -/
def mapTaken (s : State) : State := s.each 6 (fun p t => t.set R.CNV_PHn_STAT_GROUP (t.mapNibble p) p)

/-- The frequency and the offsets of the groups are in force as well. -/
def timebaseTaken (s : State) : State :=
  (s.mapTaken.set R.X_FSW (s.mapTaken.get R.CNV_FSW)).each 4 (fun g t => t.set R.X_PHASE_OFS (t.get R.CNV_Gg_PHASE_OFS g) g)

/-- A group that does not switch is settled. -/
def settleResting (s : State) (g : Nat) : State := if s.gstate g = 0 ∨ s.gstate g = 6 then s.settleGroup g else s

/-- The groups are settled, the inputs still as they were. -/
def mapApplied (s : State) : State :=
  (s.timebaseTaken.each 4 (fun g t => t.settleResting g)).flag R.CNV_STATUS_CFG_PENDING false

theorem within_mapTaken : within [.reg R.CNV_PHn_STAT_GROUP] s s.mapTaken :=
  each_keeps within_refl fun _ _ _ ht => ht.chain within_set

theorem within_timebaseTaken : within ([.reg R.X_FSW] ++ [.reg R.X_PHASE_OFS]) s.mapTaken s.timebaseTaken :=
  within_set.trans (each_keeps within_refl fun _ _ _ ht => ht.chain within_set)

theorem within_settleResting {g : Nat} : within Foot.settleGroup s (s.settleResting g) := within.ite within_settleGroup within_refl

/-- What settling the groups under a new map changes. -/
def mapSettledFoot : List Touch := Foot.settleGroup ++ [.reg R.CNV_STATUS_CFG_PENDING]

theorem within_mapSettled : within mapSettledFoot s.timebaseTaken s.mapApplied :=
  (each_keeps within_refl fun _ _ _ ht => ht.chain within_settleResting).trans within_flag

theorem within_mapApplied : within ([.reg R.CNV_PHn_STAT_GROUP] ++ ([.reg R.X_FSW] ++ [.reg R.X_PHASE_OFS]) ++ mapSettledFoot) s
    s.mapApplied := (within_mapTaken.trans within_timebaseTaken).trans within_mapSettled

theorem mapNibble_of_within (h : within l s t) (hoff : sparesRegs l [R.CNV_PHASE_MAP_A, R.CNV_PHASE_MAP_B] = true) :
    t.mapNibble = s.mapNibble := by
  have hget := h.gets hoff
  funext p
  simp only [State.mapNibble, hget R.CNV_PHASE_MAP_A (by simp), hget R.CNV_PHASE_MAP_B (by simp)]

theorem group_mapTaken {p : Fin 6} (hmap : s.mapNibble p ≤ 4) : s.mapTaken.get R.CNV_PHn_STAT_GROUP p = s.mapNibble p := by
  obtain ⟨t, ht, -, hturn⟩ := each_at (I := fun t => t.mapNibble = s.mapNibble) (val := fun t => t.get R.CNV_PHn_STAT_GROUP p) (n := 6)
    (f := fun p t => t.set R.CNV_PHn_STAT_GROUP (t.mapNibble p) p) p.isLt rfl
    (fun _ _ _ ht => (mapNibble_of_within within_set (by decide +kernel)).trans ht)
    fun q t hq hne _ => get_set_ne _ (phase_key_ne (by decide) rfl p.isLt hq hne)
  refine hturn.trans ?_
  rw [get_set_fit p (by rw [ht]; exact Nat.lt_of_le_of_lt hmap (by decide)), ht]

theorem fsw_timebaseTaken : s.timebaseTaken.get R.X_FSW = s.get R.CNV_FSW := by
  have hoffsets : within [.reg R.X_PHASE_OFS] (s.mapTaken.set R.X_FSW (s.mapTaken.get R.CNV_FSW)) s.timebaseTaken :=
    each_keeps within_refl fun _ _ _ ht => ht.chain within_set
  rw [hoffsets.get (by decide +kernel), get_set_fit (r := R.X_FSW) 0 (get_lt s.mapTaken R.CNV_FSW 0),
    within_mapTaken.get (by decide +kernel)]

theorem offset_timebaseTaken : s.timebaseTaken.get R.X_PHASE_OFS g = s.get R.CNV_Gg_PHASE_OFS g := by
  have hkey : ∀ g h : Fin 4, h ≠ g → R.X_PHASE_OFS.key g ≠ R.X_PHASE_OFS.key h := by decide +kernel
  have hfreq : within ([.reg R.CNV_PHn_STAT_GROUP] ++ [.reg R.X_FSW]) s (s.mapTaken.set R.X_FSW (s.mapTaken.get R.CNV_FSW)) :=
    within_mapTaken.trans within_set
  obtain ⟨t, ht, -, hturn⟩ := each_at (s := s.mapTaken.set R.X_FSW (s.mapTaken.get R.CNV_FSW))
    (I := fun t => ∀ h, t.get R.CNV_Gg_PHASE_OFS h = s.get R.CNV_Gg_PHASE_OFS h) (val := fun t => t.get R.X_PHASE_OFS g) (n := 4)
    (f := fun g t => t.set R.X_PHASE_OFS (t.get R.CNV_Gg_PHASE_OFS g) g) g.isLt
    (fun h => hfreq.gets (rs := [R.CNV_Gg_PHASE_OFS]) (by decide +kernel) _ (by simp) h)
    (fun _ _ _ ht h => (within_set.gets (rs := [R.CNV_Gg_PHASE_OFS]) (by decide +kernel) _ (by simp) h).trans (ht h))
    fun h t hh hne _ => get_set_ne _ (hkey g ⟨h, hh⟩ fun e => hne (congrArg Fin.val e))
  exact hturn.trans ((get_set_fit (r := R.X_PHASE_OFS) g (get_lt t R.CNV_Gg_PHASE_OFS g)).trans (ht g))

theorem gstate_settleResting_other (hne : g ≠ j) : (s.settleResting j).gstate g = s.gstate g := by
  unfold settleResting
  split
  · exact (sameGroup_settleGroup hne).1
  · rfl

/-- Where every group is STOPPED or UNAVAILABLE, the map settles each. -/
theorem gstate_mapApplied (hstopped : s.gstate g = 0 ∨ s.gstate g = 6) : s.mapApplied.gstate g =
    if s.mapApplied.usable g = [] then 6 else if s.timebaseTaken.get R.X_TRIP g ≠ 0 then 5 else 0 := by
  have hbefore : s.timebaseTaken.gstate g = s.gstate g :=
    (within_mapTaken.trans within_timebaseTaken).gstate (by decide +kernel) g
  obtain ⟨t, ⟨husable, htrip⟩, hval, hturn⟩ := each_at (s := s.timebaseTaken)
    (I := fun t => t.usable = s.timebaseTaken.usable ∧ ∀ k, t.get R.X_TRIP k = s.timebaseTaken.get R.X_TRIP k)
    (val := fun t => t.gstate g) (n := 4) (f := fun g t => t.settleResting g) g.isLt ⟨rfl, fun _ => rfl⟩
    (fun h t _ ht => ⟨(within_settleResting.usable (by decide +kernel)).trans ht.1, fun k =>
      (within_settleResting.gets (rs := [R.X_TRIP]) (by decide +kernel) _ (by simp) k).trans (ht.2 k)⟩)
    fun h t hh hne _ => gstate_settleResting_other (j := ⟨h, hh⟩) fun e => hne (congrArg Fin.val e).symm
  rw [within_mapSettled.usable (by decide +kernel), mapApplied, within_flag.gstate (by decide +kernel)]
  refine hturn.trans ?_
  rw [settleResting, if_pos (by rwa [hval, hbefore]), gstate_settleGroup_self, husable, htrip]

end State
end Sys2Proof.Machine
end

section
/-! PROOFS. The inputs under a phase map (R72, R91): an input that loses its phases loses its class and its gates, and nothing that another
input does gives them back. -/

-- One theorem at a time: each decision by the kernel waits for all declarations before it and holds a thread meanwhile.
set_option Elab.async false

namespace Sys2Proof.Machine
namespace State

variable {s t u v : State} {l : List Touch} {g j : Fin 4}

/-! ### The groups while the inputs follow -/

/-- A group is as it was in an earlier state, or has left STOPPED for its on-delay since. -/
def atOrStarted (s : State) (g : Fin 4) (t : State) : Prop := t.gstate g = s.gstate g ∨ s.gstate g = 0 ∧ t.gstate g = 1

/-- A STOPPED group goes to its on-delay, if it is this one's turn. -/
theorem atOrStarted.toOnDelay (ht : atOrStarted s g t) (hstopped : t.gstate j = 0) : atOrStarted s g (t.toOnDelay j) := by
  by_cases hgj : g = j
  · subst hgj
    refine .inr ⟨?_, gstate_toOnDelay⟩
    rcases ht with hsame | ⟨-, hdelay⟩
    · exact hsame.symm.trans hstopped
    · exact absurd (hdelay.symm.trans hstopped) (by decide)
  · unfold atOrStarted
    rwa [gstate_toOnDelay_other hgj]

/-- A group that an event of P3 finds is as it was, or leaves STOPPED for its on-delay (R453). -/
theorem gstate_needP3 : atOrStarted s g s.needP3 := by
  have hslice : within (Foot.abortSlice ++ [.reg R.BIST_STATUS_P3_WINDOW]) (s.abortSlice 0x08)
      (((s.abortSlice 0x08).abortSlice 0x08).flag R.BIST_STATUS_P3_WINDOW false) := within_abortSlice.trans within_flag
  have hbefore : (s.abortSlice 0x08).gstate g = s.gstate g := within_abortSlice.gstate (by decide +kernel) g
  unfold State.needP3 State.endP3Window
  split
  case isFalse => exact .inl hbefore
  case isTrue =>
    refine each_keeps (Q := atOrStarted s g) (.inl ((hslice.gstate (by decide +kernel) g).trans hbefore)) fun h t hh ht => ?_
    by_cases hstopped : t.gstate h = 0 ∧ t.get R.TRKn_ALLOC h ≠ 0 ∧ t.on R.AUX_STATUS_VAUX_REG
    · exact (if_pos hstopped).symm ▸ ht.toOnDelay (j := ⟨h, hh⟩) hstopped.1
    · exact (if_neg hstopped).symm ▸ ht

/-- The phases have the groups of an earlier state, and a group does not draw, UNAVAILABLE where it was so then. -/
structure mapRests (s : State) (g : Fin 4) (t : State) : Prop where
  phases : t.phasesOf = s.phasesOf
  unavailable : t.gstate g = 6 ↔ s.gstate g = 6
  rests : t.drawing g = false

namespace mapRests

theorem ite {c : Prop} [Decidable c] (ht : mapRests s g t) (hu : mapRests s g u) : mapRests s g (if c then t else u) := by
  split <;> assumption

theorem within (ht : mapRests s g t) (h : State.within l t u)
    (hoff : sparesRegs l [R.CNV_PHn_STAT_GROUP, R.CNV_Gg_STAT_STATE] = true) : mapRests s g u := by
  have hget := h.gets hoff
  have hstate : u.gstate g = t.gstate g := hget _ (by simp) g
  refine ⟨(phasesOf_of_get (hget _ (by simp))).trans ht.phases, by rw [hstate]; exact ht.unavailable, ?_⟩
  rw [State.drawing, hstate]
  exact ht.rests

theorem needP3 (ht : mapRests s g t) : mapRests s g t.needP3 := by
  have hphases : t.needP3.phasesOf = t.phasesOf :=
    phasesOf_of_get (within_needP3.gets (rs := [R.CNV_PHn_STAT_GROUP]) (by decide +kernel) _ (by simp))
  obtain ⟨hsame, hunavailable, hrests⟩ := ht
  refine ⟨hphases.trans hsame, ?_, ?_⟩ <;> rcases gstate_needP3 (s := t) (g := g) with h | ⟨h, h'⟩
  · rw [h, hunavailable]
  · rw [← hunavailable, h, h']
    decide
  · rwa [State.drawing, h]
  · exact drawing_of_gstate h' (by decide)

theorem setInstate (ht : mapRests s g t) (j st : Nat) : mapRests s g (t.setInstate j st) :=
  ht.needP3.within (within_set.trans within_setBit) (by decide +kernel)

theorem restartClass (ht : mapRests s g t) (j : Nat) : mapRests s g (t.restartClass j) := by
  have hprepared : mapRests s g (t.restartPrepared j) := ht.within within_prepared (by decide +kernel)
  obtain ⟨u, hu, hcases⟩ := restartClass_cases t j
  rw [hcases]
  exact ite (hprepared.setInstate ..) (ite ((hprepared.setInstate ..).within hu (by decide +kernel)) (hprepared.setInstate ..))

end mapRests

/-! ### An input that another one's change passes by -/

/-- An input that is as it was: its state, its class, and its gates where they were low. -/
structure sparedInput (g : Fin 4) (t u : State) : Prop where
  state : u.instate g = t.instate g
  cls : u.cls g = t.cls g
  low : t.gatesLow g → u.gatesLow g

/-- The fields that say so. -/
def sparedRegs : List Reg := [R.INn_STAT_STATE, R.INn_STAT_CLASS, R.IN_STATUS_FET_ON]

namespace sparedInput

theorem refl : sparedInput g t t := ⟨rfl, rfl, id⟩

theorem trans (h : sparedInput g t u) (h' : sparedInput g u v) : sparedInput g t v :=
  ⟨h'.state.trans h.state, h'.cls.trans h.cls, h'.low ∘ h.low⟩

theorem ite {c : Prop} [Decidable c] (h : sparedInput g t u) (h' : sparedInput g t v) : sparedInput g t (if c then u else v) := by
  split <;> assumption

theorem of_within (h : within l t u) (hoff : sparesRegs l sparedRegs = true) : sparedInput g t u := by
  have hget := h.gets hoff
  refine ⟨hget _ (by simp [sparedRegs]) g, hget _ (by simp [sparedRegs]) g, fun hlow => ?_⟩
  rw [gatesLow, State.bit, hget _ (by simp [sparedRegs])]
  exact hlow

theorem gates {i : Nat} : sparedInput g t (t.gates i false) := by
  have hget := (within_gates_all (s := t) (i := i) (b := false)).gets (rs := [R.INn_STAT_STATE, R.INn_STAT_CLASS]) (by decide +kernel)
  exact ⟨hget _ (by simp) g, hget _ (by simp) g, gatesLow_gates⟩

theorem setInstate (hne : j ≠ g) (st : Nat) : sparedInput g t (t.setInstate j st) :=
  ⟨get_setInstate_other hne (by simp [inputRegs]), get_setInstate_other hne (by simp [inputRegs]),
    fun hlow => within_setInstate.gatesLow hlow (by decide +kernel)⟩

theorem restartClass (hne : j ≠ g) : sparedInput g t (t.restartClass j) :=
  ⟨get_restartClass_other hne (by simp [inputRegs]), get_restartClass_other hne (by simp [inputRegs]), gatesLow_restartClass⟩

theorem endClass (hne : j ≠ g) : sparedInput g t (t.endClass j) := by
  have hended : sparedInput g t (t.classEnded j) :=
    ⟨get_classEnded_other hne (by simp [inputRegs]), get_classEnded_other hne (by simp [inputRegs]),
      fun hlow => within_classEnded.gatesLow hlow (by decide +kernel)⟩
  exact hended.trans (of_within within_endClass (by decide +kernel))

end sparedInput

/-- An input without phases: DISABLED, without a class, its gates low (R72). -/
structure unmapped (g : Fin 4) (t : State) : Prop where
  state : t.instate g = 9
  cls : t.cls g = 0
  low : t.gatesLow g

theorem unmapped.spared (ht : unmapped g t) (h : sparedInput g t u) : unmapped g u :=
  ⟨h.state.trans ht.state, h.cls.trans ht.cls, h.low ht.low⟩

/-- An input is as it was, or unmapped by now. -/
def carried (g : Fin 4) (t u : State) : Prop := sparedInput g t u ∨ unmapped g u

theorem carried.trans (h : carried g t u) (h' : carried g u v) : carried g t v := by
  rcases h' with hspared | hunmapped
  · exact h.imp (·.trans hspared) (·.spared hspared)
  · exact .inr hunmapped

theorem unmapped.carried (ht : unmapped g t) (h : carried g t u) : unmapped g u := h.elim ht.spared id

/-! ### What an input without phases does -/

/-- The end of an input's class, its ceiling and its record included (R72, R91). -/
def classLost (s : State) (i event : Nat) : State := ((s.endClass i).noCeiling i).sourceEvent i event

/-- What follows the end of the class. -/
def lostFoot : List Touch := Foot.noCeiling ++ Foot.sourceEvent

theorem within_classLost {i event : Nat} : within lostFoot (s.endClass i) (s.classLost i event) :=
  within_noCeiling.trans within_sourceEvent

theorem mapRests.classLost (ht : mapRests s g t) (j event : Nat) : mapRests s g (t.classLost j event) :=
  ht.within ((within_classEnded.trans within_endClass).trans within_classLost) (by decide +kernel)

theorem sparedInput.classLost (hne : j ≠ g) {event : Nat} : sparedInput g t (t.classLost j event) :=
  (sparedInput.endClass hne).trans (of_within within_classLost (by decide +kernel))

theorem cls_classLost {event : Nat} : (s.classLost g event).cls g = 0 := by
  have hrest : within (endFoot ++ lostFoot) (s.classEnded g) (s.classLost g event) := within_endClass.trans within_classLost
  exact (hrest.gets (rs := [R.INn_STAT_CLASS]) (by decide +kernel) _ (by simp) g).trans cls_classEnded

/-- A classification that restarts where no phase is left ends in DISABLED. -/
theorem restartState_of_noPhase {i : Nat} (h : s.phasesOf i = []) : s.restartState i = 9 := by
  simp [State.restartState, State.enabled, h]

theorem gatesLow_restartClass_self (hrests : s.drawing g = false) : (s.restartClass g).gatesLow g := by
  have hlow : (s.gatesAfterRamp g).gatesLow g := by
    rw [State.gatesAfterRamp, if_neg (Bool.eq_false_iff.1 hrests)]
    exact gatesLow_gates_self
  have hprepared : (s.restartPrepared g).gatesLow g := within_restartPrepared.gatesLow hlow (by decide +kernel)
  have hset : ∀ st, ((s.restartPrepared g).setInstate g st).gatesLow g := fun _ =>
    within_setInstate.gatesLow hprepared (by decide +kernel)
  obtain ⟨u, hu, hcases⟩ := restartClass_cases s g
  have hbegun : u.gatesLow g := hu.gatesLow (hset 2) (by decide +kernel)
  rw [hcases]
  exact gatesLow_ite (hset _) (gatesLow_ite hbegun (hset _))

/-- A TP that is lost frees an input that waits for it (R91). -/
def freeWaiting (s : State) (j : Nat) : State :=
  if s.get R.INn_STAT_ISSUE j = 3 ∧ s.cls j = 6 then (s.classLost j 0x05).restartClass j else s

/-- An input unmapped, the inputs that wait for its class not yet freed. -/
def unmappedAlone (s : State) (i : Nat) : State :=
  ((((if s.cls i = 0 then s else s.classLost i 0x02).gates i false).flag R.X_READMIT false i).noCeiling i).setInstate i 9

theorem unmapInput_eq (s : State) (i : Nat) : s.unmapInput i =
    (s.unmappedAlone i).iff (s.cls i == 1) (fun t => t.each 4 (fun j u => u.freeWaiting j)) := rfl

theorem mapRests.freeWaiting (ht : mapRests s g t) (j : Nat) : mapRests s g (t.freeWaiting j) :=
  ite ((ht.classLost j 0x05).restartClass j) ht

theorem carried_freeWaiting (ht : mapRests s g t) (hphase : s.phasesOf g = []) : carried g t (t.freeWaiting j) := by
  have hkept : ∀ u : State, within Foot.restartClass u (u.restartClass g) := fun _ => within_restartClass
  unfold State.freeWaiting
  split
  case isFalse => exact .inl sparedInput.refl
  case isTrue =>
    by_cases hjg : j = g
    · subst hjg
      have hlost := ht.classLost j 0x05
      refine .inr ⟨?_, ?_, gatesLow_restartClass_self hlost.rests⟩
      · rw [instate_restartClass, restartState_of_noPhase (by rw [hlost.phases, hphase])]
      · exact ((hkept _).gets (rs := [R.INn_STAT_CLASS]) (by decide +kernel) _ (by simp) j).trans cls_classLost
    · exact .inl ((sparedInput.classLost hjg).trans (sparedInput.restartClass hjg))

/-- What follows an input's gates as it is unmapped. -/
def unmapEndFoot : List Touch := [.reg R.X_READMIT] ++ Foot.noCeiling ++ Foot.setInstate

theorem within_unmappedAlone {i : Nat} : within unmapEndFoot ((if s.cls i = 0 then s else s.classLost i 0x02).gates i false)
    (s.unmappedAlone i) := (within_flag.trans within_noCeiling).trans within_setInstate

theorem mapRests.unmappedAlone (ht : mapRests s g t) (j : Nat) : mapRests s g (t.unmappedAlone j) :=
  (((ite ht (ht.classLost j 0x02)).within within_gates_all (by decide +kernel)).within (within_flag.trans within_noCeiling)
    (by decide +kernel)).setInstate j 9

theorem sparedInput_unmappedAlone (hne : j ≠ g) : sparedInput g t (t.unmappedAlone j) :=
  (((sparedInput.refl.ite (sparedInput.classLost hne)).trans sparedInput.gates).trans
    (sparedInput.of_within (within_flag.trans within_noCeiling) (by decide +kernel))).trans (sparedInput.setInstate hne 9)

theorem unmapped_unmappedAlone : unmapped g (t.unmappedAlone g) where
  state := instate_setInstate (by decide)
  cls := by
    have hnone : (if t.cls g = 0 then t else t.classLost g 0x02).cls g = 0 := by
      split
      case isTrue h => exact h
      case isFalse => exact cls_classLost
    exact ((within_gates_all.trans within_unmappedAlone).gets (rs := [R.INn_STAT_CLASS]) (by decide +kernel) _ (by simp) g).trans hnone
  low := within_unmappedAlone.gatesLow gatesLow_gates_self (by decide +kernel)

/-- The freeing of the inputs that wait passes an input by, or unmaps it. -/
theorem freeWaitings (ht : mapRests s g t) (hphase : s.phasesOf g = []) :
    mapRests s g (t.each 4 (fun j u => u.freeWaiting j)) ∧ carried g t (t.each 4 (fun j u => u.freeWaiting j)) :=
  each_keeps (Q := fun u => mapRests s g u ∧ carried g t u) ⟨ht, .inl sparedInput.refl⟩ fun j _ hj hu =>
    ⟨hu.1.freeWaiting j, hu.2.trans (carried_freeWaiting (j := ⟨j, hj⟩) hu.1 hphase)⟩

theorem mapRests.unmapInput (ht : mapRests s g t) (j : Nat) : mapRests s g (t.unmapInput j) := by
  rw [unmapInput_eq]
  exact ite (each_keeps (ht.unmappedAlone j) fun k _ _ hu => hu.freeWaiting k) (ht.unmappedAlone j)

theorem carried_unmapInput (ht : mapRests s g t) (hphase : s.phasesOf g = []) (hne : j ≠ g) : carried g t (t.unmapInput j) := by
  have hspared : carried g t (t.unmappedAlone j) := .inl (sparedInput_unmappedAlone hne)
  rw [unmapInput_eq, State.iff]
  split
  · exact hspared.trans (freeWaitings (ht.unmappedAlone j) hphase).2
  · exact hspared

theorem unmapped_unmapInput (ht : mapRests s g t) (hphase : s.phasesOf g = []) : unmapped g (t.unmapInput g) := by
  rw [unmapInput_eq, State.iff]
  split
  · exact unmapped_unmappedAlone.carried (freeWaitings (ht.unmappedAlone g) hphase).2
  · exact unmapped_unmappedAlone

/-! ### The inputs follow the map -/

/-- One input follows the applied map (R72). -/
def inputFollows (s : State) (i : Nat) : State :=
  if (s.phasesOf i).isEmpty then (if s.instate i = 9 then s else s.unmapInput i)
  else if s.instate i = 9 ∧ s.on R.INn_CTRL i then
    (if s.on R.X_OV i || s.on R.X_FETBAD i then s.setInstate i 10 else s.restartClass i)
  else s

theorem mapRests.inputFollows (ht : mapRests s g t) (j : Nat) : mapRests s g (t.inputFollows j) :=
  ite (ite ht (ht.unmapInput j)) (ite (ite (ht.setInstate j 10) (ht.restartClass j)) ht)

theorem carried_inputFollows (ht : mapRests s g t) (hphase : s.phasesOf g = []) (hne : j ≠ g) : carried g t (t.inputFollows j) := by
  unfold State.inputFollows
  split_ifs
  · exact .inl sparedInput.refl
  · exact carried_unmapInput ht hphase hne
  · exact .inl (sparedInput.setInstate hne 10)
  · exact .inl (sparedInput.restartClass hne)
  · exact .inl sparedInput.refl

/-- An input without phases is DISABLED when its turn is over. -/
theorem carried_inputFollows_self (ht : mapRests s g t) (hphase : s.phasesOf g = []) :
    carried g t (t.inputFollows g) ∧ (t.inputFollows g).instate g = 9 := by
  have hnone : t.phasesOf g = [] := by rw [ht.phases, hphase]
  unfold State.inputFollows
  rw [if_pos (by simp [hnone])]
  split
  case isTrue h => exact ⟨.inl sparedInput.refl, h⟩
  case isFalse =>
    have hunmapped := unmapped_unmapInput ht hphase
    exact ⟨.inr hunmapped, hunmapped.state⟩

theorem mapRests_inputsFollow (hs : s.drawing g = false) : mapRests s g s.inputsFollow :=
  each_keeps ⟨rfl, Iff.rfl, hs⟩ fun j _ _ ht => ht.inputFollows j

/-- An input without phases is DISABLED after all, without its class and its gates where it was not so before. -/
theorem carried_inputsFollow (hs : s.drawing g = false) (hphase : s.phasesOf g = []) :
    carried g s s.inputsFollow ∧ s.inputsFollow.instate g = 9 := by
  have hrests : mapRests s g s := ⟨rfl, Iff.rfl, hs⟩
  have hturn : ∀ (j : Nat) (t : State), j < 4 → j ≠ g → mapRests s g t → carried g s t → carried g s (t.inputFollows j) :=
    fun j t hj hne ht hc => hc.trans (carried_inputFollows (j := ⟨j, hj⟩) ht hphase fun e => hne (congrArg Fin.val e))
  refine (each_reaches (I := fun t => mapRests s g t ∧ carried g s t)
    (Q := fun t => mapRests s g t ∧ carried g s t ∧ t.instate g = 9) g.isLt ⟨hrests, .inl sparedInput.refl⟩
    (fun j t hj hne ht => ⟨ht.1.inputFollows j, hturn j t hj hne ht.1 ht.2⟩) (fun t ht => ?_) fun j t hj hne ht => ?_).2
  · obtain ⟨hcarried, hstate⟩ := carried_inputFollows_self ht.1 hphase
    exact ⟨ht.1.inputFollows g, ht.2.trans hcarried, hstate⟩
  · obtain ⟨hmap, hcarried, hstate⟩ := ht
    refine ⟨hmap.inputFollows j, hturn j t hj hne hmap hcarried, ?_⟩
    rcases carried_inputFollows (j := ⟨j, hj⟩) hmap hphase fun e => hne (congrArg Fin.val e) with hspared | hunmapped
    · exact hspared.state.trans hstate
    · exact hunmapped.state

end State

section
variable {s : State}
open State

theorem exec_cnvCfgApply (hheld : s.on R.CNV_STATUS_CFG_PENDING = true) (hstopped : s.allStopped = true) :
    exec .cnvCfgApply s = .next s.mapApplied.inputsFollow :=
  congrArg Host.Outcome.next (if_pos (by simp [hheld, hstopped]))

/-- The groups of a converter that has stopped. -/
theorem gstate_of_allStopped (h : s.allStopped = true) (g : Fin 4) : s.gstate g = 0 ∨ s.gstate g = 6 := by
  simp only [State.allStopped, Bool.and_eq_true, List.all_eq_true] at h
  simpa using h.2 g (List.mem_range.2 g.isLt)

/-- The clause of O4 on CNV_CFG_APPLY. -/
theorem cnvCfgApply_gives (hheld : s.on R.CNV_STATUS_CFG_PENDING = true) (hstopped : s.allStopped = true)
    (hmap : ∀ p : Fin 6, s.mapNibble p ≤ 4) : Gives (exec .cnvCfgApply s) (fun t =>
      t.on R.CNV_STATUS_CFG_PENDING = false ∧ t.get R.X_FSW = s.get R.CNV_FSW ∧
        (∀ p : Fin 6, t.get R.CNV_PHn_STAT_GROUP p = s.mapNibble p) ∧
        (∀ g : Fin 4, t.get R.X_PHASE_OFS g = s.get R.CNV_Gg_PHASE_OFS g ∧ (t.gstate g = 6 ↔ t.usable g = []) ∧
          (t.phasesOf g = [] → t.instate g = 9 ∧ (s.instate g ≠ 9 → t.cls g = 0 ∧ t.bit R.IN_STATUS_FET_ON g = false)))) := by
  have hfollow : within Foot.inputsFollow s.mapApplied s.mapApplied.inputsFollow := fun _ => Part.same_inputsFollow Part.same_refl
  have hlater := within_mapSettled.trans hfollow
  have hgroups := ((within_timebaseTaken (s := s)).trans hlater).gets (rs := [R.CNV_PHn_STAT_GROUP]) (by decide +kernel)
    R.CNV_PHn_STAT_GROUP (by simp)
  have hinstate : ∀ g : Fin 4, s.mapApplied.instate g = s.instate g := fun g =>
    within_mapApplied.gets (rs := [R.INn_STAT_STATE]) (by decide +kernel) _ (by simp) g
  refine ⟨_, exec_cnvCfgApply hheld hstopped, ?_, ?_, fun p => (hgroups p).trans (group_mapTaken (hmap p)), fun g => ⟨?_, ?_, ?_⟩⟩
  · exact (hfollow.on (by decide +kernel)).trans (on_flag_self _ _ _ _ (by decide))
  · exact (hlater.get (by decide +kernel)).trans fsw_timebaseTaken
  · exact (hlater.gets (rs := [R.X_PHASE_OFS]) (by decide +kernel) _ (by simp) g).trans offset_timebaseTaken
  all_goals
    have hstate := gstate_mapApplied (gstate_of_allStopped hstopped g)
    have hrests : s.mapApplied.drawing g = false := drawing_of_gstate hstate (by split_ifs <;> decide)
    have hfollowed := mapRests_inputsFollow hrests
  · rw [hfollowed.unavailable, hfollow.usable (by decide +kernel), hstate]
    split_ifs <;> simp_all
  · intro hphase
    rw [hfollowed.phases] at hphase
    obtain ⟨hcarried, hdisabled⟩ := carried_inputsFollow hrests hphase
    refine ⟨hdisabled, fun hbefore => ?_⟩
    rcases hcarried with hspared | hunmapped
    · exact absurd ((hinstate g).symm.trans (hspared.state.symm.trans hdisabled)) hbefore
    · exact ⟨hunmapped.cls, hunmapped.low⟩

/-! ### The obligation -/

/-- Settles O4: each clause is the lemma on its command, those on the two clears of every group from the end of their trips. -/
theorem converterSequence : Obligations.ConverterSequence := by
  refine ⟨?_, ?_, ?_, ?_, ?_, ?_, ?_, ?_, ?_, ?_⟩
  · rintro s g ⟨hdelay, hvaux⟩
    exact groupOnDelayEnd_gives hdelay hvaux
  · rintro s g ⟨hdelay, hboot⟩
    exact groupSwitchStart_gives hdelay hboot
  · rintro s g ⟨hheld, hnone, hmap⟩
    exact groupOffDelayEnd_gives hheld hnone hmap
  · exact fun s => sysOvervoltage_gives
  · exact fun s hmap => ⟨_, exec_sysOvClear, stands_ended (by decide), endTrips_gives hmap (by decide)⟩
  · exact fun s g h => inputUndervoltage_gives h
  · exact fun s g hmap => inputUvClear_gives hmap
  · exact fun s => driveSupplyUv_gives
  · exact fun s hmap => ⟨_, exec_driveSupplyClear, stands_ended (by decide), endTrips_gives hmap (by decide)⟩
  · rintro s ⟨hheld, hstopped, hmap⟩
    exact cnvCfgApply_gives hheld hstopped hmap

end
end Sys2Proof.Machine
end

section
/-! PROOFS. An evaluation of the loops of a converter group that runs (R133, R136 to R138): what it leaves of the region, the governing loop
and the voltages it was taken at. -/

-- One theorem at a time: each decision by the kernel waits for all declarations before it and holds a thread meanwhile.
set_option Elab.async false

namespace Sys2Proof.Machine

/-- The code of a loop (R125). -/
theorem governing_lt (vin iin ibat vbat vsys : Nat) : governing vin iin ibat vbat vsys < 8 := by
  unfold governing
  dsimp only
  split_ifs <;> decide

/-- The code of a region (R133). -/
theorem nextRegion_lt (old sys vbus : Nat) : nextRegion old sys vbus < 4 := by
  unfold nextRegion startRegion
  split <;> split_ifs <;> decide

namespace State

variable {s t u : State} {g : Fin 4}

/-! ### The voltages and the targets -/

/-- The voltages of an evaluation are stored (R133, R153). -/
def sensed (s : State) (g sys vbus : Nat) : State :=
  (((s.set R.X_SYSS sys).set R.X_VBUS vbus g).set R.X_LSYS sys g).set R.X_LVBUS vbus g

/-- The targets of the loops are renewed for an evaluation (R137). -/
def targeted (s : State) (g sys vbus bats : Nat) : State :=
  (((s.sensed g sys vbus).set R.X_BATS (bats / 10)).chgTargets).loopTargets g

/-- The voltages that an evaluation is taken at. -/
structure senses (g : Fin 4) (sys vbus : Nat) (t : State) : Prop where
  atSys : t.get R.X_SYSS = sys
  atVbus : t.get R.X_VBUS g = vbus
  lastSys : t.get R.X_LSYS g = sys
  lastVbus : t.get R.X_LVBUS g = vbus

theorem senses.within {l : List Touch} {sys vbus : Nat} (ht : senses g sys vbus t) (h : State.within l t u)
    (hoff : sparesRegs l [R.X_SYSS, R.X_VBUS, R.X_LSYS, R.X_LVBUS] = true) : senses g sys vbus u := by
  have hget := h.gets hoff
  exact ⟨(hget _ (by simp) _).trans ht.atSys, (hget _ (by simp) _).trans ht.atVbus, (hget _ (by simp) _).trans ht.lastSys,
    (hget _ (by simp) _).trans ht.lastVbus⟩

theorem senses_sensed {sys vbus : Nat} (hsys : sys < 65536) (hvbus : vbus < 65536) : senses g sys vbus (s.sensed g sys vbus) where
  atSys := (((within_set.trans within_set).trans within_set).get (by decide +kernel)).trans (get_set_fit 0 hsys)
  atVbus := ((within_set.trans within_set).gets (rs := [R.X_VBUS]) (by decide +kernel) _ (by simp) g).trans (get_set_fit g hvbus)
  lastSys := (within_set.gets (rs := [R.X_LSYS]) (by decide +kernel) _ (by simp) g).trans (get_set_fit g hsys)
  lastVbus := get_set_fit g hvbus

/-- What storing the voltages changes, and what renewing the targets does. -/
def sensedFoot : List Touch := [.reg R.X_SYSS] ++ [.reg R.X_VBUS] ++ [.reg R.X_LSYS] ++ [.reg R.X_LVBUS]
def renewedFoot : List Touch := [.reg R.X_BATS] ++ Foot.chgTargets ++ Foot.loopTargets

theorem within_renewed {sys vbus bats : Nat} : within renewedFoot (s.sensed g sys vbus) (s.targeted g sys vbus bats) := by
  have htargets : ∀ t : State, within Foot.chgTargets t t.chgTargets := fun _ _ => Part.same_chgTargets Part.same_refl
  have hloops : ∀ t : State, within Foot.loopTargets t (t.loopTargets g) := fun _ _ => Part.same_loopTargets Part.same_refl
  exact (within_set.trans (htargets _)).trans (hloops _)

theorem within_targeted {sys vbus bats : Nat} : within (sensedFoot ++ renewedFoot) s (s.targeted g sys vbus bats) :=
  (((within_set.trans within_set).trans within_set).trans within_set).trans within_renewed

/-! ### The governing loop and the region -/

/-- The demands of an evaluation are held, and the loop that governs shows (R138). -/
def loopShown (s : State) (g low loop : Nat) (demands : List Nat) (clamp : Bool) : State :=
  (((s.holdDemands g low demands).set R.TRKn_STAT_LOOP loop g).flag R.TRKn_STAT_GOVERNED (loop == 1) g).flag R.CNV_Gg_STAT_PH_LIMIT
    clamp g

/-- The region and the peak command of an evaluation (R133, R136); in burst they stand (R148). -/
def regionTaken (s : State) (g top : Nat) : State :=
  if s.on R.CNV_Gg_STAT_BURST g then s.slopeFollow g else ((s.regionFollow g).set R.CNV_Gg_PEAK top g).phasePeaks g

/-- The synchronous switches are released for the next cycle, and a clamped group has a phase added back (R146, R147). -/
def phasesReleased (s : State) (g : Nat) (clamp : Bool) : State :=
  ((s.phasesOf g).foldl (fun t p => t.flag R.X_SYNC_OFF false p) s).iff clamp (fun t => t.addBack g)

theorem within_holdDemands {low : Nat} {demands : List Nat} : within Foot.holdDemands s (s.holdDemands g low demands) := fun _ =>
  Part.same_holdDemands Part.same_refl

theorem within_loopShown {low loop : Nat} {demands : List Nat} {clamp : Bool} :
    within (Foot.holdDemands ++ [.reg R.TRKn_STAT_LOOP] ++ [.reg R.TRKn_STAT_GOVERNED] ++ [.reg R.CNV_Gg_STAT_PH_LIMIT]) s
      (s.loopShown g low loop demands clamp) := ((within_holdDemands.trans within_set).trans within_flag).trans within_flag

theorem loop_loopShown {low loop : Nat} {demands : List Nat} {clamp : Bool} (hloop : loop < 8) :
    (s.loopShown g low loop demands clamp).get R.TRKn_STAT_LOOP g = loop :=
  ((within_flag.trans within_flag).gets (rs := [R.TRKn_STAT_LOOP]) (by decide +kernel) _ (by simp) g).trans (get_set_fit g hloop)

theorem within_slopeFollow {g : Nat} : within Foot.slopeFollow s (s.slopeFollow g) := fun _ => Part.same_slopeFollow Part.same_refl

theorem within_regionFollow {g : Nat} : within Foot.regionFollow s (s.regionFollow g) := fun _ => Part.same_regionFollow Part.same_refl

theorem region_regionFollow : (s.regionFollow g).get R.CNV_Gg_STAT_REGION g =
    nextRegion (s.get R.CNV_Gg_STAT_REGION g) (s.get R.X_LSYS g) (s.get R.X_LVBUS g) :=
  ((within_set.trans within_slopeFollow).gets (rs := [R.CNV_Gg_STAT_REGION]) (by decide +kernel) _ (by simp) g).trans
    (get_set_fit g (nextRegion_lt ..))

/-- What the region and the peak command change. -/
def regionFoot : List Touch := Foot.regionFollow ++ [.reg R.CNV_Gg_PEAK] ++ Foot.phasePeaks

theorem within_regionTaken {top : Nat} : within (regionFoot ++ Foot.slopeFollow) s (s.regionTaken g top) :=
  within.ite within_slopeFollow.right ((within_regionFollow.trans within_set).trans within_phasePeaks).left

theorem region_regionTaken {top : Nat} : (s.regionTaken g top).get R.CNV_Gg_STAT_REGION g = if s.on R.CNV_Gg_STAT_BURST g
    then s.get R.CNV_Gg_STAT_REGION g else nextRegion (s.get R.CNV_Gg_STAT_REGION g) (s.get R.X_LSYS g) (s.get R.X_LVBUS g) := by
  unfold regionTaken
  split
  · exact within_slopeFollow.gets (rs := [R.CNV_Gg_STAT_REGION]) (by decide +kernel) _ (by simp) g
  · exact ((within_set.trans within_phasePeaks).gets (rs := [R.CNV_Gg_STAT_REGION]) (by decide +kernel) _ (by simp) g).trans
      region_regionFollow

theorem within_addBack {g : Nat} : within Foot.addBack s (s.addBack g) := fun _ => Part.same_addBack Part.same_refl

theorem within_phasesReleased {clamp : Bool} : within ([.reg R.X_SYNC_OFF] ++ Foot.addBack) s (s.phasesReleased g clamp) :=
  within.iff (within_foldl fun _ _ _ => within_flag).left within_addBack.right

/-! ### The evaluation -/

/-- A group that runs has its loops evaluated, its state and its tuning run not yet followed. -/
def evaluated (s : State) (g low loop : Nat) (demands : List Nat) (clamp : Bool) (top : Nat) : State :=
  ((s.loopShown g low loop demands clamp).regionTaken g top).phasesReleased g clamp

/-- The same with what the command computes from its operands: the governing demand, and whether a phase current is clamped. -/
def loopsEvaluated (s : State) (g vin iin ibat vbat vsys reduced : Nat) : State :=
  let low := min vin (min iin (min ibat (min vbat vsys)))
  let clamp := (s.active g).any (fun p => decide ((s.get R.CNV_PH_IMAX : Int) < s.getS R.CNV_PHn_I p))
  s.evaluated g low (governing vin iin ibat vbat vsys) [vin, iin, ibat, vbat, vsys] clamp
    (if clamp then min (min low (s.get R.CNV_IPK_LIM)) reduced else min low (s.get R.CNV_IPK_LIM))

section
variable {low loop top : Nat} {demands : List Nat} {clamp : Bool}

/-- What an evaluation changes once the governing loop shows, and what it changes in all. -/
def fromLoopFoot : List Touch := (regionFoot ++ Foot.slopeFollow) ++ ([.reg R.X_SYNC_OFF] ++ Foot.addBack)
def evaluatedFoot : List Touch := Foot.holdDemands ++ [.reg R.TRKn_STAT_LOOP] ++ [.reg R.TRKn_STAT_GOVERNED] ++
  [.reg R.CNV_Gg_STAT_PH_LIMIT] ++ fromLoopFoot

theorem within_fromLoop : within fromLoopFoot (s.loopShown g low loop demands clamp) (s.evaluated g low loop demands clamp top) :=
  within_regionTaken.trans within_phasesReleased

theorem within_evaluated : within evaluatedFoot s (s.evaluated g low loop demands clamp top) := within_loopShown.trans within_fromLoop

theorem loop_evaluated (hloop : loop < 8) : (s.evaluated g low loop demands clamp top).get R.TRKn_STAT_LOOP g = loop :=
  (within_fromLoop.gets (rs := [R.TRKn_STAT_LOOP]) (by decide +kernel) _ (by simp) g).trans (loop_loopShown hloop)

theorem governed_evaluated : (s.evaluated g low loop demands clamp top).get R.TRKn_STAT_GOVERNED g = (loop == 1).toNat :=
  ((within_flag.trans within_fromLoop).gets (rs := [R.TRKn_STAT_GOVERNED]) (by decide +kernel) _ (by simp) g).trans
    (get_set_fit g (Nat.lt_succ_of_le (Bool.toNat_le _)))

theorem region_evaluated : (s.evaluated g low loop demands clamp top).get R.CNV_Gg_STAT_REGION g = if s.on R.CNV_Gg_STAT_BURST g
    then s.get R.CNV_Gg_STAT_REGION g else nextRegion (s.get R.CNV_Gg_STAT_REGION g) (s.get R.X_LSYS g) (s.get R.X_LVBUS g) := by
  have hshown := (within_loopShown (s := s) (g := g) (low := low) (loop := loop) (demands := demands) (clamp := clamp)).gets
    (rs := [R.CNV_Gg_STAT_BURST, R.CNV_Gg_STAT_REGION, R.X_LSYS, R.X_LVBUS]) (by decide +kernel)
  rw [evaluated, within_phasesReleased.gets (rs := [R.CNV_Gg_STAT_REGION]) (by decide +kernel) _ (by simp), region_regionTaken,
    State.on, State.on, hshown _ (by simp), hshown _ (by simp), hshown _ (by simp), hshown _ (by simp)]

end

/-- What follows an evaluation (R122, R141, R175). -/
def followedFoot : List Touch := Foot.tuneFollow ++ Foot.weakFollow ++ Foot.taperCheck

theorem within_followed {bats : Nat} : within followedFoot s (((s.tuneFollow g).weakFollow g).taperCheck bats) := by
  have htune : within Foot.tuneFollow s (s.tuneFollow g) := fun _ => Part.same_tuneFollow Part.same_refl
  have hweak : ∀ t : State, within Foot.weakFollow t (t.weakFollow g) := fun _ _ => Part.same_weakFollow Part.same_refl
  have htaper : ∀ t : State, within Foot.taperCheck t (t.taperCheck bats) := fun _ _ => Part.same_taperCheck Part.same_refl
  exact (htune.trans (hweak _)).trans (htaper _)

/-- A group that runs on its ceiling keeps its state in an evaluation (R149 step 5). -/
theorem runFollow_of_run {amps : Nat} (hrun : s.gstate g = 3) (hprobe : s.instate g ≠ 5) (halloc : s.get R.TRKn_ALLOC g ≠ 0) :
    s.runFollow g amps = s := by
  rw [State.runFollow, if_neg hprobe, if_neg halloc, if_neg (by simp [hrun])]

end State

section
variable {s : State} {g : Fin 4} {vin iin ibat vbat vsys reduced amps sys vbus bats : Nat}
open State

theorem exec_loopEvaluation (hrun : s.gstate g = 3) (hprobe : s.instate g ≠ 5) (halloc : s.get R.TRKn_ALLOC g ≠ 0) :
    exec (.loopEvaluation g vin iin ibat vbat vsys reduced amps sys vbus bats) s =
      .next (((((s.targeted g sys vbus bats).loopsEvaluated g vin iin ibat vbat vsys reduced).tuneFollow g).weakFollow g).taperCheck
        bats) := by
  have htargeted : within (sensedFoot ++ renewedFoot) s (s.targeted g sys vbus bats) := within_targeted
  have hrunning := (htargeted.gstate (by decide +kernel) g).trans hrun
  have hall : within (sensedFoot ++ renewedFoot ++ evaluatedFoot) s
      ((s.targeted g sys vbus bats).loopsEvaluated g vin iin ibat vbat vsys reduced) := htargeted.trans within_evaluated
  have hkept := hall.gets (rs := [R.INn_STAT_STATE, R.TRKn_ALLOC]) (by decide +kernel)
  have hfollow := runFollow_of_run (amps := amps) ((hall.gstate (by decide +kernel) g).trans hrun)
    (ne_of_eq_of_ne (hkept R.INn_STAT_STATE (by simp) g) hprobe) (ne_of_eq_of_ne (hkept R.TRKn_ALLOC (by simp) g) halloc)
  have hdrawing : (s.targeted g sys vbus bats).drawing g = true := by simp [State.drawing, hrunning]
  refine (congrArg (fun t : State => Host.Outcome.next ((t.weakFollow g).taperCheck bats)) (if_pos hdrawing)).trans ?_
  exact congrArg (fun t : State => Host.Outcome.next (((t.tuneFollow g).weakFollow g).taperCheck bats)) hfollow

/-- The clause of O5 on LOOP_EVALUATION. -/
theorem loopEvaluation_gives (hrun : s.gstate g = 3) (hprobe : s.instate g ≠ 5) (halloc : s.get R.TRKn_ALLOC g ≠ 0)
    (hsys : sys < 65536) (hvbus : vbus < 65536) :
    Gives (exec (.loopEvaluation g vin iin ibat vbat vsys reduced amps sys vbus bats) s) (fun t =>
      t.get R.TRKn_STAT_LOOP g = governing vin iin ibat vbat vsys ∧
        t.on R.TRKn_STAT_GOVERNED g = (governing vin iin ibat vbat vsys == 1) ∧
        t.get R.CNV_Gg_STAT_REGION g = (if s.on R.CNV_Gg_STAT_BURST g then s.get R.CNV_Gg_STAT_REGION g
          else nextRegion (s.get R.CNV_Gg_STAT_REGION g) sys vbus) ∧ t.get R.X_SYSS = sys ∧ t.get R.X_VBUS g = vbus) := by
  have hsenses : senses g sys vbus (s.targeted g sys vbus bats) := (senses_sensed hsys hvbus).within within_renewed (by decide +kernel)
  have hbefore := (within_targeted (s := s) (g := g) (sys := sys) (vbus := vbus) (bats := bats)).gets
    (rs := [R.CNV_Gg_STAT_BURST, R.CNV_Gg_STAT_REGION]) (by decide +kernel)
  have hafter : within followedFoot ((s.targeted g sys vbus bats).loopsEvaluated g vin iin ibat vbat vsys reduced) _ :=
    within_followed (g := g) (bats := bats)
  have hshown := hafter.gets (rs := [R.TRKn_STAT_LOOP, R.TRKn_STAT_GOVERNED, R.CNV_Gg_STAT_REGION]) (by decide +kernel)
  have hsensed := (hsenses.within within_evaluated (by decide +kernel)).within hafter (by decide +kernel)
  refine ⟨_, exec_loopEvaluation hrun hprobe halloc, ?_, ?_, ?_, hsensed.atSys, hsensed.atVbus⟩
  · exact (hshown _ (by simp) g).trans (loop_evaluated (governing_lt ..))
  · rw [State.on, hshown _ (by simp), loopsEvaluated, governed_evaluated]
    cases governing vin iin ibat vbat vsys == 1 <;> rfl
  · rw [hshown _ (by simp), loopsEvaluated, region_evaluated, hsenses.lastSys, hsenses.lastVbus, State.on, hbefore _ (by simp),
      hbefore _ (by simp)]
    rfl

end
end Sys2Proof.Machine
end

section
/-! PROOFS. The tuning of a group, the dead times and the zero-cross threshold of a phase (R141, R142, R145, R146). -/

-- One theorem at a time: each decision by the kernel waits for all declarations before it and holds a thread meanwhile.
set_option Elab.async false

namespace Sys2Proof.Machine

section
variable {s t : State} {g : Fin 4} {p : Fin 6}
open State

/-! ### Tuning -/

/-- A group's tuning run is over, with its factors in force (R141, R142). -/
def State.tuned (s : State) (g kp ki : Nat) : State :=
  (((s.flag R.X_TUNE false g).flag R.X_TUNING false g).set R.CNV_Gg_KP kp g).set R.CNV_Gg_KI ki g

/-- What a group shows whose tuning run is over. -/
structure State.showsTuned (g : Fin 4) (kp ki : Nat) (t : State) : Prop where
  due : t.on R.X_TUNE g = false
  running : t.on R.X_TUNING g = false
  kp : t.get R.CNV_Gg_KP g = kp
  ki : t.get R.CNV_Gg_KI g = ki

theorem State.showsTuned_of_within {l : List Touch} {kp ki : Nat} (hkp : kp ≤ 1024) (hki : ki ≤ 1024) (h : within l (s.tuned g kp ki) t)
    (hoff : sparesRegs l [R.X_TUNE, R.X_TUNING, R.CNV_Gg_KP, R.CNV_Gg_KI] = true) : t.showsTuned g kp ki := by
  have hget := h.gets hoff
  have hdue := (((within_flag (s := s.flag R.X_TUNE false g) (r := R.X_TUNING) (b := false) (i := g)).trans
    (within_set (r := R.CNV_Gg_KP) (v := kp) (i := g))).trans (within_set (r := R.CNV_Gg_KI) (v := ki) (i := g))).gets
    (rs := [R.X_TUNE]) (by decide +kernel) R.X_TUNE (by simp) g
  have hrunning := ((within_set (s := (s.flag R.X_TUNE false g).flag R.X_TUNING false g) (r := R.CNV_Gg_KP) (v := kp) (i := g)).trans
    (within_set (r := R.CNV_Gg_KI) (v := ki) (i := g))).gets (rs := [R.X_TUNING]) (by decide +kernel) R.X_TUNING (by simp) g
  refine ⟨?_, ?_, ?_, ?_⟩
  · exact (congrArg (· != 0) ((hget _ (by simp) g).trans hdue)).trans (on_flag_self _ _ _ _ (by decide))
  · exact (congrArg (· != 0) ((hget _ (by simp) g).trans hrunning)).trans (on_flag_self _ _ _ _ (by decide))
  · exact ((hget _ (by simp) g).trans (within_set.gets (rs := [R.CNV_Gg_KP]) (by decide +kernel) _ (by simp) g)).trans
      (get_set_fit g (Nat.lt_of_le_of_lt hkp (by decide)))
  · exact (hget _ (by simp) g).trans (get_set_fit g (Nat.lt_of_le_of_lt hki (by decide)))

/-- The clause of O5 on TUNING_COMPLETE. -/
theorem tuningComplete_gives {kp ki : Nat} (htuning : s.on R.X_TUNING g = true) (hholds : s.tuneHolds g = true) (hkp : 64 ≤ kp)
    (hkp' : kp ≤ 1024) (hki : 64 ≤ ki) (hki' : ki ≤ 1024) : Gives (exec (.tuningComplete g kp ki) s) (fun t =>
      t.get R.CNV_Gg_KP g = kp ∧ t.get R.CNV_Gg_KI g = ki ∧ t.on R.CNV_Gg_STAT_TUNED g ∧ t.on R.X_TUNE g = false ∧
        t.on R.X_TUNING g = false) := by
  have hkept : ∀ t : State, within ([.reg R.X_KP_OK] ++ [.reg R.X_KI_OK]) t ((t.set R.X_KP_OK kp g).set R.X_KI_OK ki g) := fun _ =>
    within_set.trans within_set
  have hshows := showsTuned_of_within (s := s) (g := g) hkp' hki'
    ((within_flag (r := R.CNV_Gg_STAT_TUNED) (b := true) (i := g)).trans (hkept _)) (by decide +kernel)
  have hexec : exec (.tuningComplete g kp ki) s =
      .next ((((s.tuned g kp ki).flag R.CNV_Gg_STAT_TUNED true g).set R.X_KP_OK kp g).set R.X_KI_OK ki g) :=
    congrArg Host.Outcome.next ((if_neg (by simp [htuning])).trans ((if_neg (by simp [hholds])).trans (if_pos ⟨hkp, hkp', hki, hki'⟩)))
  refine ⟨_, hexec, hshows.kp, hshows.ki, ?_, hshows.due, hshows.running⟩
  exact (congrArg (· != 0) ((hkept _).gets (rs := [R.CNV_Gg_STAT_TUNED]) (by decide +kernel) _ (by simp) g)).trans
    (on_flag_self _ _ _ _ (by decide))

/-- The clause of O5 on TUNE_FAIL. -/
theorem tuneFail_gives (hdue : s.on R.X_TUNE g = true) : Gives (exec (.tuneFail g) s) (fun t =>
    t.on R.X_TUNE g = false ∧ t.get R.CNV_Gg_KP g = 256 ∧ t.get R.CNV_Gg_KI g = 256 ∧ t.bit R.CNV_FAULT_TUNE_FAIL g) := by
  have hlatch : within (Foot.latch R.CNV_FAULT_TUNE_FAIL) (s.tuned g 256 256) ((s.tuned g 256 256).latch R.CNV_FAULT_TUNE_FAIL g) :=
    fun _ => Part.same_latch Part.same_refl
  have hshows := showsTuned_of_within (by decide) (by decide) hlatch (by decide +kernel)
  exact ⟨_, congrArg Host.Outcome.next (if_pos hdue), hshows.due, hshows.kp, hshows.ki, bit_latch g.isLt (by decide +kernel)⟩

/-- The clause of O5 on RETUNE. -/
theorem retune_gives (hrun : s.gstate g = 3) : Gives (exec (.retune g) s) (fun t => t.on R.X_TUNE g ∧ t.gstate g = 3) :=
  ⟨_, congrArg Host.Outcome.next (if_pos hrun), tune_tuneDue, (within_tuneDue.gstate (by decide +kernel) g).trans hrun⟩

/-! ### Dead times and the zero-cross threshold -/

/-- The clause of O5 on DEAD_TIME_UPDATE. -/
theorem deadTimeUpdate_gives {edge : Fin 4} {diode gate : Bool} {fall : Nat} (hlearn : s.on R.CNV_DT_INIT_LEARN = true)
    (hswitching : s.on R.CNV_PHn_STAT_SWITCHING p = true) (hburst : s.on R.CNV_Gg_STAT_BURST (s.get R.CNV_PHn_STAT_GROUP p - 1) = false)
    (hload : (s.get R.CNV_PH_IMAX : Int) ≤ 10 * s.getS R.CNV_PHn_I p) : Gives (exec (.deadTimeUpdate p edge diode gate fall) s)
    (fun t => t.get (deadTime edge) p = (if gate then min (s.get (deadTime edge) p + 1) 40 else
      if diode ∧ max fall 2 < s.get (deadTime edge) p then s.get (deadTime edge) p - 1 else s.get (deadTime edge) p)) := by
  have hwidth : ∀ edge : Fin 4, (deadTime edge).width = 6 := by decide
  have hlt : s.get (deadTime edge) p < 64 := (get_lt s (deadTime edge) p).trans_eq (by rw [hwidth]; rfl)
  have hfit : ∀ v < 64, (s.set (deadTime edge) v p).get (deadTime edge) p = v := fun v hv =>
    get_set_fit p (by rw [hwidth]; exact hv)
  refine ⟨_, congrArg Host.Outcome.next (if_pos (by simp [hlearn, hswitching, hburst, hload])), ?_⟩
  split_ifs
  · exact hfit _ (by omega)
  · exact hfit _ (by omega)
  · rfl

/-- The clause of O5 on ZERO_CROSS_UPDATE. -/
theorem zeroCrossUpdate_gives {diode ring : Bool} (hde : s.on R.CNV_LIGHT_DE_EN = true)
    (hswitching : s.on R.CNV_PHn_STAT_SWITCHING p = true) (hlow : -40 ≤ s.getS R.CNV_PHn_ZC_OFS p)
    (hhigh : s.getS R.CNV_PHn_ZC_OFS p ≤ 40) : Gives (exec (.zeroCrossUpdate p diode ring) s) (fun t =>
      t.getS R.CNV_PHn_ZC_OFS p = (if diode = ring then s.getS R.CNV_PHn_ZC_OFS p
        else if diode then max (s.getS R.CNV_PHn_ZC_OFS p - 1) (-40) else min (s.getS R.CNV_PHn_ZC_OFS p + 1) 40)) := by
  have hwrite : ∀ x : Int, -40 ≤ x → x ≤ 40 → (s.setS R.CNV_PHn_ZC_OFS x p).getS R.CNV_PHn_ZC_OFS p = x := fun x hx hx' =>
    getS_setS_self p (by decide) (Int.le_trans (by decide) hx) (Int.lt_of_le_of_lt hx' (by decide))
  refine ⟨_, congrArg Host.Outcome.next (if_pos (by simp [hde, hswitching])), ?_⟩
  cases diode <;> cases ring
  case false.false | true.true => rfl
  case false.true => exact hwrite _ (by omega) (by omega)
  case true.false => exact hwrite _ (by omega) (by omega)

end
end Sys2Proof.Machine
end

section
/-! PROOFS. The phase currents of a group and the trims that follow them (R143, R144, R156, R157). -/

-- One theorem at a time: each decision by the kernel waits for all declarations before it and holds a thread meanwhile.
set_option Elab.async false

namespace Sys2Proof.Machine

/-- A trim stays within its field. -/
theorem trimStep_range {i sum trim : Int} {n : Nat} (hlow : -128 ≤ trim) (hhigh : trim < 128) :
    -128 ≤ trimStep i sum n trim ∧ trimStep i sum n trim < 128 := by
  unfold trimStep
  dsimp only
  split_ifs <;> omega

/-- A sample within the range of a phase current, and 0 where there is none. -/
theorem sample_range {cur : List Int} (h : ∀ c ∈ cur, -4000 ≤ c ∧ c ≤ 4000) (p : Nat) : -4000 ≤ cur.getD p 0 ∧ cur.getD p 0 ≤ 4000 := by
  rcases Nat.lt_or_ge p cur.length with hp | hp
  · rw [List.getD_eq_getElem _ _ hp]
    exact h _ (List.getElem_mem hp)
  · rw [List.getD_eq_default _ _ hp]
    decide

namespace State

variable {s t : State} {g p : Nat} {cur : List Int}

/-- A signed field of another phase stays as it was. -/
theorem getS_setS_other {r : Reg} {q : Nat} {x : Int} (hstride : r.stride ≠ 0) (hcount : r.count = 6) (hp : p < 6) (hq : q < 6)
    (hne : q ≠ p) : (s.setS r x q).getS r p = s.getS r p := by
  rw [State.getS, State.setS, get_set_ne _ (phase_key_ne hstride hcount hp hq hne), ← State.getS]

/-! ### The currents -/

theorem within_phaseCurrents : within Foot.phaseCurrents s (s.phaseCurrents g cur) := fun _ => Part.same_phaseCurrents Part.same_refl

theorem active_phaseCurrents : (s.phaseCurrents g cur).active = s.active := active_of_gets (within_phaseCurrents.gets (by decide +kernel))

/-- The current that a phase shows: its sample where it switches. -/
def shownCurrent (s : State) (cur : List Int) (p : Nat) : Int := if s.on R.CNV_PHn_STAT_SWITCHING p then cur.getD p 0 else 0

theorem current_phaseCurrents (hcur : ∀ c ∈ cur, -4000 ≤ c ∧ c ≤ 4000) (hp : p ∈ s.phasesOf g) :
    (s.phaseCurrents g cur).getS R.CNV_PHn_I p = s.shownCurrent cur p := by
  obtain ⟨t, ht, -, hturn⟩ := foldl_at (s := s) (I := fun t => ∀ q, t.get R.CNV_PHn_STAT_SWITCHING q = s.get R.CNV_PHn_STAT_SWITCHING q)
    (val := fun t => t.getS R.CNV_PHn_I p)
    (f := fun t q => t.setS R.CNV_PHn_I (if t.on R.CNV_PHn_STAT_SWITCHING q then cur.getD q 0 else 0) q) hp (nodup_phasesOf s g)
    (fun _ => rfl)
    (fun t q _ ht k => (within_set.gets (rs := [R.CNV_PHn_STAT_SWITCHING]) (by decide +kernel) _ (by simp) k).trans (ht k))
    fun t q hq hne _ => getS_setS_other (by decide) rfl (lt_of_mem_phasesOf hp) (lt_of_mem_phasesOf hq) hne
  have hshown : (if t.on R.CNV_PHn_STAT_SWITCHING p then cur.getD p 0 else 0) = s.shownCurrent cur p := by
    rw [shownCurrent, State.on, State.on, ht]
  have hrange : -4000 ≤ s.shownCurrent cur p ∧ s.shownCurrent cur p ≤ 4000 := by
    unfold shownCurrent
    split
    · exact sample_range hcur p
    · decide
  rw [State.phaseCurrents, State.getS, State.setS, within_set.gets (rs := [R.CNV_PHn_I]) (by decide +kernel) _ (by simp), ← State.getS,
    hturn, hshown]
  exact getS_setS_self p (by decide) (Int.le_trans (by decide) hrange.1) (Int.lt_of_le_of_lt hrange.2 (by decide))

theorem activeSum_phaseCurrents (hcur : ∀ c ∈ cur, -4000 ≤ c ∧ c ≤ 4000) : (s.phaseCurrents g cur).activeSum g = s.sampledSum g cur := by
  rw [State.activeSum, State.sampledSum, active_phaseCurrents]
  refine congrArg List.sum (List.map_congr_left fun p hp => ?_)
  obtain ⟨hphase, hswitching⟩ := mem_active.1 hp
  rw [current_phaseCurrents hcur hphase, shownCurrent, if_pos hswitching]

/-! ### The trims -/

/-- Whether the trims may move shows, and the evaluations they are still held for (R143). -/
def trimsShown (s : State) (g : Nat) (free : Bool) : State :=
  (s.set R.X_EQ_HOLD (s.get R.X_EQ_HOLD g - 32) g).flag R.CNV_Gg_STAT_EQ_ACTIVE free g

/-- The trims of the phases that switch move toward the mean of their sum (R143). -/
def trimsMoved (s : State) (act : List Nat) (sum : Int) : State :=
  act.foldl (fun t p => t.setS R.CNV_PHn_TRIM (trimStep (t.getS R.CNV_PHn_I p) sum act.length (t.getS R.CNV_PHn_TRIM p)) p) s

/-- The trims after a sample, their saturation not yet counted. -/
def trimsTaken (s : State) (g : Nat) (free : Bool) (act : List Nat) (sum : Int) : State :=
  if free then ((s.trimsShown g free).trimsMoved act sum).phasePeaks g else s.trimsShown g free

/-- The evaluations that each trim has been at its limit for are counted (R144). -/
def satCounted (s : State) (g : Nat) : State := (s.phasesOf g).foldl (fun t p => t.trimSat p) s

theorem getS_range (s : State) (r : Reg) (i : Nat) (hw : r.width = 8) : -128 ≤ s.getS r i ∧ s.getS r i < 128 := by
  have hlt := get_lt s r i
  rw [State.getS, signed]
  rw [hw] at hlt ⊢
  split_ifs <;> omega

/-- The trim of a phase after they move. -/
theorem trim_trimsMoved {act : List Nat} {sum : Int} (hlt : ∀ q ∈ act, q < 6) (hnodup : act.Nodup) (hp : p < 6) :
    (s.trimsMoved act sum).getS R.CNV_PHn_TRIM p = if p ∈ act
      then trimStep (s.getS R.CNV_PHn_I p) sum act.length (s.getS R.CNV_PHn_TRIM p) else s.getS R.CNV_PHn_TRIM p := by
  have hother : ∀ t : State, ∀ q ∈ act, q ≠ p → ∀ x, (t.setS R.CNV_PHn_TRIM x q).getS R.CNV_PHn_TRIM p = t.getS R.CNV_PHn_TRIM p :=
    fun t q hq hne x => getS_setS_other (by decide) rfl hp (hlt q hq) hne
  unfold trimsMoved
  split
  case isTrue hmem =>
    obtain ⟨t, ht, hval, hturn⟩ := foldl_at (s := s) (I := fun t => ∀ q, t.getS R.CNV_PHn_I q = s.getS R.CNV_PHn_I q)
      (val := fun t => t.getS R.CNV_PHn_TRIM p)
      (f := fun t q => t.setS R.CNV_PHn_TRIM (trimStep (t.getS R.CNV_PHn_I q) sum act.length (t.getS R.CNV_PHn_TRIM q)) q) hmem hnodup
      (fun _ => rfl)
      (fun t q _ ht k => (congrArg (signed R.CNV_PHn_I.width)
        (within_set.gets (rs := [R.CNV_PHn_I]) (by decide +kernel) _ (by simp) k)).trans (ht k))
      fun t q hq hne _ => hother t q hq hne _
    obtain ⟨hlow, hhigh⟩ := getS_range t R.CNV_PHn_TRIM p rfl
    obtain ⟨hlow', hhigh'⟩ := trimStep_range (i := t.getS R.CNV_PHn_I p) (sum := sum) (n := act.length) hlow hhigh
    refine hturn.trans ((getS_setS_self p (by decide) hlow' hhigh').trans ?_)
    rw [ht, hval]
  case isFalse hnot => exact foldl_off (val := fun t => t.getS R.CNV_PHn_TRIM p) fun t q hq => hother t q hq (fun e => hnot (e ▸ hq)) _

/-- What showing whether the trims may move changes. -/
def trimsShownFoot : List Touch := [.reg R.X_EQ_HOLD] ++ [.reg R.CNV_Gg_STAT_EQ_ACTIVE]

theorem within_trimsShown {free : Bool} : within trimsShownFoot s (s.trimsShown g free) := within_set.trans within_flag

theorem within_trimsMoved {act : List Nat} {sum : Int} : within [.reg R.CNV_PHn_TRIM] s (s.trimsMoved act sum) :=
  within_foldl fun _ _ _ => within_set

theorem within_trimsTaken {free : Bool} {act : List Nat} {sum : Int} :
    within ([.reg R.CNV_PHn_TRIM] ++ Foot.phasePeaks) (s.trimsShown g free) (s.trimsTaken g free act sum) :=
  within.ite (within_trimsMoved.trans within_phasePeaks) within_refl

theorem trim_trimsTaken {free : Bool} {act : List Nat} {sum : Int} (hlt : ∀ q ∈ act, q < 6) (hnodup : act.Nodup) (hp : p < 6) :
    (s.trimsTaken g free act sum).getS R.CNV_PHn_TRIM p = if free ∧ p ∈ act
      then trimStep (s.getS R.CNV_PHn_I p) sum act.length (s.getS R.CNV_PHn_TRIM p) else s.getS R.CNV_PHn_TRIM p := by
  have hshown := (within_trimsShown (s := s) (g := g) (free := free)).gets (rs := [R.CNV_PHn_I, R.CNV_PHn_TRIM]) (by decide +kernel)
  have hcurrent : (s.trimsShown g free).getS R.CNV_PHn_I p = s.getS R.CNV_PHn_I p := congrArg (signed _) (hshown _ (by simp) p)
  have htrim : (s.trimsShown g free).getS R.CNV_PHn_TRIM p = s.getS R.CNV_PHn_TRIM p := congrArg (signed _) (hshown _ (by simp) p)
  unfold trimsTaken
  cases free
  case false => exact htrim
  case true =>
    rw [if_pos rfl, State.getS, within_phasePeaks.gets (rs := [R.CNV_PHn_TRIM]) (by decide +kernel) _ (by simp), ← State.getS,
      trim_trimsMoved hlt hnodup hp, hcurrent, htrim]
    simp

/-! ### Trims at their limit -/

theorem within_trimSat : within Foot.trimSat s (s.trimSat p) := fun _ => Part.same_trimSat Part.same_refl

theorem within_satCounted : within Foot.trimSat s (s.satCounted g) := within_foldl fun _ _ _ => within_trimSat

/-- The count of a phase after its turn. -/
def satAfter (s : State) (p : Nat) : Nat := if (s.getS R.CNV_PHn_TRIM p).natAbs = 64 then min (s.get R.X_SAT p + 1) 1048575 else 0

theorem sat_trimSat : (s.trimSat p).get R.X_SAT p = s.satAfter p := by
  have hshow : ∀ (t : State) (b : Bool), (t.flag R.CNV_PHn_STAT_TRIM_SAT b p).get R.X_SAT p = t.get R.X_SAT p := fun _ _ =>
    within_flag.gets (rs := [R.X_SAT]) (by decide +kernel) _ (by simp) p
  unfold State.trimSat satAfter
  split
  · exact (hshow _ _).trans (get_add_self ..)
  · exact (hshow _ _).trans (get_clear_self ..)

theorem sat_trimSat_other {q : Nat} (hp : p < 6) (hq : q < 6) (hne : q ≠ p) : (s.trimSat q).get R.X_SAT p = s.get R.X_SAT p := by
  have hshow : ∀ (t : State) (b : Bool), (t.flag R.CNV_PHn_STAT_TRIM_SAT b q).get R.X_SAT p = t.get R.X_SAT p := fun _ _ =>
    within_flag.gets (rs := [R.X_SAT]) (by decide +kernel) _ (by simp) p
  have hkey := phase_key_ne (r := R.X_SAT) (by decide) rfl hp hq hne
  unfold State.trimSat
  split
  · exact (hshow _ _).trans (get_set_ne _ hkey)
  · exact (hshow _ _).trans (get_clear_ne hkey)

theorem sat_satCounted (hp : p ∈ s.phasesOf g) : (s.satCounted g).get R.X_SAT p = s.satAfter p := by
  obtain ⟨t, ht, hval, hturn⟩ := foldl_at (s := s) (I := fun t => ∀ q, t.get R.CNV_PHn_TRIM q = s.get R.CNV_PHn_TRIM q)
    (val := fun t => t.get R.X_SAT p) (f := fun t q => t.trimSat q) hp (nodup_phasesOf s g) (fun _ => rfl)
    (fun t q _ ht k => (within_trimSat.gets (rs := [R.CNV_PHn_TRIM]) (by decide +kernel) _ (by simp) k).trans (ht k))
    fun t q hq hne _ => sat_trimSat_other (lt_of_mem_phasesOf hp) (lt_of_mem_phasesOf hq) hne
  refine hturn.trans (sat_trimSat.trans ?_)
  rw [satAfter, satAfter, State.getS, State.getS, ht, hval]

end State

section
variable {s : State} {g : Fin 4} {cur : List Int}
open State

/-- Whether the trims are free, as the command reads it off the state with the currents (R143). -/
def State.freeNow (s : State) (g : Nat) : Bool :=
  s.gstate g == 3 && 2 ≤ (s.active g).length && !s.on R.CNV_Gg_STAT_BURST g && !s.on R.X_TUNING g && s.get R.X_EQ_HOLD g == 0 &&
    decide ((s.get R.CNV_PH_IMAX * (s.active g).length : Int) < 5 * s.activeSum g)

theorem freeNow_phaseCurrents (hcur : ∀ c ∈ cur, -4000 ≤ c ∧ c ≤ 4000) : (s.phaseCurrents g cur).freeNow g = s.trimsFree g cur := by
  have hget := (within_phaseCurrents (s := s) (g := g) (cur := cur)).gets (rs := [R.CNV_Gg_STAT_STATE, R.CNV_Gg_STAT_BURST, R.X_TUNING,
    R.X_EQ_HOLD, R.CNV_PH_IMAX]) (by decide +kernel)
  rw [State.freeNow, State.trimsFree, activeSum_phaseCurrents hcur, active_phaseCurrents]
  simp only [State.gstate, State.on, hget R.CNV_Gg_STAT_STATE (by simp), hget R.CNV_Gg_STAT_BURST (by simp),
    hget R.X_TUNING (by simp), hget R.X_EQ_HOLD (by simp), hget R.CNV_PH_IMAX (by simp), Nat.cast_mul]

theorem exec_equalisationUpdate (hcur : ∀ c ∈ cur, -4000 ≤ c ∧ c ≤ 4000) : exec (.equalisationUpdate g cur) s =
    .next (((s.phaseCurrents g cur).trimsTaken g (s.trimsFree g cur) (s.active g) (s.sampledSum g cur)).satCounted g) := by
  rw [← freeNow_phaseCurrents hcur, ← active_phaseCurrents (s := s) (g := g) (cur := cur), ← activeSum_phaseCurrents hcur]
  rfl

/-- The clause of O5 on EQUALISATION_UPDATE. -/
theorem equalisationUpdate_gives (hcur : ∀ c ∈ cur, -4000 ≤ c ∧ c ≤ 4000) : Gives (exec (.equalisationUpdate g cur) s) (fun t =>
    (∀ p ∈ s.phasesOf g, t.getS R.CNV_PHn_I p = (if s.on R.CNV_PHn_STAT_SWITCHING p then cur.getD p 0 else 0)) ∧
      t.on R.CNV_Gg_STAT_EQ_ACTIVE g = s.trimsFree g cur ∧ t.get R.X_EQ_HOLD g = s.get R.X_EQ_HOLD g - 32 ∧
      (∀ p ∈ s.phasesOf g, t.getS R.CNV_PHn_TRIM p = (if s.trimsFree g cur && s.on R.CNV_PHn_STAT_SWITCHING p
        then trimStep (cur.getD p 0) (s.sampledSum g cur) (s.active g).length (s.getS R.CNV_PHn_TRIM p)
        else s.getS R.CNV_PHn_TRIM p)) ∧
      (∀ p ∈ s.phasesOf g, t.get R.X_SAT p =
        (if (t.getS R.CNV_PHn_TRIM p).natAbs = 64 then min (s.get R.X_SAT p + 1) 1048575 else 0))) := by
  have hsampled := (within_phaseCurrents (s := s) (g := g) (cur := cur)).gets
    (rs := [R.X_EQ_HOLD, R.CNV_PHn_TRIM, R.CNV_PHn_STAT_GROUP, R.X_SAT]) (by decide +kernel)
  let u := (s.phaseCurrents g cur).trimsTaken g (s.trimsFree g cur) (s.active g) (s.sampledSum g cur)
  have hmoved : within _ _ u := within_trimsTaken
  have htaken : within _ _ u := within_trimsShown.trans hmoved
  have hsat : within Foot.trimSat u (u.satCounted g) := within_satCounted
  have hphases : u.phasesOf g = s.phasesOf g := congrFun (phasesOf_of_get fun p =>
    (htaken.gets (rs := [R.CNV_PHn_STAT_GROUP]) (by decide +kernel) _ (by simp) p).trans (hsampled _ (by simp) p)) g
  have htrims : ∀ p, (u.satCounted g).getS R.CNV_PHn_TRIM p = u.getS R.CNV_PHn_TRIM p := fun p =>
    congrArg (signed _) (hsat.gets (rs := [R.CNV_PHn_TRIM]) (by decide +kernel) _ (by simp) p)
  refine ⟨_, exec_equalisationUpdate hcur, fun p hp => ?_, ?_, ?_, fun p hp => ?_, fun p hp => ?_⟩
  · exact (congrArg (signed _) ((htaken.trans hsat).gets (rs := [R.CNV_PHn_I]) (by decide +kernel) R.CNV_PHn_I (by simp) p)).trans
      (current_phaseCurrents hcur hp)
  · exact (congrArg (· != 0) ((hmoved.trans hsat).gets (rs := [R.CNV_Gg_STAT_EQ_ACTIVE]) (by decide +kernel) _ (by simp) g)).trans
      (on_flag_self _ _ _ _ (by decide))
  · refine ((within_flag.trans (hmoved.trans hsat)).gets (rs := [R.X_EQ_HOLD]) (by decide +kernel) _ (by simp) g).trans ?_
    rw [hsampled _ (by simp)]
    exact get_set_fit g (Nat.lt_of_le_of_lt (Nat.sub_le ..) (get_lt s R.X_EQ_HOLD g))
  · have hmem : p ∈ s.active g ↔ s.on R.CNV_PHn_STAT_SWITCHING p = true := by simp [mem_active, hp]
    have htrim : (s.phaseCurrents g cur).getS R.CNV_PHn_TRIM p = s.getS R.CNV_PHn_TRIM p :=
      congrArg (signed _) (hsampled _ (by simp) p)
    rw [htrims, trim_trimsTaken (fun _ => lt_of_mem_active) (nodup_active s g) (lt_of_mem_phasesOf hp), htrim,
      current_phaseCurrents hcur hp, shownCurrent]
    cases hswitching : s.on R.CNV_PHn_STAT_SWITCHING p <;> simp [hmem, hswitching]
  · rw [sat_satCounted (by rwa [hphases]), htrims, satAfter,
      htaken.gets (rs := [R.X_SAT]) (by decide +kernel) _ (by simp), hsampled _ (by simp)]

end
end Sys2Proof.Machine
end

section
/-! PROOFS. The shed evaluation of a group (R147): the sample that it takes, the phase it sheds and the one it adds back. -/

-- One theorem at a time: each decision by the kernel waits for all declarations before it and holds a thread meanwhile.
set_option Elab.async false

namespace Sys2Proof.Machine
namespace State

variable {s t : State} {g p : Nat} {cur : List Int} {de : Bool}

/-! ### The sample and the counts -/

/-- The currents of a shed evaluation are taken, and DE shows. -/
def shedSampled (s : State) (g : Nat) (cur : List Int) (de : Bool) : State :=
  (s.phaseCurrents g cur).flag R.CNV_Gg_STAT_DE (de && s.diode g) g

/-- The counts of the evaluations below and above the thresholds, as the command reads them off a state with the currents. -/
def lowNow (s : State) (g : Nat) : Nat :=
  if 100 * s.activeSum g < 15 * (s.get R.CNV_PH_IMAX * (s.active g).length : Int) then min (s.get R.X_SHED_LOW g + 1) 8 else 0
def highNow (s : State) (g : Nat) : Nat :=
  if 30 * (s.get R.CNV_PH_IMAX * (s.active g).length : Int) < 100 * s.activeSum g then min (s.get R.X_SHED_HIGH g + 1) 2 else 0

/-- A shed evaluation has counted. -/
def shedCounted (s : State) (g low high : Nat) : State := (s.set R.X_SHED_LOW low g).set R.X_SHED_HIGH high g

/-- What taking the sample changes. -/
def sampledFoot : List Touch := Foot.phaseCurrents ++ [.reg R.CNV_Gg_STAT_DE]

theorem within_shedSampled : within sampledFoot s (s.shedSampled g cur de) := within_phaseCurrents.trans within_flag

theorem active_shedSampled : (s.shedSampled g cur de).active = s.active := active_of_gets (within_shedSampled.gets (by decide +kernel))

theorem activeSum_shedSampled (hcur : ∀ c ∈ cur, -4000 ≤ c ∧ c ≤ 4000) :
    (s.shedSampled g cur de).activeSum g = s.sampledSum g cur := by
  rw [← activeSum_phaseCurrents hcur, State.activeSum, State.activeSum, active_shedSampled, active_phaseCurrents]
  exact congrArg List.sum (List.map_congr_left fun p _ =>
    congrArg (signed _) (within_flag.gets (rs := [R.CNV_PHn_I]) (by decide +kernel) _ (by simp) p))

theorem current_shedSampled (hcur : ∀ c ∈ cur, -4000 ≤ c ∧ c ≤ 4000) (hp : p ∈ s.phasesOf g) :
    (s.shedSampled g cur de).getS R.CNV_PHn_I p = s.shownCurrent cur p :=
  (congrArg (signed _) (within_flag.gets (rs := [R.CNV_PHn_I]) (by decide +kernel) R.CNV_PHn_I (by simp) p)).trans
    (current_phaseCurrents hcur hp)

theorem lowNow_shedSampled (hcur : ∀ c ∈ cur, -4000 ≤ c ∧ c ≤ 4000) : (s.shedSampled g cur de).lowNow g = s.lowCount g cur := by
  have hget := (within_shedSampled (s := s) (g := g) (cur := cur) (de := de)).gets (rs := [R.CNV_PH_IMAX, R.X_SHED_LOW])
    (by decide +kernel)
  rw [lowNow, State.lowCount, activeSum_shedSampled hcur, active_shedSampled, hget _ (by simp), hget _ (by simp), Nat.cast_mul]

theorem highNow_shedSampled (hcur : ∀ c ∈ cur, -4000 ≤ c ∧ c ≤ 4000) : (s.shedSampled g cur de).highNow g = s.highCount g cur := by
  have hget := (within_shedSampled (s := s) (g := g) (cur := cur) (de := de)).gets (rs := [R.CNV_PH_IMAX, R.X_SHED_HIGH])
    (by decide +kernel)
  rw [highNow, State.highCount, activeSum_shedSampled hcur, active_shedSampled, hget _ (by simp), hget _ (by simp), Nat.cast_mul]

theorem lowCount_le : s.lowCount g cur ≤ 8 := by
  unfold State.lowCount
  split_ifs <;> omega

theorem highCount_le : s.highCount g cur ≤ 2 := by
  unfold State.highCount
  split_ifs <;> omega

/-- The state of a shed evaluation whose sample is counted. -/
def shedTaken (s : State) (g : Nat) (cur : List Int) (de : Bool) : State :=
  (s.shedSampled g cur de).shedCounted g (s.lowCount g cur) (s.highCount g cur)

theorem within_shedCounted {low high : Nat} : within ([.reg R.X_SHED_LOW] ++ [.reg R.X_SHED_HIGH]) s (s.shedCounted g low high) :=
  within_set.trans within_set

theorem within_shedTaken : within (sampledFoot ++ ([.reg R.X_SHED_LOW] ++ [.reg R.X_SHED_HIGH])) s (s.shedTaken g cur de) :=
  within_shedSampled.trans within_shedCounted

theorem active_shedTaken : (s.shedTaken g cur de).active = s.active := active_of_gets (within_shedTaken.gets (by decide +kernel))

theorem de_shedSampled : (s.shedSampled g cur de).on R.CNV_Gg_STAT_DE g = (de && s.diode g) := on_flag_self _ _ _ _ (by decide)

/-- DE shows what the sample says through what follows it. -/
theorem de_shedTaken {l : List Touch} (h : within l (s.shedTaken g cur de) t) (hoff : sparesRegs l [R.CNV_Gg_STAT_DE] = true) :
    t.on R.CNV_Gg_STAT_DE g = (de && s.diode g) := by
  rw [State.on, h.gets hoff _ (by simp), shedTaken, within_shedCounted.gets (rs := [R.CNV_Gg_STAT_DE]) (by decide +kernel) _ (by simp)]
  exact de_shedSampled

/-! ### A phase is shed -/

/-- Without its last element a list without duplicates is what is left of it once that element is taken out. -/
theorem filter_ne_getLast {l : List Nat} (hnodup : l.Nodup) (hlast : l.getLast? = some p) : l.filter (· != p) = l.dropLast := by
  obtain ⟨m, rfl⟩ := List.getLast?_eq_some_iff.1 hlast
  have hfresh : ∀ q ∈ m, q ≠ p := fun q hq e =>
    (List.nodup_append.1 hnodup).2.2 q hq p (List.mem_singleton_self p) e
  simpa [List.filter_append] using hfresh

/-- What shedding a phase changes once it has stopped. -/
def shedRestFoot : List Touch := [.reg R.CNV_PHn_STAT_SHED] ++ Foot.countActive ++ [.reg R.X_EQ_HOLD] ++ [.reg R.X_TUNING] ++
  Foot.phasePeaks ++ [.reg R.X_SHED_LOW]

theorem within_shedRest : within shedRestFoot (s.switchPhase p false) (s.shedPhase g p) :=
  ((((within_flag.trans within_countActive).trans within_set).trans within_flag).trans within_phasePeaks).trans within_clear

theorem within_shedPhase : within (Foot.switchPhase ++ shedRestFoot) s (s.shedPhase g p) := within_switchPhase.trans within_shedRest

/-- The phases that switch once the last of them is shed. -/
theorem active_shedPhase (hlast : (s.active g).getLast? = some p) : (s.shedPhase g p).active g = (s.active g).dropLast := by
  have hp : p ∈ s.active g := List.mem_of_getLast? hlast
  have hphases : (s.shedPhase g p).phasesOf g = s.phasesOf g := congrFun (phasesOf_of_get
    (within_shedPhase.gets (rs := [R.CNV_PHn_STAT_GROUP]) (by decide +kernel) _ (by simp))) g
  have hswitching : ∀ q ∈ s.phasesOf g, (s.shedPhase g p).on R.CNV_PHn_STAT_SWITCHING q =
      (q != p && s.on R.CNV_PHn_STAT_SWITCHING q) := fun q hq => by
    rw [State.on, within_shedRest.gets (rs := [R.CNV_PHn_STAT_SWITCHING]) (by decide +kernel) _ (by simp), ← State.on]
    by_cases hqp : q = p
    · subst hqp
      simp [switching_switchPhase_self]
    · rw [switching_switchPhase_other (lt_of_mem_phasesOf hq) (lt_of_mem_active hp) (Ne.symm hqp)]
      simp [hqp]
  rw [← filter_ne_getLast (nodup_active s g) hlast, State.active, State.active, hphases, List.filter_filter]
  exact List.filter_congr hswitching

theorem shed_shedPhase : (s.shedPhase g p).on R.CNV_PHn_STAT_SHED p = true := by
  have hlater : within (Foot.countActive ++ [.reg R.X_EQ_HOLD] ++ [.reg R.X_TUNING] ++ Foot.phasePeaks ++ [.reg R.X_SHED_LOW])
      ((s.switchPhase p false).flag R.CNV_PHn_STAT_SHED true p) (s.shedPhase g p) :=
    (((within_countActive.trans within_set).trans within_flag).trans within_phasePeaks).trans within_clear
  rw [State.on, hlater.gets (rs := [R.CNV_PHn_STAT_SHED]) (by decide +kernel) _ (by simp), ← State.on]
  exact on_flag_self _ _ _ _ (by decide)

/-- What shedding a phase leaves of its group's own fields (R142, R143, R147). -/
theorem group_shedPhase {g : Fin 4} : (s.shedPhase g p).get R.X_SHED_LOW g = 0 ∧ (s.shedPhase g p).get R.X_EQ_HOLD g = 256 ∧
    (s.shedPhase g p).on R.X_TUNING g = false := by
  refine ⟨get_clear_self .., ?_, ?_⟩
  · exact (((within_flag.trans within_phasePeaks).trans within_clear).gets (rs := [R.X_EQ_HOLD]) (by decide +kernel) _ (by simp) g).trans
      (get_set_fit g (by decide))
  · exact (congrArg (· != 0) ((within_phasePeaks.trans within_clear).gets (rs := [R.X_TUNING]) (by decide +kernel) _ (by simp) g)).trans
      (on_flag_self _ _ _ _ (by decide))

/-! ### A phase is added back -/

/-- What a phase that joins its group changes once it switches. -/
def joinedFoot : List Touch := [.reg R.CNV_PHn_TRIM] ++ [.reg R.CNV_PHn_STAT_TRIM_SAT] ++ Foot.countActive ++ [.reg R.X_EQ_HOLD] ++
  [.reg R.X_TUNING] ++ Foot.phasePeaks

theorem within_joined : within joinedFoot ((s.flag R.CNV_PHn_STAT_SHED false p).switchPhase p true) (s.joinPhase g p) :=
  ((((within_set.trans within_flag).trans within_countActive).trans within_set).trans within_flag).trans within_phasePeaks

theorem switching_joinPhase : (s.joinPhase g p).on R.CNV_PHn_STAT_SWITCHING p = true := by
  rw [State.on, within_joined.gets (rs := [R.CNV_PHn_STAT_SWITCHING]) (by decide +kernel) _ (by simp), ← State.on]
  exact switching_switchPhase_self

theorem shed_joinPhase : (s.joinPhase g p).on R.CNV_PHn_STAT_SHED p = false := by
  rw [State.on, (within_switchPhase.trans within_joined).gets (rs := [R.CNV_PHn_STAT_SHED]) (by decide +kernel) _ (by simp), ← State.on]
  exact on_flag_self _ _ _ _ (by decide)

theorem trim_joinPhase : (s.joinPhase g p).getS R.CNV_PHn_TRIM p = 0 := by
  have hlater : ∀ t : State, within ([.reg R.CNV_PHn_STAT_TRIM_SAT] ++ Foot.countActive ++ [.reg R.X_EQ_HOLD] ++ [.reg R.X_TUNING] ++
      Foot.phasePeaks) t (((((t.flag R.CNV_PHn_STAT_TRIM_SAT false p).countActive g).set R.X_EQ_HOLD 256 g).flag R.X_TUNING false
        g).phasePeaks g) := fun _ =>
    (((within_flag.trans within_countActive).trans within_set).trans within_flag).trans within_phasePeaks
  exact (congrArg (signed _) ((hlater _).gets (rs := [R.CNV_PHn_TRIM]) (by decide +kernel) _ (by simp) p)).trans
    (getS_setS_self p (by decide) (by decide) (by decide))

theorem eqHold_joinPhase {g : Fin 4} : (s.joinPhase g p).get R.X_EQ_HOLD g = 256 :=
  ((within_flag.trans within_phasePeaks).gets (rs := [R.X_EQ_HOLD]) (by decide +kernel) _ (by simp) g).trans (get_set_fit g (by decide))

/-- The shed phase that a group adds back (R147). -/
def shedFirst (s : State) (g : Nat) : Option Nat := (s.usable g).find? (fun q => s.on R.CNV_PHn_STAT_SHED q)

theorem addBack_some (hrun : s.gstate g = 3) (hen : s.on R.CNV_LIGHT_SHED_EN = true) (hburst : s.on R.CNV_Gg_STAT_BURST g = false)
    (hfirst : s.shedFirst g = some p) : s.addBack g = (s.joinPhase g p).clear R.X_SHED_HIGH g := by
  unfold shedFirst at hfirst
  rw [State.addBack, if_pos ⟨hrun, hen, by simp [hburst]⟩, hfirst]

theorem addBack_none (hfirst : s.shedFirst g = none) : s.addBack g = s := by
  unfold shedFirst at hfirst
  rw [State.addBack, hfirst, ite_self]

end State

section
variable {s : State} {g : Fin 4} {cur : List Int} {de full : Bool}
open State

/-! ### The evaluation -/

/-- What an evaluation in RUN does, once it has counted (R147). -/
def State.shedDecided (s : State) (g : Nat) (act : List Nat) (low high : Nat) (full : Bool) : State :=
  if high = 2 ∨ full ∨ act = [] ∨ s.on R.CNV_Gg_STAT_PH_LIMIT g then s.addBack g
  else if low = 8 ∧ 2 ≤ act.length then act.getLast?.elim s (s.shedPhase g) else s

theorem exec_shedEvaluation (hdraws : s.gstate g = 2 ∨ s.gstate g = 3) : exec (.shedEvaluation g cur de full) s =
    .next (let s1 := s.shedSampled g cur de
      if s1.gstate g = 3 ∧ s1.on R.CNV_LIGHT_SHED_EN ∧ !s1.on R.CNV_Gg_STAT_BURST g then
        (s1.shedCounted g (s1.lowNow g) (s1.highNow g)).shedDecided g (s1.active g) (s1.lowNow g) (s1.highNow g) full
      else s1) := by
  refine congrArg Host.Outcome.next ((if_pos hdraws).trans ?_)
  simp only [lowNow, highNow, shedDecided, shedCounted, shedSampled, decide_eq_true_eq]
  congr!
  cases (((s.phaseCurrents g cur).flag R.CNV_Gg_STAT_DE (de && s.diode g) g).active g).getLast? <;> rfl

/-- Outside of RUN, without shedding and in burst the sample alone is taken. -/
theorem exec_shedEvaluation_rest
    (hrest : s.gstate g = 2 ∨ s.gstate g = 3 ∧ (s.on R.CNV_LIGHT_SHED_EN = false ∨ s.on R.CNV_Gg_STAT_BURST g = true)) :
    exec (.shedEvaluation g cur de full) s = .next (s.shedSampled g cur de) := by
  have hget := (within_shedSampled (s := s) (g := g) (cur := cur) (de := de)).gets
    (rs := [R.CNV_Gg_STAT_STATE, R.CNV_LIGHT_SHED_EN, R.CNV_Gg_STAT_BURST]) (by decide +kernel)
  rw [exec_shedEvaluation (hrest.imp_right And.left)]
  refine congrArg Host.Outcome.next (if_neg ?_)
  rw [State.gstate, State.on, State.on, hget _ (by simp), hget _ (by simp), hget _ (by simp)]
  rintro ⟨hrun, hen, hburst⟩
  rcases hrest with hramp | ⟨-, hoff | hon⟩
  · exact absurd (hramp.symm.trans hrun) (by decide)
  · exact absurd (hoff.symm.trans hen) (by decide)
  · simp [State.on] at hon hburst
    exact hon hburst

/-- What a group in RUN has that sheds and adds back (R147). -/
structure State.sheds (g : Fin 4) (s : State) : Prop where
  run : s.gstate g = 3
  enabled : s.on R.CNV_LIGHT_SHED_EN = true
  noBurst : s.on R.CNV_Gg_STAT_BURST g = false

theorem State.sheds.within {l : List Touch} {t : State} (hs : s.sheds g) (h : State.within l s t)
    (hoff : sparesRegs l [R.CNV_Gg_STAT_STATE, R.CNV_LIGHT_SHED_EN, R.CNV_Gg_STAT_BURST] = true) : t.sheds g := by
  have hget := h.gets hoff
  obtain ⟨hrun, hen, hburst⟩ := hs
  refine ⟨(hget _ (by simp) g).trans hrun, ?_, ?_⟩
  · rwa [State.on, hget _ (by simp)]
  · rwa [State.on, hget _ (by simp)]

theorem exec_shedEvaluation_run (hs : s.sheds g) (hcur : ∀ c ∈ cur, -4000 ≤ c ∧ c ≤ 4000) : exec (.shedEvaluation g cur de full) s =
    .next ((s.shedTaken g cur de).shedDecided g (s.active g) (s.lowCount g cur) (s.highCount g cur) full) := by
  obtain ⟨hrun, hen, hburst⟩ := hs.within (within_shedSampled (cur := cur) (de := de)) (by decide +kernel)
  rw [exec_shedEvaluation (.inr hs.run)]
  refine congrArg Host.Outcome.next ((if_pos ⟨hrun, hen, by simp [hburst]⟩).trans ?_)
  rw [lowNow_shedSampled hcur, highNow_shedSampled hcur, active_shedSampled]
  rfl

theorem limit_shedTaken : (s.shedTaken g cur de).on R.CNV_Gg_STAT_PH_LIMIT g = s.on R.CNV_Gg_STAT_PH_LIMIT g := by
  rw [State.on, State.on, within_shedTaken.gets (rs := [R.CNV_Gg_STAT_PH_LIMIT]) (by decide +kernel) _ (by simp)]

/-! ### The clauses of O5 on SHED_EVALUATION -/

theorem shedEvaluation_rest_gives
    (hrest : s.gstate g = 2 ∨ s.gstate g = 3 ∧ (s.on R.CNV_LIGHT_SHED_EN = false ∨ s.on R.CNV_Gg_STAT_BURST g = true))
    (hcur : ∀ c ∈ cur, -4000 ≤ c ∧ c ≤ 4000) : Gives (exec (.shedEvaluation g cur de full) s) (fun t =>
      t.on R.CNV_Gg_STAT_DE g = (de && s.diode g) ∧ t.gstate g = s.gstate g ∧ t.active g = s.active g ∧
        (∀ p ∈ s.phasesOf g, t.getS R.CNV_PHn_I p = (if s.on R.CNV_PHn_STAT_SWITCHING p then cur.getD p 0 else 0))) :=
  ⟨_, exec_shedEvaluation_rest hrest, de_shedSampled, within_shedSampled.gstate (by decide +kernel) g, congrFun active_shedSampled g,
    fun _ hp => current_shedSampled hcur hp⟩

theorem shedEvaluation_counts_gives (hs : s.sheds g) (hcur : ∀ c ∈ cur, -4000 ≤ c ∧ c ≤ 4000)
    (hjoin : ¬(s.highCount g cur = 2 ∨ full = true ∨ s.active g = [] ∨ s.on R.CNV_Gg_STAT_PH_LIMIT g = true))
    (hshed : ¬(s.lowCount g cur = 8 ∧ 2 ≤ (s.active g).length)) : Gives (exec (.shedEvaluation g cur de full) s) (fun t =>
      t.on R.CNV_Gg_STAT_DE g = (de && s.diode g) ∧ t.active g = s.active g ∧
        (∀ p ∈ s.phasesOf g, t.getS R.CNV_PHn_I p = (if s.on R.CNV_PHn_STAT_SWITCHING p then cur.getD p 0 else 0)) ∧
        t.get R.X_SHED_LOW g = s.lowCount g cur ∧ t.get R.X_SHED_HIGH g = s.highCount g cur) := by
  have hexec := exec_shedEvaluation_run (de := de) (full := full) hs hcur
  rw [State.shedDecided, limit_shedTaken, if_neg hjoin, if_neg hshed] at hexec
  refine ⟨_, hexec, de_shedTaken (within_refl (l := [])) (by decide +kernel), congrFun active_shedTaken g, fun p hp => ?_, ?_, ?_⟩
  · exact (congrArg (signed _) (within_shedCounted.gets (rs := [R.CNV_PHn_I]) (by decide +kernel) R.CNV_PHn_I (by simp) p)).trans
      (current_shedSampled hcur hp)
  · exact (within_set.gets (rs := [R.X_SHED_LOW]) (by decide +kernel) _ (by simp) g).trans
      (get_set_fit g (Nat.lt_of_le_of_lt lowCount_le (by decide)))
  · exact get_set_fit g (Nat.lt_of_le_of_lt highCount_le (by decide))

theorem shedEvaluation_sheds_gives (hs : s.sheds g) (hcur : ∀ c ∈ cur, -4000 ≤ c ∧ c ≤ 4000)
    (hjoin : ¬(s.highCount g cur = 2 ∨ full = true ∨ s.active g = [] ∨ s.on R.CNV_Gg_STAT_PH_LIMIT g = true))
    (hlow : s.lowCount g cur = 8) (htwo : 2 ≤ (s.active g).length) : Gives (exec (.shedEvaluation g cur de full) s) (fun t =>
      t.on R.CNV_Gg_STAT_DE g = (de && s.diode g) ∧ t.get R.X_SHED_LOW g = 0 ∧ t.get R.X_EQ_HOLD g = 256 ∧
        t.on R.X_TUNING g = false ∧ t.active g = (s.active g).dropLast ∧
        (∀ p, (s.active g).getLast? = some p → t.on R.CNV_PHn_STAT_SHED p)) := by
  obtain ⟨p, hlast⟩ : ∃ p, (s.active g).getLast? = some p := Option.ne_none_iff_exists'.1 fun h => by
    simp [List.getLast?_eq_none_iff.1 h] at htwo
  have hexec := exec_shedEvaluation_run (de := de) (full := full) hs hcur
  rw [State.shedDecided, limit_shedTaken, if_neg hjoin, if_pos ⟨hlow, htwo⟩, hlast] at hexec
  have hactive := active_shedPhase (s := s.shedTaken g cur de) (g := g) (by rwa [active_shedTaken])
  obtain ⟨hcount, hheld, htuning⟩ := group_shedPhase (s := s.shedTaken g cur de) (g := g) (p := p)
  refine ⟨_, hexec, de_shedTaken within_shedPhase (by decide +kernel), hcount, hheld, htuning, ?_, fun q hq => ?_⟩
  · exact hactive.trans (congrArg List.dropLast (congrFun active_shedTaken g))
  · obtain rfl : p = q := Option.some.inj (hlast.symm.trans hq)
    exact shed_shedPhase

theorem shedFirst_shedTaken : (s.shedTaken g cur de).shedFirst g = s.shedFirst g := by
  have hget := (within_shedTaken (s := s) (g := g) (cur := cur) (de := de)).gets (rs := [R.CNV_PHn_STAT_SHED]) (by decide +kernel)
  simp only [State.shedFirst, State.on, hget R.CNV_PHn_STAT_SHED (by simp), within_shedTaken.usable (by decide +kernel)]

theorem shedEvaluation_joins_gives (hs : s.sheds g) (hcur : ∀ c ∈ cur, -4000 ≤ c ∧ c ≤ 4000)
    (hjoin : s.highCount g cur = 2 ∨ full = true ∨ s.active g = [] ∨ s.on R.CNV_Gg_STAT_PH_LIMIT g = true) :
    Gives (exec (.shedEvaluation g cur de full) s) (fun t =>
      t.on R.CNV_Gg_STAT_DE g = (de && s.diode g) ∧
        (∀ p : Fin 6, (s.usable g).find? (fun q => s.on R.CNV_PHn_STAT_SHED q) = some p.val → t.on R.CNV_PHn_STAT_SWITCHING p ∧
          t.on R.CNV_PHn_STAT_SHED p = false ∧ t.getS R.CNV_PHn_TRIM p = 0 ∧ t.get R.X_EQ_HOLD g = 256 ∧ t.get R.X_SHED_HIGH g = 0) ∧
        ((s.usable g).find? (fun q => s.on R.CNV_PHn_STAT_SHED q) = none → t.active g = s.active g)) := by
  have hexec := exec_shedEvaluation_run (de := de) (full := full) hs hcur
  rw [State.shedDecided, limit_shedTaken, if_pos hjoin] at hexec
  obtain ⟨hrun, hen, hburst⟩ := hs.within (within_shedTaken (cur := cur) (de := de)) (by decide +kernel)
  have hback : within Foot.addBack _ ((s.shedTaken g cur de).addBack g) := fun _ => Part.same_addBack Part.same_refl
  refine ⟨_, hexec, de_shedTaken hback (by decide +kernel), fun p hp => ?_, fun hnone => ?_⟩
  · rw [addBack_some hrun hen hburst (shedFirst_shedTaken.trans hp)]
    have hclear := fun (t : State) => (within_clear (s := t) (r := R.X_SHED_HIGH) (i := g)).gets
      (rs := [R.CNV_PHn_STAT_SWITCHING, R.CNV_PHn_STAT_SHED, R.CNV_PHn_TRIM, R.X_EQ_HOLD]) (by decide +kernel)
    refine ⟨?_, ?_, ?_, ?_, get_clear_self ..⟩
    · rw [State.on, hclear _ _ (by simp), ← State.on]
      exact switching_joinPhase
    · rw [State.on, hclear _ _ (by simp), ← State.on]
      exact shed_joinPhase
    · rw [State.getS, hclear _ _ (by simp), ← State.getS]
      exact trim_joinPhase
    · rw [hclear _ _ (by simp)]
      exact eqHold_joinPhase
  · rw [addBack_none (shedFirst_shedTaken.trans hnone), active_shedTaken]

end
end Sys2Proof.Machine
end

section
/-! PROOFS. Burst (R148, R154), and the statements on the loops of the converter (R133 to R148). -/

-- One theorem at a time: each decision by the kernel waits for all declarations before it and holds a thread meanwhile.
set_option Elab.async false

namespace Sys2Proof.Machine
namespace State

variable {s t : State} {g : Fin 4} {p : Nat} {b : Bool}

/-- The phases of a group that burst starts and stops: the usable ones that are not shed (R148). -/
def burstPhases (s : State) (g : Nat) : List Nat := (s.usable g).filter (fun p => !s.on R.CNV_PHn_STAT_SHED p)

/-- Phases start or stop, and their group follows. -/
def phasesSwitched (s : State) (g : Nat) (ps : List Nat) (b : Bool) : State :=
  ((ps.foldl (fun t p => t.switchPhase p b) s).countActive g).phasePeaks g

/-- What that changes. -/
def switchedFoot : List Touch := Foot.switchPhase ++ Foot.countActive ++ Foot.phasePeaks

theorem within_phasesSwitched {ps : List Nat} : within switchedFoot s (s.phasesSwitched g ps b) :=
  ((within_foldl fun _ _ _ => within_switchPhase).trans within_countActive).trans within_phasePeaks

theorem mem_burstPhases (hp : p ∈ s.usable g) (hshed : s.on R.CNV_PHn_STAT_SHED p = false) : p ∈ s.burstPhases g :=
  List.mem_filter.2 ⟨hp, by simp [hshed]⟩

theorem switching_phasesSwitched (hp : p ∈ s.burstPhases g) :
    (t.phasesSwitched g (s.burstPhases g) b).on R.CNV_PHn_STAT_SWITCHING p = b := by
  have hlt : ∀ q ∈ s.burstPhases g, q < 6 := fun q hq => lt_of_mem_usable (List.mem_of_mem_filter hq)
  rw [phasesSwitched, State.on, (within_countActive.trans within_phasePeaks).gets (rs := [R.CNV_PHn_STAT_SWITCHING]) (by decide +kernel) _
    (by simp), ← State.on, switching_foldl (m := []) hlt (fun _ _ => within_refl) (by decide +kernel) (hlt p hp), if_pos hp]

/-- The floor command fits its field (R148). -/
theorem peak_burstFloor : (t.set R.CNV_Gg_PEAK s.burstFloor g).get R.CNV_Gg_PEAK g = s.burstFloor :=
  get_set_fit g (Nat.lt_of_le_of_lt (Nat.div_le_self ..) (get_lt s R.CNV_IPK_LIM 0))

/-- What burst shows of a group after its phases were switched. -/
theorem shown_phasesSwitched {ps : List Nat} : (t.phasesSwitched g ps b).get R.CNV_Gg_PEAK g = t.get R.CNV_Gg_PEAK g ∧
    (t.phasesSwitched g ps b).on R.CNV_Gg_STAT_BURST g = t.on R.CNV_Gg_STAT_BURST g ∧
    (t.phasesSwitched g ps b).get R.CNV_Gg_STAT_REGION g = t.get R.CNV_Gg_STAT_REGION g ∧
    (t.phasesSwitched g ps b).gstate g = t.gstate g := by
  have hget := (within_phasesSwitched (s := t) (g := g) (ps := ps) (b := b)).gets
    (rs := [R.CNV_Gg_PEAK, R.CNV_Gg_STAT_BURST, R.CNV_Gg_STAT_REGION, R.CNV_Gg_STAT_STATE]) (by decide +kernel)
  exact ⟨hget _ (by simp) g, congrArg (· != 0) (hget R.CNV_Gg_STAT_BURST (by simp) g), hget _ (by simp) g, hget _ (by simp) g⟩

end State

section
variable {s : State} {g : Fin 4}
open State

/-! ### The clauses of O5 on BURST -/

theorem burst_enters_gives (hburst : s.on R.CNV_Gg_STAT_BURST g = false) (hrun : s.gstate g = 3) (hen : s.on R.CNV_LIGHT_BURST_EN = true)
    (hone : (s.active g).length = 1) (hpeak : s.get R.CNV_Gg_PEAK g * 20 < s.get R.CNV_IPK_LIM) : Gives (exec (.burst g 0) s)
    (fun t => t.on R.CNV_Gg_STAT_BURST g ∧ t.get R.CNV_Gg_PEAK g = s.burstFloor ∧ t.active g = s.active g) := by
  have hpeaks : ∀ t : State, within Foot.phasePeaks t (t.phasePeaks g) := fun _ => within_phasePeaks
  refine ⟨_, congrArg Host.Outcome.next ((if_neg (by simp [hburst])).trans (if_pos ⟨rfl, hrun, hen, hone, hpeak⟩)), ?_, ?_, ?_⟩
  · exact (congrArg (· != 0) ((hpeaks _).gets (rs := [R.CNV_Gg_STAT_BURST]) (by decide +kernel) _ (by simp) g)).trans
      (on_flag_self _ _ _ _ (by decide))
  · exact ((within_flag.trans (hpeaks _)).gets (rs := [R.CNV_Gg_PEAK]) (by decide +kernel) _ (by simp) g).trans peak_burstFloor
  · exact congrFun (active_of_gets (((within_set.trans within_flag).trans (hpeaks _)).gets (by decide +kernel))) g

theorem burst_starts_gives (hburst : s.on R.CNV_Gg_STAT_BURST g = true) : Gives (exec (.burst g 1) s) (fun t =>
    t.on R.CNV_Gg_STAT_BURST g ∧ t.get R.CNV_Gg_PEAK g = s.burstFloor ∧ t.get R.CNV_Gg_STAT_REGION g =
      nextRegion (s.get R.CNV_Gg_STAT_REGION g) (s.get R.X_LSYS g) (s.get R.X_LVBUS g) ∧
      (∀ p ∈ s.usable g, s.on R.CNV_PHn_STAT_SHED p = false → t.on R.CNV_PHn_STAT_SWITCHING p)) := by
  obtain ⟨hpeak, hshown, hregion, -⟩ := shown_phasesSwitched (t := (s.regionFollow g).set R.CNV_Gg_PEAK s.burstFloor g) (g := g)
    (ps := s.burstPhases g) (b := true)
  have hkept := (within_regionFollow (s := s) (g := g).trans (within_set (r := R.CNV_Gg_PEAK) (v := s.burstFloor) (i := g))).gets
    (rs := [R.CNV_Gg_STAT_BURST]) (by decide +kernel) R.CNV_Gg_STAT_BURST (by simp) g
  refine ⟨_, congrArg Host.Outcome.next (if_pos hburst), hshown.trans ?_, hpeak.trans peak_burstFloor, hregion.trans ?_, fun p hp hshed =>
    switching_phasesSwitched (mem_burstPhases hp hshed)⟩
  · exact (congrArg (· != 0) hkept).trans hburst
  · exact (within_set.gets (rs := [R.CNV_Gg_STAT_REGION]) (by decide +kernel) _ (by simp) g).trans region_regionFollow

theorem burst_ends_gives (hburst : s.on R.CNV_Gg_STAT_BURST g = true) : Gives (exec (.burst g 2) s) (fun t =>
    t.on R.CNV_Gg_STAT_BURST g ∧ t.gstate g = s.gstate g ∧ t.get R.CNV_Gg_STAT_REGION g = s.get R.CNV_Gg_STAT_REGION g ∧
      (∀ p ∈ s.usable g, s.on R.CNV_PHn_STAT_SHED p = false → t.on R.CNV_PHn_STAT_SWITCHING p = false)) := by
  obtain ⟨-, hshown, hregion, hstate⟩ := shown_phasesSwitched (t := s) (g := g) (ps := s.burstPhases g) (b := false)
  exact ⟨_, congrArg Host.Outcome.next (if_pos hburst), hshown.trans hburst, hstate, hregion, fun p hp hshed =>
    switching_phasesSwitched (mem_burstPhases hp hshed)⟩

theorem burst_leaves_gives (hburst : s.on R.CNV_Gg_STAT_BURST g = true) : Gives (exec (.burst g 3) s) (fun t =>
    t.on R.CNV_Gg_STAT_BURST g = false ∧ t.gstate g = s.gstate g ∧ t.get R.CNV_Gg_PEAK g = s.burstFloor ∧
      (∀ p ∈ s.usable g, s.on R.CNV_PHn_STAT_SHED p = false → t.on R.CNV_PHn_STAT_SWITCHING p)) := by
  obtain ⟨hpeak, hshown, -, hstate⟩ := shown_phasesSwitched
    (t := (s.set R.CNV_Gg_PEAK s.burstFloor g).flag R.CNV_Gg_STAT_BURST false g) (g := g) (ps := s.burstPhases g) (b := true)
  refine ⟨_, congrArg Host.Outcome.next (if_pos hburst), hshown.trans (on_flag_self _ _ _ _ (by decide)), hstate.trans ?_,
    hpeak.trans ?_, fun p hp hshed => switching_phasesSwitched (mem_burstPhases hp hshed)⟩
  · exact (within_set.trans within_flag).gstate (by decide +kernel) g
  · exact (within_flag.gets (rs := [R.CNV_Gg_PEAK]) (by decide +kernel) _ (by simp) g).trans peak_burstFloor

/-! ### The obligation -/

/-- Settles O5: each clause is the lemma on its command and case. -/
theorem converterLoops : Obligations.ConverterLoops := by
  refine ⟨?_, ?_, ?_, ?_, ?_, ?_, ?_, ?_, ?_, ?_, ?_, ?_, ?_, ?_, ?_⟩
  · rintro s g vin iin ibat vbat vsys reduced amps sys vbus bats ⟨hrun, hprobe, halloc, hsys, hvbus⟩
    exact loopEvaluation_gives hrun hprobe halloc hsys hvbus
  · rintro s g kp ki ⟨htuning, hholds, hkp, hkp', hki, hki'⟩
    exact tuningComplete_gives htuning hholds hkp hkp' hki hki'
  · exact fun s g hdue => tuneFail_gives hdue
  · exact fun s g hrun => retune_gives hrun
  · exact fun s g cur hcur => equalisationUpdate_gives hcur
  · rintro s p edge diode gate fall ⟨hlearn, hswitching, hburst, hload⟩
    exact deadTimeUpdate_gives hlearn hswitching hburst hload
  · rintro s p diode ring ⟨hde, hswitching, hlow, hhigh⟩
    exact zeroCrossUpdate_gives hde hswitching hlow hhigh
  · rintro s g cur de full ⟨hrest, hcur⟩
    exact shedEvaluation_rest_gives hrest hcur
  · rintro s g cur de full ⟨hrun, hen, hburst, hcur, hjoin, hshed⟩
    exact shedEvaluation_counts_gives ⟨hrun, hen, hburst⟩ hcur hjoin hshed
  · rintro s g cur de full ⟨hrun, hen, hburst, hcur, hjoin, hlow, htwo⟩
    exact shedEvaluation_sheds_gives ⟨hrun, hen, hburst⟩ hcur hjoin hlow htwo
  · rintro s g cur de full ⟨hrun, hen, hburst, hcur, hjoin⟩
    exact shedEvaluation_joins_gives ⟨hrun, hen, hburst⟩ hcur hjoin
  · rintro s g ev ⟨rfl, hburst, hrun, hen, hone, hpeak⟩
    exact burst_enters_gives hburst hrun hen hone hpeak
  · rintro s g ev ⟨rfl, hburst⟩
    exact burst_starts_gives hburst
  · rintro s g ev ⟨rfl, hburst⟩
    exact burst_ends_gives hburst
  · rintro s g ev ⟨rfl, hburst⟩
    exact burst_leaves_gives hburst

end
end Sys2Proof.Machine
end

section
/-! PROOFS. The events of a phase (R135, R136, R140, R152): refresh pulses and current limits, and a phase that is excluded or retried. -/

-- One theorem at a time: each decision by the kernel waits for all declarations before it and holds a thread meanwhile.
set_option Elab.async false

namespace Sys2Proof.Machine
namespace State

variable {s t : State} {p : Fin 6} {cause : Nat}

/-! ### A phase is excluded (R152) -/

/-- A phase is excluded, its group still as it was. -/
def phaseExcluded (s : State) (p cause : Nat) : State :=
  (((s.switchPhase p false).flag R.CNV_PHn_STAT_EXCLUDED true p).setBit R.CNV_STATUS_EXCLUDED p true).set R.CNV_PHn_STAT_CAUSE cause p

/-- What the group does then: it becomes UNAVAILABLE, or goes on without the phase (R131). -/
def withoutPhase (s : State) (g : Nat) : State :=
  if s.usable g = [] then (s.idlePhases g).set R.CNV_Gg_STAT_STATE 6 g
  else (((s.countActive g).set R.X_EQ_HOLD 256 g).flag R.X_TUNING false g).phasePeaks g

/-- What that changes. -/
def withoutFoot : List Touch := Foot.idlePhases ++ [.reg R.CNV_Gg_STAT_STATE] ++
  (Foot.countActive ++ [.reg R.X_EQ_HOLD] ++ [.reg R.X_TUNING] ++ Foot.phasePeaks)

theorem within_withoutPhase {g : Nat} : within withoutFoot s (s.withoutPhase g) :=
  within.ite (within_idlePhases.trans within_set).left
    (((within_countActive.trans within_set).trans within_flag).trans within_phasePeaks).right

/-- A phase that does not switch does not do so after its group follows. -/
theorem switching_withoutPhase {g : Nat} (hoff : s.on R.CNV_PHn_STAT_SWITCHING p = false) :
    (s.withoutPhase g).on R.CNV_PHn_STAT_SWITCHING p = false := by
  unfold withoutPhase
  split
  · rw [State.on, within_set.gets (rs := [R.CNV_PHn_STAT_SWITCHING]) (by decide +kernel) _ (by simp), ← State.on,
      switching_idlePhases p.isLt, hoff, ite_self]
  · rwa [State.on, (((within_countActive.trans within_set).trans within_flag).trans within_phasePeaks).gets
      (rs := [R.CNV_PHn_STAT_SWITCHING]) (by decide +kernel) _ (by simp)]

theorem excludePhase_of_group (hgroup : s.get R.CNV_PHn_STAT_GROUP p ≠ 0) :
    s.excludePhase p cause = (s.phaseExcluded p cause).withoutPhase (s.get R.CNV_PHn_STAT_GROUP p - 1) := by
  rw [State.excludePhase, if_neg hgroup]
  rfl

/-- A phase shows that it is excluded, and for which cause. -/
structure excludedFor (p : Fin 6) (cause : Nat) (t : State) : Prop where
  excluded : t.on R.CNV_PHn_STAT_EXCLUDED p = true
  cause : t.get R.CNV_PHn_STAT_CAUSE p = cause
  stopped : t.on R.CNV_PHn_STAT_SWITCHING p = false

theorem excludedFor.within {l : List Touch} {u : State} (ht : excludedFor p cause t) (h : State.within l t u)
    (hoff : sparesRegs l [R.CNV_PHn_STAT_EXCLUDED, R.CNV_PHn_STAT_CAUSE, R.CNV_PHn_STAT_SWITCHING] = true) : excludedFor p cause u := by
  have hget := h.gets hoff
  obtain ⟨hexcluded, hcause, hstopped⟩ := ht
  refine ⟨?_, (hget _ (by simp) p).trans hcause, ?_⟩
  · rwa [State.on, hget _ (by simp)]
  · rwa [State.on, hget _ (by simp)]

theorem excludedFor_phaseExcluded (hcause : cause < 4) : excludedFor p cause (s.phaseExcluded p cause) where
  excluded := (congrArg (· != 0) ((within_setBit.trans within_set).gets (rs := [R.CNV_PHn_STAT_EXCLUDED]) (by decide +kernel) _ (by simp)
    p)).trans (on_flag_self _ _ _ _ (by decide))
  cause := get_set_fit p hcause
  stopped := (congrArg (· != 0) (((within_flag.trans within_setBit).trans within_set).gets (rs := [R.CNV_PHn_STAT_SWITCHING])
    (by decide +kernel) _ (by simp) p)).trans switching_switchPhase_self

theorem excludedFor_excludePhase (hgroup : s.get R.CNV_PHn_STAT_GROUP p ≠ 0) (hcause : cause < 4) :
    excludedFor p cause (s.excludePhase p cause) := by
  obtain ⟨hexcluded, hshown, hstopped⟩ := excludedFor_phaseExcluded (s := s) (p := p) hcause
  have hget := (within_withoutPhase (s := s.phaseExcluded p cause) (g := s.get R.CNV_PHn_STAT_GROUP p - 1)).gets
    (rs := [R.CNV_PHn_STAT_EXCLUDED, R.CNV_PHn_STAT_CAUSE]) (by decide +kernel)
  rw [excludePhase_of_group hgroup]
  refine ⟨?_, (hget _ (by simp) p).trans hshown, switching_withoutPhase hstopped⟩
  rwa [State.on, hget _ (by simp)]

theorem failPhase_of_group {r : Reg} (hgroup : s.get R.CNV_PHn_STAT_GROUP p ≠ 0) (hfree : s.on R.CNV_PHn_STAT_EXCLUDED p = false) :
    s.failPhase p cause r = (s.excludePhase p cause).latchStand r p := by
  rw [State.failPhase, if_neg (by simp [hgroup, hfree])]

/-! ### A phase is retried (R152) -/

/-- A phase is usable again, its latches' conditions still standing. -/
def phaseFreed (s : State) (p : Nat) : State :=
  ((s.flag R.CNV_PHn_STAT_EXCLUDED false p).setBit R.CNV_STATUS_EXCLUDED p false).set R.CNV_PHn_STAT_CAUSE 0 p

/-- The conditions of its latches end. -/
def latchesEnded (s : State) (p : Nat) : State :=
  ((s.ended R.CNV_PH_FAULT_OPEN p).ended R.CNV_PH_FAULT_SHORT p).ended R.CNV_FAULT_BOOT p

/-- The group of a phase that is usable again takes it back: one that had none settles, one in RUN has it join. -/
def phaseReturned (s : State) (g p : Nat) : State :=
  if s.gstate g = 6 then s.settleGroup g else if s.gstate g = 3 then s.joinPhase g p else s

theorem within_latchesEnded {p : Nat} : within Foot.ended s (s.latchesEnded p) := (within_ended.chain within_ended).chain within_ended

theorem within_joinPhase {g p : Nat} : within Foot.joinPhase s (s.joinPhase g p) := fun _ => Part.same_joinPhase Part.same_refl

theorem within_phaseReturned {g p : Nat} : within (Foot.settleGroup ++ Foot.joinPhase) s (s.phaseReturned g p) :=
  within.ite within_settleGroup.left (within.ite within_joinPhase.right within_refl)

/-- The end of another fault's condition in another register. -/
theorem stands_ended_boot {r : Reg} {b c : Nat} (h : R.X_COND.key (faultIndex r.base) ≠ R.X_COND.key (faultIndex R.CNV_FAULT_BOOT.base)) :
    (s.ended R.CNV_FAULT_BOOT c).stands r b = s.stands r b := by
  rw [State.stands, State.stands, State.bit, State.bit, State.ended, State.setBit, get_set_ne _ h]

/-- A condition that has ended stays so through the end of another one of its register. -/
theorem stands_ended_false {r q : Reg} {b c : Nat} (hbase : q.base = r.base) (h : s.stands r b = false) :
    (s.ended q c).stands r b = false := by
  rw [State.ended, State.stands, hbase]
  exact bit_setBit_false h

theorem stands_latchesEnded : (s.latchesEnded p).stands R.CNV_PH_FAULT_SHORT p = false ∧
    (s.latchesEnded p).stands R.CNV_PH_FAULT_OPEN p = false := by
  have hkey : R.X_COND.key (faultIndex R.CNV_PH_FAULT_SHORT.base) ≠ R.X_COND.key (faultIndex R.CNV_FAULT_BOOT.base) := by decide +kernel
  have hfit : ∀ p : Fin 6, R.CNV_PH_FAULT_SHORT.lo + p < R.X_COND.width ∧ R.CNV_PH_FAULT_OPEN.lo + p < R.X_COND.width := by decide
  obtain ⟨hshort, hopen⟩ := hfit p
  have hended : (s.ended R.CNV_PH_FAULT_OPEN p).stands R.CNV_PH_FAULT_OPEN p = false := stands_ended hopen
  exact ⟨(stands_ended_boot hkey).trans (stands_ended hshort),
    (stands_ended_boot (r := R.CNV_PH_FAULT_OPEN) hkey).trans (stands_ended_false rfl hended)⟩

end State

section
variable {s : State} {p : Fin 6}
open State

/-! ### The clauses of O6 -/

/-- The side of a refresh pulse (R135). -/
theorem refreshSide_lt (s : State) (g : Nat) : s.refreshSide g < 4 := by
  unfold State.refreshSide
  split <;> decide

theorem bootstrapRefresh_gives {r : RefreshPulse} (h : s.on R.CNV_PHn_STAT_SWITCHING p = true ∧
    (s.refreshSide (s.get R.CNV_PHn_STAT_GROUP p - 1) = 1 ∨
      s.refreshSide (s.get R.CNV_PHn_STAT_GROUP p - 1) = 2 ∧ s.getS R.CNV_PHn_ZC_OFS p < r.cur)) :
    Gives (exec (.bootstrapRefresh p r) s) (fun t =>
      t.on R.X_BOOT_REF p = (if r.forced ∨ 4 < r.since then r.forced else s.on R.X_BOOT_REF p) ∧
        t.get R.X_BOOT_SIDE p = s.refreshSide (s.get R.CNV_PHn_STAT_GROUP p - 1)) := by
  refine ⟨_, congrArg Host.Outcome.next (if_pos h), ?_, get_set_fit p (refreshSide_lt ..)⟩
  rw [State.on, within_set.gets (rs := [R.X_BOOT_REF]) (by decide +kernel) _ (by simp), ← State.on]
  by_cases hwatch : r.forced ∨ 4 < r.since
  · rw [State.iff, if_pos (by simpa using hwatch), if_pos hwatch]
    exact on_flag_self _ _ _ _ (by decide)
  · rw [State.iff, if_neg (by simpa using hwatch), if_neg hwatch]

theorem peakLimit_gives {e : TurnOff} (hswitching : s.on R.CNV_PHn_STAT_SWITCHING e.phase = true) (hblank : 60 ≤ e.ns) :
    Gives (exec (.peakLimit e) s) (fun t =>
      t.get R.CNV_PHn_PKLIM_CNT e.phase = min (s.get R.CNV_PHn_PKLIM_CNT e.phase + 1) 65535) := by
  have hback : ∀ t : State, within Foot.addBack t (t.addBack (s.get R.CNV_PHn_STAT_GROUP e.phase - 1)) := fun _ _ =>
    Part.same_addBack Part.same_refl
  refine ⟨_, congrArg Host.Outcome.next (if_pos ⟨hswitching, hblank⟩), ?_⟩
  exact ((within_set.trans (hback _)).gets (rs := [R.CNV_PHn_PKLIM_CNT]) (by decide +kernel) _ (by simp) e.phase).trans (get_add_self ..)

theorem negativeLimit_gives {e : NegativeCurrent} (hswitching : s.on R.CNV_PHn_STAT_SWITCHING e.phase = true)
    (hlimit : e.cur < -(s.get R.CNV_INEG_LIM : Int)) : Gives (exec (.negativeLimit e) s) (fun t => t.on R.X_SYNC_OFF e.phase) := by
  refine ⟨_, congrArg Host.Outcome.next (if_pos ⟨hswitching, .inr hlimit⟩), ?_⟩
  have hshown : ∀ (c : Bool) (t : State) (g : Nat), within [.reg R.CNV_Gg_STAT_DE] t (t.iff c fun u => u.flag R.CNV_Gg_STAT_DE true g) :=
    fun _ _ _ => within.iff within_refl within_flag
  exact (congrArg (· != 0) ((hshown _ _ _).gets (rs := [R.X_SYNC_OFF]) (by decide +kernel) _ (by simp) e.phase)).trans
    (on_flag_self _ _ _ _ (by decide))

theorem phaseShort_gives (hgroup : s.get R.CNV_PHn_STAT_GROUP p ≠ 0) (hfree : s.on R.CNV_PHn_STAT_EXCLUDED p = false) :
    Gives (exec (.phaseShort p) s) (fun t => t.on R.CNV_PHn_STAT_EXCLUDED p ∧ t.get R.CNV_PHn_STAT_CAUSE p = 2 ∧
      t.on R.CNV_PHn_STAT_SWITCHING p = false ∧ t.bit R.CNV_PH_FAULT_SHORT p) := by
  obtain ⟨hexcluded, hcause, hstopped⟩ := (excludedFor_excludePhase hgroup (cause := 2) (by decide)).within
    (within_latchStand (r := R.CNV_PH_FAULT_SHORT) (b := p)) (by decide +kernel)
  exact ⟨_, congrArg Host.Outcome.next (failPhase_of_group hgroup hfree), hexcluded, hcause, hstopped,
    bit_latchStand p.isLt (by decide +kernel)⟩

theorem phaseOpen_gives (hswitching : s.on R.CNV_PHn_STAT_SWITCHING p = true) (hgroup : s.get R.CNV_PHn_STAT_GROUP p ≠ 0)
    (hfree : s.on R.CNV_PHn_STAT_EXCLUDED p = false) : Gives (exec (.phaseOpen p) s) (fun t => t.on R.CNV_PHn_STAT_EXCLUDED p ∧
      t.get R.CNV_PHn_STAT_CAUSE p = 1 ∧ t.on R.CNV_PHn_STAT_SWITCHING p = false ∧ t.bit R.CNV_PH_FAULT_OPEN p) := by
  obtain ⟨hexcluded, hcause, hstopped⟩ := (excludedFor_excludePhase hgroup (cause := 1) (by decide)).within
    (within_latchStand (r := R.CNV_PH_FAULT_OPEN) (b := p)) (by decide +kernel)
  exact ⟨_, congrArg Host.Outcome.next ((if_pos hswitching).trans (failPhase_of_group hgroup hfree)), hexcluded, hcause, hstopped,
    bit_latchStand p.isLt (by decide +kernel)⟩

theorem bootstrapFault_gives (hwatched : s.on R.X_BOOT_REF p = true) (hgroup : s.get R.CNV_PHn_STAT_GROUP p ≠ 0)
    (hfree : s.on R.CNV_PHn_STAT_EXCLUDED p = false) : Gives (exec (.bootstrapFault p) s) (fun t =>
      t.on R.CNV_PHn_STAT_EXCLUDED p ∧ t.get R.CNV_PHn_STAT_CAUSE p = 3 ∧ t.bit R.CNV_FAULT_BOOT p ∧ t.on R.X_BOOT_REF p = false) := by
  obtain ⟨hexcluded, hcause, -⟩ := (excludedFor_excludePhase hgroup (cause := 3) (by decide)).within
    ((within_latchStand (r := R.CNV_FAULT_BOOT) (b := p)).trans (within_flag (r := R.X_BOOT_REF) (b := false) (i := p))) (by decide +kernel)
  have hexec : exec (.bootstrapFault p) s =
      .next (((s.excludePhase p 3).latchStand R.CNV_FAULT_BOOT p).flag R.X_BOOT_REF false p) :=
    congrArg Host.Outcome.next ((if_pos hwatched).trans
      (congrArg (fun t : State => t.flag R.X_BOOT_REF false p) (failPhase_of_group hgroup hfree)))
  refine ⟨_, hexec, hexcluded, hcause, ?_, on_flag_self _ _ _ _ (by decide)⟩
  exact (within_flag.bit (by decide +kernel)).trans (bit_latchStand p.isLt (by decide +kernel))

theorem exec_phRetry (hexcluded : s.on R.CNV_PHn_STAT_EXCLUDED p = true) : exec (.phRetry p) s =
    .next (if s.get R.CNV_PHn_STAT_GROUP p = 0 then (s.phaseFreed p).latchesEnded p
      else ((s.phaseFreed p).latchesEnded p).phaseReturned (s.get R.CNV_PHn_STAT_GROUP p - 1) p) :=
  congrArg Host.Outcome.next (if_pos hexcluded)

theorem phRetry_gives (hexcluded : s.on R.CNV_PHn_STAT_EXCLUDED p = true) : Gives (exec (.phRetry p) s) (fun t =>
    t.on R.CNV_PHn_STAT_EXCLUDED p = false ∧ t.get R.CNV_PHn_STAT_CAUSE p = 0 ∧ t.stands R.CNV_PH_FAULT_SHORT p = false ∧
      t.stands R.CNV_PH_FAULT_OPEN p = false) := by
  refine ⟨_, exec_phRetry hexcluded, ?_⟩
  have hreturn : within (Foot.settleGroup ++ Foot.joinPhase) ((s.phaseFreed p).latchesEnded p)
      (if s.get R.CNV_PHn_STAT_GROUP p = 0 then (s.phaseFreed p).latchesEnded p
        else ((s.phaseFreed p).latchesEnded p).phaseReturned (s.get R.CNV_PHn_STAT_GROUP p - 1) p) :=
    within.ite within_refl within_phaseReturned
  have hcond := hreturn.gets (rs := [R.X_COND]) (by decide +kernel) R.X_COND (by simp)
  have hshown := (within_latchesEnded.trans hreturn).gets (rs := [R.CNV_PHn_STAT_EXCLUDED, R.CNV_PHn_STAT_CAUSE]) (by decide +kernel)
  obtain ⟨hshort, hopen⟩ := stands_latchesEnded (s := s.phaseFreed p) (p := p)
  refine ⟨?_, (hshown _ (by simp) p).trans (get_set_fit p (by decide)), ?_, ?_⟩
  · rw [State.on, hshown _ (by simp), phaseFreed,
      (within_setBit.trans within_set).gets (rs := [R.CNV_PHn_STAT_EXCLUDED]) (by decide +kernel) _ (by simp), ← State.on]
    exact on_flag_self _ _ _ _ (by decide)
  · rwa [State.stands, State.bit, hcond]
  · rwa [State.stands, State.bit, hcond]

/-! ### The obligation -/

/-- Settles O6: each clause is the lemma on its command. -/
theorem converterPhases : Obligations.ConverterPhases := by
  refine ⟨?_, ?_, ?_, ?_, ?_, ?_, ?_⟩
  · exact fun s p r h => bootstrapRefresh_gives h
  · rintro s e ⟨hswitching, hblank⟩
    exact peakLimit_gives hswitching hblank
  · rintro s e ⟨hswitching, hlimit⟩
    exact negativeLimit_gives hswitching hlimit
  · rintro s p ⟨hgroup, hfree⟩
    exact phaseShort_gives hgroup hfree
  · rintro s p ⟨hswitching, hgroup, hfree⟩
    exact phaseOpen_gives hswitching hgroup hfree
  · rintro s p ⟨hwatched, hgroup, hfree⟩
    exact bootstrapFault_gives hwatched hgroup hfree
  · exact fun s p hexcluded => phRetry_gives hexcluded

end
end Sys2Proof.Machine
end

section
/-! PROOFS. The states, the pulses and the holds of the charge sequencer (R163, R164, R167, R171, R183, R190). -/

-- One theorem at a time: each decision by the kernel waits for all declarations before it and holds a thread meanwhile.
set_option Elab.async false

namespace Sys2Proof.Machine

/-- The on states have codes below 9 (R163), so that the states that follow them fit CHG_STATUS.STATE. -/
theorem onState_lt {st : Nat} (h : onState st = true) : st < 9 := by
  simp only [onState, Bool.or_eq_true, beq_iff_eq] at h
  omega

theorem restState_succ {st : Nat} (h : onState st = true) : restState (st + 1) = true := by
  simp only [onState, restState, Bool.or_eq_true, beq_iff_eq] at h ⊢
  omega

theorem onState_pred {st : Nat} (h : restState st = true) : onState (st - 1) = true := by
  simp only [onState, restState, Bool.or_eq_true, beq_iff_eq] at h ⊢
  omega

namespace State

variable {s t u : State} {l : List Touch} {st : Nat}

/-! ### Holds (R183) -/

/-- The hold causes. -/
def holdRegs : List Reg := [R.CHG_HOLD_TEMP, R.CHG_HOLD_BMSOK, R.CHG_HOLD_SUSPEND, R.CHG_HOLD_RIDE]

theorem within.holding (h : within l s t) (hoff : sparesRegs l holdRegs = true) : t.holding = s.holding := by
  have hget := h.gets hoff
  simp only [State.holding, State.on, hget R.CHG_HOLD_TEMP (by simp [holdRegs]), hget R.CHG_HOLD_BMSOK (by simp [holdRegs]),
    hget R.CHG_HOLD_SUSPEND (by simp [holdRegs]), hget R.CHG_HOLD_RIDE (by simp [holdRegs])]

theorem within.pulseState (h : within l s t) (hoff : sparesRegs l holdRegs = true) (st : Nat) : t.pulseState st = s.pulseState st := by
  rw [State.pulseState, State.pulseState, h.holding hoff]

/-- Any one cause holds. -/
theorem holding_of_on {r : Reg} (hr : r ∈ holdRegs) (h : s.on r = true) : s.holding = true := by
  simp only [holdRegs, List.mem_cons, List.not_mem_nil, or_false] at hr
  rcases hr with rfl | rfl | rfl | rfl <;> simp [State.holding, h]

/-- A hold brings the battery current to 0 A. -/
theorem chgAim_of_holding (h : s.holding = true) : s.chgAim = 0 := by simp [State.chgAim, h]

/-! ### The words that follow state, holds and temperature (R162, R163, R182) -/

theorem within_chgTargets : within Foot.chgTargets s s.chgTargets := fun _ => Part.same_chgTargets Part.same_refl

theorem within_chgHold {r : Reg} {b : Bool} : within (Foot.chgHold r) s (s.chgHold r b) := fun _ => Part.same_chgHold Part.same_refl

/-- HOLD is set after the voltage limit, and before the bits that follow from the temperature. -/
def shownFoot : List Touch := touches [R.CHG_STATUS_COLD_BAND, R.CHG_STATUS_WARM_BAND, R.CHG_STATUS_FOLDBACK,
  R.CHG_STATUS_TIMERS_RUN] [] [Foot.sysFollow]

theorem within_shown : within shownFoot ((s.set R.CHG_V_LIMIT s.vLimit).flag R.CHG_STATUS_HOLD s.holding) s.chgTargets := by
  intro q hq
  simp [shownFoot, and_assoc] at hq
  obtain ⟨hcold, hwarm, hfold, htimers, hsys⟩ := hq
  exact Part.same_sysFollow (Part.same_flag (Part.same_flag (Part.same_flag (Part.same_flag Part.same_refl hcold) hwarm) hfold)
    htimers) hsys

theorem status_chgTargets : s.chgTargets.on R.CHG_STATUS_HOLD = s.chgTargets.holding := by
  rw [within_chgTargets.holding (by decide +kernel), within_shown.on (by decide +kernel)]
  exact on_flag_self _ _ _ _ (by decide)

/-- A hold that begins: its cause and HOLD are shown, and the battery current is brought to 0 A. -/
theorem chgHold_begins {r : Reg} (hr : r ∈ holdRegs) : (s.chgHold r true).on r ∧ (s.chgHold r true).on R.CHG_STATUS_HOLD ∧
    (s.chgHold r true).chgAim = 0 := by
  have hoff : ∀ r ∈ holdRegs, r.width ≠ 0 ∧ Machine.keeps (touches [R.X_REST_RIDE, R.X_PULSE_OVER] [] [Foot.chgTargets])
      (.key (r.key 0)) = true := by decide +kernel
  have hcause : (s.chgHold r true).on r = true := hold_chgHold (hoff r hr).1 (hoff r hr).2
  have hholding : (s.chgHold r true).holding = true := holding_of_on hr hcause
  exact ⟨hcause, status_chgTargets.trans hholding, chgAim_of_holding hholding⟩

/-- A hold that begins ends a running on-pulse for good. -/
theorem over_chgHold {r : Reg} (hr : r ∈ [R.CHG_HOLD_BMSOK, R.CHG_HOLD_SUSPEND]) (hstate : onState s.chg = true)
    (hpulse : s.on R.X_PULSE = true) : (s.chgHold r true).on R.X_PULSE_OVER = true := by
  have hride : ∀ r ∈ [R.CHG_HOLD_BMSOK, R.CHG_HOLD_SUSPEND], (r == R.CHG_HOLD_RIDE) = false := by decide +kernel
  have hheld : s.chgHold r true = ((s.flag r true).flag R.X_PULSE_OVER true).chgTargets := by
    simp [State.chgHold, State.iff, hride r hr, hstate, hpulse]
  rw [hheld, within_chgTargets.on (by decide +kernel)]
  exact on_flag_self _ _ _ _ (by decide)

/-! ### Entering a state (R163) -/

theorem within_pulseRecord {flags : Nat} {rest : Bool} : within Foot.pulseRecord s (s.pulseRecord flags rest) := fun _ =>
  Part.same_pulseRecord Part.same_refl

theorem within_cutRest : within Foot.cutRest s s.cutRest := fun _ => Part.same_cutRest Part.same_refl

theorem within_chgTo : within Foot.chgTo s (s.chgTo st) := fun _ => Part.same_chgTo Part.same_refl

/-- A state entered, the marks of the pulse method still as they were. -/
def entered (s : State) (st : Nat) : State :=
  ((s.needP3.set R.CHG_STATUS_STATE st).iff (st != 3) (fun t => t.clear R.X_PRE_S)).iff (st == 0xA) (fun t => t.clear R.X_MAINT_LOW)

/-- No on-pulse, no wait, no end of either under way. -/
def pulseless (s : State) : State :=
  (((s.flag R.X_PULSE false).flag R.X_CHG_WAIT false).flag R.X_TO_IDLE false).flag R.X_PULSE_OVER false

/-- What a state entered still does once its marks are set. -/
def entryDone (s : State) (st : Nat) : State := (s.iff (st != 0xF) (fun t => t.flag R.X_CHG_PP false)).chgTargets

theorem chgSet_eq (s : State) (st : Nat) :
    s.chgSet st = ((s.entered st).iff (!onState st && !restState st) pulseless).entryDone st := rfl

/-- What a state entered changes beside the marks of the pulse method. -/
def enteredFoot : List Touch := Foot.needP3 ++ [.reg R.CHG_STATUS_STATE] ++ ([.reg R.X_PRE_S] ++ [.reg R.X_MAINT_LOW])

theorem within_marks : within ([.reg R.X_PRE_S] ++ [.reg R.X_MAINT_LOW]) (s.needP3.set R.CHG_STATUS_STATE st) (s.entered st) :=
  (within_refl.left.iff within_clear.left).iff within_clear.right

theorem within_entered : within enteredFoot s (s.entered st) := (within_needP3.trans within_set).trans within_marks

/-- The marks of the pulse method. -/
def pulseMarks : List Touch := [.reg R.X_PULSE] ++ [.reg R.X_CHG_WAIT] ++ [.reg R.X_TO_IDLE] ++ [.reg R.X_PULSE_OVER]

theorem within_pulseless : within pulseMarks s s.pulseless :=
  ((within_flag.trans within_flag).trans within_flag).trans within_flag

/-- What the end of the entry changes. -/
def entryFoot : List Touch := [.reg R.X_CHG_PP] ++ Foot.chgTargets

theorem within_entryDone : within entryFoot s (s.entryDone st) :=
  (within.iff within_refl within_flag).trans within_chgTargets

/-- The state that is entered. -/
theorem chg_chgSet (hfit : st < 16) : (s.chgSet st).chg = st := by
  have hrest : within (([.reg R.X_PRE_S] ++ [.reg R.X_MAINT_LOW]) ++ (pulseMarks ++ entryFoot))
      (s.needP3.set R.CHG_STATUS_STATE st) (s.chgSet st) :=
    within_marks.trans ((within.iff within_refl within_pulseless).trans within_entryDone)
  exact (hrest.get (r := R.CHG_STATUS_STATE) (by decide +kernel)).trans (get_set_fit 0 hfit)

/-- A state of the pulse method leaves its marks. -/
theorem within_chgSet_pulsing (hst : onState st = true ∨ restState st = true) : within (enteredFoot ++ entryFoot) s (s.chgSet st) := by
  have hmarks : (s.entered st).iff (!onState st && !restState st) pulseless = s.entered st :=
    if_neg (by rcases hst with h | h <;> simp [h])
  rw [chgSet_eq, hmarks]
  exact within_entered.trans within_entryDone

/-- An on-pulse that has ended stays ended. -/
theorem ended_chgSet {r : Reg} (hr : r ∈ [R.X_PULSE, R.X_PULSE_OVER]) (hended : s.on r = false) : (s.chgSet st).on r = false := by
  have hoff : ∀ r ∈ [R.X_PULSE, R.X_PULSE_OVER], Machine.keeps enteredFoot (.key (r.key 0)) = true ∧
      Machine.keeps entryFoot (.key (r.key 0)) = true := by decide +kernel
  have hbefore : (s.entered st).on r = false := (within_entered.on (hoff r hr).1).trans hended
  rw [chgSet_eq, within_entryDone.on (hoff r hr).2]
  unfold State.iff
  split
  case isFalse => exact hbefore
  case isTrue =>
    simp only [List.mem_cons, List.not_mem_nil, or_false] at hr
    rcases hr with rfl | rfl
    · rw [pulseless, ((within_flag.trans within_flag).trans within_flag).on (by decide +kernel)]
      exact on_flag_self _ _ _ _ (by decide)
    · exact on_flag_self _ _ _ _ (by decide)

theorem chg_chgTo (hfit : st < 16) : (s.chgTo st).chg = st := by
  unfold State.chgTo
  split
  case isTrue h => exact (within_chgTargets.get (r := R.CHG_STATUS_STATE) (by decide +kernel)).trans h
  case isFalse =>
    split
    case isTrue => exact chg_chgSet hfit
    case isFalse => exact (within_pulseRecord.get (r := R.CHG_STATUS_STATE) (by decide +kernel)).trans (chg_chgSet hfit)

theorem ended_chgTo {r : Reg} (hr : r ∈ [R.X_PULSE, R.X_PULSE_OVER]) (hended : s.on r = false) : (s.chgTo st).on r = false := by
  have hoff : ∀ r ∈ [R.X_PULSE, R.X_PULSE_OVER], Machine.keeps Foot.chgTargets (.key (r.key 0)) = true ∧
      Machine.keeps Foot.cutRest (.key (r.key 0)) = true ∧ Machine.keeps Foot.pulseRecord (.key (r.key 0)) = true := by decide +kernel
  obtain ⟨htargets, hcut, hrecord⟩ := hoff r hr
  unfold State.chgTo
  split
  case isTrue => exact (within_chgTargets.on htargets).trans hended
  case isFalse =>
    split
    case isTrue => exact ended_chgSet hr hended
    case isFalse => exact (within_pulseRecord.on hrecord).trans (ended_chgSet hr ((within_cutRest.on hcut).trans hended))

/-! ### On-pulses (R167, R171, R183) -/

theorem within_pulse : within Foot.pulse s (s.pulse st) := fun _ => Part.same_pulse Part.same_refl

/-- What an on state or its rest state in a hold leaves: the state, whether an on-pulse runs, and whether its end is awaited. -/
theorem pulse_gives (hst : onState st = true) : (s.pulse st).chg = s.pulseState st ∧ (s.pulse st).on R.X_PULSE = !s.holding ∧
    (s.pulse st).on R.X_CHG_WAIT = s.holding := by
  have hholding : ((s.flag R.X_TO_IDLE false).flag R.X_PULSE_OVER false).holding = s.holding :=
    (within_flag.trans within_flag).holding (by decide +kernel)
  have hlt := onState_lt hst
  rw [State.pulseState]
  unfold State.pulse
  dsimp only
  rw [hholding]
  by_cases h : s.holding = true
  · have hget := (within_chgSet_pulsing (s := (((s.flag R.X_TO_IDLE false).flag R.X_PULSE_OVER false).flag R.X_CHG_WAIT true).flag
      R.X_PULSE false) (.inr (restState_succ hst))).gets (rs := [R.X_PULSE, R.X_CHG_WAIT]) (by decide +kernel)
    rw [if_pos h, if_pos h, State.on, State.on, hget _ (by simp), hget _ (by simp), h]
    refine ⟨chg_chgSet (by omega), on_flag_self _ _ _ _ (by decide), ?_⟩
    exact (within_flag.on (r := R.X_CHG_WAIT) (by decide +kernel)).trans (on_flag_self _ _ _ _ (by decide))
  · rw [if_neg h, if_neg h]
    rw [Bool.not_eq_true] at h
    refine ⟨chg_chgSet (by omega), ?_, ?_⟩
    · rw [(within_chgSet_pulsing (.inl hst)).on (by decide +kernel), (within_flag.trans within_set).on (by decide +kernel), h]
      exact on_flag_self _ _ _ _ (by decide)
    · rw [(within_chgSet_pulsing (.inl hst)).on (by decide +kernel),
        (within_flag.trans (within_flag.trans within_set)).on (by decide +kernel), h]
      exact on_flag_self _ _ _ _ (by decide)

/-- The current of the first bulk pulse (R171). -/
def firstCurrent (s : State) : Nat := max (s.get R.CHG_I_SET / 4) (s.get R.CHG_I_TERM)

theorem firstCurrent_lt : s.firstCurrent < 2 ^ R.CHG_I_PULSE.width := by
  have hset : s.get R.CHG_I_SET < 8192 := get_lt s R.CHG_I_SET 0
  have hterm : s.get R.CHG_I_TERM < 1024 := get_lt s R.CHG_I_TERM 0
  change max _ _ < 8192
  omega

theorem within_firstPulse : within Foot.firstPulse s s.firstPulse := fun _ => Part.same_firstPulse Part.same_refl

theorem firstPulse_gives : s.firstPulse.chg = s.pulseState 4 ∧ s.firstPulse.on R.X_PULSE = !s.holding ∧
    s.firstPulse.get R.CHG_I_PULSE = s.firstCurrent := by
  have hset : within [.reg R.CHG_I_PULSE] s (s.set R.CHG_I_PULSE s.firstCurrent) := within_set
  obtain ⟨hchg, hpulse, -⟩ := pulse_gives (s := s.set R.CHG_I_PULSE s.firstCurrent) (st := 4) rfl
  rw [hset.pulseState (by decide +kernel)] at hchg
  rw [hset.holding (by decide +kernel)] at hpulse
  refine ⟨?_, ?_, ?_⟩
  · exact (within_pulseRecord.get (r := R.CHG_STATUS_STATE) (by decide +kernel)).trans hchg
  · exact (within_pulseRecord.on (r := R.X_PULSE) (by decide +kernel)).trans hpulse
  · exact ((within_pulse.trans within_pulseRecord).get (r := R.CHG_I_PULSE) (by decide +kernel)).trans
      (get_set_fit 0 firstCurrent_lt)

/-- A recharge (R165, R177, R178): CHG_FULL is cleared, and the first bulk pulse begins. -/
theorem recharge_gives : (s.set R.CHG_FULL 0).firstPulse.chg = s.pulseState 4 ∧
    (s.set R.CHG_FULL 0).firstPulse.on R.X_PULSE = !s.holding ∧ (s.set R.CHG_FULL 0).firstPulse.on R.CHG_FULL = false ∧
    (s.set R.CHG_FULL 0).firstPulse.get R.CHG_I_PULSE = s.firstCurrent := by
  have hset : within [.reg R.CHG_FULL] s (s.set R.CHG_FULL 0) := within_set
  have hget := hset.gets (rs := [R.CHG_I_SET, R.CHG_I_TERM]) (by decide +kernel)
  have hcurrent : (s.set R.CHG_FULL 0).firstCurrent = s.firstCurrent := by
    rw [firstCurrent, firstCurrent, hget _ (by simp), hget _ (by simp)]
  obtain ⟨hchg, hpulse, hamps⟩ := firstPulse_gives (s := s.set R.CHG_FULL 0)
  rw [hset.pulseState (by decide +kernel)] at hchg
  rw [hset.holding (by decide +kernel)] at hpulse
  refine ⟨hchg, hpulse, ?_, hamps.trans hcurrent⟩
  exact (within_firstPulse.on (by decide +kernel)).trans (on_flag_self s R.CHG_FULL false 0 (by decide))

end State
end Sys2Proof.Machine
end

section
/-! PROOFS. Qualification, precharge, on-pulses and rests (R164 to R176, R183, R190, R250). -/

-- One theorem at a time: each decision by the kernel waits for all declarations before it and holds a thread meanwhile.
set_option Elab.async false

namespace Sys2Proof.Machine
namespace State

variable {s t u : State} {l : List Touch} {st : Nat}

/-! ### On-pulses that end (R164, R167, R183) -/

/-- The current and the voltage of an on-pulse are captured, and the samples of its rest start over. -/
def pulseCaptured (s : State) (ion : Int) (von : Nat) : State :=
  let s1 := (((s.setS R.X_ION (satS16 ion)).set R.X_VON (min von 65535)).flag R.X_PULSE false).flag R.X_PULSE_OVER false
  (((s1.clear R.X_SAMPLE 0).clear R.X_SAMPLE 1).clear R.X_SAMPLE 2).clear R.X_I1

/-- What starts over for the samples of a rest. -/
def samplesFoot : List Touch := [.reg R.X_SAMPLE] ++ [.reg R.X_SAMPLE] ++ [.reg R.X_SAMPLE] ++ [.reg R.X_I1]

theorem within_samplesCleared :
    within samplesFoot s ((((s.clear R.X_SAMPLE 0).clear R.X_SAMPLE 1).clear R.X_SAMPLE 2).clear R.X_I1) :=
  ((within_clear.trans within_clear).trans within_clear).trans within_clear

theorem within_pulseCaptured {ion : Int} {von : Nat} :
    within ([.reg R.X_ION] ++ [.reg R.X_VON] ++ [.reg R.X_PULSE] ++ [.reg R.X_PULSE_OVER] ++ samplesFoot) s (s.pulseCaptured ion von) :=
  (((within_set.trans within_set).trans within_flag).trans within_flag).trans within_samplesCleared

theorem satS16_bounds (x : Int) : -32768 ≤ satS16 x ∧ satS16 x < 32768 := by
  simp only [satS16, clampI]
  omega

theorem pulseCaptured_gives {ion : Int} {von : Nat} : (s.pulseCaptured ion von).getS R.X_ION = satS16 ion ∧
    (s.pulseCaptured ion von).get R.X_VON = min von 65535 ∧ (s.pulseCaptured ion von).on R.X_PULSE = false ∧
    (s.pulseCaptured ion von).on R.X_PULSE_OVER = false := by
  obtain ⟨hlow, hhigh⟩ := satS16_bounds ion
  unfold pulseCaptured
  refine ⟨?_, ?_, ?_, ?_⟩
  · exact (getS_same ((((within_set.trans within_flag).trans within_flag).trans within_samplesCleared) _ (by decide +kernel))).trans
      (getS_setS_self 0 (by decide) hlow hhigh)
  · exact (((within_flag.trans within_flag).trans within_samplesCleared).get (r := R.X_VON) (by decide +kernel)).trans
      (get_set_fit 0 (by change _ < 65536; omega))
  · exact ((within_flag.trans within_samplesCleared).on (r := R.X_PULSE) (by decide +kernel)).trans (on_flag_self _ _ _ _ (by decide))
  · exact (within_samplesCleared.on (r := R.X_PULSE_OVER) (by decide +kernel)).trans (on_flag_self _ _ _ _ (by decide))

theorem within_pulseFall : within Foot.pulseFall s s.pulseFall := fun _ => Part.same_pulseFall Part.same_refl

/-- The state that an ended on-pulse leads to once its current is 0 A: its rest, or IDLE where that is awaited. -/
theorem chg_pulseFall (hstate : onState s.chg = true) (hended : s.on R.X_PULSE = false) :
    s.pulseFall.chg = if s.get R.CHG_I_TARGET ≠ 0 then s.chg else if s.on R.X_TO_IDLE then 1 else s.chg + 1 := by
  have hlt := onState_lt hstate
  unfold State.pulseFall
  by_cases htarget : s.get R.CHG_I_TARGET = 0
  · rw [if_pos (by simp [hstate, hended, htarget]), if_neg (not_not_intro htarget)]
    split
    case isTrue => exact chg_chgTo (by decide)
    case isFalse => exact chg_chgSet (by omega)
  · rw [if_neg (by simp [htarget]), if_pos htarget]

theorem ended_pulseFall {r : Reg} (hr : r ∈ [R.X_PULSE, R.X_PULSE_OVER]) (hended : s.on r = false) : s.pulseFall.on r = false := by
  unfold State.pulseFall
  split
  case isFalse => exact hended
  case isTrue =>
    split
    case isTrue => exact ended_chgTo hr hended
    case isFalse => exact ended_chgSet hr hended

/-! ### The samples of a rest (R170) -/

theorem within_restStore : within [.reg R.CHG_REST_V] s s.restStore := each_keeps within_refl fun _ _ _ ht => ht.chain within_set

theorem rest_restStore (k : Fin 3) : s.restStore.get R.CHG_REST_V k = s.get R.X_SAMPLE k := by
  have hkeys : ∀ i j : Fin 3, j ≠ i → R.CHG_REST_V.key i ≠ R.CHG_REST_V.key j := by decide +kernel
  obtain ⟨t, ht, -, hturn⟩ := each_at (I := within [.reg R.CHG_REST_V] s) (val := fun t => t.get R.CHG_REST_V k) (n := 3)
    (f := fun k t => t.set R.CHG_REST_V (t.get R.X_SAMPLE k) k) k.isLt within_refl (fun _ _ _ ht => ht.chain within_set)
    fun j t hj hne _ => get_set_ne _ (hkeys k ⟨j, hj⟩ fun h => hne (congrArg Fin.val h))
  have hsample := ht.gets (rs := [R.X_SAMPLE]) (by decide +kernel) R.X_SAMPLE (by simp) k
  have hfit : t.get R.X_SAMPLE k < 2 ^ R.CHG_REST_V.width := get_lt t R.X_SAMPLE k
  exact hturn.trans ((get_set_fit k hfit).trans hsample)

/-! ### A rest that is judged (R168 to R176) -/

theorem within_agedFollow : within Foot.agedFollow s s.agedFollow := fun _ => Part.same_agedFollow Part.same_refl

theorem within_trend {r : Nat} : within Foot.trend s (s.trend r) := fun _ => Part.same_trend Part.same_refl

theorem within_zeroWindow {raw amps : Int} : within Foot.zeroWindow s (s.zeroWindow raw amps) := fun _ =>
  Part.same_zeroWindow Part.same_refl

theorem within_terminate : within Foot.terminate s s.terminate := fun _ => Part.same_terminate Part.same_refl

theorem within_chgSet_all : within Foot.chgSet s (s.chgSet st) := fun _ => Part.same_chgSet Part.same_refl

/-- The figures of a rest as the arithmetic of R170 limits them. -/
theorem restFigures_lt : s.restFigures.1 < 2 ^ R.CHG_R_OHM.width ∧ s.restFigures.2.1 < 2 ^ R.CHG_RHO.width ∧
    s.restFigures.2.2 < 2 ^ R.CHG_V_POL.width := by
  change min _ 65535 < 65536 ∧ min _ 8191 < 8192 ∧ min _ 65535 < 65536
  omega

/-- The next pulse current is no less than CHG_I_TERM and no more than the greater of it and CHG_I_SET (R171). -/
theorem steer_lt (vpol : Nat) : s.steer vpol < 2 ^ R.CHG_I_PULSE.width := by
  have hset : s.get R.CHG_I_SET < 8192 := get_lt s R.CHG_I_SET 0
  have hterm : s.get R.CHG_I_TERM < 1024 := get_lt s R.CHG_I_TERM 0
  change max _ (min _ _) < 8192
  omega

/-- What the steering of R171 reads. -/
def steerRegs : List Reg := [R.CHG_PROFILE_CELLS, R.CHG_VPOL_MAX_LOW, R.CHG_VPOL_MAX_HIGH, R.CHG_T_COLD_NOW, R.X_ION, R.CHG_I_TERM,
  R.CHG_I_SET]

theorem within.steer (h : within l s t) (hoff : sparesRegs l steerRegs = true) : t.steer = s.steer := by
  have hget := h.gets hoff
  have hentry : t.vpolEntry = s.vpolEntry := funext fun k => by
    simp only [State.vpolEntry, hget R.CHG_VPOL_MAX_LOW (by simp [steerRegs]), hget R.CHG_VPOL_MAX_HIGH (by simp [steerRegs])]
  have hcold : t.tCold = s.tCold := congrArg (signed _) (hget R.CHG_T_COLD_NOW (by simp [steerRegs]) 0)
  funext vpol
  simp only [State.steer, State.vpolMax, State.cells, State.getS, hentry, hcold, hget R.CHG_PROFILE_CELLS (by simp [steerRegs]),
    hget R.X_ION (by simp [steerRegs]), hget R.CHG_I_TERM (by simp [steerRegs]), hget R.CHG_I_SET (by simp [steerRegs])]

/-- The figures of a valid rest are shown (R170). -/
def figuresShown (s : State) (m : Nat × Nat × Nat) : State := ((s.set R.CHG_R_OHM m.1).set R.CHG_RHO m.2.1).set R.CHG_V_POL m.2.2

/-- Whether a valid rest counts for the trend of the resistance (R173). -/
def trendQualifies (s : State) : Bool :=
  decide (400 ≤ s.getS R.X_ION - s.getS R.X_I1) && decide (150 ≤ s.tCold) && decide (s.tWarm ≤ 350)

/-- The trend, the aged condition and the offset of the coulomb counter follow a valid rest (R173, R174, R250). -/
def restFollowed (s : State) (qual : Bool) (r : Nat) (raw amps : Int) (sat : Bool) : State :=
  ((s.iff qual (fun t => t.trend r)).agedFollow).iff (!sat) (fun t => t.zeroWindow raw amps)

/-- A valid rest before its decision; after a bulk pulse it steers the next one (R171). -/
def validTaken (s : State) (raw amps : Int) (sat : Bool) : State :=
  ((s.restStore.figuresShown s.restFigures).restFollowed s.trendQualifies s.restFigures.1 raw amps sat).iff (s.chg == 5)
    (fun t => t.set R.CHG_I_PULSE (t.steer s.restFigures.2.2))

/-- A rest before its decision; an invalid one is counted (R168). -/
def restTaken (s : State) (inBand : Bool) (raw amps : Int) (sat : Bool) : State :=
  if s.restValid inBand then s.validTaken raw amps sat else s.restStore.inc R.CHG_REST_INVALID

/-- The on state and the termination count after a rest: those of R176, or as they were after an invalid one. -/
def restOutcome (s : State) (inBand : Bool) : Nat × Nat :=
  if s.restValid inBand then s.restDecision else (s.chg - 1, s.get R.CHG_TERM_CNT)

/-- Charging goes on from a rest: it terminates, or the next on-pulse begins. -/
def goOn (s : State) (ends : Prop) [Decidable ends] (st : Nat) : State := if ends then s.terminate.chgSet 0xA else s.pulse st

/-- A rest before its record. -/
def restDone (s : State) (inBand : Bool) (raw amps : Int) (sat : Bool) : State :=
  ((s.restTaken inBand raw amps sat).set R.CHG_TERM_CNT (min (s.restOutcome inBand).2 3)).goOn
    (s.restValid inBand ∧ s.chg = 9 ∧ 3 ≤ (s.restOutcome inBand).2) (s.restOutcome inBand).1

theorem exec_restEnd {inBand sat : Bool} {raw amps : Int} (hrest : restState s.chg = true) (hwait : s.on R.X_CHG_WAIT = false) :
    ∃ flags, exec (.restEnd inBand raw amps sat) s = .next ((s.restDone inBand raw amps sat).pulseRecord flags true) :=
  ⟨_, congrArg Host.Outcome.next ((if_neg (by simp [hrest])).trans (if_neg (by simp [hwait])))⟩

end State
end Sys2Proof.Machine
end

section
/-! PROOFS. What a judged rest leaves (R168 to R176). -/

-- One theorem at a time: each decision by the kernel waits for all declarations before it and holds a thread meanwhile.
set_option Elab.async false

namespace Sys2Proof.Machine

/-- A rest is followed by an on state (R171, R176). -/
theorem onState_termination {rest cnt : Nat} {low high full : Bool} (h : restState rest = true) :
    onState (termination rest cnt low high full).1 = true := by
  have hpred := onState_pred h
  unfold termination
  split_ifs
  any_goals rfl
  exact hpred

namespace State

variable {s t u : State} {l : List Touch} {st : Nat} {inBand sat : Bool} {raw amps : Int}

/-! ### The figures of a rest -/

/-- What the figures of a valid rest change. -/
def figuresFoot : List Touch := [.reg R.CHG_R_OHM] ++ [.reg R.CHG_RHO] ++ [.reg R.CHG_V_POL]

theorem within_figuresShown {m : Nat × Nat × Nat} : within figuresFoot s (s.figuresShown m) :=
  (within_set.trans within_set).trans within_set

theorem figuresShown_gives {m : Nat × Nat × Nat} (hohm : m.1 < 2 ^ R.CHG_R_OHM.width) (hrho : m.2.1 < 2 ^ R.CHG_RHO.width)
    (hpol : m.2.2 < 2 ^ R.CHG_V_POL.width) : (s.figuresShown m).get R.CHG_R_OHM = m.1 ∧ (s.figuresShown m).get R.CHG_RHO = m.2.1 ∧
    (s.figuresShown m).get R.CHG_V_POL = m.2.2 := by
  refine ⟨?_, ?_, get_set_fit 0 hpol⟩
  · exact ((within_set.trans within_set).get (r := R.CHG_R_OHM) (by decide +kernel)).trans (get_set_fit 0 hohm)
  · exact (within_set.get (r := R.CHG_RHO) (by decide +kernel)).trans (get_set_fit 0 hrho)

/-- What follows a valid rest. -/
def restFollowFoot : List Touch := Foot.trend ++ Foot.agedFollow ++ Foot.zeroWindow

theorem within_restFollowed {qual : Bool} {r : Nat} : within restFollowFoot s (s.restFollowed qual r raw amps sat) :=
  (((within.iff within_refl within_trend).trans within_agedFollow).trans (within.iff within_refl within_zeroWindow))

/-- What comes after the figures of a valid rest, up to its decision. -/
def steeredFoot : List Touch := restFollowFoot ++ [.reg R.CHG_I_PULSE]

theorem within_steered : within steeredFoot (s.restStore.figuresShown s.restFigures) (s.validTaken raw amps sat) :=
  within_restFollowed.trans (within.iff within_refl within_set)

/-- What a rest changes before its decision. -/
def restTakenFoot : List Touch := [.reg R.CHG_REST_V] ++ (figuresFoot ++ steeredFoot ++ [.reg R.CHG_REST_INVALID])

theorem within_judged : within (figuresFoot ++ steeredFoot ++ [.reg R.CHG_REST_INVALID]) s.restStore (s.restTaken inBand raw amps sat) :=
  within.ite (within_figuresShown.trans within_steered).left within_inc.right

theorem within_restTaken : within restTakenFoot s (s.restTaken inBand raw amps sat) := within_restStore.trans within_judged

theorem rest_restTaken (k : Fin 3) : (s.restTaken inBand raw amps sat).get R.CHG_REST_V k = s.get R.X_SAMPLE k :=
  (within_judged.gets (rs := [R.CHG_REST_V]) (by decide +kernel) _ (by simp) k).trans (rest_restStore k)

/-- A valid rest shows its figures, is not counted as invalid, and after a bulk pulse steers the next one. -/
theorem validTaken_gives : (s.validTaken raw amps sat).get R.CHG_R_OHM = s.restFigures.1 ∧
    (s.validTaken raw amps sat).get R.CHG_RHO = s.restFigures.2.1 ∧ (s.validTaken raw amps sat).get R.CHG_V_POL = s.restFigures.2.2 ∧
    (s.validTaken raw amps sat).get R.CHG_REST_INVALID = s.get R.CHG_REST_INVALID ∧
    (s.chg = 5 → (s.validTaken raw amps sat).get R.CHG_I_PULSE = s.steer s.restFigures.2.2) := by
  obtain ⟨hohmFit, hrhoFit, hpolFit⟩ := restFigures_lt (s := s)
  obtain ⟨hohm, hrho, hpol⟩ := figuresShown_gives (s := s.restStore) hohmFit hrhoFit hpolFit
  have hget := (within_steered (s := s) (raw := raw) (amps := amps) (sat := sat)).gets
    (rs := [R.CHG_R_OHM, R.CHG_RHO, R.CHG_V_POL]) (by decide +kernel)
  refine ⟨(hget _ (by simp) 0).trans hohm, (hget _ (by simp) 0).trans hrho, (hget _ (by simp) 0).trans hpol, ?_, fun hbulk => ?_⟩
  · exact (within_restStore.trans (within_figuresShown.trans within_steered)).get (by decide +kernel)
  · have hsteer : ((s.restStore.figuresShown s.restFigures).restFollowed s.trendQualifies s.restFigures.1 raw amps sat).steer =
        s.steer := (within_restStore.trans (within_figuresShown.trans within_restFollowed)).steer (by decide +kernel)
    rw [validTaken, State.iff, if_pos (by simpa using hbulk), hsteer]
    exact get_set_fit 0 (steer_lt _)

/-- An invalid rest is counted, and leaves the pulse current. -/
theorem invalidTaken_gives : (s.restStore.inc R.CHG_REST_INVALID).get R.CHG_REST_INVALID =
    min (s.get R.CHG_REST_INVALID + 1) R.CHG_REST_INVALID.top ∧
    (s.restStore.inc R.CHG_REST_INVALID).get R.CHG_I_PULSE = s.get R.CHG_I_PULSE := by
  refine ⟨?_, (within_restStore.trans within_inc).get (by decide +kernel)⟩
  rw [State.inc, get_add_self, within_restStore.get (by decide +kernel)]

/-! ### Charging goes on -/

theorem within_timersReset : within Foot.timersReset s s.timersReset := fun _ => Part.same_timersReset Part.same_refl

theorem within_eRemFull : within Foot.eRemFull s s.eRemFull := fun _ => Part.same_eRemFull Part.same_refl

theorem timersReset_gives : s.timersReset.get R.CHG_TCHG_ACC = 0 ∧ s.timersReset.get R.CHG_TABS = 0 := by
  refine ⟨?_, get_clear_self ..⟩
  exact (within_clear.get (r := R.CHG_TCHG_ACC) (by decide +kernel)).trans (get_clear_self ..)

/-- Charging that terminates or completes sets CHG_FULL and resets the timers (R176, R178). -/
theorem terminate_gives : s.terminate.get R.CHG_FULL = 1 ∧ s.terminate.get R.CHG_TCHG_ACC = 0 ∧ s.terminate.get R.CHG_TABS = 0 := by
  have hget := (within_eRemFull (s := (s.set R.CHG_FULL 1).timersReset)).gets (rs := [R.CHG_TCHG_ACC, R.CHG_TABS]) (by decide +kernel)
  obtain ⟨hacc, habs⟩ := timersReset_gives (s := s.set R.CHG_FULL 1)
  refine ⟨?_, (hget _ (by simp) 0).trans hacc, (hget _ (by simp) 0).trans habs⟩
  exact ((within_timersReset.trans within_eRemFull).get (by decide +kernel)).trans (get_set_fit 0 (by decide))

/-- What going on changes. -/
def goOnFoot : List Touch := Foot.terminate ++ Foot.chgSet ++ Foot.pulse

theorem within_goOn {ends : Prop} [Decidable ends] : within goOnFoot s (s.goOn ends st) :=
  within.ite (within_terminate.trans within_chgSet_all).left within_pulse.right

/-- Charging that terminates goes to MAINTAIN, with CHG_FULL (R176). -/
theorem goOn_ends {ends : Prop} [Decidable ends] (h : ends) : (s.goOn ends st).chg = 0xA ∧ (s.goOn ends st).on R.CHG_FULL = true := by
  rw [goOn, if_pos h]
  refine ⟨chg_chgSet (by decide), ?_⟩
  rw [within_chgSet_all.on (by decide +kernel), State.on, terminate_gives.1]
  rfl

theorem goOn_pulses {ends : Prop} [Decidable ends] (h : ¬ ends) (hst : onState st = true) :
    (s.goOn ends st).chg = s.pulseState st ∧ (s.goOn ends st).on R.X_PULSE = !s.holding := by
  rw [goOn, if_neg h]
  obtain ⟨hchg, hpulse, -⟩ := pulse_gives (s := s) hst
  exact ⟨hchg, hpulse⟩

theorem onState_restOutcome (hrest : restState s.chg = true) : onState (s.restOutcome inBand).1 = true := by
  unfold restOutcome
  split
  case isTrue => exact onState_termination hrest
  case isFalse => exact onState_pred hrest

/-! ### The judged rest -/

/-- Whether a rest terminates charging (R176). -/
def restEnds (s : State) (inBand : Bool) : Prop := s.restValid inBand = true ∧ s.chg = 9 ∧ 3 ≤ (s.restOutcome inBand).2

/-- A rest with its termination count, before charging goes on. -/
def restCounted (s : State) (inBand : Bool) (raw amps : Int) (sat : Bool) : State :=
  (s.restTaken inBand raw amps sat).set R.CHG_TERM_CNT (min (s.restOutcome inBand).2 3)

theorem within_restCounted : within (restTakenFoot ++ [.reg R.CHG_TERM_CNT]) s (s.restCounted inBand raw amps sat) :=
  within_restTaken.trans within_set

theorem within_restDone : within goOnFoot (s.restCounted inBand raw amps sat) (s.restDone inBand raw amps sat) := within_goOn

/-- A rest that terminates charging leads to MAINTAIN. -/
theorem restDone_ends (h : s.restEnds inBand) : (s.restDone inBand raw amps sat).chg = 0xA ∧
    (s.restDone inBand raw amps sat).on R.CHG_FULL = true := goOn_ends h

/-- Every other rest leads to an on-pulse, or to the wait for the end of a hold. -/
theorem restDone_pulses (hrest : restState s.chg = true) (h : ¬ s.restEnds inBand) :
    (s.restDone inBand raw amps sat).chg = s.pulseState (s.restOutcome inBand).1 ∧
      (s.restDone inBand raw amps sat).on R.X_PULSE = !s.holding := by
  have hcounted := within_restCounted (s := s) (inBand := inBand) (raw := raw) (amps := amps) (sat := sat)
  rw [← hcounted.pulseState (by decide +kernel), ← hcounted.holding (by decide +kernel)]
  exact goOn_pulses h (onState_restOutcome hrest)

/-- What the record of a rest and what comes before it leave of the samples, the figures and the counts. -/
theorem restDone_keeps (flags : Nat) : ∀ r ∈ [R.CHG_REST_V, R.CHG_R_OHM, R.CHG_RHO, R.CHG_V_POL, R.CHG_REST_INVALID, R.CHG_I_PULSE],
    ∀ i, ((s.restDone inBand raw amps sat).pulseRecord flags true).get r i = (s.restTaken inBand raw amps sat).get r i :=
  (within_set.trans (within_restDone.trans within_pulseRecord)).gets (by decide +kernel)

theorem terms_restDone (flags : Nat) : ((s.restDone inBand raw amps sat).pulseRecord flags true).get R.CHG_TERM_CNT =
    min (s.restOutcome inBand).2 3 :=
  ((within_restDone.trans within_pulseRecord).get (by decide +kernel)).trans (get_set_fit 0 (by change _ < 4; omega))

/-- A record leaves the state, the pulse and CHG_FULL. -/
theorem recorded_keeps (flags : Nat) (rest : Bool) : (s.pulseRecord flags rest).chg = s.chg ∧
    (s.pulseRecord flags rest).on R.X_PULSE = s.on R.X_PULSE ∧ (s.pulseRecord flags rest).on R.X_CHG_WAIT = s.on R.X_CHG_WAIT ∧
    (s.pulseRecord flags rest).on R.CHG_FULL = s.on R.CHG_FULL :=
  ⟨within_pulseRecord.get (by decide +kernel), within_pulseRecord.on (by decide +kernel), within_pulseRecord.on (by decide +kernel),
    within_pulseRecord.on (by decide +kernel)⟩

end State

section
variable {s : State} {inBand sat : Bool} {raw amps : Int}
open State

/-- A valid rest, in the words of O8. -/
theorem restDone_valid (hrest : restState s.chg = true) (hvalid : s.restValid inBand = true) {t : State} {flags : Nat}
    (ht : t = (s.restDone inBand raw amps sat).pulseRecord flags true) : t.get R.CHG_R_OHM =
      s.restFigures.1 ∧ t.get R.CHG_RHO = s.restFigures.2.1 ∧ t.get R.CHG_V_POL = s.restFigures.2.2 ∧ t.get
      R.CHG_REST_INVALID = s.get R.CHG_REST_INVALID ∧ t.get R.CHG_TERM_CNT = min s.restDecision.2 3 ∧ (s.chg = 5 → t.get
      R.CHG_I_PULSE = s.steer s.restFigures.2.2 % 65536) ∧ (if s.chg = 9 ∧ 3 ≤ s.restDecision.2 then t.chg = 0xA ∧ t.on
      R.CHG_FULL else t.chg = s.pulseState s.restDecision.1 ∧ t.on R.X_PULSE = !s.holding) := by
  subst ht
  have hkeep := restDone_keeps (s := s) (inBand := inBand) (raw := raw) (amps := amps) (sat := sat) flags
  obtain ⟨hchg, hpulse, -, hfull⟩ := recorded_keeps (s := s.restDone inBand raw amps sat) flags true
  have htaken : s.restTaken inBand raw amps sat = s.validTaken raw amps sat := if_pos hvalid
  have houtcome : s.restOutcome inBand = s.restDecision := if_pos hvalid
  obtain ⟨hohm, hrho, hpol, hinvalid, hsteer⟩ := validTaken_gives (s := s) (raw := raw) (amps := amps) (sat := sat)
  rw [← htaken] at hohm hrho hpol hinvalid hsteer
  refine ⟨(hkeep _ (by simp) 0).trans hohm, (hkeep _ (by simp) 0).trans hrho, (hkeep _ (by simp) 0).trans hpol,
    (hkeep _ (by simp) 0).trans hinvalid, (terms_restDone flags).trans (by rw [houtcome]), fun hbulk => ?_, ?_⟩
  · have hfit : s.steer s.restFigures.2.2 < 8192 := steer_lt _
    rw [Nat.mod_eq_of_lt (by omega)]
    exact (hkeep _ (by simp) 0).trans (hsteer hbulk)
  · rw [hchg, hpulse, hfull, ← houtcome]
    split_ifs with hends
    · exact restDone_ends ⟨hvalid, hends⟩
    · exact restDone_pulses hrest fun h => hends h.2

/-- An invalid rest, in the words of O8. -/
theorem restDone_invalid (hrest : restState s.chg = true) (hinvalid : ¬ s.restValid inBand = true) {t : State} {flags : Nat}
    (ht : t = (s.restDone inBand raw amps sat).pulseRecord flags true) : t.get R.CHG_REST_INVALID =
      min (s.get R.CHG_REST_INVALID + 1) R.CHG_REST_INVALID.top ∧ t.get R.CHG_I_PULSE = s.get R.CHG_I_PULSE ∧ t.chg =
      s.pulseState (s.chg - 1) ∧ t.on R.X_PULSE = !s.holding := by
  subst ht
  have hkeep := restDone_keeps (s := s) (inBand := inBand) (raw := raw) (amps := amps) (sat := sat) flags
  obtain ⟨hchg, hpulse, -⟩ := recorded_keeps (s := s.restDone inBand raw amps sat) flags true
  have htaken : s.restTaken inBand raw amps sat = s.restStore.inc R.CHG_REST_INVALID := if_neg hinvalid
  have houtcome : s.restOutcome inBand = (s.chg - 1, s.get R.CHG_TERM_CNT) := if_neg hinvalid
  obtain ⟨hcount, hcurrent⟩ := invalidTaken_gives (s := s)
  obtain ⟨hstate, hrun⟩ := restDone_pulses (raw := raw) (amps := amps) (sat := sat) hrest fun h => hinvalid h.1
  rw [← htaken] at hcount hcurrent
  rw [houtcome] at hstate
  exact ⟨(hkeep _ (by simp) 0).trans hcount, (hkeep _ (by simp) 0).trans hcurrent, hchg.trans hstate, hpulse.trans hrun⟩

/-- The clause of O8 on REST_END of a rest that runs. -/
theorem restEnd_gives (hrest : restState s.chg = true) (hwait : s.on R.X_CHG_WAIT = false) :
    Gives (exec (.restEnd inBand raw amps sat) s) (fun t =>
      (∀ k : Fin 3, t.get R.CHG_REST_V k = s.get R.X_SAMPLE k) ∧ (if s.restValid inBand then t.get R.CHG_R_OHM =
        s.restFigures.1 ∧ t.get R.CHG_RHO = s.restFigures.2.1 ∧ t.get R.CHG_V_POL = s.restFigures.2.2 ∧ t.get
        R.CHG_REST_INVALID = s.get R.CHG_REST_INVALID ∧ t.get R.CHG_TERM_CNT = min s.restDecision.2 3 ∧ (s.chg = 5 → t.get
        R.CHG_I_PULSE = s.steer s.restFigures.2.2 % 65536) ∧ (if s.chg = 9 ∧ 3 ≤ s.restDecision.2 then t.chg = 0xA ∧ t.on
        R.CHG_FULL else t.chg = s.pulseState s.restDecision.1 ∧ t.on R.X_PULSE = !s.holding) else t.get R.CHG_REST_INVALID =
        min (s.get R.CHG_REST_INVALID + 1) R.CHG_REST_INVALID.top ∧ t.get R.CHG_I_PULSE = s.get R.CHG_I_PULSE ∧ t.chg =
        s.pulseState (s.chg - 1) ∧ t.on R.X_PULSE = !s.holding)) := by
  obtain ⟨flags, hexec⟩ := exec_restEnd (inBand := inBand) (raw := raw) (amps := amps) (sat := sat) hrest hwait
  refine ⟨_, hexec, fun k => (restDone_keeps flags _ (by simp) k).trans (rest_restTaken k), ?_⟩
  by_cases hvalid : s.restValid inBand = true
  · rw [if_pos hvalid]
    exact restDone_valid hrest hvalid rfl
  · rw [if_neg hvalid]
    exact restDone_invalid hrest hvalid rfl

/-- The clause of O8 on REST_END of a rest that only waited for the end of a hold. -/
theorem restEnd_released (hrest : restState s.chg = true) (hwait : s.on R.X_CHG_WAIT = true) (hfree : s.holding = false) :
    Gives (exec (.restEnd inBand raw amps sat) s) (fun t =>
      t.chg = s.chg - 1 ∧ t.on R.X_PULSE ∧ t.on R.X_CHG_WAIT = false ∧ t.get R.CHG_REST_INVALID = s.get R.CHG_REST_INVALID) := by
  obtain ⟨hchg, hpulse, hwaits⟩ := pulse_gives (s := s) (onState_pred hrest)
  obtain ⟨hchgKept, hpulseKept, hwaitKept, -⟩ :=
    recorded_keeps (s := s.pulse (s.chg - 1)) (s.pulse (s.chg - 1)).pulseFlags true
  rw [State.pulseState, hfree, if_neg (by decide)] at hchg
  rw [hfree] at hpulse hwaits
  exact ⟨_, congrArg Host.Outcome.next ((if_neg (by simp [hrest])).trans ((if_pos hwait).trans (if_neg (by simp [hfree])))),
    hchgKept.trans hchg, hpulseKept.trans hpulse, hwaitKept.trans hwaits,
    (within_pulse.trans within_pulseRecord).get (by decide +kernel)⟩

end
end Sys2Proof.Machine
end

section
/-! PROOFS. The forced window of P3 (R452, R453), and the statement on the charge sequencer (R165 to R180). -/

-- One theorem at a time: each decision by the kernel waits for all declarations before it and holds a thread meanwhile.
set_option Elab.async false

namespace Sys2Proof.Machine
namespace State

variable {s t u : State} {l : List Touch} {st : Nat} {g : Fin 4}

/-! ### The forced window ends (R453) -/

/-- The restart of a group as the window ends: from STOPPED, with a ceiling and VAUX in regulation. -/
def p3Restart (s : State) (g : Nat) : State :=
  if s.gstate g = 0 ∧ s.get R.TRKn_ALLOC g ≠ 0 ∧ s.on R.AUX_STATUS_VAUX_REG then s.toOnDelay g else s

theorem within_p3Restart {g : Nat} : within Foot.toOnDelay s (s.p3Restart g) := within.ite within_toOnDelay within_refl

theorem gstate_p3Restart : (s.p3Restart g).gstate g =
    if s.gstate g = 0 ∧ s.get R.TRKn_ALLOC g ≠ 0 ∧ s.on R.AUX_STATUS_VAUX_REG then 1 else s.gstate g := by
  unfold p3Restart
  split
  case isTrue => exact gstate_toOnDelay
  case isFalse => rfl

theorem gstate_p3Restart_other {h : Fin 4} (hne : h ≠ g) : (s.p3Restart g).gstate h = s.gstate h := by
  unfold p3Restart
  split
  case isTrue => exact gstate_toOnDelay_other hne
  case isFalse => rfl

theorem endP3Window_eq (hopen : s.on R.BIST_STATUS_P3_WINDOW = true) :
    s.endP3Window = ((s.abortSlice 0x08).flag R.BIST_STATUS_P3_WINDOW false).each 4 (fun g t => t.p3Restart g) := if_pos hopen

theorem endP3Window_gives (hopen : s.on R.BIST_STATUS_P3_WINDOW = true) : s.endP3Window.on R.BIST_STATUS_P3_WINDOW = false ∧
    s.endP3Window.gstate g = if s.gstate g = 0 ∧ s.get R.TRKn_ALLOC g ≠ 0 ∧ s.on R.AUX_STATUS_VAUX_REG then 1 else s.gstate g := by
  let u := (s.abortSlice 0x08).flag R.BIST_STATUS_P3_WINDOW false
  have hclosed : within (Foot.abortSlice ++ [.reg R.BIST_STATUS_P3_WINDOW]) s u := within_abortSlice.trans within_flag
  have hrestarts : within Foot.toOnDelay u (u.each 4 (fun g t => t.p3Restart g)) :=
    each_keeps within_refl fun _ _ _ ht => ht.chain within_p3Restart
  rw [endP3Window_eq hopen]
  refine ⟨(hrestarts.on (by decide +kernel)).trans (on_flag_self _ _ _ _ (by decide)), ?_⟩
  obtain ⟨t, ht, hbefore, hturn⟩ := each_at (I := within Foot.toOnDelay u) (val := fun t => t.gstate g) (n := 4)
    (f := fun g t => t.p3Restart g) g.isLt within_refl (fun _ _ _ ht => ht.chain within_p3Restart)
    fun j t hj hne _ => gstate_p3Restart_other (g := ⟨j, hj⟩) fun e => hne (congrArg Fin.val e).symm
  have hget := (hclosed.trans ht).gets (rs := [R.TRKn_ALLOC, R.AUX_STATUS_VAUX_REG]) (by decide +kernel)
  rw [hclosed.gstate (by decide +kernel)] at hbefore
  refine hturn.trans (gstate_p3Restart.trans ?_)
  rw [State.on, State.on, hbefore, hget _ (by simp), hget _ (by simp)]

/-! ### The forced window opens (R452) -/

theorem active_idlePhases_other {g h : Nat} (hne : h ≠ g) : (s.idlePhases g).active h = s.active h := by
  rw [State.active, State.active, phasesOf_idlePhases]
  refine List.filter_congr fun p hp => ?_
  have hother : p ∉ s.phasesOf g := fun hg => hne (by
    have hgroup := (mem_phasesOf.1 hp).2
    rw [(mem_phasesOf.1 hg).2] at hgroup
    omega)
  rw [switching_idlePhases (lt_of_mem_phasesOf hp), if_neg hother]

/-- Where no map is held, a stop leaves which phases switch as the phases' own stop does. -/
theorem active_stopGroup (hmap : s.noMap) {g : Nat} : (s.stopGroup g).active = (s.idlePhases g).active := by
  rw [stopGroup_eq hmap, active_of_gets ((within_settleGroup.trans within_flag).gets (by decide +kernel))]

/-- Where every group is stopped, no map being held: no phase of theirs switches, and the state of each. -/
theorem stopGroups_gives (hmap : s.noMap) (g : Fin 4) : (s.each 4 (fun g t => t.stopGroup g)).active g = [] ∧
    (s.each 4 (fun g t => t.stopGroup g)).gstate g = if s.usable g = [] then 6 else if s.get R.X_TRIP g ≠ 0 then 5 else 0 := by
  have hnoMap : ∀ t, within stopFoot s t → t.noMap := fun t ht => ht.noMap hmap (by decide +kernel)
  obtain ⟨t, ht, -, hturn⟩ := each_at (I := within stopFoot s) (val := fun t => (t.active g, t.gstate g)) (n := 4)
    (f := fun g t => t.stopGroup g) g.isLt within_refl (fun j t _ ht => ht.chain (within_stopGroup (hnoMap t ht) j))
    fun j t hj hne ht => by
      have hother : (g : Nat) ≠ j := fun e => hne e.symm
      have hgroup : g ≠ ⟨j, hj⟩ := fun e => hother (congrArg Fin.val e)
      rw [active_stopGroup (hnoMap t ht), active_idlePhases_other hother,
        (sameGroup_stopGroup (g := ⟨j, hj⟩) (hnoMap t ht) hgroup).1]
  obtain ⟨hactive, hstate⟩ := Prod.mk.inj hturn
  refine ⟨hactive.trans ?_, hstate.trans ?_⟩
  · rw [active_stopGroup (hnoMap t ht)]
    exact active_idlePhases (.inl rfl)
  · rw [gstate_stopGroup_self (hnoMap t ht), ht.usable (by decide +kernel),
      ht.gets (rs := [R.X_TRIP]) (by decide +kernel) _ (by simp)]

/-- The forced window opens: every group is stopped for it. -/
def p3Opened (s : State) : State := (s.needP3.each 4 (fun g t => t.stopGroup g)).flag R.BIST_STATUS_P3_WINDOW true

theorem p3Opened_gives (hmap : s.noMap) (hclosed : s.on R.BIST_STATUS_P3_WINDOW = false) (g : Fin 4) :
    s.p3Opened.active g = [] ∧ s.p3Opened.gstate g = if s.usable g = [] then 6 else if s.get R.X_TRIP g ≠ 0 then 5 else 0 := by
  have hslice : within Foot.abortSlice s s.needP3 := needP3_eq hclosed ▸ within_abortSlice
  obtain ⟨hactive, hstate⟩ := stopGroups_gives (hslice.noMap hmap (by decide +kernel)) g
  rw [hslice.usable (by decide +kernel), hslice.gets (rs := [R.X_TRIP]) (by decide +kernel) _ (by simp)] at hstate
  rw [p3Opened, active_of_gets (within_flag.gets (by decide +kernel)), within_flag.gstate (by decide +kernel)]
  exact ⟨hactive, hstate⟩

theorem chg_p3Opened (hmap : s.noMap) : s.p3Opened.chg = s.chg := by
  have hstops : within stopFoot s.needP3 (s.needP3.each 4 (fun g t => t.stopGroup g)) :=
    each_keeps within_refl fun j t _ ht => ht.chain
      (within_stopGroup (ht.noMap (within_needP3.noMap hmap (by decide +kernel)) (by decide +kernel)) j)
  exact ((within_needP3.trans hstops).trans within_flag).get (r := R.CHG_STATUS_STATE) (by decide +kernel)

/-! ### The end of EQUALISE (R180) -/

theorem within_latch {r : Reg} {b : Nat} : within (Foot.latch r) s (s.latch r b) := fun _ => Part.same_latch Part.same_refl

/-- EQUALISE that is judged: it ends in FLOAT at the warm start, which latches EQ_ABORT, and where the Depot input or its mode is gone. -/
theorem equaliseFollow_gives (hstate : s.chg = 0xD) : s.equaliseFollow.chg =
    (if s.getS R.CHG_T_WARM_START ≤ s.tWarm ∨ s.hasClass 4 = false ∨ s.get R.MODE_STATUS_MODE ≠ 6 then 0xC else 0xD) ∧
    (s.getS R.CHG_T_WARM_START ≤ s.tWarm → s.equaliseFollow.bit R.CHG_FAULT_EQ_ABORT 0 = true) := by
  unfold State.equaliseFollow
  rw [if_pos hstate]
  by_cases hwarm : s.getS R.CHG_T_WARM_START ≤ s.tWarm
  · rw [if_pos hwarm, if_pos (.inl hwarm)]
    exact ⟨(within_latch.get (r := R.CHG_STATUS_STATE) (by decide +kernel)).trans (chg_chgTo (by decide)),
      fun _ => bit_latch (by decide) (by decide +kernel)⟩
  · rw [if_neg hwarm]
    refine ⟨?_, fun h => absurd h hwarm⟩
    by_cases hdepot : s.hasClass 4 = true ∧ s.get R.MODE_STATUS_MODE = 6
    · rw [if_pos hdepot, if_neg (by simp [hwarm, hdepot]), hstate]
    · rw [if_neg hdepot, if_pos (.inr (by rwa [not_and_or, Bool.not_eq_true] at hdepot))]
      exact chg_chgTo (by decide)

end State

section
variable {s : State}
open State

/-! ### The clauses of O8 -/

/-- The clause of O8 on QUALIFY_COMPLETE. -/
theorem qualifyComplete_gives {vq : Nat} (hstate : s.chg = 2) (hfree : s.holding = false) (hbat : s.get R.PP_STATUS_BAT = 1) :
    Gives (exec (.qualifyComplete vq) s) (fun t =>
      if vq < s.cells * s.get R.CHG_V_PRE then t.chg = 3 ∧ t.get R.CHG_FULL = s.get R.CHG_FULL else if s.get
        R.MODE_STATUS_MODE = 7 then t.chg = 2 else if s.on R.CHG_FULL ∧ s.cells * s.get R.CHG_V_RECHARGE ≤ vq then t.chg = (if
        s.leadAcid then 0xC else 0xA) ∧ t.on R.CHG_FULL else if s.cells * s.get R.CHG_V_FULL_REST ≤ vq then t.chg = (if
        s.leadAcid then 0xC else 0xA) ∧ t.on R.CHG_FULL else t.chg = 4 ∧ t.on R.X_PULSE ∧ t.on R.CHG_FULL = false ∧ t.get
        R.CHG_I_PULSE = max (s.get R.CHG_I_SET / 4) (s.get R.CHG_I_TERM)) := by
  refine ⟨_, congrArg Host.Outcome.next (if_pos ⟨hstate, by simp [hfree], hbat⟩), ?_⟩
  dsimp only
  have hrest : (if s.leadAcid then 0xC else 0xA) < 16 := by split <;> decide
  generalize (if s.leadAcid then 0xC else 0xA) = rest at hrest ⊢
  split_ifs with hlow hdead hfull hrested
  · exact ⟨chg_chgTo (by decide), within_chgTo.get (by decide +kernel)⟩
  · exact hstate
  · exact ⟨chg_chgTo hrest, (within_chgTo.on (by decide +kernel)).trans hfull.1⟩
  · exact ⟨chg_chgTo hrest, (within_chgTo.on (by decide +kernel)).trans (on_flag_self s R.CHG_FULL true 0 (by decide))⟩
  · obtain ⟨hchg, hpulse, hcleared, hcurrent⟩ := recharge_gives (s := s)
    rw [State.pulseState, hfree] at hchg
    rw [hfree] at hpulse
    exact ⟨hchg, hpulse, hcleared, hcurrent⟩

/-- The clause of O8 on PRECHARGE_COMPLETE. -/
theorem prechargeComplete_gives {v : Nat} (hstate : s.chg = 3) (hfree : s.holding = false)
    (hhigh : s.cells * (s.get R.CHG_V_PRE + 50) ≤ v) : Gives (exec (.prechargeComplete v) s) (fun t =>
      if s.get R.MODE_STATUS_MODE = 7 then t.chg = 3 else t.chg = 4 ∧ t.on R.X_PULSE ∧ t.get R.CHG_I_PULSE = max (s.get
        R.CHG_I_SET / 4) (s.get R.CHG_I_TERM)) := by
  by_cases hdead : s.get R.MODE_STATUS_MODE = 7
  · refine ⟨_, congrArg Host.Outcome.next (if_neg fun h => h.2.2.2 hdead), ?_⟩
    dsimp only
    rwa [if_pos hdead]
  · refine ⟨_, congrArg Host.Outcome.next (if_pos ⟨hstate, by simp [hfree], hhigh, hdead⟩), ?_⟩
    obtain ⟨hchg, hpulse, hcurrent⟩ := firstPulse_gives (s := s)
    rw [State.pulseState, hfree] at hchg
    rw [hfree] at hpulse
    rw [if_neg hdead]
    exact ⟨hchg, hpulse, hcurrent⟩

/-- The clause of O8 on ON_PULSE_END. -/
theorem onPulseEnd_gives {ion : Int} {von : Nat} (hstate : onState s.chg = true) (hpulse : s.on R.X_PULSE = true) :
    Gives (exec (.onPulseEnd ion von) s) (fun t =>
      t.getS R.X_ION = satS16 ion ∧ t.get R.X_VON = min von 65535 ∧ t.on R.X_PULSE = false ∧ t.on R.X_PULSE_OVER = false ∧
        t.get R.CHG_I_TARGET = s.get R.CHG_I_TARGET ∧ t.chg = (if s.get R.CHG_I_TARGET ≠ 0 then s.chg else if s.on R.X_TO_IDLE
        then 1 else s.chg + 1)) := by
  have hcaptured := within_pulseCaptured (s := s) (ion := ion) (von := von)
  have hget := hcaptured.gets (rs := [R.CHG_STATUS_STATE, R.CHG_I_TARGET, R.X_TO_IDLE]) (by decide +kernel)
  have hchg : (s.pulseCaptured ion von).chg = s.chg := hget _ (by simp) 0
  have hfall := (within_pulseFall (s := s.pulseCaptured ion von)).gets (rs := [R.X_ION, R.X_VON, R.CHG_I_TARGET]) (by decide +kernel)
  obtain ⟨hion, hvon, hended, hover⟩ := pulseCaptured_gives (s := s) (ion := ion) (von := von)
  refine ⟨(s.pulseCaptured ion von).pulseFall, congrArg Host.Outcome.next (if_pos ⟨hstate, hpulse⟩),
    (congrArg (signed _) (hfall _ (by simp) 0)).trans hion, (hfall _ (by simp) 0).trans hvon, ended_pulseFall (by simp) hended,
    ended_pulseFall (by simp) hover, (hfall _ (by simp) 0).trans (hget _ (by simp) 0), ?_⟩
  rw [chg_pulseFall (hchg ▸ hstate) hended, hchg, State.on, hget _ (by simp), hget _ (by simp), ← State.on]

/-- The clause of O8 on REST_SAMPLE. -/
theorem restSample_gives {k : Fin 3} {v : Nat} {i1 : Int} (hrest : restState s.chg = true) (hwait : s.on R.X_CHG_WAIT = false) :
    Gives (exec (.restSample k v i1) s) (fun t =>
      t.get R.X_SAMPLE k = min v 65535 ∧ (k = 0 → t.getS R.X_I1 = satS16 i1)) := by
  have hcurrent : within [.reg R.X_I1] (s.set R.X_SAMPLE (min v 65535) k)
      ((s.set R.X_SAMPLE (min v 65535) k).iff (k == 0) (fun t => t.setS R.X_I1 (satS16 i1))) := within.iff within_refl within_set
  obtain ⟨hlow, hhigh⟩ := satS16_bounds i1
  refine ⟨_, congrArg Host.Outcome.next (if_pos ⟨hrest, by simp [hwait]⟩), ?_, fun hfirst => ?_⟩
  · exact (hcurrent.gets (rs := [R.X_SAMPLE]) (by decide +kernel) _ (by simp) k).trans (get_set_fit k (by change _ < 65536; omega))
  · rw [State.iff, if_pos (by simpa using hfirst)]
    exact getS_setS_self 0 (by decide) hlow hhigh

/-- The state in which MAINTAIN_CHECK reads the battery (R250). -/
def State.maintained (s : State) (raw amps : Int) (sat : Bool) : State := s.needP3.iff (!sat) (fun t => t.zeroWindow raw amps)

theorem within_maintained {raw amps : Int} {sat : Bool} : within (Foot.needP3 ++ Foot.zeroWindow) s (s.maintained raw amps sat) :=
  within_needP3.trans (within.iff within_refl within_zeroWindow)

/-- A check that finds little current reads the battery. -/
theorem exec_maintainCheck {v : Nat} {amps raw : Int} {sat : Bool} (hstate : s.chg = 0xA)
    (hclosed : s.on R.BIST_STATUS_P3_WINDOW = false) (hnone : s.p3Qualifies = false)
    (hlittle : ¬ 4 + s.get R.CHG_I_TERM / 10 < amps.natAbs) : exec (.maintainCheck v amps raw sat) s =
      .next (if v < s.cells * s.get R.CHG_V_RECHARGE then
          if s.get R.X_MAINT_LOW = 0 then (s.maintained raw amps sat).set R.X_MAINT_LOW 1
          else ((s.maintained raw amps sat).set R.CHG_FULL 0).firstPulse
        else (s.maintained raw amps sat).set R.X_MAINT_LOW 0) := by
  have hget := (within_maintained (s := s) (raw := raw) (amps := amps) (sat := sat)).gets
    (rs := [R.CHG_PROFILE_CELLS, R.CHG_V_RECHARGE, R.X_MAINT_LOW]) (by decide +kernel)
  rw [← hget R.X_MAINT_LOW (by simp), ← hget R.CHG_V_RECHARGE (by simp), State.cells, ← hget R.CHG_PROFILE_CELLS (by simp)]
  exact congrArg Host.Outcome.next ((if_neg (by simp [hstate, hclosed])).trans ((if_neg (by simp [hnone])).trans (if_neg hlittle)))

/-- The clause of O8 on MAINTAIN_CHECK where no forced window opens. -/
theorem maintainCheck_gives {v : Nat} {amps raw : Int} {sat : Bool} (hstate : s.chg = 0xA)
    (hclosed : s.on R.BIST_STATUS_P3_WINDOW = false) (hnone : s.p3Qualifies = false) :
    Gives (exec (.maintainCheck v amps raw sat) s) (fun t =>
      if 4 + s.get R.CHG_I_TERM / 10 < amps.natAbs then t.chg = 0xA ∧ t.get R.X_MAINT_LOW = s.get R.X_MAINT_LOW else if
        s.cells * s.get R.CHG_V_RECHARGE ≤ v then t.chg = 0xA ∧ t.get R.X_MAINT_LOW = 0 else if s.get R.X_MAINT_LOW = 0 then
        t.chg = 0xA ∧ t.get R.X_MAINT_LOW = 1 else t.chg = s.pulseState 4 ∧ t.on R.CHG_FULL = false ∧ t.get R.CHG_I_PULSE =
        max (s.get R.CHG_I_SET / 4) (s.get R.CHG_I_TERM)) := by
  by_cases hdrawn : 4 + s.get R.CHG_I_TERM / 10 < amps.natAbs
  · refine ⟨_, congrArg Host.Outcome.next ((if_neg (by simp [hstate, hclosed])).trans ((if_neg (by simp [hnone])).trans
      (if_pos hdrawn))), ?_⟩
    dsimp only
    rw [if_pos hdrawn]
    exact ⟨(within_needP3.get (r := R.CHG_STATUS_STATE) (by decide +kernel)).trans hstate, within_needP3.get (by decide +kernel)⟩
  · have hread := within_maintained (s := s) (raw := raw) (amps := amps) (sat := sat)
    have hcounted : ∀ n, ((s.maintained raw amps sat).set R.X_MAINT_LOW n).chg = 0xA := fun n =>
      ((hread.trans within_set).get (r := R.CHG_STATUS_STATE) (by decide +kernel)).trans hstate
    refine ⟨_, exec_maintainCheck hstate hclosed hnone hdrawn, ?_⟩
    dsimp only
    rw [if_neg hdrawn]
    by_cases hhigh : s.cells * s.get R.CHG_V_RECHARGE ≤ v
    · rw [if_pos hhigh, if_neg (Nat.not_lt.2 hhigh)]
      exact ⟨hcounted 0, get_set_fit 0 (by decide)⟩
    rw [if_neg hhigh, if_pos (Nat.not_le.1 hhigh)]
    split_ifs
    · exact ⟨hcounted 1, get_set_fit 0 (by decide)⟩
    · obtain ⟨hchg, -, hcleared, hcurrent⟩ := recharge_gives (s := s.maintained raw amps sat)
      rw [hread.pulseState (by decide +kernel)] at hchg
      rw [firstCurrent, hread.get (by decide +kernel), hread.get (by decide +kernel)] at hcurrent
      exact ⟨hchg, hcleared, hcurrent⟩

/-- The clause of O8 on MAINTAIN_CHECK in whose place the forced window opens. -/
theorem maintainCheck_opens {v : Nat} {amps raw : Int} {sat : Bool} (hstate : s.chg = 0xA)
    (hclosed : s.on R.BIST_STATUS_P3_WINDOW = false) (hdue : s.p3Qualifies = true) (hmap : s.noMap) :
    Gives (exec (.maintainCheck v amps raw sat) s) (fun t =>
      t.on R.BIST_STATUS_P3_WINDOW ∧ t.chg = 0xA ∧ ∀ g : Fin 4, t.active g = [] ∧ t.gstate g = (if s.usable g = [] then 6 else
        if s.get R.X_TRIP g ≠ 0 then 5 else 0)) :=
  ⟨s.p3Opened, congrArg Host.Outcome.next ((if_neg (by simp [hstate, hclosed])).trans (if_pos hdue)),
    on_flag_self _ _ _ _ (by decide), (chg_p3Opened hmap).trans hstate, fun g => p3Opened_gives hmap hclosed g⟩

/-- The clause of O8 on ABSORB_END. -/
theorem absorbEnd_gives (hstate : s.chg = 0xB) : Gives (exec .absorbEnd s) (fun t =>
    t.chg = 0xC ∧ t.get R.CHG_FULL = 1 ∧ t.get R.CHG_TCHG_ACC = 0 ∧ t.get R.CHG_TABS = 0) := by
  have hget := (within_chgTo (s := s.terminate) (st := 0xC)).gets (rs := [R.CHG_FULL, R.CHG_TCHG_ACC, R.CHG_TABS]) (by decide +kernel)
  obtain ⟨hfull, hacc, habs⟩ := terminate_gives (s := s)
  exact ⟨_, congrArg Host.Outcome.next (if_pos hstate), chg_chgTo (by decide), (hget _ (by simp) 0).trans hfull,
    (hget _ (by simp) 0).trans hacc, (hget _ (by simp) 0).trans habs⟩

/-- The clause of O8 on FLOAT_RECHARGE. -/
theorem floatRecharge_gives (hstate : s.chg = 0xC) (hfree : s.holding = false) : Gives (exec .floatRecharge s) (fun t =>
    t.chg = 4 ∧ t.on R.X_PULSE ∧ t.on R.CHG_FULL = false ∧ t.get R.CHG_I_PULSE = max (s.get R.CHG_I_SET / 4) (s.get
      R.CHG_I_TERM)) := by
  obtain ⟨hchg, hpulse, hcleared, hcurrent⟩ := recharge_gives (s := s)
  rw [State.pulseState, hfree] at hchg
  rw [hfree] at hpulse
  exact ⟨_, congrArg Host.Outcome.next (if_pos ⟨hstate, by simp [hfree]⟩), hchg, hpulse, hcleared, hcurrent⟩

/-- The clause of O8 on EQUALISE_END. -/
theorem equaliseEnd_gives {why : Fin 3} (hstate : s.chg = 0xD) : Gives (exec (.equaliseEnd why) s) (fun t =>
    t.chg = (if why = 0 ∨ s.getS R.CHG_T_WARM_START ≤ s.tWarm ∨ s.hasClass 4 = false ∨ s.get R.MODE_STATUS_MODE ≠ 6 then 0xC
      else 0xD) ∧ (why ≠ 0 → s.getS R.CHG_T_WARM_START ≤ s.tWarm → t.bit R.CHG_FAULT_EQ_ABORT 0)) := by
  by_cases htimer : why = 0
  · refine ⟨_, congrArg Host.Outcome.next (if_pos ⟨htimer, hstate⟩), ?_, fun h => absurd htimer h⟩
    rw [if_pos (.inl htimer)]
    exact chg_chgTo (by decide)
  · obtain ⟨hchg, habort⟩ := equaliseFollow_gives hstate
    refine ⟨_, congrArg Host.Outcome.next (if_neg fun h => htimer h.1), ?_, fun _ => habort⟩
    rw [hchg]
    simp only [htimer, false_or]

/-- Settles O8: each clause is the lemma on its command. -/
theorem chargeSequence : Obligations.ChargeSequence := by
  refine ⟨?_, ?_, ?_, ?_, ?_, ?_, ?_, ?_, ?_, ?_, ?_, ?_⟩
  · rintro s vq ⟨hstate, hfree, hbat⟩
    exact qualifyComplete_gives hstate hfree hbat
  · rintro s v ⟨hstate, hfree, hhigh⟩
    exact prechargeComplete_gives hstate hfree hhigh
  · rintro s ion von ⟨hstate, hpulse⟩
    exact onPulseEnd_gives hstate hpulse
  · rintro s k v i1 ⟨hrest, hwait⟩
    exact restSample_gives hrest hwait
  · rintro s inBand raw amps sat ⟨hrest, hwait⟩
    exact restEnd_gives hrest hwait
  · rintro s inBand raw amps sat ⟨hrest, hwait, hfree⟩
    exact restEnd_released hrest hwait hfree
  · rintro s v amps raw sat ⟨hstate, hclosed, hnone⟩
    exact maintainCheck_gives hstate hclosed hnone
  · rintro s v amps raw sat ⟨hstate, hclosed, hdue, hmap⟩
    exact maintainCheck_opens hstate hclosed hdue hmap
  · exact fun s hopen => ⟨_, rfl, (endP3Window_gives hopen (g := 0)).1, fun g => (endP3Window_gives hopen).2⟩
  · exact fun s hstate => absorbEnd_gives hstate
  · rintro s ⟨hstate, hfree⟩
    exact floatRecharge_gives hstate hfree
  · exact fun s why hstate => equaliseEnd_gives hstate

end
end Sys2Proof.Machine
end

section
/-! PROOFS. Safety timers, BMSOK and the profile (R159, R160, R183 to R188), and the CHARGE_CONTROL actions (R189). -/

-- One theorem at a time: each decision by the kernel waits for all declarations before it and holds a thread meanwhile.
set_option Elab.async false

namespace Sys2Proof.Machine
namespace State

variable {s : State} {st : Nat} {port : PortId}

/-! ### The safety timers (R184, R185, R188) -/

/-- The causes of a timeout are set (R185). -/
def causesSet (s : State) (scaled absolute pre : Bool) : State :=
  ((((s.flag R.CHG_TIMEOUT_CAUSE_SCALED scaled).flag R.CHG_TIMEOUT_CAUSE_ABSOLUTE absolute).flag
    R.CHG_TIMEOUT_CAUSE_PRECHARGE pre).flag R.CHG_TIMEOUT_CAUSE_FOLDBACK_AT_EXPIRY s.folding).flag
    R.CHG_TIMEOUT_CAUSE_PENDING true

theorem causesSet_gives {scaled absolute pre : Bool} :
    (s.causesSet scaled absolute pre).on R.CHG_TIMEOUT_CAUSE_ABSOLUTE = absolute ∧
      (s.causesSet scaled absolute pre).on R.CHG_TIMEOUT_CAUSE_PENDING = true := by
  refine ⟨?_, on_flag_self _ _ _ _ (by decide)⟩
  exact (((within_flag.trans within_flag).trans within_flag).on (by decide +kernel)).trans (on_flag_self _ _ _ _ (by decide))

/-- FAULT is entered (R188), from a rest with what it has. -/
def faultEntered (s : State) : State := (s.cutRest.flag R.X_PULSE false).chgSet 0xF

theorem within_faultEntered : within (Foot.cutRest ++ [.reg R.X_PULSE] ++ Foot.chgSet) s s.faultEntered :=
  (within_cutRest.trans within_flag).trans within_chgSet_all

theorem chgExpire_eq (s : State) (scaled absolute pre : Bool) : ∃ flags rest, s.chgExpire scaled absolute pre =
    ((s.causesSet scaled absolute pre).faultEntered.pulseRecord flags rest).latchStand R.CHG_FAULT_TIMEOUT := ⟨_, _, rfl⟩

theorem chgExpire_gives {scaled absolute pre : Bool} : (s.chgExpire scaled absolute pre).chg = 0xF ∧
    (s.chgExpire scaled absolute pre).on R.CHG_TIMEOUT_CAUSE_ABSOLUTE = absolute ∧
    (s.chgExpire scaled absolute pre).on R.CHG_TIMEOUT_CAUSE_PENDING = true ∧
    (s.chgExpire scaled absolute pre).bit R.CHG_FAULT_TIMEOUT 0 = true ∧
    (s.chgExpire scaled absolute pre).stands R.CHG_FAULT_TIMEOUT = true := by
  obtain ⟨flags, rest, heq⟩ := chgExpire_eq s scaled absolute pre
  obtain ⟨habsolute, hpending⟩ := causesSet_gives (s := s) (scaled := scaled) (absolute := absolute) (pre := pre)
  have hlatched : ∀ t : State, within (Foot.pulseRecord ++ Foot.latchStand R.CHG_FAULT_TIMEOUT) t
      ((t.pulseRecord flags rest).latchStand R.CHG_FAULT_TIMEOUT) := fun _ => within_pulseRecord.trans within_latchStand
  have hcauses := (within_faultEntered.trans (hlatched (s.causesSet scaled absolute pre).faultEntered)).gets
    (rs := [R.CHG_TIMEOUT_CAUSE_ABSOLUTE, R.CHG_TIMEOUT_CAUSE_PENDING]) (by decide +kernel)
  rw [heq]
  exact ⟨((hlatched _).get (r := R.CHG_STATUS_STATE) (by decide +kernel)).trans (chg_chgSet (by decide)),
    (congrArg (· != 0) (hcauses _ (by simp) 0)).trans habsolute, (congrArg (· != 0) (hcauses _ (by simp) 0)).trans hpending,
    bit_latch (by decide) (by decide +kernel), stands_latchStand (by decide) (by decide +kernel)⟩

/-- Timers that count do so in states beside precharge. -/
theorem ne_precharge_of_timersRun (h : timersRun st = true) : st ≠ 3 := by
  rintro rfl
  exact absurd h (by decide)

/-! ### The profile (R159, R160, R188) -/

/-- A profile taken, which is configuration to be committed. -/
def profileTaken (s : State) (word : Nat) : State :=
  ((s.set R.CHG_PROFILE_CHEM (word % 16)).set R.CHG_PROFILE_CELLS (word / 16)).flag R.DEV_CFG_DIRTY true

theorem profileTaken_gives {word : Nat} (hfit : word < 256) : (s.profileTaken word).get R.CHG_PROFILE_CHEM = word % 16 ∧
    (s.profileTaken word).get R.CHG_PROFILE_CELLS = word / 16 ∧ (s.profileTaken word).on R.DEV_CFG_DIRTY = true := by
  refine ⟨?_, ?_, on_flag_self _ _ _ _ (by decide)⟩
  · exact ((within_set.trans within_flag).get (r := R.CHG_PROFILE_CHEM) (by decide +kernel)).trans
      (get_set_fit 0 (by change _ < 16; omega))
  · exact (within_flag.get (r := R.CHG_PROFILE_CELLS) (by decide +kernel)).trans (get_set_fit 0 (by change _ < 16; omega))

theorem within_profileChanged : within Foot.profileChanged s s.profileChanged := fun _ => Part.same_profileChanged Part.same_refl

/-- The sequencer starts over where the profile is another one (R188). -/
def profileFollowed (s t : State) : State := if s.chem = t.chem ∧ s.cells = t.cells then t else t.profileChanged

theorem within_profileFollowed {t : State} : within Foot.profileChanged t (s.profileFollowed t) :=
  within.ite within_refl within_profileChanged

/-! ### The actions of CHARGE_CONTROL (R189) -/

theorem within_chgRestart : within Foot.chgRestart s s.chgRestart := fun _ => Part.same_chgRestart Part.same_refl

/-- The causes of a timeout cleared, after the timers. -/
def causesCleared (s : State) : State :=
  (((s.timersReset.flag R.CHG_TIMEOUT_CAUSE_SCALED false).flag R.CHG_TIMEOUT_CAUSE_ABSOLUTE false).flag
    R.CHG_TIMEOUT_CAUSE_PRECHARGE false).flag R.CHG_TIMEOUT_CAUSE_FOLDBACK_AT_EXPIRY false

/-- A restart leads to QUALIFY, with the timers reset (R186). -/
theorem chgRestart_gives : s.chgRestart.chg = 2 ∧ s.chgRestart.get R.CHG_TABS = 0 ∧ s.chgRestart.get R.CHG_TCHG_ACC = 0 := by
  have hcauses : within ([.reg R.CHG_TIMEOUT_CAUSE_SCALED] ++ [.reg R.CHG_TIMEOUT_CAUSE_ABSOLUTE] ++
      [.reg R.CHG_TIMEOUT_CAUSE_PRECHARGE] ++ [.reg R.CHG_TIMEOUT_CAUSE_FOLDBACK_AT_EXPIRY]) s.timersReset s.causesCleared :=
    ((within_flag.trans within_flag).trans within_flag).trans within_flag
  have hget := (hcauses.trans (within_chgTo (st := 2))).gets (rs := [R.CHG_TABS, R.CHG_TCHG_ACC]) (by decide +kernel)
  obtain ⟨hacc, habs⟩ := timersReset_gives (s := s)
  exact ⟨chg_chgTo (by decide), (hget _ (by simp) 0).trans habs, (hget _ (by simp) 0).trans hacc⟩

theorem chgRestartAction_maintain (h : s.chg = 0xA) : s.chgRestartAction = (s.chgRestart, 0x00) := by
  simp [State.chgRestartAction, h]

theorem chgEqualise_accepted (hmode : s.get R.MODE_STATUS_MODE = 6) (hstate : s.chg = 0xB ∨ s.chg = 0xC) (hchem : s.chem = 3) :
    s.chgEqualise 0x5EA1 = (s.chgTo 0xD, 0x00) := by
  have hallowed : ¬ (s.get R.MODE_STATUS_MODE ≠ 6 ∨ s.chg ≠ 0xB ∧ s.chg ≠ 0xC) := by
    rcases hstate with h | h <;> simp [hmode, h]
  rw [State.chgEqualise, if_neg hallowed, if_neg (by decide), if_neg (not_not_intro hchem)]

theorem chgEndEqualise_accepted (h : s.chg = 0xD) : s.chgEndEqualise = (s.chgTo 0xC, 0x00) := if_pos h

theorem serviceGroups_accepted {arg : Nat} (h : s.get R.MODE_STATUS_MODE = 0xA) :
    s.serviceGroups arg = (s.set R.X_SVC_GROUPS (arg % 16), 0x00) := if_pos h

theorem chg_heard : (s.heard port).chg = s.chg := get_heard (by decide +kernel)

theorem chem_heard : (s.heard port).chem = s.chem := get_heard (by decide +kernel)

theorem mode_heard : (s.heard port).get R.MODE_STATUS_MODE = s.get R.MODE_STATUS_MODE := get_heard (by decide +kernel)

end State

section
variable {s : State} {port : PortId} {tag : Byte} {arg : Fin 65536}
open State

/-- The clause of O9 on SAFETY_TIMER_TICK. -/
theorem safetyTimerTick_gives {amps : Int} (hrun : timersRun s.chg = true) : Gives (exec (.safetyTimerTick amps) s) (fun t =>
    t.get R.CHG_TABS = min (s.get R.CHG_TABS + 1) R.CHG_TABS.top ∧ t.get R.CHG_TCHG_ACC = min (s.get R.CHG_TCHG_ACC + min
      amps.toNat (s.get R.CHG_I_SET)) R.CHG_TCHG_ACC.top) := by
  refine ⟨_, congrArg Host.Outcome.next ((if_neg (ne_precharge_of_timersRun hrun)).trans (if_pos hrun)), ?_, ?_⟩
  · rw [State.inc, get_add_self, State.add, within_set.get (by decide +kernel)]
  · rw [within_inc.get (by decide +kernel), get_add_self]

/-- The clause of O9 on SAFETY_TIMEOUT. -/
theorem safetyTimeout_gives (hrun : timersRun s.chg = true) (hdue : 60 * s.get R.CHG_T_ABS ≤ s.get R.CHG_TABS) :
    Gives (exec .safetyTimeout s) (fun t =>
      t.chg = 0xF ∧ t.on R.CHG_TIMEOUT_CAUSE_ABSOLUTE ∧ t.on R.CHG_TIMEOUT_CAUSE_PENDING ∧ t.bit R.CHG_FAULT_TIMEOUT 0 ∧
        t.stands R.CHG_FAULT_TIMEOUT) := by
  have habsolute : (timersRun s.chg && decide (60 * s.get R.CHG_T_ABS ≤ s.get R.CHG_TABS)) = true := by simp [hrun, hdue]
  obtain ⟨hchg, hcause, hpending, hlatched, hstands⟩ := chgExpire_gives (s := s)
    (scaled := timersRun s.chg && decide (s.get R.CHG_I_SET * 60 * s.get R.CHG_T_CHG ≤ s.get R.CHG_TCHG_ACC))
    (absolute := timersRun s.chg && decide (60 * s.get R.CHG_T_ABS ≤ s.get R.CHG_TABS))
    (pre := s.chg == 3 && decide (60 * s.get R.CHG_T_PRE ≤ s.get R.X_PRE_S))
  exact ⟨_, congrArg Host.Outcome.next (if_pos (by simp [habsolute])), hchg, hcause.trans habsolute, hpending, hlatched, hstands⟩

/-- The clause of O9 on BMSOK_REFUSE. -/
theorem bmsokRefuse_gives (hcares : s.on R.CHG_CTRL_BMSOK_EN = true) : Gives (exec .bmsokRefuse s) (fun t =>
    t.on R.CHG_HOLD_BMSOK ∧ t.on R.CHG_STATUS_HOLD ∧ t.chg = s.chg ∧ t.chgAim = 0 ∧ (onState s.chg → s.on R.X_PULSE → t.on
      R.X_PULSE_OVER)) := by
  obtain ⟨hcause, hshown, haim⟩ := chgHold_begins (s := s) (r := R.CHG_HOLD_BMSOK) (by simp [holdRegs])
  exact ⟨_, congrArg Host.Outcome.next (if_pos hcares), hcause, hshown,
    within_chgHold.get (r := R.CHG_STATUS_STATE) (by decide +kernel), haim, over_chgHold (by simp)⟩

/-- The clause of O9 on CHG_PROFILE_WRITE. -/
theorem chgProfileWrite_gives {word : Nat} (hfit : word < 256) (hcells : cellsAllowed (word % 16) (word / 16) = true)
    (hok : ((s.set R.CHG_PROFILE_CHEM (word % 16)).set R.CHG_PROFILE_CELLS (word / 16)).profileOk = true) :
    Gives (exec (.chgProfileWrite word) s) (fun t =>
      t.chem = word % 16 ∧ t.cells = word / 16 ∧ t.on R.DEV_CFG_DIRTY) := by
  have hmod : word / 16 % 16 = word / 16 := Nat.mod_eq_of_lt (by omega)
  have hget := (within_profileFollowed (s := s) (t := s.profileTaken word)).gets
    (rs := [R.CHG_PROFILE_CHEM, R.CHG_PROFILE_CELLS, R.DEV_CFG_DIRTY]) (by decide +kernel)
  obtain ⟨hchem, hcellsTaken, hdirty⟩ := profileTaken_gives (s := s) hfit
  have haccepted : ¬ (256 ≤ word ∨ (!cellsAllowed (word % 16) (word / 16 % 16)) = true ∨
      (!((s.set R.CHG_PROFILE_CHEM (word % 16)).set R.CHG_PROFILE_CELLS (word / 16)).profileOk) = true) := by
    simp [hmod, hcells, hok, hfit]
  exact ⟨s.profileFollowed (s.profileTaken word), congrArg Host.Outcome.next (if_neg haccepted),
    (hget _ (by simp) 0).trans hchem, (hget _ (by simp) 0).trans hcellsTaken, (congrArg (· != 0) (hget _ (by simp) 0)).trans hdirty⟩

/-- Settles O9: each clause is the lemma on its command. -/
theorem chargeSupervision : Obligations.ChargeSupervision := by
  refine ⟨?_, ?_, ?_, ?_, ?_⟩
  · exact fun s amps hrun => safetyTimerTick_gives hrun
  · rintro s ⟨hrun, hdue⟩
    exact safetyTimeout_gives hrun hdue
  · exact fun s hcares => bmsokRefuse_gives hcares
  · exact fun s => ⟨_, rfl, hold_chgHold (by decide) (by decide +kernel)⟩
  · rintro s word ⟨hfit, hcells, hok⟩
    exact chgProfileWrite_gives hfit hcells hok

/-! ### The clauses of O26 -/

/-- What a CHARGE_CONTROL on a free port answers, whose action leaves the ports and the requests alone. -/
theorem gives_chargeControl {c : Instr} {action n : Nat} {f : State → State × Nat} {a : State × Nat}
    (hc : exec c s = .next (s.chargeControl port tag action n f)) (hf : s.free port = true) (ha : f (s.heard port) = a)
    (hk : ∀ c ∈ [Comp.tw, .qb, .requests], (Part.comp c).same (s.heard port) a.1) :
    Gives (exec c s) (fun t => t.replied port a.2 tag [] ∧ t.fields = a.1.fields) :=
  gives_serve (a := State.answers a) hc hf (by decide) (by simp [lengthOk, length_le]) (congrArg State.answers ha) hk

/-- The clause of O26 on SUSPEND. -/
theorem suspend_gives (hf : s.free port = true) : Gives (exec (.suspend port tag arg) s) (fun t =>
    t.replied port 0x00 tag [] ∧ t.on R.CHG_HOLD_SUSPEND ∧ t.on R.CHG_STATUS_HOLD ∧ t.chgAim = 0) := by
  obtain ⟨hcause, hshown, -⟩ := chgHold_begins (s := s.heard port) (r := R.CHG_HOLD_SUSPEND) (by simp [holdRegs])
  obtain ⟨t, ht, hreply, hfields⟩ := gives_chargeControl (c := .suspend port tag arg) rfl hf rfl
    fun c hc => within_chgHold _ (by revert c; decide +kernel)
  have hon : t.on R.CHG_HOLD_SUSPEND = true := (on_of_fields hfields _ _).trans hcause
  exact ⟨t, ht, hreply, hon, (on_of_fields hfields _ _).trans hshown, chgAim_of_holding (holding_of_on (by simp [holdRegs]) hon)⟩

/-- The clause of O26 on RESUME. -/
theorem resume_gives (hf : s.free port = true) : Gives (exec (.resume port tag arg) s) (fun t =>
    t.replied port 0x00 tag [] ∧ t.on R.CHG_HOLD_SUSPEND = false) := by
  obtain ⟨t, ht, hreply, hfields⟩ := gives_chargeControl (c := .resume port tag arg) rfl hf rfl
    fun c hc => within_chgHold _ (by revert c; decide +kernel)
  exact ⟨t, ht, hreply, (on_of_fields hfields _ _).trans (hold_chgHold (by decide) (by decide +kernel))⟩

/-- The clause of O26 on RESTART. -/
theorem restart_gives (hf : s.free port = true) (hstate : s.chg = 0xA) : Gives (exec (.restart port tag arg) s) (fun t =>
    t.replied port 0x00 tag [] ∧ t.chg = 2 ∧ t.get R.CHG_TABS = 0 ∧ t.get R.CHG_TCHG_ACC = 0) := by
  obtain ⟨t, ht, hreply, hfields⟩ := gives_chargeControl (c := .restart port tag arg) rfl hf
    (chgRestartAction_maintain (chg_heard.trans hstate)) fun c hc => within_chgRestart _ (by revert c; decide +kernel)
  have hget := get_of_fields hfields
  obtain ⟨hchg, habs, hacc⟩ := chgRestart_gives (s := s.heard port)
  exact ⟨t, ht, hreply, (hget _ 0).trans hchg, (hget _ 0).trans habs, (hget _ 0).trans hacc⟩

/-- The clause of O26 on EQUALISE. -/
theorem equalise_gives (hf : s.free port = true) (hchem : s.chem = 3) (hmode : s.get R.MODE_STATUS_MODE = 6)
    (hstate : s.chg = 0xB ∨ s.chg = 0xC) : Gives (exec (.equalise port tag 0x5EA1) s) (fun t =>
      t.replied port 0x00 tag [] ∧ t.chg = 0xD) := by
  obtain ⟨t, ht, hreply, hfields⟩ := gives_chargeControl (c := .equalise port tag 0x5EA1) rfl hf
    (chgEqualise_accepted (mode_heard.trans hmode) (by rwa [chg_heard]) (chem_heard.trans hchem))
    fun c hc => within_chgTo _ (by revert c; decide +kernel)
  exact ⟨t, ht, hreply, (get_of_fields hfields _ 0).trans (chg_chgTo (by decide))⟩

/-- The clause of O26 on END_EQUALISE. -/
theorem endEqualise_gives (hf : s.free port = true) (hstate : s.chg = 0xD) : Gives (exec (.endEqualise port tag arg) s) (fun t =>
    t.replied port 0x00 tag [] ∧ t.chg = 0xC) := by
  obtain ⟨t, ht, hreply, hfields⟩ := gives_chargeControl (c := .endEqualise port tag arg) rfl hf
    (chgEndEqualise_accepted (chg_heard.trans hstate)) fun c hc => within_chgTo _ (by revert c; decide +kernel)
  exact ⟨t, ht, hreply, (get_of_fields hfields _ 0).trans (chg_chgTo (by decide))⟩

/-- The clause of O26 on SERVICE_GROUPS. -/
theorem serviceGroups_gives (hf : s.free port = true) (hmode : s.get R.MODE_STATUS_MODE = 0xA) :
    Gives (exec (.serviceGroups port tag arg) s) (fun t =>
      t.replied port 0x00 tag [] ∧ t.get R.X_SVC_GROUPS = arg.val % 16) := by
  obtain ⟨t, ht, hreply, hfields⟩ := gives_chargeControl (c := .serviceGroups port tag arg) rfl hf
    (serviceGroups_accepted (mode_heard.trans hmode)) fun c hc => within_set _ (by revert c; decide)
  exact ⟨t, ht, hreply, (get_of_fields hfields _ 0).trans (get_set_fit 0 (by change _ < 16; omega))⟩

/-- Settles O26: each clause is the lemma on its action, on the state in which the interpreter finds the request. -/
theorem hostCharge : Obligations.HostCharge := by
  refine ⟨?_, ?_, ?_, ?_, ?_, ?_⟩
  · exact fun s port tag arg hf => suspend_gives hf
  · exact fun s port tag arg hf => resume_gives hf
  · rintro s port tag arg ⟨hf, hstate⟩
    exact restart_gives hf hstate
  · rintro s port tag key ⟨hf, rfl, hchem, hmode, hstate⟩
    exact equalise_gives hf hchem hmode hstate
  · rintro s port tag arg ⟨hf, hstate⟩
    exact endEqualise_gives hf hstate
  · rintro s port tag arg ⟨hf, hmode⟩
    exact serviceGroups_gives hf hmode

end
end Sys2Proof.Machine
end

section
/-! PROOFS. The battery FET pair, the battery's state and the sequencer's stop (R195, R196, R206, R208, R209, R212), and a failed connection
or a trip that counts toward lockout (R203). -/

-- One theorem at a time: each decision by the kernel waits for all declarations before it and holds a thread meanwhile.
set_option Elab.async false

namespace Sys2Proof.Machine
namespace State

variable {s : State} {b : Nat} {counts : Bool} {r : Reg}

/-! ### The pair opens (R195) -/

theorem within_openPair : within Foot.openPair s s.openPair := fun _ => Part.same_openPair Part.same_refl

/-! ### The battery's state (R206) -/

theorem within_cause {c : Nat} : within Foot.cause s (s.cause c) := fun _ => Part.same_cause Part.same_refl

theorem within_setBat : within Foot.setBat s (s.setBat b) := fun _ => Part.same_setBat Part.same_refl

/-- The battery's state is shown, and the conditions that it contradicts have ended. -/
def batShown (s : State) (b : Nat) : State :=
  ((s.needP3.set R.PP_STATUS_BAT b).iff (b == 1) (fun t => t.ended R.PP_FAULT_BAT_LOST)).iff (b != 2) (fun t =>
    t.ended R.PP_FAULT_BAT_MISSING)

theorem within_batShown : within Foot.ended (s.needP3.set R.PP_STATUS_BAT b) (s.batShown b) :=
  (within.iff within_refl within_ended).iff within_ended

theorem setBat_eq (s : State) (b : Nat) : s.setBat b = (if b = 1 then s.batShown b else (s.batShown b).openPair).cause 0x0D := rfl

theorem bat_setBat (hfit : b < 8) : (s.setBat b).get R.PP_STATUS_BAT = b := by
  have hpair : within Foot.openPair (s.batShown b) (if b = 1 then s.batShown b else (s.batShown b).openPair) :=
    within.ite within_refl within_openPair
  rw [setBat_eq]
  exact (((within_batShown.trans hpair).trans within_cause).get (by decide +kernel)).trans (get_set_fit 0 hfit)

/-- A battery in any state but PRESENT has the pair open (R196). -/
theorem role_setBat (hlost : b ≠ 1) : (s.setBat b).get R.PP_STATUS_ROLE = 0 := by
  rw [setBat_eq, if_neg hlost]
  exact (within_cause.get (by decide +kernel)).trans role_openPair

/-- A battery found PRESENT leaves the pair as it is. -/
theorem role_setBat_present : (s.setBat 1).get R.PP_STATUS_ROLE = s.get R.PP_STATUS_ROLE := by
  have hshown : within (Foot.needP3 ++ [.reg R.PP_STATUS_BAT] ++ Foot.ended) s (s.batShown 1) :=
    (within_needP3.trans within_set).trans within_batShown
  exact (hshown.trans within_cause).get (by decide +kernel)

/-! ### The sequencer stops for the power path (R212) -/

theorem within_chgFaultPp : within Foot.chgFaultPp s s.chgFaultPp := fun _ => Part.same_chgFaultPp Part.same_refl

theorem target_chgDrop : s.chgDrop.get R.CHG_I_TARGET = 0 := get_set_fit 0 (by decide)

theorem within_chgDrop : within [.reg R.CHG_I_TARGET] s s.chgDrop := within_set

theorem target_chgFaultPp : s.chgFaultPp.get R.CHG_I_TARGET = 0 := by
  unfold State.chgFaultPp
  split
  case isTrue => exact target_chgDrop
  case isFalse =>
    split
    · exact target_chgDrop
    · exact target_chgDrop

/-- The sequencer is in FAULT, unless it is DISABLED. -/
theorem chg_chgFaultPp (hstate : s.chg ≠ 0) : s.chgFaultPp.chg = 15 := by
  unfold State.chgFaultPp
  rw [if_neg hstate]
  split
  case isTrue hfault => exact (within_chgDrop.get (r := R.CHG_STATUS_STATE) (by decide +kernel)).trans hfault
  case isFalse =>
    exact ((within_flag.trans within_chgDrop).get (r := R.CHG_STATUS_STATE) (by decide +kernel)).trans (chg_chgTo (by decide))

/-! ### The battery is lost (R209) -/

theorem batteryLost_gives : s.batteryLost.get R.PP_STATUS_BAT = 3 ∧ s.batteryLost.bit R.PP_FAULT_BAT_LOST 0 = true ∧
    s.batteryLost.get R.PP_STATUS_ROLE = 0 ∧ (s.chg ≠ 0 → s.batteryLost.chg = 15) := by
  have hstop := (within_chgFaultPp (s := (s.latchStand R.PP_FAULT_BAT_LOST).setBat 3)).gets
    (rs := [R.PP_STATUS_BAT, R.PP_STATUS_ROLE]) (by decide +kernel)
  have hlost : within (Foot.latchStand R.PP_FAULT_BAT_LOST ++ Foot.setBat) s ((s.latchStand R.PP_FAULT_BAT_LOST).setBat 3) :=
    within_latchStand.trans within_setBat
  refine ⟨(hstop _ (by simp) 0).trans (bat_setBat (by decide)), ?_, (hstop _ (by simp) 0).trans (role_setBat (by decide)),
    fun hstate => ?_⟩
  · exact ((within_setBat.trans within_chgFaultPp).bit (by decide +kernel)).trans (bit_latchStand (by decide) (by decide +kernel))
  · have hkept : ((s.latchStand R.PP_FAULT_BAT_LOST).setBat 3).chg = s.chg := hlost.get (by decide +kernel)
    exact chg_chgFaultPp (hkept ▸ hstate)

/-! ### Lockout (R203) -/

theorem within_ppFailure : within Foot.ppFailure s (s.ppFailure counts) := fun _ => Part.same_ppFailure Part.same_refl

/-- A failure is counted, as far as three; the third locks the pair out, and before it a wait begins. -/
theorem ppFailure_gives : (s.ppFailure counts).get R.X_FAILS = min (s.get R.X_FAILS + counts.toNat) 3 ∧
    if 3 ≤ s.get R.X_FAILS + counts.toNat then
      (s.ppFailure counts).on R.X_LOCKOUT = true ∧ (s.ppFailure counts).bit R.PP_FAULT_LOCKOUT 0 = true
    else (s.ppFailure counts).on R.PP_STATUS_RETRY_WAIT = true := by
  have hcount : (s.set R.X_FAILS (min (s.get R.X_FAILS + counts.toNat) 3)).get R.X_FAILS = min (s.get R.X_FAILS + counts.toNat) 3 :=
    get_set_fit 0 (by change _ < 4; omega)
  unfold State.ppFailure
  dsimp only
  rw [hcount]
  by_cases hlocked : 3 ≤ s.get R.X_FAILS + counts.toNat
  · rw [if_pos (by omega), if_pos hlocked]
    refine ⟨?_, ?_, bit_latchStand (by decide) (by decide +kernel)⟩
    · exact (((within_flag.trans within_flag).trans within_latchStand).get (by decide +kernel)).trans hcount
    · exact ((within_flag.trans within_latchStand).on (by decide +kernel)).trans (on_flag_self _ _ _ _ (by decide))
  · rw [if_neg (by omega), if_neg hlocked]
    exact ⟨(within_flag.get (by decide +kernel)).trans hcount, on_flag_self _ _ _ _ (by decide)⟩

end State
end Sys2Proof.Machine
end

section
/-! PROOFS. The protection of the power path (R203, R204, R207 to R209): trips, lockout, undervoltage and the battery's presence. -/

-- One theorem at a time: each decision by the kernel waits for all declarations before it and holds a thread meanwhile.
set_option Elab.async false

namespace Sys2Proof.Machine
namespace State

variable {s : State} {r : Reg}

/-! ### Trips (R203) -/

/-- Whether a trip now comes within 60 s of the one before it. -/
def tripsAgain (s : State) : Bool := s.on R.X_TRIPPED && s.now - s.get R.X_TRIP_AT ≤ 60000

/-- A trip latched and counted, and the pair open. -/
def tripLatched (s : State) (r : Reg) : State := ((s.latch r).inc R.PP_TRIP_CNT).openPair

/-- The sequencer stopped as well, the trip's marks still as they were. -/
def tripOpened (s : State) (r : Reg) : State := (s.tripLatched r).chgFaultPp

/-- A trip with its marks, not yet counted toward lockout. -/
def tripMarked (s : State) (r : Reg) : State :=
  ((s.tripOpened r).flag R.X_TRIPPED true).set R.X_TRIP_AT (s.tripOpened r).now

theorem ppTrip_eq (s : State) (r : Reg) : s.ppTrip r = (s.tripMarked r).ppFailure s.tripsAgain := rfl

/-- The faults that trip the pair. -/
def tripFaults : List Reg := [R.PP_FAULT_DSG_OC, R.PP_FAULT_SHORT_CIRCUIT]

/-- What a trip changes once its fault is latched and counted. -/
def openedFoot : List Touch := Foot.openPair ++ Foot.chgFaultPp

/-- What a trip's marks and its count toward lockout change. -/
def markedFoot : List Touch := [.reg R.X_TRIPPED] ++ [.reg R.X_TRIP_AT] ++ Foot.ppFailure

theorem within_opened : within openedFoot ((s.latch r).inc R.PP_TRIP_CNT) (s.tripOpened r) := within_openPair.trans within_chgFaultPp

theorem within_tripStopped : within Foot.chgFaultPp (s.tripLatched r) (s.tripOpened r) := within_chgFaultPp

theorem within_marked : within markedFoot (s.tripOpened r) (s.ppTrip r) := (within_flag.trans within_set).trans within_ppFailure

theorem tripsAgain_toNat : s.tripsAgain.toNat = if s.on R.X_TRIPPED ∧ s.now - s.get R.X_TRIP_AT ≤ 60000 then 1 else 0 := by
  rw [tripsAgain, Bool.toNat]
  simp only [Bool.and_eq_true, decide_eq_true_eq, Bool.cond_eq_ite]

theorem tripFaults_apart : ∀ r ∈ tripFaults, 0 < r.width ∧ Machine.keeps (Foot.offer ++ Foot.followAlert) (.key (r.key 0)) = true ∧
    Machine.keeps ([.reg R.PP_TRIP_CNT] ++ openedFoot ++ markedFoot) (.key (r.key 0)) = true ∧
    sparesRegs (Foot.latch r) [R.PP_TRIP_CNT, R.CHG_STATUS_STATE, R.X_FAILS] = true := by decide +kernel

/-- What a trip does to the pair and the sequencer. -/
theorem ppTrip_opens (hr : r ∈ tripFaults) : (s.ppTrip r).bit r 0 = true ∧ (s.ppTrip r).get R.PP_STATUS_ROLE = 0 ∧
    (s.ppTrip r).get R.PP_TRIP_CNT = min (s.get R.PP_TRIP_CNT + 1) 65535 ∧ (s.chg ≠ 0 → (s.ppTrip r).chg = 15) ∧
    (s.ppTrip r).get R.CHG_I_TARGET = 0 ∧ (s.ppTrip r).on R.X_TRIPPED = true := by
  obtain ⟨hwidth, hlatch, hrest, hspares⟩ := tripFaults_apart r hr
  have hlatched := (within_latch (s := s) (r := r) (b := 0)).gets hspares
  have hmarked := (within_marked (s := s) (r := r)).gets (rs := [R.CHG_STATUS_STATE, R.CHG_I_TARGET]) (by decide +kernel)
  refine ⟨?_, ?_, ?_, fun hstate => ?_, ?_, ?_⟩
  · exact (((within_inc.trans within_opened).trans within_marked).bit hrest).trans (bit_latch hwidth hlatch)
  · have hopened : (s.tripLatched r).get R.PP_STATUS_ROLE = 0 := role_openPair
    exact ((within_tripStopped.trans within_marked).get (by decide +kernel)).trans hopened
  · refine ((within_opened.trans within_marked).get (by decide +kernel)).trans ?_
    rw [State.inc, get_add_self, hlatched _ (by simp)]
    rfl
  · have hkept : (s.tripLatched r).chg = s.chg :=
      ((within_inc.trans within_openPair).get (by decide +kernel)).trans (hlatched R.CHG_STATUS_STATE (by simp) 0)
    have hstopped : (s.tripOpened r).chg = 15 := chg_chgFaultPp fun h => hstate (hkept.symm.trans h)
    exact (hmarked _ (by simp) 0).trans hstopped
  · have hdropped : (s.tripOpened r).get R.CHG_I_TARGET = 0 := target_chgFaultPp
    exact (hmarked _ (by simp) 0).trans hdropped
  · exact ((within_set.trans within_ppFailure).on (by decide +kernel)).trans (on_flag_self _ _ _ _ (by decide))

/-- A trip counts toward lockout where it follows another within 60 s. -/
theorem ppTrip_counts (hr : r ∈ tripFaults) :
    (s.ppTrip r).get R.X_FAILS = min (s.get R.X_FAILS + s.tripsAgain.toNat) 3 ∧
    if 3 ≤ s.get R.X_FAILS + s.tripsAgain.toNat then
      (s.ppTrip r).on R.X_LOCKOUT = true ∧ (s.ppTrip r).bit R.PP_FAULT_LOCKOUT 0 = true
    else (s.ppTrip r).on R.PP_STATUS_RETRY_WAIT = true := by
  obtain ⟨-, -, -, hspares⟩ := tripFaults_apart r hr
  have hfails : (s.tripMarked r).get R.X_FAILS = s.get R.X_FAILS :=
    (((within_inc.trans within_opened).trans (within_flag.trans within_set)).get (by decide +kernel)).trans
      (within_latch.gets hspares _ (by simp) 0)
  rw [ppTrip_eq, ← hfails]
  exact ppFailure_gives

/-! ### Lockout ends (R203) -/

theorem endLockout_gives : s.endLockout.on R.X_LOCKOUT = false ∧
    (s.on R.X_LOCKOUT = true → s.endLockout.get R.X_FAILS = 0 ∧ s.endLockout.stands R.PP_FAULT_LOCKOUT = false) := by
  unfold State.endLockout
  split
  case isTrue =>
    refine ⟨?_, fun _ => ⟨?_, stands_ended (by decide)⟩⟩
    · exact ((within_clear.trans within_ended).on (by decide +kernel)).trans (on_flag_self _ _ _ _ (by decide))
    · exact (within_ended.get (by decide +kernel)).trans (get_clear_self _ _ _)
  case isFalse hfree => exact ⟨by simpa using hfree, fun h => absurd h hfree⟩

/-! ### The battery's presence (R207, R209) -/

/-- A battery is found missing: a LOST one stays LOST, and an entry to MISSING latches. -/
theorem batteryMissing_gives : s.batteryMissing.get R.PP_STATUS_ROLE = 0 ∧
    s.batteryMissing.get R.PP_STATUS_BAT = (if s.get R.PP_STATUS_BAT = 3 then 3 else 2) ∧
    (s.get R.PP_STATUS_BAT ≠ 3 → s.get R.PP_STATUS_BAT ≠ 2 → s.batteryMissing.bit R.PP_FAULT_BAT_MISSING 0 = true) := by
  unfold State.batteryMissing
  split
  case isTrue hknown =>
    refine ⟨role_openPair, (within_openPair.get (by decide +kernel)).trans ?_, fun hlost hmissing => ?_⟩
    · split <;> omega
    · omega
  case isFalse hknown =>
    have hbat : s.get R.PP_STATUS_BAT ≠ 3 := fun h => hknown (.inl h)
    refine ⟨?_, ?_, fun _ _ => bit_latchStand (by decide) (by decide +kernel)⟩
    · exact (within_latchStand.get (by decide +kernel)).trans (role_setBat (by decide))
    · rw [if_neg hbat]
      exact (within_latchStand.get (by decide +kernel)).trans (bat_setBat (by decide))

/-- A probe under way, P3 free for it and none due any more. -/
def probeBegun (s : State) : State := s.needP3.flag R.X_PROBE_DUE false

end State

section
variable {s : State} {r : Reg} {batsMv : Nat}
open State

/-! ### The clauses of O11 -/

/-- The clause of O11 on a command that trips the pair. -/
theorem ppTrip_gives {c : Instr} (hr : r ∈ tripFaults) (hc : exec c s = .next (s.ppTrip r)) : Gives (exec c s) (fun t =>
    t.bit r 0 ∧ t.get R.PP_STATUS_ROLE = 0 ∧ t.get R.PP_TRIP_CNT = min (s.get R.PP_TRIP_CNT + 1) 65535 ∧
      (s.chg ≠ 0 → t.chg = 15) ∧ t.get R.CHG_I_TARGET = 0 ∧ t.on R.X_TRIPPED ∧ t.get R.X_FAILS = min (s.get R.X_FAILS + (if
      s.on R.X_TRIPPED ∧ s.now - s.get R.X_TRIP_AT ≤ 60000 then 1 else 0)) 3 ∧ (if 3 ≤ (s.get R.X_FAILS + (if s.on
      R.X_TRIPPED ∧ s.now - s.get R.X_TRIP_AT ≤ 60000 then 1 else 0)) then t.on R.X_LOCKOUT ∧ t.bit R.PP_FAULT_LOCKOUT 0
      else t.on R.PP_STATUS_RETRY_WAIT)) := by
  obtain ⟨hlatched, hrole, hcount, hchg, htarget, htripped⟩ := ppTrip_opens (s := s) hr
  have hcounts := ppTrip_counts (s := s) hr
  rw [tripsAgain_toNat] at hcounts
  exact ⟨_, hc, hlatched, hrole, hcount, hchg, htarget, htripped, hcounts⟩

/-- The clause of O11 on TRIP_COUNT_RESET. -/
theorem tripCountReset_gives (hfree : s.on R.X_LOCKOUT = false) (hopen : s.get R.PP_STATUS_ROLE ≠ 0)
    (hconnect : s.get R.PP_STATUS_ROLE ≠ 4) : Gives (exec .tripCountReset s) (fun t =>
      t.get R.X_FAILS = 0 ∧ t.on R.X_TRIPPED = false) :=
  ⟨_, congrArg Host.Outcome.next (if_neg (by simp [hfree, hopen, hconnect])),
    (within_flag.get (by decide +kernel)).trans (get_clear_self _ _ _), on_flag_self _ _ _ _ (by decide)⟩

/-- The clause of O11 on RETRY_NOW. -/
theorem retryNow_gives : Gives (exec .retryNow s) (fun t =>
    t.on R.PP_STATUS_RETRY_WAIT = false ∧ t.on R.X_LOCKOUT = false ∧ (s.on R.X_LOCKOUT → t.get R.X_FAILS = 0 ∧ t.stands
      R.PP_FAULT_LOCKOUT = false)) := by
  obtain ⟨hended, hcleared⟩ := endLockout_gives (s := s.flag R.PP_STATUS_RETRY_WAIT false)
  have hwait : (s.flag R.PP_STATUS_RETRY_WAIT false).on R.X_LOCKOUT = s.on R.X_LOCKOUT := within_flag.on (by decide +kernel)
  have hlockout : within Foot.endLockout (s.flag R.PP_STATUS_RETRY_WAIT false) s.ppRetryNow := fun _ =>
    Part.same_endLockout Part.same_refl
  exact ⟨_, rfl, (hlockout.on (by decide +kernel)).trans (on_flag_self _ _ _ _ (by decide)), hended, hwait ▸ hcleared⟩

/-- The clause of O11 on UV_INHIBIT. -/
theorem uvInhibit_gives (hpresent : s.anyPresent = true) (hlow : batsMv < s.cells * s.get R.PP_UV_CELL)
    (hfree : s.on R.PP_STATUS_UV_INHIBIT = false) : Gives (exec (.uvInhibit batsMv) s) (fun t =>
      t.on R.PP_STATUS_UV_INHIBIT ∧ t.bit R.PP_FAULT_BAT_UV 0 ∧ t.stands R.PP_FAULT_BAT_UV) :=
  ⟨_, congrArg Host.Outcome.next (if_pos ⟨hpresent, hlow, by simp [hfree]⟩),
    (within_latchStand.on (by decide +kernel)).trans (on_flag_self _ _ _ _ (by decide)),
    bit_latchStand (by decide) (by decide +kernel), stands_latchStand (by decide) (by decide +kernel)⟩

/-- The clause of O11 on UV_INHIBIT_END. -/
theorem uvInhibitEnd_gives (hhigh : s.cells * (s.get R.PP_UV_CELL + 100) ≤ batsMv) : Gives (exec (.uvInhibitEnd batsMv) s) (fun t =>
    t.on R.PP_STATUS_UV_INHIBIT = false ∧ t.stands R.PP_FAULT_BAT_UV = false) :=
  ⟨_, congrArg Host.Outcome.next (if_pos hhigh), (within_ended.on (by decide +kernel)).trans (on_flag_self _ _ _ _ (by decide)),
    stands_ended (by decide)⟩

/-- A probe of an open pair finds the battery missing, or PRESENT. -/
theorem exec_presenceProbe {v0 v1 : Nat} (hrole : s.get R.PP_STATUS_ROLE = 0)
    (hbat : s.get R.PP_STATUS_BAT = 0 ∨ s.get R.PP_STATUS_BAT = 2 ∨ s.get R.PP_STATUS_BAT = 3) (hawake : s.asleepDeep = false) :
    exec (.presenceProbe v0 v1) s = .next (if v0 < 200 ∨ s.anyPresent ∧ (v1 < 200 ∨ v1 * 100 < v0 * 80) then
      s.probeBegun.batteryMissing else s.probeBegun.setBat 1) := by
  have hshort : s.get R.PP_STATUS_BAT ≠ 4 := by omega
  have hdue : s.get R.PP_STATUS_ROLE = 0 ∧ (s.get R.PP_STATUS_BAT = 0 ∨ s.get R.PP_STATUS_BAT = 2 ∨ s.get R.PP_STATUS_BAT = 3 ∨
      s.on R.X_PROBE_DUE) ∧ !s.asleepDeep := by
    refine ⟨hrole, ?_, by simp [hawake]⟩
    rcases hbat with h | h | h <;> simp [h]
  refine congrArg Host.Outcome.next ((if_pos hdue).trans ?_)
  exact if_congr Iff.rfl rfl (if_neg hshort)

/-- The clause of O11 on PRESENCE_PROBE. -/
theorem presenceProbe_gives {v0 v1 : Nat} (hrole : s.get R.PP_STATUS_ROLE = 0)
    (hbat : s.get R.PP_STATUS_BAT = 0 ∨ s.get R.PP_STATUS_BAT = 2 ∨ s.get R.PP_STATUS_BAT = 3) (hawake : s.asleepDeep = false) :
    Gives (exec (.presenceProbe v0 v1) s) (fun t =>
      t.get R.PP_STATUS_BAT = (if v0 < 200 ∨ s.anyPresent ∧ (v1 < 200 ∨ v1 * 100 < v0 * 80) then (if s.get R.PP_STATUS_BAT = 3
        then 3 else 2) else 1) ∧ t.get R.PP_STATUS_ROLE = 0 ∧ t.on R.X_PROBE_DUE = false ∧ (s.get R.PP_STATUS_BAT = 0 → t.get
        R.PP_STATUS_BAT = 2 → t.bit R.PP_FAULT_BAT_MISSING 0)) := by
  have hbegun := ((within_needP3.trans within_flag : within (Foot.needP3 ++ [.reg R.X_PROBE_DUE]) s s.probeBegun)).gets
    (rs := [R.PP_STATUS_BAT, R.PP_STATUS_ROLE]) (by decide +kernel)
  have hdone : s.probeBegun.on R.X_PROBE_DUE = false := on_flag_self _ _ _ _ (by decide)
  refine ⟨_, exec_presenceProbe hrole hbat hawake, ?_⟩
  dsimp only
  split
  case isTrue =>
    obtain ⟨hopen, hmissing, hlatched⟩ := batteryMissing_gives (s := s.probeBegun)
    rw [hbegun _ (by simp)] at hmissing hlatched
    have hfree : s.probeBegun.batteryMissing.on R.X_PROBE_DUE = s.probeBegun.on R.X_PROBE_DUE :=
      within.on (fun _ => Part.same_batteryMissing Part.same_refl) (by decide +kernel)
    exact ⟨hmissing, hopen, hfree.trans hdone, fun hunknown _ => hlatched (by omega) (by omega)⟩
  case isFalse =>
    have hpresent : (s.probeBegun.setBat 1).get R.PP_STATUS_BAT = 1 := bat_setBat (by decide)
    refine ⟨hpresent, role_setBat_present.trans ((hbegun _ (by simp) 0).trans hrole),
      (within_setBat.on (by decide +kernel)).trans hdone, fun _ hmissing => ?_⟩
    omega

/-- The clause of O11 on EMPTY_CONNECTOR. -/
theorem emptyConnector_gives (hrole : s.get R.PP_STATUS_ROLE = 2) (htarget : s.get R.CHG_I_TARGET ≠ 0)
    (hbat : s.get R.PP_STATUS_BAT = 1) : Gives (exec .emptyConnector s) (fun t =>
      t.get R.PP_STATUS_ROLE = 0 ∧ t.get R.PP_STATUS_BAT = 2 ∧ t.bit R.PP_FAULT_BAT_MISSING 0) := by
  have hkept : s.openPair.get R.PP_STATUS_BAT = 1 := (within_openPair.get (by decide +kernel)).trans hbat
  obtain ⟨hopen, hmissing, hlatched⟩ := batteryMissing_gives (s := s.openPair)
  rw [hkept] at hmissing hlatched
  exact ⟨_, congrArg Host.Outcome.next (if_pos ⟨hrole, htarget⟩), hopen, hmissing, hlatched (by decide) (by decide)⟩

/-- The clause of O11 on BATTERY_SHORT. -/
theorem batteryShort_gives (hstate : s.chg = 3) (hbat : s.get R.PP_STATUS_BAT = 1)
    (hlow : batsMv ≤ s.cells * s.get R.PP_V_SHORT * 10) : Gives (exec (.batteryShort batsMv) s) (fun t =>
      t.get R.PP_STATUS_BAT = 4 ∧ t.bit R.PP_FAULT_BAT_SHORT 0 ∧ t.chg = 15 ∧ t.get R.PP_STATUS_ROLE = 0) := by
  have hkept : ((s.latchStand R.PP_FAULT_BAT_SHORT).setBat 4).chg = s.chg :=
    (within_latchStand.trans within_setBat).get (by decide +kernel)
  refine ⟨_, congrArg Host.Outcome.next (if_pos ⟨hstate, hbat, hlow⟩), ?_, ?_, chg_chgFaultPp (by rw [hkept, hstate]; decide), ?_⟩
  · exact (within_chgFaultPp.get (by decide +kernel)).trans (bat_setBat (by decide))
  · exact ((within_setBat.trans within_chgFaultPp).bit (by decide +kernel)).trans (bit_latchStand (by decide) (by decide +kernel))
  · exact (within_chgFaultPp.get (by decide +kernel)).trans (role_setBat (by decide))

/-- Every group has tripped for a removal, and the battery is lost (R209). -/
def State.removed (s : State) : State := (s.each 4 (fun g t => t.tripGroup g 4)).batteryLost

/-- The trips of a removal end at once, or with the SYS overvoltage that found it. -/
def State.removalEnded (s : State) : State :=
  if s.stands R.CNV_FAULT_SYS_OV then s else s.each 4 (fun g t => t.endTrip g 4)

theorem within_removalEnded : within Foot.endTrip s s.removalEnded :=
  within.ite within_refl (each_keeps within_refl fun _ _ _ ht => ht.chain fun _ => Part.same_endTrip Part.same_refl)

/-- The clause of O11 on BATTERY_REMOVAL. -/
theorem batteryRemoval_gives (hopen : s.get R.PP_STATUS_ROLE ≠ 0) (hconnect : s.get R.PP_STATUS_ROLE ≠ 4) :
    Gives (exec .batteryRemoval s) (fun t =>
      t.get R.PP_STATUS_BAT = 3 ∧ t.bit R.PP_FAULT_BAT_LOST 0 ∧ t.get R.PP_STATUS_ROLE = 0 ∧ (s.chg ≠ 0 → t.chg = 15)) := by
  have hended := (within_removalEnded (s := s.removed)).gets
    (rs := [R.PP_STATUS_BAT, R.PP_FAULT_BAT_LOST, R.PP_STATUS_ROLE, R.CHG_STATUS_STATE]) (by decide +kernel)
  have htripped : (s.each 4 (fun g t => t.tripGroup g 4)).chg = s.chg := (within_tripGroups (by decide)).get (by decide +kernel)
  obtain ⟨hbat, hlatched, hrole, hchg⟩ := batteryLost_gives (s := s.each 4 (fun g t => t.tripGroup g 4))
  refine ⟨s.removed.removalEnded, congrArg Host.Outcome.next ((if_neg hopen).trans (if_neg hconnect)),
    (hended _ (by simp) 0).trans hbat, ?_, (hended _ (by simp) 0).trans hrole, fun hstate => ?_⟩
  · exact (congrArg (Nat.testBit · 0) (hended R.PP_FAULT_BAT_LOST (by simp) 0)).trans hlatched
  · exact (hended _ (by simp) 0).trans (hchg (htripped ▸ hstate))

/-- The clause of O11 on UNSUPPORTED_SYS_FALL. -/
theorem unsupportedSysFall_gives (hrole : s.get R.PP_STATUS_ROLE ≠ 0) (hshort : s.on R.TRK_STATUS_SHORTFALL = true) (hstate : s.chg = 4) :
    Gives (exec .unsupportedSysFall s) (fun t => t.get R.PP_STATUS_BAT = 0 ∧ t.get R.PP_STATUS_ROLE = 0 ∧ t.chg = 2) := by
  have hkept : (s.setBat 0).chg = 4 := (within_setBat.get (r := R.CHG_STATUS_STATE) (by decide +kernel)).trans hstate
  have hqualify := (within_flag.trans within_chgTo : within ([.reg R.X_PULSE] ++ Foot.chgTo) (s.setBat 0)
    (((s.setBat 0).flag R.X_PULSE false).chgTo 2)).gets (rs := [R.PP_STATUS_BAT, R.PP_STATUS_ROLE]) (by decide +kernel)
  exact ⟨_, congrArg Host.Outcome.next ((if_pos ⟨hrole, hshort⟩).trans (if_neg (by rw [hkept]; decide))),
    (hqualify _ (by simp) 0).trans (bat_setBat (by decide)), (hqualify _ (by simp) 0).trans (role_setBat (by decide)),
    chg_chgTo (by decide)⟩

end
end Sys2Proof.Machine
end

section
/-! PROOFS. The undervoltage cut-off (R205), and the statement on the protection of the power path (R203 to R209). -/

-- One theorem at a time: each decision by the kernel waits for all declarations before it and holds a thread meanwhile.
set_option Elab.async false

namespace Sys2Proof.Machine
namespace State

variable {s t : State} {l : List Touch} {st : Nat}

/-! ### Ports that switch off (R205 step 2) -/

theorem within_cutoffPorts : within Foot.cutoffPorts s s.cutoffPorts := fun _ => Part.same_cutoffPorts Part.same_refl

/-- The state of the ports. -/
def portRegs : List Reg := [R.LINE_STATUS_A_STATE, R.LINE_STATUS_B_STATE]

theorem within.portState (h : within l s t) (hoff : sparesRegs l portRegs = true) (p : Nat) : t.portState p = s.portState p := by
  have hget := h.gets hoff
  rw [State.portState, State.portState, hget _ (by simp [portRegs]), hget _ (by simp [portRegs])]

theorem portState_setPort_self {p : Fin 2} (hfit : st < 8) : (s.setPort p st).portState p = st := by
  unfold State.setPort State.portState
  split
  · exact get_set_fit 0 hfit
  · exact get_set_fit 0 hfit

theorem portState_setPort_other {p q : Fin 2} (hne : q ≠ p) : (s.setPort q st).portState p = s.portState p := by
  unfold State.setPort State.portState
  fin_cases p <;> fin_cases q
  · exact absurd rfl hne
  · exact within_set.get (by decide +kernel)
  · exact within_set.get (by decide +kernel)
  · exact absurd rfl hne

/-- What a port that goes down changes before its state. -/
def downHeadFoot : List Touch := Foot.sleepCredit ++ Foot.abortSlice ++ Foot.lineIdle

/-- What it changes after it. -/
def downTailFoot : List Touch := [.reg R.X_LINE_UP] ++ [.reg R.X_ENUM] ++ [.reg R.X_KA_POWER]

theorem within_sleepCredit : within Foot.sleepCredit s s.sleepCredit := fun _ => Part.same_sleepCredit Part.same_refl

theorem within_lineIdle {p : Nat} : within Foot.lineIdle s (s.lineIdle p) := fun _ => Part.same_lineIdle Part.same_refl

/-- A port goes down by one change of its state. -/
theorem portDown_cases (s : State) (p st : Nat) : ∃ u, within downHeadFoot s u ∧
    within downTailFoot (u.setPort p st) (s.portDown p st) :=
  ⟨(s.sleepCredit.abortSlice 0x20).lineIdle p, (within_sleepCredit.trans within_abortSlice).trans within_lineIdle,
    (within_flag.trans within_set).trans within_set⟩

theorem portState_portDown_self {p : Fin 2} (hfit : st < 8) : (s.portDown p st).portState p = st := by
  obtain ⟨u, -, htail⟩ := portDown_cases s p st
  exact (htail.portState (by decide +kernel) p).trans (portState_setPort_self hfit)

theorem portState_portDown_other {p q : Fin 2} (hne : q ≠ p) : (s.portDown q st).portState p = s.portState p := by
  obtain ⟨u, hhead, htail⟩ := portDown_cases s q st
  exact (htail.portState (by decide +kernel) p).trans ((portState_setPort_other hne).trans (hhead.portState (by decide +kernel) p))

/-- The state of a port that switches off: a latched one stays LATCHED. -/
def offState (st : Nat) : Nat := if st = 6 then 6 else 0

theorem offState_lt (st : Nat) : offState st < 8 := by
  unfold offState
  split <;> decide

/-- The ports switch off once the rails are off. -/
theorem portState_cutoffPorts (hcut : s.on R.X_CUTOFF = true) (hrail0 : s.railOn 0 = false) (hrail1 : s.railOn 1 = false) (p : Fin 2) :
    s.cutoffPorts.portState p = offState (s.portState p) := by
  unfold State.cutoffPorts
  rw [if_pos ⟨hcut, by simp [hrail0], by simp [hrail1]⟩]
  obtain ⟨t, -, hkept, hoff⟩ := each_at (I := fun _ => True) (val := fun t => t.portState p) (s := s) (f := fun p t => t.portOff p)
    p.isLt trivial (fun _ _ _ _ => trivial) fun j _ hj hne _ =>
      portState_portDown_other (q := ⟨j, hj⟩) fun h => hne (congrArg Fin.val h)
  rw [hoff, ← hkept]
  exact portState_portDown_self (offState_lt _)

/-! ### VAUX and VPRE stop (R205 step 3) -/

/-- A port that is off is none that a VAUX out of regulation drops. -/
theorem portHigh_of_off {p st : Nat} (h : s.portState p = offState st) : s.portHigh p = false := by
  rw [State.portHigh, h, offState]
  split <;> decide

theorem portsDrop_of_off (hoff : ∀ p : Fin 2, s.portHigh p = false) : s.portsDrop = s :=
  each_eq_self fun p hp => if_neg (by simp [hoff ⟨p, hp⟩])

theorem within_abandonProbes : within Foot.abandonProbes s s.abandonProbes := fun _ => Part.same_abandonProbes Part.same_refl

/-- What a stop of VAUX changes where both ports are off. -/
def vauxFoot : List Touch := [.reg R.AUX_STATUS_VAUX_REG] ++ [.reg R.AUX_STATUS_VPRE_HOLD_DRV] ++ Foot.abandonProbes

theorem within_vauxOutOfReg_of_off (hoff : ∀ p : Fin 2, s.portHigh p = false) : within vauxFoot s s.vauxOutOfReg := by
  have hlost : within ([.reg R.AUX_STATUS_VAUX_REG] ++ [.reg R.AUX_STATUS_VPRE_HOLD_DRV]) s ((s.flag R.AUX_STATUS_VAUX_REG false).flag
      R.AUX_STATUS_VPRE_HOLD_DRV (s.on R.AUX_STATUS_VPRE_ON)) := within_flag.trans within_flag
  unfold State.vauxOutOfReg
  dsimp only
  rw [portsDrop_of_off fun p => ?_]
  · exact within.ite (hlost.trans within_abandonProbes) within_refl
  · rw [State.portHigh, hlost.portState (by decide +kernel)]
    exact hoff p

/-- What a stop of VAUX sets after it. -/
def vauxEndFoot : List Touch :=
  [.reg R.AUX_STATUS_VAUX_ON] ++ [.reg R.AUX_STATUS_VAUX_ILIM] ++ [.reg R.AUX_VAUX_V] ++ [.reg R.AUX_VAUX_I]

theorem within_vauxEnd : within vauxEndFoot (s.abortSlice 0x10).vauxOutOfReg s.stopVaux :=
  ((within_flag.trans within_flag).trans within_set).trans within_set

theorem within_stopVaux_of_off (hoff : ∀ p : Fin 2, s.portHigh p = false) :
    within (Foot.abortSlice ++ vauxFoot ++ vauxEndFoot) s s.stopVaux := by
  have hports : ∀ p : Fin 2, (s.abortSlice 0x10).portHigh p = false := fun p => by
    rw [State.portHigh, within_abortSlice.portState (by decide +kernel)]
    exact hoff p
  exact (within_abortSlice.trans (within_vauxOutOfReg_of_off hports)).trans within_vauxEnd

theorem within_stopVpre {code : Nat} : within Foot.stopVpre s (s.stopVpre code) := fun _ => Part.same_stopVpre Part.same_refl

/-! ### The cut-off completes -/

/-- The ports are off, whatever slice ran. -/
def cutPortsOff (s : State) : State := (s.abortSlice 0xFF).cutoffPorts

/-- VAUX and VPRE have stopped, and the pair is open. -/
def cutPowerOff (s : State) : State := ((s.cutPortsOff.stopVaux).stopVpre 0).openPair

/-- VSU and the fast clock are off, and the rest begins. -/
def cutRested (s : State) : State :=
  (((((s.flag R.PP_STATUS_VSU_ON false).flag R.DEV_CLK_FAST_ON false).flag R.X_FAST_REQ false).flag R.X_CUTOFF false).flag
    R.X_CUTOFF_REST true).followAlert

/-- What the begin of the rest changes. -/
def restedFoot : List Touch := [.reg R.PP_STATUS_VSU_ON] ++ [.reg R.DEV_CLK_FAST_ON] ++ [.reg R.X_FAST_REQ] ++ [.reg R.X_CUTOFF] ++
  [.reg R.X_CUTOFF_REST] ++ Foot.followAlert

theorem within_followAlert : within Foot.followAlert s s.followAlert := fun _ => Part.same_followAlert Part.same_refl

theorem within_cutRested : within restedFoot s s.cutRested :=
  ((((within_flag.trans within_flag).trans within_flag).trans within_flag).trans within_flag).trans within_followAlert

theorem portState_cutPortsOff (hcut : s.on R.X_CUTOFF = true) (hrail0 : s.railOn 0 = false) (hrail1 : s.railOn 1 = false) (p : Fin 2) :
    s.cutPortsOff.portState p = offState (s.portState p) := by
  have hslice := (within_abortSlice (s := s) (mask := 0xFF)).gets (rs := [R.X_CUTOFF, R.RAIL_x_STAT_STATE]) (by decide +kernel)
  have hrail : ∀ x, (s.abortSlice 0xFF).railOn x = s.railOn x := fun x => by
    rw [State.railOn, State.railOn, State.railState, State.railState, hslice _ (by simp)]
  rw [cutPortsOff, portState_cutoffPorts ((within_abortSlice.on (by decide +kernel)).trans hcut) ((hrail 0).trans hrail0)
    ((hrail 1).trans hrail1), within_abortSlice.portState (by decide +kernel)]

/-- The ports stay off while the supplies stop and the rest begins. -/
theorem portState_cutRested (hcut : s.on R.X_CUTOFF = true) (hrail0 : s.railOn 0 = false) (hrail1 : s.railOn 1 = false) (p : Fin 2) :
    s.cutPowerOff.cutRested.portState p = offState (s.portState p) := by
  have hports := portState_cutPortsOff hcut hrail0 hrail1
  have hstops := within_stopVaux_of_off fun p => portHigh_of_off (hports p)
  exact ((((hstops.trans within_stopVpre).trans within_openPair).trans within_cutRested).portState (by decide +kernel) p).trans (hports p)

/-- What the stops leave of VAUX, VPRE and the pair. -/
theorem cutPowerOff_gives : s.cutPowerOff.on R.AUX_STATUS_VAUX_ON = false ∧
    s.cutPowerOff.get R.X_VPRE = (if s.get R.X_VPRE = 6 then 6 else 0) ∧ s.cutPowerOff.get R.PP_STATUS_ROLE = 0 := by
  have hports : s.vpreKept s.cutPortsOff := vpreKept.refl.same
    (Part.same_cutoffPorts (Part.same_abortSlice Part.same_refl (by decide +kernel)) (by decide +kernel))
  refine ⟨?_, ?_, role_openPair⟩
  · exact ((within_stopVpre.trans within_openPair).on (by decide +kernel)).trans vauxOff_stopVaux
  · refine (within_openPair.get (by decide +kernel)).trans ?_
    rw [vpre_stopVpre]
    simp only [vpreKept_iff.1 hports.stopVaux]

/-- What the rest begins with. -/
theorem cutRested_gives : s.cutRested.on R.X_CUTOFF = false ∧ s.cutRested.on R.X_CUTOFF_REST = true ∧
    s.cutRested.on R.PP_STATUS_VSU_ON = false ∧ s.cutRested.on R.DEV_CLK_FAST_ON = false := by
  unfold cutRested
  refine ⟨?_, ?_, ?_, ?_⟩
  · exact ((within_flag.trans within_followAlert).on (by decide +kernel)).trans (on_flag_self _ _ _ _ (by decide))
  · exact (within_followAlert.on (by decide +kernel)).trans (on_flag_self _ _ _ _ (by decide))
  · exact (((((within_flag.trans within_flag).trans within_flag).trans within_flag).trans within_followAlert).on
      (by decide +kernel)).trans (on_flag_self _ _ _ _ (by decide))
  · exact ((((within_flag.trans within_flag).trans within_flag).trans within_followAlert).on (by decide +kernel)).trans
      (on_flag_self _ _ _ _ (by decide))

end State

section
variable {s : State} {batsMv : Nat}
open State

/-! ### The clauses of O11 on the cut-off -/

/-- The cut-off has begun, the rails still as they were. -/
def State.cutBegun (s : State) : State := ((s.flag R.X_CUTOFF true).set R.X_CUT_MODE (s.get R.MODE_STATUS_MODE)).latch R.PP_FAULT_UV_CUTOFF

/-- The clause of O11 on UV_CUTOFF. -/
theorem uvCutoff_gives (hnone : s.anyPresent = false) (hlow : batsMv < s.cells * s.get R.PP_UV_CELL) (hfree : s.on R.X_CUTOFF = false)
    (hawake : s.asleepDeep = false) : Gives (exec (.uvCutoff batsMv) s) (fun t =>
      t.on R.X_CUTOFF ∧ t.get R.X_CUT_MODE = s.get R.MODE_STATUS_MODE ∧ t.bit R.PP_FAULT_UV_CUTOFF 0) := by
  have hrails : within (Foot.railPs3 ++ Foot.cutoffPorts) s.cutBegun (s.cutBegun.each 2 (fun x t => t.railPs3 x)).cutoffPorts :=
    within.trans (each_keeps within_refl fun _ _ _ ht => ht.chain fun _ => Part.same_railPs3 Part.same_refl) within_cutoffPorts
  refine ⟨_, congrArg Host.Outcome.next (if_pos ⟨by simp [hnone], hlow, by simp [hfree], by simp [hawake]⟩), ?_, ?_, ?_⟩
  · exact (((within_set.trans within_latch).trans hrails).on (by decide +kernel)).trans (on_flag_self _ _ _ _ (by decide))
  · exact ((within_latch.trans hrails).get (by decide +kernel)).trans (get_set_fit 0 (get_lt s R.MODE_STATUS_MODE 0))
  · exact (hrails.bit (by decide +kernel)).trans (bit_latch (by decide) (by decide +kernel))

/-- The clause of O11 on CUTOFF_COMPLETE. -/
theorem cutoffComplete_gives (hcut : s.on R.X_CUTOFF = true) (hrail0 : s.railOn 0 = false) (hrail1 : s.railOn 1 = false)
    (hcommitted : s.uncommitted = 0) : Gives (exec .cutoffComplete s) (fun t =>
      t.on R.X_CUTOFF = false ∧ t.on R.X_CUTOFF_REST ∧ t.portState 0 = (if s.portState 0 = 6 then 6 else 0) ∧ t.portState 1 =
        (if s.portState 1 = 6 then 6 else 0) ∧ t.on R.AUX_STATUS_VAUX_ON = false ∧ t.get R.X_VPRE = (if s.get R.X_VPRE = 6
        then 6 else 0) ∧ t.get R.PP_STATUS_ROLE = 0 ∧ t.on R.PP_STATUS_VSU_ON = false ∧ t.on R.DEV_CLK_FAST_ON = false) := by
  have hports := portState_cutRested hcut hrail0 hrail1
  have hrested := (within_cutRested (s := s.cutPowerOff)).gets (rs := [R.X_VPRE, R.PP_STATUS_ROLE]) (by decide +kernel)
  obtain ⟨hvaux, hvpre, hrole⟩ := cutPowerOff_gives (s := s)
  obtain ⟨hended, hbegun, hvsu, hclock⟩ := cutRested_gives (s := s.cutPowerOff)
  exact ⟨s.cutPowerOff.cutRested,
    congrArg Host.Outcome.next (if_pos ⟨hcut, by simp [hrail0], by simp [hrail1], hcommitted⟩), hended, hbegun, hports 0, hports 1,
    (within_cutRested.on (by decide +kernel)).trans hvaux, (hrested _ (by simp) 0).trans hvpre,
    (hrested _ (by simp) 0).trans hrole, hvsu, hclock⟩

/-- Settles O11: each clause is the lemma on its command. -/
theorem powerPathProtection : Obligations.PowerPathProtection := by
  refine ⟨?_, ?_, ?_, ?_, ?_, ?_, ?_, ?_, ?_, ?_, ?_, ?_, ?_, ?_, ?_⟩
  · exact fun s hrole => ppTrip_gives (by simp [tripFaults]) (congrArg Host.Outcome.next (if_neg hrole))
  · exact fun s hrole => ppTrip_gives (by simp [tripFaults]) (congrArg Host.Outcome.next (if_neg hrole))
  · exact fun s => ⟨_, rfl, on_flag_self _ _ _ _ (by decide)⟩
  · rintro s ⟨hfree, hopen, hconnect⟩
    exact tripCountReset_gives hfree hopen hconnect
  · exact fun s => retryNow_gives
  · rintro s batsMv ⟨hpresent, -, hlow, hfree⟩
    exact uvInhibit_gives hpresent hlow hfree
  · exact fun s batsMv hhigh => uvInhibitEnd_gives hhigh
  · rintro s batsMv ⟨hnone, -, hlow, hfree, hawake⟩
    exact uvCutoff_gives hnone hlow hfree hawake
  · rintro s ⟨hcut, hrail0, hrail1, hcommitted⟩
    exact cutoffComplete_gives hcut hrail0 hrail1 hcommitted
  · rintro s v0 v1 ⟨hrole, hbat, hawake⟩
    exact presenceProbe_gives hrole hbat hawake
  · exact fun s hrole => ⟨_, congrArg Host.Outcome.next (if_pos hrole), on_flag_self _ _ _ _ (by decide)⟩
  · rintro s ⟨hrole, htarget, hbat⟩
    exact emptyConnector_gives hrole htarget hbat
  · rintro s batsMv ⟨hstate, hbat, hlow⟩
    exact batteryShort_gives hstate hbat hlow
  · rintro s ⟨hopen, hconnect⟩
    exact batteryRemoval_gives hopen hconnect
  · rintro s ⟨hrole, hshort, hstate⟩
    exact unsupportedSysFall_gives hrole hshort hstate

end
end Sys2Proof.Machine
end

section
/-! PROOFS. The role of the power path (R196, R199 to R202): an evaluation decides on the SYS voltage that it measures, the other commands
do as their clauses say, and the refutation of the statement that puts its condition on the SYS voltage measured before. -/

-- One theorem at a time: each decision by the kernel waits for all declarations before it and holds a thread meanwhile.
set_option Elab.async false

namespace Sys2Proof.Machine
namespace State

variable {s t : State} {l : List Touch} {sys bats : Nat} {ibat : Int} {high : Bool}

/-! ### An evaluation that opens the pair (R196) -/

/-- What decides whether the pair must be open. -/
def openRegs : List Reg := [R.MODE_STATUS_MODE, R.X_CUTOFF_REST, R.PP_STATUS_RETRY_WAIT, R.X_LOCKOUT, R.PP_STATUS_BAT, R.X_HELD,
  R.BIST_STATUS_SAFE, R.PP_STATUS_ROLE, R.AUX_STATUS_VAUX_REG, R.PP_STATUS_COLD_START, R.X_COLD_WAIT, R.X_SYSS, R.INn_STAT_STATE,
  R.INn_V, R.CNV_PHn_STAT_GROUP, R.CNV_PHn_STAT_EXCLUDED]

theorem coldInput_of_gets (h : ∀ r ∈ openRegs, ∀ i, t.get r i = s.get r i) : t.coldInput = s.coldInput := by
  have husable : t.usable = s.usable := usable_of_gets fun r hr => h r (by revert r; simp [openRegs])
  simp only [State.coldInput, State.instate, husable, h R.INn_STAT_STATE (by simp [openRegs]), h R.INn_V (by simp [openRegs])]

theorem within.mustOpen (h : within l s t) (hoff : sparesRegs l openRegs = true) : t.mustOpen bats = s.mustOpen bats := by
  have hget := h.gets hoff
  have hin : ∀ r ∈ openRegs, t.get r = s.get r := fun r hr => hget r hr 0
  simp only [openRegs, List.forall_mem_cons, List.not_mem_nil, false_implies, implies_true, and_true] at hin
  obtain ⟨hmode, hrest, hwait, hlockout, hbat, hheld, hsafe, hrole, hvaux, hcold, hcoldWait, hsys, -⟩ := hin
  simp only [State.mustOpen, State.coldDue, State.on, State.bit, coldInput_of_gets hget, hmode, hrest, hwait, hlockout, hbat, hheld,
    hsafe, hrole, hvaux, hcold, hcoldWait, hsys]

/-- The voltages that an evaluation measures, and the start-up supply that a low SYS enables (R201). -/
def sensedPair (s : State) (sys bats : Nat) : State :=
  ((s.set R.X_SYSS sys).set R.X_BATS bats).iff (sys < 450) (fun t => t.flag R.PP_STATUS_VSU_ON true)

/-- The role, the current command and the supplement bit that an evaluation shows. -/
def roleShown (s : State) (role : Nat) (lin : Nat × Bool) (ibat : Int) : State :=
  (((((s.iff (role != s.get R.PP_STATUS_ROLE) State.needP3).set R.PP_STATUS_ROLE role).set R.PP_LIN_I lin.1).flag R.PP_STATUS_PLIM
    lin.2).flag R.PP_STATUS_SUPPL (decide (ibat ≤ -4)))

/-- What follows from a role other than CONNECT and LINEAR (R197, R202, R218, R221). -/
def roleFollowed (s : State) : State := (s.set R.X_SUPPL 0).sysFollow.coldStartCheck.startVaux.startVpre

/-- What follows from such a role changes these. -/
def roleFollowedFoot : List Touch := [.reg R.X_SUPPL] ++ Foot.sysFollow ++ Foot.coldStartCheck ++ Foot.startVaux ++ Foot.startVpre

theorem within_sysFollow : within Foot.sysFollow s s.sysFollow := fun _ => Part.same_sysFollow Part.same_refl

theorem within_coldStartCheck : within Foot.coldStartCheck s s.coldStartCheck := fun _ => Part.same_coldStartCheck Part.same_refl

theorem within_startVpre : within Foot.startVpre s s.startVpre := fun _ => Part.same_startVpre Part.same_refl

theorem within_roleFollowed : within roleFollowedFoot s s.roleFollowed :=
  (((within_set.trans within_sysFollow).trans within_coldStartCheck).trans within_startVaux).trans within_startVpre

theorem within_sensedPair : within ([.reg R.X_BATS] ++ [.reg R.PP_STATUS_VSU_ON]) (s.set R.X_SYSS sys) (s.sensedPair sys bats) :=
  within.iff within_set.left within_flag.right

theorem roleShown_gives {role : Nat} {lin : Nat × Bool} (hrole : role < 8) (hlin : lin.1 < 2 ^ R.PP_LIN_I.width) :
    (s.roleShown role lin ibat).get R.PP_STATUS_ROLE = role ∧ (s.roleShown role lin ibat).get R.PP_LIN_I = lin.1 ∧
    (s.roleShown role lin ibat).on R.PP_STATUS_SUPPL = decide (ibat ≤ -4) := by
  refine ⟨?_, ?_, on_flag_self _ _ _ _ (by decide)⟩
  · exact (((within_set.trans within_flag).trans within_flag).get (by decide +kernel)).trans (get_set_fit 0 hrole)
  · exact ((within_flag.trans within_flag).get (by decide +kernel)).trans (get_set_fit 0 hlin)

/-- What showing a role changes. -/
def roleShownFoot : List Touch := Foot.needP3 ++ [.reg R.PP_STATUS_ROLE] ++ [.reg R.PP_LIN_I] ++ [.reg R.PP_STATUS_PLIM] ++
  [.reg R.PP_STATUS_SUPPL]

theorem within_roleShown {role : Nat} {lin : Nat × Bool} : within roleShownFoot s (s.roleShown role lin ibat) :=
  ((((within.iff within_refl within_needP3).trans within_set).trans within_set).trans within_flag).trans within_flag

end State

section
variable {s : State} {sys bats : Nat} {ibat : Int} {high : Bool}
open State

theorem exec_roleEvaluate_opens (hawake : s.asleepDeep = false) (hopen : (s.set R.X_SYSS sys).mustOpen bats = true)
    (hbat : s.get R.PP_STATUS_BAT = 1) : exec (.roleEvaluate sys bats ibat high) s =
      .next ((s.sensedPair sys bats).roleShown 0 (0, false) ibat).roleFollowed := by
  have hpresent : (s.sensedPair sys bats).get R.PP_STATUS_BAT = 1 :=
    ((within_set.trans within_sensedPair).get (by decide +kernel)).trans hbat
  have hkept : (s.sensedPair sys bats).iff (!(s.sensedPair sys bats).anyPresent && 200 ≤ bats &&
      (s.sensedPair sys bats).get R.PP_STATUS_BAT != 1 && (s.sensedPair sys bats).get R.PP_STATUS_BAT != 4) (fun t => t.setBat 1) =
      s.sensedPair sys bats := if_neg (by simp [hpresent])
  have hrole : (s.sensedPair sys bats).roleOf sys bats high = 0 :=
    if_pos ((within_sensedPair.mustOpen (by decide +kernel)).trans hopen)
  have hlin : (s.sensedPair sys bats).linear 0 sys bats = (0, false) := rfl
  refine congrArg Host.Outcome.next ((if_neg (by simp [hawake])).trans ?_)
  change State.startVpre _ = _
  unfold State.sensedPair at hkept hrole hlin
  simp only [hkept, hrole, hlin]
  rfl

/-- The clause of O10 on ROLE_EVALUATE, with its condition on the SYS voltage that the evaluation measures. -/
theorem roleEvaluate_opens (hawake : s.asleepDeep = false) (hopen : (s.set R.X_SYSS sys).mustOpen bats = true)
    (hbat : s.get R.PP_STATUS_BAT = 1) (hsys : sys < 65536) (hbats : bats < 65536) :
    Gives (exec (.roleEvaluate sys bats ibat high) s) (fun t =>
      t.get R.PP_STATUS_ROLE = 0 ∧ t.get R.PP_LIN_I = 0 ∧ t.get R.X_SYSS = sys ∧ t.get R.X_BATS = bats ∧ t.on
        R.PP_STATUS_SUPPL = decide (ibat ≤ -4)) := by
  have hrest := (within_roleFollowed (s := (s.sensedPair sys bats).roleShown 0 (0, false) ibat)).gets
    (rs := [R.PP_STATUS_ROLE, R.PP_LIN_I, R.PP_STATUS_SUPPL]) (by decide +kernel)
  obtain ⟨hrole, hlin, hsuppl⟩ := roleShown_gives (s := s.sensedPair sys bats) (role := 0) (lin := (0, false)) (ibat := ibat)
    (by decide) (by decide)
  have hvsu : within [.reg R.PP_STATUS_VSU_ON] ((s.set R.X_SYSS sys).set R.X_BATS bats) (s.sensedPair sys bats) :=
    within.iff within_refl within_flag
  refine ⟨_, exec_roleEvaluate_opens hawake hopen hbat, (hrest _ (by simp) 0).trans hrole, (hrest _ (by simp) 0).trans hlin, ?_, ?_,
    (congrArg (· != 0) (hrest R.PP_STATUS_SUPPL (by simp) 0)).trans hsuppl⟩
  · exact (((within_sensedPair.trans within_roleShown).trans within_roleFollowed).get (by decide +kernel)).trans (get_set_fit 0 hsys)
  · exact (((hvsu.trans within_roleShown).trans within_roleFollowed).get (by decide +kernel)).trans (get_set_fit 0 hbats)

/-! ### The clauses of O10 on the other commands -/

/-- The clause of O10 on CONNECT_TIMEOUT. -/
theorem connectTimeout_gives (hconnect : s.get R.PP_STATUS_ROLE = 4) (hfew : s.get R.X_FAILS < 2) :
    Gives (exec .connectTimeout s) (fun t =>
      t.get R.PP_STATUS_ROLE = 0 ∧ t.on R.PP_STATUS_RETRY_WAIT ∧ t.get R.X_FAILS = s.get R.X_FAILS + 1) := by
  have hkept : s.openPair.get R.X_FAILS = s.get R.X_FAILS := within_openPair.get (by decide +kernel)
  have hfailed := ppFailure_gives (s := s.openPair) (counts := true)
  rw [hkept, Bool.toNat_true, if_neg (by omega)] at hfailed
  obtain ⟨hfails, hwait⟩ := hfailed
  exact ⟨_, congrArg Host.Outcome.next (if_pos hconnect), (within_ppFailure.get (by decide +kernel)).trans role_openPair, hwait,
    hfails.trans (by omega)⟩

/-- The clause of O10 on SUPPLEMENT. -/
theorem supplement_gives {sysMv batsMv : Nat} (hlinear : s.get R.PP_STATUS_ROLE = 2) (hlow : sysMv + 20 < batsMv)
    (hnone : s.get R.X_SUPPL = 0) : Gives (exec (.supplement sysMv batsMv) s) (fun t =>
      t.get R.X_SUPPL = (if sysMv + 200 < batsMv then 2 else 1)) := by
  by_cases hfar : sysMv + 200 < batsMv
  · refine ⟨_, congrArg Host.Outcome.next ((if_pos hlinear).trans (if_pos hfar)), ?_⟩
    rw [if_pos hfar]
    exact get_set_fit 0 (by decide)
  · refine ⟨_, congrArg Host.Outcome.next ((if_pos hlinear).trans ((if_neg hfar).trans (if_pos ⟨hlow, hnone⟩))), ?_⟩
    rw [if_neg hfar]
    exact get_set_fit 0 (by decide)

/-- The clause of O10 on COLD_START_ABANDON. -/
theorem coldStartAbandon_gives (hcold : s.on R.PP_STATUS_COLD_START = true) : Gives (exec .coldStartAbandon s) (fun t =>
    t.on R.PP_STATUS_COLD_START = false ∧ t.bit R.PP_FAULT_COLD_START 0 ∧ t.on R.X_COLD_WAIT) := by
  have hended : s.coldStartEnd.on R.PP_STATUS_COLD_START = false := by
    unfold State.coldStartEnd
    rw [if_pos hcold]
    refine (within.on (within_idlePhases.trans fun _ => Part.same_mapCheck Part.same_refl) (by decide +kernel)).trans ?_
    exact on_flag_self _ _ _ _ (by decide)
  exact ⟨_, congrArg Host.Outcome.next (if_pos hcold), ((within_latch.trans within_flag).on (by decide +kernel)).trans hended,
    (within_flag.bit (by decide +kernel)).trans (bit_latch (by decide) (by decide +kernel)), on_flag_self _ _ _ _ (by decide)⟩

/-- The clause of O10 on COLD_START_RETRY. -/
theorem coldStartRetry_gives (hwait : s.on R.X_COLD_WAIT = true) : Gives (exec .coldStartRetry s) (fun t => t.on R.X_COLD_WAIT = false) :=
  ⟨_, congrArg Host.Outcome.next (if_pos hwait),
    (within_coldStartCheck.on (by decide +kernel)).trans (on_flag_self _ _ _ _ (by decide))⟩

/-- The clause of O10 on VSU_DISABLE. -/
theorem vsuDisable_gives (hreg : s.on R.AUX_STATUS_VAUX_REG = true) (hsys : 450 ≤ s.get R.X_SYSS) :
    Gives (exec .vsuDisable s) (fun t => t.on R.PP_STATUS_VSU_ON = false) :=
  ⟨_, congrArg Host.Outcome.next (if_pos (by simp [hreg, hsys])), on_flag_self _ _ _ _ (by decide)⟩

/-! ### An evaluation that closes the pair -/

/-- A battery of 8.00 V is PRESENT with the pair OPEN, and input 1 waits for VAUX with 26.00 V and a usable phase: of the SYS voltage
measured last, 0 V, a cold start is due (R202). -/
def coldStartDue : State :=
  (((State.reset.set R.PP_STATUS_BAT 1).set R.INn_STAT_STATE 4).set R.INn_V 2600).set R.CNV_PHn_STAT_GROUP 1

/-- What `roleEvaluate_opens` assumes is met there with SYS measured at 0 V again. -/
theorem coldStartDue_opens : coldStartDue.asleepDeep = false ∧ (coldStartDue.set R.X_SYSS 0).mustOpen 800 = true ∧
    coldStartDue.get R.PP_STATUS_BAT = 1 := by decide +kernel

/-- Refutes O10: the condition on ROLE_EVALUATE reads the SYS voltage measured last, 0 V in `coldStartDue`, and there a cold start keeps the
pair OPEN; the evaluation measures SYS at 24.00 V, so no cold start is due any more, and the role is LINEAR. -/
theorem not_powerPathRole : ¬ Obligations.PowerPathRole := by
  rintro ⟨hevaluate, -⟩
  obtain ⟨t, ht, hrole, -⟩ := hevaluate coldStartDue 2400 800 0 false (by decide +kernel)
  have hlinear : (match exec (.roleEvaluate 2400 800 0 false) coldStartDue with
    | .next u => u.get R.PP_STATUS_ROLE
    | _ => 0) = 2 := by decide +kernel
  rw [ht] at hlinear
  exact absurd (hrole.symm.trans hlinear) (by decide)

end
end Sys2Proof.Machine
end

section
/-! PROOFS. The auxiliary supply VAUX (R46, R202, R217, R218, R233), and the reading of a field at an index of its own. -/

-- One theorem at a time: each decision by the kernel waits for all declarations before it and holds a thread meanwhile.
set_option Elab.async false

namespace Sys2Proof.Machine
namespace State

variable {s t : State} {l : List Touch}

/-! ### A field that is spared at every index -/

theorem within.get_at (h : within l s t) {r : Reg} (hoff : sparesRegs l [r] = true) (i : Nat) : t.get r i = s.get r i :=
  h.gets hoff r (by simp) i

theorem within.on_at (h : within l s t) {r : Reg} (hoff : sparesRegs l [r] = true) (i : Nat) : t.on r i = s.on r i := by
  rw [State.on, State.on, h.get_at hoff]

/-! ### VAUX in regulation (R202, R217) -/

theorem within_coldStartEnd : within Foot.coldStartEnd s s.coldStartEnd := fun _ => Part.same_coldStartEnd Part.same_refl

theorem within_portsFollow : within Foot.portsFollow s s.portsFollow := fun _ => Part.same_portsFollow Part.same_refl

/-- A cold start that has ended is over (R202). -/
theorem cold_coldStartEnd : s.coldStartEnd.on R.PP_STATUS_COLD_START = false := by
  unfold State.coldStartEnd
  split
  case isFalse h => exact Bool.eq_false_iff.2 h
  case isTrue =>
    refine (within.on (within_idlePhases.trans fun _ => Part.same_mapCheck Part.same_refl) (by decide +kernel)).trans ?_
    exact on_flag_self _ _ _ _ (by decide)

/-- VAUX shown in regulation with its readings, its failure count restarted (R233). -/
def vauxShown (s : State) (v a : Nat) : State :=
  ((((s.flag R.AUX_STATUS_VAUX_REG true).flag R.AUX_STATUS_VPRE_HOLD_DRV false).set R.AUX_VAUX_V v).set R.AUX_VAUX_I a).clear
    R.X_VAUX_FAILS

/-! ### VAUX out of regulation (R46, R217) -/

/-- VAUX out of regulation, its ports and probes still as they were. -/
def vauxLost (s : State) : State :=
  (s.flag R.AUX_STATUS_VAUX_REG false).flag R.AUX_STATUS_VPRE_HOLD_DRV (s.on R.AUX_STATUS_VPRE_ON)

theorem within_vauxLost : within ([.reg R.AUX_STATUS_VAUX_REG] ++ [.reg R.AUX_STATUS_VPRE_HOLD_DRV]) s s.vauxLost :=
  within_flag.trans within_flag

theorem within_portsDrop : within Foot.portsDrop s s.portsDrop := fun _ => Part.same_portsDrop Part.same_refl

theorem reg_vauxOutOfReg : s.vauxOutOfReg.on R.AUX_STATUS_VAUX_REG = false := by
  unfold State.vauxOutOfReg
  split
  case isFalse h => exact Bool.eq_false_iff.2 h
  case isTrue =>
    refine ((within_flag.trans within_portsDrop).trans within_abandonProbes).on (by decide +kernel) |>.trans ?_
    exact on_flag_self _ _ _ _ (by decide)

/-- A port that drops to keep-alive with its work abandoned (R46). -/
def portDropped (s : State) (p : Nat) : State := ((s.lineIdle p).setPort p 1).flag R.X_LINE_UP false p

theorem portHigh_of_portState {p : Nat} (h : t.portState p = s.portState p) : t.portHigh p = s.portHigh p := by
  rw [State.portHigh, State.portHigh, h]

theorem portState_portDropped_self {p : Fin 2} : (s.portDropped p).portState p = 1 :=
  (within_flag.portState (by decide +kernel) p).trans (portState_setPort_self (by decide))

theorem portState_portDropped_other {p q : Fin 2} (hne : q ≠ p) : (s.portDropped q).portState p = s.portState p :=
  ((within_flag.portState (by decide +kernel) p).trans (portState_setPort_other hne)).trans
    (within_lineIdle.portState (by decide +kernel) p)

/-- A port above keep-alive drops there (R46). -/
theorem portState_portsDrop {p : Fin 2} (hhigh : s.portHigh p = true) : s.portsDrop.portState p = 1 := by
  have hother : ∀ (q : Nat) (t : State), q < 2 → q ≠ p →
      (if t.portHigh q then t.portDropped q else t).portState p = t.portState p := by
    intro q t hq hne
    split
    · exact portState_portDropped_other (q := ⟨q, hq⟩) (fun h => hne (congrArg Fin.val h))
    · rfl
  refine each_reaches (I := fun t => t.portHigh p = true) (Q := fun t => t.portState p = 1) p.isLt hhigh ?_ ?_ ?_
  · intro q t hq hne ht
    exact (portHigh_of_portState (hother q t hq hne)).trans ht
  · intro t ht
    exact (congrArg (fun u => State.portState u p) (if_pos ht)).trans portState_portDropped_self
  · intro q t hq hne ht
    exact (hother q t hq hne).trans ht

theorem portState_vauxOutOfReg {p : Fin 2} (hreg : s.on R.AUX_STATUS_VAUX_REG = true) (hhigh : s.portHigh p = true) :
    s.vauxOutOfReg.portState p = 1 := by
  have heq : s.vauxOutOfReg = s.vauxLost.portsDrop.abandonProbes := if_pos hreg
  have hstill : s.vauxLost.portHigh p = true :=
    (portHigh_of_portState (within_vauxLost.portState (by decide +kernel) p)).trans hhigh
  rw [heq, within_abandonProbes.portState (by decide +kernel)]
  exact portState_portsDrop hstill

/-! ### VAUX stops (R218) -/

/-- VAUX that has stopped reads off, out of regulation and at zero. -/
theorem stopVaux_reads : s.stopVaux.on R.AUX_STATUS_VAUX_REG = false ∧ s.stopVaux.get R.AUX_VAUX_V = 0 ∧
    s.stopVaux.get R.AUX_VAUX_I = 0 := by
  refine ⟨?_, (within_set.get (by decide +kernel)).trans (get_set_fit 0 (by decide)), get_set_fit 0 (by decide)⟩
  refine ((((within_flag.trans within_flag).trans within_set).trans within_set).on (by decide +kernel)).trans ?_
  exact reg_vauxOutOfReg

end State

section
variable {s : State} {v a : Nat}
open State

/-- The clause of O12 on VAUX_IN_REGULATION. -/
theorem vauxInRegulation_gives (hon : s.on R.AUX_STATUS_VAUX_ON = true) (hout : s.on R.AUX_STATUS_VAUX_REG = false)
    (hv : v < 65536) (ha : a < 65536) : Gives (exec (.vauxInRegulation v a) s) (fun t =>
      t.on R.AUX_STATUS_VAUX_REG ∧ t.get R.AUX_VAUX_V = v ∧ t.get R.AUX_VAUX_I = a ∧ t.on R.PP_STATUS_COLD_START = false ∧
        t.get R.X_VAUX_FAILS = 0) := by
  have hexec : exec (.vauxInRegulation v a) s = .next (s.vauxShown v a).coldStartEnd.startVpre.portsFollow :=
    congrArg Host.Outcome.next (if_pos (by simp [hon, hout]))
  have hstarts {u : State} : within (Foot.startVpre ++ Foot.portsFollow) u u.startVpre.portsFollow :=
    within_startVpre.trans within_portsFollow
  have hafter := within_coldStartEnd.trans (hstarts (u := (s.vauxShown v a).coldStartEnd))
  refine ⟨_, hexec, ?_, ?_, ?_, ?_, ?_⟩
  · refine (hafter.on (by decide +kernel)).trans ?_
    refine ((((within_flag.trans within_set).trans within_set).trans within_clear).on (by decide +kernel)).trans ?_
    exact on_flag_self _ _ _ _ (by decide)
  · refine (hafter.get (by decide +kernel)).trans ?_
    exact ((within_set.trans within_clear).get (by decide +kernel)).trans (get_set_fit 0 hv)
  · exact (hafter.get (by decide +kernel)).trans ((within_clear.get (by decide +kernel)).trans (get_set_fit 0 ha))
  · exact (hstarts.on (by decide +kernel)).trans cold_coldStartEnd
  · exact (hafter.get (by decide +kernel)).trans (get_clear_self _ _ _)

/-- The clause of O12 on VAUX_STOP: P4 in its safe state holds VAUX as it is (R454). -/
theorem vauxStop_gives (hidle : s.vauxWanted = false) : Gives (exec .vauxStop s) (fun t =>
      if s.bit R.BIST_STATUS_SAFE 4 then t.on R.AUX_STATUS_VAUX_ON = s.on R.AUX_STATUS_VAUX_ON else t.on R.AUX_STATUS_VAUX_ON
        = false ∧ t.on R.AUX_STATUS_VAUX_REG = false ∧ t.get R.AUX_VAUX_V = 0 ∧ t.get R.AUX_VAUX_I = 0) := by
  by_cases hsafe : s.bit R.BIST_STATUS_SAFE 4 = true
  · refine ⟨s, congrArg Host.Outcome.next (if_pos (by simp [hsafe])), ?_⟩
    beta_reduce
    rw [if_pos hsafe]
  · refine ⟨s.stopVaux, congrArg Host.Outcome.next (if_neg (by simp [hsafe, hidle])), ?_⟩
    beta_reduce
    rw [if_neg hsafe]
    exact ⟨vauxOff_stopVaux, stopVaux_reads⟩

/-- The clause of O12 on VAUX_FAIL. -/
theorem vauxFail_gives (hon : s.on R.AUX_STATUS_VAUX_ON = true) : Gives (exec .vauxFail s) (fun t =>
      t.on R.AUX_STATUS_VAUX_ON = false ∧ t.on R.X_VAUX_WAIT ∧ t.get R.X_VAUX_FAILS = min (s.get R.X_VAUX_FAILS + 1) 3 ∧
        (s.get R.X_VAUX_FAILS = 2 → t.bit R.AUX_FAULT_VAUX_SHORT 0)) := by
  generalize hcount : min (s.get R.X_VAUX_FAILS + 1) 3 = n
  have hfit : n < 4 := by omega
  generalize hwaits : (s.stopVaux.set R.X_VAUX_FAILS n).flag R.X_VAUX_WAIT true = u
  have hexec : exec .vauxFail s = .next (if s.get R.X_VAUX_FAILS = 2 then u.latch R.AUX_FAULT_VAUX_SHORT else u) := by
    rw [← hwaits, ← hcount]
    exact congrArg Host.Outcome.next (if_pos hon)
  have hlatch : within (Foot.latch R.AUX_FAULT_VAUX_SHORT) u
      (if s.get R.X_VAUX_FAILS = 2 then u.latch R.AUX_FAULT_VAUX_SHORT else u) := within.ite within_latch within_refl
  refine ⟨_, hexec, ?_, ?_, ?_, fun hthird => ?_⟩
  · rw [hlatch.on (by decide +kernel), ← hwaits]
    exact ((within_set.trans within_flag).on (by decide +kernel)).trans vauxOff_stopVaux
  · rw [hlatch.on (by decide +kernel), ← hwaits]
    exact on_flag_self _ _ _ _ (by decide)
  · rw [hlatch.get (by decide +kernel), ← hwaits]
    exact (within_flag.get (by decide +kernel)).trans (get_set_fit 0 hfit)
  · rw [if_pos hthird]
    exact bit_latch (by decide) (by decide +kernel)

/-- The clause of O12 on VAUX_RETRY. -/
theorem vauxRetry_gives (hwait : s.on R.X_VAUX_WAIT = true) : Gives (exec .vauxRetry s) (fun t => t.on R.X_VAUX_WAIT = false) :=
  ⟨_, congrArg Host.Outcome.next (if_pos hwait),
    (within_startVaux.on (by decide +kernel)).trans (on_flag_self _ _ _ _ (by decide))⟩

/-- The clause of O12 on VAUX_OVERLOAD. -/
theorem vauxOverload_gives (hon : s.on R.AUX_STATUS_VAUX_ON = true) : Gives (exec .vauxOverload s) (fun t =>
      t.on R.AUX_STATUS_VAUX_ILIM ∧ t.bit R.AUX_FAULT_VAUX_OVLD 0) :=
  ⟨_, congrArg Host.Outcome.next (if_pos hon), (within_latch.on (by decide +kernel)).trans (on_flag_self _ _ _ _ (by decide)),
    bit_latch (by decide) (by decide +kernel)⟩

end

/-- Settles O12: each clause is the lemma on its command above. -/
theorem supplyVaux : Obligations.SupplyVaux := by
  refine ⟨?_, ?_, ?_, ?_, ?_, ?_⟩
  · rintro s v a ⟨hon, hout, hv, ha⟩
    exact vauxInRegulation_gives hon hout hv ha
  · intro s
    exact ⟨_, rfl, State.reg_vauxOutOfReg, fun hreg p hhigh => State.portState_vauxOutOfReg hreg hhigh⟩
  · intro s hidle
    exact vauxStop_gives hidle
  · intro s hon
    exact vauxFail_gives hon
  · intro s hwait
    exact vauxRetry_gives hwait
  · intro s hon
    exact vauxOverload_gives hon

end Sys2Proof.Machine
end

section
/-! PROOFS. The stop of a rail (R205, R229), and the pre-regulator VPRE (R221, R228, R229, R232). -/

-- One theorem at a time: each decision by the kernel waits for all declarations before it and holds a thread meanwhile.
set_option Elab.async false

namespace Sys2Proof.Machine
namespace State

variable {s : State} {x y code : Nat}

/-! ### A rail that stops (R229 step 3) -/

theorem within_dieFollow : within Foot.dieFollow s s.dieFollow := fun _ => Part.same_dieFollow Part.same_refl

/-- The two rails have two fields. -/
theorem rail_key_ne {r : Reg} (hstride : r.stride ≠ 0) (hcount : r.count = 2) (hx : x < 2) (hy : y < 2) (hne : y ≠ x) :
    r.key x ≠ r.key y :=
  key_ne hstride (by rw [hcount, Nat.mod_eq_of_lt hx, Nat.mod_eq_of_lt hy]; exact hne.symm)

/-- What a stop of a rail changes before its readings go to zero, its state aside. -/
def quietFoot : List Touch := touches [R.RAIL_x_STAT_SLEWING, R.RAIL_x_STAT_SETTLED, R.RAIL_x_STAT_BURST, R.RAIL_x_STAT_DE,
  R.X_RAIL_OFFDLY, R.X_RAIL_PEND] [] []

/-- What it changes after them. -/
def stopEndFoot : List Touch := [.reg R.X_RAIL_KEEP] ++ Foot.dieFollow ++ Foot.cutoffPorts

/-- A rail with a state code that has stopped its switches. -/
def railQuiet (s : State) (x code : Nat) : State :=
  ((((((s.set R.RAIL_x_STAT_STATE code x).flag R.RAIL_x_STAT_SLEWING false x).flag R.RAIL_x_STAT_SETTLED false x).flag
    R.RAIL_x_STAT_BURST false x).flag R.RAIL_x_STAT_DE false x).flag R.X_RAIL_OFFDLY false x).flag R.X_RAIL_PEND false x

/-- What follows from a rail that has stopped. -/
def railStopEnd (s : State) (x code : Nat) : State :=
  ((s.iff (code != 6) (fun t => t.flag R.X_RAIL_KEEP false x)).dieFollow).cutoffPorts

theorem railStop_eq : s.railStop x code = (((((s.railQuiet x code).set R.RAIL_x_V 0 x).set R.RAIL_x_I 0 x).set R.RAIL_x_PIN 0 x).set
    R.RAIL_x_POUT 0 x).railStopEnd x code := rfl

theorem within_railQuiet : within quietFoot (s.set R.RAIL_x_STAT_STATE code x) (s.railQuiet x code) :=
  ((((within_flag.trans within_flag).trans within_flag).trans within_flag).trans within_flag).trans within_flag

theorem within_railStopEnd : within stopEndFoot s (s.railStopEnd x code) :=
  ((within.iff within_refl within_flag).trans within_dieFollow).trans within_cutoffPorts

theorem within_railStop : within Foot.railStop s (s.railStop x code) := fun _ => Part.same_railStop Part.same_refl

theorem within_railStop_state : within (quietFoot ++ ([.reg R.RAIL_x_V] ++ [.reg R.RAIL_x_I] ++ [.reg R.RAIL_x_PIN] ++ [.reg R.RAIL_x_POUT] ++
    stopEndFoot)) (s.set R.RAIL_x_STAT_STATE code x) (s.railStop x code) :=
  within_railQuiet.trans ((((within_set.trans within_set).trans within_set).trans within_set).trans within_railStopEnd)

theorem railState_railStop (hfit : code < 8) : (s.railStop x code).railState x = code :=
  (within_railStop_state.get_at (by decide +kernel) x).trans (get_set_fit x hfit)

theorem railState_railStop_other (hx : x < 2) (hy : y < 2) (hne : y ≠ x) : (s.railStop y code).railState x = s.railState x :=
  (within_railStop_state.get_at (by decide +kernel) x).trans (get_set_ne _ (rail_key_ne (by decide) rfl hx hy hne))

/-- A rail that has stopped reads no voltage and no current. -/
theorem railStop_reads : (s.railStop x code).get R.RAIL_x_V x = 0 ∧ (s.railStop x code).get R.RAIL_x_I x = 0 := by
  rw [railStop_eq]
  refine ⟨?_, ?_⟩
  · refine ((((within_set.trans within_set).trans within_set).trans within_railStopEnd).get_at (by decide +kernel) x).trans ?_
    exact get_set_fit x (by decide)
  · refine (((within_set.trans within_set).trans within_railStopEnd).get_at (by decide +kernel) x).trans ?_
    exact get_set_fit x (by decide)

/-! ### VPRE ramps and stops (R228 step 3, R229 step 4, R232) -/

theorem vpreRamp_shows : s.vpreRamp.get R.X_VPRE = 2 ∧ s.vpreRamp.on R.AUX_STATUS_VPRE_ON ∧
    s.vpreRamp.on R.AUX_STATUS_VPRE_HOLD_DRV = !s.on R.AUX_STATUS_VAUX_REG :=
  ⟨((within_flag.trans within_flag).get (by decide +kernel)).trans (get_set_fit 0 (by decide)),
    (within_flag.on (by decide +kernel)).trans (on_flag_self _ _ _ _ (by decide)), on_flag_self _ _ _ _ (by decide)⟩

/-- VPRE with a new state code, before its readings and the journal die follow. -/
theorem stopVpre_eq : s.stopVpre code = ((((((((s.abortSlice 0x10).vpreGood).set R.X_VPRE
    (if code = 0 ∧ s.get R.X_VPRE = 6 then 6 else code)).flag R.AUX_STATUS_VPRE_ON false).flag R.AUX_STATUS_VPRE_REG false).flag
    R.AUX_STATUS_VPRE_HOLD_DRV false).set R.AUX_PRE_V 0).dieFollow) := rfl

theorem vpre_stopVpre_of_ne_zero (hcode : code ≠ 0) (hfit : code < 8) : (s.stopVpre code).get R.X_VPRE = code := by
  rw [stopVpre_eq, if_neg fun h => hcode h.1]
  exact (((((within_flag.trans within_flag).trans within_flag).trans within_set).trans within_dieFollow).get
    (by decide +kernel)).trans (get_set_fit 0 hfit)

theorem vpreOff_stopVpre : (s.stopVpre code).on R.AUX_STATUS_VPRE_ON = false := by
  rw [stopVpre_eq]
  exact ((((within_flag.trans within_flag).trans within_set).trans within_dieFollow).on (by decide +kernel)).trans
    (on_flag_self _ _ _ _ (by decide))

theorem vpreReg_stopVpre : (s.stopVpre code).on R.AUX_STATUS_VPRE_REG = false := by
  rw [stopVpre_eq]
  exact (((within_flag.trans within_set).trans within_dieFollow).on (by decide +kernel)).trans (on_flag_self _ _ _ _ (by decide))

/-- The journal die is powered in regulation alone (R37). -/
theorem dieOff_dieFollow (hreg : s.dieFollow.on R.AUX_STATUS_VPRE_REG = false) : s.dieFollow.on R.JNL_STATUS_DIE_ON = false := by
  rw [within_dieFollow.on (by decide +kernel)] at hreg
  refine (on_flag_self _ _ _ _ (by decide)).trans ?_
  rw [hreg, Bool.false_and]

/-! ### VPRE fails (R230 to R232) -/

/-- Both rails stopped, a state named before forgotten. -/
def railsStopped (s : State) : State := s.each 2 (fun x t => (t.railStop x 0).clear R.X_RAIL_NAMED x)

theorem within_railsStopped : within (Foot.railStop ++ [.reg R.X_RAIL_NAMED]) s s.railsStopped :=
  within_foldl fun _ _ _ => within_railStop.trans within_clear

theorem railState_railsStopped (hx : x < 2) : s.railsStopped.railState x = 0 := by
  refine each_establishes (Q := fun t => t.railState x = 0) hx (fun t => ?_) fun y t hy hne ht => ?_
  · exact (within_clear.get_at (by decide +kernel) x).trans (railState_railStop (by decide))
  · exact ((within_clear.get_at (by decide +kernel) x).trans (railState_railStop_other hx hy hne)).trans ht

/-- The failure count of VPRE stands while VPRE is out of regulation (R230). -/
theorem vpreGood_eq (hvpre : s.get R.X_VPRE ≠ 3) : s.vpreGood = s := if_neg (by simp [hvpre])

/-- VPRE stopped after a failure, its failures counted. -/
def vpreFailed (s : State) : State :=
  (s.railsStopped.stopVpre (if 2 ≤ s.get R.X_VPRE_FAILS then 6 else 5)).set R.X_VPRE_FAILS (min (s.get R.X_VPRE_FAILS + 1) 3)

theorem vpreFailed_shows : s.vpreFailed.on R.AUX_STATUS_VPRE_ON = false ∧ (∀ x < 2, s.vpreFailed.railState x = 0) ∧
    s.vpreFailed.get R.X_VPRE = if 2 ≤ s.get R.X_VPRE_FAILS then 6 else 5 := by
  have hstop {c : Nat} : within Foot.stopVpre s.railsStopped (s.railsStopped.stopVpre c) := fun _ => Part.same_stopVpre Part.same_refl
  refine ⟨(within_set.on (by decide +kernel)).trans vpreOff_stopVpre, fun x hx => ?_, ?_⟩
  · exact ((hstop.trans within_set).get_at (by decide +kernel) x).trans (railState_railsStopped hx)
  · refine (within_set.get (by decide +kernel)).trans (vpre_stopVpre_of_ne_zero ?_ ?_) <;> split <;> decide

/-! ### VPRE is tried again (R232, R243) -/

/-- A latched VPRE that may start again. -/
def vpreReleased (s : State) : State := (s.set R.X_VPRE 0).clear R.X_VPRE_FAILS

theorem within_vpreReleased : within ([.reg R.X_VPRE] ++ [.reg R.X_VPRE_FAILS]) s s.vpreReleased := within_set.trans within_clear

/-- What wants VPRE reads nothing of VPRE's own state (R37). -/
theorem vpreWanted_vpreReleased : s.vpreReleased.vpreWanted = s.vpreWanted := by
  have hrail : ∀ x, s.vpreReleased.railOn x = s.railOn x := fun x => by
    rw [State.railOn, State.railOn, State.railState, State.railState, within_vpreReleased.get_at (by decide +kernel)]
  have hwork : s.vpreReleased.journalWork = s.journalWork := by
    have hpending : s.vpreReleased.erasePending = s.erasePending := by
      rw [State.erasePending, State.erasePending, within_vpreReleased.on (by decide +kernel), within_vpreReleased.bit (by decide +kernel)]
      rfl
    rw [State.journalWork, State.journalWork, hpending]
    rfl
  rw [State.vpreWanted, State.vpreWanted, hrail, hrail, hwork, within_vpreReleased.on (by decide +kernel),
    within_vpreReleased.on (by decide +kernel)]

end State

section
variable {s : State} {v : Nat}
open State

/-- The clause of O13 on VPRE_IN_REGULATION. -/
theorem vpreInRegulation_gives (hvpre : s.get R.X_VPRE = 2) (hv : v < 65536) : Gives (exec (.vpreInRegulation v) s) (fun t =>
      t.get R.X_VPRE = 3 ∧ t.on R.AUX_STATUS_VPRE_REG ∧ t.get R.AUX_PRE_V = v) := by
  have hafter {u : State} : within ([.reg R.X_VPRE_AT] ++ Foot.dieFollow ++ Foot.railsGo) u
      (u.set R.X_VPRE_AT s.now).dieFollow.railsGo :=
    (within_set.trans within_dieFollow).trans fun _ => Part.same_railsGo Part.same_refl
  refine ⟨_, congrArg Host.Outcome.next (if_pos hvpre), ?_, ?_, ?_⟩
  · exact (((within_flag.trans within_set).trans hafter).get (by decide +kernel)).trans (get_set_fit 0 (by decide))
  · exact ((within_set.trans hafter).on (by decide +kernel)).trans (on_flag_self _ _ _ _ (by decide))
  · exact (hafter.get (by decide +kernel)).trans (get_set_fit 0 hv)

/-- The clause of O13 on VPRE_STOP: P4 in its safe state holds VPRE as it is (R454). -/
theorem vpreStop_gives (hidle : s.vpreWanted = false) (hlow : 1 ≤ s.get R.X_VPRE) (hhigh : s.get R.X_VPRE ≤ 3) :
    Gives (exec .vpreStop s) (fun t =>
      if s.bit R.BIST_STATUS_SAFE 4 then t.get R.X_VPRE = s.get R.X_VPRE ∧ t.on R.AUX_STATUS_VPRE_ON = s.on
        R.AUX_STATUS_VPRE_ON else t.get R.X_VPRE = 0 ∧ t.on R.AUX_STATUS_VPRE_ON = false ∧ t.on R.AUX_STATUS_VPRE_REG = false
        ∧ t.on R.JNL_STATUS_DIE_ON = false) := by
  by_cases hsafe : s.bit R.BIST_STATUS_SAFE 4 = true
  · refine ⟨s, congrArg Host.Outcome.next (if_neg (by simp [hsafe])), ?_⟩
    beta_reduce
    rw [if_pos hsafe]
    exact ⟨rfl, rfl⟩
  · refine ⟨s.stopVpre 0, congrArg Host.Outcome.next (if_pos (by simp [hsafe, hidle, hlow, hhigh])), ?_⟩
    beta_reduce
    rw [if_neg hsafe]
    exact ⟨vpre_stopVpre.trans (if_neg (by omega)), vpreOff_stopVpre, vpreReg_stopVpre, dieOff_dieFollow vpreReg_stopVpre⟩

/-- The clause of O13 on VPRE_FAIL. -/
theorem vpreFail_gives (hon : s.on R.AUX_STATUS_VPRE_ON = true) (hvpre : s.get R.X_VPRE = 2) : Gives (exec .vpreFail s) (fun t =>
      t.on R.AUX_STATUS_VPRE_ON = false ∧ t.railState 0 = 0 ∧ t.railState 1 = 0 ∧ t.get R.X_VPRE = (if 2 ≤ s.get
        R.X_VPRE_FAILS then 6 else 5) ∧ (2 ≤ s.get R.X_VPRE_FAILS → t.bit R.AUX_FAULT_VPRE_SHORT 0)) := by
  have hexec : exec .vpreFail s = .next (if decide (2 ≤ s.get R.X_VPRE_FAILS) = true then s.vpreFailed.latch R.AUX_FAULT_VPRE_SHORT
      else s.vpreFailed) := by
    refine (congrArg Host.Outcome.next (if_pos hon)).trans ?_
    rw [vpreGood_eq (by omega)]
    rfl
  obtain ⟨hoff, hrails, hcode⟩ := vpreFailed_shows (s := s)
  by_cases hthird : 2 ≤ s.get R.X_VPRE_FAILS
  · rw [if_pos (decide_eq_true hthird)] at hexec
    rw [if_pos hthird] at hcode ⊢
    have hkept : s.vpreFailed.vpreKept (s.vpreFailed.latch R.AUX_FAULT_VPRE_SHORT) := vpreKept.refl.latch (by decide +kernel)
    exact ⟨_, hexec, (within_latch.on (by decide +kernel)).trans hoff,
      (within_latch.get_at (by decide +kernel) 0).trans (hrails 0 (by decide)),
      (within_latch.get_at (by decide +kernel) 1).trans (hrails 1 (by decide)), (vpreKept_iff.1 hkept).2 hcode,
      fun _ => bit_latch (by decide) (by decide +kernel)⟩
  · rw [if_neg (by simpa using hthird)] at hexec
    exact ⟨_, hexec, hoff, hrails 0 (by decide), hrails 1 (by decide), hcode, fun h => absurd h hthird⟩

/-- The clause of O13 on VPRE_RETRY: a VPRE that nothing wants stays off. -/
theorem vpreRetry_gives (hvpre : s.get R.X_VPRE = 6) (hidle : s.vpreWanted = false) : Gives (exec .vpreRetry s) (fun t =>
      t.get R.X_VPRE = 0 ∧ t.get R.X_VPRE_FAILS = 0) := by
  have hstart : s.vpreReleased.startVpre = s.vpreReleased.dieFollow := if_neg (by simp [vpreWanted_vpreReleased, hidle])
  have hexec : exec .vpreRetry s = .next s.vpreReleased.dieFollow := by
    rw [← hstart]
    exact congrArg Host.Outcome.next (if_pos hvpre)
  exact ⟨_, hexec, ((within_clear.trans within_dieFollow).get (by decide +kernel)).trans (get_set_fit 0 (by decide)),
    (within_dieFollow.get (by decide +kernel)).trans (get_clear_self _ _ _)⟩

end

/-- Settles O13: each clause is the lemma on its command above; VPRE_ON_DELAY_END and VPRE_HICCUP_END begin the ramp. -/
theorem supplyVpre : Obligations.SupplyVpre := by
  refine ⟨?_, ?_, ?_, ?_, ?_, ?_⟩
  · intro s hvpre
    exact ⟨_, congrArg Host.Outcome.next (if_pos hvpre), State.vpreRamp_shows⟩
  · rintro s v ⟨hvpre, hv⟩
    exact vpreInRegulation_gives hvpre hv
  · rintro s ⟨hidle, hlow, hhigh⟩
    exact vpreStop_gives hidle hlow hhigh
  · rintro s ⟨hon, hvpre⟩
    exact vpreFail_gives hon hvpre
  · rintro s ⟨hvpre, hwanted⟩
    have hramp : exec .vpreHiccupEnd s = .next s.vpreRamp :=
      congrArg Host.Outcome.next ((if_pos hvpre).trans (if_pos hwanted))
    exact ⟨_, hramp, State.vpreRamp_shows.1, State.vpreRamp_shows.2.1⟩
  · rintro s ⟨hvpre, hidle⟩
    exact vpreRetry_gives hvpre hidle

end Sys2Proof.Machine
end

section
/-! PROOFS. The host rails (R225 to R230, R234, R235, R239): alerts and latches of a rail, its start, tuning, stop, failure and power. -/

-- One theorem at a time: each decision by the kernel waits for all declarations before it and holds a thread meanwhile.
set_option Elab.async false

namespace Sys2Proof.Machine
namespace State

variable {s t : State} {x : Nat} {a b r : Reg}

/-! ### Alerts and latches (R234, R239) -/

theorem within_valtFollow : within Foot.valtFollow s s.valtFollow := fun _ => Part.same_valtFollow Part.same_refl

theorem within_railAlert {kind : Nat} : within Foot.railAlert s (s.railAlert x kind) := fun _ => Part.same_railAlert Part.same_refl

theorem within_railLatch : within (Foot.railLatch a ++ Foot.railLatch b) s (s.railLatch x a b) := by
  intro q hq
  rw [keeps_append, Bool.and_eq_true] at hq
  exact Part.same_railLatch Part.same_refl hq.1 hq.2

/-- ALERT shows whether an alert of the rail is pending (R239). -/
theorem alert_valtFollow (hx : x < 2) : s.valtFollow.on R.RAIL_x_STAT_ALERT x = (s.get R.X_RAIL_ALERTS x != 0) := by
  refine (within_flag.on_at (by decide +kernel) x).trans ?_
  refine each_reaches (I := fun t => t.get R.X_RAIL_ALERTS x = s.get R.X_RAIL_ALERTS x)
    (Q := fun t => t.on R.RAIL_x_STAT_ALERT x = (s.get R.X_RAIL_ALERTS x != 0)) hx rfl ?_ ?_ ?_
  · intro y t _ _ ht
    exact (within_flag.get_at (by decide +kernel) x).trans ht
  · intro t ht
    rw [on_flag_self _ _ _ _ (by decide), ht]
  · intro y t hy hne ht
    rw [← ht, State.on, State.on, State.flag, get_set_ne _ (rail_key_ne (by decide) rfl hx hy hne)]

theorem alert_railAlert {kind : Nat} (hx : x < 2) (hkind : kind < 2) : (s.railAlert x kind).on R.RAIL_x_STAT_ALERT x = true := by
  have hbit : (s.setBit R.X_RAIL_ALERTS kind true x).bit R.X_RAIL_ALERTS kind x = true := bit_setBit_self true x hkind
  refine (alert_valtFollow hx).trans (bne_iff_ne.2 fun hzero => ?_)
  rw [State.bit, hzero, Nat.zero_testBit] at hbit
  exact absurd hbit (by decide)

/-- The latch of a rail is the one of its letter. -/
theorem bit_railLatch (hreg : (if x = 0 then a else b) = r) (hwidth : 0 < r.width)
    (hoff : Machine.keeps (Foot.offer ++ Foot.followAlert ++ Foot.railAlert) (.key (r.key 0)) = true) :
    (s.railLatch x a b).bit r 0 = true := by
  rw [keeps_append, Bool.and_eq_true] at hoff
  rw [State.railLatch, hreg, within_railAlert.bit hoff.2]
  exact bit_latch hwidth hoff.1

/-! ### Soft start (R228 step 5) -/

/-- A rail with the target that its soft start is to reach (R242). -/
def softTargeted (s : State) (x : Nat) : State :=
  if s.on R.RAIL_x_CFG_KEEP_VID x || s.on R.X_RAIL_KEEP x then s else s.set R.RAIL_x_TARGET (s.get R.RAIL_x_VID_INIT x) x

/-- What a soft start changes, the target and the state aside. -/
def softFoot : List Touch := touches [R.RAIL_x_STAT_SETTLED, R.RAIL_x_STAT_SLEWING, R.X_RAIL_OFFDLY, R.RAIL_x_STAT_BURST,
  R.RAIL_x_STAT_DE, R.X_TOKEN, R.X_LEAD, R.X_FIRED] [] []

theorem within_railSoft : within softFoot ((s.softTargeted x).set R.RAIL_x_STAT_STATE 2 x) (s.railSoft x) :=
  ((((within_flag.trans within_flag).trans within_flag).trans within_flag).trans within_flag).trans
    (within.iff within_refl ((within_set.trans within_set).trans within_set))

theorem railState_railSoft : (s.railSoft x).railState x = 2 :=
  (within_railSoft.get_at (by decide +kernel) x).trans (get_set_fit x (by decide))

theorem target_railSoft (hvid : s.on R.RAIL_x_CFG_KEEP_VID x = false) (hkeep : s.on R.X_RAIL_KEEP x = false) :
    (s.railSoft x).get R.RAIL_x_TARGET x = s.get R.RAIL_x_VID_INIT x := by
  refine (within_railSoft.get_at (by decide +kernel) x).trans ((within_set.get_at (by decide +kernel) x).trans ?_)
  rw [softTargeted, if_neg (by simp [hvid, hkeep])]
  exact get_set_fit x (get_lt s R.RAIL_x_VID_INIT x)

/-! ### A ramp down (R229 step 2) -/

theorem railDown_shows : (s.railDown x).railState x = 5 ∧ (s.railDown x).on R.X_RAIL_OFFDLY x = false := by
  have hend {v : State} : within ([.reg R.X_RAIL_PEND] ++ [.reg R.RAIL_x_STAT_BURST] ++ [.reg R.RAIL_x_STAT_DE]) v
      (((v.flag R.X_RAIL_PEND false x).flag R.RAIL_x_STAT_BURST false x).flag R.RAIL_x_STAT_DE true x) :=
    (within_flag.trans within_flag).trans within_flag
  refine ⟨?_, (hend.on_at (by decide +kernel) x).trans (on_flag_self _ _ _ _ (by decide))⟩
  exact ((((within_flag.trans within_flag).trans within_flag).trans hend).get_at (by decide +kernel) x).trans (get_set_fit x (by decide))

/-! ### A rail settles (R239, R240) -/

theorem within_railSettled : within Foot.railSettled s (s.railSettled x) := fun _ => Part.same_railSettled Part.same_refl

theorem slewing_railReached : (s.railReached x).on R.RAIL_x_STAT_SLEWING x = false :=
  (within_flag.on_at (by decide +kernel) x).trans (on_flag_self _ _ _ _ (by decide))

theorem settled_railReached : (s.railReached x).on R.RAIL_x_STAT_SETTLED x = s.on R.RAIL_x_STAT_SETTLED x :=
  (within_flag.trans within_flag).on_at (by decide +kernel) x

theorem railSettled_shows : (s.railSettled x).on R.RAIL_x_STAT_SETTLED x = true ∧ (s.railSettled x).on R.RAIL_x_STAT_SLEWING x = false := by
  have halert : within Foot.railAlert ((s.railReached x).flag R.RAIL_x_STAT_SETTLED true x) (s.railSettled x) :=
    within.iff within_refl within_railAlert
  refine ⟨(halert.on_at (by decide +kernel) x).trans (on_flag_self _ _ _ _ (by decide)), ?_⟩
  exact ((within_flag.trans halert).on_at (by decide +kernel) x).trans slewing_railReached

/-! ### TUNE (R225, R228 step 7) -/

/-- The code that TUNE sets: the computed one, 4 more after one large jitter, the middle one after two. -/
def tuneCode (x dv : Nat) (jitter again : Bool) : Nat :=
  if jitter && again then 16 else if jitter then min (injectionCode x dv + 4) 31 else injectionCode x dv

theorem tuneCode_lt {dv : Nat} {jitter again : Bool} : tuneCode x dv jitter again < 32 := by
  have hcode : injectionCode x dv ≤ 31 := by
    unfold injectionCode clampI
    omega
  unfold tuneCode
  split_ifs <;> omega

/-- What TUNE found for a rail. -/
def tuneShown (s : State) (x code esr ton : Nat) (failed : Bool) : State :=
  (((s.set R.RAIL_x_RINJ code x).set R.RAIL_x_ESR esr x).set R.X_RAIL_TON ton x).iff failed
    (fun t => t.railLatch x R.AUX_FAULT_TUNE_A R.AUX_FAULT_TUNE_B)

/-- A rail that regulates begins the transition that waited, or has settled. -/
def tuneEnded (s : State) (x : Nat) : State :=
  if s.on R.X_RAIL_PEND x && s.get R.RAIL_x_TARGET x != s.get R.X_RAIL_TUNED x then
    (s.flag R.X_RAIL_PEND false x).flag R.RAIL_x_STAT_SLEWING true x
  else (s.flag R.X_RAIL_PEND false x).railSettled x

/-- What the latch of a failed tuning changes. -/
def tuneLatchFoot : List Touch := Foot.railLatch R.AUX_FAULT_TUNE_A ++ Foot.railLatch R.AUX_FAULT_TUNE_B

/-- What the end of TUNE changes. -/
def tuneEndFoot : List Touch := Foot.railTuned ++ ([.reg R.X_RAIL_PEND] ++ ([.reg R.RAIL_x_STAT_SLEWING] ++ Foot.railSettled))

theorem within_railTuned : within Foot.railTuned s (s.railTuned x) := fun _ => Part.same_railTuned Part.same_refl

theorem within_tuneEnded : within ([.reg R.X_RAIL_PEND] ++ ([.reg R.RAIL_x_STAT_SLEWING] ++ Foot.railSettled)) s (s.tuneEnded x) :=
  within.ite (within_flag.trans within_flag.left) (within_flag.trans within_railSettled.right)

theorem within_tuneShown {code esr ton : Nat} {failed : Bool} : within ([.reg R.RAIL_x_RINJ] ++ [.reg R.RAIL_x_ESR] ++
    [.reg R.X_RAIL_TON] ++ tuneLatchFoot) s (s.tuneShown x code esr ton failed) :=
  ((within_set.trans within_set).trans within_set).trans (within.iff within_refl within_railLatch)

theorem railState_railTuned : (s.railTuned x).railState x = 4 := by
  have hnamed : within ([.reg R.X_RAIL_KEEP] ++ ([.reg R.RAIL_x_STAT_PS] ++ [.reg R.X_RAIL_NAMED])) (s.set R.RAIL_x_STAT_STATE 4 x)
      (s.railTuned x) := within_flag.trans (within.iff within_refl (within_set.trans within_clear))
  exact (hnamed.get_at (by decide +kernel) x).trans (get_set_fit x (by decide))

theorem tuneEnded_shows : (if s.on R.X_RAIL_PEND x = true ∧ s.get R.RAIL_x_TARGET x ≠ s.get R.X_RAIL_TUNED x then
      (s.tuneEnded x).on R.RAIL_x_STAT_SLEWING x else (s.tuneEnded x).on R.RAIL_x_STAT_SETTLED x) = true := by
  by_cases hwaits : s.on R.X_RAIL_PEND x = true ∧ s.get R.RAIL_x_TARGET x ≠ s.get R.X_RAIL_TUNED x
  · rw [if_pos hwaits, tuneEnded, if_pos (by simpa using hwaits)]
    exact on_flag_self _ _ _ _ (by decide)
  · rw [if_neg hwaits, tuneEnded, if_neg (by simpa using hwaits)]
    exact railSettled_shows.1

/-- What a completed tuning leaves in the rail's own words. -/
theorem tune_shows {code esr ton : Nat} {failed : Bool} (hcode : code < 32)
    (ht : t = ((s.tuneShown x code esr ton failed).railTuned x).tuneEnded x) : t.railState x = 4 ∧
    t.get R.RAIL_x_RINJ x = code ∧ (esr < 65536 → t.get R.RAIL_x_ESR x = esr) ∧
    (if s.on R.X_RAIL_PEND x = true ∧ s.get R.RAIL_x_TARGET x ≠ s.get R.X_RAIL_TUNED x then t.on R.RAIL_x_STAT_SLEWING x
      else t.on R.RAIL_x_STAT_SETTLED x) = true := by
  subst ht
  have hlatch {v : State} : within tuneLatchFoot v (v.iff failed (fun t => t.railLatch x R.AUX_FAULT_TUNE_A R.AUX_FAULT_TUNE_B)) :=
    within.iff within_refl within_railLatch
  have hend {v : State} : within tuneEndFoot v ((v.railTuned x).tuneEnded x) := within_railTuned.trans within_tuneEnded
  refine ⟨(within_tuneEnded.get_at (by decide +kernel) x).trans railState_railTuned, ?_, fun hesr => ?_, ?_⟩
  · exact ((((within_set.trans within_set).trans hlatch).trans hend).get_at (by decide +kernel) x).trans (get_set_fit x hcode)
  · exact (((within_set.trans hlatch).trans hend).get_at (by decide +kernel) x).trans (get_set_fit x hesr)
  · have hbefore := (within_tuneShown (s := s) (x := x) (code := code) (esr := esr) (ton := ton) (failed := failed)).trans
      (within_railTuned (x := x))
    rw [← hbefore.on_at (by decide +kernel), ← hbefore.get_at (by decide +kernel),
      ← hbefore.get_at (r := R.X_RAIL_TUNED) (by decide +kernel)]
    exact tuneEnded_shows

/-- The latch of a rail whose tuning failed. -/
theorem tune_latches {code esr ton : Nat} {failed : Bool} (hfailed : failed = true)
    (hreg : (if x = 0 then R.AUX_FAULT_TUNE_A else R.AUX_FAULT_TUNE_B) = r) (hwidth : 0 < r.width)
    (hoff : Machine.keeps (Foot.offer ++ Foot.followAlert ++ Foot.railAlert) (.key (r.key 0)) = true)
    (hend : Machine.keeps tuneEndFoot (.key (r.key 0)) = true) :
    (((s.tuneShown x code esr ton failed).railTuned x).tuneEnded x).bit r 0 = true := by
  rw [(within_railTuned.trans within_tuneEnded).bit hend, tuneShown, State.iff, if_pos hfailed]
  exact bit_railLatch hreg hwidth hoff

/-! ### Power (R221, R226, R227, R235) -/

/-- What an estimate shows of a rail that regulates. -/
def powerShown (s : State) (x v a pin pout : Nat) (light : Bool × Bool) : State :=
  (((((s.set R.RAIL_x_V (min v 65535) x).set R.RAIL_x_I (min a 65535) x).set R.RAIL_x_PIN (min pin 65535) x).set R.RAIL_x_POUT
    (min pout 65535) x).flag R.RAIL_x_STAT_DE light.1 x).flag R.RAIL_x_STAT_BURST light.2 x

/-- The firing demands placed (R226). -/
def fired (s : State) (fires : Bool) (l : List Firing) : State := s.iff fires (fun t => l.foldl State.fireStep t)

/-- What an estimate shows of VPRE (R221). -/
def preShown (s : State) (preV preI hold : Nat) : State :=
  ((s.set R.AUX_PRE_V (if s.on R.AUX_STATUS_VPRE_ON then preV else 0)).set R.AUX_PRE_I
    (if s.on R.AUX_STATUS_VPRE_ON then preI else 0)).set R.AUX_PRE_EXT_P
      (if s.on R.AUX_STATUS_VPRE_ON then min (preV * preI / 40 - (s.get R.RAIL_x_PIN 0 + s.get R.RAIL_x_PIN 1 + hold)) 65535 else 0)

/-- What the firing demands and the words of VPRE change. -/
def powerEndFoot : List Touch := Foot.fireStep ++ ([.reg R.AUX_PRE_V] ++ [.reg R.AUX_PRE_I] ++ [.reg R.AUX_PRE_EXT_P])

theorem within_powerEnd {fires : Bool} {l : List Firing} {preV preI hold : Nat} :
    within powerEndFoot s ((s.fired fires l).preShown preV preI hold) := by
  have hfired : within Foot.fireStep s (s.fired fires l) :=
    within.iff within_refl fun q hq => Part.same_foldl Part.same_refl fun v f hv => Part.same_fireStep hv hq
  exact hfired.trans ((within_set.trans within_set).trans within_set)

/-- A 16-bit word that is set to a number no larger than its top. -/
theorem get_set_top {n i : Nat} (hwidth : r.width = 16) : (s.set r (min n 65535) i).get r i = min n 65535 :=
  get_set_fit i (by rw [hwidth]; omega)

theorem power_shows {v a pin pout preV preI hold : Nat} {light : Bool × Bool} {fires : Bool} {l : List Firing}
    (ht : t = ((s.powerShown x v a pin pout light).fired fires l).preShown preV preI hold) :
    t.get R.RAIL_x_V x = min v 65535 ∧ t.get R.RAIL_x_I x = min a 65535 ∧ t.get R.RAIL_x_PIN x = min pin 65535 ∧
    t.get R.RAIL_x_POUT x = min pout 65535 ∧ t.on R.RAIL_x_STAT_DE x = light.1 ∧ t.on R.RAIL_x_STAT_BURST x = light.2 := by
  subst ht
  have hburst := within_flag.trans (within_powerEnd (s := s.powerShown x v a pin pout light) (fires := fires) (l := l) (preV := preV)
    (preI := preI) (hold := hold))
  have hde := within_flag.trans hburst
  refine ⟨?_, ?_, ?_, ?_, ?_, ?_⟩
  · refine ((within_set.trans (within_set.trans (within_set.trans hde))).get_at (by decide +kernel) x).trans (get_set_top rfl)
  · exact ((within_set.trans (within_set.trans hde)).get_at (by decide +kernel) x).trans (get_set_top rfl)
  · exact ((within_set.trans hde).get_at (by decide +kernel) x).trans (get_set_top rfl)
  · exact (hde.get_at (by decide +kernel) x).trans (get_set_top rfl)
  · exact (hburst.on_at (by decide +kernel) x).trans (on_flag_self _ _ _ _ (by decide))
  · exact (within_powerEnd.on_at (by decide +kernel) x).trans (on_flag_self _ _ _ _ (by decide))

end State

section
variable {s : State} {x : Fin 2}
open State

/-- The clause of O14 on RAIL_TUNE_COMPLETE. -/
theorem railTuneComplete_gives {dv : Nat} {on : RailOnTime} {jitter again : Bool} (htune : s.railState x = 3) :
    Gives (exec (.railTuneComplete x dv on jitter again) s) (fun t =>
      t.railState x = 4 ∧ t.get R.RAIL_x_RINJ x = (if jitter && again then 16 else if jitter then min (injectionCode x dv + 4)
        31 else injectionCode x dv) ∧ (0 < rippleCurrent on.vpv (vidMv x (s.get R.X_RAIL_TUNED x)) (railTon (vidMv x (s.get
        R.X_RAIL_TUNED x)) on.vpv on.trim) (s.get R.RAIL_x_L x) → t.get R.RAIL_x_ESR x = min (dv * 1000 / rippleCurrent on.vpv
        (vidMv x (s.get R.X_RAIL_TUNED x)) (railTon (vidMv x (s.get R.X_RAIL_TUNED x)) on.vpv on.trim) (s.get R.RAIL_x_L x))
        65535) ∧ (if s.on R.X_RAIL_PEND x ∧ s.get R.RAIL_x_TARGET x ≠ s.get R.X_RAIL_TUNED x then t.on R.RAIL_x_STAT_SLEWING x
        else t.on R.RAIL_x_STAT_SETTLED x) ∧ (jitter && again → x = 0 → t.bit R.AUX_FAULT_TUNE_A 0) ∧ (jitter && again → x = 1
        → t.bit R.AUX_FAULT_TUNE_B 0)) := by
  generalize hton : railTon (vidMv x (s.get R.X_RAIL_TUNED x)) on.vpv on.trim = ton
  generalize hdi : rippleCurrent on.vpv (vidMv x (s.get R.X_RAIL_TUNED x)) ton (s.get R.RAIL_x_L x) = di
  have hexec : exec (.railTuneComplete x dv on jitter again) s =
      .next (((s.tuneShown x (tuneCode x dv jitter again) (esrOf dv di) ton (jitter && again)).railTuned x).tuneEnded x) := by
    rw [← hdi, ← hton]
    exact congrArg Host.Outcome.next (if_pos htune)
  obtain ⟨hstate, hcode, hesr, hslews⟩ := tune_shows (s := s) (x := x) (tuneCode_lt (dv := dv) (jitter := jitter) (again := again))
    (esr := esrOf dv di) (ton := ton) (failed := jitter && again) rfl
  refine ⟨_, hexec, hstate, hcode, fun hripple => ?_, hslews, fun hfailed hx => ?_, fun hfailed hx => ?_⟩
  · have hmeasured : esrOf dv di = min (dv * 1000 / di) 65535 := if_neg (by omega)
    exact (hesr (by omega)).trans hmeasured
  · subst hx
    exact tune_latches hfailed rfl (by decide) (by decide +kernel) (by decide +kernel)
  · subst hx
    exact tune_latches hfailed rfl (by decide) (by decide +kernel) (by decide +kernel)

/-- The clause of O14 on RAIL_START_FAIL. -/
theorem railStartFail_gives (hlow : 2 ≤ s.railState x) (hhigh : s.railState x ≤ 5) : Gives (exec (.railStartFail x) s) (fun t =>
      t.get R.RAIL_x_STAT_FAILS x = min (s.get R.RAIL_x_STAT_FAILS x + 1) 3 ∧ t.railState x = (if 2 ≤ s.get
        R.RAIL_x_STAT_FAILS x then 7 else 6)) := by
  generalize hcount : min (s.get R.RAIL_x_STAT_FAILS x + 1) 3 = n
  have hfit : n < 4 := by omega
  generalize hcounted : (s.flag R.X_RAIL_KEEP (s.on R.X_RAIL_KEEP x || (s.railState x == 4 && s.on R.RAIL_x_STAT_SLEWING x)) x).set
    R.RAIL_x_STAT_FAILS n x = u
  have hfails : u.get R.RAIL_x_STAT_FAILS x = n := by
    rw [← hcounted]
    exact get_set_fit x hfit
  have hexec : exec (.railStartFail x) s = .next (if n = 3 then (u.railStop x 7).railLatch x R.AUX_FAULT_RAILA_SHORT
      R.AUX_FAULT_RAILB_SHORT else u.railStop x 6) := by
    rw [← hcounted, ← hcount]
    exact congrArg Host.Outcome.next (if_pos ⟨hlow, hhigh⟩)
  by_cases hthird : 2 ≤ s.get R.RAIL_x_STAT_FAILS x
  · rw [if_pos (by omega)] at hexec
    rw [if_pos hthird]
    exact ⟨_, hexec, ((within_railStop.trans within_railLatch).get_at (by decide +kernel) x).trans hfails,
      (within_railLatch.get_at (by decide +kernel) x).trans (railState_railStop (by decide))⟩
  · rw [if_neg (by omega)] at hexec
    rw [if_neg hthird]
    exact ⟨_, hexec, (within_railStop.get_at (by decide +kernel) x).trans hfails, railState_railStop (by decide)⟩

/-- The clause of O14 on RAIL_HICCUP_END. -/
theorem railHiccupEnd_gives (hhiccup : s.railState x = 6) : Gives (exec (.railHiccupEnd x) s) (fun t =>
      t.railState x = (if s.on R.MODE_STATUS_RAIL_DEMAND ∧ s.on R.X_RAIL_PS3 x = false then 2 else 0)) := by
  by_cases hstarts : s.on R.MODE_STATUS_RAIL_DEMAND = true ∧ s.on R.X_RAIL_PS3 x = false
  · refine ⟨s.railSoft x, congrArg Host.Outcome.next ((if_pos hhiccup).trans (if_pos (by simp [hstarts]))), ?_⟩
    beta_reduce
    rw [if_pos hstarts]
    exact railState_railSoft
  · refine ⟨(s.railStop x 0).set R.RAIL_x_STAT_FAILS 0 x,
      congrArg Host.Outcome.next ((if_pos hhiccup).trans (if_neg (by simpa using hstarts))), ?_⟩
    beta_reduce
    rw [if_neg hstarts]
    exact (within_set.get_at (by decide +kernel) x).trans (railState_railStop (by decide))

/-- The clause of O14 on RAIL_OVERVOLTAGE. -/
theorem railOvervoltage_gives (hlow : 2 ≤ s.railState x) (hhigh : s.railState x ≤ 5) : Gives (exec (.railOvervoltage x) s) (fun t =>
      t.railState x = s.railState x ∧ (x = 0 → t.bit R.AUX_FAULT_RAILA_OV 0) ∧ (x = 1 → t.bit R.AUX_FAULT_RAILB_OV 0) ∧ t.on
        R.RAIL_x_STAT_ALERT x) := by
  refine ⟨_, congrArg Host.Outcome.next (if_pos ⟨hlow, hhigh⟩), within_railLatch.get_at (by decide +kernel) x, ?_, ?_,
    alert_railAlert x.isLt (by decide)⟩
  · rintro rfl
    exact bit_railLatch rfl (by decide) (by decide +kernel)
  · rintro rfl
    exact bit_railLatch rfl (by decide) (by decide +kernel)

/-- The clause of O14 on RAIL_SETTLE. -/
theorem railSettle_gives {e : RailArrival} (hregulates : s.railState e.rail = 4) (hmoving : s.on R.RAIL_x_STAT_SETTLED e.rail = false) :
    Gives (exec (.railSettle e) s) (fun t =>
      t.on R.RAIL_x_STAT_SETTLED e.rail = e.held ∧ t.on R.RAIL_x_STAT_SLEWING e.rail = false) := by
  have hexec : exec (.railSettle e) s = .next (if e.held then s.railSettled e.rail else s.railReached e.rail) :=
    congrArg Host.Outcome.next (if_pos ⟨hregulates, by simp [hmoving]⟩)
  refine ⟨_, hexec, ?_⟩
  cases e.held with
  | true => exact railSettled_shows
  | false => exact ⟨settled_railReached.trans hmoving, slewing_railReached⟩

theorem exec_railPowerEstimate {v a vpv : Nat} {cycles : RailCycles} {de burst : Bool} {preV preI hold : Nat}
    (hregulates : s.railState x = 4) : exec (.railPowerEstimate x v a vpv cycles de burst preV preI hold) s =
      .next (((s.powerShown x v a (railInput vpv cycles.phases) (v * a * 25 / 10000) (s.railLight x de burst)).fired (x == 0)
        cycles.firings).preShown preV preI hold) := by
  have hlive : decide (2 ≤ s.railState x ∧ s.railState x ≤ 5) = true := by simp [hregulates]
  change execRailPowerEstimate x v a vpv cycles de burst preV preI hold s = _
  simp only [execRailPowerEstimate, hlive, Bool.true_and, if_true]
  rfl

end

/-- Settles O14: each clause is the lemma on its command above, or on the operation that it runs. -/
theorem hostRails : Obligations.HostRails := by
  refine ⟨?_, ?_, ?_, ?_, ?_, ?_, ?_, ?_, ?_, ?_, ?_⟩
  · intro s x hdelay
    exact ⟨_, congrArg Host.Outcome.next (if_pos hdelay), State.railState_railSoft, State.target_railSoft⟩
  · intro s x hramp
    refine ⟨_, congrArg Host.Outcome.next (if_pos hramp), ?_⟩
    exact ((State.within_flag.trans State.within_set).get_at (by decide +kernel) x).trans (State.get_set_fit x (by decide))
  · rintro s x dv on jitter again ⟨htune, -⟩
    exact railTuneComplete_gives htune
  · intro s x hdelay
    exact ⟨_, congrArg Host.Outcome.next (if_pos hdelay), State.railDown_shows⟩
  · intro s x hdown
    exact ⟨_, congrArg Host.Outcome.next (if_pos hdown), State.railState_railStop (by decide), State.railStop_reads⟩
  · rintro s x ⟨hlow, hhigh⟩
    exact railStartFail_gives hlow hhigh
  · intro s x hhiccup
    exact railHiccupEnd_gives hhiccup
  · intro s x hregulates
    exact ⟨_, congrArg Host.Outcome.next (if_pos hregulates), State.get_set_fit x (by decide)⟩
  · rintro s x ⟨hlow, hhigh⟩
    exact railOvervoltage_gives hlow hhigh
  · rintro s e ⟨hregulates, hmoving⟩
    exact railSettle_gives hregulates hmoving
  · intro s x v a vpv cycles de burst preV preI hold hregulates
    exact ⟨_, exec_railPowerEstimate hregulates, State.power_shows rfl⟩

end Sys2Proof.Machine
end

section
/-! PROOFS. Commands to the rails (R236 to R238, R241, R504): the judgement, what a command does to its rail, and its two ways in, the
frames of the link and RAIL_CONTROL. -/

-- One theorem at a time: each decision by the kernel waits for all declarations before it and holds a thread meanwhile.
set_option Elab.async false

namespace Sys2Proof.Machine
namespace State

variable {s t : State} {l : List Touch} {rail x cmd data : Nat} {p : Bool}

/-! ### The judgement (R238) -/

/-- What decides the answer to a command. -/
def answerRegs : List Reg := [R.RAIL_x_VID_MAX, R.MODE_STATUS_MODE, R.MODE_STATUS_THERM_ACTIVE, R.BIST_STATUS_SAFE,
  R.MODE_STATUS_RAIL_DEMAND, R.RAIL_x_STAT_STATE, R.RAIL_x_STAT_PS]

theorem within.railAnswer (h : within l s t) (hoff : sparesRegs l answerRegs = true) :
    t.railAnswer rail cmd data = s.railAnswer rail cmd data := by
  have hget := h.gets hoff
  simp only [answerRegs, List.forall_mem_cons, List.not_mem_nil, false_implies, implies_true, and_true] at hget
  obtain ⟨hmax, hmode, htherm, hsafe, hdemand, hstate, hps⟩ := hget
  have hrange : ∀ x, t.railRange x cmd data = s.railRange x cmd data := fun x => by simp only [State.railRange, hmax]
  have hrefuses : ∀ x, t.railRefuses x cmd data = s.railRefuses x cmd data := fun x => by
    simp only [State.railRefuses, State.railState, State.on, State.bit, hmode, htherm, hsafe, hdemand, hstate, hps]
  simp only [State.railAnswer, hrange, hrefuses]

theorem railsNamed_one (hrail : rail < 2) : railsNamed rail = [rail] := by
  rw [railsNamed, if_neg (by omega), if_pos hrail]

/-- A command under ACK is applied to the rail it names. -/
theorem railCommand_ack (hrail : rail < 2) (hans : s.railAnswer rail cmd data = 1) :
    s.railCommand rail cmd data = (s.railApply rail cmd data, 1) := by
  simp only [State.railCommand, hans, if_true, railsNamed_one hrail, List.foldl_cons, List.foldl_nil]

/-- A command under ACK has its data in range. -/
theorem railRange_of_ack (hrail : rail < 2) (hans : s.railAnswer rail cmd data = 1) : s.railRange rail cmd data = false := by
  by_contra hrange
  rw [State.railAnswer, railsNamed_one hrail] at hans
  simp [hrange] at hans

theorem slew_le_of_ack (hrail : rail < 2) (hans : s.railAnswer rail 2 data = 1) : data ≤ 40 := by
  have hrange := railRange_of_ack hrail hans
  simp only [State.railRange, Bool.or_eq_false_iff, decide_eq_false_iff_not] at hrange
  omega

/-! ### What a command does to its rail (R238, R240, R504) -/

/-- A rail with a new target, by a slow or a fast slew. -/
def vidTaken (s : State) (x code : Nat) (fast : Bool) : State :=
  ((s.set R.RAIL_x_TARGET code x).flag R.RAIL_x_STAT_SETTLED false x).flag R.X_RAIL_FAST fast x

/-- What the transition to it changes. -/
def vidFoot : List Touch := [.reg R.RAIL_x_STAT_SLEWING] ++ [.reg R.X_RAIL_PEND] ++ [.reg R.RAIL_x_STAT_SUPERSEDED]

theorem within_railVid {fast : Bool} : within vidFoot (s.vidTaken x data fast) (s.railVid x data fast) := by
  have hslews {v : State} {b : Bool} : within vidFoot v (v.flag R.RAIL_x_STAT_SLEWING b x) := within_flag.left.left
  unfold State.railVid
  dsimp only
  split
  · exact within.iff within_refl hslews
  · exact within_flag.right.left
  · exact within.ite within_refl (hslews.chain within_flag.right)
  · exact within_refl

theorem railVid_shows {fast : Bool} (hdata : data < 256) :
    (s.railVid x data fast).get R.RAIL_x_TARGET x = data ∧ (s.railVid x data fast).on R.X_RAIL_FAST x = fast := by
  refine ⟨?_, (within_railVid.on_at (by decide +kernel) x).trans (on_flag_self _ _ _ _ (by decide))⟩
  exact (((within_flag.trans within_flag).trans within_railVid).get_at (by decide +kernel) x).trans (get_set_fit x hdata)

/-- A rail that regulates takes a power state at once (R504). -/
theorem ps_railSetState (hregulates : s.railState x = 4) (hdata : data < 3) : (s.railSetState x data).get R.RAIL_x_STAT_PS x = data := by
  have heq : s.railSetState x data = (((((s.flag R.X_RAIL_PS3 false x).set R.X_RAIL_NAMED (4 + data) x).set R.RAIL_x_STAT_PS data
      x).clear R.X_RAIL_NAMED x).iff (data == 0) (fun t => t.flag R.RAIL_x_STAT_BURST false x)) := by
    unfold State.railSetState
    rw [if_neg (by omega)]
    simp only [hregulates]
  rw [heq]
  refine ((within_clear.trans (within.iff within_refl within_flag)).get_at (by decide +kernel) x).trans ?_
  exact get_set_fit x (show data < 4 by omega)

theorem railClearAlert_shows (hx : x < 2) : (s.railClearAlert x).get R.X_RAIL_ALERTS x = 0 ∧
    (s.railClearAlert x).on R.RAIL_x_STAT_SUPERSEDED x = false ∧ (s.railClearAlert x).on R.RAIL_x_STAT_ALERT x = false := by
  have hnone : ((s.set R.X_RAIL_ALERTS 0 x).flag R.RAIL_x_STAT_SUPERSEDED false x).get R.X_RAIL_ALERTS x = 0 :=
    (within_flag.get_at (by decide +kernel) x).trans (get_set_fit x (by decide))
  refine ⟨(within_valtFollow.get_at (by decide +kernel) x).trans hnone, ?_, ?_⟩
  · exact (within_valtFollow.on_at (by decide +kernel) x).trans (on_flag_self _ _ _ _ (by decide))
  · refine (alert_valtFollow hx).trans ?_
    rw [hnone]
    rfl

theorem within_railApply : within Foot.railApply s (s.railApply x cmd data) := fun _ => Part.same_railApply Part.same_refl

/-! ### A frame under ACK (R237, R238) -/

/-- An ACK, counted, with the length of its answer. -/
def acked (s : State) (clocks : Nat) : State := (s.inc R.RCL_ACK_CNT).rclAnswer 1 clocks

/-- The byte of a GET and its parity as driven. -/
def dataDriven (s : State) (d : Nat) : State := (s.set R.X_RCL_RDATA d).set R.X_RCL_RP (onesIn 8 d % 2)

/-- What an ACK changes. -/
def ackFoot : List Touch := [.reg R.RCL_ACK_CNT] ++ ([.reg R.X_RCL_ACK] ++ [.reg R.X_RCL_CLOCKS])

theorem within_rclAnswer {ack clocks : Nat} : within ([.reg R.X_RCL_ACK] ++ [.reg R.X_RCL_CLOCKS]) s (s.rclAnswer ack clocks) :=
  within_set.trans within_set

theorem ack_rclAnswer {ack clocks : Nat} (hfit : ack < 8) : (s.rclAnswer ack clocks).get R.X_RCL_ACK = ack :=
  (within_set.get (by decide +kernel)).trans (get_set_fit 0 hfit)

theorem within_acked {clocks : Nat} : within ackFoot s (s.acked clocks) := within_inc.trans within_rclAnswer

theorem acked_shows {clocks : Nat} (hclocks : clocks < 32) : (s.acked clocks).get R.X_RCL_ACK = 1 ∧
    (s.acked clocks).get R.RCL_ACK_CNT = min (s.get R.RCL_ACK_CNT + 1) R.RCL_ACK_CNT.top ∧ (s.acked clocks).get R.X_RCL_CLOCKS = clocks :=
  ⟨ack_rclAnswer (by decide), (within_rclAnswer.get (by decide +kernel)).trans (get_add_self ..), get_set_fit 0 hclocks⟩

/-- What a frame that is answered runs through: the link is up and its parity is even. -/
theorem rclFrame_judged (hup : s.rclUp = true) (heven : rclEven rail cmd data p = true) : s.rclFrame rail cmd data p =
    if ((s.abortSlice 0x10).railCommand rail cmd data).2 = 1 then
      (if 4 ≤ cmd ∧ cmd ≤ 7 then (((s.abortSlice 0x10).railCommand rail cmd data).1.acked 31).dataDriven (s.railRead rail cmd)
      else ((s.abortSlice 0x10).railCommand rail cmd data).1.acked 22)
    else (((s.abortSlice 0x10).railCommand rail cmd data).1.inc R.RCL_NAK_CNT_OTHER).rclAnswer
      ((s.abortSlice 0x10).railCommand rail cmd data).2 22 := by
  unfold State.rclFrame
  rw [if_neg (by simp [hup]), if_neg (by simp [heven])]
  rfl

section
variable (hup : s.rclUp = true) (heven : rclEven rail cmd data p = true) (hrail : rail < 2) (hans : s.railAnswer rail cmd data = 1)
include hup heven hrail hans

/-- The rail as a frame under ACK leaves it. -/
theorem rclFrame_ack : s.rclFrame rail cmd data p =
    if 4 ≤ cmd ∧ cmd ≤ 7 then (((s.abortSlice 0x10).railApply rail cmd data).acked 31).dataDriven (s.railRead rail cmd)
    else ((s.abortSlice 0x10).railApply rail cmd data).acked 22 := by
  have hsame : (s.abortSlice 0x10).railAnswer rail cmd data = 1 := (within_abortSlice.railAnswer (by decide +kernel)).trans hans
  rw [rclFrame_judged hup heven, railCommand_ack hrail hsame, if_pos rfl]

/-- A frame that sets: the rail is as its command leaves it, the answer aside. -/
theorem rclFrame_sets (hset : ¬ (4 ≤ cmd ∧ cmd ≤ 7)) : (s.rclFrame rail cmd data p).get R.X_RCL_ACK = 1 ∧
    (s.rclFrame rail cmd data p).get R.RCL_ACK_CNT = min (s.get R.RCL_ACK_CNT + 1) R.RCL_ACK_CNT.top ∧
    (s.rclFrame rail cmd data p).get R.X_RCL_CLOCKS = 22 ∧
    within ackFoot ((s.abortSlice 0x10).railApply rail cmd data) (s.rclFrame rail cmd data p) := by
  rw [rclFrame_ack hup heven hrail hans, if_neg hset]
  obtain ⟨hack, hcount, hclocks⟩ := acked_shows (s := (s.abortSlice 0x10).railApply rail cmd data) (show 22 < 32 by decide)
  rw [(within_abortSlice.trans within_railApply).get (by decide +kernel)] at hcount
  exact ⟨hack, hcount, hclocks, within_acked⟩

end

theorem onesIn_parity_lt {n v : Nat} : onesIn n v % 2 < 2 := Nat.mod_lt _ (by decide)

theorem railStatusByte_lt : s.railStatusByte x < 256 := by
  have hps : s.get R.RAIL_x_STAT_PS x < 4 := get_lt s R.RAIL_x_STAT_PS x
  have hbit : ∀ b : Bool, b.toNat ≤ 1 := Bool.toNat_le
  have hsettled := hbit (s.on R.RAIL_x_STAT_SETTLED x)
  have hslewing := hbit (s.on R.RAIL_x_STAT_SLEWING x)
  have hsuperseded := hbit (s.on R.RAIL_x_STAT_SUPERSEDED x)
  have halert := hbit (s.on R.RAIL_x_STAT_ALERT x)
  have hbad := hbit (s.railState x == 6 || s.railState x == 7 || s.railBad x)
  have hgood := hbit (s.railState x == 4)
  simp only [State.railStatusByte]
  omega

/-- A GET answers one byte. -/
theorem railRead_lt : s.railRead x cmd < 256 := by
  unfold State.railRead
  split
  · exact get_lt s R.RAIL_x_TARGET x
  · split
    · decide
    · unfold vidCode
      split <;> omega
  · exact railStatusByte_lt
  · omega

/-- A frame that reads: the byte driven with its parity, and the rail as it was. -/
theorem rclFrame_reads (hup : s.rclUp = true) (heven : rclEven rail cmd data p = true) (hrail : rail < 2)
    (hans : s.railAnswer rail cmd data = 1) (hget : 4 ≤ cmd ∧ cmd ≤ 7) (ht : t = s.rclFrame rail cmd data p) :
    t.get R.X_RCL_ACK = 1 ∧ t.get R.RCL_ACK_CNT = min (s.get R.RCL_ACK_CNT + 1) R.RCL_ACK_CNT.top ∧
    t.get R.X_RCL_RDATA = s.railRead rail cmd ∧ t.get R.X_RCL_CLOCKS = 31 ∧
    t.get R.X_RCL_RP = onesIn 8 (t.get R.X_RCL_RDATA) % 2 ∧ t.get R.RAIL_x_TARGET rail = s.get R.RAIL_x_TARGET rail := by
  subst ht
  have hnothing : (s.abortSlice 0x10).railApply rail cmd data = s.abortSlice 0x10 := by
    obtain rfl | rfl | rfl | rfl : cmd = 4 ∨ cmd = 5 ∨ cmd = 6 ∨ cmd = 7 := by omega
    all_goals rfl
  rw [rclFrame_ack hup heven hrail hans, if_pos hget, hnothing]
  obtain ⟨hack, hcount, hclocks⟩ := acked_shows (s := s.abortSlice 0x10) (show 31 < 32 by decide)
  rw [within_abortSlice.get (by decide +kernel)] at hcount
  have hdriven {v : State} {d : Nat} : within ([.reg R.X_RCL_RDATA] ++ [.reg R.X_RCL_RP]) v (v.dataDriven d) := within_set.trans within_set
  have hbyte : (((s.abortSlice 0x10).acked 31).dataDriven (s.railRead rail cmd)).get R.X_RCL_RDATA = s.railRead rail cmd :=
    (within_set.get (by decide +kernel)).trans (get_set_fit 0 railRead_lt)
  refine ⟨(hdriven.get (by decide +kernel)).trans hack, (hdriven.get (by decide +kernel)).trans hcount, hbyte,
    (hdriven.get (by decide +kernel)).trans hclocks, ?_, ?_⟩
  · rw [hbyte]
    exact get_set_fit 0 onesIn_parity_lt
  · exact ((within_abortSlice.trans within_acked).trans hdriven).get_at (by decide +kernel) rail

/-! ### A frame under NAK (R238 order 2) -/

theorem railAnswer_reserved (hreserved : rail = 2 ∨ cmd = 0 ∨ 9 < cmd) : s.railAnswer rail cmd data = 3 := by
  rw [State.railAnswer]
  exact if_pos (by omega)

theorem rclFrame_reserved (hup : s.rclUp = true) (heven : rclEven rail cmd data p = true) (hreserved : rail = 2 ∨ cmd = 0 ∨ 9 < cmd) :
    s.rclFrame rail cmd data p = ((s.abortSlice 0x10).inc R.RCL_NAK_CNT_OTHER).rclAnswer 3 22 := by
  have hrefused : (s.abortSlice 0x10).railCommand rail cmd data = (s.abortSlice 0x10, 3) := by
    simp [State.railCommand, railAnswer_reserved hreserved]
  rw [rclFrame_judged hup heven, hrefused]
  rfl

/-! ### RAIL_CONTROL (R241) -/

theorem within_heard {port : PortId} : within (Foot.abortSlice ++ Foot.awake ++ Foot.dropReply) s (s.heard port) := fun _ => same_heard

end State

section
variable {s : State} {port : PortId} {tag : Byte} {rail : Fin 256} {arg : Fin 65536}
open State

/-- An accepted RAIL_CONTROL answers OK and leaves the rail as the frame of its command does. -/
theorem railControl_gives {c : Instr} {action cmd : Nat} (hc : exec c s = .next (s.railControl port tag rail action arg cmd))
    (hf : s.free port = true) (hrail : rail.val < 2) (hans : s.railAnswer rail cmd (arg.val % 256) = 1) :
    Gives (exec c s) (fun t => t.replied port 0x00 tag [] ∧ t.fields = ((s.heard port).railApply rail cmd (arg.val % 256)).fields) := by
  have hsame : (s.heard port).railAnswer rail cmd (arg.val % 256) = 1 := (within_heard.railAnswer (by decide +kernel)).trans hans
  refine gives_serve (a := State.answers ((s.heard port).railApply rail cmd (arg.val % 256), 0x00)) hc hf (by decide)
    (by simp [lengthOk, length_le]) ?_ fun c hc => within_railApply (.comp c) ?_
  · simp only [railCommand_ack hrail hsame, if_true]
  · revert c
    decide +kernel

end

/-- Settles O15: a frame that sets leaves its rail as the command does, a frame that reads drives its byte, and a reserved one is
refused for its range. -/
theorem railLink : Obligations.RailLink := by
  refine ⟨?_, ?_, ?_, ?_, ?_, ?_, ?_, ?_, ?_, ?_, ?_⟩
  · rintro s rail data p ⟨hup, heven, hrail, -, hans⟩
    obtain ⟨hack, hcount, hclocks, hkept⟩ := State.rclFrame_sets hup heven hrail hans (by decide)
    exact ⟨_, rfl, hack, hcount, (hkept.get_at (by decide +kernel) rail).trans (State.railVid_shows data.isLt).1, hclocks⟩
  · rintro s rail data p ⟨hup, heven, hrail, hans⟩
    obtain ⟨hack, hcount, hclocks, hkept⟩ := State.rclFrame_sets hup heven hrail hans (by decide)
    have hfit : data.val < 64 := by have := State.slew_le_of_ack hrail hans; omega
    exact ⟨_, rfl, hack, hcount, (hkept.get_at (by decide +kernel) rail).trans (State.get_set_fit rail hfit), hclocks⟩
  · rintro s rail data p ⟨hup, heven, hrail, hregulates, hdata, hans⟩
    obtain ⟨hack, hcount, hclocks, hkept⟩ := State.rclFrame_sets hup heven hrail hans (by decide)
    have hstill : (s.abortSlice 0x10).railState rail = 4 := (State.within_abortSlice.get_at (by decide +kernel) rail).trans hregulates
    exact ⟨_, rfl, hack, hcount, (hkept.get_at (by decide +kernel) rail).trans (State.ps_railSetState hstill hdata), hclocks⟩
  · rintro s rail data p ⟨hup, heven, hrail, hans⟩
    obtain ⟨hack, hcount, hbyte, hclocks, hparity, htarget⟩ := State.rclFrame_reads hup heven hrail hans (by decide) rfl
    exact ⟨_, rfl, hack, hcount, hbyte, htarget, hclocks, hparity⟩
  · rintro s rail data p ⟨hup, heven, hrail, hregulates, hans⟩
    obtain ⟨hack, hcount, hbyte, hclocks, hparity, -⟩ := State.rclFrame_reads hup heven hrail hans (by decide) rfl
    exact ⟨_, rfl, hack, hcount, hbyte.trans (if_neg (by omega)), hclocks, hparity⟩
  · rintro s rail data p ⟨hup, heven, hrail, hans⟩
    obtain ⟨hack, hcount, hbyte, hclocks, hparity, -⟩ := State.rclFrame_reads hup heven hrail hans (by decide) rfl
    exact ⟨_, rfl, hack, hcount, hbyte, hclocks, hparity⟩
  · rintro s rail data p ⟨hup, heven, hrail, hans⟩
    obtain ⟨hack, hcount, hbyte, hclocks, hparity, -⟩ := State.rclFrame_reads hup heven hrail hans (by decide) rfl
    exact ⟨_, rfl, hack, hcount, hbyte, hclocks, hparity⟩
  · rintro s rail data p ⟨hup, heven, hrail, hans⟩
    obtain ⟨hack, hcount, hclocks, hkept⟩ := State.rclFrame_sets hup heven hrail hans (by decide)
    obtain ⟨hnone, hsuperseded, halert⟩ := State.railClearAlert_shows (s := s.abortSlice 0x10) hrail
    exact ⟨_, rfl, hack, hcount, (hkept.get_at (by decide +kernel) rail).trans hnone,
      (hkept.on_at (by decide +kernel) rail).trans hsuperseded, (hkept.on_at (by decide +kernel) rail).trans halert, hclocks⟩
  · rintro s rail data p ⟨hup, heven, hrail, -, hans⟩
    obtain ⟨hack, hcount, hclocks, hkept⟩ := State.rclFrame_sets hup heven hrail hans (by decide)
    obtain ⟨htarget, hfast⟩ := State.railVid_shows (s := s.abortSlice 0x10) (x := rail) (fast := true) data.isLt
    exact ⟨_, rfl, hack, hcount, (hkept.get_at (by decide +kernel) rail).trans htarget,
      (hkept.on_at (by decide +kernel) rail).trans hfast, hclocks⟩
  · intro s hawake
    refine ⟨_, congrArg Host.Outcome.next (if_neg (by simp [hawake])), ?_, State.ack_rclAnswer (by decide)⟩
    exact (State.within_rclAnswer.get (by decide +kernel)).trans (State.get_add_self ..)
  · rintro s rail cmd data p ⟨hup, heven, hreserved⟩
    refine ⟨_, congrArg Host.Outcome.next ((if_pos hreserved).trans (State.rclFrame_reserved hup heven hreserved)),
      State.ack_rclAnswer (by decide), ?_⟩
    refine (State.within_rclAnswer.get (by decide +kernel)).trans ((State.get_add_self ..).trans ?_)
    rw [State.within_abortSlice.get (by decide +kernel)]

/-- Settles O27: an accepted RAIL_CONTROL answers OK, and the rail is as its command leaves it. -/
theorem hostRailControl : Obligations.HostRailControl := by
  refine ⟨?_, ?_, ?_, ?_, ?_⟩
  · rintro s port tag rail arg ⟨hf, hrail, hans⟩
    obtain ⟨t, ht, hreply, hfields⟩ := railControl_gives (c := .railControlSetVid port tag rail arg) rfl hf hrail hans
    exact ⟨t, ht, hreply, (State.get_of_fields hfields _ _).trans (State.railVid_shows (Nat.mod_lt _ (by decide))).1⟩
  · rintro s port tag rail arg ⟨hf, hrail, hans⟩
    obtain ⟨t, ht, hreply, hfields⟩ := railControl_gives (c := .railControlSetSlew port tag rail arg) rfl hf hrail hans
    have hfit : arg.val % 256 < 64 := by have := State.slew_le_of_ack hrail hans; omega
    exact ⟨t, ht, hreply, (State.get_of_fields hfields _ _).trans (State.get_set_fit rail hfit)⟩
  · rintro s port tag rail arg ⟨hf, hrail, hans⟩
    obtain ⟨t, ht, hreply, hfields⟩ := railControl_gives (c := .railControlSetState port tag rail arg) rfl hf hrail hans
    refine ⟨t, ht, hreply, fun hregulates hdata => (State.get_of_fields hfields _ _).trans (State.ps_railSetState ?_ hdata)⟩
    exact (State.within_heard.get_at (by decide +kernel) rail).trans hregulates
  · rintro s port tag rail arg ⟨hf, hrail, hans⟩
    obtain ⟨t, ht, hreply, hfields⟩ := railControl_gives (c := .railControlClearAlert port tag rail arg) rfl hf hrail hans
    obtain ⟨hnone, hsuperseded, -⟩ := State.railClearAlert_shows (s := s.heard port) hrail
    exact ⟨t, ht, hreply, (State.get_of_fields hfields _ _).trans hnone, (State.on_of_fields hfields _ _).trans hsuperseded⟩
  · rintro s port tag rail arg ⟨hf, hrail, hans⟩
    obtain ⟨t, ht, hreply, hfields⟩ := railControl_gives (c := .railControlSetVidFast port tag rail arg) rfl hf hrail hans
    obtain ⟨htarget, hfast⟩ := State.railVid_shows (s := s.heard port) (x := rail) (data := arg.val % 256) (fast := true)
      (Nat.mod_lt _ (by decide))
    exact ⟨t, ht, hreply, (State.get_of_fields hfields _ _).trans htarget, (State.on_of_fields hfields _ _).trans hfast⟩

end Sys2Proof.Machine
end

section
/-! PROOFS. The line ports (R255, R266, R267, R288): when a mode wants a port at full power, a port that rises, drops to keep-alive, shorts or
is overloaded. -/

-- One theorem at a time: each decision by the kernel waits for all declarations before it and holds a thread meanwhile.
set_option Elab.async false

namespace Sys2Proof.Machine
namespace State

variable {s t : State} {l : List Touch}

/-! ### What the operations on a port change -/

theorem within_setPort {p st : Nat} : within Foot.setPort s (s.setPort p st) := fun _ => Part.same_setPort Part.same_refl

theorem within_portRise {p : Nat} : within Foot.portRise s (s.portRise p) := fun _ => Part.same_portRise Part.same_refl

theorem within_syncTime {p : Nat} : within Foot.syncTime s (s.syncTime p) := fun _ => Part.same_syncTime Part.same_refl

theorem within_startYard {p : Nat} : within Foot.startYard s (s.startYard p) := fun _ => Part.same_startYard Part.same_refl

theorem within_ledgerFollow : within Foot.ledgerFollow s s.ledgerFollow := fun _ => Part.same_ledgerFollow Part.same_refl

theorem within_nodeEvent {ev p id cls slot detail : Nat} : within Foot.nodeEvent s (s.nodeEvent ev p id cls slot detail) := fun _ =>
  Part.same_nodeEvent Part.same_refl

/-! ### A port that is wanted rises (R66, R267, R285) -/

/-- What says, beside the state of a port, whether it is wanted. -/
def wantedRegs : List Reg := [R.MODE_STATUS_MODE, R.LINE_CTRL_A_EN, R.LINE_CTRL_B_EN, R.LINE_STATUS_A_HOST_OFF, R.LINE_STATUS_B_HOST_OFF,
  R.MODE_STATUS_THERM_ACTIVE, R.X_SHIP_OFF, R.X_CUTOFF, R.RAIL_x_STAT_STATE, R.BIST_STATUS_SAFE, R.X_POLL]

theorem within.portWanted (h : within l s t) (hoff : sparesRegs l wantedRegs = true) {p : Nat} (hstate : t.portState p = s.portState p) :
    t.portWanted p = s.portWanted p := by
  have hget := h.gets hoff
  simp only [wantedRegs, List.forall_mem_cons, List.not_mem_nil, false_implies, implies_true, and_true] at hget
  obtain ⟨hmode, hena, henb, hhosta, hhostb, htherm, hship, hcut, hrail, hsafe, hpoll⟩ := hget
  simp only [State.portWanted, State.portEn, State.hostOff, State.railOn, State.railState, State.on, State.bit, hstate, hmode, hena, henb,
    hhosta, hhostb, htherm, hship, hcut, hrail, hsafe, hpoll]

/-- What a port that rises changes after its state. -/
def riseTailFoot : List Touch := [.reg R.X_LINE_BOOT] ++ [.reg R.X_LINE_UP] ++ ([.reg R.X_ENUM] ++ Foot.seqRestart0)

theorem within_riseTail {p : Nat} : within riseTailFoot ((s.abortSlice 0x20).setPort p 2) (s.portRise p) := by
  unfold State.portRise
  exact within.ite ((within_flag.trans within_flag).trans (within_set.trans fun _ => Part.same_seqRestart0 Part.same_refl))
    (within_flag.trans within_flag).left

theorem portState_portRise_self {p : Fin 2} : (s.portRise p).portState p = 2 :=
  (within_riseTail.portState (by decide +kernel) p).trans (portState_setPort_self (by decide))

theorem portState_portRise_other {p q : Fin 2} (hne : q ≠ p) : (s.portRise q).portState p = s.portState p :=
  (within_riseTail.portState (by decide +kernel) p).trans
    ((portState_setPort_other hne).trans (within_abortSlice.portState (by decide +kernel) p))

/-- A port at or below keep-alive rises where it is wanted while VAUX is in regulation, and stays as it is elsewhere: the other port, which
may rise before it, does not say whether it is wanted. -/
theorem portState_portsFollow {p : Fin 2} (hlow : s.portState p ≤ 1) : s.portsFollow.portState p =
    if s.on R.AUX_STATUS_VAUX_REG = true ∧ s.portWanted p = true then 2 else s.portState p := by
  unfold State.portsFollow
  by_cases hreg : s.on R.AUX_STATUS_VAUX_REG = true
  case neg => rw [if_neg hreg, if_neg (fun h => hreg h.1)]
  case pos =>
    rw [if_pos hreg]
    have hother : ∀ (q : Nat) (t : State), q < 2 → q ≠ p →
        (if t.portWanted q && decide (t.portState q ≤ 1) then t.portRise q else t).portState p = t.portState p := by
      intro q t hq hne
      split
      · exact portState_portRise_other (q := ⟨q, hq⟩) (fun h => hne (congrArg Fin.val h))
      · rfl
    obtain ⟨t, -, hkept, hturn⟩ := each_at (I := fun _ => True) (val := fun t => (t.portState p, t.portWanted p)) (s := s)
      (f := fun q t => if t.portWanted q && decide (t.portState q ≤ 1) then t.portRise q else t) p.isLt trivial
      (fun _ _ _ _ => trivial) fun q t hq hne _ => Prod.ext (hother q t hq hne)
        ((within.ite within_portRise within_refl).portWanted (by decide +kernel) (hother q t hq hne))
    obtain ⟨hstate, hwanted⟩ := Prod.ext_iff.1 hkept
    refine (congrArg Prod.fst hturn).trans ?_
    dsimp only at hstate hwanted ⊢
    rw [hwanted, hstate, decide_eq_true hlow, Bool.and_true]
    by_cases hwant : s.portWanted p = true
    · rw [if_pos hwant, if_pos ⟨hreg, hwant⟩, portState_portRise_self]
    · rw [if_neg hwant, if_neg (fun h => hwant h.2), hstate]

/-! ### A port goes down (R255, R267, R288) -/

theorem kaPower_portOff {p : Fin 2} : (s.portOff p).get R.X_KA_POWER p = 0 := get_set_fit p (by decide)

/-- The work of a port is over, and its yard poll with it. -/
def portRested (s : State) (p : Nat) : State := ((s.lineIdle p).setBit R.X_POLL p false).flag R.X_LINE_UP false p

/-- A port that drops to keep-alive with its draw (R255). -/
def keptAlive (s : State) (p power : Nat) : State := (((s.portRested p).setPort p 1).set R.X_KA_POWER power p).ledgerFollow

theorem keptAlive_shows {p : Fin 2} {power : Nat} (hfit : power < 65536) : (s.keptAlive p power).portState p = 1 ∧
    (s.keptAlive p power).get R.X_KA_POWER p = power ∧ (s.keptAlive p power).bit R.X_POLL p = false := by
  have htail {u : State} : within ([.reg R.X_KA_POWER] ++ Foot.ledgerFollow) u (u.set R.X_KA_POWER power p).ledgerFollow :=
    within_set.trans within_ledgerFollow
  refine ⟨?_, ?_, ?_⟩
  · exact (htail.portState (by decide +kernel) p).trans (portState_setPort_self (by decide))
  · exact (within_ledgerFollow.get_at (by decide +kernel) p).trans (get_set_fit p hfit)
  · refine (((within_flag.trans within_setPort).trans htail).bit (by decide +kernel)).trans ?_
    exact bit_setBit_self false 0 p.isLt

/-- The latch of a keep-alive that is overloaded, per port. -/
def overloadReg (p : Nat) : Reg := if p = 0 then R.LINE_FAULT_A_KA_OVLD else R.LINE_FAULT_B_KA_OVLD

theorem overloadReg_spares (p : Nat) : sparesRegs (Foot.latch (overloadReg p) ++ Foot.nodeEvent) portRegs = true ∧
    sparesRegs (Foot.latch (overloadReg p) ++ Foot.nodeEvent) [R.X_KA_POWER] = true := by
  unfold overloadReg
  split <;> decide +kernel

theorem bit_overloadReg (p : Nat) : ((s.latch (overloadReg p)).nodeEvent 0x09 p 0 0xFF 0xFF 0).bit (overloadReg p) 0 = true := by
  unfold overloadReg
  split
  · exact (within_nodeEvent.bit (by decide +kernel)).trans (bit_latch (by decide) (by decide +kernel))
  · exact (within_nodeEvent.bit (by decide +kernel)).trans (bit_latch (by decide) (by decide +kernel))

end State

section
variable {s : State} {p : Fin 2}
open State

/-! ### The clauses of O16 -/

/-- The clause of O16 on PORT_BOOT_WAIT_END. -/
theorem portBootWaitEnd_gives (hstate : s.portState p = 2) (hup : s.on R.X_LINE_UP p = true) (hboot : s.on R.X_LINE_BOOT p = true) :
    Gives (exec (.portBootWaitEnd p) s) (fun t => t.portState p = 3 ∧ t.get R.X_ENUM p = 2) := by
  refine ⟨_, congrArg Host.Outcome.next (if_pos ⟨hstate, hup, hboot⟩), ?_, get_set_fit p (by decide)⟩
  exact ((within_syncTime.trans within_set).portState (by decide +kernel) p).trans (portState_setPort_self (by decide))

/-- The clause of O16 on PORT_SETTLE_END. -/
theorem portSettleEnd_gives (hstate : s.portState p = 2) (hup : s.on R.X_LINE_UP p = true) (hboot : s.on R.X_LINE_BOOT p = false) :
    Gives (exec (.portSettleEnd p) s) (fun t => t.portState p = 4 ∧ t.get R.X_SHORTS p = 0) := by
  refine ⟨_, congrArg Host.Outcome.next (if_pos ⟨hstate, hup, by simp [hboot]⟩), ?_, ?_⟩
  · exact (((within_syncTime.trans within_set).trans within_startYard).portState (by decide +kernel) p).trans
      (portState_setPort_self (by decide))
  · exact (within_startYard.get_at (by decide +kernel) p).trans (get_set_fit p (by decide))

/-- The clause of O16 on PORT_TO_KEEP_ALIVE. -/
theorem portToKeepAlive_gives {power : Nat} (hhigh : s.portHigh p = true) (hidle : s.portIdle p = true) (hka : s.portKa p = true)
    (hen : s.portEn p = true) (hhost : s.hostOff p = false) (hmode : nodeMode (s.get R.MODE_STATUS_MODE) = false)
    (hride : s.on R.MODE_STATUS_RIDE_ACTIVE = false) (hfit : power < 65536) : Gives (exec (.portToKeepAlive p power) s) (fun t =>
      t.portState p = 1 ∧ t.get R.X_KA_POWER p = power ∧ t.bit R.X_POLL p = false) :=
  ⟨s.keptAlive p power, congrArg Host.Outcome.next ((if_pos (by simp [hhigh, hidle, hmode, hride])).trans
    (if_pos (by simp [hka, hen, hhost]))), keptAlive_shows hfit⟩

/-- The clause of O16 on PORT_SHORT. -/
theorem portShort_gives (hhigh : s.portHigh p = true) (hfew : s.get R.X_SHORTS p < 3) : Gives (exec (.portShort p) s) (fun t =>
    t.portState p = 5 ∧ t.get R.X_SHORTS p = s.get R.X_SHORTS p + 1) := by
  have hretries : s.get R.X_SHORTS p + 1 ≤ 3 := hfew
  refine ⟨_, congrArg Host.Outcome.next ((if_pos hhigh).trans (if_pos hretries)), ?_, ?_⟩
  · exact ((within_set.trans within_nodeEvent).portState (by decide +kernel) p).trans (portState_portDown_self (by decide))
  · exact (within_nodeEvent.get_at (by decide +kernel) p).trans (get_set_fit p (show _ < 4 by omega))

/-- The clause of O16 on PORT_RETRY_END. -/
theorem portRetryEnd_gives (hretry : s.portState p = 5) : Gives (exec (.portRetryEnd p) s) (fun t =>
    t.portState p = (if s.on R.AUX_STATUS_VAUX_REG ∧ (s.setPort p 0).portWanted p then 2 else 0)) := by
  have hoff : (s.setPort p 0).portState p = 0 := portState_setPort_self (by decide)
  refine ⟨_, congrArg Host.Outcome.next (if_pos hretry), ?_⟩
  beta_reduce
  rw [portState_portsFollow (by omega), hoff, within_setPort.on (by decide +kernel)]

/-- The clause of O16 on KEEP_ALIVE_OVERLOAD. -/
theorem keepAliveOverload_gives (hstate : s.portState p = 1) : Gives (exec (.keepAliveOverload p) s) (fun t =>
    t.portState p = 0 ∧ t.get R.X_KA_POWER p = 0 ∧ (p = 0 → t.bit R.LINE_FAULT_A_KA_OVLD 0) ∧ (p = 1 → t.bit R.LINE_FAULT_B_KA_OVLD
      0)) := by
  have hreports : within (Foot.latch (overloadReg p) ++ Foot.nodeEvent) (s.portOff p)
      (((s.portOff p).latch (overloadReg p)).nodeEvent 0x09 p 0 0xFF 0xFF 0) := within_latch.trans within_nodeEvent
  obtain ⟨hports, hpower⟩ := overloadReg_spares p
  have hbit := bit_overloadReg (s := s.portOff p) p
  refine ⟨_, congrArg Host.Outcome.next (if_pos hstate), ?_, (hreports.get_at hpower p).trans kaPower_portOff, ?_, ?_⟩
  · refine (hreports.portState hports p).trans ((portState_portDown_self (offState_lt _)).trans ?_)
    rw [hstate]
    rfl
  · rintro rfl
    exact hbit
  · rintro rfl
    exact hbit

/-- Settles O16: each clause is the lemma on its command. -/
theorem linePorts : Obligations.LinePorts := by
  refine ⟨?_, ?_, ?_, ?_, ?_, ?_, ?_⟩
  · intro s p hstate
    refine ⟨_, congrArg Host.Outcome.next (if_pos hstate), on_flag_self _ _ _ _ (by decide), ?_⟩
    exact (within_flag.portState (by decide +kernel) p).trans hstate
  · rintro s p ⟨hstate, hup, hboot⟩
    exact portBootWaitEnd_gives hstate hup hboot
  · rintro s p ⟨hstate, hup, hboot⟩
    exact portSettleEnd_gives hstate hup hboot
  · rintro s p power ⟨hhigh, hidle, hka, hen, hhost, hmode, hride, hfit⟩
    exact portToKeepAlive_gives hhigh hidle hka hen hhost hmode hride hfit
  · rintro s p ⟨hhigh, hfew⟩
    exact portShort_gives hhigh hfew
  · exact fun s p hretry => portRetryEnd_gives hretry
  · exact fun s p hstate => keepAliveOverload_gives hstate

end
end Sys2Proof.Machine
end

section
/-! PROOFS. Line cycles and frames (R46, R47, R271, R274, R284, R287, R290): the start of a cycle, replies, missed replies and retries. -/

-- One theorem at a time: each decision by the kernel waits for all declarations before it and holds a thread meanwhile.
set_option Elab.async false

namespace Sys2Proof.Machine

/-- Distinct powers of two below `2 ^ m` add up to less than `2 ^ m`. -/
theorem sum_two_pow_lt (c : Nat → Bool) (m : Nat) : (List.range m).foldl (fun a n => if c n then a + 2 ^ n else a) 0 < 2 ^ m := by
  induction m with
  | zero => exact Nat.one_pos
  | succ m ih =>
    rw [List.range_succ, List.foldl_append, List.foldl_cons, List.foldl_nil]
    split <;> omega

namespace State

variable {s t : State} {l : List Touch} {p n : Nat}

/-! ### What the operations on frames and slots change -/

theorem within_sendFrame : within Foot.sendFrame s (s.sendFrame p) := fun _ => Part.same_sendFrame Part.same_refl

theorem within_nextFrame : within Foot.nextFrame s (s.nextFrame p) := fun _ => Part.same_nextFrame Part.same_refl

theorem within_lineGoOn : within Foot.lineGoOn s (s.lineGoOn p) := fun _ => Part.same_lineGoOn Part.same_refl

theorem within_slotDone : within Foot.slotDone s (s.slotDone p n) := fun _ => Part.same_slotDone Part.same_refl

theorem within_setSlot {st : Nat} : within Foot.setSlot s (s.setSlot n st) := fun _ => Part.same_setSlot Part.same_refl

theorem within_slotEvent {ev detail : Nat} : within Foot.slotEvent s (s.slotEvent ev p n detail) := fun _ =>
  Part.same_slotEvent Part.same_refl

theorem within_learnAmp {amp : Nat} : within Foot.learnAmp s (s.learnAmp n amp) := fun _ => Part.same_learnAmp Part.same_refl

theorem within_slotHeard {status amp : Nat} : within Foot.slotHeard s (s.slotHeard p n status amp) := fun _ =>
  Part.same_slotHeard Part.same_refl

theorem within_engineReply {status sync : Nat} {payload : List Byte} :
    within Foot.engineReply s (s.engineReply n status payload sync) := fun _ => Part.same_engineReply Part.same_refl

/-! ### A cycle starts (R46, R284) -/

/-- DEFER shows whether the VAUX current is above the limit of R46. -/
def deferShown (s : State) : State := s.flag R.LINE_STATUS_DEFER (54 < s.get R.AUX_VAUX_I)

theorem within_deferShown : within [.reg R.LINE_STATUS_DEFER] s s.deferShown := within_flag

/-- What decides, beside the ports and the holds, whether a cycle may start. -/
def cycleRegs : List Reg := [R.X_FRAME, R.X_LINE_LEFT, R.X_RUN, R.X_ENUM, R.MODE_STATUS_RIDE_ACTIVE, R.CHG_STATUS_STATE, R.X_CHG_WAIT,
  R.BIST_STATUS_RUNNING, R.BIST_STATUS_PART, R.AUX_VAUX_I, R.LINE_CTRL_DISC_EN, R.MODE_STATUS_MODE]

theorem cycleAllowed_deferShown : s.deferShown.cycleAllowed p = s.cycleAllowed p := by
  have hget := (within_deferShown (s := s)).gets (rs := cycleRegs) (by decide +kernel)
  simp only [cycleRegs, List.forall_mem_cons, List.not_mem_nil, false_implies, implies_true, and_true] at hget
  obtain ⟨hframe, hleft, hrun, henum, hride, hchg, hwait, hrunning, hpart, hcurrent, hdisc, hmode⟩ := hget
  simp only [State.cycleAllowed, State.lineQuiet, State.pollsHeld, State.resting, State.chg, State.lineSliced, State.runDue, State.on,
    within_deferShown.portState (by decide +kernel), within_deferShown.holding (by decide +kernel), hframe, hleft, hrun, henum, hride, hchg,
    hwait, hrunning, hpart, hcurrent, hdisc, hmode]

theorem within.cycleTime (h : within l s t) (hoff : sparesRegs l [R.DEV_TIME] = true) : t.cycleTime = s.cycleTime := by
  rw [State.cycleTime, State.cycleTime, State.now, State.now, h.get_at hoff]

theorem slotPeriod_deferShown : s.deferShown.slotPeriod n = s.slotPeriod n := by
  unfold State.slotPeriod
  rw [within_deferShown.get_at (by decide +kernel), within_deferShown.on_at (by decide +kernel)]

theorem slotDue_deferShown : s.deferShown.slotDue n = s.slotDue n := by
  unfold State.slotDue
  rw [within_deferShown.on_at (by decide +kernel), within_deferShown.get_at (by decide +kernel), slotPeriod_deferShown,
    within_deferShown.cycleTime (by decide +kernel)]

theorem slotsDue_deferShown : s.deferShown.slotMask p s.deferShown.slotDue = s.slotMask p s.slotDue := by
  have hid (n : Nat) : s.deferShown.slotId n = s.slotId n := within_deferShown.get_at (by decide +kernel) n
  have hport (n : Nat) : s.deferShown.get R.LINE_SLOTs_STAT_PORT n = s.get R.LINE_SLOTs_STAT_PORT n :=
    within_deferShown.get_at (by decide +kernel) n
  have hstate (n : Nat) : s.deferShown.slotState n = s.slotState n := within_deferShown.get_at (by decide +kernel) n
  exact List.foldl_ext _ _ 0 fun m n _ => by rw [hid, hport, hstate, slotDue_deferShown]

theorem slotMask_lt (f : Nat → Bool) : s.slotMask p f < 2 ^ 64 := sum_two_pow_lt _ 64

theorem cycleTime_lt : s.cycleTime + 1 < 2 ^ 48 := by
  have hnow : s.now < 281474976710656 := get_lt s R.DEV_TIME 0
  simp only [State.cycleTime]
  omega

/-- The frame sent at the start of a cycle comes after what the cycle is. -/
theorem startCycle_shows : (s.startCycle p).get R.X_LINE_LEFT p = s.slotMask p s.slotDue ∧
    (s.startCycle p).get R.X_LINE_CYC p = s.cycleTime + 1 ∧ (s.startCycle p).on R.X_LINE_LATE p = false := by
  have hsync {c : Bool} : within Foot.syncTime s (s.iff c (fun t => t.syncTime p)) := within.iff within_refl within_syncTime
  unfold State.startCycle
  dsimp only
  rw [hsync.cycleTime (by decide +kernel)]
  refine ⟨?_, ?_, (within_nextFrame.on_at (by decide +kernel) p).trans (on_flag_self _ _ _ _ (by decide))⟩
  · exact ((within_flag.trans within_nextFrame).get_at (by decide +kernel) p).trans (get_set_fit p (slotMask_lt _))
  · exact (((within_set.trans within_flag).trans within_nextFrame).get_at (by decide +kernel) p).trans (get_set_fit p cycleTime_lt)

theorem within_startCycle : within Foot.startCycle s (s.startCycle p) := fun _ => Part.same_startCycle Part.same_refl

/-- A cycle that falls due under node periods starts, or waits. -/
theorem cycleDue_of_nodeMode (hmode : nodeMode (s.get R.MODE_STATUS_MODE) = true) : s.cycleDue p =
    if s.cycleAllowed p then s.deferShown.startCycle p else s.deferShown.flag R.X_LINE_LATE true p := by
  rw [← cycleAllowed_deferShown]
  unfold State.cycleDue
  dsimp only
  rw [hmode]
  exact if_neg (by simp)

/-! ### A valid reply (R271, R287) -/

/-- A slot that has answered, a LOST one still LOST. -/
def slotMarked (s : State) (n status amp : Nat) : State :=
  ((s.learnAmp n amp).set R.LINE_SLOTs_STAT_CLASS (status % 8) n).set R.X_SLOT_LAST (s.now % 2 ^ 32) n

/-- What a LOST slot that is FOUND changes. -/
def foundFoot : List Touch := [.reg R.LINE_SLOTs_STAT_MISSED] ++ Foot.setSlot ++ Foot.slotEvent

theorem within_found {status amp : Nat} : within foundFoot (s.slotMarked n status amp) (s.slotHeard p n status amp) :=
  within.ite ((within_set.trans within_setSlot).trans within_slotEvent) within_refl

theorem slotHeard_shows {status amp : Nat} : (s.slotHeard p n status amp).get R.LINE_SLOTs_STAT_CLASS n = status % 8 ∧
    (s.slotHeard p n status amp).get R.X_SLOT_LAST n = s.now % 2 ^ 32 := by
  refine ⟨?_, ?_⟩
  · exact ((within_set.trans within_found).get_at (by decide +kernel) n).trans (get_set_fit n (Nat.mod_lt _ (by decide)))
  · exact (within_found.get_at (by decide +kernel) n).trans (get_set_fit n (Nat.mod_lt _ (by decide)))

/-- A slot with no missed poll has none after a reply, FOUND or not. -/
theorem missed_slotHeard {status amp : Nat} (hnone : s.get R.LINE_SLOTs_STAT_MISSED n = 0) :
    (s.slotHeard p n status amp).get R.LINE_SLOTs_STAT_MISSED n = 0 := by
  have hmarked : (s.slotMarked n status amp).get R.LINE_SLOTs_STAT_MISSED n = 0 :=
    (((within_learnAmp.trans within_set).trans within_set).get_at (by decide +kernel) n).trans hnone
  unfold State.slotHeard
  dsimp only
  split
  · exact ((within_setSlot.trans within_slotEvent).get_at (by decide +kernel) n).trans (get_set_fit n (by decide))
  · exact hmarked

/-- A slot whose poll is answered, with no missed one (R287). -/
def pollAnswered (s : State) (n : Nat) : State := (s.set R.LINE_SLOTs_STAT_MISSED 0 n).set R.X_SLOT_MISSES 0 n

theorem within_pollAnswered : within ([.reg R.LINE_SLOTs_STAT_MISSED] ++ [.reg R.X_SLOT_MISSES]) s (s.pollAnswered n) :=
  within_set.trans within_set

/-- The data engine and the port after a reply to a POLL. -/
def replyTailFoot : List Touch := Foot.engineReply ++ Foot.slotDone

theorem within_replyTail {status sync : Nat} {payload : List Byte} :
    within replyTailFoot s ((s.engineReply n status payload sync).slotDone p n) := within_engineReply.trans within_slotDone

/-! ### A CONFIG is done (R290) -/

theorem cfg_configDone {ok : Bool} {detail : Nat} : (s.configDone p n ok detail).get R.X_SLOT_CFG n = 0 := by
  have hgoesOn {u : State} : within (Foot.slotDone ++ Foot.lineGoOn) u (if u.slotState n = 3 then u.slotDone p n else u.lineGoOn p) :=
    within.ite within_slotDone.left within_lineGoOn.right
  exact ((within_slotEvent.trans hgoesOn).get_at (by decide +kernel) n).trans (get_set_fit n (by decide))

end State

section
variable {s : State} {p : Fin 2}
open State

/-! ### The clauses of O17 -/

/-- The clause of O17 on LINE_CYCLE_START. -/
theorem lineCycleStart_gives (hactive : s.portState p = 4) (hmode : nodeMode (s.get R.MODE_STATUS_MODE) = true) :
    Gives (exec (.lineCycleStart p) s) (fun t =>
      t.on R.LINE_STATUS_DEFER = decide (54 < s.get R.AUX_VAUX_I) ∧ t.on R.X_LINE_LATE p = !s.cycleAllowed p ∧ (s.cycleAllowed p →
        t.get R.X_LINE_LEFT p = s.slotMask p s.slotDue ∧ t.get R.X_LINE_CYC p = s.cycleTime + 1)) := by
  have hdefer : s.deferShown.on R.LINE_STATUS_DEFER = decide (54 < s.get R.AUX_VAUX_I) := on_flag_self _ _ _ _ (by decide)
  refine ⟨_, congrArg Host.Outcome.next ((if_pos ⟨hactive, hmode⟩).trans (cycleDue_of_nodeMode hmode)), ?_⟩
  beta_reduce
  cases hallowed : s.cycleAllowed p with
  | true =>
    obtain ⟨hleft, hcyc, hlate⟩ := startCycle_shows (s := s.deferShown) (p := p)
    rw [slotsDue_deferShown] at hleft
    rw [within_deferShown.cycleTime (by decide +kernel)] at hcyc
    exact ⟨(within_startCycle.on (by decide +kernel)).trans hdefer, hlate, fun _ => ⟨hleft, hcyc⟩⟩
  | false =>
    exact ⟨(within_flag.on (by decide +kernel)).trans hdefer, on_flag_self _ _ _ _ (by decide), fun h => absurd h (by decide)⟩

/-- The clause of O17 on POLL_REPLY. -/
theorem pollReply_gives {status : Fin 256} {payload : List Byte} {sync amp : Nat} (hnext : s.nextSlot p ≠ none)
    (hframe : s.get R.X_FRAME p = 1) (htry : s.get R.X_TRY p = 0) : Gives (exec (.pollReply p status payload sync amp) s) (fun t =>
      ∀ n : Fin 64, s.nextSlot p = some n.val → t.get R.LINE_SLOTs_STAT_CLASS n = status.val % 8 ∧ t.get R.LINE_SLOTs_STAT_MISSED n
        = 0 ∧ t.get R.X_SLOT_MISSES n = 0 ∧ t.get R.X_SLOT_LAST n = s.now % 2 ^ 32) := by
  obtain ⟨m, hm⟩ := Option.ne_none_iff_exists'.1 hnext
  have hexec : exec (.pollReply p status payload sync amp) s =
      .next (((((s.pollAnswered m).slotHeard p m status amp).engineReply m status payload sync).slotDone p m)) := by
    change execPollReply p status payload sync amp s = _
    unfold execPollReply
    simp only [hm, hframe, htry]
    rfl
  refine ⟨_, hexec, fun n hn => ?_⟩
  obtain rfl : m = n.val := Option.some.inj (hm.symm.trans hn)
  obtain ⟨hclass, hlast⟩ := slotHeard_shows (s := s.pollAnswered n) (p := p) (n := n) (status := status) (amp := amp)
  have hmissed : (s.pollAnswered n).get R.LINE_SLOTs_STAT_MISSED n = 0 :=
    (within_set.get_at (by decide +kernel) n).trans (get_set_fit n (by decide))
  refine ⟨(within_replyTail.get_at (by decide +kernel) n).trans hclass,
    (within_replyTail.get_at (by decide +kernel) n).trans (missed_slotHeard hmissed), ?_, ?_⟩
  · exact ((within_slotHeard.trans within_replyTail).get_at (by decide +kernel) n).trans (get_set_fit n (by decide))
  · refine ((within_replyTail.get_at (by decide +kernel) n).trans hlast).trans ?_
    rw [State.now, within_pollAnswered.get (by decide +kernel)]
    rfl

/-- The clause of O17 on REPLY_TIMEOUT. -/
theorem replyTimeout_gives (hframe : s.get R.X_FRAME p ≠ 0) (htry : s.get R.X_TRY p = 0) : Gives (exec (.replyTimeout p) s) (fun t =>
    t.get R.X_TRY p = 1 ∧ t.get R.LINE_x_ERR p = min (s.get R.LINE_x_ERR p + 1) R.LINE_x_ERR.top) :=
  ⟨_, congrArg Host.Outcome.next ((if_neg (by simp [hframe, htry])).trans (if_pos htry)), get_set_fit p (by decide),
    (within_set.get_at (by decide +kernel) p).trans (get_add_self ..)⟩

/-- The clause of O17 on FRAME_RETRY. -/
theorem frameRetry_gives (hframe : s.get R.X_FRAME p ≠ 0) (htry : s.get R.X_TRY p = 1) : Gives (exec (.frameRetry p) s) (fun t =>
    t.get R.X_TRY p = 2 ∧ t.get R.X_FRAME p = s.get R.X_FRAME p ∧ ∀ n : Fin 64, t.get R.X_SLOT_SEQ n = s.get R.X_SLOT_SEQ n) :=
  ⟨_, congrArg Host.Outcome.next (if_pos ⟨hframe, htry⟩),
    (within_sendFrame.get_at (by decide +kernel) p).trans (get_set_fit p (by decide)),
    (within_set.trans within_sendFrame).get_at (by decide +kernel) p,
    fun n => (within_set.trans within_sendFrame).get_at (by decide +kernel) n⟩

/-- The clause of O17 on CONFIG_REPLY. -/
theorem configReply_gives {status : Fin 256} {amp : Nat} (hnext : s.nextSlot p ≠ none) (hframe : s.get R.X_FRAME p = 2)
    (htry : s.get R.X_TRY p = 0) : Gives (exec (.configReply p status amp) s) (fun t =>
      ∀ n : Fin 64, s.nextSlot p = some n.val → t.get R.X_SLOT_CFG n = 0) := by
  obtain ⟨m, hm⟩ := Option.ne_none_iff_exists'.1 hnext
  have hexec : exec (.configReply p status amp) s = .next ((s.slotHeard p m status amp).configDone p m (status.val.testBit 5)
      (s.get R.X_SLOT_CFG m / 65536 % 256)) := by
    change execConfigReply p status amp s = _
    unfold execConfigReply
    simp only [hm, hframe, htry]
    rfl
  refine ⟨_, hexec, fun n hn => ?_⟩
  obtain rfl : m = n.val := Option.some.inj (hm.symm.trans hn)
  exact cfg_configDone

/-- Settles O17: each clause is the lemma on its command. -/
theorem lineFrames : Obligations.LineFrames := by
  refine ⟨?_, ?_, ?_, ?_, ?_⟩
  · rintro s p ⟨hactive, hmode⟩
    exact lineCycleStart_gives hactive hmode
  · rintro s p status payload sync amp ⟨hnext, hframe, htry⟩
    exact pollReply_gives hnext hframe htry
  · rintro s p ⟨hframe, htry⟩
    exact replyTimeout_gives hframe htry
  · rintro s p ⟨hframe, htry⟩
    exact frameRetry_gives hframe htry
  · rintro s p status amp ⟨hnext, hframe, htry⟩
    exact configReply_gives hnext hframe htry

end
end Sys2Proof.Machine
end

section
/-! PROOFS. Enumeration runs and slots (R275, R277 to R281, R287, R379): the start of a run, an IDWALK that finds the node of slot 0, an
ASSIGN that is answered, and the enable of a slot. -/

-- One theorem at a time: each decision by the kernel waits for all declarations before it and holds a thread meanwhile.
set_option Elab.async false

namespace Sys2Proof.Machine
namespace State

variable {s t : State} {l : List Touch} {p n : Nat}

/-! ### What the operations of a run change -/

theorem within_lineResume : within Foot.lineResume s (s.lineResume p) := fun _ => Part.same_lineResume Part.same_refl

theorem within_sendWalk {start : Nat} : within Foot.sendWalk s (s.sendWalk p start) := fun _ => Part.same_sendWalk Part.same_refl

theorem within_runStep : within Foot.runStep s (s.runStep p) := fun _ => Part.same_runStep Part.same_refl

theorem within_slotCommand {cmd : Nat} : within Foot.slotCommand s (s.slotCommand p n cmd) := fun _ =>
  Part.same_slotCommand Part.same_refl

theorem within_engineRelease : within Foot.engineRelease s (s.engineRelease n) := fun _ => Part.same_engineRelease Part.same_refl

/-! ### A run starts (R278, R281) -/

/-- The failures of the IDs of a port are forgotten. -/
def failsForgotten (s : State) (p : Nat) : State :=
  s.each 80 (fun k t => (t.set R.X_FAIL_ID 0 (80 * p + k)).set R.X_FAIL_N 0 (80 * p + k))

/-- The run that was due is in progress. -/
def runBegun (s : State) (p : Nat) : State :=
  (((((s.failsForgotten p).set R.X_RUN (s.get R.X_ENUM p) p).set R.X_ENUM 0 p).set R.X_WALKS 0 p).set R.X_DISC_AT s.now p).sendWalk p
    (s.get R.X_ENUM p - 1)

theorem runBegun_shows : (s.runBegun p).get R.X_ENUM p = 0 ∧ (s.runBegun p).get R.X_RUN p = s.get R.X_ENUM p ∧
    (s.runBegun p).get R.X_WALKS p = 0 := by
  have hsent {u : State} : within ([.reg R.X_DISC_AT] ++ Foot.sendWalk) u
      ((u.set R.X_DISC_AT s.now p).sendWalk p (s.get R.X_ENUM p - 1)) := within_set.trans within_sendWalk
  refine ⟨?_, ?_, ?_⟩
  · exact ((within_set.trans hsent).get_at (by decide +kernel) p).trans (get_set_fit p (by decide))
  · exact (((within_set.trans within_set).trans hsent).get_at (by decide +kernel) p).trans (get_set_fit p (get_lt s R.X_ENUM p))
  · exact (hsent.get_at (by decide +kernel) p).trans (get_set_fit p (by decide))

/-! ### An ASSIGN goes out (R278, R279) -/

/-- A node that holds the lowest slot is allocated it again. -/
theorem slotAllocate_first {id : Nat} (h : s.slotId 0 = id) : s.slotAllocate id = some (0, 1) := by
  have hfound : (List.range 64).find? (fun n => s.slotId n == id) = some 0 := by
    rw [List.range_succ_eq_map, List.find?_cons_of_pos (by simp [h])]
  simp only [State.slotAllocate, hfound]

theorem sendAssign_shows {id slot how : Nat} (hid : id < 2 ^ 48) (hslot : slot < 64) (hhow : how < 4) :
    (s.sendAssign p id slot how).get R.X_FRAME p = 3 ∧ (s.sendAssign p id slot how).get R.X_WALK_ID p = id ∧
    (s.sendAssign p id slot how).get R.X_WALK_SLOT p = slot ∧ (s.sendAssign p id slot how).get R.X_WALK_HOW p = how := by
  have hsent {u : State} : within ([.reg R.X_TRY] ++ ([.reg R.X_SLOT_SEQ] ++ Foot.sendFrame)) u
      (((u.set R.X_TRY 0 p).iff (how == 1) (fun t => t.set R.X_SLOT_SEQ 0 slot)).sendFrame p) :=
    within_set.trans ((within.iff within_refl within_set).trans within_sendFrame)
  refine ⟨?_, ?_, ?_, ?_⟩
  · exact (hsent.get_at (by decide +kernel) p).trans (get_set_fit p (by decide))
  · exact ((((within_set.trans within_set).trans within_set).trans hsent).get_at (by decide +kernel) p).trans (get_set_fit p hid)
  · exact (((within_set.trans within_set).trans hsent).get_at (by decide +kernel) p).trans (get_set_fit p hslot)
  · exact ((within_set.trans hsent).get_at (by decide +kernel) p).trans (get_set_fit p hhow)

/-! ### An ASSIGN is answered (R275, R279, R287) -/

/-- A node has taken its slot by an ASSIGN under rule `how` of R279, the state of the slot still as it was. -/
def slotEntered (s : State) (p n how status fmt mask : Nat) : State :=
  let s1 := ((s.engineRelease n).set R.X_SLOT_ID (s.get R.X_WALK_ID p) n).flag R.LINE_SLOTs_STAT_BOUND (how == 2) n
  let s2 := ((s1.set R.LINE_SLOTs_STAT_PORT p n).set R.LINE_SLOTs_STAT_CLASS (status % 8) n).set R.LINE_SLOTs_STAT_MISSED 0 n
  let s3 := (((s2.set R.X_SLOT_FMT fmt n).set R.X_SLOT_MASK mask n).set R.X_SLOT_MISSES 0 n).set R.X_SLOT_SEQ 0 n
  ((s3.flag R.X_SLOT_AMP_OK false n).flag R.X_SLOT_POLLED false n).set R.X_SLOT_LAST (s.now % 2 ^ 32) n

/-- What the table then holds of the node. -/
def entryWords (s : State) (p how status fmt mask : Nat) : List (Reg × Nat) :=
  [(R.X_SLOT_ID, s.get R.X_WALK_ID p), (R.LINE_SLOTs_STAT_BOUND, (how == 2).toNat), (R.LINE_SLOTs_STAT_PORT, p),
    (R.LINE_SLOTs_STAT_CLASS, status % 8), (R.LINE_SLOTs_STAT_MISSED, 0), (R.X_SLOT_FMT, fmt), (R.X_SLOT_MASK, mask),
    (R.X_SLOT_MISSES, 0), (R.X_SLOT_SEQ, 0), (R.X_SLOT_AMP_OK, 0), (R.X_SLOT_POLLED, 0), (R.X_SLOT_LAST, s.now % 2 ^ 32)]

/-- The fields of a table entry. -/
def entryRegs : List Reg :=
  [R.X_SLOT_ID, R.LINE_SLOTs_STAT_BOUND, R.LINE_SLOTs_STAT_PORT, R.LINE_SLOTs_STAT_CLASS, R.LINE_SLOTs_STAT_MISSED, R.X_SLOT_FMT,
    R.X_SLOT_MASK, R.X_SLOT_MISSES, R.X_SLOT_SEQ, R.X_SLOT_AMP_OK, R.X_SLOT_POLLED, R.X_SLOT_LAST]

theorem slotEntered_eq_setAll {how status fmt mask : Nat} :
    s.slotEntered p n how status fmt mask = (s.engineRelease n).setAll n (s.entryWords p how status fmt mask) := rfl

theorem apart_entryRegs : ∀ n : Fin 64, apartAt n entryRegs := by
  unfold apartAt
  decide +kernel

theorem get_slotEntered {how status fmt mask v : Nat} {r : Reg} (n : Fin 64) (hm : (r, v) ∈ s.entryWords p how status fmt mask)
    (hfit : v < 2 ^ r.width) : (s.slotEntered p n how status fmt mask).get r n = v :=
  (get_setAll (apart_entryRegs n) hm).trans (Nat.mod_eq_of_lt hfit)

theorem within_setAll {i : Nat} {ws : List (Reg × Nat)} : within ((ws.map Prod.fst).map Touch.reg) s (s.setAll i ws) := by
  induction ws generalizing s with
  | nil => exact within_refl
  | cons w ws ih => exact within_set.trans ih

theorem within_slotEntered {how status fmt mask : Nat} :
    within (Foot.engineRelease ++ entryRegs.map Touch.reg) s (s.slotEntered p n how status fmt mask) := by
  rw [slotEntered_eq_setAll]
  exact within_engineRelease.trans (within_setAll (ws := s.entryWords p how status fmt mask))

theorem within_slotsFollow : within Foot.slotsFollow s s.slotsFollow := fun _ => Part.same_slotsFollow Part.same_refl

theorem slotState_setSlot {st : Nat} (hfit : st < 4) : (s.setSlot n st).slotState n = st :=
  (within_slotsFollow.get_at (by decide +kernel) n).trans (get_set_fit n hfit)

/-- A slot that is in the table takes its state by its enable: one that is not enabled is sent SLEEP (R287). -/
def slotJoined (s : State) (p n : Nat) : State :=
  if s.on R.LINE_SLOTs_CFG_EN n then s.setSlot n 1 else (s.setSlot n 3).slotCommand p n 4

theorem within_slotJoined : within (Foot.setSlot ++ Foot.slotCommand) s (s.slotJoined p n) :=
  within.ite within_setSlot.left (within_setSlot.trans within_slotCommand)

theorem slotState_slotJoined : (s.slotJoined p n).slotState n = if s.on R.LINE_SLOTs_CFG_EN n then 1 else 3 := by
  unfold slotJoined
  split
  · exact slotState_setSlot (by decide)
  · exact (within_slotCommand.get_at (by decide +kernel) n).trans (slotState_setSlot (by decide))

/-- What the records of an ASSIGN and the next step of its run change. -/
def joinedTailFoot : List Touch := Foot.slotEvent ++ Foot.slotEvent ++ Foot.runStep

theorem within_joinedTail {c : Bool} {how : Nat} : within joinedTailFoot s
    (((s.iff c (fun t => t.slotEvent 0x03 p n 0)).slotEvent 0x01 p n how).runStep p) :=
  ((within.iff within_refl within_slotEvent).trans within_slotEvent).trans within_runStep

/-- A slot after the answer to the ASSIGN of an ID that the table did not hold. -/
def slotAssigned (s : State) (p n how status fmt mask : Nat) : State :=
  ((((s.slotEntered p n how status fmt mask).slotJoined p n).iff (how == 1 && s.slotState n == 2)
    (fun t => t.slotEvent 0x03 p n 0)).slotEvent 0x01 p n how).runStep p

theorem exec_assignReply {p : Fin 2} {status fmt mask : Fin 256} (hframe : s.get R.X_FRAME p = 3) (htry : s.get R.X_TRY p ≠ 1)
    (hhow : s.get R.X_WALK_HOW p ≠ 1) : exec (.assignReply p status fmt mask) s =
      .next (s.slotAssigned p (s.get R.X_WALK_SLOT p) (s.get R.X_WALK_HOW p) status fmt mask) := by
  change execAssignReply p status fmt mask s = _
  unfold execAssignReply
  dsimp only
  rw [if_pos ⟨hframe, htry⟩, if_neg (fun h => hhow h.1), if_neg hhow]
  rfl

/-! ### The enable of a slot (R275, R287) -/

/-- What the enable of a slot changes after the state of the slot. -/
def enableTailFoot : List Touch := [.reg R.X_LINE_LEFT] ++ Foot.slotCommand ++ [.reg R.X_SLOT_SEQ]

/-- A slot that is held and whose enable changes takes its state before SLEEP or WAKE goes out. -/
theorem within_enableTail {b : Bool} (hheld : s.slotId n ≠ 0) (hnew : s.on R.LINE_SLOTs_CFG_EN n = !b) :
    within enableTailFoot ((s.flag R.LINE_SLOTs_CFG_EN b n).setSlot n (if b then 1 else 3)) (s.slotEnable n b) := by
  have hchanges : ¬ (s.on R.LINE_SLOTs_CFG_EN n = b ∨ s.slotId n = 0) := by simp [hnew, hheld]
  unfold State.slotEnable
  dsimp only
  rw [if_neg hchanges]
  cases b with
  | true => exact within_slotCommand.right.trans within_set
  | false => exact ((within.iff within_refl within_setBit).trans within_slotCommand).left

theorem slotEnable_shows {b : Bool} (hheld : s.slotId n ≠ 0) (hnew : s.on R.LINE_SLOTs_CFG_EN n = !b) :
    (s.slotEnable n b).on R.LINE_SLOTs_CFG_EN n = b ∧ (s.slotEnable n b).slotState n = if b then 1 else 3 := by
  have htail := within_enableTail hheld hnew
  refine ⟨?_, ?_⟩
  · exact ((within_setSlot.trans htail).on_at (by decide +kernel) n).trans (on_flag_self _ _ _ _ (by decide))
  · exact (htail.get_at (by decide +kernel) n).trans (slotState_setSlot (by split <;> decide))

theorem within_slotEnable {b : Bool} : within Foot.slotEnable s (s.slotEnable n b) := fun _ => Part.same_slotEnable Part.same_refl

end State

section
variable {s : State} {p : Fin 2}
open State

/-! ### The clauses of O18 -/

/-- The clause of O18 on ENUMERATION_RUN_START. -/
theorem enumerationRunStart_gives (hup : s.portState p = 3 ∨ s.portState p = 4) (hquiet : s.lineQuiet p = true)
    (hfree : s.lineSliced = false) : Gives (exec (.enumerationRunStart p) s) (fun t =>
      t.get R.X_ENUM p = 0 ∧ (if s.runDue p then t.get R.X_RUN p = s.get R.X_ENUM p ∧ t.get R.X_WALKS p = 0 else t.get R.X_RUN p =
        s.get R.X_RUN p)) := by
  refine ⟨if s.runDue p then s.runBegun p else (s.set R.X_ENUM 0 p).lineResume p,
    congrArg Host.Outcome.next (if_pos ⟨hup, hquiet, by simp [hfree]⟩), ?_⟩
  beta_reduce
  by_cases hdue : s.runDue p = true
  · rw [if_pos hdue, if_pos hdue]
    exact runBegun_shows
  · rw [if_neg hdue, if_neg hdue]
    exact ⟨(within_lineResume.get_at (by decide +kernel) p).trans (get_set_fit p (by decide)),
      (within_set.trans within_lineResume).get_at (by decide +kernel) p⟩

/-- The clause of O18 on IDWALK_COMPLETE. -/
theorem idwalkComplete_gives {id : Nat} (hrun : s.get R.X_RUN p ≠ 0) (hframe : s.get R.X_FRAME p = 0) (hholds : s.slotId 0 = id)
    (hpos : 0 < id) (hlt : id < 2 ^ 48 - 1) : Gives (exec (.idwalkComplete p true id) s) (fun t =>
      t.get R.X_FRAME p = 3 ∧ t.get R.X_WALK_ID p = id ∧ t.get R.X_WALK_SLOT p = 0 ∧ t.get R.X_WALK_HOW p = 1) := by
  have hid : id % 2 ^ 48 = id := Nat.mod_eq_of_lt (by omega)
  have hslot : (s.set R.X_WALKS (s.get R.X_WALKS p + 1) p).slotAllocate id = some (0, 1) :=
    slotAllocate_first ((within_set.get (by decide +kernel)).trans hholds)
  have hexec : exec (.idwalkComplete p true id) s = .next ((s.set R.X_WALKS (s.get R.X_WALKS p + 1) p).sendAssign p id 0 1) := by
    change execIdwalkComplete p true id s = _
    unfold execIdwalkComplete
    dsimp only
    rw [if_neg (by simp [hrun, hframe]), if_neg (by decide), hid, if_neg (by omega)]
    simp only [hslot]
  exact ⟨_, hexec, sendAssign_shows (by omega) (by decide) (by decide)⟩

/-- The clause of O18 on ASSIGN_REPLY. -/
theorem assignReply_gives {status fmt mask : Fin 256} (hframe : s.get R.X_FRAME p = 3) (htry : s.get R.X_TRY p = 0)
    (hhow : s.get R.X_WALK_HOW p = 3) : Gives (exec (.assignReply p status fmt mask) s) (fun t =>
      ∀ n : Fin 64, s.get R.X_WALK_SLOT p = n.val → t.slotId n = s.get R.X_WALK_ID p ∧ t.slotState n = (if s.on R.LINE_SLOTs_CFG_EN n
        then 1 else 3) ∧ t.get R.LINE_SLOTs_STAT_PORT n = p ∧ t.get R.LINE_SLOTs_STAT_CLASS n = status.val % 8 ∧ t.get R.X_SLOT_FMT n
        = fmt ∧ t.get R.X_SLOT_MASK n = mask) := by
  refine ⟨_, exec_assignReply hframe (by omega) (by omega), fun n hn => ?_⟩
  rw [hn]
  have hentry : within (Foot.setSlot ++ Foot.slotCommand ++ joinedTailFoot)
      (s.slotEntered p n (s.get R.X_WALK_HOW p) status fmt mask) (s.slotAssigned p n (s.get R.X_WALK_HOW p) status fmt mask) :=
    within_slotJoined.trans within_joinedTail
  have hshows {r : Reg} {v : Nat} (hoff : sparesRegs (Foot.setSlot ++ Foot.slotCommand ++ joinedTailFoot) [r] = true)
      (hm : (r, v) ∈ s.entryWords p (s.get R.X_WALK_HOW p) status fmt mask) (hfit : v < 2 ^ r.width) :
      (s.slotAssigned p n (s.get R.X_WALK_HOW p) status fmt mask).get r n = v :=
    (hentry.get_at hoff n).trans (get_slotEntered n hm hfit)
  refine ⟨hshows (by decide +kernel) (by simp [entryWords]) (get_lt s R.X_WALK_ID p), ?_,
    hshows (by decide +kernel) (by simp [entryWords]) p.isLt,
    hshows (by decide +kernel) (by simp [entryWords]) (Nat.mod_lt _ (by decide)),
    hshows (by decide +kernel) (by simp [entryWords]) fmt.isLt, hshows (by decide +kernel) (by simp [entryWords]) mask.isLt⟩
  refine (within_joinedTail.get_at (by decide +kernel) n).trans (slotState_slotJoined.trans ?_)
  rw [within_slotEntered.on_at (by decide +kernel)]

/-- The clause of O18 on DISCOVERY_DUE. -/
theorem discoveryDue_gives (hdisc : s.on R.LINE_CTRL_DISC_EN = true) (hactive : s.portState p = 4)
    (hmode : nodeMode (s.get R.MODE_STATUS_MODE) = true) : Gives (exec (.discoveryDue p) s) (fun t =>
      t.get R.X_ENUM p = max (s.get R.X_ENUM p) 1) := by
  have henum : s.get R.X_ENUM p < 4 := get_lt s R.X_ENUM p
  exact ⟨_, congrArg Host.Outcome.next (if_pos ⟨hdisc, hactive, hmode⟩), get_set_fit p (show _ < 4 by omega)⟩

/-- The clause of O18 on SLOT_ENABLE_WRITE. -/
theorem slotEnableWrite_gives {n : Fin 64} {b : Bool} (hheld : s.slotId n ≠ 0) (hnew : s.on R.LINE_SLOTs_CFG_EN n = !b) :
    Gives (exec (.slotEnableWrite n b) s) (fun t =>
      t.on R.LINE_SLOTs_CFG_EN n = b ∧ t.slotState n = (if b then 1 else 3) ∧ t.on R.DEV_CFG_DIRTY) := by
  have hdirty : within [.reg R.DEV_CFG_DIRTY] s (s.flag R.DEV_CFG_DIRTY true) := within_flag
  obtain ⟨hen, hstate⟩ := slotEnable_shows (s := s.flag R.DEV_CFG_DIRTY true) (n := n) (b := b)
    (fun h => hheld ((hdirty.get_at (by decide +kernel) n).symm.trans h)) ((hdirty.on_at (by decide +kernel) n).trans hnew)
  exact ⟨_, rfl, hen, hstate, (within_slotEnable.on (by decide +kernel)).trans (on_flag_self _ _ _ _ (by decide))⟩

/-- Settles O18: each clause is the lemma on its command. -/
theorem lineEnumeration : Obligations.LineEnumeration := by
  refine ⟨?_, ?_, ?_, ?_, ?_⟩
  · rintro s p ⟨hup, hquiet, hfree, -⟩
    exact enumerationRunStart_gives hup hquiet hfree
  · rintro s p seen id ⟨hrun, hframe, hholds, hpos, hlt, rfl⟩
    exact idwalkComplete_gives hrun hframe hholds hpos hlt
  · rintro s p status fmt mask ⟨hframe, htry, hhow⟩
    exact assignReply_gives hframe htry hhow
  · rintro s p ⟨hdisc, hactive, hmode⟩
    exact discoveryDue_gives hdisc hactive hmode
  · rintro s n b ⟨hheld, hnew⟩
    exact slotEnableWrite_gives hheld hnew

end
end Sys2Proof.Machine
end

section
/-! PROOFS. LINE_CONTROL and NODE_INFO (R279, R281, R290, R291, R300): ports switched on and off by the host, a slot that is released with
its trackers, a CONFIG that is queued. -/

-- One theorem at a time: each decision by the kernel waits for all declarations before it and holds a thread meanwhile.
set_option Elab.async false

namespace Sys2Proof.Machine
namespace State

variable {s t : State} {l : List Touch}

/-! ### The host-off bits (R290, R293) -/

/-- The host-off bits of the ports. -/
def hostRegs : List Reg := [R.LINE_STATUS_A_HOST_OFF, R.LINE_STATUS_B_HOST_OFF]

theorem within.hostOff (h : within l s t) (hoff : sparesRegs l hostRegs = true) (p : Nat) : t.hostOff p = s.hostOff p := by
  have hget := h.gets hoff
  rw [State.hostOff, State.hostOff, State.on, State.on, State.on, State.on, hget _ (by simp [hostRegs]), hget _ (by simp [hostRegs])]

theorem within_setHostOff {p : Nat} {b : Bool} : within Foot.setHostOff s (s.setHostOff p b) := fun _ =>
  Part.same_setHostOff Part.same_refl

theorem hostOff_setHostOff_self {p : Fin 2} {b : Bool} : (s.setHostOff p b).hostOff p = b := by
  unfold State.setHostOff State.hostOff
  split
  · exact on_flag_self _ _ _ _ (by decide)
  · exact on_flag_self _ _ _ _ (by decide)

theorem hostOff_setHostOff_other {p q : Fin 2} {b : Bool} (hne : q ≠ p) : (s.setHostOff q b).hostOff p = s.hostOff p := by
  unfold State.setHostOff State.hostOff
  fin_cases p <;> fin_cases q
  · exact absurd rfl hne
  · exact within_flag.on (by decide +kernel)
  · exact within_flag.on (by decide +kernel)
  · exact absurd rfl hne

/-! ### PORT_ON (R290) -/

/-- A port that the host switches on: LATCHED and host-off end. -/
def portFreed (s : State) (p : Nat) : State :=
  let u := s.setHostOff p false
  if u.portState p = 6 then (u.setPort p 0).set R.X_SHORTS 0 p else u

theorem within_portFreed {p : Nat} : within (Foot.setPort ++ [.reg R.X_SHORTS]) (s.setHostOff p false) (s.portFreed p) :=
  within.ite (within_setPort.trans within_set) within_refl

theorem hostOff_portFreed_self {p : Fin 2} : (s.portFreed p).hostOff p = false :=
  (within_portFreed.hostOff (by decide +kernel) p).trans hostOff_setHostOff_self

theorem hostOff_portFreed_other {p q : Fin 2} (hne : q ≠ p) : (s.portFreed q).hostOff p = s.hostOff p :=
  (within_portFreed.hostOff (by decide +kernel) p).trans (hostOff_setHostOff_other hne)

/-- A property of one port that its turn brings about, and the other port's turn keeps, holds of a port that the mask names. -/
theorem onPorts_reaches {I Q : State → Prop} {p : Fin 2} {mask : Nat} {f : Nat → State → State} (hp : mask.testBit p = true) (hs : I s)
    (hbefore : ∀ q : Fin 2, ∀ t, q ≠ p → I t → I (f q t)) (hturn : ∀ t, I t → Q (f p t))
    (hafter : ∀ q : Fin 2, ∀ t, q ≠ p → Q t → Q (f q t)) : Q (s.onPorts mask f) := by
  refine each_reaches p.isLt hs (fun q t hq hne ht => ?_) (fun t ht => ?_) fun q t hq hne ht => ?_
  · split
    · exact hbefore ⟨q, hq⟩ t (fun h => hne (congrArg Fin.val h)) ht
    · exact ht
  · rw [if_pos hp]
    exact hturn t ht
  · split
    · exact hafter ⟨q, hq⟩ t (fun h => hne (congrArg Fin.val h)) ht
    · exact ht

theorem hostOff_linePortOn {p : Fin 2} {mask : Nat} (hp : mask.testBit p = true) : (s.linePortOn mask).hostOff p = false := by
  have hfreed : (s.onPorts mask fun p t => t.portFreed p).hostOff p = false :=
    onPorts_reaches (I := fun _ => True) (Q := fun t => t.hostOff p = false) hp trivial (fun _ _ _ _ => trivial)
      (fun _ _ => hostOff_portFreed_self) fun _ _ hne ht => (hostOff_portFreed_other hne).trans ht
  exact (within_portsFollow.hostOff (by decide +kernel) p).trans hfreed

/-! ### PORT_OFF (R290) -/

/-- A port that the host switches off. -/
def portStopped (s : State) (p : Nat) : State := ((s.setHostOff p true).setBit R.X_POLL p false).portOff p

theorem within_portOff {p : Nat} : within Foot.portOff s (s.portOff p) := fun _ => Part.same_portOff Part.same_refl

/-- What the host is told of a port that it has switched off, from its state before. -/
def stoppedFrom (s : State) (p : Nat) (t : State) : Prop :=
  t.hostOff p = true ∧ t.portState p = offState (s.portState p) ∧ t.bit R.X_POLL p = false

theorem stoppedFrom_self {p : Fin 2} (hkept : t.portState p = s.portState p) : s.stoppedFrom p (t.portStopped p) := by
  refine ⟨?_, ?_, (within_portOff.bit (by decide +kernel)).trans (bit_setBit_self false 0 p.isLt)⟩
  · exact ((within_setBit.trans within_portOff).hostOff (by decide +kernel) p).trans hostOff_setHostOff_self
  · refine (portState_portDown_self (offState_lt _)).trans ?_
    rw [(within_setHostOff.trans within_setBit).portState (by decide +kernel), hkept]

theorem portState_portStopped_other {p q : Fin 2} (hne : q ≠ p) : (s.portStopped q).portState p = s.portState p :=
  (portState_portDown_other hne).trans ((within_setHostOff.trans within_setBit).portState (by decide +kernel) p)

theorem stoppedFrom_other {p q : Fin 2} (hne : q ≠ p) (h : s.stoppedFrom p t) : s.stoppedFrom p (t.portStopped q) := by
  obtain ⟨hhost, hstate, hpoll⟩ := h
  refine ⟨?_, (portState_portStopped_other hne).trans hstate, ?_⟩
  · exact ((within_setBit.trans within_portOff).hostOff (by decide +kernel) p).trans ((hostOff_setHostOff_other hne).trans hhost)
  · refine (within_portOff.bit (by decide +kernel)).trans (bit_setBit_false ?_)
    exact (within_setHostOff.bit (by decide +kernel)).trans hpoll

theorem stoppedFrom_linePortOff {p : Fin 2} {mask : Nat} (hp : mask.testBit p = true) : s.stoppedFrom p (s.linePortOff mask) :=
  onPorts_reaches (I := fun t => t.portState p = s.portState p) hp rfl
    (fun _ _ hne ht => (portState_portStopped_other hne).trans ht) (fun _ => stoppedFrom_self) fun _ _ => stoppedFrom_other

/-! ### ENUMERATE (R281) -/

theorem enum_lineEnumerate {p : Fin 2} {mask : Nat} (hp : mask.testBit p = true) : (s.lineEnumerate mask).get R.X_ENUM p = 2 := by
  refine onPorts_reaches (I := fun _ => True) (Q := fun t => t.get R.X_ENUM p = 2) hp trivial (fun _ _ _ _ => trivial)
    (fun _ _ => get_set_fit p (by decide)) fun q t hne ht => (get_set_ne 2 (key_ne (by decide) ?_)).trans ht
  change p.val % 2 ≠ q.val % 2
  omega

/-! ### Fields cleared one after another -/

theorem get_clears_ne {ws : List Reg} {r : Reg} {i j : Nat} (h : ∀ q ∈ ws, r.key i ≠ q.key j) :
    (ws.foldl (fun t q => t.clear q j) s).get r i = s.get r i := by
  induction ws generalizing s with
  | nil => rfl
  | cons q ws ih =>
    rw [List.forall_mem_cons] at h
    exact (ih h.2).trans (get_clear_ne h.1)

/-- A field of the list reads its reset value where no other field of the list shares its key. -/
theorem get_clears {ws : List Reg} {r : Reg} {i : Nat} (hr : r ∈ ws) (h : ∀ q ∈ ws, q ≠ r → r.key i ≠ q.key i) :
    (ws.foldl (fun t q => t.clear q i) s).get r i = r.resetAt i % 2 ^ r.width := by
  induction ws generalizing s with
  | nil => cases hr
  | cons q ws ih =>
    rw [List.forall_mem_cons] at h
    by_cases hin : r ∈ ws
    · exact ih hin h.2
    · obtain rfl : r = q := (List.mem_cons.1 hr).resolve_right hin
      refine (get_clears_ne fun q hq => h.2 q hq ?_).trans (get_clear_self ..)
      rintro rfl
      exact hin hq

/-! ### A slot is released (R279, R290, R300) -/

theorem within_countAlarm {i : Nat} {was : Bool} : within Foot.countAlarm s (s.countAlarm i was) := fun _ =>
  Part.same_countAlarm Part.same_refl

/-- The fields of a tracker beside the samples of its window stand apart from them. -/
theorem trackerRegs_apart : ∀ q ∈ trackerRegs, q ≠ R.X_TR_N → sparesRegs [.reg q] [R.X_TR_N] = true := by
  have hall : trackerRegs.all (fun q => q == R.X_TR_N || sparesRegs [.reg q] [R.X_TR_N]) = true := by decide +kernel
  intro q hq hne
  have hone := List.all_eq_true.1 hall q hq
  rw [Bool.or_eq_true, beq_iff_eq] at hone
  exact hone.resolve_left hne

theorem window_key_ne {q : Reg} (hq : q ∈ trackerRegs) (hne : q ≠ R.X_TR_N) (i j : Nat) : R.X_TR_N.key i ≠ q.key j := by
  have hspares := List.all_eq_true.1 (trackerRegs_apart q hq hne) R.X_TR_N (by simp)
  rw [Bool.and_eq_true] at hspares
  have hoff := apart_keeps (by decide) hspares.2 i
  rw [keeps_cons, keeps_nil, Bool.and_true] at hoff
  exact Reg.off_ne hoff j

/-- A tracker with no alarm, no window and no baseline (R300). -/
def trackerReset (s : State) (i : Nat) : State := (trackerRegs.foldl (fun u r => u.clear r i) s).countAlarm i (s.alarmed i)

theorem window_trackerReset_self {i : Nat} : (s.trackerReset i).get R.X_TR_N i = 0 :=
  (within_countAlarm.get_at (by decide +kernel) i).trans (get_clears (by decide) fun q hq hne => window_key_ne hq hne i i)

theorem window_trackerReset_other {i j : Nat} (hi : i < 512) (hj : j < 512) (hne : j ≠ i) :
    (s.trackerReset j).get R.X_TR_N i = s.get R.X_TR_N i := by
  refine (within_countAlarm.get_at (by decide +kernel) i).trans (get_clears_ne fun q hq => ?_)
  by_cases hq' : q = R.X_TR_N
  · subst hq'
    refine key_ne (by decide) ?_
    change i % 512 ≠ j % 512
    omega
  · exact window_key_ne hq hq' i j

/-- The trackers of a released slot have no sample. -/
theorem window_engineRelease {n c : Nat} (hn : n < 64) (hc : c < 8) : (s.engineRelease n).get R.X_TR_N (8 * n + c) = 0 :=
  each_establishes (Q := fun t => t.get R.X_TR_N (8 * n + c) = 0) (f := fun c t => t.trackerReset (8 * n + c)) hc
    (fun _ => window_trackerReset_self) fun j _ hj hne ht =>
      (window_trackerReset_other (by omega) (by omega) (by omega)).trans ht

/-- The fields of the node of a slot. -/
def nodeRegs : List Reg :=
  [R.X_SLOT_ID, R.X_SLOT_FMT, R.X_SLOT_MASK, R.X_SLOT_MISSES, R.X_SLOT_LAST, R.X_SLOT_SEQ, R.X_SLOT_CYC, R.X_SLOT_POLLED, R.X_SLOT_CFG,
    R.X_SLOT_AMP_OK, R.LINE_SLOTs_STAT_STATE, R.LINE_SLOTs_STAT_PORT, R.LINE_SLOTs_STAT_CLASS, R.LINE_SLOTs_STAT_MISSED,
    R.LINE_SLOTs_STAT_BOUND, R.LINE_SLOTs_STAT_AMP]

theorem freeSlot_eq {n : Nat} : s.freeSlot n = (nodeRegs.foldl (fun t r => t.clear r n) (s.engineRelease n)).slotsFollow := rfl

theorem nodeRegs_apart : ∀ n : Fin 64, ∀ r ∈ [R.X_SLOT_ID, R.LINE_SLOTs_STAT_STATE], ∀ q ∈ nodeRegs, q ≠ r → r.key n ≠ q.key n := by
  decide +kernel

/-- Nothing of the node of a freed slot is kept. -/
theorem freeSlot_shows (n : Fin 64) : (s.freeSlot n).slotId n = 0 ∧ (s.freeSlot n).slotState n = 0 ∧
    ∀ c : Fin 8, (s.freeSlot n).get R.X_TR_N (8 * n + c) = 0 := by
  have hnode : ∀ r ∈ [R.X_SLOT_ID, R.LINE_SLOTs_STAT_STATE], (s.freeSlot n).get r n = r.resetAt n % 2 ^ r.width := by
    intro r hr
    have hkept : sparesRegs Foot.slotsFollow [R.X_SLOT_ID, R.LINE_SLOTs_STAT_STATE] = true := by decide +kernel
    have hin : r ∈ nodeRegs := by revert r; decide
    rw [freeSlot_eq, within_slotsFollow.gets hkept r hr]
    exact get_clears hin (nodeRegs_apart n r hr)
  refine ⟨hnode _ (by simp), hnode _ (by simp), fun c => ?_⟩
  have hclears : within (nodeRegs.map Touch.reg) (s.engineRelease n) (nodeRegs.foldl (fun t r => t.clear r n) (s.engineRelease n)) :=
    fun q hq => Part.same_clears Part.same_refl (by rwa [Machine.keeps, List.all_map] at hq)
  rw [freeSlot_eq, (hclears.trans within_slotsFollow).get_at (by decide +kernel)]
  exact window_engineRelease n.isLt c.isLt

/-- RELEASE_SLOT of a slot that is held, whose port sends no frame. -/
theorem lineRelease_idle {n : Nat} (hheld : s.slotId n ≠ 0) (hidle : s.get R.X_FRAME (s.get R.LINE_SLOTs_STAT_PORT n) = 0) :
    within [.reg R.X_LINE_LEFT] (((s.slotEvent 0x06 (s.get R.LINE_SLOTs_STAT_PORT n) n 0).slotCommand (s.get R.LINE_SLOTs_STAT_PORT n) n
      9).freeSlot n) (s.lineRelease n) := by
  unfold State.lineRelease
  dsimp only
  rw [if_neg hheld, if_neg (by simp [State.slotBusy, hidle])]
  exact within_setBit

theorem lineRelease_shows (n : Fin 64) (hheld : s.slotId n ≠ 0) (hidle : ∀ p : Fin 2, s.get R.X_FRAME p = 0) :
    (s.lineRelease n).slotId n = 0 ∧ (s.lineRelease n).slotState n = 0 ∧ ∀ c : Fin 8, (s.lineRelease n).get R.X_TR_N (8 * n + c) = 0 := by
  have hkept := lineRelease_idle hheld (hidle ⟨s.get R.LINE_SLOTs_STAT_PORT n, get_lt s R.LINE_SLOTs_STAT_PORT n⟩)
  obtain ⟨hid, hstate, htrackers⟩ := freeSlot_shows (s := (s.slotEvent 0x06 (s.get R.LINE_SLOTs_STAT_PORT n) n 0).slotCommand
    (s.get R.LINE_SLOTs_STAT_PORT n) n 9) n
  exact ⟨(hkept.get_at (by decide +kernel) n).trans hid, (hkept.get_at (by decide +kernel) n).trans hstate,
    fun c => (hkept.get_at (by decide +kernel) _).trans (htrackers c)⟩

/-! ### CONFIG_NODE (R290) -/

theorem lineConfig_accepted {n id value : Nat} (hn : n < 64) (hheld : s.slotId n ≠ 0)
    (hnone : (s.get R.X_SLOT_CFG n).testBit 24 = false) :
    s.lineConfig n id value = (s.set R.X_SLOT_CFG (2 ^ 24 + id * 65536 + value) n, 0x00) := by
  rw [State.lineConfig, if_neg (by simp [hheld]; omega), if_neg (by simp [hnone])]

/-! ### The state of a port and its host-off bit, of the same register file -/

theorem hostOff_of_fields (h : t.fields = s.fields) (p : Nat) : t.hostOff p = s.hostOff p := by
  simp only [State.hostOff, on_of_fields h]

theorem portState_of_fields (h : t.fields = s.fields) (p : Nat) : t.portState p = s.portState p := by
  simp only [State.portState, get_of_fields h]

end State

section
variable {s : State} {port : PortId} {tag : Byte}
open State

/-! ### The clauses of O28 -/

/-- What a LINE_CONTROL on a free port answers, whose action leaves the ports and the requests alone. -/
theorem gives_lineControl {c : Instr} {action : Nat} {args : List Byte} {f : State → State × Nat} {a : State × Nat}
    (hc : exec c s = .next (s.lineControl port tag action args f)) (hf : s.free port = true) (hlen : args.length = 4)
    (ha : f (s.heard port) = a) (hk : ∀ c ∈ [Comp.tw, .qb, .requests], (Part.comp c).same (s.heard port) a.1) :
    Gives (exec c s) (fun t => t.replied port a.2 tag [] ∧ t.fields = a.1.fields) :=
  gives_serve (a := State.answers a) hc hf (by decide) (by simp [lengthOk, length_le, hlen]) (congrArg State.answers ha) hk

/-- The clause of O28 on PORT_ON. -/
theorem portOn_gives {mask : Fin 256} {others : Fin 16777216} (hf : s.free port = true) :
    Gives (exec (.portOn port tag mask others) s) (fun t =>
      t.replied port 0x00 tag [] ∧ (∀ p : Fin 2, mask.val.testBit p → t.hostOff p = false)) := by
  obtain ⟨t, ht, hreply, hfields⟩ := gives_lineControl (c := .portOn port tag mask others) rfl hf (by simp [length_le]) rfl
    fun c hc => Part.same_linePortOn Part.same_refl (by revert c; decide +kernel)
  exact ⟨t, ht, hreply, fun p hp => (hostOff_of_fields hfields p).trans (hostOff_linePortOn hp)⟩

/-- The clause of O28 on PORT_OFF. -/
theorem portOff_gives {mask : Fin 256} {others : Fin 16777216} (hf : s.free port = true) :
    Gives (exec (.portOff port tag mask others) s) (fun t =>
      t.replied port 0x00 tag [] ∧ (∀ p : Fin 2, mask.val.testBit p → t.hostOff p ∧ t.portState p = (if s.portState p = 6 then 6 else
        0) ∧ t.bit R.X_POLL p = false)) := by
  obtain ⟨t, ht, hreply, hfields⟩ := gives_lineControl (c := .portOff port tag mask others) rfl hf (by simp [length_le]) rfl
    fun c hc => Part.same_linePortOff Part.same_refl (by revert c; decide +kernel)
  refine ⟨t, ht, hreply, fun p hp => ?_⟩
  obtain ⟨hhost, hstate, hpoll⟩ := stoppedFrom_linePortOff (s := s.heard port) hp
  rw [within_heard.portState (by decide +kernel)] at hstate
  refine ⟨(hostOff_of_fields hfields p).trans hhost, (portState_of_fields hfields p).trans hstate, ?_⟩
  rw [State.bit, get_of_fields hfields]
  exact hpoll

/-- The clause of O28 on ENUMERATE. -/
theorem enumerate_gives {mask : Fin 256} {others : Fin 16777216} (hf : s.free port = true) :
    Gives (exec (.enumerate port tag mask others) s) (fun t =>
      t.replied port 0x00 tag [] ∧ (∀ p : Fin 2, mask.val.testBit p → t.get R.X_ENUM p = 2)) := by
  obtain ⟨t, ht, hreply, hfields⟩ := gives_lineControl (c := .enumerate port tag mask others) rfl hf (by simp [length_le]) rfl
    fun c hc => Part.same_lineEnumerate Part.same_refl (by revert c; decide +kernel)
  exact ⟨t, ht, hreply, fun p hp => (get_of_fields hfields _ p).trans (enum_lineEnumerate hp)⟩

/-- The clause of O28 on RELEASE_SLOT. -/
theorem releaseSlot_gives {others : Fin 16777216} (hf : s.free port = true) (hheld : s.slotId 9 ≠ 0) (hidle0 : s.get R.X_FRAME 0 = 0)
    (hidle1 : s.get R.X_FRAME 1 = 0) : Gives (exec (.releaseSlot port tag 9 others) s) (fun t =>
      t.replied port 0x00 tag [] ∧ t.slotId 9 = 0 ∧ t.slotState 9 = 0 ∧ (∀ c : Fin 8, t.get R.X_TR_N (72 + c) = 0)) := by
  have hstill : (s.heard port).slotId 9 = s.slotId 9 := get_heard (by decide +kernel)
  have hidle : ∀ p : Fin 2, (s.heard port).get R.X_FRAME p = 0 := by
    intro p
    rw [within_heard.get_at (by decide +kernel)]
    fin_cases p
    · exact hidle0
    · exact hidle1
  obtain ⟨hid, hstate, htrackers⟩ := lineRelease_shows (s := s.heard port) 9 (by rwa [← hstill] at hheld) hidle
  obtain ⟨t, ht, hreply, hfields⟩ := gives_lineControl (c := .releaseSlot port tag 9 others) rfl hf (by simp [length_le])
    (if_neg (by decide)) fun c hc => Part.same_lineRelease Part.same_refl (by revert c; decide +kernel)
  have hget := get_of_fields hfields
  exact ⟨t, ht, hreply, (hget _ _).trans hid, (hget _ _).trans hstate, fun c => (hget _ _).trans (htrackers c)⟩

/-- The clause of O28 on CONFIG_NODE. -/
theorem configNode_gives {slot id : Fin 256} {value : Fin 65536} (hf : s.free port = true) (hslot : slot.val < 64)
    (hheld : s.slotId slot ≠ 0) (hnone : (s.get R.X_SLOT_CFG slot).testBit 24 = false) :
    Gives (exec (.configNode port tag slot id value) s) (fun t =>
      t.replied port 0x00 tag [] ∧ t.get R.X_SLOT_CFG slot = 2 ^ 24 + id.val * 65536 + value.val) := by
  have hstill : (s.heard port).slotId slot = s.slotId slot := within_heard.get_at (by decide +kernel) slot
  have hcfg : (s.heard port).get R.X_SLOT_CFG slot = s.get R.X_SLOT_CFG slot := within_heard.get_at (by decide +kernel) slot
  obtain ⟨t, ht, hreply, hfields⟩ := gives_lineControl (c := .configNode port tag slot id value) rfl hf (by simp [length_le])
    (lineConfig_accepted hslot (by rwa [hstill]) (by rwa [hcfg])) fun c hc => within_set _ (by revert c; decide)
  exact ⟨t, ht, hreply, (get_of_fields hfields _ _).trans (get_set_fit _ (show _ < 33554432 by omega))⟩

/-- The clause of O28 on NODE_INFO. -/
theorem nodeInfo_gives {slot : Fin 256} (hf : s.free port = true) (hslot : slot.val < 64) :
    Gives (exec (.nodeInfo port tag slot) s) (fun t =>
      t.replied port 0x00 tag ((s.heard port).nodeInfo slot) ∧ t.slotId slot = s.slotId slot) := by
  obtain ⟨t, ht, hreply, hfields⟩ := gives_serve (c := .nodeInfo port tag slot) rfl hf (by decide) (by simp [lengthOk, length_le])
    (if_neg (by omega)) (ports_refl _)
  exact ⟨t, ht, hreply, (get_of_fields hfields _ _).trans (within_heard.get_at (by decide +kernel) slot)⟩

/-- Settles O28: each clause is the lemma on its command, on the state in which the interpreter finds the request. -/
theorem hostLine : Obligations.HostLine := by
  refine ⟨?_, ?_, ?_, ?_, ?_, ?_⟩
  · exact fun s port tag mask others hf => portOn_gives hf
  · exact fun s port tag mask others hf => portOff_gives hf
  · exact fun s port tag mask others hf => enumerate_gives hf
  · rintro s port tag slot others ⟨hf, rfl, hheld, hidle0, hidle1⟩
    exact releaseSlot_gives hf hheld hidle0 hidle1
  · rintro s port tag slot id value ⟨hf, hslot, hheld, hnone⟩
    exact configNode_gives hf hslot hheld hnone
  · rintro s port tag slot ⟨hf, hslot⟩
    exact nodeInfo_gives hf hslot

end
end Sys2Proof.Machine
end
